-- ==== Sys2Proof/Word.lean ====
section
/-!
DEFINITION. The sparse table that holds every numbered collection of the module, and its three plain
operations. A table is a list of (number, value) pairs with strictly rising numbers; a number that is not
listed holds the default that its reader names.
-/

set_option Elab.async false

namespace Sys2Proof

/-- A sparse table by object number: strictly rising numbers, one value each. -/
abbrev Tbl (α : Type) := List (Nat × α)

/-- The value at a number, or the default where the number is not listed. -/
def Tbl.look {α : Type} : Tbl α → Nat → α → α
  | [], _, d => d
  | (j, v) :: r, k, d => if j = k then v else Tbl.look r k d

/-- Whether a number is listed. -/
def Tbl.has {α : Type} : Tbl α → Nat → Bool
  | [], _ => false
  | (j, _) :: r, k => j == k || Tbl.has r k

/-- Write a value at a number, keeping the numbers rising. -/
def Tbl.put {α : Type} : Tbl α → Nat → α → Tbl α
  | [], k, v => [(k, v)]
  | (j, w) :: r, k, v =>
    if j = k then (k, v) :: r
    else if k < j then (k, v) :: (j, w) :: r
    else (j, w) :: Tbl.put r k v

/-- Remove a number. -/
def Tbl.del {α : Type} : Tbl α → Nat → Tbl α
  | [], _ => []
  | (j, w) :: r, k => if j = k then r else (j, w) :: Tbl.del r k

end Sys2Proof
end

