-- ==== Sys2Proof/Formats.lean ====
section
/-!
DEFINITION. The formats of what reaches the module from outside, as far as its rules read them: TLP headers, Beryl
frames, work requests, control words of flits. A field's comment gives its width and the rule that names it.
-/

namespace Sys2Proof

/-- Kinds of TLP that the module's rules tell apart (R255, R303). -/
inductive TlpOp where
  | memRead | memWrite | atomic | config | message | completion | io
deriving DecidableEq, Repr

/-- The header fields of a TLP that the module's rules read (chapters 08, 09). -/
structure Tlp where
  /-- Request or completion kind. (6 values; 08 R255, 09 R303). -/
  op : TlpOp := .memRead
  /-- Address. (64 bit; 09 R302). -/
  addr : Nat := 0
  /-- Length in bytes. (bytes; 09 R302). -/
  len : Nat := 0
  /-- Requester ID. (16 bit; 08 R279). -/
  reqId : Nat := 0
  /-- Tag. (14 bit; 08 R279). -/
  tagNo : Nat := 0
  /-- PASID prefix. (20 bit; 09 R305). -/
  pasid : Option Nat := none
  /-- Selective IDE prefix. (1 bit; 06 R201). -/
  selIde : Bool := false
  /-- Transaction index. (18 bit; 10 R349). -/
  xid : Option Nat := none
  /-- Completer ID of a completion. (16 bit; 08 R280). -/
  cplId : Nat := 0
  /-- Completion status: 0 successful, 1 Unsupported Request, 4 Completer Abort. (3 bit; 08 R280). -/
  status : Nat := 0
  /-- The completion carries the last byte. (1 bit; 08 R280). -/
  cplLast : Bool := true
  /-- Logical-device number of a CXL multi-logical device. (4 bit; 08 R256). -/
  ld : Nat := 0
  /-- Address Type field: nonzero is not an untranslated request. (2 bit; 08 R273). -/
  addrType : Nat := 0
  /-- Relaxed ordering attribute. (1 bit; 07 R211). -/
  relaxed : Bool := false
  /-- No Snoop attribute, which passes unchanged. (1 bit; 10 R345). -/
  noSnoop : Bool := false
  /-- Poisoned bit of the TLP, which passes unchanged. (1 bit; 10 R345). -/
  ep : Bool := false
  /-- Traffic class, which passes unchanged. (3 bit; 10 R345). -/
  tc : Nat := 0
  /-- Kind of an AtomicOp: 0 FetchAdd, 1 Swap, 2 compare and swap. (2 bit; 09 R303, 10 R345). -/
  atop : Nat := 0
  /-- Bytes that later completions of the request still carry. (bytes; 10 R345). -/
  more : Nat := 0
  /-- Data of a memory write, an AtomicOp or a completion, its bytes as one number. (up to 4,096 B; 10 R345). -/
  payload : Nat := 0
  /-- ID-based ordering attribute. (1 bit; 07 R211). -/
  ido : Bool := false
  /-- A configuration or I/O request is a write. (1 bit; 08 R255). -/
  write : Bool := false
  /-- A configuration request is of Type 0, else of Type 1. (1 bit; 08 R255). -/
  cfg0 : Bool := false
  /-- Data of a configuration request or completion, or the first data word of a message. (32 bit; 08 R255, R262). -/
  data : Nat := 0
  /-- Message code. (8 bit; 06 R191). -/
  msg : Nat := 0
  /-- Routing field of a message. (3 bit; 06 R191, 08 R254). -/
  msgRoute : Nat := 0
deriving DecidableEq, Repr

/-- Bytes of data that a TLP carries (R694). -/
def Tlp.dataBytes (t : Tlp) : Nat :=
  match t.op with
  | .memWrite | .atomic | .message => t.len
  | .completion => if t.status = 0 then t.len else 0
  | .config | .io => if t.write then 4 else 0
  | .memRead => 0

/-- Channels of CXL.mem and CXL.cache, which the CXL Specification names (R694). PRESUMED: log entry 6. -/
inductive CxlChannel where
  | m2sReq | m2sRwD | m2sBIRsp | s2mBISnp | s2mNDR | s2mDRS | d2hReq | d2hRsp | d2hData | h2dReq | h2dRsp | h2dData
deriving DecidableEq, Repr

/-- One work request (chapter 13). -/
structure Wr where
  /-- Opcode. (8 bit; 13 R440). -/
  op : Nat := 0
  /-- Completion entry on success. (1 bit; 13 R440). -/
  signaled : Bool := false
  /-- Fence. (1 bit; 13 R440). -/
  fence : Bool := false
  /-- Count at the peer. (1 bit; 13 R440). -/
  countRemote : Bool := false
  /-- Count here. (1 bit; 13 R440). -/
  countLocal : Bool := false
  /-- Trigger tag. (16 bit; 13 R440). -/
  tagNo : Nat := 0
  /-- Trigger kind. (8 bit; 13 R440). -/
  trigKind : Nat := 0
  /-- Trigger value. (32 bit; 13 R440). -/
  trigValue : Nat := 0
  /-- exec_qp. (17 bit; 13 R440). -/
  execQp : Nat := 0
  /-- Length. (32 bit; 13 R440). -/
  length : Nat := 0
  /-- Local key. (32 bit; 13 R440). -/
  lkey : Nat := 0
  /-- Remote key. (32 bit; 13 R440). -/
  rkey : Nat := 0
  /-- Local address. (64 bit; 13 R440). -/
  laddr : Nat := 0
  /-- Remote address. (64 bit; 13 R440). -/
  raddr : Nat := 0
  /-- operand1. (64 bit; 13 R440). -/
  op1 : Nat := 0
  /-- operand2. (64 bit; 13 R440). -/
  op2 : Nat := 0
  /-- wr_id. (64 bit; 13 R440). -/
  wrId : Nat := 0
deriving DecidableEq, Repr

/-- One Beryl frame (chapter 13). -/
structure BFrame where
  /-- Frame opcode. (8 bit; 13 R457). -/
  op : Nat := 0
  /-- First segment. (1 bit; 13 R456). -/
  first : Bool := false
  /-- Last segment. (1 bit; 13 R456). -/
  last : Bool := false
  /-- Acknowledge at once. (1 bit; 13 R456). -/
  ackReq : Bool := false
  /-- Count flag. (1 bit; 13 R456). -/
  countFlag : Bool := false
  /-- Mark echo. (1 bit; 13 R456). -/
  markEcho : Bool := false
  /-- The trunk header carried the congestion mark. (1 bit; 13 R469). -/
  marked : Bool := false
  /-- Class B0 to B3 of the trunk header. (2 bit; 13 R457). -/
  cls : Nat := 0
  /-- Destination queue pair. (17 bit; 13 R456). -/
  dstQp : Nat := 0
  /-- Source queue pair. (17 bit; 13 R456). -/
  srcQp : Nat := 0
  /-- Source edge of the trunk header. (12 bit; 13 R449). -/
  srcEdge : Nat := 0
  /-- Source domain. (12 bit; 13 R456). -/
  srcDomain : Nat := 0
  /-- PSN. (24 bit; 13 R456). -/
  psn : Nat := 0
  /-- Trigger tag. (16 bit; 13 R456). -/
  tagNo : Nat := 0
  /-- Syndrome. (8 bit; 13 R456). -/
  syndrome : Nat := 0
  /-- Remote key. (32 bit; 13 R456). -/
  rkey : Nat := 0
  /-- Address or offset. (64 bit; 13 R456). -/
  addr : Nat := 0
  /-- Length field. (32 bit; 13 R456). -/
  length : Nat := 0
  /-- Bytes of data carried. (0 to 4,064; 13 R452). -/
  dataLen : Nat := 0
  /-- The data, its bytes as one number. (up to 4,064 B; 13 R456). -/
  data : Nat := 0
deriving DecidableEq, Repr

/-- What the first cell of a frame tells (R205, R209, R237, R344). -/
structure Head where
  /-- Whole size of the frame. (bytes; 07 R205). -/
  size : Nat := 1
  /-- 0 TLP, 1 Beryl frame, 2 Posted Write Fault, 3 CXL.mem or CXL.cache message. (0 to 3; 07 R209, 10 R344). -/
  kind : Nat := 0
  /-- Header of a TLP or CXL message. (header; 08 R255). -/
  tlp : Tlp := {}
  /-- Header of a Beryl frame. (header; 13 R456). -/
  beryl : BFrame := {}
  /-- Bulk class B0 to B3 of a Beryl frame. (0 to 3; 07 R209). -/
  cls : Nat := 0
  /-- Response channel of a trunk frame, or a CXL response. (1 bit; 07 R225, 10 R344). -/
  response : Bool := false
  /-- Congestion mark of the trunk header. (1 bit; 07 R235). -/
  marked : Bool := false
  /-- Poison bit of the trunk header. (1 bit; 10 R344). -/
  poisoned : Bool := false
  /-- Source edge of the trunk header. (12 bit; 10 R344). -/
  src : Nat := 0
  /-- Destination edge of the trunk header, or of an engine's frame. (12 bit; 10 R344). -/
  dst : Nat := 0
  /-- Flow label of the trunk header. (32 bit; 10 R344). -/
  flow : Nat := 0
  /-- Age of the trunk header in beats. (12 bit; 10 R344). -/
  age : Nat := 0
  /-- Egress port of an engine's TLP or CXL frame. (0 to 176; 07 R210). -/
  port : Nat := 0
  /-- Cause that the payload of a Posted Write Fault carries. (8 bit; 07 R237). -/
  cause : Nat := 0
  /-- A CXL.cache message, not CXL.mem. (1 bit; 06 R189, 07 R209). -/
  cache : Bool := false
  /-- The words of a trunk frame after its header, as they have arrived. (words; 10 R343). -/
  words : List Nat := []
deriving DecidableEq, Repr

/-- The ingress checks of a whole frame (R222). -/
structure Checks where
  /-- LCRC or trunk frame check passes. (1 bit; 07 R222). -/
  linkOk : Bool := true
  /-- Not nullified and not aborted. (1 bit; 07 R222). -/
  whole : Bool := true
  /-- The link IDE integrity check passes. (1 bit; 07 R222). -/
  ideOk : Bool := true
  /-- Its length is the header's. (1 bit; 07 R222). -/
  lengthOk : Bool := true
deriving DecidableEq, Repr

/-- The bytes of a flit on the wire, in the order of R337. -/
abbrev Wire := Vector (BitVec 8) 272

/-- A flit's control word (R340). -/
structure Control where
  /-- The CRC-16 passes. (1 bit; 10 R340). -/
  crcOk : Bool := true
  /-- ack_valid. (1 bit; 10 R340). -/
  ackValid : Bool := false
  /-- ack_seq. (12 bit; 10 R340). -/
  ackSeq : Nat := 0
  /-- replay_req. (1 bit; 10 R340). -/
  replayReq : Bool := false
  /-- onoff, bits 113 to 110. (4 bit; 10 R340). -/
  onoff : Nat := 0
  /-- first_start. (5 bit; 10 R340). -/
  firstStart : Nat := 31
  /-- abort_at. (5 bit; 10 R340). -/
  abortAt : Nat := 31
  /-- word_valid. (30 bit; 10 R340). -/
  wordValid : Nat := 0
  /-- probe. (8 bit; 10 R340). -/
  probe : Nat := 0
  /-- probe_echo. (8 bit; 10 R340). -/
  probeEcho : Nat := 0
  /-- node. (8 bit; 10 R340). -/
  node : Nat := 0
  /-- node_port. (8 bit; 10 R340). -/
  nodePort : Nat := 0
  /-- quiet. (1 bit; 10 R340). -/
  quiet : Bool := false
deriving DecidableEq, Repr

/-- The path on which an ADP message arrives (R640, R534): a management segment or a hierarchy's mailbox. -/
inductive AdpPath where
  | segmentA | segmentB | mailbox (vh : Fin 64)
deriving DecidableEq, Repr

/-- What the header of an ADP message carries, and whether its authentication tag verifies (R645, R646). -/
structure AdpHead where
  /-- Path on which it arrives. (3 kinds; 19 R644). -/
  path : AdpPath := .segmentA
  /-- Protocol version. (8 bit; 19 R645). -/
  version : BitVec 8 := 1#8
  /-- Session number. (32 bit; 19 R645). -/
  session : Nat := 0
  /-- Sequence number. (48 bit; 19 R645). -/
  seq : Nat := 0
  /-- Reference set by the client. (16 bit; 19 R645). -/
  ref : Nat := 0
  /-- The authentication tag verifies. (1 bit; 19 R646). -/
  tagOk : Bool := true
  /-- The op is one that R655 lists for a client and the body has the form of that op. (1 bit; 19 R655, R656). -/
  bodyOk : Bool := true
deriving DecidableEq, Repr

/-- One item of a READ or WRITE (R657). -/
structure AdpItem where
  /-- Index. (16 bit; 19 R657). -/
  index : Nat := 0
  /-- Subindex. (8 bit; 19 R657). -/
  sub : Nat := 0
  /-- Type code of the value. (8 bit; 19 R657). -/
  code : Nat := 0
  /-- Value length in bytes. (16 bit; 19 R657). -/
  len : Nat := 0
  /-- Value, its bytes as one number, most significant byte first. (bytes; 19 R657). -/
  value : Nat := 0
deriving DecidableEq, Repr

/-- How a Garnet frame arrives (R618). -/
structure GarnetHead where
  /-- The header: kind, sequence number, length, info and its CRC. (64 bit; 18 R618). -/
  header : BitVec 64 := 0#64
  /-- The check word. (64 bit; 18 R618). -/
  check : BitVec 64 := 0#64
  /-- Time of arrival. (ns; 10 R362). -/
  now : Nat := 0
deriving DecidableEq, Repr

/-- A beat frame of the Garnet link (R618, R627): its header, the time that it carries, and the number of records before it. -/
structure BeatFrame where
  head : GarnetHead
  stamp : BitVec 64
  records : BitVec 32
deriving DecidableEq, Repr

/-- State of one direction of a lane (R155). -/
inductive LaneDir where
  | on | quickIdle | deepIdle | off
deriving DecidableEq, Repr

/-- The home's names of the messages that a host sends to a shared region (R396). -/
inductive CxlOp where
  | rds | rdown | own | rdcur | evc | evd | wr | wbkeep
deriving DecidableEq, Repr

/-- One mirror record (chapter 18). -/
structure Record where
  /-- Order number of the record. (order; 18 R620). The model's own field. -/
  number : Nat := 0
  /-- Kind of R619. (5 bit; 18 R619). -/
  kind : Nat := 0
  /-- Header fields in the order of the table. (header fields; 18 R619). -/
  fields : List Nat := []
  /-- Payload words. (0 to 7 words; 18 R619). -/
  payload : List Nat := []
deriving DecidableEq, Repr

/-- What a configuration request reaches (R252, R255, R380): a virtual bridge, the management function, a pool endpoint, or
what stands below a bound bridge. -/
inductive CfgPlace where
  | upstream | bridge (b : Nat) | function | endpoint (e : Nat) | below
deriving DecidableEq, Repr

/-- A field of a configuration space that the module's rules read, with the value that a write carries; the register
places are the PCIe Base Specification's (R254, R525; log entry 6). -/
inductive CfgField where
  /-- Secondary and subordinate bus numbers of a bridge, with its own primary bus. -/
  | busNumbers (primary secondary subordinate : BitVec 8)
  /-- Memory window of a bridge. -/
  | memWindow (base limit : BitVec 64)
  /-- Prefetchable memory window of a bridge. -/
  | prefWindow (base limit : BitVec 64)
  /-- I/O window of a bridge. -/
  | ioWindow (base limit : BitVec 32)
  /-- Bridge Control, but for Secondary Bus Reset, whose write is the row SECONDARY_BUS_RESET. -/
  | bridgeControl (value : BitVec 16)
  /-- ACS Control. -/
  | acs (control : BitVec 16)
  /-- DPC Control: Trigger Enable, Completion Control selecting Unsupported Request, Interrupt Enable. -/
  | dpc (enable ur interrupt : Bool)
  /-- Link Control: ASPM states enabled and Link Disable. -/
  | linkControl (aspm : BitVec 4) (disable : Bool)
  /-- Change bits of Slot Status, the Surprise Down bit and AER status, cleared by ones: presence, link, attention button, MRL, power fault, Command Completed. -/
  | slotStatus (presence link attention mrl power command : Bool)
  /-- Slot Control, whose write is the row SLOT_CONTROL_WRITE. -/
  | slotControl
  /-- Slot Capabilities, which only reads. -/
  | slotCapabilities
  /-- AER uncorrectable and correctable status, cleared by ones. -/
  | aer (unc cor : BitVec 32)
  /-- AER masks, and the severity of the uncorrectable errors. -/
  | aerControl (uncMask uncSeverity corMask : BitVec 32)
  /-- Command register: I/O Space, Memory Space and Bus Master Enable. -/
  | command (io memory busMaster : Bool)
  /-- Device Control: maximum payload and read request sizes. -/
  | sizes (payload readRequest : BitVec 3)
  /-- Device Capabilities: the maximum payload size supported, which only reads. -/
  | deviceCapabilities
  /-- Vendor and Device ID, Revision ID, class code and Subsystem IDs, which only read. -/
  | identity
  /-- Header Type, which only reads. -/
  | headerType
  /-- BAR0, BAR2 and BAR4 of the management function; BAR0 of a pool endpoint. -/
  | bars (bar0 bar2 bar4 : BitVec 64)
  /-- MSI-X Message Control: enable and Function Mask. -/
  | msix (enable mask : Bool)
  /-- MSI: enable, messages as a power of two, mask bits, address, data; of a bridge, its enable, address and data. -/
  | msi (enable : Bool) (log2 : Fin 6) (mask : BitVec 32) (address : BitVec 64) (data : BitVec 16)
  /-- PASID Control: enable. -/
  | pasid (enable : Bool)
  /-- Device Control 2 and 3: AtomicOp Requester, 10-Bit and 14-Bit Tag Requester Enable. -/
  | deviceControl (atomic tag10 tag14 : Bool)
  /-- Power management control: PME_En, and PME_Status cleared by one. -/
  | pmControl (pmeEn clearStatus : Bool)
  /-- Any other register. -/
  | other (register : BitVec 12)
deriving DecidableEq, Repr

/-- The sideband inputs whose levels are filtered: those of a lane group, and GARNET_PRSNT_N (R48, R629). -/
inductive Sideband where
  | perst | prsnt | wake | clkreq | garnetPrsnt
deriving DecidableEq, Repr

/-- A register of a management function's BAR0 or BAR2 that has no command of its own, with the value written. -/
inductive HostReg where
  /-- event_cause: ones clear (R529). -/
  | eventCause (ones : BitVec 32)
  /-- errq_consumer (R530). -/
  | errqConsumer (index : BitVec 32)
  /-- cmd_status of a slot: done is cleared (R531). -/
  | cmdDone (slot : Fin 16)
  /-- errq_base, beside errq_log2 as it stands (R530). -/
  | errqBase (address : BitVec 64)
  /-- errq_log2, beside errq_base as it stands (R530). -/
  | errqLog2 (n : BitVec 32)
  /-- A parameter word of a command slot (R531). -/
  | cmdWord (slot : Fin 16) (word : Fin 7) (value : BitVec 64)
  /-- req_len of mbox_ctrl, with submit clear (R534). -/
  | mboxLength (n : BitVec 13)
  /-- 8 B of mbox_request (R528). -/
  | mboxRequest (cell : Fin 512) (value : BitVec 64)
  /-- MSI-X table entry of a vector (R541). -/
  | msixEntry (vector : Fin 64) (address : BitVec 64) (data : BitVec 32) (mask : Bool)
  /-- fn_moderation of a vector (R528, R545). -/
  | fnModeration (vector : Fin 64) (count : BitVec 8) (timer : BitVec 16)
  /-- db_mask of a doorbell channel (R316, R536). -/
  | dbMask (channel : Fin 1024) (value : BitVec 32)
  /-- An interrupt-message-store entry (R542). -/
  | storeEntry (vector : Fin 8192) (address : BitVec 64) (data : BitVec 32) (mask : Bool) (count : BitVec 8) (timer : BitVec 16)
  /-- evq_consumer of an instance page (R537). -/
  | evqConsumer (slot : Fin 256) (index : BitVec 32)
  /-- idle_hint of an instance page (R537, R547). -/
  | idleHint (slot : Fin 256) (idle : Bool)
  /-- A write of a form that no register accepts (R527). -/
  | badForm
deriving DecidableEq, Repr

/-- A write that has no command of its own (R674): a setting or selector of the dictionary, a host register, or a register of
the interrupt controller or the collector in the management address space. -/
inductive RegWrite where
  /-- A dictionary entry and its value. -/
  | entry (index : BitVec 16) (sub : BitVec 8) (value : Nat)
  /-- A register of the management function of a hierarchy (R528, R537). -/
  | host (v : Fin 64) (reg : HostReg)
  /-- 4 B of enable[k] (R569). -/
  | irqEnable (k : Fin 4) (word : Fin 16) (value : BitVec 32)
  /-- config[s] of the collector (R604). -/
  | config (src : Fin 1024) (value : BitVec 64)
  /-- status[s] of the collector (R604). -/
  | status (src : Fin 1024) (value : BitVec 64)
  /-- The force register of the collector (R604). -/
  | force (value : BitVec 64)
  /-- A write of a form that the collector or the interrupt controller does not accept (R569, R604). -/
  | ignored
deriving DecidableEq, Repr

/-- The readings of the eight die sensors, in 0.1 degree C, as two's complement numbers (R71). -/
abbrev Readings := Vector (BitVec 32) 8

/-- What a link partner shows in training (R187, R189, R197): flit mode, its CXL version (0 none, 1 CXL 1.1 only, 2 CXL 2.0, 3
CXL 3.1), the protocols it offers, L0p, and scaled flow control (R694). -/
structure Partner where
  flit : Bool
  cxl : Fin 4
  offers : BitVec 8
  l0p : Bool
  scaled : Bool
deriving DecidableEq, Repr

/-- A link partner's reference clock (R186): its deviation in ppm, and whether it is spread. -/
structure RefClock where
  ppm : BitVec 16
  spread : Bool
deriving DecidableEq, Repr

/-- An edge of MODRST_N (R64): the level after it, and for how many milliseconds the pin was low before a rising one. -/
structure ModrstEdge where
  high : Bool
  ms : Nat
deriving DecidableEq, Repr

/-- A training block as received (R149, R150): its control word, and the levels of a stretch of its PRBS symbols. -/
structure TrainBlock where
  word : BitVec 64
  prbs : List (Fin 4)
deriving DecidableEq, Repr

/-- What a receiver wants of its partner's transmitter (R150): the code of a request, 0 for none, and a preset. -/
structure LaneWish where
  ask : Fin 9
  preset : Fin 8
deriving DecidableEq, Repr

/-- The stages of a receiver's equalizer (R144): peaking, gain, the decision feedback of NRZ and the feed-forward taps of
PAM4. -/
inductive EqStage where
  | peaking | gain | dfe | ffe
deriving DecidableEq, Repr

/-- The path of a frame that starts (R99): the ports at which it enters and leaves. -/
structure FramePath where
  ingress : Fin 177
  egress : Fin 177
deriving DecidableEq, Repr

/-- What the cell store's ECC finds in a cell time (R241, R242): the banks with a corrected error, and frames with an
uncorrectable one, each with whether its header is struck and the bank. -/
structure CellErrors where
  corrected : List (Fin 64)
  bad : List (Nat × Bool × Fin 64)
deriving DecidableEq, Repr

/-- Where a stalled frame is looked for (R220): the egress, and the cell time in the beat. -/
structure StallPoint where
  egress : Fin 160
  cellTime : Fin 128
deriving DecidableEq, Repr

/-- The indicator fields of Slot Control (R268): attention and power, 1 on, 2 blink, 3 off. -/
structure Indicators where
  attn : Fin 4
  pwr : Fin 4
deriving DecidableEq, Repr

/-- A line of 64 B that is written, with the mask of the bytes that it carries (R381, R411). -/
structure LineData where
  data : BitVec 512
  mask : BitVec 64
deriving DecidableEq, Repr

/-- How a coherence request names itself (R396): its tag, and whether it has a form that R396 does not list. -/
structure CohTag where
  tag : BitVec 16
  unlisted : Bool
deriving DecidableEq, Repr

/-- A host's write to a line (R396, R411), and whether its opcode is one that R396 does not list. -/
structure LineWrite where
  line : LineData
  unlisted : Bool
deriving DecidableEq, Repr

/-- What a link partner returns of the credit of a class (R212): headers, and units of 16 B of data. -/
structure Credit where
  headers : Nat
  data : Nat
deriving DecidableEq, Repr

/-- An event record of a member device (R381): the device address that it names, and its 64 B. -/
structure DeviceEvent where
  dpa : BitVec 64
  body : BitVec 512
deriving DecidableEq, Repr

/-- A transmitter setting that a PCIe partner asks for in equalization (R143): a preset, or the coefficients c-2, c-1, c0 and
c+1. -/
inductive PcieEq where
  | preset (n : Fin 11)
  | coeffs (cm2 cm1 c0 cp1 : BitVec 8)
deriving DecidableEq, Repr

/-- What training sets carry beside the stage and the lanes left out (R143, R148): the lanes received inverted, and the setting
that the partner asks one lane for. -/
structure TrainSets where
  inverted : BitVec 16
  eq : Option (Fin 16 × PcieEq)
deriving DecidableEq, Repr

/-- An SPDM request to the management function (R525): the version, a piece of a slot's certificate chain, or any other. -/
inductive Spdm where
  | version | certificate (slot : Fin 8) (piece : BitVec 16) | other
deriving DecidableEq, Repr

/-- The body of a DOE request (R525): the index that a discovery names, and the SPDM request. -/
structure DoeBody where
  index : Fin 256
  spdm : Spdm
deriving DecidableEq, Repr

/-- An error in management SRAM (R560, R563): corrected, uncorrectable in shared code or data, or uncorrectable in a core's
local memory. -/
inductive SramError where
  | corrected | shared | coreLocal (k : Fin 4)
deriving DecidableEq, Repr

end Sys2Proof
end

