-- ==== Sys2Proof/Syntax.lean ====
section
/-!
DEFINITION. Syntax: the commands that reach the module, one constructor per row of the opcode table, with the operands that
carry what the rule of the row leaves to the outside: numbers of objects, values written, results of physics or cryptography.
The constructors without operands stand last.
-/

namespace Sys2Proof

/-- A command of the block (spec/opcode_table.json). -/
inductive Instr where
  /-- EPOCH_RELEASE (R36): A superseded epoch whose in-flight count has drained to zero is released at step 2, and its
  tables stop being retained. -/
  | epochRelease (tag : Fin 4)
  /-- COMMIT_REQUEST (R28): A non-zero token written to D:1210.01 is accepted, the shadow is locked and the commit
  state becomes Pending. -/
  | commitRequest (token : BitVec 32) (cycle : Fin 256)
  /-- SHADOW_DISCARD (R35): Writing 1 to D:1210.07 copies the live tables into the shadow and discards the staged
  changes, or is refused as busy. -/
  | shadowDiscard (one : Bool)
  /-- SIDEBAND_LEVEL_ACCEPTED (R48): A sideband input level that has been stable for 8 beats is accepted. -/
  | sidebandLevelAccepted (n : Fin 40) (signal : Sideband) (high : Bool)
  /-- PERST_CONTENTION_CHECK (R51): 8 beats after a group takes downstream role, the module either drives PERST_N low
  or reports contention and keeps the ports disabled. -/
  | perstContentionCheck (n : Fin 40) (high : Bool)
  /-- I2C_POLL_SLOT (R56): Every 1,024 beats each I2C segment starts one transaction, either a poll of both input
  registers or the pending output write. -/
  | i2cPollSlot (n : Fin 40) (sdaLow : Bool)
  /-- I2C_POLL_DONE (R266): A completed poll updates the input levels, and a change accepted by it is converted at the
  next beat boundary. -/
  | i2cPollDone (n : Fin 40) (inputs : BitVec 16)
  /-- I2C_WRITE_ACKED (R268): The expander acknowledges an output write, which raises Command Completed and can start
  training of the slot's port. -/
  | i2cWriteAcked (n : Fin 40)
  /-- I2C_TRANSACTION_FAILED (R57): A NACK or SDA held low fails the transaction, which the module recovers with nine
  clocks and a stop and then retries. -/
  | i2cTransactionFailed (n : Fin 40)
  /-- TWIN_ALERT_IN_ASSERTED (R60): TWIN_ALERT_IN_N that has been low for 16 core cycles is accepted as asserted. -/
  | twinAlertInAsserted (low : Bool)
  /-- MODRST_N (R64): MODRST_N held low for 10 ms or longer starts a cold start when the pin returns high. -/
  | modrstN (edge : ModrstEdge) (taken : Bool)
  /-- SENSOR_READ (R71): Every 64 beats the eight die temperature sensors are read. -/
  | sensorRead (readings : Readings)
  /-- FEED_PRESENT (R91): A feed rising to 38 V is reported present, and the supervisor applies the retained latch,
  cool-down and 100 ms wait. -/
  | feedPresent (k : Fin 2)
  /-- FEED_LOST (R76): A feed below 37 V for 10 µs is lost and sets fault source 112 or 113. -/
  | feedLost (k : Fin 2)
  /-- REVERSE_CURRENT_OFF (R75): A reverse current of 1 A through a feed's FET turns that FET off within 1 µs. -/
  | reverseCurrentOff (k : Fin 2)
  /-- FET_CONDUCTS_AGAIN (R75): An ORing FET conducts again once its feed exceeds the bus voltage by 50 mV. -/
  | fetConductsAgain (k : Fin 2)
  /-- BUS_SHUTDOWN (R77): Bus under- or overvoltage enters shutdown, which lowers PG_OUT, enters safe state and turns
  the gate off 20 µs later. -/
  | busShutdown (overVolt : Bool)
  /-- WAKE_SOURCE_SAMPLE (R575): In standby, Sprout samples each watched wake source every millisecond and accepts a
  change shown by two consecutive samples. -/
  | wakeSourceSample (levels : BitVec 124)
  /-- STANDBY_WAKE (R577): An accepted wake source or a waking frame makes Sprout record the cause, power the die and
  begin a warm start. -/
  | standbyWake (frame : Fin 3)
  /-- COLD_START (R109): A cold start stops all traffic and runs its phases, beginning with the Sprout phase. -/
  | coldStart (slotId : BitVec 4) (capOk refValid : Bool)
  /-- BIST_DONE (R110): The end of SRAM BIST retires the failed units that can be retired, or ends the start in safe
  state. -/
  | bistDone (attachments : List (Fin 40)) (banks : List (Fin 64)) (ledger : List (Fin 16)) (clusters : List (Fin 8)) (cores : List (Fin 4)) (other : Bool)
  /-- CALIBRATION_DONE (R146): The end of SerDes calibration excludes lanes that failed with cause 9 and writes the
  calibration part of the retained record. -/
  | calibrationDone (failed : List (Fin 328))
  /-- DATA_PATH_RELEASE (R109): The data path is released, the beat counter starts from zero and the start state reads
  Ready. -/
  | dataPathRelease (ms : BitVec 32)
  /-- WARM_START (R114): A warm start stops traffic, checks the retained record, clears SRAM and restores calibration
  and configuration. -/
  | warmStart (recordOk sramError repaired : Bool)
  /-- IMAGE_BLOCK_WRITE (R128): A 1 KiB image block written to D:2221.02 is stored in the slot that is not running,
  and the offset advances. -/
  | imageBlockWrite (slot : Fin 2) (block : BitVec 8192)
  /-- IMAGE_VERIFY (R128): Writing 1 to D:2221.03 verifies the slot that is not running and reports the result in
  D:2220.05. -/
  | imageVerify (slot : Fin 2)
  /-- GROUP_PERST (R134): Writing 1 to D:2240.nn asserts fundamental reset on a downstream group, or is refused on any
  other role. -/
  | groupPerst (n : Fin 40)
  /-- HOT_RESET (R131): A hot reset received on a host's upstream link resets that hierarchy only. -/
  | hotReset (v : Fin 64)
  /-- SECONDARY_BUS_RESET (R131): SBR set on a virtual downstream bridge resets the bound device, slice or pool
  endpoint. -/
  | secondaryBusReset (v : Fin 64) (b : Fin 256)
  /-- FUNCTION_LEVEL_RESET (R131): FLR of a management function resets its configuration, vectors and mailbox sessions
  and squashes its instances. -/
  | functionLevelReset (v : Fin 64)
  /-- TRAINING_BLOCK (R151): A trunk or Garnet lane receives a training block whose control word passes or fails its
  CRC. -/
  | trainingBlock (lane : Fin 328) (block : TrainBlock) (done inverted : Bool) (wish : LaneWish)
  /-- DETECT_TIMER (R152): 64 beats after the first lane is detected, the port leaves stage 1 and excludes the
  undetected lanes. -/
  | detectTimer (port : Fin 161)
  /-- STAGE_BOUND_REACHED (R153): A stage bound expires, which excludes lanes that are not ready, falls back in rate
  or fails the training. -/
  | stageBoundReached (port : Fin 161)
  /-- PORT_LINK_UP (R147): A port reaches stage 5 and starts to carry data. -/
  | portLinkUp (port : Fin 161) (now : Nat) (rate : Fin 8) (width : Fin 6) (reversed : Bool) (x : Partner) (clock : RefClock) (precode keyed : Bool)
  /-- ADAPTATION_STEP (R145): Every 64 beats a stage-5 receiver may step each equalizer parameter by one, unless
  adaptation is frozen. -/
  | adaptationStep (lane : Fin 328) (part : EqStage) (tap : Fin 16) (up : Bool)
  /-- ERROR_WINDOW_END (R159): An error-counting window of D:30nn.81 beats ends, and the next window starts. -/
  | errorWindowEnd (lane : Fin 328) (more : BitVec 32)
  /-- LANE_FAILURE (R160): A detected lane failure puts the lane Off and records the cause, and the port narrows
  starting at stage 3. -/
  | laneFailure (lane : Fin 328) (cause : Fin 6) (more : BitVec 32)
  /-- RETRAIN_LIMIT (R164): A narrowing or retrain that has not reached stage 5 within D:30nn.82 beats takes the link
  down. -/
  | retrainLimit (port : Fin 161)
  /-- LANE_EXCLUDE (R172): Writing 1 to D:30nn.kC excludes the lane with cause 10, and writing 0 allows it again at
  the next stage 1. -/
  | laneExclude (lane : Fin 328) (exclude : Bool)
  /-- LANE_DIRECTION_CHANGE (R156): The port's link layer requests a new state for one direction of a lane. -/
  | laneDirectionChange (lane : Fin 328) (receiver : Bool) (d : LaneDir)
  /-- RX_LOCK_TIMEOUT (R158): A receiver that has not locked within its exit latency plus 64 beats fails with cause 2. -/
  | rxLockTimeout (lane : Fin 328)
  /-- SCAN_START (R168): Writing 1 to D:A02s.09 starts an eye scan, or refuses it with status 5. -/
  | scanStart (slot : Fin 4) (fullScale : BitVec 16)
  /-- SCAN_POINT_DONE (R170): A scan point completes after 2^d comparisons, and its record is written. -/
  | scanPointDone (slot : Fin 4) (errors : BitVec 37)
  /-- SCAN_ABORT (R171): Writing 1 to D:A02s.0A aborts the scan with status 3. -/
  | scanAbort (slot : Fin 4)
  /-- L1_ENTRY_INITIATE (R195): A host port that has been idle for D:34pp.0B beats, with its other conditions met,
  initiates ASPM L1. -/
  | l1EntryInitiate (port : Fin 160) (sub : Fin 3) (acked : Bool)
  /-- PARTNER_L1_REQUEST (R196): A downstream partner's ASPM L1 request is accepted or refused. -/
  | partnerL1Request (port : Fin 160) (sub : Fin 3)
  /-- PCI_PM_L1_REQUEST (R548): A PCI-PM L1 entry request on a host port is accepted after a flush. -/
  | pciPmL1Request (port : Fin 160)
  /-- PME_TURN_OFF (R548): PME_Turn_Off received on a host port is answered with PME_TO_Ack after a flush. -/
  | pmeTurnOff (v : Fin 64)
  /-- L0P_EVALUATION (R197): Every 64 beats the module requests half or full transmit width from the measured load. -/
  | l0pEvaluation (port : Fin 160) (used : BitVec 32)
  /-- L0P_PARTNER_REQUEST (R197): The module honours the partner's L0p width request for the partner's transmit
  direction. -/
  | l0pPartnerRequest (port : Fin 160) (width : Fin 6)
  /-- IDE_KEY_REFRESH (R198): Every 2^28 beats the module refreshes the link IDE keys of downstream ports. -/
  | ideKeyRefresh (port : Fin 160)
  /-- IDE_INTEGRITY_FAILURE (R199): A failed link IDE integrity check discards the TLP, makes the stream Insecure and
  brings the port down. -/
  | ideIntegrityFailure (port : Fin 160)
  /-- FRAME_START (R99): A frame start detected at the ingress link layer ungates any gated unit on its path. -/
  | frameStart (path : FramePath)
  /-- FRAME_HEAD_CELL (R217): A frame's head cell is formed, binding its epoch, charging the buffer and deciding
  cut-through. -/
  | frameHeadCell (ingress : Fin 177) (h : Head)
  /-- FRAME_COMPLETE (R222): A frame's last cell is formed and its ingress checks and routing rules are applied. -/
  | frameComplete (id : Nat) (c : Checks)
  /-- ENGINE_CHARGE_RETRY (R228): An engine frame that could not be charged retries its charge at each cell time until
  a place takes it. -/
  | engineChargeRetry (id : Nat)
  /-- CELL_TIME_MATCH (R213): In each usable cell time the matcher runs request, grant and accept iterations and moves
  the accepted cells. -/
  | cellTimeMatch (i : Fin 128) (formed : List Nat) (ecc : CellErrors)
  /-- STALL_TERMINATION (R220): A cut-through frame whose next cell is missing past the budget is terminated, and
  cut-through from the ingress is suspended. -/
  | stallTermination (point : StallPoint)
  /-- PATH_FAILED (R240): A failed trunk path fails every bucket that uses it and sets fault source 189. -/
  | pathFailed (port : Fin 160)
  /-- BANK_RETIRE (R243): A bank number written to D:4013.01, or a first uncorrectable error, starts the retirement of
  a buffer bank. -/
  | bankRetire (bank : Fin 64) (strike : Option (Nat × Bool))
  /-- BANK_RETIRED (R243): A retiring bank that holds no cell becomes retired and sets fault source 182. -/
  | bankRetired (bank : Fin 64)
  /-- ATTACHMENT_RETIRE (R245): An attachment number written to D:4013.02, or a crossing parity error, retires an
  attachment. -/
  | attachmentRetire (n : Fin 40) (strike : Option (Nat × Bool))
  /-- ATTACHMENT_RETIREMENT (R246): At the next boundary the group's ports go down and the attachment's internal ports
  move. -/
  | attachmentRetirement (n : Fin 40)
  /-- SLOT_INPUT_CHANGE (R267): An accepted expander input change is delivered as a standard hot-plug event to the
  bound bridge. -/
  | slotInputChange (p : Fin 160)
  /-- SLOT_CONTROL_WRITE (R268): A host write to Slot Control sets the slot's power and indicator outputs. -/
  | slotControlWrite (v : Fin 64) (b : Fin 256) (powerOff : Bool) (ind : Indicators) (enables : BitVec 16)
  /-- INDICATOR_BLINK (R268): Every 2,500,000 beats a blinking indicator output toggles. -/
  | indicatorBlink (p : Fin 160)
  /-- SLOT_RESET_RELEASE (R270): Once its presence, power and hold conditions hold, the module releases reset of a
  downstream slot. -/
  | slotResetRelease (p : Fin 160)
  /-- DPC_TRIGGER (R275): A DPC trigger brings the port's link down, completes its requests and holds the link down. -/
  | dpcTrigger (v : Fin 64) (b : Fin 256) (reason : Fin 4)
  /-- DPC_TRIGGER_CLEAR (R275): The host clearing DPC Trigger Status releases and retrains the port. -/
  | dpcTriggerClear (v : Fin 64) (b : Fin 256)
  /-- CONFIG_REQUEST (R255): A configuration request is completed by a virtual bridge or the management function, or
  forwarded below a bound bridge. -/
  | configRequest (v : Fin 64) (x : Tlp) (field : CfgField) (write : Bool)
  /-- COMPLETION_ARRIVES (R280): A completion matches its tracker entry and is forwarded, and the entry frees on the
  last byte or on an error. -/
  | completionArrives (ingress : Fin 177) (x : Tlp) (poison : Bool)
  /-- TRACKER_TIMEOUT (R285): An Outstanding entry whose deadline beat begins is answered with Completer Abort and
  moves to Expired. -/
  | trackerTimeout (i : Fin 262144)
  /-- QUARANTINE_END (R286): An Expired entry becomes Free after the maximum fabric residency. -/
  | quarantineEnd (i : Fin 262144)
  /-- LINK_DOWN (R289): A port leaving the data link layer active state has its frames and tracker entries handled by
  the link-down table. -/
  | linkDown (p : Fin 160)
  /-- FAR_TAG_ASSIGNED (R308): A window request that waited for a far tag receives one and is forwarded. -/
  | farTagAssigned (port : Fin 160)
  /-- PREFETCH_HOLD_EXPIRY (R312): Held window prefetch data older than D:4200.04 beats is discarded. -/
  | prefetchHoldExpiry (window : Fin 1024)
  /-- DOORBELL_RING (R316): A write to a channel's ring register sets status bits of an enabled channel. -/
  | doorbellRing (v : Fin 64) (c : Fin 1024) (set : BitVec 32)
  /-- DOORBELL_STATUS_CLEAR (R316): A write of ones to a channel's status register clears those bits. -/
  | doorbellStatusClear (v : Fin 64) (c : Fin 1024) (clear : BitVec 32)
  /-- PWF_RECEIVED (R322): A received Posted Write Fault is logged to the source hierarchy's domain and reported in
  AER. -/
  | pwfReceived (src far : Fin 4096) (label : BitVec 32) (req : BitVec 16) (page : BitVec 52) (cause : BitVec 8) (farStamp : BitVec 64)
  /-- FLIT_RECEIVED (R336): A trunk link flit is decoded, and its control word and frame words are processed. -/
  | flitReceived (port : Fin 161) (now : Nat) (wire : Wire)
  /-- REPLAY_TIMER_EXPIRY (R360): The replay timer expires while frames are unacknowledged. -/
  | replayTimerExpiry (port : Fin 161) (now : Nat)
  /-- RTT_PROBE (R354): Every 64 beats a new probe value is sent, and H is recomputed from the round-trip
  measurements. -/
  | rttProbe (port : Fin 161) (now : Nat)
  /-- QUIET_ENTRY (R342): A transmit direction idle for D:4400.07 beats sends quiet and enters Quick idle. -/
  | quietEntry (port : Fin 160)
  /-- QUIET_EXIT (R342): Queued work makes a quiet direction send the marker sequence and resume flits. -/
  | quietExit (port : Fin 160)
  /-- ENUMERATION_DONE (R376): Pool-device enumeration ends in Ready, Failed or Replaced. -/
  | enumerationDone (d : Fin 256) (ok : Bool) (capacity serial : BitVec 64)
  /-- SCRUB_START (R383): Once earlier requests to a member have completed, the module starts writing zeros to the
  extent's lines there. -/
  | scrubStart (x : Fin 4096) (m : Fin 256)
  /-- SCRUB_DONE (R383): Completion of every scrub write makes the extent Free, and a failed write makes it Scrub
  failed. -/
  | scrubDone (x : Fin 4096) (m : Fin 256) (ok : Bool)
  /-- RESCRUB_EXTENT (R383): An extent number written to D:5001.02 scrubs a Scrub-failed extent again. -/
  | rescrubExtent (x : Fin 4096)
  /-- RELEASE_EXTENT (R384): An extent number written to D:5001.01 puts the extent in Releasing and posts a Release
  Capacity event. -/
  | releaseExtent (x : Fin 4096)
  /-- ADD_CAPACITY_RESPONSE (R384): The host accepts or refuses an offered extent, which becomes Assigned or Released. -/
  | addCapacityResponse (x : Fin 4096) (accept : Bool)
  /-- RELEASE_CAPACITY_RESPONSE (R384): The host releases an extent, which becomes Released at the next boundary. -/
  | releaseCapacityResponse (x : Fin 4096)
  /-- DC_ANSWER_TIMEOUT (R384): A host that has not answered within D:5000.09 beats sets fault source 226. -/
  | dcAnswerTimeout (x : Fin 4096)
  /-- CXL_MEM_REQUEST (R381): A CXL.mem request to a private endpoint is decoded and forwarded to its member device. -/
  | cxlMemRequest (v : Fin 64) (e : Fin 1024) (addr : BitVec 64) (write : Bool) (tag : BitVec 16) (line : LineData) (poison : Bool)
  /-- POOL_PREFETCH_EXPIRY (R387): Held pool prefetch lines older than D:5000.08 beats are discarded. -/
  | poolPrefetchExpiry (x : Fin 4096) (granule : Nat)
  /-- IDENTIFY_MEMORY_DEVICE (R380): The pool endpoint answers the Identify Memory Device mailbox command. -/
  | identifyMemoryDevice (e : Fin 1024)
  /-- GET_PARTITION_INFO (R380): The pool endpoint answers the Get Partition Info mailbox command. -/
  | getPartitionInfo (e : Fin 1024)
  /-- GET_EVENT_RECORDS (R380): The pool endpoint returns its relayed event records. -/
  | getEventRecords (e : Fin 1024)
  /-- CLEAR_EVENT_RECORDS (R380): The pool endpoint clears the named event records. -/
  | clearEventRecords (e : Fin 1024) (handles : List (BitVec 16))
  /-- RDS (R411): The home serves a shared-read request by the state table. -/
  | rds (v : Fin 64) (r : Fin 256) (p : BitVec 34) (l : Fin 64) (tag : CohTag)
  /-- RDOWN (R411): The home serves an ownership read by snooping the holders or reading memory. -/
  | rdown (v : Fin 64) (r : Fin 256) (p : BitVec 34) (l : Fin 64) (tag : BitVec 16)
  /-- OWN (R411): The home grants M without data after invalidating the other holders. -/
  | own (v : Fin 64) (r : Fin 256) (p : BitVec 34) (l : Fin 64) (tag : CohTag)
  /-- RDCUR (R411): The home returns the current data without changing holders beyond the owner's answer. -/
  | rdcur (v : Fin 64) (r : Fin 256) (p : BitVec 34) (l : Fin 64) (tag : BitVec 16)
  /-- MEMSPECRD (R396): MemSpecRd is completed with no action and no state change. -/
  | memspecrd (v : Fin 64) (r : Fin 256) (p : BitVec 34) (l : Fin 64)
  /-- EVC (R411): A clean eviction lowers the host's line count and is completed. -/
  | evc (v : Fin 64) (r : Fin 256) (p : BitVec 34) (l : Fin 64)
  /-- EVD (R411): A dirty eviction from the owner is written to memory, and the line becomes I. -/
  | evd (v : Fin 64) (r : Fin 256) (p : BitVec 34) (l : Fin 64) (line : LineData)
  /-- WR (R411): A write from a host that is not the owner invalidates the holders and is written to memory. -/
  | wr (v : Fin 64) (r : Fin 256) (p : BitVec 34) (l : Fin 64) (w : LineWrite)
  /-- WBKEEP (R411): An owner's writeback that keeps the line is written, and the line becomes E or S. -/
  | wbkeep (v : Fin 64) (r : Fin 256) (p : BitVec 34) (l : Fin 64) (line : LineData) (toShared : Bool)
  /-- HIT_KEEP (R412): A snoop response from a host that keeps the line removes that host from the pending set. -/
  | hitKeep (v : Fin 64) (r : Fin 256) (p : BitVec 34) (l : Fin 64) (excl block : Bool)
  /-- HIT_DROP (R412): A snoop response from a host that dropped the line lowers its count and removes it from the
  pending set. -/
  | hitDrop (v : Fin 64) (r : Fin 256) (p : BitVec 34) (l : Fin 64) (block : Bool)
  /-- MISS (R412): A snoop miss removes the host from the pending set and may set the poison mark for the owner. -/
  | miss (v : Fin 64) (r : Fin 256) (p : BitVec 34) (l : Fin 64)
  /-- BICONFLICT (R415): A BIConflict is answered with BIConflictAck behind any grant already released to that host. -/
  | biconflict (v : Fin 64) (r : Fin 256) (p : BitVec 34) (l : Fin 64)
  /-- MEMORY_DATA (R412): Memory read data arrives for a slot in RD and serves its purpose with a grant. -/
  | memoryData (r : Fin 256) (p : BitVec 34) (l : Fin 64) (data : BitVec 512) (poison : Bool)
  /-- WRITE_DONE (R412): A home memory write completes, the waiting Cmp is sent and held messages and the queue are
  acted on. -/
  | writeDone (r : Fin 256) (p : BitVec 34) (l : Fin 64)
  /-- RECALL_DONE (R421): The last line of a recalled page reaches I, the entry is freed and the waiting allocation
  proceeds. -/
  | recallDone (r : Fin 256) (p : BitVec 34)
  /-- SNOOP_TIMEOUT (R416): A host still pending D:5100.09 beats after a snoop departs from the region. -/
  | snoopTimeout (r : Fin 256) (p : BitVec 34) (l v : Fin 64)
  /-- SWEEP_DONE (R419): The departure sweep of a region ends, and the host leaves the departed mask. -/
  | sweepDone (r : Fin 256) (v : Fin 64)
  /-- LEDGER_SCRUB_READ (R695): The background scrub reads a ledger entry in an unused cycle and checks it. -/
  | ledgerScrubRead (error : Fin 4)
  /-- LEDGER_BANK_RETIRE (R428): A bank number written to D:5102.01 starts retiring a ledger bank and recalling its
  entries. -/
  | ledgerBankRetire (b : Fin 16)
  /-- LEDGER_BANK_RETIRED (R428): A retiring ledger bank with no valid entry becomes retired, and the bank map is
  updated. -/
  | ledgerBankRetired (b : Fin 16)
  /-- PAGE_QUERY (R429): A page written to D:5110.01 selects the ledger entry that D:5110.02 returns. -/
  | pageQuery (q : BitVec 64)
  /-- CREATE_CQ (R435): The command creates an empty completion queue with phase 1. -/
  | createCq (v : Fin 64) (k : Fin 16) (i : Fin 4096) (low : BitVec 44) (ws : List (BitVec 64))
  /-- DESTROY_CQ (R435): The command releases a completion queue that no queue pair uses. -/
  | destroyCq (v : Fin 64) (k : Fin 16) (i : Fin 4096) (low : BitVec 44) (ws : List (BitVec 64))
  /-- CREATE_QP (R435): The command creates a queue pair in Reset. -/
  | createQp (v : Fin 64) (k : Fin 16) (i : Fin 4096) (low : BitVec 44) (ws : List (BitVec 64))
  /-- MODIFY_QP (R436): The command moves a queue pair to its target state under the state table. -/
  | modifyQp (v : Fin 64) (k : Fin 16) (i : Fin 4096) (low : BitVec 44) (ws : List (BitVec 64))
  /-- DESTROY_QP (R436): The command releases a queue pair, or is refused under the state table. -/
  | destroyQp (v : Fin 64) (k : Fin 16) (i : Fin 4096) (low : BitVec 44) (ws : List (BitVec 64))
  /-- REGISTER_REGION (R447): The command makes a region Valid and returns a key with the next generation. -/
  | registerRegion (v : Fin 64) (k : Fin 16) (i : Fin 4096) (low : BitVec 44) (ws : List (BitVec 64))
  /-- REVOKE_REGION (R474): The command starts the revocation of a Valid region and keeps its slot busy. -/
  | revokeRegion (v : Fin 64) (k : Fin 16) (i : Fin 4096) (low : BitVec 44) (ws : List (BitVec 64))
  /-- SET_COUNTER (R435): The command sets a queue pair's trigger counter. -/
  | setCounter (v : Fin 64) (k : Fin 16) (i : Fin 4096) (low : BitVec 44) (ws : List (BitVec 64))
  /-- ATTACH (R502): The command attaches an Idle instance with its PASID, tables and queues, making it Active. -/
  | attach (v : Fin 64) (k : Fin 16) (i : Fin 4096) (low : BitVec 44) (ws : List (BitVec 64))
  /-- DETACH (R502): The command performs a squash reset of an Active instance. -/
  | detach (v : Fin 64) (k : Fin 16) (i : Fin 4096) (low : BitVec 44) (ws : List (BitVec 64))
  /-- COMMAND_START (R533): A command that waited for an earlier command on the same object starts when that command
  ends. -/
  | commandStart (v : Fin 64) (k : Fin 16)
  /-- SEND_QUEUE_DOORBELL (R441): A doorbell for the send queue sets its producer index, and the module fetches the
  new work requests. -/
  | sendQueueDoorbell (i : Fin 4096) (q : Fin 131072) (index : BitVec 16) (ws : List Wr)
  /-- RECEIVE_QUEUE_DOORBELL (R441): A doorbell for the receive queue sets its producer index. -/
  | receiveQueueDoorbell (i : Fin 4096) (q : Fin 131072) (index : BitVec 16) (ws : List Wr)
  /-- TRIGGER_LIST_DOORBELL (R479): A doorbell for the trigger list sets its producer index and arms the head entry. -/
  | triggerListDoorbell (i : Fin 4096) (q : Fin 131072) (index : BitVec 16) (ws : List Wr)
  /-- CQ_CONSUMER_DOORBELL (R446): A doorbell sets a completion queue's consumer index. -/
  | cqConsumerDoorbell (i : Fin 4096) (c : Fin 16384) (index : BitVec 22)
  /-- CONTEXT_FETCH_DONE (R465): A queue-pair context fetch ends, and the waiting and parked work proceeds, or the
  queue pair errors. -/
  | contextFetchDone (q : Fin 131072) (ok : Bool) (data : List Nat)
  /-- KEY_FETCH_DONE (R451): A region descriptor fetch ends, and the waiting request is checked, or it fails with
  status 11. -/
  | keyFetchDone (r : Fin 1048576) (ok : Bool) (data : List Nat)
  /-- WR_WRITE (R453): A WRITE work request at the head is checked locally and sent in segments. -/
  | wrWrite (q : Fin 131072) (data : List Nat) (readOk : Bool)
  /-- WR_READ (R453): A READ work request at the head is checked and sends its READ_REQ. -/
  | wrRead (q : Fin 131072)
  /-- WR_SEND (R453): A SEND work request at the head is checked and sent in segments. -/
  | wrSend (q : Fin 131072) (data : List Nat) (readOk : Bool)
  /-- WR_FETCH_ADD (R453): A FETCH_ADD work request at the head sends its atomic request. -/
  | wrFetchAdd (q : Fin 131072)
  /-- WR_CMP_SWAP (R453): A CMP_SWAP work request at the head sends its atomic request. -/
  | wrCmpSwap (q : Fin 131072)
  /-- WR_NOP (R445): A NOP work request completes when it reaches the head of its queue. -/
  | wrNop (q : Fin 131072)
  /-- WRITE_SEGMENT (R461): A responder classifies a WRITE segment, checks it and writes it to host memory. -/
  | writeSegment (f : BFrame)
  /-- SEND_SEGMENT (R453): A responder checks a SEND segment and writes it into the consumed RECV buffer. -/
  | sendSegment (f : BFrame)
  /-- READ_REQ (R461): A responder checks a READ_REQ and returns READ_RESP segments. -/
  | readReq (f : BFrame) (data : Nat) (readOk : Bool)
  /-- FETCH_ADD_REQUEST (R453): A responder issues a FetchAdd AtomicOp and returns the original value. -/
  | fetchAddRequest (f : BFrame) (orig : BitVec 64) (ok : Bool)
  /-- CMP_SWAP_REQUEST (R453): A responder issues a CAS AtomicOp and returns the original value. -/
  | cmpSwapRequest (f : BFrame) (orig : BitVec 64) (ok : Bool)
  /-- READ_RESP (R463): A requester writes READ response data at local_addr and acknowledges up to its PSN. -/
  | readResp (f : BFrame) (data : List Nat)
  /-- ATOMIC_RESP (R463): A requester writes the 8 B atomic result and acknowledges up to its PSN. -/
  | atomicResp (f : BFrame) (data : List Nat)
  /-- ACK (R463): An ACK frees PSNs up to its value, resets the retry count and completes requests. -/
  | ack (f : BFrame) (data : List Nat)
  /-- SEQUENCE_NAK (R463): A sequence NAK makes the requester resend from its PSN at once. -/
  | sequenceNak (f : BFrame) (data : List Nat)
  /-- RNR_NAK (R468): An RNR NAK makes the requester wait the retry time and count an RNR retry. -/
  | rnrNak (f : BFrame)
  /-- NAK (R463): A NAK with syndrome 3, 4 or 5 completes the request in error and puts the queue pair in Error. -/
  | nak (f : BFrame)
  /-- RETRANSMIT_TIMEOUT (R464): The retransmit timer expires, and the requester resends from the oldest
  unacknowledged PSN or fails with status 6. -/
  | retransmitTimeout (q : Fin 131072) (data : List Nat)
  /-- RNR_WAIT_END (R468): After the RNR retry time, the requester resends from the NAKed PSN. -/
  | rnrWaitEnd (q : Fin 131072) (data : List Nat)
  /-- ACK_TIMER (R462): An accepted segment left unacknowledged for one beat makes the responder send an ACK. -/
  | ackTimer (q : Fin 131072)
  /-- RATE_INCREASE (R471): Each period without a decrease raises the queue pair's rate by the step, up to its cap. -/
  | rateIncrease (q : Fin 131072)
  /-- MESSAGE_DELIVERY (R480): A message whose last host writes are issued is delivered, which applies its count and
  tag. -/
  | messageDelivery (q : Fin 131072)
  /-- REGION_REVOKING (R474): At the first cell time of the next beat the region becomes Revoking, and its key checks
  fail. -/
  | regionRevoking (r : Fin 1048576)
  /-- REVOCATION_COMPLETE (R478): A Revoking region whose in-flight count reaches zero becomes Free, and event 2 and
  the result are posted. -/
  | revocationComplete (r : Fin 1048576)
  /-- CLUSTER_RETIRE (R488): A cluster number written to D:6030.01, or an uncorrectable error, requests retirement of
  an engine cluster. -/
  | clusterRetire (c : Fin 8) (context : Option (Fin 131072 × Bool))
  /-- CLUSTER_RETIREMENT (R488): At the next boundary the cluster's resident queue pairs fail, and the others move to
  another cluster. -/
  | clusterRetirement (c : Fin 8)
  /-- QP_QUERY (R489): A queue pair written to D:6040.01 selects what D:6040.02 to D:6040.08 report. -/
  | qpQuery (q : Fin 131072)
  /-- DOMAIN_CONTAINMENT (R516): At the next boundary the domain's ports, instances, windows and Beryl frames are
  contained. -/
  | domainContainment (d : Fin 4096)
  /-- CONTAIN_RELEASE (R516): Writing 1 to D:7ddd.0B releases a contained domain. -/
  | containRelease (d : Fin 4096)
  /-- RESET_CONTROL_DRAIN (R510): A host write of 1 to reset_control requests a drain reset of the instance. -/
  | resetControlDrain (v : Fin 64) (k : Fin 256)
  /-- RESET_CONTROL_SQUASH (R510): A host write of 2 to reset_control requests a squash reset of the instance. -/
  | resetControlSquash (v : Fin 64) (k : Fin 256)
  /-- INSTANCE_RESET_DRAIN (R510): D0000 writes mode 1 to D:60A0.03 to drain-reset an instance. -/
  | instanceResetDrain (i : Fin 4096)
  /-- INSTANCE_RESET_SQUASH (R510): D0000 writes mode 2 to D:60A0.03 to squash-reset an instance. -/
  | instanceResetSquash (i : Fin 4096)
  /-- INSTANCE_RESET_TAKES_EFFECT (R511): At the next beat the reset stops doorbells, triggers, commands and incoming
  frames of the instance. -/
  | instanceResetTakesEffect (i : Fin 4096)
  /-- DRAIN_LIMIT_REACHED (R512): A drain not ended after D:60A0.02 beats becomes a squash. -/
  | drainLimitReached (i : Fin 4096)
  /-- INSTANCE_RESET_END (R514): When no transaction of the instance remains, its objects are released and it becomes
  Idle. -/
  | instanceResetEnd (i : Fin 4096)
  /-- LOG_SWAP_REQUEST (R508): A host write of 1 to log_control requests a swap of the dirty maps. -/
  | logSwapRequest (v : Fin 64) (k : Fin 256)
  /-- LOG_SWAP (R508): At the first cell time of the next beat the inactive map becomes active. -/
  | logSwap (i : Fin 4096)
  /-- LOG_SWAP_COMPLETE (R508): Once every bit for the old map has been written, the log status reads complete. -/
  | logSwapComplete (i : Fin 4096) (ok : Bool)
  /-- MBOX_SUBMIT (R534): A submit in mbox_ctrl sends the request as one ADP message, or is discarded. -/
  | mboxSubmit (v : Fin 64) (len : BitVec 13)
  /-- RESP_READY_CLEAR (R534): Clearing resp_ready lets the next queued message be placed in mbox_response. -/
  | respReadyClear (v : Fin 64)
  /-- ERROR_QUEUE_SETUP (R530): Writes to errq_base or errq_log2 take effect at the next boundary and reset the
  producer index. -/
  | errorQueueSetup (v : Fin 64) (base : BitVec 64) (log2 : BitVec 32)
  /-- MODERATION_TIMER_EXPIRY (R545): A vector's moderation timer reaches zero at step 7, and the vector is sent. -/
  | moderationTimerExpiry (store : Bool) (k : Fin 8192)
  /-- VECTOR_DELIVERABLE (R545): A pending vector is sent at the first cell time at which it becomes deliverable. -/
  | vectorDeliverable (store : Bool) (k : Fin 8192)
  /-- POWER_STATE_WRITE (R549): A host write of D3hot or D0 to the management function stops or resumes its bus
  mastering and vectors. -/
  | powerStateWrite (v : Fin 64) (d3 : Bool)
  /-- MASTER_TIMEOUT (R555): A master request past its deadline is reported, and its issuing unit fails it. -/
  | masterTimeout (i : Fin 262144)
  /-- DOE_REQUEST (R525): A DOE request to the management function is answered for discovery, SPDM or IDE_KM. -/
  | doeRequest (v : Fin 64) (type : Fin 3) (body : DoeBody) (keys : Bool)
  /-- CORE_RETIRE (R560): A core number written to D:8000.03 retires that core, or is refused when none would remain. -/
  | coreRetire (value : BitVec 8)
  /-- CORE_CHECKIN_TIMEOUT (R560): A core that has not checked in for 7,813 beats is retired. -/
  | coreCheckinTimeout (k : Fin 4)
  /-- TASK_SET_MOVE_DONE (R560): The task sets of a retired core finish moving to the next usable core. -/
  | taskSetMoveDone (set : Fin 4)
  /-- MGMT_SRAM_ERROR (R563): An uncorrectable shared code or data error acts as a watchdog expiry. -/
  | mgmtSramError (e : SramError)
  /-- CLAIM (R566): A read of claim[k] returns the highest offered source and marks it in service. -/
  | claim (k : Fin 4)
  /-- COMPLETE (R566): A write to complete[k] by the claiming core clears the source's in-service bit. -/
  | complete (k : Fin 4) (value : BitVec 32)
  /-- SOFT_RAISE (R569): A write of k to soft_raise sets the pending bit of source 8 + k. -/
  | softRaise (value : BitVec 32)
  /-- SUPERVISOR_READ (R573): Every millisecond Sprout reads the power-entry supervisor, and 10 failures set fault
  source 380. -/
  | supervisorRead (ok : Bool) (aMv bMv ma mw : BitVec 32)
  /-- PORT_CONTAINMENT (R592): At the next boundary every port of the source's group is contained. -/
  | portContainment (n : Fin 40)
  /-- PORT_RELEASE (R594): Writing 0 to D:34pp.50 releases a contained port. -/
  | portRelease (port : Fin 160) (value : Bool)
  /-- STICKY_CLEAR (R588): Writing 1 to D:(8400 + s).01 clears the sticky bit, count and class at the next boundary. -/
  | stickyClear (n : Fin 1024)
  /-- FORCE (R596): Writing 1 to D:(8400 + s).02 adds one event to the source. -/
  | force (n : Fin 1024)
  /-- BEAT_FRAME (R627): An accepted Garnet beat frame closes a delta and counts as a heartbeat. -/
  | beatFrame (f : BeatFrame)
  /-- RECORD_FRAME (R624): Mirror records are applied at once to the shadow entries or the twin store. -/
  | recordFrame (h : GarnetHead) (records : List Record)
  /-- MIRROR_ACK_RELEASE (R621): The twin's acknowledgement of a record releases the messages held for it. -/
  | mirrorAckRelease (ack : BitVec 12)
  /-- ATTACH_REQUEST (R634): Writing 1 to D:9001.01 sends an attach request to the twin, or is refused as busy. -/
  | attachRequest (one : Bool)
  /-- ATTACH_REQUEST_MESSAGE (R634): A received attach request is checked and answered with accept or refuse. -/
  | attachRequestMessage (h : GarnetHead) (differs : Fin 8)
  /-- ATTACH_ACCEPT (R635): On acceptance both modules enter Attaching and send their state records. -/
  | attachAccept (h : GarnetHead)
  /-- ATTACH_REFUSE (R634): A refusal writes its reason to D:9001.03 and sets fault source 391. -/
  | attachRefuse (h : GarnetHead) (reason : BitVec 8)
  /-- SYNC_DONE (R635): Once both sync-done messages are acknowledged, the modules become Paired. -/
  | syncDone (h : GarnetHead)
  /-- DETACH_REQUEST (R636): Writing 1 to D:9001.02 sends the detach message. -/
  | detachRequest (one : Bool)
  /-- DETACH_MESSAGE (R636): An acknowledged detach stops mirroring, releases the shadows and makes both modules
  Single. -/
  | detachMessage (h : GarnetHead)
  /-- SERVE_ALONE (R633): Writing 1 to D:9001.04 moves a Holding module to Single. -/
  | serveAlone (one : Bool)
  /-- HOME_MOVE (R626): A region written to D:9002.01 is recalled and its home moved to the twin. -/
  | homeMove (region : BitVec 16)
  /-- HOME_MOVE_MESSAGE (R626): On acknowledgement the twin becomes the region's home, and the endpoints swap modules. -/
  | homeMoveMessage (h : GarnetHead) (region : Fin 256)
  /-- RECALL_REQUEST (R625): The twin recalls one of its home entries in the named bank and set. -/
  | recallRequest (h : GarnetHead) (bank : Fin 16) (set_ : BitVec 10)
  /-- RESTART_REQUEST (R637): A received restart request makes the twin warm-start with cause twin unless refused. -/
  | restartRequest (h : GarnetHead)
  /-- TWIN_QUERY (R638): An entry written to D:9006.01 selects the twin-store value that D:9006.02 returns. -/
  | twinQuery (q : BitVec 32)
  /-- HELLO (R652): A client HELLO opens a half-open session and is answered with HELLO_REPLY and CHAIN, or REFUSE. -/
  | hello (path : AdpPath) (version level : BitVec 8) (chainLen : BitVec 16)
  /-- CHAIN (R652): A client CHAIN carries part of the client certificate chain. -/
  | chain (path : AdpPath) (session : BitVec 32) (offset : BitVec 16) (len : Fin 1025)
  /-- FINISH (R652): A client FINISH is verified, and the session is granted with FINISH_ACK or refused. -/
  | finish (path : AdpPath) (session : BitVec 32) (signatureOk chainOk : Bool) (anchor : Option (Fin 64)) (selfSigned : Bool)
  /-- CLOSE (R654): CLOSE ends the session. -/
  | close (h : AdpHead)
  /-- ADP_READ (R657): A READ returns each item with its own status. -/
  | adpRead (h : AdpHead) (items : List AdpItem)
  /-- ADP_WRITE (R658): A WRITE is checked whole and then takes effect in one step, or not at all. -/
  | adpWrite (h : AdpHead) (items : List AdpItem) (cycle : Fin 256)
  /-- ADP_COMMIT (R655): A COMMIT op acts as a write of its token to D:1210.01. -/
  | adpCommit (h : AdpHead) (token : BitVec 32) (cycle : Fin 256)
  /-- SUBSCRIBE (R661): SUBSCRIBE replaces the session's notification mask. -/
  | subscribe (h : AdpHead) (mask : BitVec 32)
  /-- NOP (R655): NOP keeps a session alive. -/
  | nop (h : AdpHead)
  /-- HANDSHAKE_TIMEOUT (R654): A handshake not finished D:1101.01 beats after HELLO ends the session. -/
  | handshakeTimeout (session : BitVec 32)
  /-- IDLE_TIMEOUT (R654): No accepted message for D:1101.02 beats ends the session. -/
  | idleTimeout (session : BitVec 32)
  /-- ADDRESS_CONFLICT (R642): A duplicate address detected on a segment takes that segment out of use until the next
  start. -/
  | addressConflict (onB : Bool)
  /-- SEGMENT_DOWN (R643): Loss of PHY link or PLCA beacons takes a management segment down. -/
  | segmentDown (onB : Bool)
  /-- TRUST_ANCHOR_WRITE (R648): A trust-anchor write is saved to flash at once and ends the sessions authenticated
  through that slot. -/
  | trustAnchorWrite (slot : Fin 64) (anchor : BitVec 800)
  /-- REGISTER_WRITE (R674): A write to a setting or register with no row of its own takes effect as its kind states. -/
  | registerWrite (w : RegWrite) (cycle : Fin 256)
  /-- SEGMENT_UP (R643): A management segment whose PHY reports link, and whose PLCA beacon is seen where the module
  is not coordinator, comes up again. -/
  | segmentUp (onB : Bool)
  /-- PARTNER_CREDIT_RETURN (R212): A PCIe or CXL link partner returns flow-control credits, which can make frames
  waiting at that egress eligible again. -/
  | partnerCreditReturn (port : Fin 160) (cls : Fin 4) (credit : Credit)
  /-- TRAINING_SET_RECEIVED (R148): A PCIe port receives training sets from its partner and advances its LTSSM and the
  reported lane stage, as the PCIe Base Specification 7.0 defines. -/
  | trainingSetReceived (port : Fin 160) (stage : Fin 5) (unused : BitVec 16) (sets : TrainSets)
  /-- L1_EXIT (R193): The link partner leaves L1 or an L1 substate, by leaving electrical idle or asserting
  Gnn_CLKREQ_N, and the port's lanes return to On. -/
  | l1Exit (port : Fin 160)
  /-- INVERTED_MARKER (R342): A trunk receiver whose partner leaves the quiet state aligns on the inverted marker and
  resumes decoding flits from flit 0. -/
  | invertedMarker (port : Fin 160)
  /-- STORE_SAVE_DONE (R120): The flash save of the stored dictionary ends, and D:2230.03 reads last save good or last
  save failed with the generation updated. -/
  | storeSaveDone (ok : Bool)
  /-- DEVICE_EVENT_RECORD (R381): A pool member device reports an event record naming a device DPA, which the module
  relays into the event log of each endpoint that holds that DPA. -/
  | deviceEventRecord (d : Fin 256) (event : DeviceEvent)
  /-- BEAT_BOUNDARY (R17): Every 256 core cycles the module runs the ordered beat-boundary steps 1 to 10. -/
  | beatBoundary
  /-- COMMIT_DUE (R686): At step 3 of the boundary at which a pending commit falls due, the module checks it and then
  applies, defers or rejects it. -/
  | commitDue
  /-- DEFERRED_COMMIT_APPLIED (R32): A deferred commit is checked and applied at the first boundary at which step 2
  has released a superseded epoch. -/
  | deferredCommitApplied
  /-- DRAIN_OVERRUN (R37): A superseded epoch still live 64 beats after it stopped being current sets fault source 16. -/
  | drainOverrun
  /-- REFCLK_LOSS (R68): Loss or drift of the external reference makes the module relock to the internal oscillator
  and sets fault source 122. -/
  | refclkLoss
  /-- THROTTLE_EVALUATION (R69): Every 8,192 beats the throttle level steps down, steps up or stays the same according
  to the module temperature. -/
  | throttleEvaluation
  /-- GATE_TURN_ON (R78): The supervisor turns the gate on and ramps the bus at 4.8 V/ms with a 3 A current limit. -/
  | gateTurnOn
  /-- GATE_FULLY_ON (R78): The output comes within 0.5 V of the bus, which enables the die converters and starts a
  cold start. -/
  | gateFullyOn
  /-- INRUSH_TRIP (R79): Current held at the limit for 2 ms, or a ramp not complete within 15 ms, trips the fuse. -/
  | inrushTrip
  /-- FAULT_TIMER_START (R80): Input current reaching 13 A while the gate is fully on starts the fault timer. -/
  | faultTimerStart
  /-- FAULT_TIMER_IDLE (R80): Current below 12.5 A for a continuous 100 µs returns the fault timer to idle. -/
  | faultTimerIdle
  /-- OVERCURRENT_TRIP (R80): The fault timer reaching 2 ms trips the fuse, which lowers PG_OUT and enters safe state. -/
  | overcurrentTrip
  /-- HARD_SHORT_TRIP (R81): Input current above 40 A trips the fuse within 1 µs, and PG_OUT and the gate fall
  together. -/
  | hardShortTrip
  /-- PG_OUT_RISE (R82): PG_OUT rises after the gate has been fully on, with the fault timer idle, for a continuous 1
  ms. -/
  | pgOutRise
  /-- GATE_OFF_AFTER_TRIP (R84): The gate turns off 20 µs after an overcurrent or inrush trip, and the cool-down
  starts. -/
  | gateOffAfterTrip
  /-- AUTOMATIC_RETRY (R86): At the end of the 2 s cool-down the supervisor increments the retry count and starts a
  fresh ramp. -/
  | automaticRetry
  /-- RETRY_COUNT_CLEAR (R88): PG_OUT high for a continuous 10 s returns the retry count to 0. -/
  | retryCountClear
  /-- RETAINED_STATE_CLEARED (R90): After the last feed has been lost long enough, the discharged capacitor clears the
  retry, cool-down and latch state. -/
  | retainedStateCleared
  /-- TWIN_RELEASE (R92): Writing 1 to D:2030.01 drives the latch-release pattern on TWIN_ALERT_N, or is refused as
  busy. -/
  | twinRelease
  /-- RELEASE_PATTERN_ACCEPTED (R92): A latched-off supervisor that sees the three-pulse pattern clears its latch and
  retry count and starts fresh. -/
  | releasePatternAccepted
  /-- LATCH_RECORD_CLEAR (R93): Writing 1 to D:2001.07 clears both fields of the latch record. -/
  | latchRecordClear
  /-- STANDBY_REQUEST (R96): Writing 1 to D:2110.01 saves the retained record and powers the die down, or is refused
  as busy. -/
  | standbyRequest
  /-- WAKE_ALARM (R579): The standby alarm of D:8020.02 expires and acts as wake source W44. -/
  | wakeAlarm
  /-- WARM_START_REQUEST (R106): Writing 1 to D:2210.01 requests a warm start, or is refused in safe state or during a
  start. -/
  | warmStartRequest
  /-- COLD_START_REQUEST (R105): Writing 2 to D:2210.01 requests a cold start, which is accepted even in safe state. -/
  | coldStartRequest
  /-- WATCHDOG_EXPIRY (R126): The firmware watchdog expires, which counts a failed start and begins a warm start. -/
  | watchdogExpiry
  /-- FIRMWARE_LOAD (R123): The module chooses an image slot, verifies it, loads it and arms the watchdog. -/
  | firmwareLoad
  /-- CONFIGURATION_LOAD (R678): The stored dictionary or the retained record is loaded and checked as epoch 0,
  falling back to defaults when it fails. -/
  | configurationLoad
  /-- READY_TIMEOUT (R126): Firmware that has not reached Ready 2 s after t0 counts a failed start. -/
  | readyTimeout
  /-- START_CONFIRMED (R125): Ready held for 60 s confirms the start, clears the failed-start count and may rewrite
  the boot slot. -/
  | startConfirmed
  /-- RETAINED_RECORD_WRITTEN (R117): Firmware finishes rewriting the configuration part and CRC of the retained
  record after a commit or a setting change. -/
  | retainedRecordWritten
  /-- STORE_REQUEST (R120): Writing 1 to D:2230.01 saves the stored dictionary into the older flash copy with the next
  generation number. -/
  | storeRequest
  /-- TRACKER_ALLOCATION (R281): A non-posted request that was waiting receives a tracker entry from its budget. -/
  | trackerAllocation
  /-- FIRMWARE_TICK (R564): Every 781 beats interrupt source 1 becomes pending. -/
  | firmwareTick
  /-- SPROUT_CHECKIN (R574): Every millisecond Sprout checks in with the cores through interrupt source 7. -/
  | sproutCheckin
  /-- SPROUT_CHECKIN_MISSED (R574): No Sprout check-in for 10 ms sets fault source 381. -/
  | sproutCheckinMissed
  /-- CLEAR_ALL (R610): Writing 1 to D:8030.0C clears every source. -/
  | clearAll
  /-- COLLECTOR_INJECT (R605): Writing 1 to D:8030.0A inverts the parity bit of config[0] at the next boundary. -/
  | collectorInject
  /-- COLLECTOR_SCAN (R603): Every 16 beats the collector checks the parity of all its words. -/
  | collectorScan
  /-- MISSED_HEARTBEAT (R627): A beat with no heartbeat accepted is counted as missed. -/
  | missedHeartbeat
  /-- TWIN_ALERT_PULSING (R629): A side-1 module in the fence that finds its alert input pulsing warm-starts with
  cause twin. -/
  | twinAlertPulsing
  /-- TAKEOVER (R631): At the end of the fence the module promotes the twin's shadows and serves its homes and
  instances. -/
  | takeover
  /-- RESTART_REQUEST_REPEAT (R637): A Taken-over module repeats the restart request every 7,813 beats until the twin
  shows Holding. -/
  | restartRequestRepeat
deriving DecidableEq, Repr

end Sys2Proof
end

