-- ==== Sys2Proof/Decode.lean ====
section
/-!
DEFINITION. Decode: the opcode table gives no row any bits, since the block takes commands and fetches no instruction, so no word
spells a command.
-/

namespace Sys2Proof

/-- The command that a word spells: none, for want of bits in the table. -/
def decodeTableWord (_nbits _w : Nat) : Option Instr := none

end Sys2Proof
end

