-- ==== Sys2Proof/Config.lean ====
section
/-!
DEFINITION. What an implementation fixes, and the free values: constants without a body, so that no proof
can rest on what they are. Each is named in a log entry.
-/

namespace Sys2Proof.Config

/-- The value a counter of the dictionary reads once its count no longer fits its type: the spec states no
value there (log entry 4). Arguments: the entry's key and the count. -/
opaque counterPast : Nat → Nat → Nat

/-- A value that the spec leaves open, by the number of the place that reads it and the state's free-value
counter (log entry 4). -/
opaque freeValue : Nat → Nat → Nat

/-- Whether the signature of a stored image verifies against the fused Icnor key (R122): the key and the
signature arithmetic are the part's own (log entry 5). Argument: the image's blocks. -/
opaque imageSigned : Tbl Nat → Bool

/-- The security version that a stored image carries (R122): the image format is not stated. DESIGN CHOICE: log entry 5. -/
opaque imageSecurity : Tbl Nat → Nat

/-- The version string that a stored image carries, its bytes as one number (R122, R135). DESIGN CHOICE: log entry 5. -/
opaque imageVersion : Tbl Nat → Nat

/-- The magnitude of tap 0 to 2 (c-2, c-1, c+1) of a PCIe transmitter preset of a mode, which the PCIe Base Specification defines
(R143). DESIGN CHOICE: log entry 5. -/
opaque presetTap : Nat → Nat → Nat → Nat

/-- The largest credit count that a link's flow-control format expresses, which the PCIe Base Specification defines (R694), by
whether the link scales flow control, whether it runs flit mode, and whether the count is of data. DESIGN CHOICE: log entry 5. -/
opaque creditCap : Bool → Bool → Bool → Nat

/-- The fused minimum security version of D:2220.06 (R122). DESIGN CHOICE: log entry 5. -/
opaque minSecurity : Nat

/-- The module's serial number, D:1000.05 (R679). DESIGN CHOICE: log entry 5. -/
opaque serialNumber : Nat

/-- The hardware revision, D:1000.06 (R679). DESIGN CHOICE: log entry 5. -/
opaque hardwareRevision : Nat

/-- The PCI Vendor ID of the family, D:1002.01 (R679). DESIGN CHOICE: log entry 5. -/
opaque pciVendor : Nat

/-- The module's device certificate chain, its length in bytes (R652). DESIGN CHOICE: log entry 5. -/
opaque deviceChainLen : Nat

/-- The configuration size in bytes of a set of saved entries (R117): the encoding of the record is not
stated. DESIGN CHOICE: log entry 5. -/
opaque recordSize : Tbl Nat → Nat

/-- The 8 bytes at a cell of an ADP message in mbox_response, which carry its tag and are enciphered in a session (R528, R645):
its words are what the model holds of it. DESIGN CHOICE: log entry 51. -/
opaque messageWord : List Nat → Nat → Nat

/-- The bytes of a piece of that chain, by the number of the piece, as one number (R652). DESIGN CHOICE: log entry 5. -/
opaque deviceChain : Nat → Nat

end Sys2Proof.Config
end

