-- ==== Sys2Proof/Machine/State.lean ====
section
/-!
DEFINITION. State: every register, buffer, queue, counter, mode and pin that the spec gives the module, as
plain data, with the reasons for which a step can stop. Each field's comment gives its width and the rule
that names it; its default is its reset value.
-/

namespace Sys2Proof.Machine

/-- Faults. The spec names no condition on which the module ceases to exist as a machine: safe state is a state.
No meaning raises a fault. -/
inductive Fault where
  /-- Reserved for a state from which the machine cannot go on; raised by no meaning. Safe: it stops. -/
  | stuck
deriving DecidableEq, Repr

/-- Refusals. -/
inductive Refusal where
  /-- Raised by the dispatch table for a command without a meaning. Safe: the machine stops. -/
  | notModelled (mnemonic : String)
deriving DecidableEq, Repr

/-- A superseded live epoch: its tables stay retained until its in-flight count is zero (01 R22, R36). -/
structure SupEpoch where
  /-- Epoch count of the superseded epoch. (64 bit; 01 R21). -/
  count : Nat := 0
  /-- Beat of the boundary at which it stopped being current. (64 bit; 01 R37). -/
  stopped : Nat := 0
  /-- Fault source 16 has been set for it. (1 bit; 01 R37). -/
  overrun : Bool := false
  /-- Its retained live tables. (the staged tables; 01 R19, R23). -/
  tables : Tbl Nat := []
deriving DecidableEq, Repr

/-- Commit state of D:1210.02 (R28 to R35). -/
inductive CommitState where
  | idle | pending | deferred | rejected
deriving DecidableEq, Repr

/-- Beat counter, epochs and commits (chapter 01). -/
structure EpochUnit where
  /-- Beat counter. (64 bit; 01 R14, D:1200.01). -/
  beat : Nat := 0
  /-- Epoch count; its tag is the count modulo 4. (64 bit; 01 R21, D:1201.01). -/
  epoch : Nat := 0
  /-- Superseded epochs still live, oldest first. (up to 2; 01 R22). -/
  superseded : List SupEpoch := []
  /-- In-flight count by epoch tag. (4 x 32 bit; 01 R27, D:1202). -/
  inflight : Tbl Nat := []
  /-- Commit state. (4 values; 01 R28, D:1210.02). -/
  commit : CommitState := .idle
  /-- Token of the commit that is Pending or Deferred. (32 bit; 01 R28). -/
  token : Nat := 0
  /-- Beat at whose start the pending commit is due. (64 bit; 01 R30). -/
  due : Nat := 0
  /-- Token of the last commit that took effect. (32 bit; 01 R31, D:1210.03). -/
  lastToken : Nat := 0
  /-- Epoch count it created. (64 bit; 01 R31, D:1210.04). -/
  lastEpoch : Nat := 0
  /-- Beat stamp at which it took effect. (64 bit; 01 R31, D:1210.05). -/
  lastBeat : Nat := 0
  /-- Commits deferred since start. (32 bit; 01 R32, D:1210.06). -/
  deferrals : Nat := 0
  /-- Live copy; an unlisted entry reads its default. (the epoch-governed tables; 01 R19). -/
  live : Tbl Nat := []
  /-- Shadow copy. (the epoch-governed tables; 01 R19). -/
  shadow : Tbl Nat := []
deriving DecidableEq, Repr

/-- What the current poll slot of a sideband segment carries (R56, R265). -/
inductive I2cSlot where
  | idle | poll | write | config
deriving DecidableEq, Repr

/-- Sideband signals, PERST_N and I2C segment of one lane group (chapter 02). -/
structure GroupSide where
  /-- Accepted level of Gnn_PERST_N (47 kOhm to GND: low). (pin; 02 R48, D:30nn.E0). -/
  perst : Bool := false
  /-- The module leaves Gnn_CLKREQ_N, an open-drain pin with 10 kOhm to 3.3 V, released. (pin driver; 02 R47). -/
  clkreq : Bool := true
  /-- The link partner leaves Gnn_CLKREQ_N released; the pin is low while either end drives it. (pin; 02 R47, D:30nn.E0). -/
  clkreqPartner : Bool := true
  /-- Accepted level of Gnn_WAKE_N (pull-up: high). (pin; 02 R48, D:30nn.E0). -/
  wake : Bool := true
  /-- Accepted level of Gnn_PRSNT_N (pull-up: high, no cable). (pin; 02 R48, D:30nn.E0). -/
  prsnt : Bool := true
  /-- Level the module drives on Gnn_PERST_N; none while undriven. (pin driver; 02 R51, R53). -/
  driven : Option Bool := none
  /-- Hierarchies for which the module drives Gnn_WAKE_N low to the host; none while it is released. (pin driver; 02 R47, 08 R271). -/
  wakeFor : List Nat := []
  /-- End of the 8-beat undriven sampling before PERST_N is driven. (64 bit beat; 02 R51). -/
  checkDue : Option Nat := none
  /-- First beat at which the 781,250-beat hold of PERST_N is over. (64 bit beat; 02 R52). -/
  holdUntil : Nat := 0
  /-- Cause 1 holds: the group's ports are kept disabled. (1 bit; 02 R51). -/
  contention : Bool := false
  /-- Cause 2 holds: the I2C segment is lost. (1 bit; 02 R57). -/
  lost : Bool := false
  /-- Failed transactions since start. (32 bit; 02 D:30nn.E2). -/
  failedSlots : Nat := 0
  /-- Consecutive failed slots. (8; 02 R57). -/
  consecFailed : Nat := 0
  /-- Last good input registers. (16 bit; 02 D:30nn.E3). -/
  inputs : Nat := 0
  /-- Input bits changed by the last good poll, converted at the next boundary. (16 bit; 08 R266). -/
  changed : Nat := 0
  /-- Output value to be written to the expander. (16 bit; 08 R264, R265). DESIGN CHOICE: the spec gives no reset value (log entry 1). -/
  outputs : Nat := 0
  /-- Output value the expander last acknowledged. (16 bit; 08 R268). DESIGN CHOICE: the spec gives no reset value (log entry 1). -/
  acked : Nat := 0
  /-- Output value that the write in the current slot carries. (16 bit; 02 R56). -/
  writing : Nat := 0
  /-- The direction registers have been written since the segment started: the output pins are driven. (1 bit; 08 R265). -/
  directed : Bool := false
  /-- An output write waits for its slot. (1 bit; 02 R56). -/
  writePending : Bool := false
  /-- The previous slot carried a write. (1 bit; 02 R56). -/
  lastWasWrite : Bool := false
  /-- The previous slot carried a poll that failed, which is repeated. (1 bit; 02 R57). -/
  repoll : Bool := false
  /-- Beat of the last good poll. (64 bit beat; 08 R266). -/
  polledAt : Nat := 0
  /-- Beat at which the present poll slot began. (64 bit beat; 02 R56). -/
  slotBeat : Option Nat := none
  /-- Transaction in the current slot. (4 values; 02 R56). -/
  slot : I2cSlot := .idle
  /-- Configuration writes still owed after a start or a recovery (2: outputs, 1: directions). (0 to 2; 08 R265). -/
  configSteps : Nat := 0
deriving DecidableEq, Repr

/-- Edge pins, reference clock and die temperature (chapter 02). -/
structure Board where
  /-- SLOT_ID[3:0] latched at cold start. (4 bit; 02 R65, D:A010.01). DESIGN CHOICE: the spec gives no reset value (log entry 1). -/
  slotId : Nat := 0
  /-- The external reference is in use. (1 bit; 02 R67, D:A010.02). -/
  refExternal : Bool := false
  /-- Switches to the internal oscillator. (32 bit; 02 R68, D:A010.04). -/
  refLosses : Nat := 0
  /-- Level of MODRST_N (pull-up: high). (pin; 02 R61, D:A010.05). -/
  modrst : Bool := true
  /-- FAULT_N is driven low. (pin; 02 R63). -/
  faultLow : Bool := false
  /-- TWIN_ALERT_N is driven low. (pin; 02 R60). -/
  alertLow : Bool := false
  /-- TWIN_ALERT_IN_N is accepted as asserted. (pin; 02 R60). -/
  alertInLow : Bool := false
  /-- Level of GARNET_PRSNT_N (pull-up: high, no cable). (pin; 02 R59). -/
  garnetPrsnt : Bool := true
  /-- Sensor readings in 0.1 degree C. (8 x 32 bit; 02 R71, D:2100.02). DESIGN CHOICE: the spec gives no reset value (log entry 1). -/
  temps : Tbl Int := []
  /-- The sensor's last reading was 115 degrees C or more. (8 x 1 bit; 02 R71). -/
  hot : Tbl Bool := []
  /-- Throttle level in percent. (8 bit; 02 R69, D:2101.02). -/
  throttle : Nat := 100
  /-- Step-downs since start. (32 bit; 02 R69, D:2101.03). -/
  throttleSteps : Nat := 0
deriving DecidableEq, Repr

/-- One 48 V feed (chapter 03). -/
structure Feed where
  /-- Voltage in mV. (32 bit; 03 D:2000.01). DESIGN CHOICE: the spec gives no reset value (log entry 1). -/
  mv : Nat := 0
  /-- The feed is present. (1 bit; 03 R74). -/
  present : Bool := false
  /-- Its ORing FET conducts. (1 bit; 03 R75). -/
  conducting : Bool := false
  /-- Its FET was turned off by reverse current. (1 bit; 03 R75). -/
  reverseOff : Bool := false
deriving DecidableEq, Repr

/-- Gate of the electronic fuse (R78). -/
inductive Gate where
  | off | ramping | on
deriving DecidableEq, Repr

/-- Module power states (table of chapter 03). -/
inductive PowerState where
  | unpowered | ramp | starting | active | standby | safe | coolDown | latchedOff | shutdown
deriving DecidableEq, Repr

/-- The power-entry supervisor (chapter 03). -/
structure Supervisor where
  /-- P48A. (record; 03 R74). -/
  feedA : Feed := {}
  /-- P48B. (record; 03 R74). -/
  feedB : Feed := {}
  /-- Input current in mA. (32 bit; 03 D:2000.03). DESIGN CHOICE: the spec gives no reset value (log entry 1). -/
  inputMa : Nat := 0
  /-- Input power in mW. (32 bit; 03 D:2000.04). DESIGN CHOICE: the spec gives no reset value (log entry 1). -/
  inputMw : Nat := 0
  /-- Input energy since start, in µJ; D:2000.06 shows it in mJ. (64 bit; 03 D:2000.06). -/
  energyUj : Nat := 0
  /-- The fuse's gate. (3 values; 03 R78). -/
  gate : Gate := .off
  /-- The gate turns off 20 us after a trip or a shutdown. (1 bit; 03 R77, R84). -/
  gateOffOwed : Bool := false
  /-- That gate turn-off ends a trip: the cool-down follows it. (1 bit; 03 R86). -/
  tripped : Bool := false
  /-- A feed has been present, the bus within limits, for a continuous 100 ms. (1 bit; 03 R77, R91). -/
  fedLong : Bool := false
  /-- The cool-down has ended, and the retry waits for those 100 ms. (1 bit; 03 R86, R91). -/
  retryOwed : Bool := false
  /-- PG_OUT is high. (pin; 03 R82). -/
  pgOut : Bool := false
  /-- The fault timer runs. (1 bit; 03 R80). -/
  timer : Bool := false
  /-- Retry count. (8 bit; 03 R86, D:2001.01). -/
  retryCount : Nat := 0
  /-- The 2 s cool-down runs. (1 bit; 03 R86). -/
  coolDown : Bool := false
  /-- The supervisor is latched off. (1 bit; 03 R87). -/
  latched : Bool := false
  /-- The bus is in shutdown. (1 bit; 03 R77). -/
  shutdown : Bool := false
  /-- Cause of the last trip or shutdown. (8 bit; 03 D:2001.02). -/
  lastTrip : Nat := 0
  /-- Trips held in the retained store. (32 bit; 03 D:2001.03). -/
  trips : Nat := 0
  /-- Trip, shutdown and latch-off events recorded since the previous start. (counts by source 114 to 118; 03 R94). -/
  records : Tbl Nat := []
  /-- The retained state is intact. (1 bit; 03 R90, R91). -/
  retained : Bool := false
  /-- Latched bit of the latch record. (1 bit; 03 R93, D:2001.05). -/
  recLatched : Bool := false
  /-- Release cause of the latch record. (2 bit; 03 R93, D:2001.04). -/
  recRelease : Nat := 0
  /-- Result of the capacitor check. (1 bit; 03 R95, D:2001.06). DESIGN CHOICE: the spec gives no reset value (log entry 1). -/
  capOk : Bool := false
  /-- Power state. (9 values; 03 table Module power states). -/
  state : PowerState := .unpowered
  /-- Beat at which the release pattern on TWIN_ALERT_N began, while it is driven. (64 bit beat; 03 R92). -/
  patternFrom : Option Nat := none
  /-- Units gated in this beat (unit numbers: attachment a; 100 + bank; 200 + cluster; 300 + ledger bank). (per unit; 03 R99). -/
  gated : Tbl Bool := []
  /-- Attachments that saw a frame in this beat. (unit numbers; 03 R99). The model's own field. -/
  traffic : List Nat := []
deriving DecidableEq, Repr

/-- One firmware image in flash (chapter 04). -/
structure Image where
  /-- Stored blocks, by offset in KiB. (1 KiB blocks; 04 D:2221.02). DESIGN CHOICE: the spec gives no reset value (log entry 1). -/
  blocks : Tbl Nat := []
  /-- Version string, its bytes as one number. (str(32); 04 D:2220.02). DESIGN CHOICE: the spec gives no reset value (log entry 1). -/
  version : Nat := 0
  /-- Result of the last verification. (1 bit; 04 R122, D:2220.05). DESIGN CHOICE: the spec gives no reset value (log entry 1). -/
  valid : Bool := false
deriving DecidableEq, Repr

/-- One flash copy of the stored dictionary (chapter 04). -/
structure StoredCopy where
  /-- Generation number. (32 bit; 04 R120). DESIGN CHOICE: the spec gives no reset value (log entry 1). -/
  generation : Nat := 0
  /-- Its CRC-32 passes. (1 bit; 04 R120). DESIGN CHOICE: the spec gives no reset value (log entry 1). -/
  crcOk : Bool := false
  /-- The saved values. (saved entries; 04 R120, 20 R677). DESIGN CHOICE: the spec gives no reset value (log entry 1). -/
  entries : Tbl Nat := []
deriving DecidableEq, Repr

/-- Start state of D:2200.01 (R135). -/
inductive StartState where
  | sprout | bist | calibration | firmware | configuration | ready | confirmed | limited
deriving DecidableEq, Repr

/-- The step that a start waits for (R109, R114); none once Release is done. -/
inductive StartPhase where
  | none | cold | warm | bist | calibration | firmware | configuration | release
deriving DecidableEq, Repr

/-- Starts, images, retained record and stored dictionary (chapter 04). -/
structure StartUnit where
  /-- Start state. (8 values; 04 D:2200.01). -/
  state : StartState := .sprout
  /-- Start kind. (0 to 2; 04 D:2200.02). DESIGN CHOICE: the spec gives no reset value (log entry 1). -/
  kind : Nat := 0
  /-- Start cause. (0 to 6; 04 D:2200.03). DESIGN CHOICE: the spec gives no reset value (log entry 1). -/
  cause : Nat := 0
  /-- Work the start waits for. (8 values; 04 R109, R114). -/
  phase : StartPhase := .none
  /-- Source of the live configuration. (1 to 3; 04 D:2200.04). DESIGN CHOICE: the spec gives no reset value (log entry 1). -/
  source : Nat := 0
  /-- Running image; 3 when no image is valid. (0 to 3; 04 R122, D:2200.05). DESIGN CHOICE: the spec gives no reset value (log entry 1). -/
  running : Nat := 0
  /-- Slot used by the last failed start. (0 to 1; 04 R123). -/
  lastFailedSlot : Nat := 0
  /-- Failed-start count. (0 to 3; 04 R126, D:2200.06). -/
  failed : Nat := 0
  /-- This start has been counted as failed. (1 bit; 04 R126). -/
  counted : Bool := false
  /-- Time from t0 to Ready in ms. (32 bit; 04 D:2200.07). DESIGN CHOICE: the spec gives no reset value (log entry 1). -/
  readyMs : Nat := 0
  /-- Time from t0 to links ready in ms. (32 bit; 04 D:2200.08). -/
  linksReadyMs : Nat := 0
  /-- Starts since Sprout last gained supply. (32 bit; 04 D:2200.09). -/
  starts : Nat := 0
  /-- Watchdog expiries since Sprout last gained supply. (32 bit; 04 D:2211.02). -/
  expiries : Nat := 0
  /-- The firmware watchdog is armed. (1 bit; 04 R109, R107). -/
  watchdog : Bool := false
  /-- Slot A. (record; 04 D:2220.02). -/
  slotA : Image := {}
  /-- Slot B. (record; 04 D:2220.03). -/
  slotB : Image := {}
  /-- Golden image. (record; 04 D:2220.04). -/
  golden : Image := {}
  /-- The last verify failed. (1 bit; 04 D:2220.05 bit 3). -/
  verifyFailed : Bool := false
  /-- Offset of the next image block. (32 bit; 04 D:2221.01). -/
  blockOffset : Nat := 0
  /-- The retained record is valid. (1 bit; 04 R117). -/
  recValid : Bool := false
  /-- Configuration part of the retained record. (up to 176 KiB; 04 R117). -/
  recConfig : Tbl Nat := []
  /-- Calibration part of the retained record, by lane. (up to 48 KiB; 04 R117). -/
  recCalib : Tbl Nat := []
  /-- Firmware is rewriting the record. (1 bit; 04 R117, R119). -/
  recWriting : Bool := false
  /-- A setting was accepted; the record is marked invalid at the next boundary. (1 bit; 04 R117). -/
  recMark : Bool := false
  /-- First flash copy. (record; 04 R120). -/
  copyA : StoredCopy := {}
  /-- Second flash copy. (record; 04 R120). -/
  copyB : StoredCopy := {}
  /-- Store status. (0 to 3; 04 D:2230.03). -/
  storeStatus : Nat := 0
  /-- Fundamental reset asserted on the group. (40 x 1 bit; 04 R134, D:2240). -/
  groupPerst : Tbl Bool := []
deriving DecidableEq, Repr

/-- One serial lane; 0 to 319 are L000 to L319, 320 to 327 are GT0 to GT7 (chapter 05). -/
structure Lane where
  /-- Lane state: 0 off, 1 to 5 stage, 6 excluded, 7 not in a port, 8 held. (0 to 8; 05 D:30nn.k0). -/
  state : Nat := 0
  /-- Mode code. (0 to 12; 05 R137, D:30nn.k1). -/
  mode : Nat := 0
  /-- Transmitter's direction state. (4 values; 05 R155, D:30nn.k2). -/
  tx : LaneDir := .off
  /-- Receiver's direction state. (4 values; 05 R155, D:30nn.k3). -/
  rx : LaneDir := .off
  /-- Transmitter coefficient c-2 in 1/64. (8 bit; 05 R143). DESIGN CHOICE: the spec gives no reset value (log entry 1). -/
  cm2 : Int := 0
  /-- Transmitter coefficient c-1. (8 bit; 05 R143). DESIGN CHOICE: the spec gives no reset value (log entry 1). -/
  cm1 : Int := 0
  /-- Transmitter coefficient c0: the magnitudes sum to 64. (8 bit; 05 R143). DESIGN CHOICE: the spec gives no reset value (log entry 1). -/
  c0 : Int := 64
  /-- Transmitter coefficient c+1. (8 bit; 05 R143). DESIGN CHOICE: the spec gives no reset value (log entry 1). -/
  cp1 : Int := 0
  /-- Receiver equalizer settings. (32 bit; 05 R144, D:30nn.k5). DESIGN CHOICE: the spec gives no reset value (log entry 1). -/
  rxEq : Nat := 0
  /-- The other receiver taps: decision-feedback taps 2 to 8 at 2 to 8, feed-forward taps 1 to 16 at 9 to 24. (signed steps; 05
  R144). DESIGN CHOICE: the spec gives no reset value (log entry 1). -/
  taps : Tbl Int := []
  /-- Inverted polarity is corrected. (1 bit; 06 R184, D:30nn.k6). -/
  polarity : Bool := false
  /-- Attributed errors since start. (32 bit; 05 D:30nn.k7). -/
  errors : Nat := 0
  /-- Attributed errors in the current window. (32 bit; 05 R159). -/
  window : Nat := 0
  /-- Highest window count. (32 bit; 05 D:30nn.k8). -/
  peak : Nat := 0
  /-- Fail cause. (0 to 11; 05 D:30nn.k9). -/
  failCause : Nat := 0
  /-- Exclusions since cold start. (32 bit; 05 D:30nn.kA). -/
  failCount : Nat := 0
  /-- The transmitter precodes. (1 bit; 05 R141, D:30nn.kB). -/
  precodeTx : Bool := false
  /-- The receiver decodes. (1 bit; 05 R141, D:30nn.kB). -/
  precodeRx : Bool := false
  /-- Transmit precoder p(n-1). (2 bit; 05 R140, R142). -/
  lastTx : Nat := 0
  /-- Receive precoder p(n-1). (2 bit; 05 R140, R142). -/
  lastRx : Nat := 0
  /-- Excluded by command. (1 bit; 05 R172, D:30nn.kC). -/
  excludeCmd : Bool := false
  /-- Consecutive good control words of this stage with ready set. (0 to 8; 05 R151). -/
  goodWords : Nat := 0
  /-- The module sends ready. (1 bit; 05 R150). -/
  ready : Bool := false
  /-- Detected in this stage 1. (1 bit; 05 R152). -/
  detected : Bool := false
  /-- The stage 4 error target is met. (1 bit; 05 R153). -/
  errOk : Bool := false
  /-- The partner's last good control word. (64 bit; 05 R150). -/
  partner : Nat := 0
  /-- Answer to the partner's last request. (0 to 2; 05 R150). -/
  response : Nat := 0
  /-- Request sent to the partner's transmitter. (0 to 8; 05 R150). -/
  request : Nat := 0
  /-- Preset of that request. (0 to 7; 05 R150). -/
  reqPreset : Nat := 0
  /-- Consecutive blocks in which the answer to that request was seen. (0 to 2; 05 R150). -/
  answered : Nat := 0
  /-- Beat by which a receiver that leaves an idle state must have locked. (64 bit beat; 05 R158). -/
  rxExit : Option Nat := none
  /-- Rate that the partner proposed in its last good control word of stage 3. (0 to 3; 05 R688). -/
  proposal : Nat := 0
  /-- Last 31 bits of the PRBS31 that the lane sends. (31 bit; 05 R149). DESIGN CHOICE: the spec gives no reset value (log entry 1). -/
  prbsTx : Nat := 0x7FFFFFFF
  /-- Last 31 bits of the PRBS31 that the receiver expects. (31 bit; 05 R153). DESIGN CHOICE: the spec gives no reset value (log entry 1). -/
  prbsRx : Nat := 0
  /-- Bits compared in the running error measurement of stage 4. (bits; 05 R153). -/
  prbsCount : Nat := 0
  /-- Errors found in that measurement. (errors; 05 R153). -/
  prbsErrors : Nat := 0
  /-- Beat of the last background adaptation step of each parameter. (64 bit beat by parameter; 05 R145). -/
  adaptAt : Tbl Nat := []
  /-- Beat at which the error window began. (64 bit beat; 05 R159). -/
  windowSince : Nat := 0
deriving DecidableEq, Repr

/-- Link power states (R193). -/
inductive LinkPower where
  | l0 | l0s | l0p | l1 | l11 | l12 | l2
deriving DecidableEq, Repr

/-- One port; 0 to 159 are P000 to P159, 160 is the Garnet link (chapters 05, 06, 10). -/
structure Port where
  /-- Port state before containment is shown. (0 to 6; 06 D:34pp.10). -/
  state : Nat := 0
  /-- Bring-up stage; 0 when not training. (0 to 5; 05 R147). -/
  stage : Nat := 0
  /-- Beat at which the stage began. (64 bit beat; 05 R147). -/
  stageSince : Nat := 0
  /-- Beat at which the first lane was detected. (64 bit beat; 05 R152). -/
  firstDetect : Option Nat := none
  /-- Trunk rate proposed by this end. (mode code; 05 R688). -/
  targetRate : Nat := 0
  /-- Beat of the detection that began a narrowing or retrain. (64 bit beat; 05 R164). -/
  narrowSince : Option Nat := none
  /-- A PCIe link that was up is in Recovery. (1 bit; 05 R148, 06 R183). -/
  recovery : Bool := false
  /-- Width now. (0 to 5; 06 D:34pp.11). -/
  width : Nat := 0
  /-- Rate now. (mode code; 06 D:34pp.12). -/
  rate : Nat := 0
  /-- Flit mode now. (1 bit; 06 D:34pp.13). -/
  flit : Bool := false
  /-- CXL version now. (0 to 3; 06 D:34pp.14). -/
  cxl : Nat := 0
  /-- Negotiated protocols. (8 bit; 06 D:34pp.15). -/
  protocols : Nat := 0
  /-- Flit size that the link's CXL protocol uses: 256 or 68, 0 without CXL. (bytes; 06 R189). -/
  cxlFlit : Nat := 0
  /-- L0p was negotiated. (1 bit; 06 R197). -/
  l0p : Bool := false
  /-- Transmit width under L0p. (0 to 5; 06 R197, D:34pp.16). -/
  txWidth : Nat := 0
  /-- Receive width under L0p. (0 to 5; 06 R197, D:34pp.16). -/
  rxWidth : Nat := 0
  /-- A widening of the transmit direction is in progress. (1 bit; 06 R197). -/
  widening : Bool := false
  /-- Link-down events since start. (32 bit; 06 D:34pp.18). -/
  linkDowns : Nat := 0
  /-- Last down cause. (0 to 8; 06 D:34pp.19). -/
  downCause : Nat := 0
  /-- Link IDE state. (0 to 3; 06 R198, D:34pp.1A). -/
  ide : Nat := 0
  /-- Beat of the last key generation. (64 bit beat; 06 R198). -/
  ideRefresh : Nat := 0
  /-- Link power state. (7 values; 06 R193). -/
  power : LinkPower := .l0
  /-- Beat since which the port has been idle in both directions. (64 bit beat; 06 R195). -/
  idleSince : Nat := 0
  /-- ASPM states enabled by the link's owner in Link Control. (4 bit; 06 R194). -/
  ownerAspm : Nat := 0
  /-- Held down by DPC. (1 bit; 08 R275). -/
  heldDpc : Bool := false
  /-- Held by a contain-port reaction. (1 bit; 17 R592, D:34pp.50). -/
  heldFault : Bool := false
  /-- Domains whose containment holds it. (domain numbers; 14 R516). -/
  heldDomains : List Nat := []
  /-- Link partner's header credit left, by class 0 to 3; messages for L3. (per class; 07 R212, R694). -/
  creditHeaders : Tbl Nat := []
  /-- Link partner's data credit left, by class 0 to 2, in units of 16 B. (per class; 07 R212, R694). -/
  creditData : Tbl Nat := []
  /-- Bytes in the egress staging. (bytes; 07 R212). -/
  staging : Nat := 0
  /-- Bytes at the end of the staging of a store-and-forward frame that is not whole there. (bytes; 07 R219). -/
  stagingHeld : Nat := 0
  /-- Frames whose last cell is in the staging: the bytes up to their end, and their epoch tag. (list; 01 R27). -/
  leaving : List (Nat × Nat) := []
  /-- Time in ns at which a stall of the frame in transmission began. (ns; 07 R220). -/
  stallSince : Option Nat := none
  /-- Cut-through from the port is suspended. (1 bit; 07 R221, D:40qq.05). -/
  ctSuspended : Bool := false
  /-- Beat credit by class (0 to 3 L0 to L3, 4 to 7 B0 to B3). (per class, bytes; 07 R215). -/
  credit : Tbl Int := []
  /-- The link has gone down, and its frames and entries are handled at the next boundary. (1 bit; 08 R289). -/
  downOwed : Bool := false
  /-- The lanes are reversed. (1 bit; 06 R185). -/
  reversed : Bool := false
deriving DecidableEq, Repr

/-- Where a frame's cells are charged (R228, R231); the waiting frame is not charged yet. -/
inductive Charge where
  | waiting | shared | reservation | minimum
deriving DecidableEq, Repr

/-- One frame in the module, cut into cells (chapter 07). -/
structure Frame where
  /-- Name of the frame in this model. (model's name; 07 R205). The model's own field. -/
  id : Nat := 0
  /-- Ingress port; 160 + i is internal port Ii. (0 to 176; 07 R208, R210). -/
  ingress : Nat := 0
  /-- Egress port. (0 to 176; 07 R210). -/
  egress : Nat := 0
  /-- Buffer class: 0 to 3 L0 to L3, 4 to 7 B0 to B3. (0 to 7; 07 R209). -/
  cls : Nat := 0
  /-- Whole size as the header gives it. (bytes; 07 R205). -/
  size : Nat := 0
  /-- ceil(size / 256). (1 to 17; 07 R205). -/
  cells : Nat := 1
  /-- Cells formed. (0 to 17; 07 R212). -/
  formed : Nat := 0
  /-- Cells granted. (0 to 17; 07 R213). -/
  sent : Nat := 0
  /-- All cells written and ingress checks passed. (1 bit; 07 R212). -/
  checked : Bool := false
  /-- Decided cut-through. (1 bit; 07 R217). -/
  cutThrough : Bool := false
  /-- Where its cells are charged. (4 places; 07 R228, R231). -/
  charge : Charge := .waiting
  /-- Entry epoch tag. (2 bit; 01 R23). -/
  tag : Nat := 0
  /-- Domain of a bulk frame. (12 bit; 07 R231). -/
  domain : Option Nat := none
  /-- L3: charged to the response half. (1 bit; 07 R225). -/
  response : Bool := false
  /-- Relaxed ordering lets it pass older L0 frames. (1 bit; 07 R211). -/
  relaxed : Bool := false
  /-- ID-based ordering lets it pass older L0 frames of other IDs. (1 bit; 07 R211). -/
  ido : Bool := false
  /-- A cell of it has been granted, also in a transmission that was terminated. (1 bit; 07 R233, R234). -/
  granted : Bool := false
  /-- Congestion mark. (1 bit; 07 R235). -/
  marked : Bool := false
  /-- Data poisoned. (1 bit; 07 R242). -/
  poisoned : Bool := false
  /-- Banks that hold its cells. (bank per cell; 07 R243). -/
  banks : List Nat := []
  /-- Source edge. (12 bit; 07 R237). -/
  src : Nat := 0
  /-- Destination edge. (12 bit; 07 R237). -/
  dst : Nat := 0
  /-- 0 TLP, 1 Beryl, 2 Posted Write Fault, 3 CXL message. (0 to 3; 07 R237, 10 R344). -/
  kind : Nat := 0
  /-- Flow label. (32 bit; 07 R237). -/
  flow : Nat := 0
  /-- Age on entry. (beats; 10 R346). -/
  age : Nat := 0
  /-- Beat of entry. (64 bit beat; 10 R346). -/
  entered : Nat := 0
  /-- Flow-hash bucket it used. (set * 64 + bucket; 07 R238). -/
  bucket : Option Nat := none
  /-- Header of a TLP. (header; 08 R255). -/
  tlp : Tlp := {}
  /-- Header of a Beryl frame. (header; 13 R456). -/
  beryl : BFrame := {}
  /-- The words after the header of a frame that came by a trunk, as they have arrived. (words; 10 R343). -/
  words : List Nat := []
  /-- Window passed. (10 bit; 09 R307). -/
  window : Option Nat := none
  /-- Why the ingress refuses it, 0 when it does not (log entry 8). (reason; 07 R232). The model's own field. -/
  refuse : Nat := 0
  /-- Posted Write Fault cause at a landing. (0 to 6; 09 R320). -/
  cause : Nat := 0
  /-- Sequence number on its trunk egress link. (12 bit; 10 R357). -/
  seqNo : Nat := 0
  /-- Header as the requester sent it, before a window's translation. (header; 08 R279). -/
  near : Tlp := {}
deriving DecidableEq, Repr

/-- One flow-hash bucket of one path set (chapter 07). -/
structure Bucket where
  /-- Effective path (once a frame has been carried). (3 bit; 07 R239). -/
  effective : Nat := 0
  /-- It has carried a frame since start. (1 bit; 07 R239). -/
  carried : Bool := false
  /-- Last-departure stamp. (64 bit beat; 07 R239). -/
  stamp : Nat := 0
  /-- Pinned to its effective path. (1 bit; 07 R239, D:40E2). -/
  pinned : Bool := false
  /-- Failed. (1 bit; 07 R240, D:40E3). -/
  failed : Bool := false
deriving DecidableEq, Repr

/-- One eye-scan slot (chapter 05). -/
structure Scan where
  /-- Scan status. (0 to 5; 05 D:A02s.0B). -/
  status : Nat := 0
  /-- Points in the scan. (32 bit; 05 D:A02s.0C). -/
  total : Nat := 0
  /-- Points completed. (32 bit; 05 D:A02s.0D). -/
  done : Nat := 0
  /-- Full scale latched at start, in mV. (16 bit; 05 D:A02s.0E). DESIGN CHOICE: the spec gives no reset value (log entry 1). -/
  fullScale : Nat := 0
  /-- Parameters latched at start. (by subindex 1 to 8; 05 R174). -/
  params : Tbl Nat := []
  /-- Point records. (64-bit records; 05 R170, D:A03s). -/
  records : Tbl Nat := []
deriving DecidableEq, Repr

/-- Switch core and shared buffer (chapter 07). -/
structure Core where
  /-- Frames in the module, oldest first; a virtual output queue is its sublist for one ingress, egress and class. (queue order; 07 R210). -/
  frames : List Frame := []
  /-- Next frame name. (model's counter; -). The model's own field. -/
  nextId : Nat := 0
  /-- 0 usable, 1 retiring, 2 retired. (64 x 2 bit; 07 D:4011). -/
  bankState : Tbl Nat := []
  /-- Rotation over the usable banks. (6 bit; 07 R243). -/
  nextBank : Nat := 0
  /-- Attachment retired. (40 x 1 bit; 07 R245, D:4000.08). -/
  attachRetired : Tbl Bool := []
  /-- Retirement waits for the next boundary. (40 x 1 bit; 07 R245). -/
  attachPending : Tbl Bool := []
  /-- Attachment of an internal port; unlisted: the table of R208. (17 x attachment; 07 R246, D:4020). -/
  internalAt : Tbl Nat := []
  /-- Bulk minimums are suspended. (1 bit; 07 R244, D:4000.09). -/
  suspended : Bool := false
  /-- Round-robin pointers of the matcher. (round-robin pointers; 07 R214). -/
  pointers : Tbl Nat := []
  /-- Frame in transmission at an egress (its id + 1). (frame by egress; 07 R212). -/
  xmit : Tbl Nat := []
  /-- Flow-hash buckets, by set * 64 + bucket. (256 x 64; 07 R239). -/
  buckets : Tbl Bucket := []
  /-- A trunk path (by its port) is failed or unusable. (by trunk port; 07 R240). -/
  pathFailed : Tbl Bool := []
deriving DecidableEq, Repr

/-- Standard registers that every configuration space of the module has (chapters 06, 08, 15). -/
structure CfgRegs where
  /-- I/O Space Enable. (1 bit; 08 R254). PRESUMED: the PCIe Base Specification's reset value (log entry 1). -/
  ioEn : Bool := false
  /-- Memory Space Enable. (1 bit; 08 R254). PRESUMED: the PCIe Base Specification's reset value (log entry 1). -/
  memEn : Bool := false
  /-- Max_Payload_Size of Device Control, a code. (3 bit; 06 R191). PRESUMED: the PCIe Base Specification's reset value (log entry 1). -/
  payload : Nat := 0
  /-- Max_Read_Request_Size of Device Control, a code. (3 bit; 06 R191). PRESUMED: the PCIe Base Specification's reset value (log entry 1). -/
  readRequest : Nat := 2
  /-- AER uncorrectable error mask. (32 bit; 08 R254). PRESUMED: the PCIe Base Specification's reset value (log entry 1). -/
  aerUncMask : Nat := 0x00400000
  /-- AER uncorrectable error severity. (32 bit; 08 R254). PRESUMED: the PCIe Base Specification's reset value (log entry 1). -/
  aerUncSeverity : Nat := 0x00462030
  /-- AER correctable error mask. (32 bit; 08 R254). PRESUMED: the PCIe Base Specification's reset value (log entry 1). -/
  aerCorMask : Nat := 0xE000
deriving DecidableEq, Repr

/-- One virtual downstream bridge of one hierarchy (chapter 08). -/
structure Bridge where
  /-- Presence Detect State. (1 bit; 08 R258). -/
  presence : Bool := false
  /-- Presence Detect Changed. (1 bit; 08 R258). -/
  presenceChg : Bool := false
  /-- Data Link Layer Link Active. (1 bit; 08 R258). -/
  linkActive : Bool := false
  /-- Data Link Layer State Changed. (1 bit; 08 R258). -/
  linkChg : Bool := false
  /-- Attention Button Pressed. (1 bit; 08 R267). -/
  attnPressed : Bool := false
  /-- MRL Sensor State. (1 bit; 08 R267). -/
  mrlOpen : Bool := false
  /-- MRL Sensor Changed. (1 bit; 08 R267). -/
  mrlChg : Bool := false
  /-- Power Fault Detected. (1 bit; 08 R267). -/
  powerFault : Bool := false
  /-- Command Completed. (1 bit; 08 R268). -/
  cmdCompleted : Bool := false
  /-- Power Controller Control (1 is off). (1 bit; 08 R268). DESIGN CHOICE: the spec gives no reset value (log entry 1). -/
  powerOff : Bool := true
  /-- Attention Indicator Control: 1 on, 2 blink, 3 off. (2 bit; 08 R268). DESIGN CHOICE: the spec gives no reset value (log entry 1). -/
  attnInd : Nat := 3
  /-- Power Indicator Control, likewise. (2 bit; 08 R268). DESIGN CHOICE: the spec gives no reset value (log entry 1). -/
  powerInd : Nat := 3
  /-- ACS Control the host wrote. (16 bit; 08 R272). -/
  acsControl : Nat := 0
  /-- DPC Trigger Enable. (1 bit; 08 R275). -/
  dpcEnable : Bool := false
  /-- DPC Completion Control selects Unsupported Request. (1 bit; 08 R275). -/
  dpcUr : Bool := false
  /-- DPC Interrupt Enable. (1 bit; 08 R275, 15 R552). PRESUMED: the PCIe Base Specification's reset value (log entry 1). -/
  dpcIntr : Bool := false
  /-- DPC Trigger Status. (1 bit; 08 R275). -/
  dpcTriggered : Bool := false
  /-- Trigger reason (3 with extension: software trigger). (2 bit; 08 R277). -/
  dpcReason : Nat := 0
  /-- Surprise Down in AER. (1 bit; 08 R291). -/
  surpriseDown : Bool := false
  /-- Link Disable. (1 bit; 08 R291). -/
  linkDisable : Bool := false
  /-- Secondary Bus Reset. (1 bit; 08 R291, 04 R131). -/
  busReset : Bool := false
  /-- Secondary bus number. (8 bit; 08 R254). -/
  secondary : Nat := 0
  /-- Subordinate bus number. (8 bit; 08 R254). -/
  subordinate : Nat := 0
  /-- Memory window base (base above limit: closed). (64 bit; 08 R254). DESIGN CHOICE: the spec gives no reset value (log entry 1). -/
  memBase : Nat := 1
  /-- Memory window limit. (64 bit; 08 R254). DESIGN CHOICE: the spec gives no reset value (log entry 1). -/
  memLimit : Nat := 0
  /-- Prefetchable window base. (64 bit; 08 R254). DESIGN CHOICE: the spec gives no reset value (log entry 1). -/
  prefBase : Nat := 1
  /-- Prefetchable window limit. (64 bit; 08 R254). DESIGN CHOICE: the spec gives no reset value (log entry 1). -/
  prefLimit : Nat := 0
  /-- I/O window base. (32 bit; 06 R191, 08 R254). DESIGN CHOICE: the spec gives no reset value (log entry 1). -/
  ioBase : Nat := 1
  /-- I/O window limit. (32 bit; 06 R191, 08 R254). DESIGN CHOICE: the spec gives no reset value (log entry 1). -/
  ioLimit : Nat := 0
  /-- Bus Master Enable. (1 bit; 08 R254). PRESUMED: the PCIe Base Specification's reset value (log entry 1). -/
  busMaster : Bool := false
  /-- Bridge Control, but for Secondary Bus Reset. (16 bit; 08 R254). PRESUMED: the PCIe Base Specification's reset value (log entry 1). -/
  bridgeControl : Nat := 0
  /-- Enables of Slot Control: 0 attention button, 1 power fault, 2 MRL sensor, 3 presence detect, 4 Command Completed, 5 hot-plug
  interrupt, 12 data link layer state. (16 bit; 08 R267). PRESUMED: the PCIe Base Specification's reset value (log entry 1). -/
  slotEnables : Nat := 0
  /-- MSI Enable. (1 bit; 15 R552). PRESUMED: the PCIe Base Specification's reset value (log entry 1). -/
  msiEn : Bool := false
  /-- MSI message address. (64 bit; 15 R552). PRESUMED: the PCIe Base Specification's reset value (log entry 1). -/
  msiAddr : Nat := 0
  /-- MSI message data. (16 bit; 15 R552). PRESUMED: the PCIe Base Specification's reset value (log entry 1). -/
  msiData : Nat := 0
  /-- Command, Device Control and AER registers. (record; 06 R191, 08 R254). -/
  std : CfgRegs := {}
  /-- AER uncorrectable error status. (32 bit; 08 R254). -/
  aerUnc : Nat := 0
  /-- AER correctable error status. (32 bit; 08 R254). -/
  aerCor : Nat := 0
deriving DecidableEq, Repr

/-- One hierarchy's upstream bridge and management function as a host sees them (chapters 08, 09, 15). -/
structure Hier where
  /-- Bridge count in effect since the last reset of the hierarchy. (16 bit; 08 R252, R253). -/
  bridgeCount : Nat := 16
  /-- Virtual upstream bridge: its bus numbers, windows and AER. (record; 08 R252). -/
  up : Bridge := {}
  /-- Bus number captured by the upstream bridge. (8 bit; 08 R254). -/
  busNo : Nat := 0
  /-- Hot-plug interrupts raised to the host. (count; 08 R267). -/
  hotplugIntr : Nat := 0
  /-- The hierarchy is held in reset. (1 bit; 04 R131). -/
  reset : Bool := false
  /-- PTM requests passed to the host and not yet answered, oldest first: port and requester ID. (ports; 06 R191). -/
  ptmWait : List (Nat × Nat) := []
deriving DecidableEq, Repr

/-- One downstream slot behind an expander (chapter 08). -/
structure Slot where
  /-- Accepted levels, 1 for asserted. (5 bit; 08 R266, D:34pp.20). -/
  inputs : Nat := 0
  /-- Levels of the last poll. (5 bit; 08 R266). -/
  seen : Nat := 0
  /-- Accepted changes waiting for conversion at the next boundary. (5 bit; 08 R266). -/
  pending : Nat := 0
  /-- PWREN output. (1 bit; 08 R268). -/
  pwren : Bool := false
  /-- Beat at which PWREN, driven high by an acknowledged write, has been high for 781,250 beats; none while it is not driven
  high. (64 bit beat; 08 R270). -/
  pwrenDue : Option Nat := none
  /-- The slot's PERST_N output is asserted (low). (1 bit; 08 R270). -/
  perst : Bool := true
  /-- End of the hold restarted by the last assertion. (64 bit beat; 02 R52, 08 R270). -/
  holdUntil : Nat := 0
  /-- Attention indicator: 0 off, 1 on, 2 blinking. (2 bit; 08 R268). DESIGN CHOICE: the spec gives no reset value (log entry 1). -/
  attnLed : Nat := 0
  /-- Power indicator. (2 bit; 08 R268). DESIGN CHOICE: the spec gives no reset value (log entry 1). -/
  pwrLed : Nat := 0
  /-- Present phase of a blinking output. (1 bit; 08 R268). -/
  blinkPhase : Bool := false
  /-- Beat at which that phase began. (64 bit beat; 08 R268). -/
  blinkAt : Nat := 0
  /-- Command Completed is owed when the write is acknowledged. (1 bit; 08 R268). -/
  cmdOwed : Bool := false
  /-- The write in the current slot carries the change whose Command Completed is owed. (1 bit; 08 R268). -/
  cmdSent : Bool := false
  /-- Resetting after an unbind (slot state 4). (1 bit; 08 R259). -/
  resetting : Bool := false
  /-- The pending write releases the slot's PERST_N. (1 bit; 08 R270). -/
  releaseOwed : Bool := false
  /-- Device identity read while unbound. (64 bit; 08 R262, D:34pp.25). -/
  ident : Nat := 0
  /-- Logical devices blocked by DPC of their slice. (16 bit; 08 R276). -/
  blocked : Nat := 0
deriving DecidableEq, Repr

/-- Budgets of the transaction tracker (R281). -/
inductive Budget where
  | vh (v : Nat) | trunk | master
deriving DecidableEq, Repr

/-- One transaction-tracker entry that is not Free (chapter 08). -/
structure Track where
  /-- Entry index (the xid over a trunk). (18 bit; 08 R278). -/
  index : Nat := 0
  /-- Expired (else Outstanding). (1 bit; 08 R280). -/
  expired : Bool := false
  /-- Budget charged. (class and number; 08 R281). -/
  budget : Budget := .trunk
  /-- Port toward the requester (return route). (0 to 176; 08 R278). -/
  reqPort : Nat := 0
  /-- Port toward the completer. (0 to 176; 08 R289). -/
  cplPort : Nat := 0
  /-- Logical device of a requester on a downstream port. (4 bit; 08 R276, R289). -/
  reqLd : Nat := 0
  /-- Logical device of the completer. (4 bit; 08 R276, R289). -/
  cplLd : Nat := 0
  /-- Requester ID. (16 bit; 08 R279). -/
  reqId : Nat := 0
  /-- Requester's tag. (14 bit; 08 R279). -/
  tagNo : Nat := 0
  /-- Far tag assigned through a window. (14 bit; 09 R308). -/
  farTag : Option Nat := none
  /-- Window passed. (10 bit; 09 R307). -/
  window : Option Nat := none
  /-- Remaining byte count. (bytes; 08 R278). -/
  remaining : Nat := 0
  /-- Address of the request at the far side. (64 bit; 09 R311). -/
  addr : Nat := 0
  /-- A CXL.mem write. (1 bit; 08 R285). -/
  write : Bool := false
  /-- A CXL.mem request. (1 bit; 08 R285). -/
  cxlMem : Bool := false
  /-- Deadline beat. (64 bit beat; 08 R283). -/
  deadline : Nat := 0
  /-- End of quarantine once Expired. (64 bit beat; 08 R286). -/
  freeAt : Nat := 0
  /-- A prefetch read that no requester asked for. (1 bit; 09 R311, 11 R387). -/
  prefetch : Bool := false
  /-- xid of the request that arrived over a trunk. (18 bit; 10 R349). -/
  xid : Option Nat := none
  /-- Edge to which the completion is returned over a trunk. (12 bit; 10 R349). -/
  edge : Nat := 0
  /-- Hierarchy whose memory a master request reaches. (6 bit; 15 R554). -/
  mvh : Option Nat := none
  /-- Instance for which a master request was made. (12 bit; 15 R554). -/
  minst : Option Nat := none
  /-- Extent of a CXL.mem request to a private endpoint. (12 bit; 11 R387). -/
  extent : Option Nat := none
  /-- A configuration read of an unbound device; addr is its register. (1 bit; 08 R262). -/
  config : Bool := false
  /-- Host port by which a completion that was redirected up returns. (port; 08 R272, R273). -/
  via : Option Nat := none
  /-- The request is a memory read. (1 bit; 09 R311). -/
  read : Bool := false
deriving DecidableEq, Repr

/-- A CXL.mem request to a private endpoint, decoded under its entry epoch (chapter 11). -/
structure MemReq where
  /-- VH. (6 bit; 11 R381). -/
  host : Nat := 0
  /-- Extent, if the address falls in one. (12 bit; 11 R378). -/
  extent : Option Nat := none
  /-- Member device. (8 bit; 11 R378). -/
  dev : Nat := 0
  /-- Device address. (64 bit; 11 R378). -/
  dpa : Nat := 0
  /-- Endpoint address. (64 bit; 11 R380). -/
  addr : Nat := 0
  /-- A write. (1 bit; 11 R381). -/
  write : Bool := false
  /-- Host's tag. (16 bit; 11 R381). -/
  tagNo : Nat := 0
  /-- Data of a write. (512 bit; 11 R381). -/
  data : Nat := 0
  /-- Bytes that a write writes. (64 bit; 11 R381). -/
  mask : Nat := 2 ^ 64 - 1
  /-- Poison of a write. (1 bit; 11 R381). -/
  poison : Bool := false
  /-- Entry epoch tag. (2 bit; 01 R23). -/
  tag : Nat := 0
deriving DecidableEq, Repr

/-- A coherence request that waits (chapter 12). -/
structure Request where
  /-- Class of the message. (host message class; 12 R396). -/
  op : CxlOp := .rds
  /-- Sending VH. (6 bit; 12 R396). -/
  host : Nat := 0
  /-- WbKeep with MetaValue S (else A). (1 bit; 12 R411). -/
  toShared : Bool := false
  /-- Data carried. (512 bit; 12 R396). -/
  data : Nat := 0
  /-- Bytes that the data writes: all but of a MemWrPtl. (64 bit; 12 R396, R413). -/
  mask : Nat := 2 ^ 64 - 1
  /-- The opcode, MetaField or MetaValue is none of those listed. (1 bit; 12 R396). -/
  unlisted : Bool := false
  /-- Tracker entry of a read request. (18 bit; 12 R693). -/
  track : Option Nat := none
  /-- Tag of the host's message. (16 bit; 12 R397). -/
  tagNo : Nat := 0
  /-- Entry epoch tag. (2 bit; 01 R23). -/
  tag : Nat := 0
deriving DecidableEq, Repr

/-- A coherent read that waits for its tracker entry (chapter 12). -/
structure CohReq where
  /-- Region. (8 bit; 12 R693). -/
  region : Nat := 0
  /-- Page. (34 bit; 12 R693). -/
  page : Nat := 0
  /-- Line. (6 bit; 12 R693). -/
  line : Nat := 0
  /-- The request. (record; 12 R693). -/
  req : Request := {}
deriving DecidableEq, Repr

/-- A non-posted request that waits for a tracker entry or a far tag (chapters 08, 09). -/
structure Waiting where
  /-- The waiting frame. (frame name; 08 R281). -/
  frame : Nat := 0
  /-- Budget it is charged to. (class and number; 08 R281). -/
  budget : Budget := .trunk
  /-- It waits for a far tag, not for an entry. (1 bit; 09 R308). -/
  farTag : Bool := false
  /-- It waits for an Expired entry with its identity. (1 bit; 08 R287). -/
  reuse : Bool := false
  /-- A CXL.mem request to a private endpoint that waits instead of a frame. (record; 11 R381). -/
  mem : Option MemReq := none
  /-- A coherent read that waits at its port stop instead of a frame. (record; 12 R693). -/
  coh : Option CohReq := none
deriving DecidableEq, Repr

/-- Prefetched window data that is held (chapter 09). -/
structure Hold where
  /-- Window. (10 bit; 09 R311). -/
  window : Nat := 0
  /-- First far address held. (64 bit; 09 R311). -/
  start : Nat := 0
  /-- Bytes held. (bytes; 09 R311). -/
  len : Nat := 0
  /-- Beat of the final completion. (64 bit beat; 09 R312). -/
  since : Nat := 0
  /-- The data has arrived. (1 bit; 09 R311). -/
  ready : Bool := false
  /-- A demand read was completed from it. (1 bit; 09 R312). -/
  used : Bool := false
deriving DecidableEq, Repr

/-- Registers of one doorbell channel (chapter 09). -/
structure Channel where
  /-- Status: bit 31 peer_event, bits 30 to 0 doorbell. (32 bit; 09 R316). -/
  status : Nat := 0
  /-- Mask. (32 bit; 09 R316). -/
  mask : Nat := 0
  /-- Value evaluated at the previous boundary. (32 bit; 09 R317). -/
  evaluated : Nat := 0
deriving DecidableEq, Repr

/-- A Posted Write Fault sent lately, for suppression (chapter 09). -/
structure PwfRecord where
  /-- Source edge. (12 bit; 09 R321). -/
  edge : Nat := 0
  /-- Requester ID. (16 bit; 09 R321). -/
  reqId : Nat := 0
  /-- Page. (52 bit; 09 R321). -/
  page : Nat := 0
  /-- Beat of the report. (64 bit beat; 09 R321). -/
  beat : Nat := 0
deriving DecidableEq, Repr

/-- Hierarchies, binding, tracker and windows (chapters 08, 09). -/
structure Fabric where
  /-- Hierarchies by VH number. (64 records; 08 R252). -/
  hiers : Tbl Hier := []
  /-- Virtual downstream bridges by vh * 256 + b. (64 x 256 records; 08 R252). -/
  bridges : Tbl Bridge := []
  /-- Slots by port number. (by port; 08 R264). -/
  slots : Tbl Slot := []
  /-- Tracker entries that are not Free. (up to 262,144; 08 R278, R280). -/
  track : List Track := []
  /-- Where the search for a free entry index begins. (18 bit; 08 R278). The model's own field. -/
  nextIndex : Nat := 0
  /-- Requests that wait, oldest first. (arrival order; 08 R281). -/
  waiting : List Waiting := []
  /-- Round-robin turn among budgets. (budget number; 08 R281). -/
  turn : Nat := 0
  /-- Held window prefetch data. (-; 09 R311). -/
  holds : List Hold := []
  /-- Doorbell channel registers. (1,024 records; 09 R315). -/
  channels : Tbl Channel := []
  /-- Reports of the last 64 beats. (-; 09 R321). -/
  pwfRecent : List PwfRecord := []
deriving DecidableEq, Repr

/-- Link-layer sender states (R364). -/
inductive SendState where
  | down | sending | replaying | retraining
deriving DecidableEq, Repr

/-- Link-layer receiver states (R365). -/
inductive RecvState where
  | down | inSync | resync
deriving DecidableEq, Repr

/-- What a trunk receiver does with the words that come (R341, R365): it stands between frames, has lost track of them, collects
a header, takes in the expected frame, lets an expected frame pass that it accepts and does not keep, or lets one pass that it
does not accept. -/
inductive RxMode where
  | between | lost | header | expected | dropped | skipped
deriving DecidableEq, Repr

/-- What waits to be put into flits (R341, R366): a word of a frame, with the frame's sequence number and whether the frame
begins with it, or the abort of the frame before. -/
inductive TxItem where
  | word (seqNo : Nat) (begins : Bool) (value : Nat)
  | abort
deriving DecidableEq, Repr

/-- Link layer of one trunk port; port 160 is the Garnet link's flit layer (chapter 10). -/
structure Trunk where
  /-- Sender state. (4 values; 10 R364). -/
  sender : SendState := .down
  /-- Receiver state. (3 values; 10 R365). -/
  receiver : RecvState := .down
  /-- Next sequence number. (12 bit; 10 R357). -/
  ns : Nat := 0
  /-- Last acknowledged sequence number AS. (12 bit; 10 R357). -/
  ackSeq : Nat := 4095
  /-- Replay count. (0 to 16; 10 R357). -/
  replays : Nat := 0
  /-- Expected sequence number. (12 bit; 10 R358). -/
  es : Nat := 0
  /-- ack_valid: a frame has been accepted since the link came up. (1 bit; 10 R340). -/
  accepted : Bool := false
  /-- Replay buffer, oldest first. (256 or 512 KiB; 10 R357). -/
  buffer : List Frame := []
  /-- The replay timer runs. (1 bit; 10 R360). -/
  timerOn : Bool := false
  /-- Start of the current replay. (ns; 10 R362). -/
  replayStart : Nat := 0
  /-- replay_req is set in the next control word. (1 bit; 10 R362). -/
  replayReq : Bool := false
  /-- Time of the last replay_req sent. (ns; 10 R362). -/
  replayReqAt : Option Nat := none
  /-- Own receive on/off state: bit 3 request lossless to bit 0 response bulk. (4 bit; 10 R352). -/
  own : Nat := 0
  /-- Partner's on/off state. (4 bit; 10 R353). -/
  partner : Nat := 0
  /-- Partner's module number. (8 bit; 10 R335). -/
  peerModule : Nat := 0
  /-- Partner's port number. (8 bit; 10 R335). -/
  peerPort : Nat := 0
  /-- Probe value last sent. (8 bit; 10 R354). -/
  probe : Nat := 0
  /-- Start of the flit that carried it. (ns; 10 R354). -/
  probeAt : Nat := 0
  /-- Last probe value received. (8 bit; 10 R354). -/
  probeEcho : Nat := 0
  /-- Last 16 round-trip measurements, newest first. (16 values, ns; 10 R354). -/
  measures : List Nat := []
  /-- H exceeds a reservation. (1 bit; 10 R355). -/
  exceeds : Bool := false
  /-- The partner differs from expected_peer. (1 bit; 10 R335). -/
  mismatch : Bool := false
  /-- The transmit direction is quiet. (1 bit; 10 R342). -/
  quietTx : Bool := false
  /-- The receive direction is quiet. (1 bit; 10 R342). -/
  quietRx : Bool := false
  /-- Beat since which the transmit direction has been idle. (64 bit beat; 10 R342). -/
  idleSince : Nat := 0
  /-- Frame in reception. (frame name; 10 R341). -/
  rxFrame : Option Nat := none
  /-- What the receiver does with the words that come. (6 values; 10 R341, R365). -/
  rxMode : RxMode := .between
  /-- Words of the frame that comes, its header first. (up to 516 words; 10 R343). -/
  rxWords : List Nat := []
  /-- Frame words that wait to be sent. (words; 10 R341). -/
  tx : List TxItem := []
  /-- The next control word carries the probe value. (1 bit; 10 R354). -/
  probeDue : Bool := false
  /-- The control word last seen at a boundary, but for probe and probe_echo. (128 bit; 10 R342). -/
  lastWord : Nat := 0
  /-- No measurement yet since the first link up. (1 bit; 10 R354). -/
  fresh : Bool := true
  /-- A replay or retrain waits for the frame in transmission to end. (1 bit; 10 R691). -/
  retrainOwed : Bool := false
  /-- The probe last sent has been echoed. (1 bit; 10 R354). -/
  measured : Bool := false
  /-- The sender stalls because 2,048 frames are unacknowledged. (1 bit; 10 R357). -/
  stallWindow : Bool := false
  /-- The sender stalls because the replay buffer lacks room. (1 bit; 10 R357). -/
  stallFull : Bool := false
deriving DecidableEq, Repr

/-- One pool device (chapter 11). -/
structure Device where
  /-- Pool-device state. (0 to 6; 11 R376, D:5021). -/
  state : Nat := 0
  /-- Usable capacity in 256 MiB units. (32 bit; 11 R374, D:5022). -/
  capacity : Nat := 0
  /-- Recorded serial number, 0 when none. (64 bit; 11 R376, D:5023). -/
  serial : Nat := 0
  /-- A serial number is recorded. (1 bit; 11 R376). -/
  recorded : Bool := false
deriving DecidableEq, Repr

/-- Runtime state of one extent (chapter 11). -/
structure Extent where
  /-- Extent state. (0 to 7; 11 R382, D:5090). -/
  state : Nat := 0
  /-- State to return to from Impaired. (0 to 7; 11 R386). -/
  before : Nat := 2
  /-- Members whose scrub writes are not complete. (members; 11 R383). -/
  scrubLeft : List Nat := []
  /-- Members on which scrub writes have started. (members; 11 R383). -/
  scrubbing : List Nat := []
  /-- Beat at which the scrub writes on a member started. (by member, 64 bit beat; 11 R383). -/
  scrubSince : Tbl Nat := []
  /-- Beat at which an Add or Release Capacity event was posted and not answered. (64 bit beat; 11 R384). -/
  postedAt : Option Nat := none
  /-- The host released it; Released at the next boundary. (1 bit; 11 R384). -/
  releaseOwed : Bool := false
  /-- Descriptor of the range that is scrubbed. (256 bit; 11 R383). -/
  was : Nat := 0
deriving DecidableEq, Repr

/-- Held pool prefetch lines of one granule (chapter 11). -/
structure Lines where
  /-- Extent. (12 bit; 11 R387). -/
  extent : Nat := 0
  /-- Granule of the extent. (granule number; 11 R387). -/
  granule : Nat := 0
  /-- First owner address held. (64 bit; 11 R387). -/
  start : Nat := 0
  /-- Bytes held. (bytes; 11 R387). -/
  len : Nat := 0
  /-- Beat at which the data arrived. (64 bit beat; 11 R387). -/
  since : Nat := 0
  /-- The data has arrived. (1 bit; 11 R387). -/
  ready : Bool := false
  /-- Addresses of the lines from which a read was served. (up to 4; 11 R387). -/
  used : List Nat := []
  /-- A write has overlapped it before its data arrived. (1 bit; 11 R387). -/
  stale : Bool := false
deriving DecidableEq, Repr

/-- One event record of a pool endpoint (chapter 11). -/
structure EventRec where
  /-- 0 relayed device event, 1 Add Capacity, 2 Release Capacity. (0 to 2; 11 R381, R384). -/
  kind : Nat := 0
  /-- Handle by which Clear Event Records names it. (16 bit; 11 R380). -/
  handle : Nat := 0
  /-- The record as the device reported it. (512 bit; 11 R381). -/
  body : Nat := 0
  /-- Endpoint DPA (or extent number for capacity events). (64 bit; 11 R381). -/
  dpa : Nat := 0
deriving DecidableEq, Repr

/-- Configuration space of a pool endpoint (chapter 11). -/
structure EpCfg where
  /-- Bus Master Enable. (1 bit; 11 R380). PRESUMED: the PCIe Base Specification's reset value (log entry 1). -/
  busMaster : Bool := false
  /-- BAR0. (64 bit; 11 R380). PRESUMED: the PCIe Base Specification's reset value (log entry 1). -/
  bar0 : Nat := 0
  /-- Command, Device Control and AER registers. (record; 11 R380). -/
  std : CfgRegs := {}
deriving DecidableEq, Repr

/-- Memory pools (chapter 11). -/
structure Pool where
  /-- Configuration spaces of the endpoints. (1,024 records; 11 R380). -/
  epCfg : Tbl EpCfg := []
  /-- Pool devices. (256 records; 11 R373). -/
  devices : Tbl Device := []
  /-- Extents. (4,096 records; 11 R377). -/
  extents : Tbl Extent := []
  /-- Held and outstanding pool prefetches. (-; 11 R387). -/
  lines : List Lines := []
  /-- Event records of each endpoint, oldest first. (by endpoint; 11 R380, R381). -/
  events : Tbl (List EventRec) := []
  /-- Next event-record handle. (16 bit; 11 R380). The model's own field. -/
  nextHandle : Nat := 1
  /-- Endpoint hidden under its host's protocol. (by endpoint; 11 R391). -/
  hidden : Tbl Bool := []
deriving DecidableEq, Repr

/-- One ledger entry (chapter 12). -/
structure Entry where
  /-- Bank that holds it. (4 bit; 12 R401). -/
  bank : Nat := 0
  /-- Set. (10 bit; 12 R401). -/
  set : Nat := 0
  /-- Way. (4 bit; 12 R398). -/
  way : Nat := 0
  /-- It mirrors a page homed on the twin. (1 bit; 12 R398). -/
  shadow : Bool := false
  /-- Being recalled or reset. (1 bit; 12 R398). -/
  recalling : Bool := false
  /-- Set on every grant. (1 bit; 12 R398). -/
  recent : Bool := false
  /-- Set on a twin takeover. (1 bit; 12 R398). -/
  uncertain : Bool := false
  /-- Shared region. (8 bit; 12 R398). -/
  region : Nat := 0
  /-- Page. (34 bit; 12 R398). -/
  page : Nat := 0
  /-- Lines held by each VH (sharers bit and count field together). (64 x 0 to 64; 12 R398, R399). -/
  counts : Tbl Nat := []
  /-- Home state of each line: 0 I, 1 S, 2 E, 3 M. (64 x 2 bit; 12 R398). -/
  state : Tbl Nat := []
  /-- Owner of each line in E or M. (64 x 6 bit; 12 R398). -/
  owner : Tbl Nat := []
  /-- The recall in progress is a page reset. (1 bit; 12 R422). -/
  resetting : Bool := false
  /-- Lines that completed their reset slot. (line numbers; 12 R422). -/
  resetDone : List Nat := []
  /-- A reset starts once every open slot of the page has ended. (1 bit; 12 R414). -/
  resetOwed : Bool := false
  /-- A reset starts, on each line once its open slot has ended. (1 bit; 12 R422). -/
  resetNow : Bool := false
deriving DecidableEq, Repr

/-- What the module sends out or answers, in order: the model's own record of its outputs. -/
inductive Out where
  /-- The status with which a dictionary write of a command row is answered (R656). -/
  | status (code : Nat)
  /-- The value that a register read returns. -/
  | value (v : Nat)
  /-- An ADP message: the segments on which it is sent, bit 0 MGMT_A and bit 1 MGMT_B, then session, kind, op, seq, ref and
  the fields of the body (R645, R662). -/
  | adp (segments session kind op seq ref : Nat) (body : List Nat)
  /-- The last cell of a frame has left a port toward its link. -/
  | frame (port : Nat) (f : Frame)
  /-- A frame in transmission at a port is cut off or terminated. -/
  | cut (port : Nat) (id : Nat)
  /-- A TLP that the module forms and sends toward a port. -/
  | tlp (port : Nat) (t : Tlp)
  /-- A TLP that the module forms and sends toward an edge of another module, by a trunk port (R237, R330). -/
  | edgeTlp (port edge : Nat) (t : Tlp)
  /-- A CXL.mem completion or data response to the requester at a port: tag, of a write or a read, poison (R285). -/
  | memAnswer (port tag : Nat) (write poison : Bool)
  /-- A Beryl frame sent to an edge: class B0 to B3, flow label, frame. -/
  | beryl (edge cls label : Nat) (f : BFrame)
  /-- A Posted Write Fault sent to an edge by a trunk port: flow label, requester ID, address, cause (R237, R320, R350). -/
  | pwf (port edge label reqId addr cause : Nat)
  /-- A posted write of words to host memory of a hierarchy: the PASID of an instance's write, address (R498, R503). -/
  | hostWrite (vh : Nat) (pasid : Option Nat) (addr : Nat) (words : List Nat)
  /-- A read of bytes from host memory of a hierarchy: PASID, address, length, tag (R503, R553). -/
  | hostRead (vh : Nat) (pasid : Option Nat) (addr len tag : Nat)
  /-- An AtomicOp on host memory: PASID, address, operation code, operands, tag (R453, R503, R507, R553). -/
  | hostAtomic (vh : Nat) (pasid : Option Nat) (addr op a b tag : Nat)
  /-- An interrupt message: hierarchy, address, data (R541). -/
  | vector (vh addr data : Nat)
  /-- A read of a pool device: device, device address, length. -/
  | devRead (dev addr len : Nat)
  /-- A write to a pool device: device, device address, data, the bytes written, poison mark. -/
  | devWrite (dev addr data mask : Nat) (poison : Bool)
  /-- A step of a pool device's enumeration (R374): 1 reads its DVSEC, serial number and capacity, 3 has HDM decoder 0 cover a
  capacity of bytes from device address 0, or the DVSEC ranges of a CXL 1.1 device where ranges is set, 4 sets Mem_Enable. -/
  | enumerate (dev step bytes : Nat) (ranges : Bool)
  /-- Writes of zeros to every line of a range of a pool device (R383). -/
  | scrub (dev addr len : Nat)
  /-- A pool endpoint's answer to a mailbox command: endpoint, command, words (R380). -/
  | endpoint (e code : Nat) (words : List Nat)
  /-- A device command or reset sent by the module: port, code, argument. -/
  | devCmd (port code arg : Nat)
  /-- A CXL message to a host: hierarchy, class, region, page, line, data, poison (R397). -/
  | cxl (vh cls region page line : Nat) (data : Option Nat) (poison : Bool)
  /-- A flit sent on a trunk or Garnet link: its 272 bytes on the wire (R336, R337). -/
  | flit (port : Nat) (wire : List Nat)
  /-- The start of a direction that was quiet: the marker repeated for a number of beats, then the inverted marker (R342). -/
  | wake (port beats : Nat) (inverted : List (Fin 4))
  /-- A training block sent on a lane: its control word and its 4,096 levels (R149, R150). -/
  | training (lane word : Nat) (levels : List (Fin 4))
  /-- A read of both input registers of the expander on a group's segment: group, 7-bit address, and whether a repeated start
  first sets the command pointer to 0x00 (R55, R56). -/
  | i2cRead (group address : Nat) (setPointer : Bool)
  /-- A write of two registers of the expander: group, 7-bit address, command 0x02 (outputs) or 0x06 (directions), and the value
  of both registers (R55, R56, R265). -/
  | i2cWrite (group address command value : Nat)
  /-- Nine SCL clocks and a stop on a group's segment (R57). -/
  | i2cRecover (group : Nat)
  /-- Flow-control credits returned to a link partner: port, class, headers, or messages of CXL.mem and CXL.cache, and data
  credits of 16 B (R229, R694). -/
  | credit (port cls headers data : Nat)
  /-- Credits advertised when a link comes up: port, class 0 to 2, headers and data credits of 16 B, dedicated (R694). -/
  | advert (port cls headers data : Nat)
  /-- Credits of a CXL.mem or CXL.cache channel advertised when a link comes up, in messages (R694). -/
  | advertCxl (port : Nat) (channel : CxlChannel) (messages : Nat)
deriving DecidableEq, Repr

/-- A master request that waits for its entry (chapter 15). -/
structure Master where
  /-- Hierarchy whose memory it reaches. (6 bit; 15 R554). -/
  vh : Option Nat := none
  /-- Instance for which it is made. (12 bit; 15 R554). -/
  inst : Option Nat := none
  /-- Port it leaves on. (0 to 176; 15 R554). -/
  port : Nat := 0
  /-- Address. (64 bit; 15 R553). -/
  addr : Nat := 0
  /-- Length. (bytes; 15 R553). -/
  len : Nat := 0
  /-- A write that is completed. (1 bit; 15 R553). -/
  write : Bool := false
  /-- A configuration read of an unbound device; addr is its register. (1 bit; 08 R262). -/
  config : Bool := false
  /-- The access as it leaves. (output; 15 R553). -/
  out : Out := .value 0
deriving DecidableEq, Repr

/-- Transient states of a home slot (R410). -/
inductive SlotState where
  | rd | sn | wr
deriving DecidableEq, Repr

/-- Purpose of a home slot's transaction (R410). -/
inductive Purpose where
  | request | recalling | reset | eviction
deriving DecidableEq, Repr

/-- One home slot: a line with a transaction in progress (chapter 12). -/
structure HomeSlot where
  /-- Region. (8 bit; 12 R410). -/
  region : Nat := 0
  /-- Page. (34 bit; 12 R410). -/
  page : Nat := 0
  /-- Line. (6 bit; 12 R410). -/
  line : Nat := 0
  /-- RD, SN or WR. (3 values; 12 R410). -/
  state : SlotState := .rd
  /-- Purpose of the transaction. (request, recall, reset or eviction; 12 R410). -/
  purpose : Purpose := .recalling
  /-- Request served; none when the requester was dropped. (record; 12 R410). -/
  req : Option Request := none
  /-- Entry epoch tag of the transaction. (2 bit; 01 R23). -/
  tag : Nat := 0
  /-- Pending set P. (64 bit; 12 R410). -/
  pendingSet : List Nat := []
  /-- Seen set V. (64 bit; 12 R410). -/
  seen : List Nat := []
  /-- Data held. (512 bit; 12 R410). -/
  data : Option Nat := none
  /-- Bytes of the line that the data held covers. (64 bit; 12 R413). -/
  mask : Nat := 2 ^ 64 - 1
  /-- Poison mark. (1 bit; 12 R410). -/
  poison : Bool := false
  /-- Target state. (0 to 3; 12 R410). -/
  target : Nat := 0
  /-- State of the line before SN. (0 to 3; 12 R412). -/
  prior : Nat := 0
  /-- Owner's Hit-keep answer: 0 none, 1 BIRspS, 2 BIRspE. (0 to 2; 12 R413). -/
  answer : Nat := 0
  /-- Hosts whose Cmp waits on the write. (VH numbers; 12 R411, R412). -/
  cmps : List Nat := []
  /-- Evictions and writebacks held until write done. (arrival order; 12 R411). -/
  heldMsgs : List Request := []
  /-- Waiting requests. (arrival order; 12 R410). -/
  queue : List Request := []
  /-- Beat at which the snoop was sent. (64 bit beat; 12 R416). -/
  since : Nat := 0
  /-- A recall starts when the slot ends. (1 bit; 12 R412). -/
  recallOwed : Bool := false
  /-- The purpose is served when the write is done. (1 bit; 12 R413). -/
  serve : Bool := false
  /-- The requester was dropped. (1 bit; 12 R412, R418). -/
  dropped : Bool := false
deriving DecidableEq, Repr

/-- A request that waits for an allocation or a recalled page (chapter 12). -/
structure Alloc where
  /-- Region. (8 bit; 12 R402). -/
  region : Nat := 0
  /-- Page. (34 bit; 12 R402). -/
  page : Nat := 0
  /-- Line. (6 bit; 12 R402). -/
  line : Nat := 0
  /-- The request. (record; 12 R402). -/
  req : Request := {}
deriving DecidableEq, Repr

/-- A host in the departed mask of a region (chapter 12). -/
structure Departed where
  /-- Region. (8 bit; 12 R419). -/
  region : Nat := 0
  /-- VH. (6 bit; 12 R419). -/
  host : Nat := 0
  /-- The sweep runs. (1 bit; 12 R419). -/
  sweeping : Bool := true
deriving DecidableEq, Repr

/-- Coherence home and ledger (chapter 12). -/
structure Home where
  /-- Valid ledger entries. (up to 262,144; 12 R398). -/
  entries : List Entry := []
  /-- Home slots in use. (8 x 2,048; 12 R406). -/
  slots : List HomeSlot := []
  /-- Requests waiting for an entry. (arrival order; 12 R402). -/
  allocs : List Alloc := []
  /-- Requests left on the ring while no unreserved slot of their slice is free. (arrival order; 12 R406). -/
  ring : List Alloc := []
  /-- Departed masks. (-; 12 R419). -/
  departed : List Departed := []
  /-- Endpoints removed by a snoop timeout until a new binding. (region, VH; 12 R416). -/
  timedOut : List (Nat × Nat) := []
  /-- 0 usable, 1 retiring, 2 retired. (16 x 2 bit; 12 D:5101). -/
  bankState : Tbl Nat := []
  /-- Next entry of the background scrub. (entry number; 12 R695). -/
  scrubAt : Nat := 0
deriving DecidableEq, Repr

/-- One completion queue (chapter 13). -/
structure Cq where
  /-- Ring address. (64 bit; 13 R435). -/
  addr : Nat := 0
  /-- log2 of entries. (6 to 22; 13 R435). -/
  log2 : Nat := 6
  /-- Vector. (13 bit; 13 R435). -/
  vector : Nat := 0
  /-- Producer index. (22 bit; 13 R446). -/
  producer : Nat := 0
  /-- Consumer index of the last doorbell. (22 bit; 13 R446). -/
  consumer : Nat := 0
  /-- Entries not consumed. (0 to 2^22; 13 R446). -/
  count : Nat := 0
  /-- Phase. (1 bit; 13 R443). -/
  phase : Bool := true
  /-- Overrun. (1 bit; 13 R446). -/
  overrun : Bool := false
deriving DecidableEq, Repr

/-- A message whose last segment has been accepted and that is not delivered yet (chapter 13). -/
structure Delivery where
  /-- Trigger tag. (16 bit; 13 R480). -/
  tagNo : Nat := 0
  /-- Count flag. (1 bit; 13 R480). -/
  count : Bool := false
  /-- RECV that a SEND consumed. (record; 13 R480). -/
  recv : Option Wr := none
  /-- Length of the SEND. (32 bit; 13 R453). -/
  length : Nat := 0
  /-- Sending queue pair. (17 bit; 13 R443). -/
  srcQp : Nat := 0
  /-- Sending edge. (12 bit; 13 R443). -/
  srcEdge : Nat := 0
deriving DecidableEq, Repr

/-- A started and not completed request of a queue pair (chapter 13). -/
structure Active where
  /-- Work request. (record; 13 R460). -/
  wr : Wr := {}
  /-- It came from a trigger list. (1 bit; 13 R482). -/
  trig : Bool := false
  /-- Queue pair whose queue held the request. (17 bit; 13 R482). -/
  owner : Nat := 0
  /-- First PSN. (24 bit; 13 R452). -/
  first : Nat := 0
  /-- PSNs of the request. (PSNs; 13 R452). -/
  count : Nat := 1
  /-- Segments sent. (PSNs; 13 R460). -/
  sent : Nat := 0
  /-- Response segments received. (PSNs; 13 R463). -/
  got : Nat := 0
  /-- Complete, waiting for its turn in queue order. (1 bit; 13 R445). -/
  done : Bool := false
deriving DecidableEq, Repr

/-- Queue-pair states (R436). -/
inductive QpState where
  | reset | init | ready | error
deriving DecidableEq, Repr

/-- One queue pair (chapter 13). -/
structure Qp where
  /-- State. (4 values; 13 R436). -/
  state : QpState := .reset
  /-- Owning instance. (12 bit; 13 R431). -/
  inst : Nat := 0
  /-- Send completion queue. (14 bit; 13 R435). -/
  sendCq : Nat := 0
  /-- Receive completion queue. (14 bit; 13 R435). -/
  recvCq : Nat := 0
  /-- Send-queue address. (64 bit; 13 R435). -/
  sqAddr : Nat := 0
  /-- Receive-queue address. (64 bit; 13 R435). -/
  rqAddr : Nat := 0
  /-- Trigger-list address. (64 bit; 13 R435). -/
  tlAddr : Nat := 0
  /-- Send-queue log2. (4 to 16; 13 R435). -/
  sqLog : Nat := 4
  /-- Receive-queue log2. (4 to 16; 13 R435). -/
  rqLog : Nat := 4
  /-- Trigger-list log2. (4 to 12; 13 R435). -/
  tlLog : Nat := 4
  /-- Fetched send-queue requests not started. (ring; 13 R439). -/
  sq : List Wr := []
  /-- Posted receives. (ring; 13 R439). -/
  rq : List Wr := []
  /-- Trigger entries, the head armed. (ring; 13 R479). -/
  tl : List Wr := []
  /-- Fired entries not started, with the queue pair that owned each. (firing order; 13 R482). -/
  fired : List (Nat × Wr) := []
  /-- Messages whose segments have passed their checks and that are not delivered yet. (order of arrival; 13 R480). -/
  deliver : List Delivery := []
  /-- Send producer index. (16 bit; 13 R441). -/
  sqProd : Nat := 0
  /-- Receive producer index. (16 bit; 13 R441). -/
  rqProd : Nat := 0
  /-- Trigger-list producer index. (16 bit; 13 R441). -/
  tlProd : Nat := 0
  /-- Requests in progress, oldest first. (start order; 13 R460). -/
  active : List Active := []
  /-- Peer edge. (12 bit; 13 R435). -/
  peerEdge : Nat := 0
  /-- Peer queue pair. (17 bit; 13 R435). -/
  peerQp : Nat := 0
  /-- Class B0 to B3. (0 to 3; 13 R435). -/
  cls : Nat := 0
  /-- Rate cap. (16 bit; 13 R435, R470). -/
  cap : Nat := 0
  /-- Rate r. (16 bit; 13 R470). -/
  rate : Nat := 0
  /-- Pacing credit. (up to 4,096 B; 13 R470). -/
  credit : Int := 0
  /-- Beat to which the credit has been gained. (64 bit beat; 13 R470). -/
  creditAt : Nat := 0
  /-- Beat of the last decrease. (64 bit beat; 13 R471). -/
  lastDecrease : Nat := 0
  /-- A decrease has happened. (1 bit; 13 R471). -/
  decreased : Bool := false
  /-- Beat of the last increase. (64 bit beat; 13 R471). -/
  raisedAt : Nat := 0
  /-- PSN of the next request to start. (24 bit; 13 R460). -/
  psn : Nat := 0
  /-- Next send PSN: all before it have been sent once. (24 bit; 13 R460). -/
  sentPsn : Nat := 0
  /-- Oldest unacknowledged PSN. (24 bit; 13 R460). -/
  unacked : Nat := 0
  /-- Retry count. (8 bit; 13 R464). -/
  retries : Nat := 0
  /-- RNR count. (8 bit; 13 R468). -/
  rnrs : Nat := 0
  /-- Beat of the last reset of the retransmit timer. (64 bit beat; 13 R464). -/
  timerAt : Nat := 0
  /-- End of the RNR wait. (64 bit beat; 13 R468). -/
  rnrUntil : Option Nat := none
  /-- PSN to resend after the RNR wait. (24 bit; 13 R468). -/
  rnrPsn : Nat := 0
  /-- PSN of the resend that a sequence NAK started. (24 bit; 13 R463). -/
  seqNakPsn : Option Nat := none
  /-- Expected PSN E. (24 bit; 13 R461). -/
  expected : Nat := 0
  /-- A sequence NAK was sent for this E. (1 bit; 13 R461). -/
  nakSent : Bool := false
  /-- Segments accepted since the last ACK. (8 bit; 13 R462). -/
  accepted : Nat := 0
  /-- Beat of the oldest accepted unacknowledged segment. (64 bit beat; 13 R462). -/
  ackOwed : Option Nat := none
  /-- A marked request frame was accepted since the last ACK. (1 bit; 13 R469). -/
  markSeen : Bool := false
  /-- Class of the request that the next response answers. (2 bit; 13 R457). -/
  reqCls : Nat := 0
  /-- Saved atomic results, newest first. (16 PSN and value; 13 R461). -/
  atomics : List (Nat × Nat) := []
  /-- RECV consumed by the SEND in progress. (record; 13 R449). -/
  recv : Option Wr := none
  /-- Length of the SEND in progress. (32 bit; 13 R453). -/
  recvLen : Nat := 0
  /-- Trigger counter. (32 bit; 13 R481). -/
  counter : Nat := 0
  /-- The context is resident. (1 bit; 13 R433). -/
  resident : Bool := false
  /-- A context fetch is outstanding. (1 bit; 13 R465). -/
  fetching : Bool := false
  /-- Order of last use, for the victim. (order; 13 R465). -/
  used : Nat := 0
  /-- Parked frames. (arrival order; 13 R466). -/
  parked : List BFrame := []
  /-- An RNR NAK was sent since the queue pair last had no parked frame. (1 bit; 13 R467). -/
  rnrSentParked : Bool := false
  /-- It went to Error without flush entries. (1 bit; 13 R465). -/
  noFlush : Bool := false
deriving DecidableEq, Repr

/-- Region states (R447, R474, R478): asked is a revocation that starts with the next beat. -/
inductive RegState where
  | free | valid | asked | revoking
deriving DecidableEq, Repr

/-- One region index (chapter 13). -/
structure Region where
  /-- Free, Valid, Revoking asked, Revoking. (4 values; 13 R447, R474). -/
  state : RegState := .free
  /-- Last generation issued for the index. (12 bit; 13 R447). -/
  generation : Nat := 0
  /-- Base address. (64 bit; 13 R435). -/
  base : Nat := 0
  /-- Length. (up to 2^48; 13 R435). -/
  len : Nat := 0
  /-- Rights. (4 bit; 13 R435). -/
  rights : Nat := 0
  /-- Owning instance. (12 bit; 13 R431). -/
  inst : Nat := 0
  /-- In-flight count: the writes that wait for the function to master the bus. (count; 13 R476). -/
  inflight : Nat := 0
  /-- The descriptor is in the key cache. (1 bit; 13 R433). -/
  cached : Bool := false
  /-- A descriptor fetch is outstanding. (1 bit; 13 R451). -/
  fetching : Bool := false
  /-- Command slot whose result the revocation posts. (slot; 13 R478, 15 R533). -/
  cmdSlot : Nat := 0
deriving DecidableEq, Repr

/-- The Beryl engine (chapter 13). -/
structure Beryl where
  /-- Queue pairs that exist. (131,072 records; 13 R431). -/
  qps : Tbl Qp := []
  /-- Completion queues that exist. (16,384 records; 13 R431). -/
  cqs : Tbl Cq := []
  /-- Regions. (1,048,576 records; 13 R431). -/
  regions : Tbl Region := []
  /-- Cluster retired. (8 x 1 bit; 13 R488, D:6020). -/
  clusterRetired : Tbl Bool := []
  /-- Retirement waits for the next boundary. (8 x 1 bit; 13 R488). -/
  clusterPending : Tbl Bool := []
  /-- Queue pairs whose state changed during this beat. (queue pairs; 18 R619). -/
  changed : List Nat := []
  /-- Counter behind the least-recently-used order. (order; 13 R465). The model's own field. -/
  useClock : Nat := 0
deriving DecidableEq, Repr

/-- One fabric access instance (chapter 14). -/
structure Instance where
  /-- Instance state: 0 Absent to 4 Squashing. (0 to 4; 14 R501, D:6090). -/
  state : Nat := 0
  /-- PASID. (20 bit; 14 R502). -/
  pasid : Nat := 0
  /-- Backing table of queue pairs. (64 bit; 14 R502). -/
  qpTable : Nat := 0
  /-- Backing table of regions. (64 bit; 14 R502). -/
  regionTable : Nat := 0
  /-- Event-queue address. (64 bit; 14 R502). -/
  evAddr : Nat := 0
  /-- Event-queue log2. (6 to 16; 14 R502). -/
  evLog : Nat := 6
  /-- Event producer index. (32 bit; 14 R505, 15 R537). -/
  evProducer : Nat := 0
  /-- Event consumer index. (32 bit; 15 R537). -/
  evConsumer : Nat := 0
  /-- Lost-event count. (32 bit; 14 R505). -/
  evLost : Nat := 0
  /-- idle_hint. (1 bit; 15 R537, R547). -/
  idleHint : Bool := false
  /-- reset_status. (0 to 3; 15 R537). -/
  resetStatus : Nat := 0
  /-- Mode of a reset that takes effect at the next beat: 1 drain, 2 squash. (0 to 2; 14 R510). -/
  resetAsked : Nat := 0
  /-- Beat at which the reset took effect. (64 bit beat; 14 R512). -/
  resetAt : Nat := 0
  /-- Command slot of the DETACH that asked for the reset. (command slot; 14 R502). -/
  resetSlot : Option Nat := none
  /-- Dirty logging is on. (1 bit; 14 R506). -/
  logging : Bool := false
  /-- Dirty-map addresses. (2 x 64 bit; 14 R502). -/
  maps : List Nat := []
  /-- Dirty-map size in 64-bit words. (32 bit; 15 R532). -/
  mapWords : Nat := 0
  /-- First page. (52 bit; 14 R502). -/
  firstPage : Nat := 0
  /-- Active map. (1 bit; 14 R508). -/
  activeMap : Nat := 0
  /-- A swap was requested. (1 bit; 14 R508). -/
  swapAsked : Bool := false
  /-- Bits of the old map are still being written. (1 bit; 14 R508). -/
  swapping : Bool := false
  /-- Log overflow flag. (1 bit; 14 R509). -/
  overflow : Bool := false
  /-- Last pages set in the active map, newest first. (1,024 pages; 14 R507). -/
  recentPages : List Nat := []
deriving DecidableEq, Repr

/-- One interrupt vector with its moderation (chapter 15). -/
structure Vector where
  /-- Message address. (64 bit; 15 R542). -/
  addr : Nat := 0
  /-- Message data. (32 bit; 15 R542). -/
  data : Nat := 0
  /-- Mask. (1 bit; 15 R542). -/
  masked : Bool := true
  /-- An event is not yet sent. (1 bit; 15 R542). -/
  pending : Bool := false
  /-- N. (8 bit; 15 R545). -/
  modCount : Nat := 0
  /-- T. (16 bit; 15 R545). -/
  modTimer : Nat := 0
  /-- c. (8 bit; 15 R545). -/
  count : Nat := 0
  /-- Beats left; 0 while stopped. (16 bit; 15 R545). -/
  timer : Nat := 0
  /-- A send was left undelivered. (1 bit; 15 R545). -/
  asked : Bool := false
deriving DecidableEq, Repr

/-- One command slot (chapter 15). -/
structure CmdSlot where
  /-- The command is running. (1 bit; 15 R531). -/
  busy : Bool := false
  /-- A result has been posted. (1 bit; 15 R531). -/
  done : Bool := false
  /-- Result code. (8 bit; 15 R531). -/
  result : Nat := 0
  /-- Value. (32 bit; 15 R531). -/
  value : Nat := 0
  /-- Words of the submitted command. (8 x 64 bit; 15 R531). -/
  words : List Nat := []
  /-- It waits for an earlier command on the same object. (1 bit; 15 R533). -/
  waiting : Bool := false
  /-- The eight registers of the slot, as last written. (8 x 64 bit; 15 R528, R531). DESIGN CHOICE: the spec gives no reset value (log entry 1). -/
  regs : Tbl Nat := []
deriving DecidableEq, Repr

/-- A host access that waits while a function cannot issue memory requests (chapter 15). -/
structure Stalled where
  /-- The access. (output; 15 R549). -/
  out : Out := .value 0
  /-- Instance for which it is made. (12 bit; 14 R513). -/
  inst : Option Nat := none
  /-- Queue pair of an acknowledged remote segment that the access writes. (17 bit; 14 R513). -/
  acked : Option Nat := none
  /-- Region in whose in-flight count the access is. (20 bit; 13 R476). -/
  region : Option Nat := none
deriving DecidableEq, Repr

/-- Management function of one hierarchy (chapter 15). -/
structure Func where
  /-- Bus Master Enable. (1 bit; 15 R544). -/
  busMaster : Bool := false
  /-- The function is in D3hot. (1 bit; 15 R549). -/
  d3 : Bool := false
  /-- PME_En. (1 bit; 15 R549). -/
  pmeEn : Bool := false
  /-- PME_Status. (1 bit; 15 R549). -/
  pmeStatus : Bool := false
  /-- MSI-X Enable. (1 bit; 15 R541). -/
  msixEn : Bool := false
  /-- Function Mask. (1 bit; 15 R544). -/
  msixMask : Bool := false
  /-- MSI Enable. (1 bit; 15 R541). -/
  msiEn : Bool := false
  /-- MSI messages allocated. (1 to 32; 15 R541). -/
  msiCount : Nat := 1
  /-- MSI per-vector masks. (32 bit; 15 R544). -/
  msiMask : Nat := 0
  /-- MSI message address. (64 bit; 15 R525). -/
  msiAddr : Nat := 0
  /-- MSI message data. (16 bit; 15 R525). -/
  msiData : Nat := 0
  /-- PASID Enable. (1 bit; 14 R502). -/
  pasidEn : Bool := false
  /-- AtomicOp Requester Enable. (1 bit; 14 R502). -/
  atomicEn : Bool := false
  /-- 10-Bit Tag Requester Enable. (1 bit; 15 R553). -/
  tag10 : Bool := false
  /-- 14-Bit Tag Requester Enable. (1 bit; 15 R553). -/
  tag14 : Bool := false
  /-- BAR0. (64 bit; 15 R526). -/
  bar0 : Nat := 0
  /-- BAR2. (64 bit; 15 R526). -/
  bar2 : Nat := 0
  /-- BAR4: base of the window aperture. (64 bit; 15 R526). -/
  bar4 : Nat := 0
  /-- Aperture size in effect since the last reset of the hierarchy. (0, 24 to 46; 15 R526). -/
  apertureLog2 : Nat := 36
  /-- event_cause. (5 bit; 15 R529). -/
  cause : Nat := 0
  /-- errq_base. (64 bit; 15 R530). -/
  errqBase : Nat := 0
  /-- errq_log2. (32 bit; 15 R530). -/
  errqLog2 : Nat := 0
  /-- Written values that take effect at the next boundary. (base and log2; 15 R530). -/
  errqNew : Option (Nat × Nat) := none
  /-- errq_producer. (32 bit; 15 R530). -/
  errqProducer : Nat := 0
  /-- errq_consumer. (32 bit; 15 R530). -/
  errqConsumer : Nat := 0
  /-- Command slots. (16 records; 15 R531). -/
  slots : Tbl CmdSlot := []
  /-- Mailbox busy. (1 bit; 15 R534). -/
  mboxBusy : Bool := false
  /-- resp_ready. (1 bit; 15 R534). -/
  respReady : Bool := false
  /-- resp_len. (13 bit; 15 R534). -/
  respLen : Nat := 0
  /-- req_len. (13 bit; 15 R534). -/
  reqLen : Nat := 0
  /-- mbox_request, by the number of its 8 B. (512 x 64 bit; 15 R528). DESIGN CHOICE: the spec gives no reset value (log entry 1). -/
  request : Tbl Nat := []
  /-- Message held in mbox_response, as words. (4,096 B; 15 R534). -/
  resp : List Nat := []
  /-- Queued messages for mbox_response, oldest first, with whether each is a notification, and its length in bytes. (up to 16; 15 R534). -/
  respQueue : List (Bool × Nat × List Nat) := []
  /-- AER uncorrectable status. (32 bit; 15 R525). -/
  aerUnc : Nat := 0
  /-- AER correctable status. (32 bit; 15 R525). -/
  aerCor : Nat := 0
  /-- Command, Device Control and AER registers. (record; 06 R191, 15 R525). -/
  std : CfgRegs := {}
  /-- DOE response dwords. (dwords; 15 R525). -/
  doe : List Nat := []
  /-- Host accesses that wait while the function is in D3hot or without Bus Master Enable. (arrival order; 15 R549). -/
  stalled : List Stalled := []
  /-- The host programmed link IDE keys. (1 bit; 06 R198). -/
  ideKeys : Bool := false
deriving DecidableEq, Repr

/-- Host functions, vectors, instances and domains (chapters 14, 15). -/
structure HostUnit where
  /-- Management functions. (64 records; 15 R524). -/
  funcs : Tbl Func := []
  /-- Management-function vectors by vh * 64 + v. (64 x 64 records; 15 R541). -/
  fnVectors : Tbl Vector := []
  /-- Interrupt-message store. (8,192 records; 15 R542). -/
  storeVectors : Tbl Vector := []
  /-- Instances. (4,096 records; 14 R501). -/
  instances : Tbl Instance := []
  /-- Busy command slots (VH, slot), oldest first. (arrival order; 15 R533). -/
  cmdOrder : List (Nat × Nat) := []
  /-- Domain contained. (4,096 x 1 bit; 14 R516). -/
  contained : Tbl Bool := []
  /-- Containment waits for the next boundary. (4,096 x 1 bit; 14 R516). -/
  containPending : Tbl Bool := []
  /-- Master requests that wait for an entry, oldest first. (arrival order; 15 R554). -/
  masterWait : List Master := []
deriving DecidableEq, Repr

/-- Interrupt controller and management cores (chapter 16). -/
structure Irq where
  /-- Pending bits. (512 x 1 bit; 16 R565). -/
  pending : Tbl Bool := []
  /-- In-service bit, with the core that claimed. (512 x core + 1; 16 R565). -/
  inService : Tbl Nat := []
  /-- enable[k] by k * 512 + s. (4 x 512 bit; 16 R569). -/
  enable : Tbl Bool := []
  /-- Core retired. (4 x 1 bit; 16 R560). -/
  coreRetired : Tbl Bool := []
  /-- Retirement waits for the next boundary. (4 x 1 bit; 16 R560). -/
  corePending : Tbl Bool := []
  /-- Core of each task set, plus 1; unlisted: Ck runs set k. (4 x core; 16 R559, D:8001). -/
  tasks : Tbl Nat := []
  /-- Task sets being moved. (task sets; 16 R560). -/
  moving : List Nat := []
  /-- Beat of the last check-in of Sprout, or of the last miss that was reported. (64 bit beat; 16 R574). -/
  sproutAt : Nat := 0
deriving DecidableEq, Repr

/-- The Sprout domain (chapter 16). -/
structure Sprout where
  /-- Level last accepted of each watched pin: PRSNT_N of a group at nn, PERST_N at 40 + nn, WAKE_N at 80 + nn, then GARNET_PRSNT_N, TWIN_ALERT_IN_N, P48A and P48B. (124 levels; 16 R575). -/
  filters : Tbl Bool := []
  /-- Level of the last sample. (124 levels; 16 R575). -/
  samples : Tbl Bool := []
  /-- Wake sources accepted in standby and not yet acted on. (45 bit; 16 R575, R578). -/
  accepted : Nat := 0
  /-- Wake sources of the last wake. (64 bit; 16 D:8020.03). -/
  wakeSources : Nat := 0
  /-- Frame of the last wake. (0 to 2; 16 D:8020.04). -/
  wakeFrame : Nat := 0
  /-- Wakes since Sprout gained supply. (32 bit; 16 D:8020.05). -/
  wakes : Nat := 0
  /-- The alarm runs. (1 bit; 16 R579). -/
  alarm : Bool := false
  /-- Consecutive failed supervisor reads. (0 to 10; 16 R573). -/
  readFails : Nat := 0
  /-- Failed supervisor reads. (32 bit; 16 D:8021.04). -/
  readErrors : Nat := 0
deriving DecidableEq, Repr

/-- One fault source of the collector (chapter 17). -/
structure Source where
  /-- Sticky bit. (1 bit; 17 R583, D:(8400 + s).01). -/
  sticky : Bool := false
  /-- Event count c. (8 bit; 17 R585, D:(8400 + s).03). -/
  count : Nat := 0
  /-- Window start beat. (64 bit beat; 17 R585). -/
  windowStart : Nat := 0
  /-- Class: severe. (1 bit; 17 R585, D:(8400 + s).08). -/
  severe : Bool := false
  /-- Events since start, saturating. (32 bit; 17 R604, D:(8400 + s).0B). -/
  events : Nat := 0
  /-- Threshold N in force. (8 bit; 17 R585, D:(8400 + s).04). -/
  n : Nat := 0
  /-- Window W in force. (21 bit; 17 R585, D:(8400 + s).05). -/
  w : Nat := 0
  /-- Normal reaction in force. (3 bit; 17 R591, D:(8400 + s).06). -/
  normal : Nat := 1
  /-- Severe reaction in force. (3 bit; 17 R591, D:(8400 + s).07). -/
  severeR : Nat := 1
  /-- Events detected in the current beat, classified at the next boundary. (count; 17 R587). -/
  newEvents : Nat := 0
  /-- A write of 1 to the sticky bit takes effect at the next boundary. (1 bit; 17 R588). -/
  clearOwed : Bool := false
  /-- Threshold written in this beat. (8 bit; 17 R589). -/
  newN : Option Nat := none
  /-- Window written in this beat. (21 bit; 17 R589). -/
  newW : Option Nat := none
  /-- Normal reaction written in this beat. (3 bit; 17 R589). -/
  newNormal : Option Nat := none
  /-- Severe reaction written in this beat. (3 bit; 17 R589). -/
  newSevere : Option Nat := none
deriving DecidableEq, Repr

/-- A safe-state record (chapter 17). -/
structure SafeRec where
  /-- Cause, 0 when none. (8 bit; 17 R602, D:8030.04). -/
  cause : Nat := 0
  /-- Source for cause 1, else 0xFFFF. (16 bit; 17 R602, D:8030.05). -/
  source : Nat := 0xFFFF
  /-- Beat stamp of entry. (64 bit; 17 R602, D:8030.06). -/
  stamp : Nat := 0
deriving DecidableEq, Repr

/-- Fault collector and safe state (chapter 17). -/
structure Collector where
  /-- Sources by number. (1,024 records; 17 R582). -/
  sources : Tbl Source := []
  /-- The module is in safe state. (1 bit; 17 R599, D:8030.03). -/
  safe : Bool := false
  /-- Record shown while in safe state. (record; 17 R602, D:8030.04). -/
  now : SafeRec := {}
  /-- Record found by this start. (record; 17 R602, D:8030.07). -/
  prev : SafeRec := {}
  /-- Record that Sprout's retained SRAM holds. (retained SRAM; 17 R602). -/
  retained : Option SafeRec := none
  /-- The parity bit of config[0] is inverted at the next boundary. (1 bit; 17 R605). -/
  injectOwed : Bool := false
  /-- The parity of config[0] does not match. (1 bit; 17 R605). -/
  parityBad : Bool := false
  /-- Capacity entries D:1010.01 to D:1010.0A as of the last boundary. (10 values; 20 R682). The model's own field. -/
  capacity : List Nat := [320, 8, 40, 262144, 64, 262144, 16, 16384, 8, 4]
  /-- Groups whose contain-port reaction takes effect at the next boundary. (lane groups; 17 R592). -/
  portPending : List Nat := []
deriving DecidableEq, Repr

/-- One Garnet frame in the replay buffer (chapter 18). -/
structure Garnet where
  /-- Link sequence number. (12 bit; 18 R618). -/
  seq : Nat := 0
  /-- 1 beat frame, 2 record frame, 3 control message. (1 to 3; 18 R618). -/
  kind : Nat := 1
  /-- Delta number of a beat frame, code of a control message. (16 bit; 18 R618). -/
  info : Nat := 0
  /-- Body words. (0 to 27 words; 18 R618). -/
  body : List Nat := []
  /-- Records below this number are acknowledged with the frame. (order; 18 R621). The model's own field. -/
  upto : Nat := 0
deriving DecidableEq, Repr

/-- The close of a delta whose beat frame has not been sent yet (chapter 18). -/
structure Close where
  /-- Records of the delta lie below this number. (order; 18 R620). The model's own field. -/
  upto : Nat := 0
  /-- Delta number. (16 bit; 18 R620). -/
  delta : Nat := 0
  /-- Beat counter in the beat frame. (64 bit beat; 18 R618). -/
  stamp : Nat := 0
  /-- Records of the delta. (32 bit; 18 R618). -/
  count : Nat := 0
deriving DecidableEq, Repr

/-- Pair states of D:9000.04 (R638). -/
inductive PairState where
  | holding | single | attaching | paired | fencing | takenOver
deriving DecidableEq, Repr

/-- Twin pairing (chapter 18). -/
structure Twin where
  /-- Pair state. (6 values; 18 D:9000.04). -/
  state : PairState := .single
  /-- Twin's state from its last good control word. (8 bit; 18 D:9000.05). -/
  twinState : Nat := 0xFF
  /-- Side in the twin's last good control word. (1 bit; 18 R617). -/
  twinSide : Nat := 0
  /-- Module number in the twin's last good control word. (8 bit; 18 R617). -/
  twinNode : Nat := 0
  /-- Result of the last attach. (0 to 7; 18 D:9001.03). -/
  attachResult : Nat := 0
  /-- A beat frame was accepted in this beat. (1 bit; 18 R627). -/
  heartbeat : Bool := false
  /-- A beat frame was accepted in the beat before. (1 bit; 03 R92, 18 R627). -/
  heard : Bool := false
  /-- Consecutive missed heartbeats. (count; 18 R628). -/
  missed : Nat := 0
  /-- First beat of the fence. (64 bit beat; 18 R628). -/
  fenceAt : Nat := 0
  /-- Trigger of the fence in progress. (0 to 2; 18 D:9003.09). -/
  trigger : Nat := 0
  /-- Beats of the changes from high to asserted within the last 8 beats. (beats; 18 R628). -/
  edges : List Nat := []
  /-- Delta number of the last delta that was closed. (16 bit; 18 R620). -/
  delta : Nat := 0
  /-- Closed deltas whose beat frame has not been sent yet, oldest first. (deltas; 18 R620). -/
  closes : List Close := []
  /-- Records of the open delta. (count; 18 R620). -/
  opened : Nat := 0
  /-- Records that wait to be sent, oldest first. (1 MiB; 18 R622). -/
  queue : List Record := []
  /-- Replay buffer of the Garnet link, oldest first; frames after the first 2,048 have not been sent yet. (1 MiB; 18 R616). -/
  unacked : List Garnet := []
  /-- Order number of the next record. (order; 18 R620). The model's own field. -/
  nextRecord : Nat := 0
  /-- Records acknowledged by the twin: every number below this. (order; 18 R621). -/
  acked : Nat := 0
  /-- Messages held until the record of that number is acknowledged. (messages; 18 R621). -/
  held : List (Nat × Out) := []
  /-- Twin store of entry records, by entry key. (twin store; 18 R624, D:9006). -/
  store : Tbl Nat := []
  /-- Other records in the twin store, oldest first. (twin store; 18 R624). -/
  storeRecs : List Record := []
  /-- Records of the last whole delta received. (records; 18 R424, R631). -/
  lastDelta : List Record := []
  /-- Records received after it. (records; 18 R424, R631). -/
  deltaRecs : List Record := []
  /-- Current home: 0 this module, 1 the twin, 2 none; unlisted: as R633 gives it. (256 x 2 bit; 18 D:9004). -/
  homes : Tbl Nat := []
  /-- Differing pair table and object number. (32 bit; 18 D:9005.01). -/
  mismatch : Nat := 0
  /-- Region whose home is being moved. (8 bit; 18 R626). -/
  moving : Option Nat := none
  /-- The home-move message has been sent and is not acknowledged. (1 bit; 18 R626). -/
  moveSent : Bool := false
  /-- The sync-done message has been sent. (1 bit; 18 R635). -/
  syncSent : Bool := false
  /-- The twin acknowledged this module's sync-done. (1 bit; 18 R635). -/
  syncAcked : Bool := false
  /-- The twin's sync-done was received. (1 bit; 18 R635). -/
  syncGot : Bool := false
  /-- An attach request was sent and not answered. (1 bit; 18 R634). -/
  attachAsked : Bool := false
  /-- Beat of the last restart request while it repeats. (64 bit beat; 18 R637). -/
  restartAt : Option Nat := none
  /-- Frames for the twin's module edge are delivered here. (1 bit; 18 R631). -/
  takeoverEdge : Bool := false
  /-- Instances that the twin serves. (instance numbers; 18 R615). -/
  served : List Nat := []
  /-- Queue pairs promoted by a takeover. (queue-pair numbers; 18 R631). -/
  promoted : List Nat := []
deriving DecidableEq, Repr

/-- A kept response (chapter 19). -/
structure Response where
  /-- Sequence number of the request. (48 bit; 19 R660). -/
  seq : Nat := 0
  /-- Sequence number of the response. (48 bit; 19 R660). -/
  own : Nat := 0
  /-- Its ref. (16 bit; 19 R645). -/
  ref : Nat := 0
  /-- Its op. (8 bit; 19 R655). -/
  op : Nat := 0
  /-- Length of its body. (bytes; 19 R645). -/
  len : Nat := 0
  /-- Its body: status and item words. (words; 19 R660). -/
  body : List Nat := []
deriving DecidableEq, Repr

/-- One ADP session or half-open handshake (chapter 19). -/
structure Session where
  /-- Session number. (32 bit; 19 R645). -/
  number : Nat := 0
  /-- VH of a mailbox session; none on the network. (6 bit; 19 R647). -/
  mailbox : Option Nat := none
  /-- The handshake has not finished. (1 bit; 19 R647). -/
  halfOpen : Bool := true
  /-- Beat of HELLO. (64 bit beat; 19 R654). -/
  helloBeat : Nat := 0
  /-- Level requested in HELLO. (1 to 3; 19 R652). -/
  requested : Nat := 1
  /-- Client chain length of HELLO. (16 bit; 19 R652). -/
  chainLen : Nat := 0
  /-- Bytes of the client chain received. (bytes; 19 R652). -/
  chainGot : Nat := 0
  /-- Trust-anchor slot that authenticated the session. (6 bit; 19 R649). -/
  anchor : Option Nat := none
  /-- Access level: 1 View, 2 Operate, 3 Own. (1 to 3; 19 R650). -/
  level : Nat := 0
  /-- Domain. (12 bit; 19 R650). -/
  domain : Nat := 0
  /-- Notification mask. (32 bit; 19 R661). -/
  mask : Nat := 0
  /-- Copy of staged entries the session reads. (0 to 1; 20 R684, D:10F0.01). -/
  readCopy : Nat := 0
  /-- Highest accepted sequence number. (48 bit; 19 R659). -/
  highSeq : Nat := 0
  /-- Accepted numbers within 64 below the highest. (sequence numbers; 19 R659). -/
  seen : List Nat := []
  /-- Sequence number of the module's last message. (48 bit; 19 R659). -/
  ownSeq : Nat := 0
  /-- Beat of the last accepted message. (64 bit beat; 19 R654). -/
  lastBeat : Nat := 0
  /-- Consecutive tag failures. (0 to 16; 19 R646). -/
  tagFails : Nat := 0
  /-- Kept responses, newest first. (up to 16; 19 R660). -/
  kept : List Response := []
  /-- Opened while the module was unclaimed. (1 bit; 19 R651). -/
  unclaimed : Bool := false
deriving DecidableEq, Repr

/-- ADP segments and sessions (chapter 19). -/
structure Adp where
  /-- Sessions and half-open handshakes. (up to 16 + 64 + 4; 19 R647). -/
  sessions : List Session := []
  /-- Next session number given. (32 bit; 19 R645). The model's own field. -/
  nextSession : Nat := 1
  /-- MGMT_A is up. (1 bit; 19 R643, D:1100.07). -/
  upA : Bool := false
  /-- MGMT_B is up. (1 bit; 19 R643, D:1100.07). -/
  upB : Bool := false
  /-- MGMT_A has an address conflict. (1 bit; 19 R642, D:1100.07). -/
  conflictA : Bool := false
  /-- MGMT_B has an address conflict. (1 bit; 19 R642, D:1100.07). -/
  conflictB : Bool := false
  /-- Trust anchors, kept in their own flash area. (64 x 800 bit; 19 R648, D:1120). DESIGN CHOICE: the spec gives no reset value (log entry 1). -/
  anchors : Tbl Nat := []
deriving DecidableEq, Repr

/-- The whole state of the module: everything the spec gives it, the queue of waiting commands, and the model's own record of outputs and free-value counter. -/
structure State where
  /-- Beat, epochs and commits. (record; 01). -/
  ep : EpochUnit
  /-- Sidebands of the lane groups. (40 records; 02). -/
  groups : Tbl GroupSide
  /-- Edge pins, reference clock, temperature. (record; 02). -/
  board : Board
  /-- Power entry. (record; 03). -/
  sup : Supervisor
  /-- Starts, images, stored dictionary. (record; 04). -/
  start : StartUnit
  /-- Lanes: 0 to 319, and 320 to 327 for GT0 to GT7. (328 records; 05). -/
  lanes : Tbl Lane
  /-- Ports: 0 to 159, and 160 for the Garnet link. (161 records; 05, 06). -/
  ports : Tbl Port
  /-- Eye-scan slots. (4 records; 05 R168). -/
  scans : Tbl Scan
  /-- Switch core and shared buffer. (record; 07). -/
  core : Core
  /-- Hierarchies, binding, tracker, windows. (record; 08, 09). -/
  fab : Fabric
  /-- Link layers of the trunk ports and of the Garnet link. (161 records; 10). -/
  trunks : Tbl Trunk
  /-- Memory pools. (record; 11). -/
  pool : Pool
  /-- Coherence home and ledger. (record; 12). -/
  home : Home
  /-- Beryl engine. (record; 13). -/
  beryl : Beryl
  /-- Instances, domains, host functions, vectors. (record; 14, 15). -/
  host : HostUnit
  /-- Interrupt controller and management cores. (record; 16). -/
  irq : Irq
  /-- Sprout domain. (record; 16). -/
  sprout : Sprout
  /-- Fault collector and safe state. (record; 17). -/
  col : Collector
  /-- Twin pairing. (record; 18). -/
  twin : Twin
  /-- ADP segments and sessions. (record; 19). -/
  adp : Adp
  /-- Settings in force; an unlisted entry holds its default. (dictionary settings; 20 R674). -/
  settings : Tbl Nat
  /-- Settings written, waiting for the next boundary. (dictionary settings; 20 R674). -/
  settingsNext : Tbl Nat
  /-- Settings written, waiting for the next start. (dictionary settings; 20 R674). -/
  settingsStart : Tbl Nat
  /-- Counters of the Report entries and values of the selectors, by entry key. (counters and selectors; 20 R674). -/
  views : Tbl Nat
  /-- What the module has sent out, newest first. (outputs; -). -/
  out : List Out
  /-- Counter that Config's free values are applied to. (counter; -). -/
  free : Nat
  /-- Commands that wait, first in, first out. (queue; -). -/
  pending : List Instr
deriving DecidableEq, Repr

/-- The module right after reset: no feed present, the supervisor's retained state cleared, every register at
the value the spec gives for reset, or at the value that notes/assumptions/1.md names where it gives none. -/
def State.reset : State where
  ep := {}
  groups := []
  board := {}
  sup := {}
  start := {}
  lanes := []
  ports := []
  scans := []
  core := {}
  fab := {}
  trunks := []
  pool := {}
  home := {}
  beryl := {}
  host := {}
  irq := {}
  sprout := {}
  col := {}
  twin := {}
  adp := {}
  settings := []
  settingsNext := []
  settingsStart := []
  views := []
  out := []
  free := 0
  pending := []

end Sys2Proof.Machine
end

