-- ==== Sys2Proof/Machine/Operands.lean ====
section
/-!
DEFINITION. The operand forms of the module: the numbers by which dictionary entries are named (R666, R667),
the catalogue of every entry of the dictionary with its type, width, access level, kind, default and range
(chapters 01 to 20), and the named accessors through which the meanings read them.
-/

namespace Sys2Proof.Machine

/-- Types of dictionary values (R670). -/
inductive EType where
  | u8 | u16 | u32 | u64 | i32 | bool | str | bitmap | ipv6 | beats | domain | edge
deriving DecidableEq, Repr

/-- Kinds of dictionary entry (R674). -/
inductive EKind where
  | report | setting | staged | command | selector
deriving DecidableEq, Repr

/-- One row of the catalogue: the first index and the number of indexes, the first subindex, their number and
their step, the type, the width in bits, the access level (1 View, 2 Operate, 3 Own), the kind, the default
and the allowed range. -/
structure EntryRow where
  idx : Nat
  count : Nat
  sub : Nat
  subs : Nat
  step : Nat
  ty : EType
  width : Nat
  level : Nat
  kind : EKind
  dflt : Nat
  lo : Nat
  hi : Nat
deriving DecidableEq, Repr

/-- The type code of R670. -/
def EType.code : EType → Nat
  | .u8 => 1 | .u16 => 2 | .u32 => 3 | .u64 => 4 | .i32 => 5 | .bool => 6
  | .str => 7 | .bitmap => 8 | .ipv6 => 9 | .beats => 10 | .domain => 11 | .edge => 12

/-- Whether a row's array covers an index and a subindex (R667). -/
def EntryRow.covers (r : EntryRow) (i s : Nat) : Bool :=
  decide (r.idx ≤ i) && decide (i < r.idx + r.count) && decide (r.sub ≤ s) &&
    decide (s < r.sub + r.subs * r.step) && decide ((s - r.sub) % r.step = 0)

/-- The key of an entry: index and subindex as one number (R666). -/
def key (i s : Nat) : Nat := i * 256 + s

/-- Part 0 of the catalogue: D:1200.01 to D:2211.02. -/
def Dict.rows0 : List EntryRow := [
  ⟨0x1200, 1, 0x1, 1, 1, .u64, 64, 1, .report, 0, 0, 2 ^ 64 - 1⟩,
  ⟨0x1200, 1, 0x2, 1, 1, .u16, 16, 1, .report, 256, 0, 65535⟩,
  ⟨0x1200, 1, 0x3, 1, 1, .u32, 32, 1, .report, 2000000, 0, 4294967295⟩,
  ⟨0x1201, 1, 0x1, 1, 1, .u64, 64, 1, .report, 0, 0, 2 ^ 64 - 1⟩,
  ⟨0x1201, 1, 0x2, 1, 1, .u8, 8, 1, .report, 0, 0, 255⟩,
  ⟨0x1201, 1, 0x3, 1, 1, .u8, 8, 1, .report, 1, 0, 255⟩,
  ⟨0x1201, 1, 0x4, 1, 1, .u64, 64, 1, .report, 0, 0, 2 ^ 64 - 1⟩,
  ⟨0x1202, 1, 0x0, 4, 1, .u32, 32, 1, .report, 0, 0, 4294967295⟩,
  ⟨0x1203, 1, 0x1, 1, 1, .beats, 32, 1, .report, 64, 0, 4294967295⟩,
  ⟨0x1210, 1, 0x1, 1, 1, .u32, 32, 2, .command, 0, 1, 4294967295⟩,
  ⟨0x1210, 1, 0x2, 1, 1, .u8, 8, 1, .report, 0, 0, 255⟩,
  ⟨0x1210, 1, 0x3, 1, 1, .u32, 32, 1, .report, 0, 0, 4294967295⟩,
  ⟨0x1210, 1, 0x4, 1, 1, .u64, 64, 1, .report, 0, 0, 2 ^ 64 - 1⟩,
  ⟨0x1210, 1, 0x5, 1, 1, .u64, 64, 1, .report, 0, 0, 2 ^ 64 - 1⟩,
  ⟨0x1210, 1, 0x6, 1, 1, .u32, 32, 1, .report, 0, 0, 4294967295⟩,
  ⟨0x1210, 1, 0x7, 1, 1, .bool, 1, 2, .command, 0, 0, 1⟩,
  ⟨0x1210, 1, 0x8, 1, 1, .u32, 32, 1, .report, 0, 0, 4294967295⟩,
  ⟨0x3000, 40, 0xe0, 1, 1, .bitmap, 8, 1, .report, 0, 0, 255⟩,
  ⟨0x3000, 40, 0xe1, 1, 1, .u8, 8, 1, .report, 0, 0, 255⟩,
  ⟨0x3000, 40, 0xe2, 1, 1, .u32, 32, 1, .report, 0, 0, 4294967295⟩,
  ⟨0x3000, 40, 0xe3, 1, 1, .u16, 16, 1, .report, 0, 0, 65535⟩,
  ⟨0x2100, 1, 0x1, 1, 1, .i32, 32, 1, .report, 0, 0, 4294967295⟩,
  ⟨0x2100, 1, 0x2, 8, 1, .i32, 32, 1, .report, 0, 0, 4294967295⟩,
  ⟨0x2101, 1, 0x1, 1, 1, .u8, 8, 3, .setting, 100, 85, 105⟩,
  ⟨0x2101, 1, 0x2, 1, 1, .u8, 8, 1, .report, 100, 0, 255⟩,
  ⟨0x2101, 1, 0x3, 1, 1, .u32, 32, 1, .report, 0, 0, 4294967295⟩,
  ⟨0xa010, 1, 0x1, 1, 1, .u8, 8, 1, .report, 0, 0, 255⟩,
  ⟨0xa010, 1, 0x2, 1, 1, .u8, 8, 1, .report, 0, 0, 255⟩,
  ⟨0xa010, 1, 0x3, 1, 1, .u8, 8, 3, .setting, 0, 0, 1⟩,
  ⟨0xa010, 1, 0x4, 1, 1, .u32, 32, 1, .report, 0, 0, 4294967295⟩,
  ⟨0xa010, 1, 0x5, 1, 1, .bitmap, 8, 1, .report, 0, 0, 255⟩,
  ⟨0x2000, 1, 0x1, 1, 1, .u32, 32, 1, .report, 0, 0, 4294967295⟩,
  ⟨0x2000, 1, 0x2, 1, 1, .u32, 32, 1, .report, 0, 0, 4294967295⟩,
  ⟨0x2000, 1, 0x3, 1, 1, .u32, 32, 1, .report, 0, 0, 4294967295⟩,
  ⟨0x2000, 1, 0x4, 1, 1, .u32, 32, 1, .report, 0, 0, 4294967295⟩,
  ⟨0x2000, 1, 0x5, 1, 1, .bitmap, 8, 1, .report, 0, 0, 255⟩,
  ⟨0x2000, 1, 0x6, 1, 1, .u64, 64, 1, .report, 0, 0, 2 ^ 64 - 1⟩,
  ⟨0x2001, 1, 0x1, 1, 1, .u8, 8, 1, .report, 0, 0, 255⟩,
  ⟨0x2001, 1, 0x2, 1, 1, .u8, 8, 1, .report, 0, 0, 255⟩,
  ⟨0x2001, 1, 0x3, 1, 1, .u32, 32, 1, .report, 0, 0, 4294967295⟩,
  ⟨0x2001, 1, 0x4, 1, 1, .u8, 8, 1, .report, 0, 0, 255⟩,
  ⟨0x2001, 1, 0x5, 1, 1, .bool, 1, 1, .report, 0, 0, 1⟩,
  ⟨0x2001, 1, 0x6, 1, 1, .bool, 1, 1, .report, 0, 0, 1⟩,
  ⟨0x2001, 1, 0x7, 1, 1, .bool, 1, 3, .command, 0, 0, 1⟩,
  ⟨0x2030, 1, 0x1, 1, 1, .bool, 1, 3, .command, 0, 0, 1⟩,
  ⟨0x2110, 1, 0x1, 1, 1, .bool, 1, 3, .command, 0, 0, 1⟩,
  ⟨0x2110, 1, 0x2, 1, 1, .u8, 8, 1, .report, 0, 0, 255⟩,
  ⟨0x2111, 1, 0x1, 1, 1, .bool, 1, 3, .setting, 1, 0, 1⟩,
  ⟨0x2200, 1, 0x1, 1, 1, .u8, 8, 1, .report, 0, 0, 255⟩,
  ⟨0x2200, 1, 0x2, 1, 1, .u8, 8, 1, .report, 0, 0, 255⟩,
  ⟨0x2200, 1, 0x3, 1, 1, .u8, 8, 1, .report, 0, 0, 255⟩,
  ⟨0x2200, 1, 0x4, 1, 1, .u8, 8, 1, .report, 0, 0, 255⟩,
  ⟨0x2200, 1, 0x5, 1, 1, .u8, 8, 1, .report, 0, 0, 255⟩,
  ⟨0x2200, 1, 0x6, 1, 1, .u8, 8, 1, .report, 0, 0, 255⟩,
  ⟨0x2200, 1, 0x7, 1, 1, .u32, 32, 1, .report, 0, 0, 4294967295⟩,
  ⟨0x2200, 1, 0x8, 1, 1, .u32, 32, 1, .report, 0, 0, 4294967295⟩,
  ⟨0x2200, 1, 0x9, 1, 1, .u32, 32, 1, .report, 0, 0, 4294967295⟩,
  ⟨0x2210, 1, 0x1, 1, 1, .u8, 8, 3, .command, 0, 1, 2⟩,
  ⟨0x2211, 1, 0x1, 1, 1, .beats, 32, 3, .setting, 781250, 78125, 78125000⟩,
  ⟨0x2211, 1, 0x2, 1, 1, .u32, 32, 1, .report, 0, 0, 4294967295⟩]

/-- Part 1 of the catalogue: D:2220.01 to D:34pp.0B. -/
def Dict.rows1 : List EntryRow := [
  ⟨0x2220, 1, 0x1, 1, 1, .u8, 8, 3, .setting, 0, 0, 1⟩,
  ⟨0x2220, 1, 0x2, 1, 1, .str, 256, 1, .report, 0, 0, 2 ^ 256 - 1⟩,
  ⟨0x2220, 1, 0x3, 1, 1, .str, 256, 1, .report, 0, 0, 2 ^ 256 - 1⟩,
  ⟨0x2220, 1, 0x4, 1, 1, .str, 256, 1, .report, 0, 0, 2 ^ 256 - 1⟩,
  ⟨0x2220, 1, 0x5, 1, 1, .bitmap, 8, 1, .report, 0, 0, 255⟩,
  ⟨0x2220, 1, 0x6, 1, 1, .u16, 16, 1, .report, 0, 0, 65535⟩,
  ⟨0x2221, 1, 0x1, 1, 1, .u32, 32, 3, .selector, 0, 0, 4294967295⟩,
  ⟨0x2221, 1, 0x2, 1, 1, .bitmap, 8192, 3, .command, 0, 0, 2 ^ 8192 - 1⟩,
  ⟨0x2221, 1, 0x3, 1, 1, .bool, 1, 3, .command, 0, 0, 1⟩,
  ⟨0x2230, 1, 0x1, 1, 1, .bool, 1, 3, .command, 0, 0, 1⟩,
  ⟨0x2230, 1, 0x2, 1, 1, .u32, 32, 1, .report, 0, 0, 4294967295⟩,
  ⟨0x2230, 1, 0x3, 1, 1, .u8, 8, 1, .report, 0, 0, 255⟩,
  ⟨0x2240, 1, 0x0, 40, 1, .bool, 1, 3, .command, 0, 0, 1⟩,
  ⟨0x3000, 40, 0x0, 8, 16, .u8, 8, 1, .report, 0, 0, 255⟩,
  ⟨0x3000, 40, 0x1, 8, 16, .u8, 8, 1, .report, 0, 0, 255⟩,
  ⟨0x3000, 40, 0x2, 8, 16, .u8, 8, 1, .report, 3, 0, 255⟩,
  ⟨0x3000, 40, 0x3, 8, 16, .u8, 8, 1, .report, 3, 0, 255⟩,
  ⟨0x3000, 40, 0x4, 8, 16, .u32, 32, 1, .report, 0, 0, 4294967295⟩,
  ⟨0x3000, 40, 0x5, 8, 16, .u32, 32, 1, .report, 0, 0, 4294967295⟩,
  ⟨0x3000, 40, 0x6, 8, 16, .bool, 1, 1, .report, 0, 0, 1⟩,
  ⟨0x3000, 40, 0x7, 8, 16, .u32, 32, 1, .report, 0, 0, 4294967295⟩,
  ⟨0x3000, 40, 0x8, 8, 16, .u32, 32, 1, .report, 0, 0, 4294967295⟩,
  ⟨0x3000, 40, 0x9, 8, 16, .u8, 8, 1, .report, 0, 0, 255⟩,
  ⟨0x3000, 40, 0xa, 8, 16, .u32, 32, 1, .report, 0, 0, 4294967295⟩,
  ⟨0x3000, 40, 0xb, 8, 16, .bitmap, 8, 1, .report, 0, 0, 255⟩,
  ⟨0x3000, 40, 0xc, 8, 16, .bool, 1, 2, .command, 0, 0, 1⟩,
  ⟨0x3000, 40, 0x80, 1, 1, .u32, 32, 3, .setting, 4096, 0, 4294967295⟩,
  ⟨0x3000, 40, 0x81, 1, 1, .beats, 32, 3, .setting, 7813, 1, 7812500⟩,
  ⟨0x3000, 40, 0x82, 1, 1, .beats, 32, 3, .setting, 15625, 1024, 390625⟩,
  ⟨0x3000, 40, 0x83, 1, 1, .bool, 1, 3, .setting, 0, 0, 1⟩,
  ⟨0x3000, 40, 0x84, 1, 1, .bitmap, 8, 1, .report, 0, 0, 255⟩,
  ⟨0xa020, 4, 0x1, 1, 1, .u8, 8, 2, .selector, 0, 0, 40⟩,
  ⟨0xa020, 4, 0x2, 1, 1, .u8, 8, 2, .selector, 0, 0, 7⟩,
  ⟨0xa020, 4, 0x3, 1, 1, .u8, 8, 2, .selector, 0, 0, 3⟩,
  ⟨0xa020, 4, 0x4, 1, 1, .u8, 8, 2, .selector, 16, 0, 32⟩,
  ⟨0xa020, 4, 0x5, 1, 1, .u8, 8, 2, .selector, 2, 1, 32⟩,
  ⟨0xa020, 4, 0x6, 1, 1, .u8, 8, 2, .selector, 64, 0, 127⟩,
  ⟨0xa020, 4, 0x7, 1, 1, .u8, 8, 2, .selector, 8, 1, 127⟩,
  ⟨0xa020, 4, 0x8, 1, 1, .u8, 8, 2, .selector, 20, 10, 36⟩,
  ⟨0xa020, 4, 0x9, 1, 1, .bool, 1, 2, .command, 0, 0, 1⟩,
  ⟨0xa020, 4, 0xa, 1, 1, .bool, 1, 2, .command, 0, 0, 1⟩,
  ⟨0xa020, 4, 0xb, 1, 1, .u8, 8, 1, .report, 0, 0, 255⟩,
  ⟨0xa020, 4, 0xc, 1, 1, .u32, 32, 1, .report, 0, 0, 4294967295⟩,
  ⟨0xa020, 4, 0xd, 1, 1, .u32, 32, 1, .report, 0, 0, 4294967295⟩,
  ⟨0xa020, 4, 0xe, 1, 1, .u16, 16, 1, .report, 0, 0, 65535⟩,
  ⟨0xa030, 4, 0x1, 32, 1, .bitmap, 8192, 1, .report, 0, 0, 2 ^ 8192 - 1⟩,
  ⟨0x3000, 40, 0x90, 1, 1, .u8, 8, 3, .staged, 0, 0, 3⟩,
  ⟨0x3000, 40, 0x91, 1, 1, .u8, 8, 3, .staged, 0, 0, 255⟩,
  ⟨0x3000, 40, 0x92, 1, 1, .u8, 8, 1, .report, 0, 0, 255⟩,
  ⟨0x3400, 160, 0x1, 1, 1, .bool, 1, 3, .staged, 0, 0, 1⟩,
  ⟨0x3400, 160, 0x2, 1, 1, .u8, 8, 3, .staged, 7, 1, 10⟩,
  ⟨0x3400, 160, 0x3, 1, 1, .u8, 8, 3, .staged, 8, 8, 10⟩,
  ⟨0x3400, 160, 0x4, 1, 1, .u8, 8, 3, .staged, 0, 0, 2⟩,
  ⟨0x3400, 160, 0x5, 1, 1, .bitmap, 8, 3, .staged, 7, 0, 7⟩,
  ⟨0x3400, 160, 0x6, 1, 1, .u8, 8, 3, .staged, 255, 0, 255⟩,
  ⟨0x3400, 160, 0x7, 1, 1, .bitmap, 8, 3, .staged, 15, 0, 15⟩,
  ⟨0x3400, 160, 0x8, 1, 1, .bool, 1, 3, .staged, 1, 0, 1⟩,
  ⟨0x3400, 160, 0x9, 1, 1, .u8, 8, 3, .staged, 0, 0, 1⟩,
  ⟨0x3400, 160, 0xa, 1, 1, .bool, 1, 3, .staged, 0, 0, 1⟩,
  ⟨0x3400, 160, 0xb, 1, 1, .beats, 32, 3, .staged, 78, 8, 781250⟩]

/-- Part 2 of the catalogue: D:34pp.10 to D:34pp.23. -/
def Dict.rows2 : List EntryRow := [
  ⟨0x3400, 160, 0x10, 1, 1, .u8, 8, 1, .report, 0, 0, 255⟩,
  ⟨0x3400, 160, 0x11, 1, 1, .u8, 8, 1, .report, 0, 0, 255⟩,
  ⟨0x3400, 160, 0x12, 1, 1, .u8, 8, 1, .report, 0, 0, 255⟩,
  ⟨0x3400, 160, 0x13, 1, 1, .bool, 1, 1, .report, 0, 0, 1⟩,
  ⟨0x3400, 160, 0x14, 1, 1, .u8, 8, 1, .report, 0, 0, 255⟩,
  ⟨0x3400, 160, 0x15, 1, 1, .bitmap, 8, 1, .report, 0, 0, 255⟩,
  ⟨0x3400, 160, 0x16, 1, 1, .u16, 16, 1, .report, 0, 0, 65535⟩,
  ⟨0x3400, 160, 0x17, 1, 1, .u16, 16, 1, .report, 0, 0, 65535⟩,
  ⟨0x3400, 160, 0x18, 1, 1, .u32, 32, 1, .report, 0, 0, 4294967295⟩,
  ⟨0x3400, 160, 0x19, 1, 1, .u8, 8, 1, .report, 0, 0, 255⟩,
  ⟨0x3400, 160, 0x1a, 1, 1, .u8, 8, 1, .report, 0, 0, 255⟩,
  ⟨0x4000, 1, 0x1, 1, 1, .u32, 32, 1, .report, 262144, 0, 4294967295⟩,
  ⟨0x4000, 1, 0x2, 1, 1, .i32, 32, 1, .report, 0, 0, 4294967295⟩,
  ⟨0x4000, 1, 0x3, 1, 1, .i32, 32, 1, .report, 0, 0, 4294967295⟩,
  ⟨0x4000, 1, 0x4, 1, 1, .u32, 32, 1, .report, 0, 0, 4294967295⟩,
  ⟨0x4000, 1, 0x5, 1, 1, .u32, 32, 1, .report, 0, 0, 4294967295⟩,
  ⟨0x4000, 1, 0x6, 1, 1, .u32, 32, 1, .report, 0, 0, 4294967295⟩,
  ⟨0x4000, 1, 0x7, 1, 1, .bitmap, 64, 1, .report, 2 ^ 64 - 1, 0, 2 ^ 64 - 1⟩,
  ⟨0x4000, 1, 0x8, 1, 1, .bitmap, 64, 1, .report, 1099511627775, 0, 2 ^ 64 - 1⟩,
  ⟨0x4000, 1, 0x9, 1, 1, .bool, 1, 1, .report, 0, 0, 1⟩,
  ⟨0x4001, 1, 0x1, 1, 1, .bool, 1, 3, .setting, 1, 0, 1⟩,
  ⟨0x4001, 1, 0x2, 1, 1, .u16, 16, 3, .setting, 256, 32, 4096⟩,
  ⟨0x4001, 1, 0x3, 1, 1, .u8, 8, 1, .report, 0, 0, 255⟩,
  ⟨0x4002, 1, 0x1, 1, 1, .u32, 32, 3, .staged, 4096, 0, 4294967295⟩,
  ⟨0x4002, 1, 0x2, 1, 1, .u32, 32, 3, .staged, 65536, 0, 4294967295⟩,
  ⟨0x4004, 1, 0x1, 4, 1, .u32, 32, 3, .staged, 2048, 0, 4294967295⟩,
  ⟨0x4006, 1, 0x1, 1, 1, .u8, 8, 3, .setting, 0, 0, 26⟩,
  ⟨0x4006, 1, 0x2, 1, 1, .u32, 32, 1, .report, 0, 0, 4294967295⟩,
  ⟨0x4006, 1, 0x3, 1, 1, .u32, 32, 1, .report, 0, 0, 4294967295⟩,
  ⟨0x4010, 1, 0x1, 1, 1, .u64, 64, 1, .report, 0, 0, 2 ^ 64 - 1⟩,
  ⟨0x4010, 1, 0x2, 1, 1, .u64, 64, 1, .report, 0, 0, 2 ^ 64 - 1⟩,
  ⟨0x4010, 1, 0x3, 1, 1, .u32, 32, 1, .report, 0, 0, 4294967295⟩,
  ⟨0x4010, 1, 0x4, 1, 1, .u32, 32, 1, .report, 0, 0, 4294967295⟩,
  ⟨0x4010, 1, 0x5, 1, 1, .u32, 32, 1, .report, 0, 0, 4294967295⟩,
  ⟨0x4010, 1, 0x6, 1, 1, .u32, 32, 1, .report, 0, 0, 4294967295⟩,
  ⟨0x4010, 1, 0x7, 1, 1, .u64, 64, 1, .report, 0, 0, 2 ^ 64 - 1⟩,
  ⟨0x4010, 1, 0x8, 1, 1, .u32, 32, 1, .report, 0, 0, 4294967295⟩,
  ⟨0x4010, 1, 0x9, 1, 1, .u32, 32, 1, .report, 0, 0, 4294967295⟩,
  ⟨0x4011, 1, 0x0, 64, 1, .u8, 8, 1, .report, 0, 0, 255⟩,
  ⟨0x4012, 1, 0x0, 64, 1, .u32, 32, 1, .report, 0, 0, 4294967295⟩,
  ⟨0x4013, 1, 0x1, 1, 1, .u8, 8, 3, .command, 0, 0, 63⟩,
  ⟨0x4013, 1, 0x2, 1, 1, .u8, 8, 3, .command, 0, 0, 39⟩,
  ⟨0x4020, 1, 0x0, 17, 1, .u8, 8, 1, .report, 0, 0, 255⟩,
  ⟨0x4040, 160, 0x1, 4, 1, .u32, 32, 3, .staged, 0, 0, 4294967295⟩,
  ⟨0x4040, 160, 0x5, 1, 1, .bool, 1, 1, .report, 0, 0, 1⟩,
  ⟨0x4040, 160, 0x6, 1, 1, .u32, 32, 1, .report, 0, 0, 4294967295⟩,
  ⟨0x4040, 160, 0x7, 1, 1, .u32, 32, 1, .report, 0, 0, 4294967295⟩,
  ⟨0x4040, 160, 0x8, 1, 1, .u32, 32, 1, .report, 0, 0, 4294967295⟩,
  ⟨0x4040, 160, 0x9, 1, 1, .u32, 32, 1, .report, 0, 0, 4294967295⟩,
  ⟨0x4040, 160, 0xa, 1, 1, .u32, 32, 1, .report, 0, 0, 4294967295⟩,
  ⟨0x4040, 160, 0xb, 1, 1, .u32, 32, 1, .report, 0, 0, 4294967295⟩,
  ⟨0x4040, 160, 0x11, 8, 1, .u8, 8, 3, .staged, 0, 0, 255⟩,
  ⟨0x40e0, 1, 0x0, 256, 1, .bitmap, 192, 3, .staged, 6148998045931620373096891472838579764242931721099609294472, 0, 2 ^ 192 - 1⟩,
  ⟨0x40e1, 1, 0x0, 256, 1, .bitmap, 192, 1, .report, 0, 0, 2 ^ 192 - 1⟩,
  ⟨0x40e2, 1, 0x0, 256, 1, .bitmap, 64, 1, .report, 0, 0, 2 ^ 64 - 1⟩,
  ⟨0x40e3, 1, 0x0, 256, 1, .bitmap, 64, 1, .report, 0, 0, 2 ^ 64 - 1⟩,
  ⟨0x3400, 160, 0x20, 1, 1, .bitmap, 8, 1, .report, 0, 0, 255⟩,
  ⟨0x3400, 160, 0x21, 1, 1, .u8, 8, 1, .report, 0, 0, 255⟩,
  ⟨0x3400, 160, 0x22, 1, 1, .bool, 1, 2, .command, 0, 0, 1⟩,
  ⟨0x3400, 160, 0x23, 1, 1, .bool, 1, 3, .staged, 1, 0, 1⟩]

/-- Part 3 of the catalogue: D:34pp.24 to D:34pp.41. -/
def Dict.rows3 : List EntryRow := [
  ⟨0x3400, 160, 0x24, 1, 1, .u16, 16, 1, .report, 65535, 0, 65535⟩,
  ⟨0x3400, 160, 0x25, 1, 1, .u64, 64, 1, .report, 0, 0, 2 ^ 64 - 1⟩,
  ⟨0x3400, 160, 0x26, 1, 1, .u32, 32, 1, .report, 0, 0, 4294967295⟩,
  ⟨0x3400, 160, 0x27, 1, 1, .bitmap, 16, 1, .report, 0, 0, 65535⟩,
  ⟨0x3400, 160, 0x28, 1, 1, .u32, 32, 1, .report, 0, 0, 4294967295⟩,
  ⟨0x3400, 160, 0x29, 1, 1, .u32, 32, 1, .report, 0, 0, 4294967295⟩,
  ⟨0x4100, 64, 0x0, 256, 1, .u32, 32, 3, .staged, 0, 0, 4294967295⟩,
  ⟨0x40f0, 1, 0x1, 1, 1, .u32, 32, 1, .report, 262144, 0, 4294967295⟩,
  ⟨0x40f0, 1, 0x2, 1, 1, .u32, 32, 1, .report, 0, 0, 4294967295⟩,
  ⟨0x40f0, 1, 0x3, 1, 1, .u32, 32, 1, .report, 0, 0, 4294967295⟩,
  ⟨0x40f0, 1, 0x5, 1, 1, .u32, 32, 3, .staged, 32768, 0, 4294967295⟩,
  ⟨0x40f0, 1, 0x6, 1, 1, .u32, 32, 3, .staged, 65536, 0, 4294967295⟩,
  ⟨0x40f0, 1, 0x7, 1, 1, .u32, 32, 3, .staged, 32768, 0, 4294967295⟩,
  ⟨0x40f0, 1, 0x8, 1, 1, .u32, 32, 1, .report, 0, 0, 4294967295⟩,
  ⟨0x40f0, 1, 0x9, 1, 1, .u32, 32, 1, .report, 0, 0, 4294967295⟩,
  ⟨0x40f0, 1, 0xa, 1, 1, .u32, 32, 1, .report, 0, 0, 4294967295⟩,
  ⟨0x40f0, 1, 0xb, 1, 1, .beats, 32, 3, .setting, 62500, 391, 7812500⟩,
  ⟨0x40f0, 1, 0xc, 1, 1, .u8, 8, 1, .report, 0, 0, 255⟩,
  ⟨0x40f0, 1, 0xd, 1, 1, .u32, 32, 1, .report, 0, 0, 4294967295⟩,
  ⟨0x40f1, 1, 0x0, 64, 1, .u32, 32, 3, .staged, 2048, 0, 4294967295⟩,
  ⟨0x40f2, 1, 0x0, 64, 1, .u32, 32, 3, .staged, 16384, 0, 4294967295⟩,
  ⟨0x40f3, 1, 0x0, 64, 1, .beats, 32, 3, .setting, 62500, 391, 7812500⟩,
  ⟨0x40f4, 1, 0x0, 64, 1, .u32, 32, 1, .report, 0, 0, 4294967295⟩,
  ⟨0x40f5, 1, 0x0, 64, 1, .bitmap, 256, 1, .report, 0, 0, 2 ^ 256 - 1⟩,
  ⟨0x40f6, 1, 0x1, 1, 1, .u32, 32, 1, .report, 0, 0, 4294967295⟩,
  ⟨0x40f7, 1, 0x0, 64, 1, .u16, 16, 3, .setting, 16, 1, 256⟩,
  ⟨0x4200, 1, 0x1, 1, 1, .u16, 16, 1, .report, 1024, 0, 65535⟩,
  ⟨0x4200, 1, 0x2, 1, 1, .u16, 16, 1, .report, 8192, 0, 65535⟩,
  ⟨0x4200, 1, 0x3, 1, 1, .u32, 32, 1, .report, 0, 0, 4294967295⟩,
  ⟨0x4200, 1, 0x4, 1, 1, .beats, 32, 3, .setting, 16, 1, 1024⟩,
  ⟨0x4200, 1, 0x5, 1, 1, .u32, 32, 1, .report, 0, 0, 4294967295⟩,
  ⟨0x4200, 1, 0x6, 1, 1, .u32, 32, 1, .report, 0, 0, 4294967295⟩,
  ⟨0x4200, 1, 0x7, 1, 1, .u32, 32, 1, .report, 0, 0, 4294967295⟩,
  ⟨0x4200, 1, 0x8, 1, 1, .u64, 64, 1, .report, 0, 0, 2 ^ 64 - 1⟩,
  ⟨0x4200, 1, 0x9, 1, 1, .u64, 64, 1, .report, 0, 0, 2 ^ 64 - 1⟩,
  ⟨0x4200, 1, 0xa, 1, 1, .u32, 32, 1, .report, 0, 0, 4294967295⟩,
  ⟨0x4200, 1, 0xb, 1, 1, .u32, 32, 1, .report, 0, 0, 4294967295⟩,
  ⟨0x4200, 1, 0xc, 1, 1, .u32, 32, 1, .report, 0, 0, 4294967295⟩,
  ⟨0x4200, 1, 0xd, 1, 1, .u32, 32, 1, .report, 0, 0, 4294967295⟩,
  ⟨0x4200, 1, 0xe, 1, 1, .u32, 32, 1, .report, 0, 0, 4294967295⟩,
  ⟨0x4203, 1, 0x0, 64, 1, .u64, 64, 3, .staged, 0, 0, 2 ^ 64 - 1⟩,
  ⟨0x4204, 1, 0x0, 64, 1, .u32, 32, 3, .staged, 0, 0, 4294967295⟩,
  ⟨0x4240, 4, 0x0, 256, 1, .bitmap, 256, 3, .staged, 0, 0, 2 ^ 256 - 1⟩,
  ⟨0x4280, 32, 0x0, 256, 1, .bitmap, 64, 3, .staged, 0, 0, 2 ^ 64 - 1⟩,
  ⟨0x42c0, 4, 0x0, 256, 1, .bitmap, 64, 3, .staged, 0, 0, 2 ^ 64 - 1⟩,
  ⟨0x4400, 1, 0x1, 1, 1, .u8, 8, 3, .staged, 0, 0, 255⟩,
  ⟨0x4400, 1, 0x2, 1, 1, .edge, 16, 3, .staged, 0, 0, 65535⟩,
  ⟨0x4400, 1, 0x3, 1, 1, .beats, 32, 3, .setting, 500, 64, 4000⟩,
  ⟨0x4400, 1, 0x4, 1, 1, .u16, 16, 3, .setting, 0, 0, 65535⟩,
  ⟨0x4400, 1, 0x5, 1, 1, .u8, 8, 3, .setting, 4, 1, 16⟩,
  ⟨0x4400, 1, 0x6, 1, 1, .u32, 32, 3, .setting, 16384, 0, 4294967295⟩,
  ⟨0x4400, 1, 0x7, 1, 1, .beats, 32, 3, .setting, 0, 0, 65535⟩,
  ⟨0x4400, 1, 0x8, 1, 1, .u32, 32, 1, .report, 0, 0, 4294967295⟩,
  ⟨0x4400, 1, 0x9, 1, 1, .u32, 32, 1, .report, 0, 0, 4294967295⟩,
  ⟨0x4400, 1, 0xa, 1, 1, .u32, 32, 1, .report, 0, 0, 4294967295⟩,
  ⟨0x4400, 1, 0xc, 1, 1, .u8, 8, 1, .report, 0, 0, 255⟩,
  ⟨0x4410, 1, 0x0, 256, 1, .bitmap, 96, 3, .staged, 0, 0, 2 ^ 96 - 1⟩,
  ⟨0x4420, 16, 0x0, 256, 1, .u32, 32, 3, .staged, 0, 0, 4294967295⟩,
  ⟨0x3400, 160, 0x40, 1, 1, .u8, 8, 1, .report, 0, 0, 255⟩,
  ⟨0x3400, 160, 0x41, 1, 1, .u8, 8, 1, .report, 0, 0, 255⟩]

/-- Part 4 of the catalogue: D:34pp.42 to D:5110.02. -/
def Dict.rows4 : List EntryRow := [
  ⟨0x3400, 160, 0x42, 1, 1, .u16, 16, 3, .staged, 65535, 0, 65535⟩,
  ⟨0x3400, 160, 0x43, 1, 1, .u32, 32, 1, .report, 1000, 0, 4294967295⟩,
  ⟨0x3400, 160, 0x44, 1, 1, .u32, 32, 1, .report, 0, 0, 4294967295⟩,
  ⟨0x3400, 160, 0x45, 1, 1, .u32, 32, 1, .report, 0, 0, 4294967295⟩,
  ⟨0x3400, 160, 0x46, 1, 1, .u32, 32, 1, .report, 0, 0, 4294967295⟩,
  ⟨0x3400, 160, 0x47, 1, 1, .u32, 32, 1, .report, 0, 0, 4294967295⟩,
  ⟨0x3400, 160, 0x48, 1, 1, .u32, 32, 1, .report, 0, 0, 4294967295⟩,
  ⟨0x3400, 160, 0x49, 1, 1, .u32, 32, 1, .report, 0, 0, 4294967295⟩,
  ⟨0x3400, 160, 0x4a, 1, 1, .u32, 32, 1, .report, 0, 0, 4294967295⟩,
  ⟨0x3400, 160, 0x4b, 1, 1, .u32, 32, 1, .report, 0, 0, 4294967295⟩,
  ⟨0x3400, 160, 0x4c, 1, 1, .bitmap, 16, 1, .report, 0, 0, 65535⟩,
  ⟨0x3400, 160, 0x4d, 1, 1, .u32, 32, 1, .report, 0, 0, 4294967295⟩,
  ⟨0x3400, 160, 0x4e, 1, 1, .u32, 32, 1, .report, 0, 0, 4294967295⟩,
  ⟨0x3400, 160, 0x4f, 1, 1, .u64, 64, 1, .report, 0, 0, 2 ^ 64 - 1⟩,
  ⟨0x5000, 1, 0x1, 1, 1, .u16, 16, 1, .report, 0, 0, 65535⟩,
  ⟨0x5000, 1, 0x2, 1, 1, .u32, 32, 1, .report, 0, 0, 4294967295⟩,
  ⟨0x5000, 1, 0x3, 1, 1, .u32, 32, 1, .report, 0, 0, 4294967295⟩,
  ⟨0x5000, 1, 0x4, 1, 1, .u32, 32, 1, .report, 0, 0, 4294967295⟩,
  ⟨0x5000, 1, 0x5, 1, 1, .u32, 32, 1, .report, 0, 0, 4294967295⟩,
  ⟨0x5000, 1, 0x6, 1, 1, .u16, 16, 1, .report, 0, 0, 65535⟩,
  ⟨0x5000, 1, 0x8, 1, 1, .beats, 32, 3, .setting, 16, 1, 1024⟩,
  ⟨0x5000, 1, 0x9, 1, 1, .beats, 32, 3, .setting, 78125000, 781250, 4294967295⟩,
  ⟨0x5000, 1, 0xa, 1, 1, .u16, 16, 3, .setting, 4000, 100, 16000⟩,
  ⟨0x5000, 1, 0xb, 1, 1, .u32, 32, 1, .report, 0, 0, 4294967295⟩,
  ⟨0x5000, 1, 0xc, 1, 1, .u64, 64, 1, .report, 0, 0, 2 ^ 64 - 1⟩,
  ⟨0x5000, 1, 0xd, 1, 1, .u32, 32, 1, .report, 0, 0, 4294967295⟩,
  ⟨0x5000, 1, 0xe, 1, 1, .u32, 32, 1, .report, 0, 0, 4294967295⟩,
  ⟨0x5001, 1, 0x1, 1, 1, .u16, 16, 3, .command, 0, 0, 4095⟩,
  ⟨0x5001, 1, 0x2, 1, 1, .u16, 16, 3, .command, 0, 0, 4095⟩,
  ⟨0x5020, 1, 0x0, 256, 1, .bitmap, 32, 3, .staged, 0, 0, 4294967295⟩,
  ⟨0x5021, 1, 0x0, 256, 1, .u8, 8, 1, .report, 0, 0, 255⟩,
  ⟨0x5022, 1, 0x0, 256, 1, .u32, 32, 1, .report, 0, 0, 4294967295⟩,
  ⟨0x5023, 1, 0x0, 256, 1, .u64, 64, 1, .report, 0, 0, 2 ^ 64 - 1⟩,
  ⟨0x5030, 1, 0x0, 256, 1, .bitmap, 64, 3, .staged, 0, 0, 2 ^ 64 - 1⟩,
  ⟨0x5040, 4, 0x0, 256, 1, .bitmap, 64, 3, .staged, 0, 0, 2 ^ 64 - 1⟩,
  ⟨0x5048, 4, 0x0, 256, 1, .u16, 16, 1, .report, 65535, 0, 65535⟩,
  ⟨0x5080, 16, 0x0, 256, 1, .bitmap, 256, 3, .staged, 0, 0, 2 ^ 256 - 1⟩,
  ⟨0x5090, 16, 0x0, 256, 1, .u8, 8, 1, .report, 0, 0, 255⟩,
  ⟨0x5100, 1, 0x1, 1, 1, .u32, 32, 1, .report, 262144, 0, 4294967295⟩,
  ⟨0x5100, 1, 0x2, 1, 1, .u32, 32, 1, .report, 0, 0, 4294967295⟩,
  ⟨0x5100, 1, 0x3, 1, 1, .u32, 32, 1, .report, 0, 0, 4294967295⟩,
  ⟨0x5100, 1, 0x4, 1, 1, .u32, 32, 1, .report, 0, 0, 4294967295⟩,
  ⟨0x5100, 1, 0x5, 1, 1, .u32, 32, 1, .report, 0, 0, 4294967295⟩,
  ⟨0x5100, 1, 0x6, 1, 1, .u32, 32, 1, .report, 0, 0, 4294967295⟩,
  ⟨0x5100, 1, 0x7, 1, 1, .u32, 32, 1, .report, 0, 0, 4294967295⟩,
  ⟨0x5100, 1, 0x8, 1, 1, .u32, 32, 1, .report, 0, 0, 4294967295⟩,
  ⟨0x5100, 1, 0x9, 1, 1, .beats, 32, 3, .setting, 7813, 782, 78125⟩,
  ⟨0x5100, 1, 0xa, 1, 1, .u32, 32, 1, .report, 0, 0, 4294967295⟩,
  ⟨0x5100, 1, 0xb, 1, 1, .u32, 32, 1, .report, 0, 0, 4294967295⟩,
  ⟨0x5100, 1, 0xc, 1, 1, .u32, 32, 1, .report, 0, 0, 4294967295⟩,
  ⟨0x5100, 1, 0xd, 1, 1, .u64, 64, 1, .report, 0, 0, 2 ^ 64 - 1⟩,
  ⟨0x5100, 1, 0xe, 1, 1, .u64, 64, 1, .report, 0, 0, 2 ^ 64 - 1⟩,
  ⟨0x5100, 1, 0xf, 1, 1, .u32, 32, 1, .report, 0, 0, 4294967295⟩,
  ⟨0x5100, 1, 0x10, 1, 1, .u32, 32, 1, .report, 0, 0, 4294967295⟩,
  ⟨0x5100, 1, 0x11, 1, 1, .bool, 1, 1, .report, 0, 0, 1⟩,
  ⟨0x5101, 1, 0x0, 16, 1, .u8, 8, 1, .report, 0, 0, 255⟩,
  ⟨0x5102, 1, 0x1, 1, 1, .u8, 8, 3, .command, 0, 0, 15⟩,
  ⟨0x5103, 1, 0x0, 64, 1, .u32, 32, 1, .report, 0, 0, 4294967295⟩,
  ⟨0x5110, 1, 0x1, 1, 1, .u64, 64, 2, .selector, 0, 0, 2 ^ 64 - 1⟩,
  ⟨0x5110, 1, 0x2, 1, 1, .bitmap, 1024, 1, .report, 0, 0, 2 ^ 1024 - 1⟩]

/-- Part 5 of the catalogue: D:6000.01 to D:7ddd.09. -/
def Dict.rows5 : List EntryRow := [
  ⟨0x6000, 1, 0x1, 1, 1, .u32, 32, 1, .report, 131072, 0, 4294967295⟩,
  ⟨0x6000, 1, 0x2, 1, 1, .u32, 32, 1, .report, 16384, 0, 4294967295⟩,
  ⟨0x6000, 1, 0x3, 1, 1, .u32, 32, 1, .report, 16384, 0, 4294967295⟩,
  ⟨0x6000, 1, 0x4, 1, 1, .u32, 32, 1, .report, 1048576, 0, 4294967295⟩,
  ⟨0x6000, 1, 0x5, 1, 1, .bitmap, 8, 1, .report, 255, 0, 255⟩,
  ⟨0x6000, 1, 0x6, 1, 1, .u32, 32, 1, .report, 0, 0, 4294967295⟩,
  ⟨0x6000, 1, 0x7, 1, 1, .u32, 32, 1, .report, 0, 0, 4294967295⟩,
  ⟨0x6000, 1, 0x8, 1, 1, .u32, 32, 1, .report, 0, 0, 4294967295⟩,
  ⟨0x6000, 1, 0x9, 1, 1, .u32, 32, 1, .report, 0, 0, 4294967295⟩,
  ⟨0x6001, 1, 0x1, 1, 1, .beats, 32, 3, .setting, 1024, 16, 1048576⟩,
  ⟨0x6001, 1, 0x2, 1, 1, .u8, 8, 3, .setting, 7, 1, 15⟩,
  ⟨0x6001, 1, 0x3, 1, 1, .beats, 32, 3, .setting, 32, 1, 65535⟩,
  ⟨0x6001, 1, 0x4, 1, 1, .u8, 8, 3, .setting, 7, 0, 255⟩,
  ⟨0x6001, 1, 0x5, 1, 1, .u16, 16, 3, .setting, 64, 1, 1024⟩,
  ⟨0x6001, 1, 0x6, 1, 1, .u8, 8, 3, .setting, 16, 1, 64⟩,
  ⟨0x6001, 1, 0x7, 1, 1, .u16, 16, 3, .setting, 256, 1, 4096⟩,
  ⟨0x6001, 1, 0x8, 1, 1, .u8, 8, 3, .setting, 16, 1, 16⟩,
  ⟨0x6001, 1, 0x9, 1, 1, .beats, 32, 3, .setting, 8, 1, 1024⟩,
  ⟨0x6001, 1, 0xa, 1, 1, .beats, 32, 3, .setting, 64, 1, 65535⟩,
  ⟨0x6001, 1, 0xb, 1, 1, .u16, 16, 3, .setting, 512, 1, 65535⟩,
  ⟨0x6001, 1, 0xc, 1, 1, .u16, 16, 3, .setting, 64, 1, 4096⟩,
  ⟨0x6001, 1, 0xd, 1, 1, .u16, 16, 3, .setting, 20480, 64, 65535⟩,
  ⟨0x6010, 1, 0x1, 1, 1, .u64, 64, 1, .report, 0, 0, 2 ^ 64 - 1⟩,
  ⟨0x6010, 1, 0x2, 1, 1, .u64, 64, 1, .report, 0, 0, 2 ^ 64 - 1⟩,
  ⟨0x6010, 1, 0x3, 1, 1, .u32, 32, 1, .report, 0, 0, 4294967295⟩,
  ⟨0x6010, 1, 0x4, 1, 1, .u32, 32, 1, .report, 0, 0, 4294967295⟩,
  ⟨0x6010, 1, 0x5, 1, 1, .u32, 32, 1, .report, 0, 0, 4294967295⟩,
  ⟨0x6010, 1, 0x6, 1, 1, .u32, 32, 1, .report, 0, 0, 4294967295⟩,
  ⟨0x6010, 1, 0x7, 1, 1, .u32, 32, 1, .report, 0, 0, 4294967295⟩,
  ⟨0x6010, 1, 0x8, 1, 1, .u64, 64, 1, .report, 0, 0, 2 ^ 64 - 1⟩,
  ⟨0x6010, 1, 0x9, 1, 1, .u64, 64, 1, .report, 0, 0, 2 ^ 64 - 1⟩,
  ⟨0x6010, 1, 0xa, 1, 1, .u64, 64, 1, .report, 0, 0, 2 ^ 64 - 1⟩,
  ⟨0x6010, 1, 0xb, 1, 1, .u64, 64, 1, .report, 0, 0, 2 ^ 64 - 1⟩,
  ⟨0x6010, 1, 0xc, 1, 1, .u64, 64, 1, .report, 0, 0, 2 ^ 64 - 1⟩,
  ⟨0x6010, 1, 0xd, 1, 1, .u32, 32, 1, .report, 0, 0, 4294967295⟩,
  ⟨0x6010, 1, 0xe, 1, 1, .u32, 32, 1, .report, 0, 0, 4294967295⟩,
  ⟨0x6010, 1, 0xf, 1, 1, .u32, 32, 1, .report, 0, 0, 4294967295⟩,
  ⟨0x6010, 1, 0x10, 1, 1, .u32, 32, 1, .report, 0, 0, 4294967295⟩,
  ⟨0x6010, 1, 0x11, 1, 1, .u64, 64, 1, .report, 0, 0, 2 ^ 64 - 1⟩,
  ⟨0x6010, 1, 0x12, 1, 1, .u32, 32, 1, .report, 0, 0, 4294967295⟩,
  ⟨0x6020, 1, 0x0, 8, 1, .u8, 8, 1, .report, 0, 0, 255⟩,
  ⟨0x6021, 1, 0x0, 8, 1, .u16, 16, 1, .report, 0, 0, 65535⟩,
  ⟨0x6030, 1, 0x1, 1, 1, .u8, 8, 3, .command, 0, 0, 7⟩,
  ⟨0x6040, 1, 0x1, 1, 1, .u32, 32, 2, .selector, 0, 0, 131071⟩,
  ⟨0x6040, 1, 0x2, 1, 1, .u8, 8, 1, .report, 255, 0, 255⟩,
  ⟨0x6040, 1, 0x3, 1, 1, .u32, 32, 1, .report, 0, 0, 4294967295⟩,
  ⟨0x6040, 1, 0x4, 1, 1, .u32, 32, 1, .report, 0, 0, 4294967295⟩,
  ⟨0x6040, 1, 0x5, 1, 1, .u32, 32, 1, .report, 0, 0, 4294967295⟩,
  ⟨0x6040, 1, 0x6, 1, 1, .u16, 16, 1, .report, 0, 0, 65535⟩,
  ⟨0x6040, 1, 0x7, 1, 1, .u32, 32, 1, .report, 0, 0, 4294967295⟩,
  ⟨0x6040, 1, 0x8, 1, 1, .u32, 32, 1, .report, 0, 0, 4294967295⟩,
  ⟨0x7000, 4096, 0x1, 1, 1, .bool, 1, 3, .staged, 0, 0, 1⟩,
  ⟨0x7000, 4096, 0x2, 1, 1, .u32, 32, 3, .staged, 0, 0, 4294967295⟩,
  ⟨0x7000, 4096, 0x3, 1, 1, .u32, 32, 3, .staged, 0, 0, 4294967295⟩,
  ⟨0x7000, 4096, 0x4, 1, 1, .bitmap, 64, 3, .staged, 0, 0, 2 ^ 64 - 1⟩,
  ⟨0x7000, 4096, 0x5, 1, 1, .u8, 8, 3, .staged, 255, 0, 255⟩,
  ⟨0x7000, 4096, 0x6, 1, 1, .u8, 8, 1, .report, 0, 0, 255⟩,
  ⟨0x7000, 4096, 0x7, 1, 1, .u32, 32, 1, .report, 0, 0, 4294967295⟩,
  ⟨0x7000, 4096, 0x8, 1, 1, .u32, 32, 1, .report, 0, 0, 4294967295⟩,
  ⟨0x7000, 4096, 0x9, 1, 1, .u32, 32, 1, .report, 0, 0, 4294967295⟩]

/-- Part 6 of the catalogue: D:7ddd.0A to D:8030.0A. -/
def Dict.rows6 : List EntryRow := [
  ⟨0x7000, 4096, 0xa, 1, 1, .u32, 32, 1, .report, 0, 0, 4294967295⟩,
  ⟨0x7000, 4096, 0xb, 1, 1, .bool, 1, 3, .command, 0, 0, 1⟩,
  ⟨0x7000, 4096, 0xc, 1, 1, .u16, 16, 1, .report, 0, 0, 65535⟩,
  ⟨0x7000, 4096, 0xd, 1, 1, .bitmap, 8, 1, .report, 0, 0, 255⟩,
  ⟨0x3400, 160, 0x30, 1, 1, .domain, 16, 3, .staged, 0, 0, 65535⟩,
  ⟨0x3400, 160, 0x31, 1, 1, .bitmap, 192, 3, .staged, 0, 0, 2 ^ 192 - 1⟩,
  ⟨0x6080, 16, 0x0, 256, 1, .bitmap, 256, 3, .staged, 0, 0, 2 ^ 256 - 1⟩,
  ⟨0x6090, 16, 0x0, 256, 1, .u8, 8, 1, .report, 0, 0, 255⟩,
  ⟨0x60a0, 1, 0x1, 1, 1, .u32, 32, 1, .report, 0, 0, 4294967295⟩,
  ⟨0x60a0, 1, 0x2, 1, 1, .beats, 32, 3, .setting, 78125, 1024, 7812500⟩,
  ⟨0x60a0, 1, 0x3, 1, 1, .u32, 32, 3, .command, 0, 0, 4294967295⟩,
  ⟨0x60a0, 1, 0x4, 1, 1, .u32, 32, 1, .report, 0, 0, 4294967295⟩,
  ⟨0x60a0, 1, 0x5, 1, 1, .u32, 32, 1, .report, 0, 0, 4294967295⟩,
  ⟨0x8060, 1, 0x0, 64, 1, .u8, 8, 3, .setting, 36, 0, 255⟩,
  ⟨0x8061, 1, 0x0, 64, 1, .u32, 32, 3, .staged, 4096, 0, 4294967295⟩,
  ⟨0x8062, 1, 0x1, 1, 1, .u32, 32, 3, .staged, 65536, 0, 4294967295⟩,
  ⟨0x8062, 1, 0x2, 1, 1, .u32, 32, 3, .staged, 256, 0, 4294967295⟩,
  ⟨0x8062, 1, 0x3, 1, 1, .beats, 32, 3, .setting, 62500, 391, 7812500⟩,
  ⟨0x8063, 1, 0x0, 64, 1, .u32, 32, 1, .report, 0, 0, 4294967295⟩,
  ⟨0x8064, 1, 0x0, 64, 1, .u32, 32, 1, .report, 0, 0, 4294967295⟩,
  ⟨0x8065, 1, 0x1, 1, 1, .u32, 32, 1, .report, 0, 0, 4294967295⟩,
  ⟨0x8065, 1, 0x2, 1, 1, .u32, 32, 1, .report, 0, 0, 4294967295⟩,
  ⟨0x8065, 1, 0x3, 1, 1, .u64, 64, 1, .report, 0, 0, 2 ^ 64 - 1⟩,
  ⟨0x8000, 1, 0x1, 1, 1, .bitmap, 8, 1, .report, 15, 0, 255⟩,
  ⟨0x8000, 1, 0x2, 1, 1, .u8, 8, 1, .report, 4, 0, 255⟩,
  ⟨0x8000, 1, 0x3, 1, 1, .u8, 8, 3, .command, 0, 0, 3⟩,
  ⟨0x8001, 1, 0x0, 4, 1, .bitmap, 8, 1, .report, 0, 0, 255⟩,
  ⟨0x8002, 1, 0x1, 1, 1, .u32, 32, 1, .report, 0, 0, 4294967295⟩,
  ⟨0x8010, 1, 0x1, 1, 1, .u16, 16, 1, .report, 512, 0, 65535⟩,
  ⟨0x8010, 1, 0x2, 1, 1, .u64, 64, 1, .report, 0, 0, 2 ^ 64 - 1⟩,
  ⟨0x8020, 1, 0x1, 1, 1, .bitmap, 64, 3, .setting, 3298534883328, 0, 2 ^ 64 - 1⟩,
  ⟨0x8020, 1, 0x2, 1, 1, .u32, 32, 3, .setting, 0, 0, 4294967295⟩,
  ⟨0x8020, 1, 0x3, 1, 1, .bitmap, 64, 1, .report, 0, 0, 2 ^ 64 - 1⟩,
  ⟨0x8020, 1, 0x4, 1, 1, .u8, 8, 1, .report, 0, 0, 255⟩,
  ⟨0x8020, 1, 0x5, 1, 1, .u32, 32, 1, .report, 0, 0, 4294967295⟩,
  ⟨0x8021, 1, 0x1, 1, 1, .u32, 32, 1, .report, 0, 0, 4294967295⟩,
  ⟨0x8021, 1, 0x2, 1, 1, .u8, 8, 1, .report, 0, 0, 255⟩,
  ⟨0x8021, 1, 0x3, 1, 1, .u32, 32, 1, .report, 0, 0, 4294967295⟩,
  ⟨0x8021, 1, 0x4, 1, 1, .u32, 32, 1, .report, 0, 0, 4294967295⟩,
  ⟨0x8400, 1024, 0x1, 1, 1, .bool, 1, 2, .command, 0, 0, 1⟩,
  ⟨0x8400, 1024, 0x2, 1, 1, .bool, 1, 3, .command, 0, 0, 1⟩,
  ⟨0x8400, 1024, 0x3, 1, 1, .u8, 8, 1, .report, 0, 0, 255⟩,
  ⟨0x8400, 1024, 0x4, 1, 1, .u8, 8, 3, .setting, 0, 0, 255⟩,
  ⟨0x8400, 1024, 0x5, 1, 1, .beats, 32, 3, .setting, 0, 0, 1048576⟩,
  ⟨0x8400, 1024, 0x6, 1, 1, .u8, 8, 3, .setting, 1, 0, 4⟩,
  ⟨0x8400, 1024, 0x7, 1, 1, .u8, 8, 3, .setting, 1, 0, 4⟩,
  ⟨0x8400, 1024, 0x8, 1, 1, .bool, 1, 1, .report, 0, 0, 1⟩,
  ⟨0x8400, 1024, 0x9, 1, 1, .u8, 8, 1, .report, 0, 0, 255⟩,
  ⟨0x8400, 1024, 0xa, 1, 1, .bool, 1, 1, .report, 0, 0, 1⟩,
  ⟨0x8400, 1024, 0xb, 1, 1, .u32, 32, 1, .report, 0, 0, 4294967295⟩,
  ⟨0x8030, 1, 0x1, 1, 1, .bitmap, 1024, 1, .report, 0, 0, 2 ^ 1024 - 1⟩,
  ⟨0x8030, 1, 0x2, 1, 1, .bitmap, 1024, 1, .report, 0, 0, 2 ^ 1024 - 1⟩,
  ⟨0x8030, 1, 0x3, 1, 1, .bool, 1, 1, .report, 0, 0, 1⟩,
  ⟨0x8030, 1, 0x4, 1, 1, .u8, 8, 1, .report, 0, 0, 255⟩,
  ⟨0x8030, 1, 0x5, 1, 1, .u16, 16, 1, .report, 65535, 0, 65535⟩,
  ⟨0x8030, 1, 0x6, 1, 1, .u64, 64, 1, .report, 0, 0, 2 ^ 64 - 1⟩,
  ⟨0x8030, 1, 0x7, 1, 1, .u8, 8, 1, .report, 0, 0, 255⟩,
  ⟨0x8030, 1, 0x8, 1, 1, .u16, 16, 1, .report, 65535, 0, 65535⟩,
  ⟨0x8030, 1, 0x9, 1, 1, .u64, 64, 1, .report, 0, 0, 2 ^ 64 - 1⟩,
  ⟨0x8030, 1, 0xa, 1, 1, .bool, 1, 3, .command, 0, 0, 1⟩]

/-- Part 7 of the catalogue: D:8030.0B to D:1002.09. -/
def Dict.rows7 : List EntryRow := [
  ⟨0x8030, 1, 0xb, 1, 1, .bitmap, 160, 1, .report, 0, 0, 2 ^ 160 - 1⟩,
  ⟨0x8030, 1, 0xc, 1, 1, .bool, 1, 3, .command, 0, 0, 1⟩,
  ⟨0x3400, 160, 0x50, 1, 1, .bool, 1, 3, .command, 0, 0, 0⟩,
  ⟨0x9000, 1, 0x1, 1, 1, .bool, 1, 3, .setting, 0, 0, 1⟩,
  ⟨0x9000, 1, 0x2, 1, 1, .u8, 8, 3, .setting, 0, 0, 1⟩,
  ⟨0x9000, 1, 0x3, 1, 1, .u8, 8, 3, .setting, 0, 0, 255⟩,
  ⟨0x9000, 1, 0x4, 1, 1, .u8, 8, 1, .report, 1, 0, 255⟩,
  ⟨0x9000, 1, 0x5, 1, 1, .u8, 8, 1, .report, 255, 0, 255⟩,
  ⟨0x9001, 1, 0x1, 1, 1, .bool, 1, 3, .command, 0, 0, 1⟩,
  ⟨0x9001, 1, 0x2, 1, 1, .bool, 1, 3, .command, 0, 0, 1⟩,
  ⟨0x9001, 1, 0x3, 1, 1, .u8, 8, 1, .report, 0, 0, 255⟩,
  ⟨0x9001, 1, 0x4, 1, 1, .bool, 1, 3, .command, 0, 0, 1⟩,
  ⟨0x9002, 1, 0x1, 1, 1, .u16, 16, 3, .command, 0, 0, 255⟩,
  ⟨0x9003, 1, 0x1, 1, 1, .u32, 32, 1, .report, 0, 0, 4294967295⟩,
  ⟨0x9003, 1, 0x2, 1, 1, .u64, 64, 1, .report, 0, 0, 2 ^ 64 - 1⟩,
  ⟨0x9003, 1, 0x3, 1, 1, .u64, 64, 1, .report, 0, 0, 2 ^ 64 - 1⟩,
  ⟨0x9003, 1, 0x4, 1, 1, .u64, 64, 1, .report, 0, 0, 2 ^ 64 - 1⟩,
  ⟨0x9003, 1, 0x5, 1, 1, .u32, 32, 1, .report, 0, 0, 4294967295⟩,
  ⟨0x9003, 1, 0x6, 1, 1, .u64, 64, 1, .report, 0, 0, 2 ^ 64 - 1⟩,
  ⟨0x9003, 1, 0x7, 1, 1, .u32, 32, 1, .report, 0, 0, 4294967295⟩,
  ⟨0x9003, 1, 0x8, 1, 1, .u64, 64, 1, .report, 0, 0, 2 ^ 64 - 1⟩,
  ⟨0x9003, 1, 0x9, 1, 1, .u8, 8, 1, .report, 0, 0, 255⟩,
  ⟨0x9003, 1, 0xa, 1, 1, .u32, 32, 1, .report, 0, 0, 4294967295⟩,
  ⟨0x9004, 1, 0x0, 256, 1, .u8, 8, 1, .report, 255, 0, 255⟩,
  ⟨0x9005, 1, 0x1, 1, 1, .u32, 32, 1, .report, 0, 0, 4294967295⟩,
  ⟨0x9006, 1, 0x1, 1, 1, .u32, 32, 2, .selector, 0, 0, 4294967295⟩,
  ⟨0x9006, 1, 0x2, 1, 1, .bitmap, 256, 1, .report, 0, 0, 2 ^ 256 - 1⟩,
  ⟨0x1100, 1, 0x1, 1, 1, .u16, 16, 3, .setting, 49320, 1, 65535⟩,
  ⟨0x1100, 1, 0x2, 1, 1, .u8, 8, 3, .setting, 1, 0, 255⟩,
  ⟨0x1100, 1, 0x3, 1, 1, .u8, 8, 3, .setting, 1, 0, 255⟩,
  ⟨0x1100, 1, 0x4, 1, 1, .u8, 8, 3, .setting, 17, 2, 255⟩,
  ⟨0x1100, 1, 0x5, 1, 1, .ipv6, 128, 1, .report, 0, 0, 2 ^ 128 - 1⟩,
  ⟨0x1100, 1, 0x6, 1, 1, .ipv6, 128, 1, .report, 0, 0, 2 ^ 128 - 1⟩,
  ⟨0x1100, 1, 0x7, 1, 1, .bitmap, 8, 1, .report, 0, 0, 255⟩,
  ⟨0x1101, 1, 0x1, 1, 1, .beats, 32, 3, .setting, 7812500, 781250, 78125000⟩,
  ⟨0x1101, 1, 0x2, 1, 1, .beats, 32, 3, .setting, 234375000, 7812500, 4294967295⟩,
  ⟨0x1110, 1, 0x1, 1, 1, .u8, 8, 1, .report, 0, 0, 255⟩,
  ⟨0x1110, 1, 0x2, 1, 1, .u32, 32, 1, .report, 0, 0, 4294967295⟩,
  ⟨0x1110, 1, 0x3, 1, 1, .u32, 32, 1, .report, 0, 0, 4294967295⟩,
  ⟨0x1110, 1, 0x4, 1, 1, .u32, 32, 1, .report, 0, 0, 4294967295⟩,
  ⟨0x1110, 1, 0x5, 1, 1, .u32, 32, 1, .report, 0, 0, 4294967295⟩,
  ⟨0x1120, 1, 0x0, 64, 1, .bitmap, 800, 3, .setting, 0, 0, 2 ^ 800 - 1⟩,
  ⟨0x1121, 1, 0x1, 1, 1, .bool, 1, 1, .report, 0, 0, 1⟩,
  ⟨0x1000, 1, 0x1, 1, 1, .str, 128, 1, .report, 0, 0, 2 ^ 128 - 1⟩,
  ⟨0x1000, 1, 0x2, 1, 1, .str, 128, 1, .report, 0, 0, 2 ^ 128 - 1⟩,
  ⟨0x1000, 1, 0x3, 1, 1, .str, 128, 1, .report, 0, 0, 2 ^ 128 - 1⟩,
  ⟨0x1000, 1, 0x4, 1, 1, .u8, 8, 1, .report, 9, 0, 255⟩,
  ⟨0x1000, 1, 0x5, 1, 1, .u64, 64, 1, .report, 0, 0, 2 ^ 64 - 1⟩,
  ⟨0x1000, 1, 0x6, 1, 1, .u8, 8, 1, .report, 0, 0, 255⟩,
  ⟨0x1000, 1, 0x7, 1, 1, .str, 256, 1, .report, 0, 0, 2 ^ 256 - 1⟩,
  ⟨0x1000, 1, 0x8, 1, 1, .u16, 16, 1, .report, 1, 0, 65535⟩,
  ⟨0x1002, 1, 0x1, 1, 1, .u16, 16, 1, .report, 0, 0, 65535⟩,
  ⟨0x1002, 1, 0x2, 1, 1, .u16, 16, 1, .report, 800, 0, 65535⟩,
  ⟨0x1002, 1, 0x3, 1, 1, .u16, 16, 1, .report, 801, 0, 65535⟩,
  ⟨0x1002, 1, 0x4, 1, 1, .u16, 16, 1, .report, 802, 0, 65535⟩,
  ⟨0x1002, 1, 0x5, 1, 1, .u16, 16, 1, .report, 803, 0, 65535⟩,
  ⟨0x1002, 1, 0x6, 1, 1, .u32, 32, 1, .report, 0, 0, 4294967295⟩,
  ⟨0x1002, 1, 0x7, 1, 1, .u8, 8, 1, .report, 0, 0, 255⟩,
  ⟨0x1002, 1, 0x8, 1, 1, .u64, 64, 1, .report, 612489575159300096, 0, 2 ^ 64 - 1⟩,
  ⟨0x1002, 1, 0x9, 1, 1, .u32, 32, 1, .report, 328208, 0, 4294967295⟩]

/-- Part 8 of the catalogue: D:1001.01 to D:9008.k5. -/
def Dict.rows8 : List EntryRow := [
  ⟨0x1001, 1, 0x1, 1, 1, .u16, 16, 1, .report, 320, 0, 65535⟩,
  ⟨0x1001, 1, 0x2, 1, 1, .u8, 8, 1, .report, 40, 0, 255⟩,
  ⟨0x1001, 1, 0x3, 1, 1, .u8, 8, 1, .report, 8, 0, 255⟩,
  ⟨0x1001, 1, 0x4, 1, 1, .u16, 16, 1, .report, 160, 0, 65535⟩,
  ⟨0x1001, 1, 0x5, 1, 1, .u8, 8, 1, .report, 64, 0, 255⟩,
  ⟨0x1001, 1, 0x6, 1, 1, .u8, 8, 1, .report, 16, 0, 255⟩,
  ⟨0x1001, 1, 0x7, 1, 1, .u8, 8, 1, .report, 64, 0, 255⟩,
  ⟨0x1001, 1, 0x8, 1, 1, .u16, 16, 1, .report, 256, 0, 65535⟩,
  ⟨0x1001, 1, 0x9, 1, 1, .u8, 8, 1, .report, 7, 0, 255⟩,
  ⟨0x1001, 1, 0xa, 1, 1, .u8, 8, 1, .report, 10, 0, 255⟩,
  ⟨0x1001, 1, 0xb, 1, 1, .bitmap, 8, 1, .report, 7, 0, 255⟩,
  ⟨0x1001, 1, 0xc, 1, 1, .u16, 16, 1, .report, 256, 0, 65535⟩,
  ⟨0x1001, 1, 0xd, 1, 1, .u32, 32, 1, .report, 262144, 0, 4294967295⟩,
  ⟨0x1001, 1, 0xe, 1, 1, .u8, 8, 1, .report, 64, 0, 255⟩,
  ⟨0x1001, 1, 0xf, 1, 1, .u32, 32, 1, .report, 262144, 0, 4294967295⟩,
  ⟨0x1001, 1, 0x10, 1, 1, .u32, 32, 1, .report, 262144, 0, 4294967295⟩,
  ⟨0x1001, 1, 0x11, 1, 1, .u8, 8, 1, .report, 16, 0, 255⟩,
  ⟨0x1001, 1, 0x12, 1, 1, .u16, 16, 1, .report, 256, 0, 65535⟩,
  ⟨0x1001, 1, 0x13, 1, 1, .u16, 16, 1, .report, 256, 0, 65535⟩,
  ⟨0x1001, 1, 0x14, 1, 1, .u16, 16, 1, .report, 4096, 0, 65535⟩,
  ⟨0x1001, 1, 0x15, 1, 1, .u16, 16, 1, .report, 1024, 0, 65535⟩,
  ⟨0x1001, 1, 0x16, 1, 1, .u16, 16, 1, .report, 1024, 0, 65535⟩,
  ⟨0x1001, 1, 0x17, 1, 1, .u16, 16, 1, .report, 8192, 0, 65535⟩,
  ⟨0x1001, 1, 0x18, 1, 1, .u16, 16, 1, .report, 1024, 0, 65535⟩,
  ⟨0x1001, 1, 0x19, 1, 1, .u8, 8, 1, .report, 8, 0, 255⟩,
  ⟨0x1001, 1, 0x1a, 1, 1, .u32, 32, 1, .report, 131072, 0, 4294967295⟩,
  ⟨0x1001, 1, 0x1b, 1, 1, .u32, 32, 1, .report, 16384, 0, 4294967295⟩,
  ⟨0x1001, 1, 0x1c, 1, 1, .u32, 32, 1, .report, 16384, 0, 4294967295⟩,
  ⟨0x1001, 1, 0x1d, 1, 1, .u32, 32, 1, .report, 1048576, 0, 4294967295⟩,
  ⟨0x1001, 1, 0x1e, 1, 1, .u32, 32, 1, .report, 2147483648, 0, 4294967295⟩,
  ⟨0x1001, 1, 0x1f, 1, 1, .u16, 16, 1, .report, 4096, 0, 65535⟩,
  ⟨0x1001, 1, 0x20, 1, 1, .u16, 16, 1, .report, 4096, 0, 65535⟩,
  ⟨0x1001, 1, 0x21, 1, 1, .u16, 16, 1, .report, 4096, 0, 65535⟩,
  ⟨0x1001, 1, 0x22, 1, 1, .u16, 16, 1, .report, 8192, 0, 65535⟩,
  ⟨0x1001, 1, 0x23, 1, 1, .u8, 8, 1, .report, 64, 0, 255⟩,
  ⟨0x1001, 1, 0x24, 1, 1, .u8, 8, 1, .report, 4, 0, 255⟩,
  ⟨0x1001, 1, 0x25, 1, 1, .u16, 16, 1, .report, 512, 0, 65535⟩,
  ⟨0x1001, 1, 0x26, 1, 1, .u16, 16, 1, .report, 1024, 0, 65535⟩,
  ⟨0x1001, 1, 0x27, 1, 1, .u16, 16, 1, .report, 4096, 0, 65535⟩,
  ⟨0x1001, 1, 0x28, 1, 1, .u16, 16, 1, .report, 256, 0, 65535⟩,
  ⟨0x1010, 1, 0x1, 1, 1, .u16, 16, 1, .report, 320, 0, 65535⟩,
  ⟨0x1010, 1, 0x2, 1, 1, .u8, 8, 1, .report, 8, 0, 255⟩,
  ⟨0x1010, 1, 0x3, 1, 1, .u8, 8, 1, .report, 40, 0, 255⟩,
  ⟨0x1010, 1, 0x4, 1, 1, .u32, 32, 1, .report, 262144, 0, 4294967295⟩,
  ⟨0x1010, 1, 0x5, 1, 1, .u8, 8, 1, .report, 64, 0, 255⟩,
  ⟨0x1010, 1, 0x6, 1, 1, .u32, 32, 1, .report, 262144, 0, 4294967295⟩,
  ⟨0x1010, 1, 0x7, 1, 1, .u8, 8, 1, .report, 16, 0, 255⟩,
  ⟨0x1010, 1, 0x8, 1, 1, .u32, 32, 1, .report, 16384, 0, 4294967295⟩,
  ⟨0x1010, 1, 0x9, 1, 1, .u8, 8, 1, .report, 8, 0, 255⟩,
  ⟨0x1010, 1, 0xa, 1, 1, .u8, 8, 1, .report, 4, 0, 255⟩,
  ⟨0x1010, 1, 0xb, 1, 1, .bitmap, 8, 1, .report, 0, 0, 255⟩,
  ⟨0x1010, 1, 0xc, 1, 1, .bool, 1, 1, .report, 0, 0, 1⟩,
  ⟨0x1010, 1, 0xd, 1, 1, .u32, 32, 1, .report, 0, 0, 4294967295⟩,
  ⟨0x10f0, 1, 0x1, 1, 1, .u8, 8, 2, .setting, 0, 0, 1⟩,
  ⟨0x9008, 1, 0x0, 8, 16, .u8, 8, 1, .report, 0, 0, 255⟩,
  ⟨0x9008, 1, 0x1, 8, 16, .u8, 8, 1, .report, 0, 0, 255⟩,
  ⟨0x9008, 1, 0x2, 8, 16, .u8, 8, 1, .report, 3, 0, 255⟩,
  ⟨0x9008, 1, 0x3, 8, 16, .u8, 8, 1, .report, 3, 0, 255⟩,
  ⟨0x9008, 1, 0x4, 8, 16, .u32, 32, 1, .report, 0, 0, 4294967295⟩,
  ⟨0x9008, 1, 0x5, 8, 16, .u32, 32, 1, .report, 0, 0, 4294967295⟩]

/-- Part 9 of the catalogue: D:9008.k6 to D:9008.84. -/
def Dict.rows9 : List EntryRow := [
  ⟨0x9008, 1, 0x6, 8, 16, .bool, 1, 1, .report, 0, 0, 1⟩,
  ⟨0x9008, 1, 0x7, 8, 16, .u32, 32, 1, .report, 0, 0, 4294967295⟩,
  ⟨0x9008, 1, 0x8, 8, 16, .u32, 32, 1, .report, 0, 0, 4294967295⟩,
  ⟨0x9008, 1, 0x9, 8, 16, .u8, 8, 1, .report, 0, 0, 255⟩,
  ⟨0x9008, 1, 0xa, 8, 16, .u32, 32, 1, .report, 0, 0, 4294967295⟩,
  ⟨0x9008, 1, 0xb, 8, 16, .bitmap, 8, 1, .report, 0, 0, 255⟩,
  ⟨0x9008, 1, 0xc, 8, 16, .bool, 1, 2, .command, 0, 0, 1⟩,
  ⟨0x9008, 1, 0x80, 1, 1, .u32, 32, 3, .setting, 4096, 0, 4294967295⟩,
  ⟨0x9008, 1, 0x81, 1, 1, .beats, 32, 3, .setting, 7813, 1, 7812500⟩,
  ⟨0x9008, 1, 0x82, 1, 1, .beats, 32, 3, .setting, 15625, 1024, 390625⟩,
  ⟨0x9008, 1, 0x83, 1, 1, .bool, 1, 3, .setting, 0, 0, 1⟩,
  ⟨0x9008, 1, 0x84, 1, 1, .bitmap, 8, 1, .report, 0, 0, 255⟩]

/-- The whole catalogue, in the order of the chapters. -/
def Dict.rows : List EntryRow :=
  Dict.rows0 ++ Dict.rows1 ++ Dict.rows2 ++ Dict.rows3 ++ Dict.rows4 ++ Dict.rows5 ++ Dict.rows6 ++ Dict.rows7 ++ Dict.rows8 ++ Dict.rows9

/-- The row that names an entry, if any does (R668). -/
def Dict.find (i s : Nat) : Option EntryRow := Dict.rows.find? (fun r => r.covers i s)

/-- Bits [hi:lo] of a value. -/
def bits (v hi lo : Nat) : Nat := (v >>> lo) % 2 ^ (hi + 1 - lo)

/-- Bit b of a value. -/
def bit (v b : Nat) : Bool := v.testBit b

/-- The population count of the low n bits. -/
def popCount (v : Nat) : Nat → Nat
  | 0 => 0
  | n + 1 => (if v.testBit n then 1 else 0) + popCount v n

/-- The default weight in percent of a class, L0 to L3 then B0 to B3 (D:40qq.11 to D:40qq.18). -/
def Dict.weightDefault (c : Nat) : Nat := [15, 10, 15, 20, 5, 10, 10, 15].getD c 0

/-- The default of an entry by its key, given SLOT_ID (the Default columns; R225; R238; R640; R492). -/
def Dict.dflt (slotId k : Nat) : Nat :=
  let i := k / 256
  let j := k % 256
  if i = 0x4006 ∧ j = 1 then 5 * slotId % 27
  else if i = 0x1100 ∧ (j = 2 ∨ j = 3) then slotId + 1
  else if i = 0x7000 ∧ j = 1 then 1
  else if 0x4040 ≤ i ∧ i < 0x40E0 ∧ 0x11 ≤ j ∧ j ≤ 0x18 then Dict.weightDefault (j - 0x11)
  else match Dict.find i j with
    | some r => r.dflt
    | none => 0

/-- A staged value read in a given copy of the tables (R20). DESIGN CHOICE: log entry 46. -/
def State.inTables (s : State) (t : Tbl Nat) (i j : Nat) : Nat :=
  t.look (key i j) (Dict.dflt s.board.slotId (key i j))

/-- A staged value of the live tables (R20). -/
def State.live (s : State) (i j : Nat) : Nat := s.inTables s.ep.live i j

/-- A staged value of the shadow tables (R20). -/
def State.staged (s : State) (i j : Nat) : Nat := s.inTables s.ep.shadow i j

/-- A setting in force (R674). DESIGN CHOICE: log entry 46. -/
def State.setting (s : State) (i j : Nat) : Nat :=
  s.settings.look (key i j) (Dict.dflt s.board.slotId (key i j))

/-- A counter or selector of the dictionary. DESIGN CHOICE: log entry 46. -/
def State.view (s : State) (i j : Nat) : Nat := s.views.look (key i j) 0

/-- The live tables of the epoch that carries a tag: the current one or a superseded one (R21, R23). -/
def State.tablesOf (s : State) (tag : Nat) : Tbl Nat :=
  if s.ep.epoch % 4 = tag then s.ep.live
  else match s.ep.superseded.find? (fun e => decide (e.count % 4 = tag)) with
    | some e => e.tables
    | none => s.ep.live

/-- The group whose role and layout entries are in effect for a group: the even group below it when that one
has layout code 5 (R178). -/
def State.ruling (s : State) (t : Tbl Nat) (nn : Nat) : Nat :=
  if nn % 2 = 1 ∧ s.inTables t (0x3000 + nn - 1) 0x91 = 5 then nn - 1 else nn

/-- Role of a lane group: 0 none, 1 host, 2 downstream, 3 trunk (R46, R178). -/
def State.roleIn (s : State) (t : Tbl Nat) (nn : Nat) : Nat := s.inTables t (0x3000 + s.ruling t nn) 0x90

/-- Layout code of a lane group (R176, R178). -/
def State.layoutIn (s : State) (t : Tbl Nat) (nn : Nat) : Nat := s.inTables t (0x3000 + s.ruling t nn) 0x91

/-- First lane within the group and width of the port in a slot, or width 0 where the slot is unused (R176). -/
def slotLanes (layout slot : Nat) : Nat × Nat :=
  match layout, slot with
  | 0, 0 => (0, 8)
  | 1, 0 => (0, 4) | 1, 2 => (4, 4)
  | 2, 0 => (0, 4) | 2, 2 => (4, 2) | 2, 3 => (6, 2)
  | 3, 0 => (0, 2) | 3, 1 => (2, 2) | 3, 2 => (4, 4)
  | 4, 0 => (0, 2) | 4, 1 => (2, 2) | 4, 2 => (4, 2) | 4, 3 => (6, 2)
  | 5, 0 => (0, 16)
  | _, _ => (0, 0)

/-- First lane and configured width of a port; width 0 where the number names no port (R177, R178). Port 160 is
the Garnet link on lanes 320 to 327 (R154). -/
def State.portLanes (s : State) (t : Tbl Nat) (p : Nat) : Nat × Nat :=
  if p = 160 then (320, 8)
  else if 160 ≤ p then (0, 0)
  else if s.ruling t (p / 4) ≠ p / 4 then (0, 0)
  else
    let l := slotLanes (s.layoutIn t (p / 4)) (p % 4)
    (8 * (p / 4) + l.1, l.2)

/-- Whether a port number names a port (R177). -/
def State.portNamed (s : State) (t : Tbl Nat) (p : Nat) : Bool := decide (0 < (s.portLanes t p).2)

/-- Whether an index is that of a port's entries, D:34pp or D:40qq (R203, R249). -/
def namesPort (i : Nat) : Bool := decide ((0x3400 ≤ i ∧ i < 0x34A0) ∨ (0x4040 ≤ i ∧ i < 0x40E0))

/-- The port whose entry has that index. -/
def portOfIndex (i : Nat) : Nat := if i < 0x4000 then i - 0x3400 else i - 0x4040

/-- A port entry D:34pp with the defaults that depend on the role: a trunk port's max_rate reads 10 (R203). -/
def State.portIn (s : State) (t : Tbl Nat) (p j : Nat) : Nat :=
  if j = 2 ∧ s.roleIn t (p / 4) = 3 then t.look (key (0x3400 + p) 2) 10 else s.inTables t (0x3400 + p) j

/-- Whether a port is enabled: it exists and its port_enable is 1 (R177, R203). The Garnet link has no enable. -/
def State.enabledIn (s : State) (t : Tbl Nat) (p : Nat) : Bool :=
  decide (p = 160) || (s.portNamed t p && decide (s.portIn t p 1 = 1))

/-- Role of a port: that of its group; the Garnet link counts as a trunk's link layer (R46, R616). -/
def State.portRoleIn (s : State) (t : Tbl Nat) (p : Nat) : Nat :=
  if p = 160 then 3 else if s.portNamed t p then s.roleIn t (p / 4) else 0

/-- Role of a port in the live tables. -/
def State.portRole (s : State) (p : Nat) : Nat := s.portRoleIn s.ep.live p

/-- A port is a trunk port of the crossbar; number 160, which the Garnet link shares with internal port I00, is none (R208). -/
def State.trunkPort (s : State) (p : Nat) : Bool := decide (p < 160) && decide (s.portRole p = 3)

/-- A group of a port keeps it disabled: it found contention on PERST_N (R51). -/
def State.contended (s : State) (p : Nat) : Bool :=
  decide (p < 160) && ((s.groups.look (p / 4) {}).contention ||
    (decide ((s.portLanes s.ep.live p).2 = 16) && (s.groups.look (p / 4 + 1) {}).contention))

/-- Whether a port is enabled in the live tables and not kept disabled by contention on PERST_N (R51, R177). -/
def State.enabled (s : State) (p : Nat) : Bool := s.enabledIn s.ep.live p && !s.contended p

/-- The port that a lane belongs to in the live tables, if any (R176; the Garnet link is port 160). -/
def State.portOfLane (s : State) (l : Nat) : Option Nat :=
  if 320 ≤ l then some 160
  else
    let nn := s.ruling s.ep.live (l / 8)
    ([4 * nn, 4 * nn + 1, 4 * nn + 2, 4 * nn + 3]).find? (fun p =>
      let w := s.portLanes s.ep.live p
      decide (w.1 ≤ l) && decide (l < w.1 + w.2))

/-- The lanes of a port, in physical order (R161). -/
def State.lanesOf (s : State) (p : Nat) : List Nat :=
  let w := s.portLanes s.ep.live p
  (List.range w.2).map (fun i => w.1 + i)

/-- The ports of a group in the live tables; an x16 port belongs to both of its groups (R176, R592). -/
def State.portsOfGroup (s : State) (nn : Nat) : List Nat :=
  let r := s.ruling s.ep.live nn
  ([4 * r, 4 * r + 1, 4 * r + 2, 4 * r + 3]).filter (fun p => s.portNamed s.ep.live p)

/-- Hierarchy of a host port, if it names one (R203). -/
def State.vhOfPortIn (s : State) (t : Tbl Nat) (p : Nat) : Option Nat :=
  if s.portRoleIn t p = 1 ∧ s.portIn t p 6 < 64 then some (s.portIn t p 6) else none

/-- Hierarchy of a host port in the live tables. -/
def State.vhOfPort (s : State) (p : Nat) : Option Nat := s.vhOfPortIn s.ep.live p

/-- The enabled host port of a hierarchy in the live tables, if any (R179). -/
def State.portOfVh (s : State) (v : Nat) : Option Nat :=
  (List.range 160).find? (fun p => s.enabled p && decide (s.vhOfPort p = some v))

/-- Lossless reservation of a port and class 0 to 3 in cells: the entry, or the value R225 gives the role and the
configured width; the internal ports, numbered 160 + i, hold 256 in each class. -/
def State.reservationIn (s : State) (t : Tbl Nat) (p c : Nat) : Nat :=
  if 160 ≤ p then 256
  else
    let w := (s.portLanes t p).2
    let d := if s.portRoleIn t p = 3 then (if c = 3 then 0 else 128 * w)
      else if s.portRoleIn t p = 0 then 0
      else ([16, 8, 16, 16].getD c 0) * w
    t.look (key (0x4040 + p) (1 + c)) d

/-- What a staged entry reads in a table copy, with the defaults that depend on the role and the width of a port (R20, R203, R225). -/
def State.entryIn (s : State) (t : Tbl Nat) (i j : Nat) : Nat :=
  if 0x3400 ≤ i ∧ i < 0x34A0 then s.portIn t (i - 0x3400) j
  else if 0x4040 ≤ i ∧ i < 0x40E0 ∧ 1 ≤ j ∧ j ≤ 4 then s.reservationIn t (i - 0x4040) (j - 1)
  else s.inTables t i j

/-- Keys of the entries of a group's four port numbers whose default depends on the group's role and layout: max_rate and the
four reservations (R203, R225). -/
def dependentKeys (nn : Nat) : List Nat :=
  ([4 * nn, 4 * nn + 1, 4 * nn + 2, 4 * nn + 3].map (fun p =>
    key (0x3400 + p) 2 :: [1, 2, 3, 4].map (key (0x4040 + p)))).flatten

/-- Domain of a hierarchy: the lowest valid domain whose vh_set holds it, else D0000 (R491, D:7ddd.04). -/
def State.domainOfVhIn (s : State) (t : Tbl Nat) (v : Nat) : Nat :=
  let ds := (t.filter (fun e => decide (0x7000 ≤ e.1 / 256) && decide (e.1 / 256 < 0x8000) &&
    decide (e.1 % 256 = 4) && e.2.testBit v)).map (fun e => e.1 / 256 - 0x7000)
  match ds.find? (fun d => decide (s.inTables t (0x7000 + d) 1 = 1 ∨ d = 0)) with
  | some d => d
  | none => 0

/-- Domain of a hierarchy in the live tables. -/
def State.domainOfVh (s : State) (v : Nat) : Nat := s.domainOfVhIn s.ep.live v

end Sys2Proof.Machine
end

