-- ==== Sys2Proof/Machine/Ops.lean ====
section
/-!
DEFINITION. The named operations over the module's registers that every meaning is built from: reading and
changing one object, reporting a fault event, counting, answering, sending, and the outcome combinators.
-/

namespace Sys2Proof.Machine

/-- The outcome of a command. -/
abbrev Res := Host.Outcome State Fault Refusal

/-- The outcome of a command whose effect happens only under its condition: where the condition does not hold the
event it names cannot occur, and the state is unchanged (log entry 3). -/
def guarded (c : Bool) (f : State → State) (s : State) : Res := .next (if c then f s else s)

/-- A command whose operand data must be well formed, and which acts only under its condition (log entry 3): data outside the
fields of its format spells nothing that can reach the module, so the event cannot occur. DESIGN CHOICE: log entry 7. -/
def checked (wf c : Bool) (f : State → State) (s : State) : Res := guarded (wf && c) f s

/-- Apply an operation under a condition. DEDUCED: log entry 3. -/
def State.ifDo (c : Bool) (f : State → State) (s : State) : State := if c then f s else s

/-- Apply an operation for each number of a list, in order. -/
def State.each {α : Type} (l : List α) (f : α → State → State) (s : State) : State :=
  l.foldl (fun s x => f x s) s

/-- Record an output. DESIGN CHOICE: log entry 9. -/
def State.emit (o : Out) (s : State) : State := { s with out := o :: s.out }

/-- Answer a write of a command row with a status (R656). -/
def State.answer (code : Nat) (s : State) : State := s.emit (.status code)

/-- Count an event in a counter of the dictionary. -/
def State.countBy (n i j : Nat) (s : State) : State :=
  { s with views := s.views.put (key i j) (s.view i j + n) }

/-- Count one event in a counter of the dictionary. -/
def State.bump (i j : Nat) (s : State) : State := s.countBy 1 i j

/-- Set a counter, check entry or selector of the dictionary. -/
def State.setView (i j v : Nat) (s : State) : State := { s with views := s.views.put (key i j) v }

/-- A fault event of a source, detected in the current beat: it is classified at the next boundary (R587). -/
def State.raise (src : Nat) (s : State) : State :=
  let e := s.col.sources.look src {}
  { s with col := { s.col with sources := s.col.sources.put src { e with newEvents := e.newEvents + 1 } } }

/-- An event of an interrupt-controller source sets its pending bit (R565). -/
def State.interrupt (n : Nat) (s : State) : State :=
  { s with irq := { s.irq with pending := s.irq.pending.put n true } }

/-- Take the next free value of a place (log entry 4) and advance the counter. -/
def State.fresh (place : Nat) (s : State) : Nat × State :=
  (Config.freeValue place s.free, { s with free := s.free + 1 })

/-- A lane. -/
def State.lane (s : State) (l : Nat) : Lane := s.lanes.look l {}
/-- Change a lane. -/
def State.setLane (l : Nat) (f : Lane → Lane) (s : State) : State := { s with lanes := s.lanes.put l (f (s.lane l)) }
/-- A port. -/
def State.port (s : State) (p : Nat) : Port := s.ports.look p {}
/-- Change a port. -/
def State.setPort (p : Nat) (f : Port → Port) (s : State) : State := { s with ports := s.ports.put p (f (s.port p)) }
/-- The sidebands of a group. -/
def State.group (s : State) (n : Nat) : GroupSide := s.groups.look n {}
/-- Change the sidebands of a group. -/
def State.setGroup (n : Nat) (f : GroupSide → GroupSide) (s : State) : State :=
  { s with groups := s.groups.put n (f (s.group n)) }
/-- The link layer of a trunk port. -/
def State.trunk (s : State) (p : Nat) : Trunk := s.trunks.look p {}
/-- Change the link layer of a trunk port. -/
def State.setTrunk (p : Nat) (f : Trunk → Trunk) (s : State) : State :=
  { s with trunks := s.trunks.put p (f (s.trunk p)) }
/-- The collector's record of a source. -/
def State.source (s : State) (n : Nat) : Source := s.col.sources.look n {}
/-- Change the collector's record of a source. -/
def State.setSource (n : Nat) (f : Source → Source) (s : State) : State :=
  { s with col := { s.col with sources := s.col.sources.put n (f (s.source n)) } }
/-- A hierarchy. -/
def State.hier (s : State) (v : Nat) : Hier := s.fab.hiers.look v {}
/-- Change a hierarchy. -/
def State.setHier (v : Nat) (f : Hier → Hier) (s : State) : State :=
  { s with fab := { s.fab with hiers := s.fab.hiers.put v (f (s.hier v)) } }
/-- A virtual downstream bridge of a hierarchy. -/
def State.bridge (s : State) (v b : Nat) : Bridge := s.fab.bridges.look (v * 256 + b) {}
/-- Change a virtual downstream bridge. -/
def State.setBridge (v b : Nat) (f : Bridge → Bridge) (s : State) : State :=
  { s with fab := { s.fab with bridges := s.fab.bridges.put (v * 256 + b) (f (s.bridge v b)) } }
/-- The slot of a downstream port. -/
def State.slot (s : State) (p : Nat) : Slot := s.fab.slots.look p {}
/-- Change the slot of a downstream port. -/
def State.setSlot (p : Nat) (f : Slot → Slot) (s : State) : State :=
  { s with fab := { s.fab with slots := s.fab.slots.put p (f (s.slot p)) } }
/-- The management function of a hierarchy. -/
def State.func (s : State) (v : Nat) : Func := s.host.funcs.look v {}
/-- Change the management function of a hierarchy. -/
def State.setFunc (v : Nat) (f : Func → Func) (s : State) : State :=
  { s with host := { s.host with funcs := s.host.funcs.put v (f (s.func v)) } }
/-- A fabric access instance. -/
def State.inst (s : State) (n : Nat) : Instance := s.host.instances.look n {}
/-- Change a fabric access instance. -/
def State.setInst (n : Nat) (f : Instance → Instance) (s : State) : State :=
  { s with host := { s.host with instances := s.host.instances.put n (f (s.inst n)) } }
/-- A pool device. -/
def State.device (s : State) (n : Nat) : Device := s.pool.devices.look n {}
/-- Change a pool device. -/
def State.setDevice (n : Nat) (f : Device → Device) (s : State) : State :=
  { s with pool := { s.pool with devices := s.pool.devices.put n (f (s.device n)) } }
/-- An extent. -/
def State.extent (s : State) (n : Nat) : Extent := s.pool.extents.look n {}
/-- Change an extent. -/
def State.setExtent (n : Nat) (f : Extent → Extent) (s : State) : State :=
  { s with pool := { s.pool with extents := s.pool.extents.put n (f (s.extent n)) } }
/-- Whether the module mirrors its changes to the twin (R621). -/
def State.mirroring (s : State) : Bool :=
  match s.twin.state with
  | .attaching | .paired | .fencing => true
  | _ => false

/-- Code of a queue-pair state (D:6040.02). -/
def QpState.code : QpState → Nat
  | .reset => 0 | .init => 1 | .ready => 2 | .error => 3

/-- Bytes of a Beryl frame on a trunk: 24 B header, 32 B Beryl header, data, 4 B frame check (R343, R456). -/
def berylBytes (dataLen : Nat) : Nat := 24 + 32 + dataLen + 4

/-- Shared-buffer cells of a Beryl frame (R205). -/
def berylCells (f : BFrame) : Nat := (berylBytes f.dataLen + 255) / 256

/-- Cells parked for a queue pair. -/
def Qp.parkedCells (x : Qp) : Nat := (x.parked.map berylCells).sum

/-- What a mirror record of a queue pair carries: state, next send PSN, oldest unacknowledged PSN, expected PSN, rate,
counter and the consumer indexes of its three rings (R619, kind 9). -/
def Qp.image (q : Qp) : List Nat :=
  [q.state.code, q.sentPsn, q.unacked, q.expected, q.rate, q.counter, (q.sqProd + 65536 - q.sq.length) % 65536,
    (q.rqProd + 65536 - q.rq.length) % 65536, (q.tlProd + 65536 - q.tl.length) % 65536]

/-- A queue pair. -/
def State.qp (s : State) (n : Nat) : Qp := s.beryl.qps.look n {}
/-- Change a queue pair; while the pair mirrors, a change of its image is noted for the end of the beat (R619). -/
def State.setQp (n : Nat) (f : Qp → Qp) (s : State) : State :=
  let q := f (s.qp n)
  let noted := s.mirroring && !(q.image == (s.qp n).image) && !s.beryl.changed.contains n
  { s with beryl := { s.beryl with qps := s.beryl.qps.put n q,
                                   changed := if noted then s.beryl.changed ++ [n] else s.beryl.changed } }
/-- A completion queue. -/
def State.cq (s : State) (n : Nat) : Cq := s.beryl.cqs.look n {}
/-- Change a completion queue. -/
def State.setCq (n : Nat) (f : Cq → Cq) (s : State) : State :=
  { s with beryl := { s.beryl with cqs := s.beryl.cqs.put n (f (s.cq n)) } }
/-- A region of the Beryl engine. -/
def State.region (s : State) (n : Nat) : Region := s.beryl.regions.look n {}
/-- Change a region of the Beryl engine. -/
def State.setRegion (n : Nat) (f : Region → Region) (s : State) : State :=
  { s with beryl := { s.beryl with regions := s.beryl.regions.put n (f (s.region n)) } }

/-- The die has power and is not in standby: Starting, Active or Safe (table of chapter 03). -/
def State.dieOn (s : State) : Bool :=
  match s.sup.state with
  | .starting | .active | .safe => true
  | _ => false

/-- The data path is released and the module is not in safe state (R109, R599). -/
def State.running (s : State) : Bool := decide (s.sup.state = .active) && !s.col.safe

/-- A start is in progress: it waits for one of its phases (R129). -/
def State.starting (s : State) : Bool := decide (s.start.phase ≠ .none)

/-- Whether ADP requests are answered (R122, R129, R600, R663): not before the firmware phase of a start, not after the loss of
the last core, and not where no image may run. -/
def State.adpUp (s : State) : Bool :=
  s.dieOn && (match s.start.phase with
    | .none | .firmware | .configuration | .release => true
    | _ => false) && !(s.col.safe && decide (s.col.now.cause = 4)) && decide (s.start.running ≠ 3)

/-- ADP requests are performed now: not while a start is in progress, in safe state or in limited mode, or while the task set
of ADP moves to another core (R130, R560, R600, R663). -/
def State.adpOpen (s : State) : Bool := s.adpUp && s.running && !s.starting && !s.irq.moving.contains 0

/-- A dictionary write of a command row, by a session whose level and domain reach it: it acts, or is answered busy where
the module cannot perform requests now. -/
def commandWrite (f : State → State) (s : State) : Res :=
  guarded s.adpUp (fun s => if s.adpOpen then f s else s.answer 1) s

/-- The collector's scope of a source: a group, 40 for the Garnet link, 255 for the module (R584). -/
def scopeOf (n : Nat) : Nat :=
  if 64 ≤ n ∧ n < 104 then n - 64
  else if 136 ≤ n ∧ n < 176 then n - 136
  else if n = 176 then 40
  else if 256 ≤ n ∧ n < 296 then n - 256
  else if 296 ≤ n ∧ n < 336 then n - 296
  else 255

/-- The fixed reaction of a source, if it has one (R591). -/
def fixedReaction (n : Nat) : Option Nat :=
  if 114 ≤ n ∧ n ≤ 118 then some 0
  else if n = 121 ∨ n = 185 ∨ n = 235 then some 4
  else none

/-- Bytes that a record takes in the mirror queue: its header word and its payload words (R619, R622). -/
def Record.bytes (r : Record) : Nat := 8 + 8 * r.payload.length

/-- Bytes in the mirror queue (R622). -/
def State.mirrorBytes (s : State) : Nat := (s.twin.queue.map Record.bytes).sum

/-- Append a mirror record while the pair mirrors (R619, R620); the records of a change are in order. DEDUCED: log entry 44.
DESIGN CHOICE: log entry 47. -/
def State.mirror (kind : Nat) (fields payload : List Nat) (s : State) : State :=
  if s.mirroring then
    { s with twin := { s.twin with
        queue := s.twin.queue ++ [{ number := s.twin.nextRecord, kind := kind, fields := fields, payload := payload }],
        nextRecord := s.twin.nextRecord + 1, opened := s.twin.opened + 1 } }
  else s

/-- Send a message that reports a mirrored change: while the pair mirrors it is held until the twin has
acknowledged every record made so far (R408, R621). -/
def State.emitHeld (o : Out) (s : State) : State :=
  if s.mirroring && decide (s.twin.acked < s.twin.nextRecord) then
    { s with twin := { s.twin with held := s.twin.held ++ [(s.twin.nextRecord - 1, o)] } }
  else s.emit o

/-- Release the held messages whose records are acknowledged (R621). -/
def State.releaseHeld (s : State) : State :=
  let go := s.twin.held.filter (fun h => decide (h.1 < s.twin.acked))
  let stay := s.twin.held.filter (fun h => decide (¬ h.1 < s.twin.acked))
  { s with twin := { s.twin with held := stay }, out := (go.map (·.2)).reverse ++ s.out }

/-- A frame of the module by its name. -/
def State.frame (s : State) (id : Nat) : Option Frame := s.core.frames.find? (fun f => decide (f.id = id))

/-- Change a frame. -/
def State.setFrame (id : Nat) (g : Frame → Frame) (s : State) : State :=
  { s with core := { s.core with frames := s.core.frames.map (fun f => if f.id = id then g f else f) } }

/-- Lower the in-flight count of an epoch tag (R27). -/
def State.leaveEpoch (tag : Nat) (s : State) : State :=
  { s with ep := { s.ep with inflight := s.ep.inflight.put tag (s.ep.inflight.look tag 0 - 1) } }

/-- Raise the in-flight count of an epoch tag (R27). -/
def State.enterEpoch (tag : Nat) (s : State) : State :=
  { s with ep := { s.ep with inflight := s.ep.inflight.put tag (s.ep.inflight.look tag 0 + 1) } }

/-- The in-flight count of an epoch tag (R27): the frames in the module, those whose last bits are still in an egress staging,
and the requests that wait for a tracker entry or at a home. -/
def State.inFlight (s : State) (tag : Nat) : Nat :=
  let held (w : Waiting) : Bool := match w.mem, w.coh with
    | some m, _ => decide (m.tag = tag)
    | none, some c => decide (c.req.tag = tag)
    | none, none => false
  let mine (q : Request) : Bool := decide (q.tag = tag)
  s.ep.inflight.look tag 0 + (s.fab.waiting.filter held).length +
    (s.ports.map (fun e => (e.2.leaving.filter (fun x => decide (x.2 = tag))).length)).sum +
    (s.home.slots.map (fun k => (if k.tag = tag ∧ (k.req.isSome ∨ k.cmps ≠ []) then 1 else 0) +
      ((k.heldMsgs ++ k.queue).filter mine).length)).sum +
    ((s.home.allocs ++ s.home.ring).filter (fun a => mine a.req)).length

/-- Data credits of 16 B that a TLP takes; a CXL message takes a whole message credit instead (R694). -/
def creditUnits (kind : Nat) (x : Tlp) : Nat := if kind = 0 then (x.dataBytes + 15) / 16 else 0

/-- A waiting request that is no frame. -/
def Waiting.inner (w : Waiting) : Bool := w.mem.isSome || w.coh.isSome

/-- Remove a frame from the module: its cells are freed, its epoch is left, and the credits of a frame charged to the
reservation of a host or downstream port return to its link partner (R27, R224, R229). -/
def State.dropFrame (id : Nat) (s : State) : State :=
  match s.frame id with
  | none => s
  | some f =>
    let s1 := s.leaveEpoch f.tag
    let s2 := { s1 with
      core := { s1.core with frames := s1.core.frames.filter (fun g => decide (g.id ≠ id)) }
      fab := { s1.fab with waiting := s1.fab.waiting.filter (fun w => w.inner || decide (w.frame ≠ id)) } }
    if f.charge = .reservation ∧ f.ingress < 160 ∧ s.portRole f.ingress ≠ 3 then s2.emit (.credit f.ingress f.cls 1 (creditUnits f.kind f.near)) else s2

end Sys2Proof.Machine
end

