-- ==== Sys2Proof/Machine/Flags.lean ====
section
/-!
DEFINITION. Every status, interrupt and error flag that several chapters raise: interrupt vectors with their
moderation (R541 to R549), causes and records of the management functions (R498, R505, R529), notifications
(R661, R662), and the entry to safe state (R597 to R602).
-/

namespace Sys2Proof.Machine

/-- The live descriptor of an instance (R500). -/
def State.instDescIn (s : State) (t : Tbl Nat) (i : Nat) : Nat := s.inTables t (0x6080 + i / 256) (i % 256)
/-- The live descriptor of an instance (R500). -/
def State.instDesc (s : State) (i : Nat) : Nat := s.instDescIn s.ep.live i

/-- Fields of an instance descriptor (R500). -/
structure InstDesc where
  enable : Bool
  domain : Nat
  vh : Nat
  slot : Nat
  qpBase : Nat
  qpCount : Nat
  cqBase : Nat
  cqCount : Nat
  regBase : Nat
  regCount : Nat
  vecBase : Nat
  vecCount : Nat
  reserved : Nat
deriving DecidableEq, Repr

/-- Decode an instance descriptor by the bit ranges of R500. -/
def instFields (d : Nat) : InstDesc where
  enable := bit d 255
  domain := bits d 254 243
  vh := bits d 242 237
  slot := bits d 236 229
  qpBase := bits d 228 212
  qpCount := bits d 211 194
  cqBase := bits d 193 180
  cqCount := bits d 179 165
  regBase := bits d 164 145
  regCount := bits d 144 124
  vecBase := bits d 123 111
  vecCount := bits d 110 97
  reserved := bits d 96 0

/-- The decoded live descriptor of an instance. -/
def State.instD (s : State) (i : Nat) : InstDesc := instFields (s.instDesc i)

/-- Instances that a table copy names, by number. -/
def instNumbers (t : Tbl Nat) : List Nat :=
  (t.filter (fun e => decide (0x6080 ≤ e.1 / 256) && decide (e.1 / 256 ≤ 0x608F))).map
    (fun e => (e.1 / 256 - 0x6080) * 256 + e.1 % 256)

/-- The valid instances of the live tables. -/
def State.validInsts (s : State) : List Nat := (instNumbers s.ep.live).filter (fun i => (s.instD i).enable)

/-- The instance whose vector range holds a store vector (R542). -/
def State.instOfVector (s : State) (v : Nat) : Option Nat :=
  s.validInsts.find? (fun i => decide ((s.instD i).vecBase ≤ v) &&
    decide (v < (s.instD i).vecBase + (s.instD i).vecCount))

/-- The module may issue memory requests under the function's requester ID (R549). -/
def State.canMaster (s : State) (vh : Nat) : Bool := (s.func vh).busMaster && !(s.func vh).d3

/-! ### Link power and traffic -/

/-- A link that was up narrows or retrains, or is in Recovery (R160, R183). -/
def Port.retrains (q : Port) : Bool := q.narrowSince.isSome || q.recovery

/-- The link of a port is active at the data link layer: stage 5, or a narrowing, retrain or Recovery in progress (R160, R183,
R289). -/
def State.linkActive (s : State) (p : Nat) : Bool := decide ((s.port p).stage = 5) || (s.port p).retrains

/-- Beats in which a receiver leaves a state (R155). -/
def rxExitBeats : LaneDir → Nat
  | .on => 0
  | .quickIdle => 4
  | .deepIdle => 64
  | .off => 390

/-- A receiver takes a state; one that leaves Deep idle or Off must lock within its exit latency and 64 beats (R155, R158). -/
def Lane.setRx (b : Nat) (d : LaneDir) (x : Lane) : Lane :=
  { x with rx := d, rxExit := if d ≠ .on then none else if x.rx = .deepIdle ∨ x.rx = .off then some (b + rxExitBeats x.rx + 64) else x.rxExit }

/-- Scans whose receiver is no longer On in stage 5 are aborted (R171). -/
def State.scanCheck (s : State) : State :=
  let lost (x : Scan) : Bool :=
    let l := s.lane (x.params.look 1 0 * 8 + x.params.look 2 0)
    decide (x.status = 1) && !(decide (l.state = 5) && decide (l.rx = .on))
  { s with scans := s.scans.map (fun e => (e.1, if lost e.2 then { e.2 with status := 4 } else e.2)) }

/-- Direction states of a port's lanes by its link power state (R193). -/
def LinkPower.lane : LinkPower → LaneDir
  | .l0 => .on | .l0p => .on | .l0s => .quickIdle | .l1 => .quickIdle | .l11 => .deepIdle | .l12 => .off | .l2 => .off

/-- A port needs its group's CLKREQ_N asserted: its link trains or is up, outside the L1 substates and L2 (R193). -/
def Port.needsClock (q : Port) : Bool :=
  decide (1 ≤ q.stage) && decide (q.power ≠ .l11 ∧ q.power ≠ .l12 ∧ q.power ≠ .l2)

/-- Gnn_CLKREQ_N of a port's groups is asserted, low, while any port of the group needs it (R193). DEDUCED: log entry 21. -/
def State.clkreqCheck (p : Nat) (s : State) : State :=
  if 160 ≤ p then s
  else s.each (if (s.portLanes s.ep.live p).2 = 16 then [p / 4, p / 4 + 1] else [p / 4]) (fun n s =>
    s.setGroup n (fun g => { g with clkreq := decide (s.roleIn s.ep.live n = 3) || !(s.portsOfGroup n).any (fun q => (s.port q).needsClock) }))

/-- Change a port's link power state and the states of its lanes in use (R193); in L0 both directions run at full width (R197). -/
def State.setPower (p : Nat) (w : LinkPower) (s : State) : State :=
  (((s.setPort p (fun q => { q with
    power := w
    txWidth := if w = .l0 then q.width else q.txWidth
    rxWidth := if w = .l0 then q.width else q.rxWidth
    widening := q.widening && decide (w ≠ .l0)
    state := match w with
      | .l2 => 5
      | .l1 | .l11 | .l12 => 4
      | _ => 2 })).each (s.lanesOf p) (fun l s => s.setLane l (fun x => if x.state = 5 then ({ x with tx := w.lane }).setRx s.ep.beat w.lane else x))).clkreqCheck p).scanCheck

/-- A transmitter of one of a port's lanes in use is in Quick idle (R155). -/
def State.txIdle (s : State) (p : Nat) : Bool :=
  (s.lanesOf p).any (fun l => decide ((s.lane l).state = 5 ∧ (s.lane l).tx = .quickIdle))

/-- The link is in L0s while a direction of one of its lanes is in Quick idle in L0 (R193). -/
def State.l0sCheck (p : Nat) (s : State) : State :=
  let idle := (s.lanesOf p).any (fun l => decide ((s.lane l).state = 5 ∧ ((s.lane l).tx = .quickIdle ∨ (s.lane l).rx = .quickIdle)))
  s.setPort p (fun q => { q with power := if s.portRole p ≠ 3 ∧ (q.power = .l0 ∨ q.power = .l0s) then (if idle then .l0s else .l0) else q.power })

/-- The transmitters of a link in L0s return to On for traffic, each stream starting anew (R142, R156, R193). -/
def State.wakeTx (p : Nat) (s : State) : State :=
  (s.each (s.lanesOf p) (fun l s => s.setLane l (fun x =>
    if x.state = 5 ∧ x.tx = .quickIdle then { x with tx := .on, lastTx := 0 } else x))).l0sCheck p

/-- A port's link is brought down with a cause of D:34pp.19: its lanes are Off, and what it negotiated is lost (R182, R204); a
port that failed training stays failed until it is enabled again or changed (R153, R182). Its lanes keep their mode code in
D:30nn.k1 (log entry 49). What concerns it is handled by linkLost. DESIGN CHOICE: log entry 49. -/
def State.portDown (p cause : Nat) (s : State) : State :=
  let up := s.linkActive p
  let ide := if s.portIn s.ep.live p 0xA = 1 ∧ p < 160 then (if (s.port p).ide = 3 then 3 else 1) else 0
  let s1 := s.setPort p (fun q => { q with
    state := if !s.enabled p then 0 else if q.state = 3 ∧ cause ≠ 6 then 3 else 1
    stage := 0, firstDetect := none, narrowSince := none, recovery := false, width := 0, rate := 0
    flit := false, l0p := false, cxlFlit := 0, reversed := false, cxl := 0, protocols := 0, txWidth := 0, rxWidth := 0, widening := false, power := .l0
    linkDowns := q.linkDowns + (if up then 1 else 0), downCause := cause, ide := ide, creditHeaders := [], creditData := [], staging := 0
    stagingHeld := 0, leaving := [], stallSince := none
    downOwed := q.downOwed || up })
  let s2 := s1.each (s.lanesOf p) (fun l s => s.setLane l (fun x =>
    { x with state := if x.state = 6 then 6 else 0, tx := .off, rx := .off, ready := false, goodWords := 0, rxExit := none })) |>.clkreqCheck p |>.scanCheck
  if up && decide (p < 160) then (s2.raise (256 + p / 4)).interrupt (200 + p / 4) else s2

/-- Traffic on a port's link: its idle time restarts (R195), a link in L1 or a substate starts exit at once (R196), and one in L0s
transmits again (R193). -/
def State.useLink (p : Nat) (s : State) : State :=
  if 160 ≤ p then s
  else
    let s1 := s.setPort p (fun q => { q with idleSince := s.ep.beat })
    match (s.port p).power with
    | .l1 | .l11 | .l12 => s1.setPower p .l0
    | .l0s => s1.wakeTx p
    | _ => s1

/-- Send something that the module forms on a port, whose link leaves L1 for it (R196). -/
def State.emitOn (p : Nat) (o : Out) (s : State) : State := (s.emit o).useLink p

/-- Send an access or an interrupt message to a host, on its hierarchy's port. -/
def State.emitVh (vh : Nat) (o : Out) (s : State) : State :=
  match s.portOfVh vh with
  | some p => (s.emitHeld o).useLink p
  | none => s.emitHeld o

/-- The lowest tag that no entry of a hierarchy's master requests holds, Outstanding or Expired (R287, R553). DEDUCED: log
entry 27. -/
def State.masterTag (s : State) (v : Nat) : Nat :=
  let used := (s.fab.track.filter (fun t => decide (t.mvh = some v))).map (·.tagNo)
  ((List.range (used.length + 1)).find? (fun n => !used.contains n)).getD 0

/-- The PASID of a request made for an instance; the management function's own requests carry none (R498, R503, R544). -/
def State.pasidOf (s : State) (inst : Option Nat) : Option Nat := inst.map (fun i => (s.inst i).pasid)

/-- A read of host memory, for a function or an instance (R503, R553). -/
def State.readOut (s : State) (v : Nat) (inst : Option Nat) (addr len : Nat) : Out :=
  .hostRead v (s.pasidOf inst) addr len (s.masterTag v)

/-- A write to the memory of an instance (R503). -/
def State.writeOut (s : State) (i addr : Nat) (words : List Nat) : Out := .hostWrite (s.instD i).vh (s.pasidOf (some i)) addr words

/-- An AtomicOp on the memory of an instance (R503, R553). -/
def State.atomicOut (s : State) (i addr op a b : Nat) : Out :=
  .hostAtomic (s.instD i).vh (s.pasidOf (some i)) addr op a b (s.masterTag (s.instD i).vh)

/-- Send an access to host memory under the management function's requester ID. While the function cannot master
the bus it waits, in order (R549); while the pair mirrors it is held as R621 says. -/
def State.emitHost (vh : Nat) (o : Out) (s : State) : State :=
  if s.canMaster vh then s.emitVh vh o
  else s.setFunc vh (fun f => { f with stalled := f.stalled ++ [{ out := o }] })

/-- An interrupt vector: of the store, or of a management function by vh * 64 + v. -/
def State.vec (s : State) (store : Bool) (k : Nat) : Vector :=
  if store then s.host.storeVectors.look k {} else s.host.fnVectors.look k {}

/-- Change an interrupt vector. -/
def State.setVec (store : Bool) (k : Nat) (f : Vector → Vector) (s : State) : State :=
  if store then { s with host := { s.host with storeVectors := s.host.storeVectors.put k (f (s.vec true k)) } }
  else { s with host := { s.host with fnVectors := s.host.fnVectors.put k (f (s.vec false k)) } }

/-- Hierarchy of a vector. -/
def State.vecVh (s : State) (store : Bool) (k : Nat) : Nat :=
  if store then match s.instOfVector k with
    | some i => (s.instD i).vh
    | none => 0
  else k / 64

/-- The host is idle for a vector: its port is in L1 or a substate, its transmit direction runs narrow under L0p,
or the instance's idle_hint is set (R547). -/
def State.hostIdle (s : State) (store : Bool) (k : Nat) : Bool :=
  let portIdle := match s.portOfVh (s.vecVh store k) with
    | some p => decide ((s.port p).power = .l1 ∨ (s.port p).power = .l11 ∨ (s.port p).power = .l12) ||
        decide ((s.port p).txWidth < (s.port p).width)
    | none => false
  portIdle || (store && match s.instOfVector k with
    | some i => (s.inst i).idleHint
    | none => false)

/-- A vector is deliverable (R544); in safe state no message leaves the module (R599). DEDUCED: log entry 14. -/
def State.deliverable (s : State) (store : Bool) (k : Nat) : Bool :=
  let f := s.func (s.vecVh store k)
  !s.col.safe && !f.d3 && f.busMaster &&
    (if store then f.msixEn && !f.msixMask && !(s.vec true k).masked && (s.instOfVector k).isSome
     else if f.msixEn then !f.msixMask && !(s.vec false k).masked
     else f.msiEn && !f.msiMask.testBit (k % 64 % (max f.msiCount 1)))

/-- Address and data of a vector's message: its table entry, or MSI message v mod N (R541). -/
def State.vecMessage (s : State) (store : Bool) (k : Nat) : Nat × Nat :=
  let f := s.func (s.vecVh store k)
  if store || f.msixEn then ((s.vec store k).addr, (s.vec store k).data)
  else (f.msiAddr, f.msiData + k % 64 % (max f.msiCount 1))

/-- The "send" of R545: write the message when the vector is deliverable, else leave it pending. The first message
for a vector of an instance clears its idle_hint (R547). -/
def State.vecSend (store : Bool) (k : Nat) (s : State) : State :=
  if s.deliverable store k then
    let m := s.vecMessage store k
    let s1 := s.setVec store k (fun v => { v with count := 0, pending := false, timer := 0, asked := false })
    let s2 := (s1.emitVh (s.vecVh store k) (.vector (s.vecVh store k) m.1 m.2)).bump 0x8065 3
    match store, s.instOfVector k with
    | true, some i => s2.setInst i (fun e => { e with idleHint := false })
    | _, _ => s2
  else s.setVec store k (fun v => { v with asked := true })

/-- One event of a vector (R545). -/
def State.vecEvent (store : Bool) (k : Nat) (s : State) : State :=
  let s1 := s.setVec store k (fun v => { v with count := min (v.count + 1) 255, pending := true })
  let v := s1.vec store k
  if v.modTimer = 0 ∨ s1.hostIdle store k then s1.vecSend store k
  else if v.modCount ≠ 0 ∧ v.modCount ≤ v.count then s1.vecSend store k
  else if v.timer = 0 then s1.setVec store k (fun w => { w with timer := w.modTimer })
  else s1

/-- Set a cause bit of a management function; the event counts for vector 0 (R529). -/
def State.causeEvent (vh b : Nat) (s : State) : State :=
  (s.setFunc vh (fun f => { f with cause := f.cause ||| 2 ^ b })).vecEvent false (vh * 64)

/-- Count a discarded domain error record (R499). -/
def State.errLost (d : Nat) (s : State) : State :=
  let s1 := (s.bump (0x7000 + d) 8).raise 361
  let rv := s.live (0x7000 + d) 5
  if rv < 64 then s1.causeEvent rv 4 else s1

/-- Write a record to a domain's error queue: record, producer index, event vector; a full or unset ring discards
it (R498, R499). -/
def State.errRecord (d : Nat) (words : List Nat) (s : State) : State :=
  let rv := s.live (0x7000 + d) 5
  let f := s.func rv
  if rv < 64 ∧ 6 ≤ f.errqLog2 ∧ f.errqLog2 ≤ 16 ∧ f.errqBase % 4096 = 0 ∧
      (f.errqProducer + 2 ^ 32 - f.errqConsumer) % 2 ^ 32 < 2 ^ f.errqLog2 then
    let s1 := s.emitHost rv (.hostWrite rv none (f.errqBase + 32 * (f.errqProducer % 2 ^ f.errqLog2)) words)
    let s2 := s1.setFunc rv (fun g => { g with errqProducer := (g.errqProducer + 1) % 2 ^ 32 })
    (s2.bump (0x7000 + d) 7).causeEvent rv 0
  else s.errLost d

/-- Whether a cap of zero lets no master request of a hierarchy and an instance be issued (R689). -/
def State.masterZero (s : State) (vh inst : Option Nat) : Bool :=
  decide (s.live 0x8062 1 = 0) ||
    (match vh with | some v => decide (s.live 0x8061 v = 0) | none => false) ||
    (match inst with | some _ => decide (s.live 0x8062 2 = 0) | none => false)

/-- Log one page of an instance in its active dirty map, unless it is among the last 1,024 pages set; a page outside the
range, or a map word that cannot be reached, sets the overflow flag (R506, R507, R509, R689). The update of the map
is itself a write that is logged; what the map word holds is a free value. -/
def State.logPage (i page : Nat) : Nat → State → State
  | 0, s => s
  | n + 1, s =>
    let e := s.inst i
    if !e.logging || e.overflow || e.recentPages.contains page then s
    else if page < e.firstPage ∨ e.firstPage + 64 * e.mapWords ≤ page ∨
        s.masterZero (some (s.instD i).vh) (some i) = true then
      (s.setInst i (fun x => { x with overflow := true })).raise 363
    else
      let v := (s.instD i).vh
      let b := (page - e.firstPage) % 64
      let a := e.maps.getD e.activeMap 0 + 8 * ((page - e.firstPage) / 64)
      let s1 := s.setInst i (fun x => { x with recentPages := (page :: x.recentPages).take 1024 })
      let r := (s1.emitHost v (s1.readOut v (some i) a 8)).fresh 1
      let w := r.1 % 2 ^ 64
      if w.testBit b then r.2
      else (r.2.logPage i (a / 4096) n).emitHost v (r.2.atomicOut i a 5 w (w ||| 2 ^ b))

/-- Log the pages of a range that the module writes for an instance; a range of length zero logs nothing (R506). -/
def State.logRange (i addr len : Nat) (s : State) : State :=
  if len = 0 then s
  else s.each ((List.range ((addr + len - 1) / 4096 - addr / 4096 + 1)).map (fun k => addr / 4096 + k))
    (fun p s => s.logPage i p 8)

/-- Write words to the memory of an instance, its pages logged first (R503, R506, R507). The region is the one in whose
in-flight count the access is, and acked the queue pair of a remote segment that has been acknowledged: both matter
only while the access waits (R476, R513). -/
def State.instWrite (i addr len : Nat) (words : List Nat) (acked region : Option Nat) (s : State) : State :=
  let v := (s.instD i).vh
  let s1 := s.logRange i addr len
  if s1.canMaster v then s1.emitVh v (s1.writeOut i addr words)
  else
    let s2 := s1.setFunc v (fun f => { f with
      stalled := f.stalled ++ [{ out := s1.writeOut i addr words, inst := some i, acked := acked, region := region }] })
    match region with
    | some r => s2.setRegion r (fun x => { x with inflight := x.inflight + 1 })
    | none => s2

/-- Change the state of an instance; the change is mirrored (R501, R619 kind 13). -/
def State.setInstState (i c : Nat) (s : State) : State :=
  if (s.inst i).state = c then s else (s.setInst i (fun e => { e with state := c })).mirror 13 [i, c] []

/-- Write an event record to an instance's event queue and raise its event vector; a full queue discards it
(R505, R537, R543), and a squash writes none (R513). The record is mirrored before it is written (R619, kind 12). -/
def State.eventRecord (i : Nat) (words : List Nat) (s : State) : State :=
  let e := s.inst i
  let d := s.instD i
  if e.state ≠ 2 ∧ e.state ≠ 3 then s
  else if (e.evProducer + 2 ^ 32 - e.evConsumer) % 2 ^ 32 < 2 ^ e.evLog then
    let slot := e.evProducer % 2 ^ e.evLog
    let s1 := s.mirror 12 [i, slot] words
    let s2 := s1.instWrite i (e.evAddr + 32 * slot) 32 words none none
    let s3 := s2.setInst i (fun x => { x with evProducer := (x.evProducer + 1) % 2 ^ 32 })
    if d.vecCount = 0 then s3 else s3.vecEvent true d.vecBase
  else (s.setInst i (fun x => { x with evLost := x.evLost + 1 })).raise 362

/-- A message for the mailbox finds a place in mbox_response or in its queue of at most 16, of which at most 15 are
notifications (R534, R662). -/
def Func.room (f : Func) (note : Bool) : Bool :=
  (!f.respReady && f.respQueue.isEmpty) ||
    (decide (f.respQueue.length < 16) && !(note && decide (15 ≤ (f.respQueue.filter (fun m => m.1)).length)))

/-- Put a message of len bytes for a hierarchy's mailbox into mbox_response, with vector 1, or into its queue (R534). -/
def State.mailboxPut (vh : Nat) (note : Bool) (len : Nat) (body : List Nat) (s : State) : State :=
  let f := s.func vh
  if !f.respReady && f.respQueue.isEmpty then
    (s.setFunc vh (fun g => { g with respReady := true, resp := body, respLen := len })).vecEvent false (vh * 64 + 1)
  else if f.room note then s.setFunc vh (fun g => { g with respQueue := f.respQueue ++ [(note, len, body)] })
  else s

/-- Change a session. -/
def State.setSession (n : Nat) (g : Session → Session) (s : State) : State :=
  { s with adp := { s.adp with sessions := s.adp.sessions.map (fun x => if x.number = n then g x else x) } }

/-- End a session, which is forgotten (R654). -/
def State.endSession (n : Nat) (s : State) : State :=
  { s with adp := { s.adp with sessions := s.adp.sessions.filter (fun x => decide (x.number ≠ n)) } }

/-- The segments that ADP uses now, bit 0 MGMT_A and bit 1 MGMT_B: up, and with no address conflict (R642, R643). -/
def State.segmentsUp (s : State) : Nat :=
  (if s.adp.upA && !s.adp.conflictA then 1 else 0) + (if s.adp.upB && !s.adp.conflictB then 2 else 0)

/-- Body length of a notification (R661). -/
def noteLen (code : Nat) (body : List Nat) : Nat :=
  match code with
  | 0 => 4 * body.length
  | 1 => 13
  | 4 => 3
  | _ => 1

/-- Send one notification to one session (R662): a header of 16 B, the body and a tag of 16 B (R645). One that finds no place,
or no segment up, is discarded and counted; a session whose number would reach 2^32 ends (R654). DEDUCED: log entry 37. -/
def State.notifyOne (x : Session) (code : Nat) (body : List Nat) (s : State) : State :=
  if 2 ^ 32 ≤ x.ownSeq + 1 then s.endSession x.number
  else
    let s1 := s.setSession x.number (fun y => { y with ownSeq := y.ownSeq + 1 })
    let lost := (s.bump 0x1110 5).raise 420
    match x.mailbox with
    | some v =>
      if (s.func v).room true then
        s1.mailboxPut v true (32 + noteLen code body) (0x20 :: 2 :: x.number :: (x.ownSeq + 1) :: 0 :: body)
      else lost
    | none => if s.segmentsUp ≠ 0 then s1.emit (.adp s.segmentsUp x.number 2 0x20 (x.ownSeq + 1) 0 body) else lost

/-- Notify every session that has asked for a notification and whose domain allows it (R661): only bit 4 goes to
domains other than D0000, and only for their own domain. -/
def State.notify (code dom : Nat) (body : List Nat) (s : State) : State :=
  s.each (s.adp.sessions.filter (fun x => !x.halfOpen && x.mask.testBit code &&
    (decide (x.domain = 0) || (decide (code = 4) && decide (x.domain = dom)))))
    (fun x s => s.notifyOne x code body)

/-- The state of a domain has changed: the change is mirrored and notified (R619 kind 14, R661). -/
def State.domainState (d c : Nat) (s : State) : State := (s.mirror 14 [d, c] []).notify 4 d [d, c]

/-- Code of the commit state (D:1210.02). -/
def CommitState.code : CommitState → Nat
  | .idle => 0 | .pending => 1 | .deferred => 2 | .rejected => 3

/-- Code of the start state (D:2200.01). -/
def StartState.code : StartState → Nat
  | .sprout => 0 | .bist => 1 | .calibration => 2 | .firmware => 3 | .configuration => 4
  | .ready => 5 | .confirmed => 6 | .limited => 7

/-- Code of the pair state (D:9000.04). -/
def PairState.code : PairState → Nat
  | .holding => 0 | .single => 1 | .attaching => 2 | .paired => 3 | .fencing => 4 | .takenOver => 5

/-- Change the commit state: interrupt source 3 and the commit notification (R564, R661). -/
def State.setCommit (c : CommitState) (s : State) : State :=
  let s1 := ({ s with ep := { s.ep with commit := c } }).interrupt 3
  s1.notify 1 0 [c.code, s1.ep.lastToken, s1.ep.epoch]

/-- Change the start state: the start notification (R661). -/
def State.setStart (c : StartState) (s : State) : State :=
  ({ s with start := { s.start with state := c } }).notify 2 0 [c.code]

/-- Change the pair state: the pair notification (R661). -/
def State.setPair (c : PairState) (s : State) : State :=
  ({ s with twin := { s.twin with state := c } }).notify 3 0 [c.code]

/-- Count a failed start, once: at most 3, and fault source 127 (R126). Its slot is that of the image that ran last. DESIGN
CHOICE: log entry 49. -/
def State.failedStart (s : State) : State :=
  if s.start.counted then s
  else ({ s with start := { s.start with
    counted := true, failed := min (s.start.failed + 1) 3, lastFailedSlot := s.start.running % 2 } }).raise 127

/-- Enter safe state (R597 to R602): no new frame is accepted and frames partly received are discarded, FAULT_N and
TWIN_ALERT_N are driven low, every transmitter goes to electrical idle and cuts the frame in transmission off, the
watchdog stops (R107), a start in progress ends, and Sprout writes the record. An entry by the collector, or by the loss of the
last core, before the start is confirmed counts as a failed start (R126, R601). A second entry changes nothing. DEDUCED: log
entry 14. DESIGN CHOICE: log entry 49. -/
def State.enterSafe (cause src : Nat) (s : State) : State :=
  if s.col.safe then s
  else
    let s0 := if cause ≠ 3 ∧ s.start.state ≠ .confirmed then s.failedStart else s
    let r : SafeRec := { cause := cause, source := if cause = 1 then src else 0xFFFF, stamp := s.ep.beat }
    let s1 := s0.each (s0.core.frames.filter (fun f => decide (f.formed < f.cells))) (fun f s => s.dropFrame f.id)
    let cuts := s1.core.xmit.map (fun e => Out.cut e.1 (e.2 - 1))
    { s1 with
      col := { s1.col with safe := true, now := r, retained := some r, portPending := [] }
      board := { s1.board with faultLow := true, alertLow := true }
      sup := { s1.sup with state := .safe, patternFrom := none }
      start := { s1.start with watchdog := false, phase := .none }
      core := { s1.core with xmit := [] }
      lanes := s1.lanes.map (fun e => (e.1, { e.2 with tx := if e.2.tx = .on then .quickIdle else e.2.tx }))
      out := cuts ++ s1.out }

/-- Power an interrupt-controller view: whether a source is offered to a core (R565). -/
def State.offered (s : State) (k n : Nat) : Bool :=
  s.irq.pending.look n false && decide (s.irq.inService.look n 0 = 0) && s.irq.enable.look (k * 512 + n) false

end Sys2Proof.Machine
end

