-- ==== Sys2Proof/Machine/Wire.lean ====
section
/-!
DEFINITION. What is on the wire of a trunk or Garnet link (chapters 10, 13, 18): the checks CRC-16 and CRC-32C, the
Reed-Solomon code of a flit, and the fields of control words, frame headers and payloads.
-/

namespace Sys2Proof.Machine

/-! ### Checks -/

/-- CRC-16 over the n bits of a value, most significant bit first: polynomial x^16 + x^12 + x^5 + 1, initial value 0xFFFF, no
reflection, no final inversion (R150). -/
def crc16 (n v : Nat) : Nat :=
  (List.range n).foldl (fun c i =>
    let sh := c * 2 % 65536
    if c.testBit 15 != v.testBit (n - 1 - i) then Nat.xor sh 0x1021 else sh) 0xFFFF

/-- One step of CRC-32C, most significant bit first (R238). -/
def crcStep (crc : Nat) (b : Bool) : Nat :=
  let sh := (crc * 2) % 2 ^ 32
  if crc.testBit 31 != b then Nat.xor sh 0x1EDC6F41 else sh

/-- CRC-32C over the n bits of a value, most significant bit first: initial value all ones, no reflection, final inversion
(R238). -/
def crc32 (n v : Nat) : Nat :=
  Nat.xor ((List.range n).foldl (fun c i => crcStep c (v.testBit (n - 1 - i))) 0xFFFFFFFF) 0xFFFFFFFF

/-! ### Bytes as numbers, the first byte most significant -/

/-- A run of bytes as one number. -/
def numberOf (l : List Nat) : Nat := l.foldl (fun n b => n * 256 + b % 256) 0

/-- The n bytes of a number. -/
def bytesOf (n v : Nat) : List Nat := (List.range n).map (fun i => (v >>> (8 * (n - 1 - i))) % 256)

/-- Bytes a to a + k - 1 of the n bytes of a number, as one number. -/
def slice (n v a k : Nat) : Nat := (v >>> (8 * (n - a - k))) % 2 ^ (8 * k)

/-- The words of 8 B of n words of a number. -/
def splitWords (n v : Nat) : List Nat := (List.range n).map (fun i => (v >>> (64 * (n - 1 - i))) % 2 ^ 64)

/-- Words of 8 B as one number. -/
def ofWords (l : List Nat) : Nat := l.foldl (fun n w => n * 2 ^ 64 + w % 2 ^ 64) 0

/-! ### Reed-Solomon RS(136,128) over GF(2^8) (R336) -/

/-- Product in GF(2^8) with the polynomial x^8 + x^4 + x^3 + x^2 + 1 (R336). -/
def gfMul (a b : Nat) : Nat :=
  (List.range 8).foldl (fun r i =>
    let d := r * 2
    let d := if d.testBit 8 then Nat.xor d 0x11D else d
    if b.testBit (7 - i) then Nat.xor d a else d) 0

/-- α^n, with α = 0x02 (R336). -/
def gfPow (n : Nat) : Nat := (List.range (n % 255)).foldl (fun r _ => gfMul r 2) 1

/-- Inverse in GF(2^8): a^254. -/
def gfInv (a : Nat) : Nat := (List.range 253).foldl (fun r _ => gfMul r a) a

/-- Sum of two polynomials, lowest coefficient first. -/
def polyAdd : List Nat → List Nat → List Nat
  | [], q => q
  | p, [] => p
  | a :: p, b :: q => Nat.xor a b :: polyAdd p q

/-- A polynomial times a constant. -/
def polyScale (c : Nat) (p : List Nat) : List Nat := p.map (gfMul c)

/-- Product of two polynomials. -/
def polyMul : List Nat → List Nat → List Nat
  | [], _ => []
  | a :: p, q => polyAdd (polyScale a q) (0 :: polyMul p q)

/-- Value of a polynomial at a point. -/
def polyAt (p : List Nat) (x : Nat) : Nat := p.foldr (fun c r => Nat.xor c (gfMul r x)) 0

/-- The generator polynomial (x - α^0)(x - α^1) … (x - α^7) (R336). -/
def rsGen : List Nat := (List.range 8).foldl (fun g i => polyMul g [gfPow i, 1]) [1]

/-- The 8 parity symbols of a message of 128: the remainder of its polynomial times x^8, symbol 0 the highest coefficient
(R336, R337). -/
def rsParity (msg : List Nat) : List Nat :=
  let g := (rsGen.take 8).reverse
  msg.foldl (fun r m =>
    let f := Nat.xor m (r.headD 0)
    polyAdd (r.tail ++ [0]) (polyScale f g)) (List.replicate 8 0)

/-- Syndromes of a word of 136 symbols: its values at α^0 to α^7. -/
def rsSyndromes (cw : List Nat) : List Nat := (List.range 8).map (fun i => polyAt cw.reverse (gfPow i))

/-- State of the search for the error locator: locator, last locator, errors, shift, last discrepancy. -/
structure Locator where
  c : List Nat := [1]
  b : List Nat := [1]
  l : Nat := 0
  m : Nat := 1
  d : Nat := 1

/-- One step of the search for the shortest locator that fits the syndromes up to n (Berlekamp and Massey). -/
def Locator.step (syn : List Nat) (k : Locator) (n : Nat) : Locator :=
  let d := (List.range (k.l + 1)).foldl (fun r i => Nat.xor r (gfMul (k.c.getD i 0) (syn.getD (n - i) 0))) 0
  if d = 0 then { k with m := k.m + 1 }
  else
    let c := polyAdd k.c (polyScale (gfMul d (gfInv k.d)) (List.replicate k.m 0 ++ k.b))
    if 2 * k.l ≤ n then { c := c, b := k.c, l := n + 1 - k.l, m := 1, d := d }
    else { k with c := c, m := k.m + 1 }

/-- Places and values of the errors that a locator names (Chien and Forney): symbol k stands at x^(135 - k). -/
def Locator.errors (syn : List Nat) (k : Locator) : List (Nat × Nat) :=
  let omega := (polyMul syn k.c).take 8
  let slope := (List.range k.c.length).map (fun i => if i % 2 = 0 then k.c.getD (i + 1) 0 else 0)
  (List.range 136).filterMap (fun j =>
    let x := gfPow (135 - j)
    let y := gfInv x
    if polyAt k.c y = 0 then some (j, gfMul x (gfMul (polyAt omega y) (gfInv (polyAt slope y)))) else none)

/-- Decode a word of 136 symbols: the places that are corrected, at most 4, and the 128 message symbols; none where it is
uncorrectable (R336, R339). -/
def rsDecode (cw : List Nat) : Option (List Nat × List Nat) :=
  let syn := rsSyndromes cw
  if syn.all (· == 0) then some ([], cw.take 128)
  else
    let k := (List.range 8).foldl (Locator.step syn) {}
    let errs := k.errors syn
    let fixed := errs.foldl (fun w e => w.set e.1 (Nat.xor (w.getD e.1 0) e.2)) cw
    if k.l ≤ 4 ∧ errs.length = k.l ∧ (rsSyndromes fixed).all (· == 0) = true then some (errs.map (·.1), fixed.take 128) else none

/-! ### The wire flit (R336, R337) -/

/-- Codeword to which byte i of a wire flit belongs at a width, A as false and B as true (R337). -/
def inCodewordB (w i : Nat) : Bool := decide ((if w ≤ 1 then i else i + i / w) % 2 = 1)

/-- The places of a codeword's symbols in a wire flit (R337). -/
def codewordPlaces (w : Nat) (b : Bool) : List Nat := (List.range 272).filter (fun i => inCodewordB w i == b)

/-- Two lists taken in turn: the even and the odd bytes of a link flit. -/
def interleave : List Nat → List Nat → List Nat
  | a :: p, b :: q => a :: b :: interleave p q
  | _, _ => []

/-- What a receiver decodes from the 272 bytes of a wire flit: the bytes corrected, by logical lane, and the 256 bytes of the
link flit, none where a codeword is uncorrectable (R337, R339). -/
def readWire (w : Nat) (wire : List Nat) : List Nat × Option (List Nat) :=
  let read (b : Bool) := rsDecode ((codewordPlaces w b).map (fun i => wire.getD i 0))
  let lanes (b : Bool) : List Nat := match read b with
    | some r => r.1.map (fun j => (codewordPlaces w b).getD j 0 % max w 1)
    | none => []
  (lanes false ++ lanes true, match read false, read true with
    | some a, some b => some (interleave a.2 b.2)
    | _, _ => none)

/-- The 272 bytes that a sender puts on the wire for the 256 bytes of a link flit (R336, R337). -/
def wireOf (w : Nat) (flit : List Nat) : List Nat :=
  let half (k : Nat) : List Nat := (List.range 128).map (fun i => flit.getD (2 * i + k) 0)
  let cw (k : Nat) : List Nat := half k ++ rsParity (half k)
  let a := (codewordPlaces w false).zip (cw 0)
  let b := (codewordPlaces w true).zip (cw 1)
  (List.range 272).map (fun i => (((if inCodewordB w i then b else a).find? (fun x => x.1 == i)).getD (0, 0)).2)

/-! ### Control words (R340, R617) -/

/-- Read a control word of 128 bits (R340). -/
def readControl (w : Nat) : Control where
  crcOk := decide (crc16 112 (w >>> 16) = bits w 15 0)
  ackValid := bit w 127
  ackSeq := bits w 126 115
  replayReq := bit w 114
  onoff := bits w 113 110
  firstStart := bits w 109 105
  abortAt := bits w 104 100
  wordValid := bits w 99 70
  probe := bits w 69 62
  probeEcho := bits w 61 54
  node := bits w 53 46
  nodePort := bits w 45 38
  quiet := bit w 37

/-- The control word of the fields (R340); on the Garnet link node_port holds side in its bit 7 and pair_state in bits 6 to 4
(R617). -/
def writeControl (c : Control) : Nat :=
  let w := c.ackValid.toNat * 2 ^ 127 + c.ackSeq * 2 ^ 115 + c.replayReq.toNat * 2 ^ 114 + c.onoff * 2 ^ 110 + c.firstStart * 2 ^ 105 +
    c.abortAt * 2 ^ 100 + c.wordValid * 2 ^ 70 + c.probe * 2 ^ 62 + c.probeEcho * 2 ^ 54 + c.node * 2 ^ 46 + c.nodePort * 2 ^ 38 +
    c.quiet.toNat * 2 ^ 37
  w + crc16 112 (w >>> 16)

/-! ### TLPs in the non-flit header format (R345). PRESUMED: log entry 6. -/

/-- Lowest and highest byte that a byte-enable field names. -/
def lowByte (e : Nat) : Nat := if e.testBit 0 then 0 else if e.testBit 1 then 1 else if e.testBit 2 then 2 else 3
def highByte (e : Nat) : Nat := if e.testBit 3 then 3 else if e.testBit 2 then 2 else if e.testBit 1 then 1 else 0

/-- Data words of a TLP that starts at a byte and has a number of bytes. -/
def dataWords (addr len : Nat) : Nat := (addr % 4 + len + 3) / 4

/-- Read a memory request or a completion from its n bytes, without prefixes. -/
def readPlainTlp (n v : Nat) : Option Tlp :=
  let d0 := slice n v 0 4
  let d1 := slice n v 4 4
  let fmt := bits d0 31 29
  let kind := bits d0 28 24
  let count := if bits d0 9 0 = 0 then 1024 else bits d0 9 0
  let hdr := if fmt.testBit 0 then 16 else 12
  let data := if fmt.testBit 1 then 4 * count else 0
  let base : Tlp := { relaxed := bit d0 13, noSnoop := bit d0 12, ido := bit d0 18, ep := bit d0 14, tc := bits d0 22 20, addrType := bits d0 11 10
                      payload := slice n v hdr data }
  let tagOf (low : Nat) : Nat := low + (bit d0 19).toNat * 256 + (bit d0 23).toNat * 512
  if n < 12 ∨ 4 ≤ fmt ∨ n ≠ hdr + data then none
  else if kind = 10 ∧ hdr = 12 then
    let d2 := slice n v 8 4
    let total := if bits d1 11 0 = 0 then 4096 else bits d1 11 0
    let here := if data = 0 then 0 else min total (data - d2 % 4)
    some { base with op := .completion, cplId := bits d1 31 16, status := bits d1 15 13, reqId := bits d2 31 16, tagNo := tagOf (bits d2 15 8)
                     addr := bits d2 6 0, len := here, more := if data = 0 then 0 else total - here, cplLast := decide (data = 0 ∨ total = here) }
  else if kind = 0 ∨ (12 ≤ kind ∧ kind ≤ 14 ∧ data ≠ 0) then
    let first := bits d1 3 0
    let last := bits d1 7 4
    let at_ := (if hdr = 16 then slice n v 8 8 else slice n v 8 4) / 4 * 4
    let len := if kind ≠ 0 then data else if count = 1 then (if first = 0 then 0 else highByte first + 1 - lowByte first)
      else 4 * count - lowByte first - (3 - highByte last)
    some { base with op := if kind ≠ 0 then .atomic else if data = 0 then .memRead else .memWrite, atop := kind - 12
                     addr := if kind ≠ 0 then at_ else at_ + (if first = 0 then 0 else lowByte first), len := len
                     reqId := bits d1 31 16, tagNo := tagOf (bits d1 15 8) }
  else none

/-- Read a TLP from its n bytes, with its PASID prefix if it has one. PRESUMED: log entry 6. -/
def readTlp (n v : Nat) : Option Tlp :=
  if 4 ≤ n ∧ slice n v 0 1 = 0x91 then (readPlainTlp (n - 4) (slice n v 4 (n - 4))).map (fun x => { x with pasid := some (bits (slice n v 0 4) 19 0) })
  else readPlainTlp n v

/-- Bytes of a TLP and their number: prefix, header and data. PRESUMED: log entry 6. -/
def writeTlp (x : Tlp) : Nat × Nat :=
  let count := max 1 (dataWords x.addr x.len)
  let hasData := match x.op with
    | .memWrite | .atomic => true
    | .completion => decide (x.len ≠ 0)
    | _ => false
  let long := decide (x.op ≠ .completion ∧ 2 ^ 32 ≤ x.addr)
  let kind := match x.op with
    | .completion => 10
    | .atomic => 12 + x.atop
    | _ => 0
  let d0 := (hasData.toNat * 2 + long.toNat) * 2 ^ 29 + kind * 2 ^ 24 + (bit x.tagNo 9).toNat * 2 ^ 23 + x.tc * 2 ^ 20 + (bit x.tagNo 8).toNat * 2 ^ 19 +
    x.ido.toNat * 2 ^ 18 + x.ep.toNat * 2 ^ 14 + x.relaxed.toNat * 2 ^ 13 + x.noSnoop.toNat * 2 ^ 12 + x.addrType * 2 ^ 10 +
    (if x.op = .completion ∧ hasData = false then 0 else count % 1024)
  let lead := x.addr % 4
  let tail := (lead + x.len) % 4
  let first := if x.len = 0 then 0 else if count = 1 then 2 ^ (lead + x.len) - 2 ^ lead else 16 - 2 ^ lead
  let last := if count = 1 then 0 else if tail = 0 then 15 else 2 ^ tail - 1
  let low := x.tagNo % 256
  let head := if x.op = .completion then
      d0 * 2 ^ 64 + (x.cplId * 65536 + x.status * 8192 + (x.len + x.more) % 4096) * 2 ^ 32 + (x.reqId * 65536 + low * 256 + x.addr % 128)
    else
      (d0 * 2 ^ 32 + (x.reqId * 65536 + low * 256 + (if x.op = .atomic then 0 else last * 16 + first))) * 2 ^ (if long then 64 else 32) + x.addr / 4 * 4
  let n := if long then 16 else 12
  let data := if hasData then 4 * count else 0
  let plain := (n + data, head * 2 ^ (8 * data) + x.payload % 2 ^ (8 * data))
  match x.pasid with
  | some p => (plain.1 + 4, (0x91000000 + p) * 2 ^ (8 * plain.1) + plain.2)
  | none => plain

/-! ### Beryl headers (R456) -/

/-- Read a Beryl frame from the n bytes of its payload: the header of 32 B and the data (R456). -/
def readBeryl (n v : Nat) : BFrame :=
  let h := slice n v 0 32
  { op := bits h 255 248, first := bit h 247, last := bit h 246, ackReq := bit h 245, countFlag := bit h 244, markEcho := bit h 243
    dstQp := bits h 239 223, srcQp := bits h 222 206, srcDomain := bits h 205 194, psn := bits h 193 170, tagNo := bits h 169 154
    syndrome := bits h 153 146, rkey := bits h 127 96, addr := bits h 95 32, length := bits h 31 0, dataLen := n - 32
    data := slice n v 32 (n - 32) }

/-- Bytes of a Beryl frame's payload and their number (R456). -/
def writeBeryl (f : BFrame) : Nat × Nat :=
  let h := f.op * 2 ^ 248 + f.first.toNat * 2 ^ 247 + f.last.toNat * 2 ^ 246 + f.ackReq.toNat * 2 ^ 245 + f.countFlag.toNat * 2 ^ 244 +
    f.markEcho.toNat * 2 ^ 243 + f.dstQp * 2 ^ 223 + f.srcQp * 2 ^ 206 + f.srcDomain * 2 ^ 194 + f.psn * 2 ^ 170 + f.tagNo * 2 ^ 154 +
    f.syndrome * 2 ^ 146 + f.rkey * 2 ^ 96 + f.addr * 2 ^ 32 + f.length
  (32 + f.dataLen, h * 2 ^ (8 * f.dataLen) + f.data % 2 ^ (8 * f.dataLen))

/-! ### Trunk frames (R343 to R345, R350) -/

/-- The fields of a trunk frame's header (R344). -/
structure TrunkHead where
  seqNo : Nat := 0
  kind : Nat := 0
  vc : Nat := 0
  bulk : Bool := false
  cls : Nat := 0
  mark : Bool := false
  poison : Bool := false
  age : Nat := 0
  len : Nat := 0
  src : Nat := 0
  dst : Nat := 0
  flow : Nat := 0
  xid : Option Nat := none
  reqId : Nat := 0
  reserved : Nat := 0
  crcOk : Bool := true
deriving DecidableEq, Repr

/-- Read a frame header of 192 bits (R344). -/
def readHead (h : Nat) : TrunkHead where
  seqNo := bits h 191 180
  kind := bits h 179 177
  vc := bits h 176 176
  bulk := bit h 175
  cls := bits h 174 173
  mark := bit h 172
  poison := bit h 171
  age := bits h 170 159
  len := bits h 158 146
  src := bits h 145 134
  dst := bits h 133 122
  flow := bits h 121 90
  xid := if bit h 55 then some (bits h 89 72) else none
  reqId := bits h 71 56
  reserved := bits h 54 16
  crcOk := decide (crc16 176 (h >>> 16) = bits h 15 0)

/-- The 192 bits of a frame header (R344). -/
def TrunkHead.word (t : TrunkHead) : Nat :=
  let h := t.seqNo * 2 ^ 180 + t.kind * 2 ^ 177 + t.vc * 2 ^ 176 + t.bulk.toNat * 2 ^ 175 + t.cls * 2 ^ 173 + t.mark.toNat * 2 ^ 172 +
    t.poison.toNat * 2 ^ 171 + t.age * 2 ^ 159 + t.len * 2 ^ 146 + t.src * 2 ^ 134 + t.dst * 2 ^ 122 + t.flow * 2 ^ 90 +
    t.xid.getD 0 * 2 ^ 72 + t.reqId * 2 ^ 56 + t.xid.isSome.toNat * 2 ^ 55
  h + crc16 176 (h >>> 16)

/-- A header names a valid combination, a payload of at most 4,096 B, and zeros where zeros are (R345). -/
def TrunkHead.valid (t : TrunkHead) : Bool :=
  decide (t.len ≤ 4096 ∧ t.reserved = 0) &&
    (match t.kind with
     | 0 => !t.bulk && decide ((t.vc = 0 ∧ t.cls ≤ 1) ∨ (t.vc = 1 ∧ t.cls = 2))
     | 1 => t.bulk
     | 2 => !t.bulk && decide (t.vc = 1 ∧ t.cls = 2)
     | _ => false)

/-- Size of a trunk frame in bytes: header, payload and, with a payload, the frame check (R205, R343). -/
def trunkSize (len : Nat) : Nat := 24 + len + (if len = 0 then 0 else 4)

/-- Words of 8 B that a trunk frame takes: it is padded with zeros (R343). -/
def trunkWordCount (len : Nat) : Nat := (trunkSize len + 7) / 8

/-- The words after the header: payload, frame check and padding (R343). -/
def payloadWords (len v : Nat) : List Nat :=
  if len = 0 then []
  else
    let n := trunkWordCount len - 3
    splitWords n ((v * 2 ^ 32 + crc32 (8 * len) v) * 2 ^ (8 * (8 * n - len - 4)))

/-- The payload in the words after a header, or in the first of them, and whether the frame check is good (R343). -/
def readPayload (len : Nat) (ws : List Nat) : Nat × Bool :=
  let v := ofWords ws
  let p := slice (8 * ws.length) v 0 len
  (p, decide (len = 0) || decide (slice (8 * ws.length) v len 4 = crc32 (8 * len) p))

/-- The bytes of a Posted Write Fault's payload (R350). -/
def pwfPayload (src far req cause page farStamp label : Nat) : Nat :=
  src * 2 ^ 244 + far * 2 ^ 232 + req * 2 ^ 216 + cause * 2 ^ 208 + page * 2 ^ 148 + farStamp * 2 ^ 64 + label * 2 ^ 32

/-- What the head of a trunk frame tells the module, from its header and the first words of its payload; none where a payload of
kind 0 is no memory request and no completion (R344, R345, R349, R350, R456). DESIGN CHOICE: log entry 50. -/
def headOf (t : TrunkHead) (len v : Nat) (ws : List Nat) : Option Head :=
  let base : Head := { size := trunkSize t.len, kind := t.kind, cls := if t.bulk then t.cls else 0, response := decide (t.vc = 1), marked := t.mark
                       poisoned := t.poison, src := t.src, dst := t.dst, flow := t.flow, age := t.age, words := ws }
  match t.kind with
  | 0 => match readTlp len v with
    | some x =>
      if decide (x.op = .completion) = decide (t.vc = 1) then some { base with tlp := { x with reqId := t.reqId, xid := t.xid } } else none
    | none => none
  | 1 => if len < 32 then none else some { base with beryl := { readBeryl len v with marked := t.mark, cls := t.cls, srcEdge := t.src } }
  | _ => if len ≠ 32 then none else some { base with cause := slice len v 5 1 }

end Sys2Proof.Machine
end

