-- ==== Sys2Proof/Machine/Buffer.lean ====
section
/-!
DEFINITION. Shared operations of the switch core and the shared buffer (chapter 07): pool accounting, charging,
push-out, cut-through, flow hashing onto trunk paths, and the matcher.
-/

namespace Sys2Proof.Machine

/-- Cells of the pool, T: 4,096 fewer for each bank retiring or retired (R224). -/
def State.poolCells (s : State) : Nat :=
  262144 - 4096 * (s.core.bankState.filter (fun e => decide (e.2 ≠ 0))).length

/-- Whether a port holds lossless reservations: it exists under the layout of a group that has a role; every
internal port does (R224). -/
def State.holdsRes (s : State) (t : Tbl Nat) (p : Nat) : Bool :=
  if 160 ≤ p then decide (p < 177) else s.portNamed t p && decide (s.portRoleIn t p ≠ 0)

/-- The sum of all lossless reservations, internal ports included (R224). -/
def State.sumRes (s : State) (t : Tbl Nat) : Nat :=
  (((List.range 160).filter (s.holdsRes t)).map (fun p =>
    s.reservationIn t p 0 + s.reservationIn t p 1 + s.reservationIn t p 2 + s.reservationIn t p 3)).sum + 17 * 1024

/-- Domains that a table copy lists, by number. -/
def domainNumbers (t : Tbl Nat) : List Nat :=
  ((t.filter (fun e => decide (0x7000 ≤ e.1 / 256) && decide (e.1 / 256 < 0x8000))).map (fun e => e.1 / 256 - 0x7000)).eraseDups

/-- Whether a domain is valid in a table copy; D0000 always is (R492). -/
def State.domainValidIn (s : State) (t : Tbl Nat) (d : Nat) : Bool :=
  decide (d = 0) || decide (s.inTables t (0x7000 + d) 1 = 1)

/-- The sum of the bulk minimums of the valid domains (R224, R497). -/
def State.sumMinB (s : State) (t : Tbl Nat) : Nat :=
  (((domainNumbers t).filter (s.domainValidIn t)).map (fun d => s.inTables t (0x7000 + d) 2)).sum

/-- The bulk minimum of a domain in force: zero while suspended (R244, R497). -/
def State.minB (s : State) (d : Nat) : Nat := if s.core.suspended then 0 else s.live (0x7000 + d) 2

/-- Cells of the shared region that prefetched data takes, held or awaited: of windows, and of pool extents (R311, R387).
DEDUCED: log entry 27. -/
def State.holdCells (s : State) : Nat :=
  (s.fab.holds.map (fun h => (h.len + 255) / 256)).sum + (s.pool.lines.map (fun h => (h.len + 255) / 256)).sum

/-- Cells of the frames parked in the miss buffers, which stay charged (R466). DEDUCED: log entry 41. -/
def State.missCells (s : State) : Nat := (s.beryl.qps.map (fun e => e.2.parkedCells)).sum

/-- Cells charged to the shared region (R224). -/
def State.sharedUsed (s : State) : Nat :=
  ((s.core.frames.filter (fun f => decide (f.charge = .shared))).map (·.cells)).sum + s.holdCells + s.missCells

/-- Cells of the shared region, S (R224). -/
def State.sharedCells (s : State) : Int :=
  (s.poolCells : Int) - s.sumRes s.ep.live - (if s.core.suspended then 0 else s.sumMinB s.ep.live)

/-- Shared free cells; negative after a retirement, possibly (R224). -/
def State.sharedFree (s : State) : Int := s.sharedCells - s.sharedUsed

/-- Cells in use of the pool. -/
def State.cellsInUse (s : State) : Nat :=
  ((s.core.frames.filter (fun f => decide (f.charge ≠ .waiting))).map (·.cells)).sum + s.missCells

/-- Shared cells of an ingress port and lossless class (R228). -/
def State.sharedOf (s : State) (p c : Nat) : Nat :=
  ((s.core.frames.filter (fun f => decide (f.charge = .shared ∧ f.ingress = p ∧ f.cls = c))).map (·.cells)).sum

/-- Reserved cells in use of a port and class, and of one half of L3 (R225, R228). -/
def State.reservedOf (s : State) (p c : Nat) (resp : Bool) : Nat :=
  ((s.core.frames.filter (fun f => decide (f.charge = .reservation ∧ f.ingress = p ∧ f.cls = c) &&
    (decide (c ≠ 3) || (f.response == resp)))).map (·.cells)).sum

/-- Reservation that a frame may use: half of it for each direction of L3 (R225). -/
def State.reservationFor (s : State) (p c : Nat) : Nat :=
  if c = 3 then s.reservationIn s.ep.live p 3 / 2 else s.reservationIn s.ep.live p c

/-- Shared bulk cells charged for an egress port (R231). -/
def State.bulkSharedAt (s : State) (e : Nat) : Nat :=
  ((s.core.frames.filter (fun f => decide (f.charge = .shared ∧ f.egress = e ∧ 4 ≤ f.cls))).map (·.cells)).sum

/-- Cells charged to the bulk minimum of a domain (R231, D:7ddd.09). -/
def State.minimumUsed (s : State) (d : Nat) : Nat :=
  ((s.core.frames.filter (fun f => decide (f.charge = .minimum ∧ f.domain = some d))).map (·.cells)).sum

/-- Cells queued for an egress in all queues: those not granted yet (D:40qq.06). -/
def State.queuedAt (s : State) (e : Nat) : Nat :=
  ((s.core.frames.filter (fun f => decide (f.egress = e ∧ f.charge ≠ .waiting))).map (fun f => f.cells - f.sent)).sum

/-- A push-out candidate for class k at an egress: queued there, of a lower bulk class, charged to the shared
region, no cell granted (R233). -/
def pushable (k e : Nat) (f : Frame) : Bool :=
  decide (f.egress = e ∧ 4 ≤ f.cls ∧ f.charge = .shared ∧ f.sent = 0 ∧ f.granted = false ∧ (k < 4 ∨ f.cls < k))

/-- Push-out candidates in order: lowest class first, most recently queued first (R233). -/
def State.pushList (s : State) (k e : Nat) : List Frame :=
  let c := (s.core.frames.filter (pushable k e)).reverse
  ([4, 5, 6, 7].map (fun cl => c.filter (fun f => decide (f.cls = cl)))).flatten

/-- The shortest prefix of the candidates that frees enough cells, none where all together do not suffice (R233). -/
def pushPrefix : List Frame → Nat → Option (List Frame)
  | _, 0 => some []
  | [], _ + 1 => none
  | f :: r, n + 1 => (pushPrefix r (n + 1 - f.cells)).map (f :: ·)

/-- Discard a pushed-out frame (R234). -/
def State.pushOne (f : Frame) (s : State) : State :=
  let s1 := (s.dropFrame f.id).bump 0x4010 5
  if f.egress < 160 then s1.bump (0x4040 + f.egress) 8 else s1

/-- Push-out for an arriving frame of class k that needs n more shared cells at an egress: all or nothing; none
where the candidates do not suffice (R233, R234). -/
def State.pushOut (k e n : Nat) (s : State) : Option State :=
  match pushPrefix (s.pushList k e) n with
  | some fs => some (s.each fs State.pushOne)
  | none => none

/-- Where a lossless frame of a port and class is charged: the shared region, the shared region after push-out, its
reservation, or nowhere (R228). -/
def State.chargeLossless (f : Frame) (s : State) : Charge × State :=
  let cap := s.inTables (s.tablesOf f.tag) 0x4002 1
  let capOk := decide (s.sharedOf f.ingress f.cls + f.cells ≤ cap)
  let resOk := decide (s.reservedOf f.ingress f.cls f.response + f.cells ≤ s.reservationFor f.ingress f.cls)
  if capOk ∧ (f.cells : Int) ≤ s.sharedFree then (.shared, s)
  else match (if capOk then s.pushOut f.cls f.egress ((f.cells : Int) - s.sharedFree).toNat else none) with
    | some s1 => (.shared, s1)
    | none => (if resOk then .reservation else .waiting, s)

/-- Where a bulk frame is charged: its domain's minimum, the shared region, the shared region after push-out, or
nowhere (R231). -/
def State.chargeBulk (f : Frame) (s : State) : Charge × State :=
  let cap := s.inTables (s.tablesOf f.tag) 0x4002 2
  let minOk := match f.domain with
    | some d => decide (s.minimumUsed d + f.cells ≤ s.minB d)
    | none => false
  let excess := s.bulkSharedAt f.egress + f.cells - cap
  let short := ((f.cells : Int) - s.sharedFree).toNat
  if minOk then (.minimum, s)
  else if excess = 0 ∧ short = 0 then (.shared, s)
  else match s.pushOut f.cls f.egress (max excess short) with
    | some s1 => (.shared, s1)
    | none => (.waiting, s)

/-- Lanes of a width code (D:34pp.11). -/
def widthLanes (w : Nat) : Nat := if w = 0 then 0 else 2 ^ (w - 1)

/-- Width code of a number of lanes (D:34pp.11). -/
def widthCode (n : Nat) : Nat :=
  if n = 1 then 1 else if n = 2 then 2 else if n = 4 then 3 else if n = 8 then 4 else if n = 16 then 5 else 0

/-- Twice the lane rate of a mode code in Gb/s (R137); the rate of mode 1 is 2.5. -/
def rate2 (m : Nat) : Nat := [0, 5, 10, 16, 32, 64, 128, 256, 128, 256, 320, 256, 64].getD m 0

/-- Bytes per beat of an egress port in its transmit direction; an internal port takes its attachment's 32,768 B
(R215). -/
def State.bytesPerBeat (s : State) (p : Nat) : Nat :=
  if 160 ≤ p then 32768 else rate2 (s.port p).rate * widthLanes (s.port p).txWidth * 8

/-- Weight of a class at an egress in percent (R215). -/
def State.weight (s : State) (p c : Nat) : Nat :=
  if 160 ≤ p then Dict.weightDefault c else s.live (0x4040 + p) (0x11 + c)

/-- The share of a class (R215). -/
def State.share (s : State) (p c : Nat) : Nat := s.weight p c * s.bytesPerBeat p / 100

/-- Step 6 of the boundary at one egress: each credit becomes min(credit, 0) plus its share (R215). -/
def State.reloadPort (p : Nat) (s : State) : State :=
  let next (q : Port) (c : Nat) : Nat × Int := (c, min (q.credit.look c 0) 0 + (s.share p c : Int))
  s.setPort p (fun q => { q with credit := List.map (next q) (List.range 8) })

/-- Kind of link of a port: 2 trunk, 1 flit-mode PCIe or CXL, 0 non-flit PCIe (R218). -/
def State.linkKind (s : State) (p : Nat) : Nat :=
  if s.trunkPort p then 2 else if (s.port p).flit || decide (0 < (s.port p).cxl) then 1 else 0

/-- Cut-through by link kind (R218). -/
def cutAllowed (i e : Nat) : Bool := !(decide (e = 1) && decide (i ≠ 1))

/-- Room in the egress staging for some cells: it holds 8, or 16 for an x16 port (R212). -/
def State.stagingRoom (s : State) (p n : Nat) : Bool :=
  decide ((s.port p).staging + 256 * n ≤ if (s.portLanes s.ep.live p).2 = 16 then 4096 else 2048)

/-- Data credits of 16 B that a frame takes of the link partner (R694). -/
def Frame.units (f : Frame) : Nat := creditUnits f.kind f.tlp

/-- The link partner holds credit for a whole frame: a header or message, and its data (R212, R694). -/
def Port.hasCredit (q : Port) (f : Frame) : Bool :=
  decide (1 ≤ q.creditHeaders.look f.cls 0 ∧ f.units ≤ q.creditData.look f.cls 0)

/-- A frame takes its credit of the link partner (R212). -/
def Port.useCredit (q : Port) (f : Frame) : Port :=
  { q with creditHeaders := q.creditHeaders.put f.cls (q.creditHeaders.look f.cls 0 - 1)
           creditData := q.creditData.put f.cls (q.creditData.look f.cls 0 - f.units) }

/-- A frame's credit of the link partner is as before it (R223). -/
def Port.giveCredit (q : Port) (f : Frame) : Port :=
  { q with creditHeaders := q.creditHeaders.put f.cls (q.creditHeaders.look f.cls 0 + 1)
           creditData := q.creditData.put f.cls (q.creditData.look f.cls 0 + f.units) }

/-- The request channels and the response channels of CXL.mem and CXL.cache that a port receives, by its role and its
protocols: back-invalidate needs CXL 3.1 (R190, R694). PRESUMED: log entry 6. -/
def channelsOf (role cxl protocols : Nat) : List CxlChannel × List CxlChannel :=
  let mem := bit protocols 1
  let cache := bit protocols 2
  let bi := decide (cxl = 3)
  if role = 1 then
    ((if mem then [.m2sReq, .m2sRwD] else []) ++ (if cache then [.h2dReq] else []),
     (if mem && bi then [.m2sBIRsp] else []) ++ (if cache then [.h2dRsp, .h2dData] else []))
  else
    ((if mem && bi then [.s2mBISnp] else []) ++ (if cache then [.d2hReq] else []),
     (if mem then [.s2mNDR, .s2mDRS] else []) ++ (if cache then [.d2hRsp, .d2hData] else []))

/-- The credits that a host or downstream port advertises when its link comes up (R229, R694): per class floor(Res / 4) headers
and 16 × floor(Res / 2) units of data within what the format expresses, and each half of L3 divided among its channels. -/
def State.advertise (p : Nat) (scaled : Bool) (s : State) : State :=
  let q := s.port p
  let res (c : Nat) : Nat := s.reservationIn s.ep.live p c
  let cap (data : Bool) (n : Nat) : Nat := min n (Config.creditCap scaled q.flit data)
  let ch := channelsOf (s.portRole p) q.cxl q.protocols
  let half (l : List CxlChannel) (s : State) : State := s.each l (fun c s => s.emit (.advertCxl p c (res 3 / 2 / l.length)))
  half ch.2 (half ch.1 (s.each [0, 1, 2] (fun c s => s.emit (.advert p c (cap false (res c / 4)) (cap true (16 * (res c / 2)))))))

/-- On/off bit of a frame's trunk channel partition: 3 request lossless, 2 request bulk, 1 response lossless,
0 response bulk (R340, R351). -/
def partitionOf (f : Frame) : Nat :=
  if 4 ≤ f.cls then (if f.response then 0 else 2) else if f.cls = 2 then 1 else 3

/-- Bytes of a frame's payload as a trunk frame, and their number: as they came by a trunk, or written from its header and data
(R343, R345). -/
def Frame.payload (f : Frame) : Nat × Nat :=
  if f.words.isEmpty then (if f.kind = 1 then writeBeryl f.beryl else writeTlp f.tlp)
  else (f.size - 28, (readPayload (f.size - 28) f.words).1)

/-- The header of a frame as a trunk carries it, by its sequence number and age (R344, R349). -/
def Frame.trunkHead (f : Frame) (seqNo age : Nat) : TrunkHead where
  seqNo := seqNo
  kind := f.kind
  vc := if 4 ≤ f.cls then f.response.toNat else if f.cls = 2 then 1 else 0
  bulk := decide (4 ≤ f.cls)
  cls := f.cls % 4
  mark := f.marked
  poison := f.poisoned
  age := age
  len := f.payload.1
  src := f.src
  dst := f.dst
  flow := f.flow
  xid := if f.kind = 0 then f.tlp.xid else none
  reqId := if f.kind = 0 then f.tlp.reqId else 0

/-- The words of a trunk frame: its header, and its payload with the frame check and padding (R343). -/
def Frame.image (f : Frame) (seqNo age : Nat) : List Nat :=
  splitWords 3 (f.trunkHead seqNo age).word ++ (if f.words.isEmpty then payloadWords f.payload.1 f.payload.2 else f.words)

/-- Words as items to be sent, the first of which begins a frame or does not. -/
def txItems (seqNo : Nat) (begins : Bool) : List Nat → List TxItem
  | [] => []
  | w :: r => .word seqNo begins w :: r.map (TxItem.word seqNo false)

/-- Bytes that a frame takes in the replay buffer: its length on the trunk, in steps of 32 B (R357). -/
def replaySize (f : Frame) : Nat := (trunkSize f.payload.1 + 31) / 32 * 32

/-- Bytes in use in the replay buffer of a trunk port (D:34pp.45). -/
def State.replayBytes (s : State) (p : Nat) : Nat := ((s.trunk p).buffer.map replaySize).sum

/-- Fewer than 2,048 frames are unacknowledged (R357). -/
def State.windowRoom (s : State) (p : Nat) : Bool := decide ((s.trunk p).buffer.length < 2048)

/-- The replay buffer has room for a frame: 256 KiB per lane group (R357). -/
def State.replayRoom (s : State) (p : Nat) (f : Frame) : Bool :=
  decide (s.replayBytes p + replaySize f ≤ if (s.portLanes s.ep.live p).2 = 16 then 524288 else 262144)

/-- The egress can take a new frame: an internal port always; a port in stage 5 with its transmit direction in L0,
or out of L0s, with credit for the whole frame or its trunk partition on, room in its staging and no frame in transmission
(R212). -/
def State.egressOpen (s : State) (f : Frame) : Bool :=
  decide (s.core.xmit.look f.egress 0 = 0) &&
    (if 160 ≤ f.egress then true
     else
      let q := s.port f.egress
      decide (q.stage = 5) && (decide (q.power = .l0 ∨ q.power = .l0p) || (decide (q.power = .l0s) && !s.txIdle f.egress)) &&
        s.stagingRoom f.egress 1 &&
        (if s.trunkPort f.egress then (s.trunk f.egress).partner.testBit (partitionOf f) &&
            decide ((s.trunk f.egress).sender = .sending) && !(s.trunk f.egress).quietTx && s.windowRoom f.egress && s.replayRoom f.egress f
         else q.hasCredit f))

/-- The PCIe ordering rules let a request or completion pass an older posted one (R211): relaxed ordering on a completion or a
non-posted request with data, and ID-based ordering where the two carry different IDs, the completer's for a completion.
PRESUMED: log entry 6. -/
def mayPass (f g : Frame) : Bool :=
  let x := f.near
  let withData := match x.op with
    | .completion | .atomic => true
    | .config | .io => x.write
    | _ => false
  (f.relaxed && withData) || (f.ido && decide ((if x.op = .completion then x.cplId else x.reqId) ≠ g.near.reqId))

/-- An older L0 frame from the same ingress to the same egress that it may not pass stands before a frame in queue order
(R211). -/
def olderPosted (fs : List Frame) (f : Frame) : Bool :=
  match fs with
  | [] => false
  | g :: r => if g.id = f.id then false
    else (decide (g.ingress = f.ingress ∧ g.egress = f.egress ∧ g.cls = 0) && !mayPass f g) || olderPosted r f

/-- A frame is the head of its virtual output queue (R210). -/
def headOfQueue (fs : List Frame) (f : Frame) : Bool :=
  match fs.find? (fun g => decide (g.ingress = f.ingress ∧ g.egress = f.egress ∧ g.cls = f.cls)) with
  | some g => decide (g.id = f.id)
  | none => false

/-- The order of R211 permits a frame. -/
def orderOk (fs : List Frame) (f : Frame) : Bool :=
  !(decide (f.cls = 1 ∨ f.cls = 2)) || !olderPosted fs f

/-- A head frame is eligible for a grant of its first cell (R212). A store-and-forward frame is complete and
checked; so is a cut-through frame for a flit-mode egress (R219). -/
def State.eligible (s : State) (f : Frame) : Bool :=
  decide (f.charge ≠ .waiting) && decide (f.sent = 0) && headOfQueue s.core.frames f && orderOk s.core.frames f &&
    (f.checked || (f.cutThrough && decide (0 < f.formed) && decide (s.linkKind f.egress ≠ 1))) && s.egressOpen f

/-- The cut-through decision of R217 for a frame whose head cell is formed, before it is queued. -/
def State.cutThroughOk (s : State) (f : Frame) : Bool :=
  decide (f.ingress < 160 ∧ f.egress < 160) && decide (s.setting 0x4001 1 = 1) && !(s.port f.ingress).ctSuspended &&
    decide (s.board.throttle = 100) && cutAllowed (s.linkKind f.ingress) (s.linkKind f.egress) &&
    decide (s.core.xmit.look f.egress 0 = 0 ∧ (s.port f.egress).staging = 0 ∧ s.queuedAt f.egress = 0) &&
    decide (rate2 (s.port f.egress).rate * widthLanes (s.port f.egress).txWidth ≤
      rate2 (s.port f.ingress).rate * widthLanes (s.port f.ingress).rxWidth) &&
    orderOk (s.core.frames ++ [f]) f && s.egressOpen f

/-- CRC-32C over a 64-bit key (R238). -/
def crc32c (k : Nat) : Nat := crc32 64 k

/-- The flow-hash key (R237). -/
def flowKey (src dst kind label : Nat) : Nat :=
  (src % 4096) * 2 ^ 52 + (dst % 4096) * 2 ^ 40 + (kind % 2) * 2 ^ 32 + label % 2 ^ 32

/-- The bucket of a key: h[w + 5 : w] (R238). -/
def bucketOf (w k : Nat) : Nat := bits (crc32c k) (w + 5) w

/-- Path set toward a module (R331). -/
def State.pathSetIn (s : State) (t : Tbl Nat) (m : Nat) : Nat := s.inTables t 0x4410 m
/-- Number of configured paths of a path set (R331). -/
def pathCount (ps : Nat) : Nat := bits ps 95 92
/-- Trunk port of a path (R331). -/
def pathPort (ps i : Nat) : Nat := bits ps (8 * i + 7) (8 * i)
/-- Desired path of a bucket in a table copy: slot mod k (R238). -/
def State.desiredIn (s : State) (t : Tbl Nat) (m b : Nat) : Nat :=
  bits (s.inTables t 0x40E0 m) (3 * b + 2) (3 * b) % max (pathCount (s.pathSetIn t m)) 1

/-- A bucket's record. -/
def State.bucket (s : State) (m b : Nat) : Bucket := s.core.buckets.look (m * 64 + b) {}
/-- Change a bucket's record. -/
def State.setBucket (m b : Nat) (f : Bucket → Bucket) (s : State) : State :=
  { s with core := { s.core with buckets := s.core.buckets.put (m * 64 + b) (f (s.bucket m b)) } }

/-- Effective path of a bucket: kept once it has carried a frame or failed, else the desired path of the live map
(R239). -/
def State.effective (s : State) (m b : Nat) : Nat :=
  let k := s.bucket m b
  if k.carried || k.failed then k.effective else s.desiredIn s.ep.live m b

/-- A frame of a bucket leaves by a port: the stamp of its last departure, where the port is that of its effective path, or the
bucket is failed and its old path empties (R239, R690). DEDUCED: log entry 40. -/
def State.stampBucket (p i : Nat) (s : State) : State :=
  let m := i / 64
  let e := s.effective m (i % 64)
  if (s.bucket m (i % 64)).failed ∨ pathPort (s.pathSetIn s.ep.live m) e = p then
    s.setBucket m (i % 64) (fun k => { k with carried := true, stamp := s.ep.beat, effective := e })
  else s

/-- Path sets that a table copy names with at least one path. -/
def State.pathSets (_ : State) (t : Tbl Nat) : List Nat :=
  (t.filter (fun e => decide (e.1 / 256 = 0x4410))).map (fun e => e.1 % 256)

/-- A trunk port is a usable path: enabled in trunk role, its link up, and not failed (R240). -/
def State.pathUsable (s : State) (p : Nat) : Bool :=
  s.enabled p && decide (s.portRole p = 3) && s.linkActive p && !s.core.pathFailed.look p false

/-- Fail every bucket whose effective path is a port, with fault source 189 where there is one (R240, R251). -/
def State.failPath (p : Nat) (s : State) : State :=
  let s1 := { s with core := { s.core with pathFailed := s.core.pathFailed.put p true } }
  let hit := (s.pathSets s.ep.live).flatMap (fun m => ((List.range 64).filter (fun b =>
    decide (s.effective m b < pathCount (s.pathSetIn s.ep.live m) ∧
      pathPort (s.pathSetIn s.ep.live m) (s.effective m b) = p))).map (fun b => (m, b)))
  (s1.each hit (fun mb s => s.setBucket mb.1 mb.2 (fun k => { k with failed := true, effective := s.effective mb.1 mb.2 }))).ifDo
    (!hit.isEmpty) (State.raise 189)

/-- The first usable path of a set at or after a path, in ascending order, wrapping (R240). -/
def State.nextUsable (s : State) (m from_ : Nat) : Option Nat :=
  let ps := s.pathSetIn s.ep.live m
  let n := pathCount ps
  ((List.range n).map (fun i => (from_ + i) % n)).find? (fun i => s.pathUsable (pathPort ps i))

/-- The check of one bucket of a path set at a boundary where a commit takes effect: move, pin, fail or release (R239, R240,
R690). old is the tables before the commit, under which a bucket that has carried nothing had its desired path. -/
def State.bucketCheck (old : Tbl Nat) (m b : Nat) (s : State) : State :=
  let k := s.bucket m b
  let ps := s.pathSetIn s.ep.live m
  let want := s.desiredIn s.ep.live m b
  let eff := if k.carried || k.failed then k.effective else s.desiredIn old m b
  let aged := !k.carried || decide (s.setting 0x4400 3 ≤ s.ep.beat - k.stamp)
  if pathCount (s.pathSetIn old m) = 0 ∧ k.carried = false ∧ k.failed = false then s
  else if !k.failed ∧ (pathCount ps ≤ eff ∨ pathPort ps eff ≠ pathPort (s.pathSetIn old m) eff) then
    s.setBucket m b (fun x => { x with failed := true, effective := eff })
  else if k.failed then
    if aged then
      match s.nextUsable m want with
      | some i => (s.setBucket m b (fun x => { x with failed := false, effective := i, pinned := false })).bump 0x4006 2
      | none => s
    else s
  else if eff = want then s.setBucket m b (fun x => { x with pinned := false })
  else if aged then (s.setBucket m b (fun x => { x with effective := want, pinned := false })).bump 0x4006 2
  else s.setBucket m b (fun x => { x with pinned := true })

/-- The bucket checks of a commit boundary, over every bucket of every path set of the old or the new tables (R239, R690). -/
def State.bucketChecks (old : Tbl Nat) (s : State) : State :=
  s.each (s.pathSets old ++ s.pathSets s.ep.live).eraseDups (fun m s => s.each (List.range 64) (fun b s => s.bucketCheck old m b))

/-- The pool check after T falls (R244). -/
def State.poolCheck (s : State) : State :=
  if s.poolCells < s.sumRes s.ep.live + 4096 then s.raise 185
  else if s.poolCells < s.sumRes s.ep.live + s.sumMinB s.ep.live + 16384 then
    ({ s with core := { s.core with suspended := true } }).raise 184
  else s

/-- The next n usable banks in rotation (R243). DEDUCED: log entry 40. -/
def State.takeBanks (s : State) : Nat → Nat → List Nat → List Nat × Nat
  | 0, start, acc => (acc.reverse, start % 64)
  | n + 1, start, acc =>
    match ((List.range 64).map (fun i => (start + i) % 64)).find? (fun b => decide (s.core.bankState.look b 0 = 0)) with
    | some b => s.takeBanks n (b + 1) (b :: acc)
    | none => (acc.reverse, start % 64)

/-- Start the retirement of a buffer bank, which receives no new cell: the cells that a frame is still to form are allocated anew
(R243). DEDUCED: log entry 40. -/
def State.retireBank (b : Nat) (s : State) : State :=
  if s.core.bankState.look b 0 = 0 then
    let s1 : State := { s with core := { s.core with bankState := s.core.bankState.put b 1 } }
    let move (f : Frame) : Frame :=
      if (f.banks.drop f.formed).contains b then
        { f with banks := f.banks.take f.formed ++ (s1.takeBanks (f.cells - f.formed) s1.core.nextBank []).1 }
      else f
    ({ s1 with core := { s1.core with frames := s1.core.frames.map move } }).poolCheck
  else s

/-- Attachment of an internal port (R208, R246). -/
def State.attachmentOf (s : State) (i : Nat) : Nat :=
  s.core.internalAt.look i (if i < 8 then 5 * i + 1 else if i < 16 then 5 * (i - 8) + 3 else 0)

/-- The attachments that serve a port: its group's, and for an x16 port the next one too (R207). -/
def State.attachments (s : State) (p : Nat) : List Nat :=
  if 160 ≤ p then [s.attachmentOf (p - 160)]
  else if (s.portLanes s.ep.live p).2 = 16 then [p / 4, p / 4 + 1] else [p / 4]

/-- Cells that a crossbar side may move in one cell time in each direction: two where it serves an x16 port (R206, R207). -/
def State.sideWidth (s : State) (a : Nat) : Nat := if (s.portLanes s.ep.live (4 * a)).2 = 16 then 2 else 1

/-- The crossbar side of a port or internal port: its attachment; the two attachments of an x16 port are one side, named by the
even one (R207). -/
def State.sideOf (s : State) (p : Nat) : Nat :=
  let a := if 160 ≤ p then s.attachmentOf (p - 160) else p / 4
  if a % 2 = 1 ∧ s.sideWidth (a - 1) = 2 then a - 1 else a

/-- One eligible cell for the matcher (R213). -/
structure Cand where
  id : Nat
  inSide : Nat
  outSide : Nat
  ingress : Nat
  egress : Nat
  cls : Nat
  cont : Bool
  copy : Nat
  credited : Bool
deriving DecidableEq, Repr

/-- Place of a class in the service order L3, L2, L1, L0, B3, B2, B1, B0 (R213). -/
def classRank (c : Nat) : Nat := [3, 2, 1, 0, 7, 6, 5, 4].getD c 8

/-- n further cells of a frame in transmission are formed, with room for them at its egress (R212). -/
def State.nextCells (s : State) (f : Frame) (n : Nat) : Bool :=
  decide (s.core.xmit.look f.egress 0 = f.id + 1 ∧ f.sent + n ≤ f.formed) && (decide (160 ≤ f.egress) || s.stagingRoom f.egress n)

/-- Every eligible cell: the next formed cell of a frame in transmission, and the one after it between two x16 ports, or the
head cell of an eligible frame (R207, R212). -/
def State.candidates (s : State) : List Cand :=
  s.core.frames.flatMap (fun f =>
    let cell (cont : Bool) (k : Nat) : Cand :=
      { id := f.id, inSide := s.sideOf f.ingress, outSide := s.sideOf f.egress, ingress := f.ingress,
        egress := f.egress, cls := f.cls, cont := cont, copy := k,
        credited := decide (0 < (s.port f.egress).credit.look f.cls 0) }
    let wide (p : Nat) : Bool := decide (p < 160 ∧ s.sideWidth (s.sideOf p) = 2)
    if s.nextCells f 1 then cell true 0 :: (if wide f.ingress && wide f.egress && s.nextCells f 2 then [cell true 1] else [])
    else if s.eligible f then [cell false 0] else [])

/-- The element of a list that comes first from a round-robin pointer, by a number below n (R214). -/
def roundRobin (ptr n : Nat) (num : Cand → Nat) : List Cand → Option Cand
  | [] => none
  | c :: r => match roundRobin ptr n num r with
    | none => some c
    | some d => if (num c + n - ptr) % n ≤ (num d + n - ptr) % n then some c else some d

/-- The lowest-ranked class among some cells. -/
def bestClass : List Cand → Option Nat
  | [] => none
  | c :: r => match bestClass r with
    | none => some c.cls
    | some d => if classRank c.cls ≤ classRank d then some c.cls else some d

/-- Round-robin pointer keys: 0 port of an egress side, 1 ingress of an egress port and class, 2 egress side of an
ingress side (R214). -/
def ptrKey (kind a b : Nat) : Nat := kind * 100000 + a * 8 + b

/-- Grant of one egress side among the requests for it (R213, step 2). -/
def State.grantAt (s : State) (reqs : List Cand) (e : Nat) : Option Cand :=
  let mine := reqs.filter (fun c => decide (c.outSide = e))
  let pp := s.core.pointers.look (ptrKey 0 e 0) 0
  match roundRobin pp 177 (·.egress) (mine.filter (·.cont)) with
  | some c => some c
  | none =>
    match roundRobin pp 177 (·.egress) mine with
    | none => none
    | some x =>
      let port := mine.filter (fun c => decide (c.egress = x.egress))
      let pool := if (port.filter (·.credited)).isEmpty then port else port.filter (·.credited)
      match bestClass pool with
      | none => none
      | some k => roundRobin (s.core.pointers.look (ptrKey 1 x.egress k) 0) 177 (·.ingress)
          (pool.filter (fun c => decide (c.cls = k)))

/-- Accept of one ingress side among the grants to it (R213, step 3). -/
def State.acceptAt (s : State) (grants : List Cand) (i : Nat) : Option Cand :=
  let mine := grants.filter (fun c => decide (c.inSide = i))
  let pool := if !(mine.filter (·.cont)).isEmpty then mine.filter (·.cont)
    else if !(mine.filter (·.credited)).isEmpty then mine.filter (·.credited) else mine
  match bestClass pool with
  | none => none
  | some k => roundRobin (s.core.pointers.look (ptrKey 2 i 0) 0) 40 (·.outSide) (pool.filter (fun c => decide (c.cls = k)))

/-- One iteration over the cells whose sides are still unmatched: the accepted cells (R213). -/
def State.iteration (s : State) (reqs : List Cand) : List Cand :=
  let grants := (List.range 40).filterMap (s.grantAt reqs)
  (List.range 40).filterMap (s.acceptAt grants)

/-- Advance the pointers that chose a cell accepted in the first iteration (R214); a continuation is chosen by its egress port
alone, so that it moves no ingress pointer. -/
def State.advance (c : Cand) (s : State) : State :=
  let ports := s.core.pointers.put (ptrKey 0 c.outSide 0) ((c.egress + 1) % 177)
  let ingress := if c.cont then ports else ports.put (ptrKey 1 c.egress c.cls) ((c.ingress + 1) % 177)
  { s with core := { s.core with pointers := ingress.put (ptrKey 2 c.inSide 0) ((c.outSide + 1) % 40) } }

/-- Requests left after some cells are accepted: those whose two sides are still unmatched, where the side of an
x16 port takes two cells, and an internal port of it one (R207, R208, R213). -/
def State.unmatched (s : State) (done : List Cand) (reqs : List Cand) : List Cand :=
  reqs.filter (fun c =>
    decide (¬ done.any (fun d => decide (d.id = c.id ∧ d.copy = c.copy))) &&
    decide ((done.filter (fun d => decide (d.inSide = c.inSide))).length < s.sideWidth c.inSide) &&
    decide ((done.filter (fun d => decide (d.outSide = c.outSide))).length < s.sideWidth c.outSide) &&
    !done.any (fun d => decide ((160 ≤ c.ingress ∧ d.ingress = c.ingress) ∨ (160 ≤ c.egress ∧ d.egress = c.egress))) &&
    decide (¬ done.any (fun d => decide (d.egress = c.egress) && !c.cont)))

/-- The cells that a cell time moves: up to three iterations (R213). -/
def State.matched (s : State) : List Cand × List Cand :=
  let reqs := s.candidates
  let a := s.iteration reqs
  let b := s.iteration (s.unmatched a reqs)
  let c := s.iteration (s.unmatched (a ++ b) reqs)
  (a, b ++ c)

/-- Terminate a frame in transmission at its egress: by the abort marker on a trunk, whose next new frame then carries
the same sequence number (R218, R366); by nullification elsewhere, which uses no credit of the link partner (R223). -/
def State.terminate (f : Frame) (s : State) : State :=
  let s1 := s.emit (.cut f.egress f.id)
  let s2 := { s1 with core := { s1.core with xmit := s1.core.xmit.del f.egress } }
  if s.trunkPort f.egress then
    s2.setTrunk f.egress (fun t => { t with tx := t.tx ++ [.abort], ns := f.seqNo, buffer := t.buffer.filter (fun g => decide (g.id ≠ f.id)) })
  else s2.setPort f.egress (fun q => { q.giveCredit f with staging := q.staging - q.stagingHeld, stagingHeld := 0 })

/-- Discard or terminate a frame that proves bad: when its head has left, the egress terminates it and the counter
and fault source 188 are set (R222). -/
def State.frameBad (id : Nat) (s : State) : State :=
  match s.frame id with
  | none => s
  | some f => if f.sent = 0 then s.dropFrame id else (((s.terminate f).bump 0x4010 4).raise 188).dropFrame id

end Sys2Proof.Machine
end

