-- ==== Sys2Proof/Machine/Fabric.lean ====
section
/-!
DEFINITION. Shared operations of the hierarchies, the windows and the transaction tracker (chapters 08 and 09):
bindings, routing, window matching, tracker allocation, error completions, AER and Posted Write Faults.
-/

namespace Sys2Proof.Machine

/-! ### AER status bits (the PCIe Base Specification's places, log entry 6) -/

/-- Surprise Down. PRESUMED: log entry 6. -/
def aerSurprise : Nat := 5
/-- Completer Abort. PRESUMED: log entry 6. -/
def aerAbort : Nat := 15
/-- Receiver Overflow. PRESUMED: log entry 6. -/
def aerOverflow : Nat := 17
/-- Unsupported Request. PRESUMED: log entry 6. -/
def aerUnsupported : Nat := 20
/-- ACS Violation. PRESUMED: log entry 6. -/
def aerAcs : Nat := 21
/-- Uncorrectable Internal Error. PRESUMED: log entry 6. -/
def aerInternal : Nat := 22
/-- IDE Check Failed. PRESUMED: log entry 6. -/
def aerIde : Nat := 27
/-- Advisory Non-Fatal Error, a correctable status bit. PRESUMED: log entry 6. -/
def aerAdvisory : Nat := 13

/-- Log an uncorrectable error in AER of a bridge, or of the upstream bridge. -/
def State.aer (v : Nat) (b : Option Nat) (e : Nat) (s : State) : State :=
  match b with
  | some b => s.setBridge v b (fun x => { x with aerUnc := x.aerUnc ||| 2 ^ e })
  | none => s.setHier v (fun h => { h with up := { h.up with aerUnc := h.up.aerUnc ||| 2 ^ e } })

/-- Log a correctable error in AER of the upstream bridge. -/
def State.aerCorrectable (v e : Nat) (s : State) : State :=
  s.setHier v (fun h => { h with up := { h.up with aerCor := h.up.aerCor ||| 2 ^ e } })

/-! ### Bindings -/

/-- Binding entry of a bridge in a table copy (R256). -/
def State.bindingIn (s : State) (t : Tbl Nat) (v b : Nat) : Nat := s.inTables t (0x4100 + v) b
/-- Kind of a binding (R256). -/
def bindKind (e : Nat) : Nat := bits e 31 28
/-- Port of a binding (R256). -/
def bindPort (e : Nat) : Nat := bits e 27 20
/-- Logical device of a binding (R256). -/
def bindLd (e : Nat) : Nat := bits e 19 16
/-- Pool endpoint of a binding (R256). -/
def bindEndpoint (e : Nat) : Nat := bits e 11 0

/-- Every binding of a table copy, as hierarchy, bridge and entry. -/
def bindings (t : Tbl Nat) : List (Nat × Nat × Nat) :=
  (t.filter (fun e => decide (0x4100 ≤ e.1 / 256 ∧ e.1 / 256 < 0x4140) && decide (bindKind e.2 ≠ 0))).map
    (fun e => (e.1 / 256 - 0x4100, e.1 % 256, e.2))

/-- The bridge to which a port is bound whole (R256). -/
def bridgeOfPortIn (t : Tbl Nat) (p : Nat) : Option (Nat × Nat) :=
  ((bindings t).find? (fun x => decide (bindKind x.2.2 = 1 ∧ bindPort x.2.2 = p))).map (fun x => (x.1, x.2.1))

/-- The bridge to which a logical device of a port is bound (R256). -/
def bridgeOfSliceIn (t : Tbl Nat) (p ld : Nat) : Option (Nat × Nat) :=
  ((bindings t).find? (fun x => decide (bindKind x.2.2 = 2 ∧ bindPort x.2.2 = p ∧ bindLd x.2.2 = ld))).map
    (fun x => (x.1, x.2.1))

/-- The bridge to which a pool endpoint is bound (R256). -/
def bridgeOfEndpointIn (t : Tbl Nat) (e : Nat) : Option (Nat × Nat) :=
  ((bindings t).find? (fun x => decide (bindKind x.2.2 = 3 ∧ bindEndpoint x.2.2 = e))).map (fun x => (x.1, x.2.1))

/-- The bridge to which a port is bound whole in the live tables. -/
def State.bridgeOfPort (s : State) (p : Nat) : Option (Nat × Nat) := bridgeOfPortIn s.ep.live p

/-- The bridge behind which a requester on a downstream port stands: the whole port's, or its slice's (R261). -/
def targetOf (t : Tbl Nat) (p ld : Nat) : Option (Nat × Nat) :=
  match bridgeOfPortIn t p with
  | some x => some x
  | none => bridgeOfSliceIn t p ld

/-! ### Hot-plug events -/

/-- A virtual bridge sends an interrupt by its own MSI capability (R552). -/
def State.bridgeMsi (v b : Nat) (s : State) : State :=
  let x := s.bridge v b
  if x.msiEn && x.busMaster then s.emitVh v (.vector v x.msiAddr x.msiData) else s

/-- A hot-plug event of a bridge: the interrupt that Slot Control enables for it (R267, R552). k is the event's enable: 0
attention button, 1 power fault, 2 MRL sensor, 3 presence detect, 4 Command Completed, 12 data link layer state. PRESUMED: log
entry 6. -/
def State.hotplug (v b k : Nat) (s : State) : State :=
  let e := (s.bridge v b).slotEnables
  if e.testBit 5 && e.testBit k then (s.setHier v (fun h => { h with hotplugIntr := h.hotplugIntr + 1 })).bridgeMsi v b else s

/-- Presence Detect State of a bridge changes (R258, R259, R267). -/
def State.bridgePresence (v b : Nat) (isOn : Bool) (s : State) : State :=
  if (s.bridge v b).presence = isOn then s
  else (s.setBridge v b (fun x => { x with presence := isOn, presenceChg := true })).hotplug v b 3

/-- Data Link Layer Link Active of a bridge changes (R258, R259, R267). -/
def State.bridgeLink (v b : Nat) (isOn : Bool) (s : State) : State :=
  if (s.bridge v b).linkActive = isOn then s
  else (s.setBridge v b (fun x => { x with linkActive := isOn, linkChg := true })).hotplug v b 12

/-- A link IDE check fails on a port (R199): the stream is insecure, the port goes down with cause 5, the error is reported in
AER of the owning hierarchy, and the group's IDE fault source is set. -/
def State.ideFailure (p : Nat) (s : State) : State :=
  let s1 := (s.setPort p (fun q => { q with ide := 3 })).raise (296 + p / 4)
  let s2 := match s.portRole p, s.vhOfPort p, s.bridgeOfPort p with
    | 1, some v, _ => (s1.setFunc v (fun f => { f with ideKeys := false })).aer v none aerIde
    | 2, _, some (v, b) => s1.aer v (some b) aerIde
    | _, _, _ => s1
  s2.portDown p 5

/-! ### Edges and domains -/

/-- This module's number in a table copy (R327). -/
def State.moduleIn (s : State) (t : Tbl Nat) : Nat := s.inTables t 0x4400 1
/-- This module's edge in a table copy (R327). -/
def State.moduleEdgeIn (s : State) (t : Tbl Nat) : Nat := s.inTables t 0x4400 2

/-- The entry of an edge in a table copy (R328). -/
def State.edgeIn (s : State) (t : Tbl Nat) (e : Nat) : Nat := s.inTables t (0x4420 + e / 256) (e % 256)

/-- The source edge of frames that enter at a port: the valid edge that names it, else the module edge (R329). -/
def State.edgeOfPortIn (s : State) (t : Tbl Nat) (p : Nat) : Nat :=
  match (t.filter (fun x => decide (0x4420 ≤ x.1 / 256 ∧ x.1 / 256 ≤ 0x442F))).find? (fun x =>
      bit x.2 31 && decide (bits x.2 23 16 = s.moduleIn t ∧ bits x.2 7 0 = p ∧ p < 160)) with
  | some x => x.1 - 0x4420 * 256
  | none => s.moduleEdgeIn t

/-- The twin's module edge in a table copy (R631): the valid edge of the module that D:9000.03 names, with port number 0xFF. -/
def State.twinEdgeIn (s : State) (t : Tbl Nat) : Option Nat :=
  ((t.filter (fun (x : Nat × Nat) => decide (0x4420 ≤ x.1 / 256 ∧ x.1 / 256 ≤ 0x442F))).find? (fun (x : Nat × Nat) =>
    bit x.2 31 && decide (bits x.2 23 16 = s.setting 0x9000 3 ∧ bits x.2 7 0 = 0xFF))).map (fun x => x.1 - 0x4420 * 256)

/-- Whether a domain is contained (R516). -/
def State.isContained (s : State) (d : Nat) : Bool := s.host.contained.look d false

/-- Domain that owns a port: its hierarchy's for a host port, that of the bound hierarchy for a downstream port, else
the assigned domain of the staged entry (R491). -/
def State.domainOfPortIn (s : State) (t : Tbl Nat) (p : Nat) : Nat :=
  match s.vhOfPortIn t p with
  | some v => s.domainOfVhIn t v
  | none => s.portIn t p 0x30

/-! ### Routes toward edges -/

/-- Why an ingress refuses a frame (R232): the codes of Frame.refuse. DESIGN CHOICE: log entry 8. -/
def refuseUnbound : Nat := 1
/-- ACS violation (R274). DESIGN CHOICE: log entry 8. -/
def refuseAcs : Nat := 2
/-- No near window matches (R304). DESIGN CHOICE: log entry 8. -/
def refuseWindow : Nat := 3
/-- No landing window matches (R304). DESIGN CHOICE: log entry 8. -/
def refuseLanding : Nat := 4
/-- A selective IDE TLP on a translating route (R201). DESIGN CHOICE: log entry 8. -/
def refuseIde : Nat := 5
/-- Routed to nothing in its hierarchy: Unsupported Request (R254). DESIGN CHOICE: log entry 8. -/
def refuseRoute : Nat := 6
/-- Unreachable edge (R333). DESIGN CHOICE: log entry 8. -/
def refuseUnreachable : Nat := 7
/-- Too old at trunk ingress (R347). DESIGN CHOICE: log entry 8. -/
def refuseAge : Nat := 8
/-- A failed bucket: handled as link down (R240). DESIGN CHOICE: log entry 8. -/
def refuseBucket : Nat := 9
/-- Domain containment or link IDE not secure: discarded (R199, R516). DESIGN CHOICE: log entry 8. -/
def refuseContained : Nat := 10

/-- A frame's route. -/
structure Route where
  egress : Nat := 176
  tlp : Tlp := {}
  window : Option Nat := none
  refuse : Nat := 0
  cause : Nat := 0
  bucket : Option Nat := none
  dst : Nat := 0
deriving DecidableEq, Repr

/-- The flow label of a TLP at the module where it enters the fabric (R237). -/
def tlpLabel (x : Tlp) : Nat :=
  let grouped := match x.op with
    | .completion => x.relaxed
    | .memRead | .atomic | .config | .io => x.relaxed || x.ido
    | _ => false
  (if x.op = .completion then x.cplId else x.reqId) % 65536 * 65536 + (if grouped then bits x.tagNo 7 4 else 0) * 4096

/-- Route a frame toward an edge (R330): a port of this module, a path of the destination module's set, or nothing.
The bucket is of the path set's number and the flow hash (R237, R238). -/
def State.toEdge (s : State) (t : Tbl Nat) (src dst kind label : Nat) (x : Tlp) : Route :=
  let e := s.edgeIn t dst
  let m := bits e 23 16
  if s.twin.takeoverEdge ∧ s.twinEdgeIn t = some dst then { tlp := x, egress := 0xFF, dst := dst }
  else if !bit e 31 then { tlp := x, refuse := refuseUnreachable, dst := dst }
  else if m = s.moduleIn t then { tlp := x, egress := bits e 7 0, dst := dst }
  else
    let ps := s.pathSetIn t m
    if pathCount ps = 0 then { tlp := x, refuse := refuseUnreachable, dst := dst }
    else
      let b := bucketOf (s.setting 0x4006 1) (flowKey src dst kind label)
      let k := s.bucket m b
      let eff := if k.carried || k.failed then k.effective else s.desiredIn t m b
      { tlp := x, egress := pathPort ps eff, dst := dst, bucket := some (m * 64 + b),
        refuse := if k.failed then refuseBucket else 0 }

/-- Send something that the module forms toward an edge of another module: by the effective path of its flow's bucket, which it
stamps; handled as link down, and so not sent, where the edge is unreachable or the bucket failed (R237, R239, R240, R333). -/
def State.fabricSend (src dst kind label : Nat) (o : Nat → Out) (s : State) : State :=
  let r := s.toEdge s.ep.live src dst kind label {}
  if r.refuse ≠ 0 then s
  else (match r.bucket with
    | some b => s.stampBucket r.egress b
    | none => s).emit (o r.egress)

/-! ### The tracker -/

/-- Tracker entry by index. -/
def State.track (s : State) (i : Nat) : Option Track := s.fab.track.find? (fun t => decide (t.index = i))
/-- Change a tracker entry. -/
def State.setTrack (i : Nat) (f : Track → Track) (s : State) : State :=
  { s with fab := { s.fab with track := s.fab.track.map (fun t => if t.index = i then f t else t) } }
/-- Move a tracker entry to Free (R280). -/
def State.freeTrack (i : Nat) (s : State) : State :=
  { s with fab := { s.fab with track := s.fab.track.filter (fun t => decide (t.index ≠ i)) } }

/-- Entries charged to a budget (R281). -/
def State.budgetUsed (s : State) (b : Budget) : Nat := (s.fab.track.filter (fun t => decide (t.budget = b))).length

/-- Reserve of a budget in a table copy (R281). -/
def State.budgetReserveIn (s : State) (t : Tbl Nat) : Budget → Nat
  | .vh v => s.inTables t 0x40F1 v
  | .trunk => s.inTables t 0x40F0 5
  | .master => s.inTables t 0x40F0 7

/-- Cap of a budget in a table copy (R281, R554). -/
def State.budgetCapIn (s : State) (t : Tbl Nat) : Budget → Nat
  | .vh v => s.inTables t 0x40F2 v
  | .trunk => s.inTables t 0x40F0 6
  | .master => s.inTables t 0x8062 1

/-- Sum of all reserves in a table copy (R282). -/
def State.reserveSumIn (s : State) (t : Tbl Nat) : Nat :=
  ((List.range 64).map (fun v => s.budgetReserveIn t (.vh v))).sum + s.budgetReserveIn t .trunk + s.budgetReserveIn t .master

/-- Entries charged above their budgets' reserves in a table copy. -/
def State.aboveReserves (s : State) (u : Tbl Nat) : Nat :=
  ((List.range 64).map (fun v => s.budgetUsed (.vh v) - s.budgetReserveIn u (.vh v))).sum +
    (s.budgetUsed .trunk - s.budgetReserveIn u .trunk) + (s.budgetUsed .master - s.budgetReserveIn u .master)

/-- Entries charged to the hierarchy budgets of a domain in a table copy (R496). -/
def State.domainTagsIn (s : State) (u : Tbl Nat) (d : Nat) : Nat :=
  (s.fab.track.filter (fun t => match t.budget with
    | .vh v => decide (s.domainOfVhIn u v = d)
    | _ => false)).length

/-- Entries charged to the hierarchy budgets of a domain (R496). -/
def State.domainTags (s : State) (d : Nat) : Nat := s.domainTagsIn s.ep.live d

/-- The domain's tag cap in a table copy allows one more entry for a budget (R496). -/
def State.domainAllows (s : State) (u : Tbl Nat) : Budget → Bool
  | .vh v =>
    let d := s.domainOfVhIn u v
    let cap := s.inTables u (0x7000 + d) 3
    decide (cap = 0 ∨ s.domainTagsIn u d < cap)
  | _ => true

/-- A budget may take one more entry under a table copy: below its cap, and within its reserve or the entries no budget
reserves (R23, R281). -/
def State.budgetOpenIn (s : State) (u : Tbl Nat) (b : Budget) : Bool :=
  decide (s.budgetUsed b < s.budgetCapIn u b) && s.domainAllows u b &&
    decide (s.fab.track.length < 262144) &&
    (decide (s.budgetUsed b < s.budgetReserveIn u b) ||
      decide (s.aboveReserves u + s.reserveSumIn u < 262144))

/-- A budget may take one more entry (R281). -/
def State.budgetOpen (s : State) (b : Budget) : Bool := s.budgetOpenIn s.ep.live b

/-- A free entry index: the first from the search start that no entry holds. DEDUCED: log entry 27. -/
def State.freeIndex (s : State) : Nat :=
  let n := s.fab.track.length
  match ((List.range (n + 1)).map (fun i => (s.fab.nextIndex + i) % 262144)).find? (fun i => (s.track i).isNone) with
  | some i => i
  | none => s.fab.nextIndex

/-- Allocate an entry (R278); its index is the search's. DEDUCED: log entry 27. -/
def State.allocTrack (t : Track) (s : State) : State :=
  let i := s.freeIndex
  { s with fab := { s.fab with track := s.fab.track ++ [{ t with index := i }], nextIndex := (i + 1) % 262144 } }

/-- Tag space of a far port: 14-bit in flit mode, else 10-bit (R308). -/
def State.farTagSpace (s : State) (p : Nat) : Nat := if (s.port p).flit then 2 ^ 14 else 2 ^ 10

/-- The lowest far tag of a port that no entry uses, if any (R308). DEDUCED: log entry 27. -/
def State.farTagFree (s : State) (p : Nat) : Option Nat :=
  let used := s.fab.track.filterMap (fun t => if t.cplPort = p then t.farTag else none)
  if used.length < s.farTagSpace p then (List.range (used.length + 1)).find? (fun i => decide (¬ used.contains i)) else none

/-- Send a completion that the module forms to the requester of a request: over the trunk for one that came over it,
else on the requester's port (R261, R285, R349). -/
def State.complete (port edge : Nat) (t : Tlp) (s : State) : State :=
  if t.xid.isSome || s.trunkPort port then s.fabricSend (s.moduleEdgeIn s.ep.live) edge 0 (tlpLabel t) (fun p => .edgeTlp p edge t)
  else s.emitOn port (.tlp port t)

/-- The completion that answers a request with a status (R261, R274, R304). -/
def answerOf (t : Tlp) (status : Nat) : Tlp := { t with op := .completion, status := status, cplLast := true }

/-- Hierarchy of a budget. -/
def Budget.vh? : Budget → Option Nat
  | .vh v => some v
  | _ => none

/-- Requester ID of a hierarchy's management function (R252, R524). -/
def State.functionId (s : State) (v : Nat) : Nat := (s.hier v).busNo * 256 + 1

/-- A completion as it returns to the requester of an entry: its own ID, tag and logical device; through a window the completer is the
near hierarchy's management function (R279, R308, R349). -/
def State.returned (s : State) (t : Track) (x : Tlp) : Tlp :=
  { x with reqId := t.reqId, tagNo := t.tagNo, xid := t.xid, ld := t.reqLd
           cplId := match t.window, t.budget with
             | some _, .vh v => s.functionId v
             | _, _ => x.cplId }

/-- Report an entry to its requester, with an error status for what remains. -/
def State.reportAs (status : Nat) (t : Track) (s : State) : State :=
  if t.prefetch then s
  else if t.cxlMem then
    let s1 := s.emitOn t.reqPort (.memAnswer t.reqPort t.tagNo t.write true)
    match t.write, t.budget.vh? with
    | true, some v => s1.aer v none aerInternal
    | _, _ => s1
  else
    s.complete t.reqPort t.edge (s.returned t { op := .completion, len := t.remaining, status := status })

/-- Step 1 of R285: the report of an entry with Completer Abort. -/
def State.reportEntry (t : Track) (s : State) : State := s.reportAs 4 t

/-- The bridge, or the upstream port, through which a request left its hierarchy (R285, step 2). -/
def State.exitBridge (s : State) (t : Track) : Option (Nat × Option Nat) :=
  match t.budget with
  | .vh v => match s.bridgeOfPort t.cplPort with
    | some (w, b) => if w = v then some (v, some b) else some (v, none)
    | none => some (v, none)
  | _ => none

/-- The maximum fabric residency in force (R348). -/
def State.residency (s : State) : Nat := s.setting 0x4400 3

/-- Move an entry to Expired (R280, R286). -/
def State.expire (i : Nat) (s : State) : State :=
  s.setTrack i (fun t => { t with expired := true, freeAt := s.ep.beat + s.residency })

/-! ### Windows -/

/-- A window descriptor's fields (R297). -/
structure Win where
  kind : Nat
  readAllow : Bool
  writeAllow : Bool
  readSafe : Bool
  prefetch : Nat
  nearVh : Nat
  srcEdge : Nat
  farDomain : Nat
  group : Nat
  reserved : Nat
  timeout : Nat
  pages : Nat
  nearBase : Nat
  farBase : Nat
deriving DecidableEq, Repr

/-- Decode a window descriptor (R297). -/
def winFields (d : Nat) : Win where
  kind := bits d 255 254
  readAllow := bit d 253
  writeAllow := bit d 252
  readSafe := bit d 251
  prefetch := bits d 250 248
  nearVh := bits d 247 242
  srcEdge := bits d 241 230
  farDomain := bits d 229 218
  group := bits d 217 208
  reserved := bits d 207 188
  timeout := bits d 187 164
  pages := bits d 163 128
  nearBase := bits d 127 64
  farBase := bits d 63 0

/-- The windows of a table copy by number. -/
def windows (t : Tbl Nat) : List (Nat × Win) :=
  (t.filter (fun e => decide (0x4240 ≤ e.1 / 256 ∧ e.1 / 256 ≤ 0x4243))).map
    (fun e => ((e.1 / 256 - 0x4240) * 256 + e.1 % 256, winFields e.2))

/-- The valid route entries of a table copy by number (R299). -/
def routeEntries (t : Tbl Nat) : List (Nat × Nat) :=
  (t.filter (fun e => decide (0x4280 ≤ e.1 / 256 ∧ e.1 / 256 ≤ 0x429F) && bit e.2 63)).map
    (fun e => ((e.1 / 256 - 0x4280) * 256 + e.1 % 256, e.2))

/-- The route entry of a group for a requester (R302). -/
def routeFor (t : Tbl Nat) (group req : Nat) : Option Nat :=
  ((routeEntries t).find? (fun e => decide (bits e.2 61 52 = group ∧ bits e.2 51 36 = req))).map (·.2)

/-- A window is enabled (R298) and its domains are not contained (R516). -/
def State.winOpen (s : State) (t : Tbl Nat) (w : Win) : Bool :=
  decide (w.pages ≠ 0) &&
    !(decide (w.kind ≠ 2) && s.isContained (s.domainOfVhIn t w.nearVh)) &&
    !(decide (w.kind ≠ 1) && s.isContained w.farDomain)

/-- Every byte of a request lies in a window whose range begins at an address (R302). -/
def winCovers (w : Win) (start : Nat) (x : Tlp) : Bool :=
  decide (start ≤ x.addr ∧ x.addr + x.len ≤ start + 4096 * w.pages)

/-- A window permits a request (R303). -/
def winPermits (w : Win) (x : Tlp) : Bool :=
  match x.op with
  | .memRead => w.readAllow
  | .memWrite => w.writeAllow
  | .atomic => w.readAllow && w.writeAllow
  | _ => false

/-- BAR4 of a hierarchy: its base and size, size 0 where it is not implemented (R301, R526). -/
def State.apertureOf (s : State) (v : Nat) : Nat × Nat :=
  let f := s.func v
  (f.bar4, if f.apertureLog2 = 0 then 0 else 2 ^ f.apertureLog2)

/-- Whether a request is addressed into the window aperture of a hierarchy (R301). -/
def State.inAperture (s : State) (v : Nat) (x : Tlp) : Bool :=
  let a := s.apertureOf v
  (s.func v).std.memEn && decide (x.op ≠ .io) && decide (a.1 ≤ x.addr ∧ x.addr < a.1 + a.2)

/-- A request translated by a window and its route entry (R305). The far requester ID is that of the management
function of the far port's hierarchy. -/
def State.throughWindow (s : State) (t : Tbl Nat) (w : Win) (start route : Nat) (x : Tlp) : Tlp :=
  let addr := w.farBase + (x.addr - start)
  if w.kind = 1 then { x with addr := addr }
  else
    let p := bits route 35 24
    let far := match s.vhOfPortIn t p with
      | some v => some v
      | none => (targetOf t p 0).map (·.1)
    let req := match far with
      | some v => s.functionId v
      | none => 0
    { x with addr := addr, reqId := req, ld := 0, pasid := if bit route 23 then some (bits route 19 0) else none }

/-! ### Routing -/

/-- Route a request in a hierarchy's window aperture (R301 to R305). -/
def State.windowRoute (s : State) (t : Tbl Nat) (v ingress : Nat) (x : Tlp) : Route :=
  let base := (s.apertureOf v).1
  match (windows t).find? (fun w => s.winOpen t w.2 && decide (w.2.kind ≠ 2 ∧ w.2.nearVh = v) &&
      winCovers w.2 (base + w.2.nearBase) x && winPermits w.2 x && (routeFor t w.2.group x.reqId).isSome) with
  | none => { tlp := x, refuse := refuseWindow }
  | some (n, w) =>
    if x.selIde then { tlp := x, refuse := refuseIde }
    else match routeFor t w.group x.reqId with
      | none => { tlp := x, refuse := refuseWindow }
      | some r =>
        let y := s.throughWindow t w (base + w.nearBase) r x
        if w.kind = 1 then
          { s.toEdge t (s.edgeOfPortIn t ingress) (bits r 35 24) 0 (tlpLabel x) y with window := some n }
        else { egress := bits r 35 24, tlp := y, window := some n }

/-- Route a request that arrived over a trunk through a landing window (R302, R304, R320). -/
def State.landingRoute (s : State) (t : Tbl Nat) (src : Nat) (x : Tlp) : Route :=
  let ws := (windows t).filter (fun w => s.winOpen t w.2 && decide (w.2.kind = 2 ∧ w.2.srcEdge = src) &&
    winCovers w.2 w.2.nearBase x)
  match ws with
  | [] => { tlp := x, refuse := refuseLanding, cause := 1 }
  | (n, w) :: _ =>
    match routeFor t w.group x.reqId with
    | none => { tlp := x, refuse := refuseLanding, cause := 2 }
    | some r =>
      if !winPermits w x then { tlp := x, refuse := refuseLanding, cause := 3 }
      else if x.selIde then { tlp := x, refuse := refuseIde, cause := 1 }
      else { egress := bits r 35 24, tlp := s.throughWindow t w w.nearBase r x, window := some n }

/-- An ACS control of a downstream port's bridge is in force: enforced by D:34pp.23, or set by the host (R273). Bits:
0 Source Validation, 1 Translation Blocking, 2 P2P Request Redirect, 3 P2P Completion Redirect, 4 Upstream
Forwarding. -/
def State.acsOn (s : State) (t : Tbl Nat) (p v b k : Nat) : Bool :=
  decide (s.portIn t p 0x23 = 1) || (s.bridge v b).acsControl.testBit k

/-- The bridges of a hierarchy in use: those below its bridge count (R252). -/
def State.bridgeInUse (s : State) (v b : Nat) : Bool := decide (b < (s.hier v).bridgeCount)

/-- The egress toward a bridge's target: its port; for a pool endpoint the management functions' port, where the module
answers (R256, R380). -/
def targetPort (e : Nat) : Nat := if bindKind e = 1 ∨ bindKind e = 2 then bindPort e else 176

/-- An enabled window of a bridge holds an address: the I/O window for an I/O request, else the memory or the prefetchable one
(R254). PRESUMED: log entry 6. -/
def Bridge.holds (x : Bridge) (op : TlpOp) (addr : Nat) : Bool :=
  if op = .io then x.std.ioEn && decide (x.ioBase ≤ addr ∧ addr ≤ x.ioLimit)
  else x.std.memEn && (decide (x.memBase ≤ addr ∧ addr ≤ x.memLimit) || decide (x.prefBase ≤ addr ∧ addr ≤ x.prefLimit))

/-- The bound bridge of a hierarchy whose window holds an address (R254). -/
def State.bridgeByAddr (s : State) (t : Tbl Nat) (v : Nat) (op : TlpOp) (addr : Nat) : Option (Nat × Nat) :=
  ((bindings t).find? (fun x => decide (x.1 = v) && s.bridgeInUse v x.2.1 && (s.bridge v x.2.1).holds op addr)).map
    (fun x => (x.2.1, x.2.2))

/-- The bound bridge of a hierarchy whose bus range holds a bus number (R254, R255). -/
def State.bridgeByBus (s : State) (t : Tbl Nat) (v bus : Nat) : Option (Nat × Nat) :=
  ((bindings t).find? (fun x => decide (x.1 = v) && s.bridgeInUse v x.2.1 &&
    decide ((s.bridge v x.2.1).secondary ≤ bus ∧ bus ≤ (s.bridge v x.2.1).subordinate))).map (fun x => (x.2.1, x.2.2))

/-- A request is addressed into BAR0 or BAR2 of the management function (R526). -/
def State.inBars (s : State) (v : Nat) (x : Tlp) : Bool :=
  let f := s.func v
  f.std.memEn && decide (x.op ≠ .io) &&
    (decide (f.bar0 ≤ x.addr ∧ x.addr < f.bar0 + 2 ^ 19) || decide (f.bar2 ≤ x.addr ∧ x.addr < f.bar2 + 2 ^ 24))

/-- Bus number of a configuration request, or of a message routed by ID: its address holds bus, device, function and register as
the header places them (R255). PRESUMED: log entry 6. -/
def busOf (x : Tlp) : Nat := x.addr / 2 ^ 24 % 256

/-- Device and function number of a configuration request (R252, R255). PRESUMED: log entry 6. -/
def devfnOf (x : Tlp) : Nat := x.addr / 65536 % 256

/-- Route a request or message from a hierarchy's host (R254, R255, R301): memory and I/O by the windows of the upstream and the
downstream bridges, a configuration request and a message routed by ID by their bus number. What goes to no target ends in the
module. PRESUMED: log entry 6. -/
def State.hostRoute (s : State) (t : Tbl Nat) (v p : Nat) (x : Tlp) : Route :=
  let sv := decide (s.portIn t p 0x23 = 1) && decide (x.op ≠ .completion) &&
    !decide ((s.hier v).busNo ≤ x.reqId / 256 ∧ x.reqId / 256 ≤ max (s.hier v).up.subordinate (s.hier v).busNo)
  let toward (b : Option (Nat × Nat)) (none_ : Route) : Route := match b with
    | some (_, e) => { tlp := { x with ld := bindLd e, cfg0 := decide (x.op = .config) }, egress := targetPort e }
    | none => none_
  let byAddr (op : TlpOp) : Option (Nat × Nat) := if (s.hier v).up.holds op x.addr then s.bridgeByAddr t v op x.addr else none
  if sv then { tlp := x, refuse := refuseAcs }
  else match x.op with
    | .message =>
      if x.msgRoute = 2 then toward (s.bridgeByBus t v (busOf x)) { tlp := x, refuse := refuseRoute }
      else if x.msgRoute = 1 then toward (byAddr .memWrite) { tlp := x, refuse := refuseRoute }
      else { tlp := x }
    | .config => if x.cfg0 then { tlp := x } else toward (s.bridgeByBus t v (busOf x)) { tlp := x }
    | _ =>
      if s.inAperture v x then s.windowRoute t v p x
      else if s.inBars v x then { tlp := x }
      else toward (byAddr x.op) { tlp := x, refuse := refuseRoute }

/-- The enabled host port of a hierarchy in a table copy (R179). -/
def State.hostPortIn (s : State) (t : Tbl Nat) (v : Nat) : Option Nat :=
  (List.range 160).find? (fun q => s.enabledIn t q && decide (s.vhOfPortIn t q = some v))

/-- Route a request or message from a target bound to a bridge (R254, R272, R273): to another target across the crossbar, or to the
host; what is addressed to the bridge's own range goes up only by Upstream Forwarding. A request needs the Bus Master Enable of
the bridge, and of the upstream bridge where it goes to the host. A configuration request of a device is unsupported, and a
message that stays local ends in the module. PRESUMED: log entry 6. -/
def State.deviceRoute (s : State) (t : Tbl Nat) (v b p : Nat) (x : Tlp) : Route :=
  let none_ : Route := { tlp := x, refuse := refuseRoute }
  let host : Route := match s.hostPortIn t v with
    | some q => { tlp := x, egress := q }
    | none => none_
  let sv := s.acsOn t p v b 0 && !decide ((s.bridge v b).secondary ≤ x.reqId / 256 ∧ x.reqId / 256 ≤ (s.bridge v b).subordinate)
  let tb := s.acsOn t p v b 1 && decide (x.addrType ≠ 0)
  let peer (c : Option (Nat × Nat)) (up away : Route) : Route := match c with
    | some (c, e) =>
      if c = b then (if s.acsOn t p v b 4 then up else none_)
      else if s.acsOn t p v b 2 then up
      else { tlp := { x with ld := bindLd e }, egress := targetPort e }
    | none => away
  match x.op with
  | .message =>
    if sv then { tlp := x, refuse := refuseAcs }
    else if x.msgRoute = 2 then peer (s.bridgeByBus t v (busOf x)) host host
    else if x.msgRoute = 1 then peer (s.bridgeByAddr t v .memWrite x.addr) host host
    else if x.msgRoute = 0 ∨ x.msgRoute = 5 then host
    else { tlp := x }
  | .config => if sv then { tlp := x, refuse := refuseAcs } else none_
  | _ =>
    if sv || (tb && decide (x.op ≠ .io)) then { tlp := x, refuse := refuseAcs }
    else if !(s.bridge v b).busMaster then none_
    else if s.inAperture v x then s.windowRoute t v p x
    else
      let up := if (s.hier v).up.busMaster then host else none_
      peer (s.bridgeByAddr t v x.op x.addr) up (if (s.hier v).up.holds x.op x.addr then none_ else up)

/-- The tracker entry that a completion answers: by the port and logical device it came from and the ID and tag its request
carried onward, or by the host port that it was redirected to, or by its transaction index over a trunk (R262, R272, R279, R308, R349). A master request's own access is answered by
its own command. -/
def State.entryFor (s : State) (ingress : Nat) (x : Tlp) : Option Track :=
  match x.xid with
  | some i => s.fab.track.find? (fun t => decide (t.index = i ∧ t.reqId = x.reqId))
  | none =>
    if s.trunkPort ingress then none
    else s.fab.track.find? (fun t => decide (t.cplPort = ingress ∧ t.cplLd = x.ld ∨ t.via = some ingress) && (t.config || decide (t.budget ≠ .master)) &&
      (if t.cxlMem then decide (t.index = x.tagNo)
       else match t.farTag with
        | some g => decide (g = x.tagNo)
        | none => decide (t.tagNo = x.tagNo ∧ t.reqId = x.reqId)))

/-- The host port to which P2P Completion Redirect sends the completion of a request between two targets of a hierarchy (R272,
R273). PRESUMED: log entry 6. -/
def State.cplRedirect (s : State) (t : Tbl Nat) (ingress : Nat) (e : Track) (x : Tlp) : Option Nat :=
  match targetOf t ingress x.ld, targetOf t e.reqPort e.reqLd with
  | some (v, b), some (w, c) =>
    if v = w ∧ b ≠ c ∧ s.portRoleIn t ingress = 2 ∧ s.acsOn t ingress v b 3 = true ∧ x.relaxed = false then s.hostPortIn t v else none
  | _, _ => none

/-- The cluster that serves queue pairs of a number modulo 8: that cluster, or the next usable one above it, wrapping
from 7 to 0 (R432). -/
def State.clusterOf (s : State) (q : Nat) : Nat :=
  (((List.range 8).map (fun i => (q + i) % 8)).find? (fun c => !s.beryl.clusterRetired.look c false)).getD (q % 8)

/-- The internal port of the cluster that serves a flow label (R208, R458). -/
def State.clusterPort (s : State) (label : Nat) : Nat := 160 + s.clusterOf label

/-- Domain that owns a queue pair: its instance's (R431, R231). -/
def State.domainOfQp (s : State) (q : Nat) : Nat := (s.instD (s.qp q).inst).domain

/-- The one device whose CXL.cache a hierarchy's host serves where its link runs CXL 2.0: the port of its first bound bridge whose
link runs CXL.cache (R189). DESIGN CHOICE: log entry 49. -/
def State.cacheDevice (s : State) (t : Tbl Nat) (v : Nat) : Option Nat :=
  (((bindings t).filter (fun x => decide (x.1 = v ∧ bindKind x.2.2 = 1) && bit (s.port (bindPort x.2.2)).protocols 2)).map
    (fun x => bindPort x.2.2)).head?

/-- A CXL message may pass between a host port and a bound device: CXL.cache of a CXL 2.0 host is of one device only, and a CXL
1.1 device has no use but as pool memory (R189). -/
def State.cxlAllowed (s : State) (t : Tbl Nat) (v host dev : Nat) (cache : Bool) : Bool :=
  decide ((s.port dev).cxl ≠ 1) && !(cache && decide ((s.port host).cxl = 2) && decide (s.cacheDevice t v ≠ some dev))

/-- Route a CXL message (R189, R261): an engine's to its port, a host's to a device bound in its hierarchy, and a bound device's to
its host. -/
def State.cxlRoute (s : State) (t : Tbl Nat) (ingress : Nat) (h : Head) : Route :=
  let none_ : Route := { tlp := h.tlp, refuse := refuseRoute }
  if 160 ≤ ingress then { tlp := h.tlp, egress := h.port }
  else match s.vhOfPortIn t ingress with
    | some v =>
      if (bindings t).any (fun x => decide (x.1 = v ∧ targetPort x.2.2 = h.port ∧ h.port < 160)) && s.cxlAllowed t v ingress h.port h.cache then
        { tlp := h.tlp, egress := h.port }
      else none_
    | none => match targetOf t ingress h.tlp.ld with
      | none => { tlp := h.tlp, refuse := refuseUnbound }
      | some (v, _) => match s.hostPortIn t v with
        | some q => if s.cxlAllowed t v q ingress h.cache then { tlp := h.tlp, egress := q } else none_
        | none => none_

/-- Kind of a frame's flow-hash key: 1 for Beryl's, and for a Posted Write Fault of a Beryl write, of cause 7 or above (R237). -/
def keyKind (h : Head) : Nat := if h.kind = 1 ∨ (h.kind = 2 ∧ 7 ≤ h.cause) then 1 else 0

/-- Route a frame by its head cell under its entry epoch's tables. DEDUCED: log entry 40. -/
def State.route (s : State) (t : Tbl Nat) (ingress : Nat) (h : Head) : Route :=
  let x := h.tlp
  let role := s.portRoleIn t ingress
  let answer (dst : Nat) : Route :=
    match s.entryFor ingress x with
    | some e =>
      if s.trunkPort e.reqPort then s.toEdge t (s.edgeOfPortIn t ingress) e.edge 0 (tlpLabel x) x
      else { tlp := x, egress := (s.cplRedirect t ingress e x).getD e.reqPort, dst := dst }
    | none => { tlp := x, dst := dst }
  if h.kind = 3 then s.cxlRoute t ingress h
  else if 160 ≤ ingress then
    if h.kind = 0 then { tlp := x, egress := h.port }
    else
      let r := s.toEdge t (s.moduleEdgeIn t) h.dst (keyKind h) h.flow x
      if r.refuse = 0 ∧ r.bucket = none then { r with egress := if h.kind = 1 then s.clusterPort h.flow else 176 } else r
  else if role = 3 then
    if s.residency < h.age then { tlp := x, refuse := refuseAge, dst := h.dst }
    else
      let r := s.toEdge t h.src h.dst (keyKind h) h.flow x
      if r.refuse ≠ 0 ∨ r.bucket ≠ none then r
      else if h.kind = 1 then { r with egress := s.clusterPort h.flow }
      else if h.kind = 2 then { r with egress := 176 }
      else if x.op = .completion then answer h.dst
      else { s.landingRoute t h.src x with dst := h.dst }
  else if x.op = .completion then answer 0
  else if role = 1 then
    match s.vhOfPortIn t ingress with
    | some v => s.hostRoute t v ingress x
    | none => { tlp := x, refuse := refuseUnbound }
  else match targetOf t ingress x.ld with
    | some (v, b) => s.deviceRoute t v b ingress x
    | none => { tlp := x, refuse := refuseUnbound }

/-! ### Posted Write Faults -/

/-- The hierarchy of a source edge and requester: its host port or a bound port is the edge, and its bus range holds
the requester ID (R322). -/
def State.sourceVh (s : State) (edge req : Nat) : Option Nat :=
  (List.range 64).find? (fun v =>
    let h := s.hier v
    decide (h.busNo ≤ req / 256 ∧ req / 256 ≤ max h.up.subordinate h.busNo) &&
      ((match s.portOfVh v with
        | some p => decide (s.edgeOfPortIn s.ep.live p = edge)
        | none => false) ||
       (bindings s.ep.live).any (fun x => decide (x.1 = v ∧ (bindKind x.2.2 = 1 ∨ bindKind x.2.2 = 2)) &&
         decide (s.edgeOfPortIn s.ep.live (bindPort x.2.2) = edge))))

/-- The record of a Posted Write Fault, its four 64-bit words from the lowest (R323). -/
def pwfRecord (kind src far req cause addr farStamp stamp : Nat) : List Nat :=
  [stamp, farStamp, addr / 4096 * 4096, kind * 2 ^ 56 + src % 4096 * 2 ^ 44 + far % 4096 * 2 ^ 32 + req % 65536 * 65536 + cause % 256 * 256]

/-- The source module's actions on a Posted Write Fault (R322, R324). DEDUCED: log entry 26. -/
def State.pwfLog (kind src far req cause addr farStamp : Nat) (s : State) : State :=
  match s.sourceVh src req with
  | none => (s.bump 0x4200 0xE).raise 205
  | some v =>
    let s1 := s.errRecord (s.domainOfVh v) (pwfRecord kind src far req cause addr farStamp s.ep.beat)
    (((s1.aerCorrectable v aerAdvisory).causeEvent v 1).bump 0x4200 0xD).raise 203

/-- A posted write from a source edge failed at this module, the far side (R320, R321): one report per edge, requester
and page within 64 beats; to this module's own edges it is logged here, and to another's it leaves by the write's own flow, with
the key kind of its cause (R237, R350). t is the tables of the write's entry epoch. -/
def State.pwfFail (t : Tbl Nat) (src label req addr cause : Nat) (s : State) : State :=
  if s.fab.pwfRecent.any (fun r => decide (r.edge = src ∧ r.reqId = req ∧ r.page = addr / 4096 ∧ s.ep.beat < r.beat + 64)) then
    s.bump 0x4200 0xC
  else
    let r : PwfRecord := { edge := src, reqId := req, page := addr / 4096, beat := s.ep.beat }
    let s0 := { s with fab := { s.fab with pwfRecent := r :: s.fab.pwfRecent.filter (fun r => decide (s.ep.beat < r.beat + 64)) } }
    let s1 := (s0.bump 0x4200 0xB).raise 202
    let e := s.edgeIn t src
    if (bit e 31 && decide (bits e 23 16 = s.moduleIn t)) || decide (src = s.moduleEdgeIn t) then
      s1.pwfLog 2 src (s.moduleEdgeIn t) req cause addr s.ep.beat
    else s1.fabricSend (s.moduleEdgeIn t) src (if 7 ≤ cause then 1 else 0) label (fun p => .pwf p src label req addr cause)

/-! ### Frame outcomes at the ingress -/

/-- Whether a TLP is posted (R209). -/
def posted (x : Tlp) : Bool := decide (x.op = .memWrite ∨ x.op = .message)
/-- Whether a TLP is a non-posted request (R209). -/
def nonPosted (x : Tlp) : Bool := !posted x && decide (x.op ≠ .completion)

/-- Hierarchy and bridge in which the ingress of a frame stands, under the tables of its entry epoch: a host port's, or that of the
bound target; for a frame of a management function, I16, the hierarchy of the host port it goes to (R23). -/
def State.ingressPlace (s : State) (f : Frame) : Option (Nat × Option Nat) :=
  let t := s.tablesOf f.tag
  match s.vhOfPortIn t (if f.ingress = 176 then f.egress else f.ingress) with
  | some v => some (v, none)
  | none => (targetOf t f.ingress f.near.ld).map (fun y => (y.1, some y.2))

/-- Log an uncorrectable error at the bridge or upstream port of a frame's ingress. -/
def State.aerAt (f : Frame) (e : Nat) (s : State) : State :=
  match s.ingressPlace f with
  | some (v, b) => s.aer v b e
  | none => s

/-- A posted write frame has failed on its way (R320), at an address. -/
def State.pwfFrame (f : Frame) (addr cause : Nat) (s : State) : State :=
  s.pwfFail (s.tablesOf f.tag) f.src f.flow f.near.reqId addr cause

/-- A frame is a non-posted request TLP, which is answered (R261). -/
def answered (f : Frame) : Bool := decide (f.kind = 0) && nonPosted f.near

/-- A frame that the rules treat as queued for a port whose link is down (R289, R333, R347): a request is answered with
an error unless its age was the reason, a posted one is counted at the port of its failed path and a write reported, anything else
is discarded. -/
def State.asLinkDown (f : Frame) (s : State) : State :=
  if f.kind ≠ 0 then s
  else if nonPosted f.near then
    (s.complete f.ingress f.src (answerOf f.near 4)).bump 0x40F0 0xD
  else if posted f.near then
    let s1 := match f.bucket with
      | some b => if f.refuse = refuseBucket then
          s.bump (0x3400 + pathPort (s.pathSetIn (s.tablesOf f.tag) (b / 64)) (s.effective (b / 64) (b % 64))) 0x29 else s
      | none => s
    if f.near.op = .memWrite ∧ f.refuse ≠ refuseAge then s1.pwfFrame f f.near.addr 4 else s1
  else s

/-- What the module does with a whole frame that its ingress refuses (R201, R240, R261, R274, R304, R333, R347, R516).
DESIGN CHOICE: log entry 8. -/
def State.refuseFrame (f : Frame) (s : State) : State :=
  let x := f.near
  if f.refuse = refuseUnbound then
    let s1 := (s.bump (0x3400 + f.ingress) 0x26).raise 197
    if answered f then s1.complete f.ingress f.src (answerOf x 1) else s1
  else if f.refuse = refuseAcs then
    let s1 := ((s.aerAt f aerAcs).bump (0x3400 + f.ingress) 0x28).raise 198
    if nonPosted x then s1.complete f.ingress f.src (answerOf x 4) else s1
  else if f.refuse = refuseWindow then
    let s1 := (s.bump 0x4200 5).raise 200
    if nonPosted x then s1.complete f.ingress f.src (answerOf x 1)
    else match s.ingressPlace f with
      | some (v, _) => s1.setFunc v (fun g => { g with aerUnc := g.aerUnc ||| 2 ^ aerUnsupported })
      | none => s1
  else if f.refuse = refuseLanding then
    let s1 := (s.bump 0x4200 6).raise 201
    if nonPosted x then s1.complete f.ingress f.src (answerOf x 1) else s1.pwfFrame f x.addr f.cause
  else if f.refuse = refuseIde then
    if nonPosted x then s.complete f.ingress f.src (answerOf x 1)
    else match s.ingressPlace f with
      | some (v, _) => s.aerCorrectable v aerAdvisory
      | none => s
  else if f.refuse = refuseRoute then
    if answered f then (s.aerAt f aerUnsupported).complete f.ingress f.src (answerOf x 1)
    else if f.kind = 0 then s.aerAt f aerUnsupported
    else s
  else if f.refuse = refuseUnreachable then ((s.asLinkDown f).bump 0x4400 0xA).raise 213
  else if f.refuse = refuseAge then ((s.asLinkDown f).bump 0x4400 8).raise 208
  else if f.refuse = refuseBucket then s.asLinkDown f
  else s

/-- Budget that a request is charged to (R281, R307). -/
def State.budgetFor (s : State) (f : Frame) : Budget :=
  if 160 ≤ f.ingress then .master
  else if s.trunkPort f.ingress then .trunk
  else match s.ingressPlace f with
    | some (v, _) => .vh v
    | none => .trunk

/-- Deadline of a request: the window's, the hierarchy's, the trunk budget's or the master's timeout (R283). -/
def State.timeoutFor (s : State) (f : Frame) (b : Budget) : Nat :=
  match f.window with
  | some w => (winFields (s.inTables (s.tablesOf f.tag) (0x4240 + w / 256) (w % 256))).timeout
  | none => match b with
    | .vh v => s.setting 0x40F3 v
    | .trunk => s.setting 0x40F0 0xB
    | .master => s.setting 0x8062 3

/-- A request needs a tracker entry: a forwarded non-posted request, and a CXL.mem write (R255, R278, R285). -/
def needsEntry (f : Frame) : Bool :=
  if f.kind = 3 then !f.response && decide (f.tlp.op = .memRead ∨ f.tlp.op = .memWrite)
  else decide (f.kind = 0) && nonPosted f.near && decide (f.egress < 160)

/-- A Local far port assigns a far tag: a window of kind 0 or 2 (R308). -/
def State.wantsFarTag (s : State) (f : Frame) : Bool :=
  f.window.isSome && !s.trunkPort f.egress && decide (f.egress < 160)

/-- The Expired entry that holds a request's identity back (R287). -/
def State.reuseBlocked (s : State) (f : Frame) : Bool :=
  f.window.isNone && !s.trunkPort f.ingress &&
    s.fab.track.any (fun t => t.expired && decide (t.reqPort = f.ingress ∧ t.reqId = f.near.reqId ∧ t.tagNo = f.near.tagNo))

/-- Give a request its entry and make its frame eligible; over a trunk it carries the entry's index (R278, R349). -/
def State.grantEntry (f : Frame) (b : Budget) (far : Option Nat) (s : State) : State :=
  let i := s.freeIndex
  let trunkOut := s.trunkPort f.egress
  let s1 := s.allocTrack {
    budget := b, reqPort := f.ingress, cplPort := f.egress, reqLd := f.near.ld, cplLd := f.tlp.ld, reqId := f.near.reqId, tagNo := f.near.tagNo,
    farTag := far, window := f.window, remaining := f.near.len, addr := f.tlp.addr,
    write := decide (f.kind = 3 ∧ f.tlp.op = .memWrite), cxlMem := decide (f.kind = 3), read := decide (f.near.op = .memRead),
    deadline := s.ep.beat + s.timeoutFor f b, xid := f.near.xid, edge := f.src }
  s1.setFrame f.id (fun g => { g with
    checked := true
    tlp := { g.tlp with tagNo := far.getD g.tlp.tagNo, xid := if trunkOut then some i else none } })

/-- A frame's request under a cap of zero is completed at once by steps 1 and 2 of R285, and takes no entry (R689). -/
def State.refuseEntry (f : Frame) (s : State) : State :=
  let e : Track := { budget := s.budgetFor f, reqPort := f.ingress, reqId := f.near.reqId, tagNo := f.near.tagNo, remaining := f.near.len,
                     write := decide (f.tlp.op = .memWrite), cxlMem := decide (f.kind = 3), xid := f.near.xid, edge := f.src,
                     cplPort := f.egress }
  let s1 := s.reportEntry e
  let s2 := match s.exitBridge e with
    | some (v, br) => s1.aer v br aerAbort
    | none => s1
  s2.dropFrame f.id

/-- A host's CXL.mem request under a cap of zero is completed at once in the same way (R285, R689). -/
def State.refuseMem (host tag : Nat) (write : Bool) (s : State) : State :=
  let p := (s.portOfVh host).getD 176
  ((s.emitOn p (.memAnswer p tag write true)).aer host none aerAbort).ifDo write (State.aer host none aerInternal)

/-- Try to allocate the entry of a request whose checks have passed: grant it, make it wait, or refuse it under a cap of
zero (R278, R281, R287, R308, R689). -/
def State.seekEntry (f : Frame) (s : State) : State :=
  let b := s.budgetFor f
  let t := s.tablesOf f.tag
  if s.budgetCapIn t b = 0 then s.refuseEntry f
  else
    let wait (far reuse : Bool) (s : State) : State :=
      { s with fab := { s.fab with waiting := s.fab.waiting ++ [{ frame := f.id, budget := b, farTag := far, reuse := reuse }] } }
    if s.reuseBlocked f then (wait false true s).bump 0x40F0 0xA
    else if (s.fab.waiting.any (fun w => decide (w.budget = b) && !w.farTag && !w.reuse)) || !s.budgetOpenIn t b then wait false false s
    else if s.wantsFarTag f then
      match (if s.fab.waiting.any (fun w => w.farTag && match s.frame w.frame with
          | some g => decide (g.egress = f.egress)
          | none => false) then none else s.farTagFree f.egress) with
      | some g => s.grantEntry f b (some g)
      | none => wait true false s
    else s.grantEntry f b none

/-- Discard held window prefetch data (R312). -/
def State.discardHold (h : Hold) (s : State) : State :=
  let s1 := { s with fab := { s.fab with holds := s.fab.holds.filter (fun x => decide (x ≠ h)) } }
  if h.ready && !h.used then (s1.bump 0x4200 0xA).raise 204 else s1

/-- Prefetch depth in bytes (R297). -/
def prefetchBytes (p : Nat) : Nat := if p = 0 then 0 else 256 * 2 ^ p

/-- A demand request through a window meets held data (R312): a read wholly within it is served from it; a partial read
or an overlapping write discards it. -/
def State.meetHolds (f : Frame) (s : State) : Bool × State :=
  match f.window with
  | none => (false, s)
  | some w =>
    let a := f.tlp.addr
    match s.fab.holds.find? (fun h => decide (h.window = w) && h.ready && decide (a < h.start + h.len ∧ h.start < a + f.near.len)) with
    | none => (false, s)
    | some h =>
      if f.tlp.op = .memRead ∧ h.start ≤ a ∧ a + f.near.len ≤ h.start + h.len then
        let s1 := { s with fab := { s.fab with holds := s.fab.holds.map (fun x => if x = h then { x with used := true } else x) } }
        let cpl := match s.ingressPlace f with
          | some (v, _) => s.functionId v
          | none => 0
        (true, ((s1.complete f.ingress f.src { answerOf f.near 0 with cplId := cpl }).bump 0x4200 9).dropFrame f.id)
      else (false, s.discardHold h)

/-- The prefetch read of a window as it leaves: as a request of the demand read's requester through the window, from an address
(R305, R311). -/
def State.prefetchRead (s : State) (w : Win) (e : Track) (start len tag : Nat) : Tlp :=
  { s.throughWindow s.ep.live w 0 ((routeFor s.ep.live w.group e.reqId).getD 0) { op := .memRead, reqId := e.reqId } with
    addr := start, len := len, tagNo := tag }

/-- Issue the prefetch that a successful demand read of a window triggers (R311), on the demand read's path. It needs an entry
without waiting, and the window's own place unmoved since the read. -/
def State.windowPrefetch (e : Track) (s : State) : State :=
  match e.window with
  | none => s
  | some n =>
    let w := winFields (s.live (0x4240 + n / 256) (n % 256))
    let start := e.addr + e.remaining
    let stop := w.farBase + 4096 * w.pages
    let len := min (prefetchBytes w.prefetch) (stop - start)
    if e.read = true ∧ w.kind ≠ 2 ∧ w.readSafe = true ∧ len ≠ 0 ∧ w.pages ≠ 0 ∧ w.farBase ≤ e.addr ∧ s.budgetOpen (.vh w.nearVh) = true ∧
        ¬ s.fab.waiting.any (fun x => decide (x.budget = .vh w.nearVh) && !x.farTag && !x.reuse) = true ∧
        (e.farTag.isSome = true → (s.farTagFree e.cplPort).isSome = true) ∧
        ¬ s.fab.holds.any (fun h => decide (h.window = n)) = true ∧ ((len + 255) / 256 : Int) ≤ s.sharedFree ∧ ¬ e.prefetch = true then
      let far := if e.farTag.isSome then s.farTagFree e.cplPort else none
      let s1 := s.allocTrack { e with prefetch := true, expired := false, addr := start, remaining := len,
                                      farTag := far, deadline := s.ep.beat + w.timeout, xid := none }
      let h : Hold := { window := n, start := start, len := len }
      let s2 := { s1 with fab := { s1.fab with holds := s1.fab.holds ++ [h] } }
      let req := s.prefetchRead w e start len (far.getD e.tagNo)
      let o : Out := if s.trunkPort e.cplPort then
          .edgeTlp e.cplPort (bits ((routeFor s.ep.live w.group e.reqId).getD 0) 35 24) { req with xid := some s.freeIndex }
        else .tlp e.cplPort req
      (s2.bump 0x4200 8).emitOn e.cplPort o
    else s

/-! ### Master requests (R553, R554) -/

/-- Outstanding master entries into the memory of a hierarchy. -/
def State.masterOfVh (s : State) (v : Nat) : Nat := (s.fab.track.filter (fun t => decide (t.budget = .master ∧ t.mvh = some v))).length
/-- Outstanding master entries made for an instance. -/
def State.masterOfInst (s : State) (i : Nat) : Nat := (s.fab.track.filter (fun t => decide (t.budget = .master ∧ t.minst = some i))).length

/-- Tags that the module may use on a host's port (R553). -/
def State.masterTagSpace (s : State) (v : Nat) : Nat :=
  let f := s.func v
  let flit := match s.portOfVh v with
    | some p => (s.port p).flit
    | none => false
  if flit && f.tag14 then 2 ^ 14 else if f.tag10 then 2 ^ 10 else 2 ^ 8

/-- Every cap allows one more master request (R554), and a tag is free (R553). -/
def State.masterOpen (s : State) (vh inst : Option Nat) : Bool :=
  s.budgetOpen .master &&
    (match vh with
      | some v => decide (s.masterOfVh v < s.live 0x8061 v) && decide (s.masterOfVh v < s.masterTagSpace v)
      | none => true) &&
    (match inst with
      | some i => decide (s.masterOfInst i < s.live 0x8062 2)
      | none => true)

/-- Tag of the configuration read of a register of an unbound device; the read's requester ID is 0 (R262). DESIGN CHOICE: log
entry 49. -/
def identTag (register : Nat) : Nat := 1022 + register / 8

/-- Give a master request its entry and send it (R554, R555). -/
def State.masterGo (m : Master) (s : State) : State :=
  let s1 := s.allocTrack { budget := .master, mvh := m.vh, minst := m.inst, cplPort := m.port, reqPort := 176, addr := m.addr,
                           remaining := m.len, write := m.write, deadline := s.ep.beat + s.setting 0x8062 3, config := m.config
                           tagNo := if m.config then identTag m.addr else (m.vh.map s.masterTag).getD 0 }
  match m.vh with
  | some v => s1.emitHost v (s.readOut v m.inst m.addr m.len)
  | none => s1.emitOn m.port m.out

/-- Two master requests wait in the same queue: of one instance, of one hierarchy, or of the pools (R554). -/
def sameQueue (a b : Master) : Bool :=
  match a.inst, b.inst with
  | some i, some j => decide (i = j)
  | none, none => decide (a.vh = b.vh)
  | _, _ => false

/-- Issue a master request: at once where every cap allows it and none waits before it, else in its queue (R554). Under a
cap of zero it is not issued (R689). -/
def State.masterIssue (m : Master) (s : State) : State :=
  if s.masterZero m.vh m.inst then s
  else if s.masterOpen m.vh m.inst && !s.host.masterWait.any (sameQueue m) then s.masterGo m
  else { s with host := { s.host with masterWait := s.host.masterWait ++ [m] } }

/-- A master request has been answered: its entry frees (R280). -/
def State.masterDone (port addr : Nat) (write : Bool) (s : State) : State :=
  match s.fab.track.find? (fun t => decide (t.budget = .master ∧ t.cplPort = port ∧ t.addr = addr) && (t.write == write) &&
      !t.expired && !t.config) with
  | some t => s.freeTrack t.index
  | none => s

/-- Read host memory for a hierarchy's function or for an instance (R551, R553). -/
def State.readHost (v : Nat) (inst : Option Nat) (addr len : Nat) (s : State) : State :=
  s.masterIssue { vh := some v, inst := inst, port := (s.portOfVh v).getD 176, addr := addr, len := len, out := s.readOut v inst addr len }

/-- Read a register of function 0 of an unbound device, with a Type 0 configuration read (R262). -/
def State.readIdent (p register : Nat) (s : State) : State :=
  s.masterIssue { port := p, addr := register, len := 4, config := true,
                  out := .tlp p { op := .config, cfg0 := true, addr := register, len := 4, tagNo := identTag register } }

/-- The answer to such a read: register 0 holds the Device and Vendor IDs, register 8 the class code in its upper 24 bits (R262).
PRESUMED: log entry 6. -/
def State.takeIdent (p register data : Nat) (s : State) : State :=
  s.setSlot p (fun x => { x with ident :=
    if register = 0 then x.ident / 2 ^ 32 * 2 ^ 32 + data % 2 ^ 32 else bits data 31 8 * 2 ^ 40 + x.ident % 2 ^ 32 })

/-! ### Messages that end in the module (R191, R254; the codes are the PCIe Base Specification's, log entry 6) -/

/-- Bindings of a hierarchy in the live tables: bridge and entry. -/
def State.bindingsOf (s : State) (v : Nat) : List (Nat × Nat) :=
  ((bindings s.ep.live).filter (fun x => decide (x.1 = v))).map (·.2)

/-- The downstream ports bound whole to a hierarchy. -/
def State.portsBelow (s : State) (v : Nat) : List Nat :=
  ((s.bindingsOf v).filter (fun b => decide (bindKind b.2 = 1))).map (fun b => bindPort b.2)

/-- The port of a hierarchy's host in a message's way up, if its link is up. -/
def State.messageUp (v : Nat) (x : Tlp) (s : State) : State :=
  match s.portOfVh v with
  | some p => if s.linkActive p then s.emitOn p (.tlp p x) else s
  | none => s

/-- A message from a host: one that the root broadcasts goes to every bound port, and a PTM response to the port whose request is
the oldest (R191). PRESUMED: log entry 6. -/
def State.hostMessage (v : Nat) (x : Tlp) (s : State) : State :=
  if x.msgRoute = 3 then s.each ((s.portsBelow v).filter (fun q => s.linkActive q)) (fun q s => s.emitOn q (.tlp q x))
  else if x.msg = 0x53 then
    match (s.hier v).ptmWait with
    | [] => s
    | (q, r) :: rest => (s.setHier v (fun h => { h with ptmWait := rest })).emitOn q (.tlp q { x with reqId := r })
  else s

/-- A message of a bound device: an INTx message is passed to the host swizzled by the device number of its bridge, and a PTM
request is passed on (R191). PRESUMED: log entry 6. -/
def State.deviceMessage (v b p : Nat) (x : Tlp) (s : State) : State :=
  if 0x20 ≤ x.msg ∧ x.msg < 0x28 then s.messageUp v { x with msg := x.msg / 4 * 4 + (x.msg + b / 8) % 4 }
  else if x.msg = 0x52 then (s.setHier v (fun h => { h with ptmWait := h.ptmWait ++ [(p, x.reqId)] })).messageUp v x
  else s

/-- A message frame whose route ends in the module (R191, R254). -/
def State.localMessage (f : Frame) (s : State) : State :=
  match s.ingressPlace f with
  | some (v, none) => s.hostMessage v f.near
  | some (v, some b) => s.deviceMessage v b f.ingress f.near
  | none => s

end Sys2Proof.Machine
end

