-- ==== Sys2Proof/Machine/HostRegs.lean ====
section
/-!
DEFINITION. What a host's memory access to the registers of its management function meets: the map of BAR0 and of the
instance pages of BAR2, and the accesses that a register accepts (R527 to R542).
-/

namespace Sys2Proof.Machine

/-- A register that an offset lies in: its place and size in bytes, what it reads, and whether a write of 4 B to one half of it
is accepted (R527, R538). -/
structure RegCell where
  start : Nat
  size : Nat
  value : Nat := 0
  halves : Bool := true
deriving DecidableEq, Repr

/-- The register of a row of registers, one every so many bytes, that an offset lies in. -/
def rowCell (base step size count : Nat) (value : Nat → Nat) (off : Nat) : Option RegCell :=
  let n := (off - base) / step
  if base ≤ off ∧ n < count ∧ (off - base) % step < size then some { start := base + step * n, size := size, value := value n } else none

/-- An entry of the channel table (R315). DEDUCED: log entry 45. -/
def State.channelIn (s : State) (t : Tbl Nat) (c : Nat) : Nat := s.inTables t (0x42C0 + c / 256) (c % 256)

/-- What a register of a channel reads in a management function: zero, unless the channel is enabled and the function is its
target's (R536). -/
def State.channelReads (s : State) (v c : Nat) (value : Channel → Nat) : Nat :=
  let e := s.channelIn s.ep.live c
  if bit e 63 && decide (bits e 56 51 = v) then value (s.fab.channels.look c {}) else 0

/-- A store vector is reachable in BAR0 of a hierarchy: it lies in the range of a valid instance of the hierarchy (R542). -/
def State.storeReachable (s : State) (v k : Nat) : Bool :=
  match s.instOfVector k with
  | some i => decide ((s.instD i).vh = v)
  | none => false

/-- The low half of a store entry (R542). -/
def Vector.low (x : Vector) : Nat :=
  x.data * 2 ^ 32 + x.masked.toNat * 2 ^ 31 + x.pending.toNat * 2 ^ 30 + x.modCount * 2 ^ 16 + x.modTimer

/-- The pending bits of 64 vectors, from the first of them (R528). -/
def pendingBits (pending : Nat → Bool) (first : Nat) : Nat :=
  ((List.range 64).map (fun n => if pending (first + n) then 2 ^ n else 0)).sum

/-- What cmd_status of a slot reads (R531). -/
def CmdSlot.status (x : CmdSlot) : Nat := x.busy.toNat * 2 ^ 63 + x.done.toNat * 2 ^ 62 + x.result * 2 ^ 32 + x.value

/-- The registers of BAR0 (R528, R529, R531, R534, R536, R541, R542). The tables are read in cells of 8 B; a ring register reads zero.
DEDUCED: log entry 51. -/
def State.bar0Cell (s : State) (v off : Nat) : Option RegCell :=
  let f := s.func v
  let vec (n : Nat) : Vector := s.vec false (v * 64 + n)
  let store (k value : Nat) : Nat := if s.storeReachable v k then value else 0
  [rowCell 0 8 8 1 (fun _ => v + 2 ^ 8 * s.domainOfVh v),
   rowCell 0x10 4 4 1 (fun _ => f.cause),
   rowCell 0x20 8 8 1 (fun _ => f.errqBase),
   rowCell 0x28 4 4 3 (fun n => if n = 0 then f.errqLog2 else if n = 1 then f.errqProducer else f.errqConsumer),
   rowCell 0x800 8 8 128 (fun n => (f.slots.look (n / 8) {}).regs.look (n % 8) 0),
   rowCell 0xC00 8 8 16 (fun n => (f.slots.look n {}).status),
   rowCell 0x1000 4 4 1 (fun _ => f.mboxBusy.toNat * 2 ^ 30 + f.respReady.toNat * 2 ^ 29 + f.reqLen * 2 ^ 16 + f.respLen),
   rowCell 0x2000 8 8 512 (fun n => f.request.look n 0),
   rowCell 0x3000 8 8 512 (fun n => Config.messageWord f.resp n % 2 ^ 64),
   rowCell 0x4000 8 8 128 (fun n =>
     let x := vec (n / 2)
     if n % 2 = 0 then x.addr else x.data + x.masked.toNat * 2 ^ 32),
   rowCell 0x5000 8 8 1 (fun _ => pendingBits (fun n => (vec n).pending) 0),
   rowCell 0x6000 4 4 64 (fun n => (vec n).modCount * 2 ^ 16 + (vec n).modTimer),
   rowCell 0x10000 4 4 1024 (fun _ => 0),
   rowCell 0x11000 4 4 1024 (fun c => s.channelReads v c (·.status)),
   rowCell 0x12000 4 4 1024 (fun c => s.channelReads v c (·.mask)),
   rowCell 0x20000 8 8 16384 (fun n =>
     let x := s.vec true (n / 2)
     store (n / 2) (if n % 2 = 0 then x.low else x.addr)),
   rowCell 0x40000 8 8 128 (fun n => pendingBits (fun k => s.storeReachable v k && (s.vec true k).pending) (64 * n))].findSome? (fun r => r off)

/-- The instance whose page set lies in a slot of BAR2 (R537). -/
def State.instOfSlot (s : State) (v slot : Nat) : Option Nat :=
  s.validInsts.find? (fun i => decide ((s.instD i).vh = v ∧ (s.instD i).slot = slot))

/-- The registers of BAR2 (R537, R538); the page of an instance that is absent or not Active reads zero but for its reset control
(R504). DEDUCED: log entry 51. -/
def State.bar2Cell (s : State) (v off : Nat) : Option RegCell :=
  let x := match s.instOfSlot v (off / 2 ^ 16) with
    | some i => s.inst i
    | none => {}
  let page (value : Nat) : Nat → Nat := fun _ => if x.state = 2 then value else 0
  ([fun o => (rowCell 0 8 8 1 (fun _ => 0) o).map (fun c => { c with halves := false }),
    rowCell 0x100 4 4 1 (page x.evProducer),
    rowCell 0x104 4 4 1 (page x.evConsumer),
    rowCell 0x108 4 4 1 (page x.evLost),
    rowCell 0x200 4 4 1 (page x.idleHint.toNat),
    rowCell 0x300 4 4 1 (fun _ => 0),
    rowCell 0x304 4 4 1 (fun _ => x.resetStatus),
    rowCell 0x400 4 4 1 (fun _ => 0),
    rowCell 0x404 4 4 1 (page ((!x.swapAsked && !x.swapping).toNat + 2 * x.overflow.toNat + 4 * x.activeMap))].findSome? (fun r => r (off % 2 ^ 16))).map
      (fun c => { c with start := off / 2 ^ 16 * 2 ^ 16 + c.start })

/-- The offset of an address in BAR0 or BAR2, whether it is BAR0, and the register there. -/
def State.barCell (s : State) (v addr : Nat) : Nat × Option RegCell :=
  let f := s.func v
  if f.bar0 ≤ addr ∧ addr < f.bar0 + 2 ^ 19 then (addr - f.bar0, s.bar0Cell v (addr - f.bar0))
  else (addr - f.bar2, s.bar2Cell v (addr - f.bar2))

/-- A register accepts an access at an offset: its own size, or 4 B of either half of a register of 8 B (R527, R538). -/
def RegCell.accepts (c : RegCell) (write : Bool) (off len : Nat) : Bool :=
  decide (off = c.start ∧ len = c.size) ||
    (decide (c.size = 8 ∧ len = 4 ∧ (off = c.start ∨ off = c.start + 4)) && !(write && !c.halves))

/-- The completion of an access to a register of a management function, with a status and the value read. -/
def State.barDone (v status value : Nat) (f : Frame) (s : State) : State :=
  s.complete f.ingress f.src { answerOf f.near status with cplId := s.functionId v, payload := value }

/-- A memory request of a host to BAR0 or BAR2 (R527): a read of a form that its register accepts is completed with the value; a
read of any other form ends in Completer Abort, a write of one is discarded, and both are counted. What an accepted write does is
the command of its register. An offset that holds no register reads zero and ignores writes. DESIGN CHOICE: log entry 51. -/
def State.barAccess (v : Nat) (f : Frame) (s : State) : State :=
  let x := f.near
  let at_ := s.barCell v x.addr
  match at_.2 with
  | some c =>
    if x.op ≠ .atomic ∧ c.accepts (decide (x.op = .memWrite)) at_.1 x.len = true then
      s.ifDo (decide (x.op = .memRead)) (State.barDone v 0 (c.value / 2 ^ (8 * (at_.1 - c.start)) % 2 ^ (8 * x.len)) f)
    else ((s.bump 0x8063 v).raise 371).ifDo (nonPosted x) (State.barDone v 4 0 f)
  | none =>
    if x.op = .atomic then ((s.bump 0x8063 v).raise 371).barDone v 4 0 f
    else s.ifDo (decide (x.op = .memRead)) (State.barDone v 0 0 f)

end Sys2Proof.Machine
end

