-- ==== Sys2Proof/Machine/TrunkLink.lean ====
section
/-!
DEFINITION. Shared operations of the trunk's link layer (chapter 10): round-trip time and headroom, on/off flow
control, acknowledgement and replay, and the loss of a path.
-/

namespace Sys2Proof.Machine

/-- The lanes of a port that carry data, in logical order: the physical order, or its reverse (R161, R185). -/
def State.lanesInUse (s : State) (p : Nat) : List Nat :=
  let l := (s.lanesOf p).filter (fun l => decide ((s.lane l).state = 5))
  if (s.port p).reversed then l.reverse else l

/-- RTT_m in ns: the largest of the last 16 measurements, 1,000 before the first (R354). -/
def State.rtt (s : State) (p : Nat) : Nat :=
  match (s.trunk p).measures with
  | [] => 1000
  | l => l.foldl max 0

/-- Headroom H in cells: 10 × ceil(RTT_m ÷ t_flit) + 17, with t_flit of 2,176 ÷ (rate × width) ns (R354). -/
def State.headroom (s : State) (p : Nat) : Nat :=
  let n := s.rtt p * (rate2 (s.port p).rate * widthLanes (s.port p).width)
  10 * ((n + 4351) / 4352) + 17

/-- Free cells of a trunk port's reservation in a class (R352). -/
def State.freeRes (s : State) (p c : Nat) : Nat := s.reservationIn s.ep.live p c - s.reservedOf p c false

/-- One partition's new on/off state from its bound and its level: off below the bound, on above the bound and the
hysteresis, else as it was (R352). -/
def onoffNext (was : Bool) (low high level : Int) : Bool :=
  if level < low then false else if high ≤ level then true else was

/-- The receive on/off state of a trunk port (R352, R354): every partition is off until the first measurement. -/
def State.onoffEval (p : Nat) (s : State) : State :=
  let t := s.trunk p
  if t.fresh then s.setTrunk p (fun t => { t with own := 0 })
  else
    let h : Int := s.headroom p
    let req : Int := min (s.freeRes p 0) (s.freeRes p 1)
    let rsp : Int := s.freeRes p 2
    let b : Int := s.setting 0x4400 6
    let bulk (i : Nat) : Bool := decide (b = 0) || onoffNext (t.own.testBit i) b (b + 2048) s.sharedFree
    let v := (if onoffNext (t.own.testBit 3) h (h + 64) req then 8 else 0) + (if bulk 2 then 4 else 0) +
      (if onoffNext (t.own.testBit 1) h (h + 64) rsp then 2 else 0) + (if bulk 0 then 1 else 0)
    s.setTrunk p (fun t => { t with own := v })

/-- H exceeds a reservation less 64 in L0, L1 or L2 (R355). -/
def State.exceeds (s : State) (p : Nat) : Bool :=
  (List.range 3).any (fun c => decide (s.reservationIn s.ep.live p c < s.headroom p + 64))

/-- Handle a frame queued for a port that is down as R289 tabulates: a request is completed to its requester, a posted
write is counted, or reported when it came through a window, and a completion or bulk frame is discarded. -/
def State.discardQueued (p : Nat) (f : Frame) (s : State) : State :=
  let s1 := s.dropFrame f.id
  if f.kind ≠ 0 then s1
  else if nonPosted f.near ∧ f.checked = false then (s1.complete f.ingress f.src (answerOf f.near 4)).bump 0x40F0 0xD
  else if posted f.near then
    let s2 := if p < 160 then s1.bump (0x3400 + p) 0x29 else s1
    if f.near.op = .memWrite ∧ f.window.isSome then s2.pwfFrame f f.tlp.addr 4 else s2
  else s1

/-- Complete and expire every Outstanding entry whose request left, or is queued to leave, through a port (R289, R369). -/
def State.failEntries (p : Nat) (s : State) : State :=
  let hit := s.fab.track.filter (fun t => !t.expired && decide (t.cplPort = p))
  s.each hit (fun t s => (((s.reportEntry t).expire t.index)).ifDo (!t.prefetch) (State.bump 0x40F0 0xD))

/-- Discard the requests from a port that wait for a tracker entry (R289). -/
def State.dropWaiting (p : Nat) (s : State) : State :=
  let mine (w : Waiting) : Bool := !w.inner && match s.frame w.frame with
    | some f => decide (f.ingress = p)
    | none => true
  let gone := s.fab.waiting.filter mine
  let s1 := { s with fab := { s.fab with waiting := s.fab.waiting.filter (fun w => !mine w) } }
  s1.each gone (fun w s => s.dropFrame w.frame)

/-- A trunk path fails: its buckets fail, its entries are completed, the requests from its port that wait are discarded,
and the frames queued for it are handled as link down (R240, R292). -/
def State.pathDown (p : Nat) (s : State) : State :=
  if s.core.pathFailed.look p false then s
  else
    let s1 := ((s.failPath p).failEntries p).dropWaiting p
    let queued := s1.core.frames.filter (fun f => decide (f.egress = p ∧ f.sent = 0))
    s1.each queued (fun f s => s.discardQueued p f)

/-- A frame begins with an item. -/
def TxItem.opens : TxItem → Bool
  | .word _ b _ => b
  | .abort => false

/-- The words that wait, without those of the frames that an acknowledgement of d frames after a number frees: a replay skips
them (R364). The rest of a frame whose first word is sent stays. -/
def skipFreed (ackSeq d : Nat) (l : List TxItem) : List TxItem :=
  l.takeWhile (fun i => !i.opens) ++ (l.dropWhile (fun i => !i.opens)).filter (fun i => match i with
    | .word q _ _ => decide (d < (q + 4096 - ackSeq) % 4096)
    | .abort => true)

/-- Apply an acknowledgement (R359): valid when it lies among the unacknowledged numbers; it frees every frame up to it,
resets the replay count and restarts the timer. -/
def State.applyAck (p a : Nat) (s : State) : State :=
  let t := s.trunk p
  let d := (a + 4096 - t.ackSeq) % 4096
  if 1 ≤ d ∧ d ≤ (t.ns + 4096 - 1 - t.ackSeq) % 4096 then
    s.setTrunk p (fun t =>
      let left := t.buffer.filter (fun f => decide (d < (f.seqNo + 4096 - t.ackSeq) % 4096))
      { t with buffer := left, ackSeq := a, replays := 0, timerOn := !left.isEmpty, tx := skipFreed t.ackSeq d t.tx })
  else s

/-- Age that a frame's header carries when it is sent now (R346). -/
def State.ageNow (s : State) (f : Frame) : Nat := min (f.age + (s.ep.beat - f.entered) + 1) 4095

/-- Count an event of a trunk port's link layer; the Garnet link, port 160, has no such counters (R616). -/
def State.linkCount (p j : Nat) (s : State) : State := if p < 160 then s.bump (0x3400 + p) j else s

/-- The header of a Garnet frame: kind, sequence number, number of body words, and its delta number or code (R618). -/
def garnetHeader (kind seq n info : Nat) : Nat :=
  let h := kind * 2 ^ 60 + seq * 2 ^ 48 + n * 2 ^ 40 + info * 2 ^ (if kind = 1 then 24 else 32)
  h + crc16 48 (h >>> 16)

/-- The check word of a Garnet frame's body (R618). -/
def garnetCheck (body : List Nat) : Nat := crc32 (64 * body.length) (ofWords body) * 2 ^ 32

/-- The words of a Garnet frame: header, body and check word (R618). -/
def Garnet.words (f : Garnet) : List Nat :=
  garnetHeader f.kind f.seq f.body.length f.info :: f.body ++ [garnetCheck f.body]

/-- Sequence number in a Garnet frame's header (R618). -/
def garnetSeq (h : GarnetHead) : Nat := bits h.header.toNat 59 48

/-- The header of a Garnet frame passes its CRC (R618). -/
def garnetHeaderOk (h : GarnetHead) : Bool := decide (crc16 48 (h.header.toNat >>> 16) = bits h.header.toNat 15 0)

/-- A Garnet frame is good: its header passes its CRC, and its check word is that of its body (R618). -/
def garnetOk (h : GarnetHead) (body : List Nat) : Bool := garnetHeaderOk h && decide (h.check.toNat = garnetCheck body)

/-- What the header of a Garnet frame says where it can be read: the kind, the length and, of a control message, the code (R618). -/
def garnetSpells (h : GarnetHead) (kind code : Nat) (body : List Nat) : Bool :=
  !garnetHeaderOk h || decide (bits h.header.toNat 63 60 = kind ∧ bits h.header.toNat 47 40 = body.length ∧
    (kind = 3 → bits h.header.toNat 39 32 = code))

/-- Put a Garnet frame into the flits of the Garnet link (R618). -/
def State.garnetEmit (f : Garnet) (s : State) : State :=
  s.setTrunk 160 (fun t => { t with tx := t.tx ++ txItems f.seq true f.words })

/-- Send a Garnet frame (R616, R357): it takes the next number and stays in the replay buffer until it is acknowledged; at
most 2,048 frames are out at a time. Nothing is sent while the link is down. -/
def State.garnetSend (kind info : Nat) (body : List Nat) (upto : Nat) (s : State) : State :=
  let t := s.trunk 160
  if t.sender = .down then s
  else
    let f : Garnet := { seq := t.ns, kind := kind, info := info, body := body, upto := upto }
    let open_ := decide (t.sender ≠ .retraining) && decide (s.twin.unacked.length < 2048)
    let s1 : State := { s with twin := { s.twin with unacked := s.twin.unacked ++ [f] } }
    (s1.setTrunk 160 (fun t => { t with ns := (t.ns + 1) % 4096, timerOn := true })).ifDo open_ (State.garnetEmit f)

/-- Number of Garnet frames that an acknowledgement covers, 0 where it is not valid (R359). -/
def State.garnetCovered (s : State) (a : Nat) : Nat :=
  let d := (a + 4096 - (s.trunk 160).ackSeq) % 4096
  if d ≤ min 2048 s.twin.unacked.length then d else 0

/-- The twin acknowledges Garnet frames (R359, R621): they leave the replay buffer, frames that waited for the window are
sent, and the messages held for their records are released. -/
def State.garnetAck (a : Nat) (s : State) : State :=
  let d := s.garnetCovered a
  if d = 0 then s
  else
    let gone := s.twin.unacked.take d
    let left := s.twin.unacked.drop d
    let s1 : State := { s with twin := { s.twin with unacked := left, acked := gone.foldl (fun n f => max n f.upto) s.twin.acked } }
    let s2 := s1.setTrunk 160 (fun t => { t with ackSeq := a, replays := 0, timerOn := !left.isEmpty, tx := skipFreed t.ackSeq d t.tx })
    (s2.ifDo (decide ((s.trunk 160).sender ≠ .retraining)) (fun s => s.each ((left.take 2048).drop (2048 - d)) State.garnetEmit)).releaseHeld

/-- Nothing is unacknowledged on a trunk port or the Garnet link. -/
def State.nothingOut (s : State) (p : Nat) : Bool := if p = 160 then s.twin.unacked.isEmpty else (s.trunk p).buffer.isEmpty

/-- A frame is in transmission at a trunk port; no Garnet frame spans two flits (R616). -/
def State.sendingFrame (s : State) (p : Nat) : Bool := decide (p < 160) && decide (s.core.xmit.look p 0 ≠ 0)

/-- Resend every unacknowledged frame, oldest first, with its age of now, after the frame whose words are on their way
(R346, R361). DESIGN CHOICE: log entry 10. -/
def State.resend (p : Nat) (s : State) : State :=
  let again := if p = 160 then (s.twin.unacked.take 2048).map (fun f => txItems f.seq true f.words)
    else (s.trunk p).buffer.map (fun f => txItems f.seqNo true (f.image f.seqNo (s.ageNow f)))
  s.setTrunk p (fun t => { t with tx := t.tx.takeWhile (fun i => !i.opens) ++ again.flatten })

/-- The link leaves stage 5 for a retrain (R363, R691): the frame in reception is bad, a whole frame in transmission stays
in the replay buffer, one that is not whole leaves it and is sent again whole. -/
def State.trunkRetrain (p : Nat) (s : State) : State :=
  let s1 : State := match (s.trunk p).rxFrame with
    | some id => (s.frameBad id).setTrunk p (fun t => { t with rxFrame := none })
    | none => s
  let s2 : State := match s1.core.frames.find? (fun f => decide (p < 160 ∧ s1.core.xmit.look p 0 = f.id + 1)) with
    | some f =>
      let cut := { s1 with core := { s1.core with xmit := s1.core.xmit.del p } }
      if f.formed = f.cells then cut.dropFrame f.id
      else ((cut.emit (.cut p f.id)).setTrunk p (fun t => { t with ns := f.seqNo, buffer := t.buffer.filter (fun g => decide (g.id ≠ f.id)) })).setFrame
        f.id (fun g => { g with cutThrough := false, sent := 0 })
    | none => s1
  if (s2.trunk p).sender = .down then s2
  else s2.setTrunk p (fun t => { t with sender := .retraining, timerOn := false, rxMode := .lost, rxWords := [], tx := [] })

/-- Replay (R361), or the retrain of R363 when the count reaches its limit, 4 on the Garnet link (R616). A frame in transmission ends first (R691);
with nothing unacknowledged there is no replay. DESIGN CHOICE: log entry 10. -/
def State.replay (p now : Nat) (s : State) : State :=
  let t := s.trunk p
  if s.nothingOut p then s
  else if s.sendingFrame p then s.setTrunk p (fun t => { t with retrainOwed := true })
  else
    let s1 := (s.linkCount p 0x46).raise 209
    if (if p = 160 then 4 else s.setting 0x4400 5) ≤ t.replays + 1 then
      let s2 := ((s1.trunkRetrain p).setTrunk p (fun t => { t with replays := 0, retrainOwed := false })).raise 210
      ((s2.setPort p (fun q => { q with stage := 3, stageSince := s.ep.beat, narrowSince := some s.ep.beat, state := 1 })).each
        (s.lanesOf p) (fun l s => s.setLane l (fun x => { x with state := if x.state = 5 then 3 else x.state, goodWords := 0, ready := false }))).scanCheck
    else
      (s1.setTrunk p (fun t => { t with sender := .replaying, replays := t.replays + 1, replayStart := now, timerOn := true, retrainOwed := false })).resend p

/-- The receiving end asks for a replay: once for each loss, and again only after RTT_m (R362, R365). -/
def State.askReplay (p now : Nat) (s : State) : State :=
  let t := s.trunk p
  let again := match t.replayReqAt with
    | some x => decide (x + s.rtt p ≤ now)
    | none => true
  if t.receiver = .inSync ∨ (t.receiver = .resync ∧ again = true) then
    (s.setTrunk p (fun t => { t with receiver := .resync, replayReq := true, replayReqAt := some now })).linkCount p 0x47
  else s

/-- The fields of the next control word, but for those that its words give (R335, R340, R354, R358); on the Garnet link side and
pair state stand in node_port and there is no on/off state (R617). -/
def State.controlOf (s : State) (p : Nat) : Control :=
  let t := s.trunk p
  { ackValid := t.accepted, ackSeq := if t.accepted then (t.es + 4095) % 4096 else 0, replayReq := t.replayReq
    onoff := if p = 160 then 0 else t.own, probe := if t.probeDue then t.probe else 0, probeEcho := t.probeEcho
    node := s.moduleIn s.ep.live, nodePort := if p = 160 then s.setting 0x9000 2 * 128 + s.twin.state.code * 16 else p, quiet := t.quietTx }

/-- The words of the next flit from those that wait, with first_start and abort_at, and what still waits (R340, R341, R366). A
Garnet frame does not span two flits (R616). -/
def packWords (whole : Bool) : List TxItem → Nat → Nat → Nat → List Nat × Nat × Nat × List TxItem
  | [], _, f, a => ([], f, a, [])
  | .abort :: r, n, f, a => if a = 31 then packWords whole r n f n else ([], f, a, .abort :: r)
  | .word q b v :: r, n, f, a =>
    if 30 ≤ n ∨ (whole && b && decide (30 < n + 1 + (r.takeWhile (fun i => !i.opens)).length)) = true then ([], f, a, .word q b v :: r)
    else
      let k := packWords whole r (n + 1) (if b ∧ f = 31 then n else f) a
      (v :: k.1, k.2)

/-- Send a flit with the current state of the receiving end and the words that wait (R336, R340); a one-time replay_req and probe
are then cleared, and a replay whose last word is sent is over (R361, R364). DESIGN CHOICE: log entry 10. -/
def State.sendFlit (p : Nat) (s : State) : State :=
  let t := s.trunk p
  let k := packWords (decide (p = 160)) t.tx 0 31 31
  let c : Control := { s.controlOf p with firstStart := k.2.1, abortAt := k.2.2.1, wordValid := 2 ^ k.1.length - 1 }
  let flit := bytesOf 16 (writeControl c) ++ (k.1.map (bytesOf 8)).flatten
  (s.emit (.flit p (wireOf (widthLanes (s.port p).width) flit))).setTrunk p (fun t => { t with
    replayReq := false, probeDue := false, tx := k.2.2.2
    sender := if t.sender = .replaying ∧ k.2.2.2.isEmpty then .sending else t.sender })

/-- A port's transmit direction carries flits. -/
def State.sendsFlits (s : State) (p : Nat) : Bool :=
  decide ((s.port p).stage = 5 ∧ ((s.trunk p).sender = .sending ∨ (s.trunk p).sender = .replaying)) && !(s.trunk p).quietTx

/-- The flits of a beat: at least one, and as many as the words that wait need (R336). DESIGN CHOICE: log entry 10. -/
def State.flushFlits (p : Nat) (s : State) : State :=
  if s.sendsFlits p then
    (s.sendFlit p).each (List.range (s.trunk p).tx.length) (fun _ s => if (s.trunk p).tx.isEmpty then s else s.sendFlit p)
  else s

/-- Nothing is queued for a trunk port, nothing is in transmission and no replay is due (R342). -/
def State.trunkIdle (s : State) (p : Nat) : Bool :=
  decide (s.queuedAt p = 0) && decide (s.core.xmit.look p 0 = 0) && !(s.trunk p).replayReq && !(s.trunk p).retrainOwed &&
    (s.trunk p).buffer.isEmpty && (s.trunk p).tx.isEmpty

/-- The control word of now, but for probe, probe_echo and quiet (R342). -/
def State.quietWord (s : State) (p : Nat) : Nat := writeControl { s.controlOf p with probe := 0, probeEcho := 0, quiet := false }

/-- The time for which a transmit direction has been idle starts again where it is not idle or its control word has changed
(R342). -/
def State.quietCheck (p : Nat) (s : State) : State :=
  if s.trunkIdle p ∧ s.quietWord p = (s.trunk p).lastWord then s
  else s.setTrunk p (fun t => { t with lastWord := s.quietWord p, idleSince := s.ep.beat })

/-- Next round-trip probe value: 1 to 255 (R340, R354). -/
def nextProbe (v : Nat) : Nat := if 255 ≤ v then 1 else v + 1

/-- The link layer when its port reaches stage 5 (R336, R354, R357, R358, R363 to R365): a first link up starts from the initial
values, with the first probe in its first flit; a retrain's end replays. -/
def State.trunkUp (p now : Nat) (s : State) : State :=
  let t := s.trunk p
  match t.sender with
  | .down =>
    let s0 : State := if p = 160 then { s with twin := { s.twin with unacked := [] } } else s
    (s0.setTrunk p (fun t => { t with
      sender := .sending, receiver := .inSync, ns := 0, ackSeq := 4095, replays := 0, es := 0, accepted := false, buffer := []
      timerOn := false, measures := [], fresh := true, own := 0, partner := 0, probe := nextProbe t.probe, probeAt := now
      probeEcho := 0, replayReq := false, replayReqAt := none, quietTx := false, quietRx := false
      rxFrame := none, rxMode := .between, rxWords := [], tx := [], probeDue := true, measured := false, idleSince := s.ep.beat, exceeds := false })).sendFlit p
  | .retraining =>
    if s.nothingOut p then s.setTrunk p (fun t => { t with sender := .sending })
    else (s.setTrunk p (fun t => { t with sender := .replaying })).replay p now
  | _ => s

/-- The link layer when its link is down: the replay buffer and the frame in reception are discarded (R364, R365, R368). -/
def State.trunkDown (p : Nat) (s : State) : State :=
  let s1 := match (s.trunk p).rxFrame with
    | some id => s.frameBad id
    | none => s
  let s1 : State := if p = 160 then { s1 with twin := { s1.twin with unacked := [] } } else s1
  s1.setTrunk p (fun t => { t with sender := .down, receiver := .down, buffer := [], timerOn := false, rxFrame := none,
                                   partner := 0, own := 0, replayReq := false, retrainOwed := false,
                                   rxMode := .between, rxWords := [], tx := [], probeDue := false, quietTx := false, quietRx := false })

/-- A partner's number pair differs from the expected one, or agrees again (R335). -/
def State.peerCheck (p : Nat) (s : State) : State :=
  let t := s.trunk p
  let want := s.portIn s.ep.live p 0x42
  let bad := decide (want ≠ 0xFFFF ∧ want ≠ t.peerModule * 256 + t.peerPort)
  let s1 := s.setTrunk p (fun t => { t with mismatch := bad })
  if bad && !t.mismatch then (s1.pathDown p).raise 211 else s1

/-- A new round-trip measurement (R354): H is computed again, and a reservation below it takes the path out of use
(R355). -/
def State.measure (p ns : Nat) (s : State) : State :=
  let was := (s.trunk p).exceeds
  let s1 := s.setTrunk p (fun t => { t with measures := (ns :: t.measures).take 16, fresh := false })
  let bad := decide (p < 160) && s1.exceeds p
  let s2 := s1.setTrunk p (fun t => { t with exceeds := bad })
  if bad && !was then (s2.pathDown p).raise 212 else s2

end Sys2Proof.Machine
end

