-- ==== Sys2Proof/WellFormed.lean ====
section
/-!
DEFINITION. Well-formedness of operand data: each field of a header or record lies in the width that the spec gives
it. A command whose data is not well formed names nothing that can reach the module, and changes nothing.
-/

namespace Sys2Proof

/-- A TLP header's fields are in range (R254, R279, R302, R349). -/
def Tlp.wf (t : Tlp) : Bool :=
  decide (t.addr < 2 ^ 64 ∧ t.len ≤ 4096 ∧ t.addr + t.len ≤ 2 ^ 64 ∧ t.reqId < 65536 ∧ t.tagNo < 2 ^ 14 ∧ t.cplId < 65536 ∧
    t.ld < 16 ∧ t.addrType < 4 ∧ t.status < 8 ∧ t.data < 2 ^ 32 ∧ t.msg < 256 ∧ t.msgRoute < 8 ∧ t.tc < 8 ∧ t.atop < 3 ∧ t.more < 4096 ∧
    t.payload < 2 ^ (8 * (t.len + 6))) &&
    (match t.pasid with | some p => decide (p < 2 ^ 20) | none => true) &&
    (match t.xid with | some x => decide (x < 2 ^ 18) | none => true)

/-- A Beryl frame's fields are in range (R456). -/
def BFrame.wf (f : BFrame) : Bool :=
  decide (f.op < 256 ∧ f.cls < 4 ∧ f.dstQp < 2 ^ 17 ∧ f.srcQp < 2 ^ 17 ∧ f.srcEdge < 4096 ∧ f.srcDomain < 4096 ∧ f.psn < 2 ^ 24 ∧
    f.tagNo < 65536 ∧ f.syndrome < 256 ∧ f.rkey < 2 ^ 32 ∧ f.addr < 2 ^ 64 ∧ f.length < 2 ^ 32 ∧ f.dataLen ≤ 4064 ∧
    f.data < 2 ^ (8 * f.dataLen))

/-- A work request's fields are in range (R440). -/
def Wr.wf (w : Wr) : Bool :=
  decide (w.op < 256 ∧ w.tagNo < 65536 ∧ w.trigKind < 256 ∧ w.trigValue < 2 ^ 32 ∧ w.execQp < 2 ^ 17 ∧ w.length < 2 ^ 32 ∧
    w.lkey < 2 ^ 32 ∧ w.rkey < 2 ^ 32 ∧ w.laddr < 2 ^ 64 ∧ w.raddr < 2 ^ 64 ∧ w.op1 < 2 ^ 64 ∧ w.op2 < 2 ^ 64 ∧ w.wrId < 2 ^ 64)

/-- A frame's head cell is in range: at most 17 cells, and 3 for a PCIe or CXL frame (R205). -/
def Head.wf (h : Head) : Bool :=
  decide (1 ≤ h.size ∧ h.size ≤ (if h.kind = 0 ∨ h.kind = 3 then 768 else 4352) ∧ h.kind ≤ 3 ∧ h.cls < 4 ∧ h.src < 4096 ∧ h.dst < 4096 ∧
    h.flow < 2 ^ 32 ∧ h.age < 4096 ∧ h.port < 177 ∧ h.cause < 256) && h.tlp.wf && h.beryl.wf && h.words.all (fun w => decide (w < 2 ^ 64))

/-- An ADP item's fields are in range, its value in the bytes of its length (R657). -/
def AdpItem.wf (x : AdpItem) : Bool :=
  decide (x.index < 65536 ∧ x.sub < 256 ∧ x.code < 256 ∧ x.len < 65536 ∧ x.value < 2 ^ (8 * x.len))

end Sys2Proof
end

