-- ==== Sys2Proof/Machine/Switch.lean ====
section
/-!
DEFINITION. The commands of the switch core and the shared buffer (chapter 07): frames that enter, are charged,
matched, cut through, stored, terminated and retired with their banks.
-/

namespace Sys2Proof.Machine

/-- Class of a frame (R209). -/
def headClass (h : Head) : Nat :=
  if h.kind = 1 then 4 + h.cls
  else if h.kind = 2 then 2
  else if h.kind = 3 then 3
  else if posted h.tlp then 0
  else if h.tlp.op = .completion then 2
  else 1

/-- A Beryl frame that is discarded on entry: of a contained domain, or for an instance being squashed (R513, R516). -/
def State.berylClosed (s : State) (h : Head) : Bool :=
  decide (h.kind = 1) && (s.isContained h.beryl.srcDomain ||
    ((s.beryl.qps.has h.beryl.dstQp) && (s.isContained (s.domainOfQp h.beryl.dstQp) ||
      decide ((s.inst (s.qp h.beryl.dstQp).inst).state = 4))))

/-- A port whose link IDE stream is not secure passes only configuration requests, with which DOE is reached, and their
completions (R198, R199). DEDUCED: log entry 25. -/
def State.ideClosed (s : State) (p : Nat) (h : Head) : Bool :=
  decide (p < 160) && decide ((s.port p).ide = 1 ∨ (s.port p).ide = 3) && decide (h.tlp.op ≠ .config ∧ h.tlp.op ≠ .completion)

/-- A logical device of a port is blocked by the DPC of its slice (R276). -/
def State.sliceBlocked (s : State) (p ld : Nat) : Bool := (s.slot p).blocked.testBit ld

/-- The domain of a bulk frame: the owner of the local queue pair that sends it or to which it goes; none in transit
(R231). -/
def State.bulkDomain (s : State) (ingress egress : Nat) (h : Head) : Option Nat :=
  if h.kind ≠ 1 then none
  else if 160 ≤ ingress then some (s.domainOfQp h.beryl.srcQp)
  else if 160 ≤ egress then some (s.domainOfQp h.beryl.dstQp)
  else none

/-- The frame that a head cell begins, before it is charged: its epoch, class and route (R23, R209, R210).
DESIGN CHOICE: log entry 12. -/
def State.newFrame (s : State) (ingress : Nat) (h : Head) : Frame :=
  let t := s.ep.live
  let r := s.route t ingress h
  let trunkIn := s.trunkPort ingress
  let egress := if r.refuse = 0 then r.egress else 176
  let cells := (h.size + 255) / 256
  let closed := s.berylClosed h || s.ideClosed ingress h || (decide (r.refuse = 0) && s.ideClosed egress h) || (decide (h.kind = 0 ∧ ingress < 160) && s.sliceBlocked ingress h.tlp.ld)
  let barred := decide (h.kind = 0 ∧ r.refuse = 0 ∧ egress < 160) && s.sliceBlocked egress r.tlp.ld
  { id := s.core.nextId, ingress := ingress, egress := egress, cls := headClass h, size := h.size,
    cells := cells, formed := 1, tag := s.ep.epoch % 4, domain := s.bulkDomain ingress egress h,
    response := h.response, relaxed := h.tlp.relaxed, ido := h.tlp.ido, marked := h.marked, poisoned := h.poisoned,
    words := if trunkIn || decide (h.kind = 2) then h.words else []
    src := if trunkIn then h.src else s.edgeOfPortIn t ingress, dst := r.dst, kind := h.kind,
    flow := if trunkIn || decide (h.kind = 1) then h.flow else tlpLabel h.tlp,
    age := if trunkIn then h.age else 0, entered := s.ep.beat, bucket := r.bucket, tlp := r.tlp, near := h.tlp,
    beryl := h.beryl, window := r.window, refuse := if closed then refuseContained else if barred then refuseBucket else r.refuse, cause := r.cause }

/-- Put a frame into its queue: its epoch is entered, a charged frame's banks are taken, its credits return at once when the
shared region took it, and its decision is counted; a request that needs a tracker entry is never cut through, since it is not
eligible without one (R23, R217, R229, R243, R278). -/
def State.takeIn (f : Frame) (s : State) : State :=
  let cut := s.cutThroughOk f && decide (f.refuse = 0) && !needsEntry f
  let banks := if f.charge = .waiting then ([], s.core.nextBank) else s.takeBanks f.cells s.core.nextBank []
  let s1 := (s.enterEpoch f.tag).bump 0x4010 (if cut then 1 else 2)
  let s2 := ({ s1 with core := { s1.core with
    frames := s1.core.frames ++ [{ f with cutThrough := cut, banks := banks.1 }]
    nextId := f.id + 1
    nextBank := banks.2 } }).useLink f.ingress |>.useLink f.egress
  if f.charge = .shared ∧ f.ingress < 160 ∧ s.portRole f.ingress ≠ 3 ∧ f.cls < 4 then
    s2.emit (.credit f.ingress f.cls 1 (creditUnits f.kind f.near))
  else s2

/-- A flow-control violation (R230, R356): the frame is not taken; a PCIe or CXL port reports a Receiver Overflow. -/
def State.violation (f : Frame) (s : State) : State :=
  let s1 := (s.bump (0x4040 + f.ingress) 0xB).raise 186
  if s.trunkPort f.ingress then s1 else s1.aerAt f aerOverflow

/-- A bulk frame that no place takes is dropped (R231). -/
def State.bulkDrop (f : Frame) (s : State) : State :=
  let s1 := (s.bump 0x4010 6).raise 190
  if f.egress < 160 then s1.bump (0x4040 + f.egress) 9 else s1

/-- What became of a head cell. -/
inductive Entry07 where
  | taken (id : Nat) | dropped | violation
deriving DecidableEq, Repr

/-- A head cell is formed at an ingress (R205, R217, R228, R231): the frame is charged whole and queued, or dropped, or
is a flow-control violation; an engine's lossless frame waits for a charge. DEDUCED: log entry 40. -/
def State.headCell (ingress : Nat) (h : Head) (s : State) : Entry07 × State :=
  let f := s.newFrame ingress h
  let c := if f.cls < 4 then s.chargeLossless f else s.chargeBulk f
  match c.1 with
  | .waiting =>
    if 4 ≤ f.cls then (.dropped, s.bulkDrop f)
    else if 160 ≤ ingress then (.taken f.id, s.takeIn { f with charge := .waiting })
    else (.violation, s.violation f)
  | k => (.taken f.id, c.2.takeIn { f with charge := k })

/-- An older frame of the same engine and class still waits for its charge (R228). -/
def State.engineHeld (s : State) (ingress : Nat) (h : Head) : Bool :=
  s.core.frames.any (fun g => decide (g.ingress = ingress ∧ g.cls = headClass h ∧ g.charge = .waiting))

/-- An egress can be reached: an internal port, or a port whose link is up (R160, R289, R320). -/
def State.egressUp (s : State) (f : Frame) : Bool := decide (160 ≤ f.egress) || s.linkActive f.egress

/-- A whole frame whose egress is down (R289); a write through a window failed because its far port was not up
(R320, cause 5). -/
def State.egressDown (f : Frame) (s : State) : State :=
  let s1 := s.dropFrame f.id
  if f.kind = 0 ∧ posted f.near = true ∧ f.window.isSome = true then
    (s1.bump (0x3400 + f.egress) 0x29).pwfFrame f f.tlp.addr 5
  else s.discardQueued f.egress f

/-- A completion frame whose ingress checks pass takes the identity of its entry's request; without an Outstanding entry
it is discarded (R280, R286, R308, R349). One that is redirected to the host goes as it is (R272). -/
def State.completionFrame (f : Frame) (s : State) : State :=
  match s.entryFor f.ingress f.near with
  | some e =>
    if e.expired then s.dropFrame f.id
    else match s.cplRedirect (s.tablesOf f.tag) f.ingress e f.near with
      | some q => (s.setTrack e.index (fun y => { y with via := some q })).setFrame f.id (fun g => { g with checked := true })
      | none => s.setFrame f.id (fun g => { g with checked := true, tlp := s.returned e g.tlp })
  | none => s.dropFrame f.id

/-- A whole frame's ingress checks and routing rules (R212, R222): bad, refused, its egress down, served from held data,
given an entry, or eligible. -/
def State.frameDone (id : Nat) (c : Checks) (s : State) : State :=
  match s.frame id with
  | none => s
  | some f =>
    if !(c.linkOk && c.whole && c.ideOk && c.lengthOk) then
      (s.frameBad id).ifDo (!c.ideOk && decide (f.ingress < 160) && decide ((s.port f.ingress).ide = 2)) (State.ideFailure f.ingress)
    else
      let s1 := s.setFrame id (fun g => { g with formed := g.cells })
      if f.refuse ≠ 0 then (s1.refuseFrame f).dropFrame id
      else if !s.egressUp f then s1.egressDown f
      else
        let m := s1.meetHolds f
        if m.1 then m.2
        else if needsEntry f then m.2.seekEntry { f with formed := f.cells }
        else if f.kind = 0 ∧ f.near.op = .completion ∧ f.egress < 160 then m.2.completionFrame f
        else if f.kind = 0 ∧ f.near.op = .message ∧ f.egress = 176 then (m.2.localMessage f).dropFrame id
        else m.2.setFrame id (fun g => { g with checked := true })

/-- FRAME_START: a frame start at an ingress ungates the gated units on its path: the attachments of its ingress and of its
egress, and every unit that may take the frame, any buffer bank, cluster or ledger bank (R99). DEDUCED: log entry 39. -/
def execFrameStart (path : FramePath) (s : State) : Res :=
  guarded s.running (fun s =>
    let sides := s.attachments path.ingress.val ++ s.attachments path.egress.val
    { s with sup := { s.sup with gated := s.sup.gated.filter (fun g => !sides.contains g.1 && decide (g.1 < 100)), traffic := sides ++ s.sup.traffic } }) s

/-- A CXL message never crosses a trunk: one that comes from a trunk port, or that an engine would send to one, is no frame (R209). -/
def State.crossesTrunk (s : State) (ingress : Nat) (h : Head) : Bool :=
  decide (h.kind = 3) && (s.trunkPort ingress || (decide (160 ≤ ingress) && s.trunkPort h.port))

/-- FRAME_HEAD_CELL: a head cell is formed (R217). -/
def execFrameHeadCell (ingress : Fin 177) (h : Head) (s : State) : Res :=
  checked h.wf (s.running && !s.crossesTrunk ingress.val h && !(decide (160 ≤ ingress.val) && s.engineHeld ingress.val h)) (fun s => (s.headCell ingress.val h).2) s

/-- FRAME_COMPLETE: the last cell of a charged frame is formed and its checks are applied (R222). -/
def execFrameComplete (id : Nat) (c : Checks) (s : State) : Res :=
  guarded (s.running && match s.frame id with
    | some f => decide (f.charge ≠ .waiting) && decide (f.formed < f.cells ∨ f.checked = false)
    | none => false) (State.frameDone id c) s

/-- ENGINE_CHARGE_RETRY: an engine's frame tries its charge again (R228). -/
def execEngineChargeRetry (id : Nat) (s : State) : Res :=
  guarded (s.running && match s.frame id with
    | some f => decide (f.charge = .waiting ∧ f.cls < 4)
    | none => false) (fun s =>
      match s.frame id with
      | none => s
      | some f =>
        let c := s.chargeLossless f
        let banks := c.2.takeBanks f.cells c.2.core.nextBank []
        if c.1 = .waiting then s
        else ({ c.2 with core := { c.2.core with nextBank := banks.2 } }).setFrame id (fun g => { g with charge := c.1, banks := banks.1 })) s

/-- A head cell is granted to an egress that marks: a trunk port or a Beryl internal port, with more cells queued ahead
than the class's threshold under the frame's entry epoch (R235). -/
def State.marks (s : State) (f : Frame) : Bool :=
  decide (4 ≤ f.cls) && (decide (160 ≤ f.egress ∧ f.egress < 168) || s.trunkPort f.egress) &&
    decide (s.inTables (s.tablesOf f.tag) 0x4004 (f.cls - 3) < s.queuedAt f.egress - f.cells)

/-- The grant of a head cell: class credit, link-partner credit, the mark, and on a trunk the sequence number and the
replay buffer (R212, R215, R235, R345, R357). -/
def State.grantHead (c : Cand) (f : Frame) (s : State) : State :=
  let m := s.marks f
  let g := { f with marked := f.marked || m, seqNo := (s.trunk f.egress).ns }
  let s1 := s.setFrame f.id (fun x => { x with marked := g.marked, seqNo := g.seqNo, granted := true })
  let s2 := if m && !f.marked then (if f.egress < 160 then (s1.bump 0x4010 7).bump (0x4040 + f.egress) 0xA else s1.bump 0x4010 7) else s1
  let s3 := if c.credited then s2.setPort f.egress (fun q => { q with credit := q.credit.put f.cls (q.credit.look f.cls 0 - f.size) }) else s2
  let s4 := { s3 with core := { s3.core with xmit := s3.core.xmit.put f.egress (f.id + 1) } }
  if 160 ≤ f.egress then s4
  else if s.trunkPort f.egress then
    s4.setTrunk f.egress (fun t => { t with ns := (t.ns + 1) % 4096, buffer := t.buffer ++ [g], timerOn := true, idleSince := s.ep.beat })
  else s4.setPort f.egress (fun q => q.useCredit f)

/-- A host's request that has crossed to the management functions meets the registers of its hierarchy's function (R524, R527). -/
def State.toFunction (f : Frame) (s : State) : State :=
  match s.ingressPlace f with
  | some (v, none) => s.barAccess v f
  | _ => s.emit (.frame f.egress f)

/-- The last cell of a frame is granted: it leaves the buffer, its bucket is stamped, and its egress is free; its epoch counts it
until its last bit has left the staging, and its attachments have had traffic (R27, R99, R213, R239). -/
def State.frameLeaves (f : Frame) (s : State) : State :=
  let s1 := { s with
    core := { s.core with xmit := s.core.xmit.del f.egress }
    sup := { s.sup with traffic := s.attachments f.ingress ++ s.attachments f.egress ++ s.sup.traffic } }
  let s2 := match f.bucket with
    | some b => s1.stampBucket f.egress b
    | none => s1
  let s3 := if s.trunkPort f.egress then s2
    else if f.kind = 0 ∧ f.egress = 176 then s2.toFunction f
    else s2.emit (.frame f.egress f)
  let s4 := if 160 ≤ f.egress then s3
    else s3.setPort f.egress (fun q => { q with stagingHeld := 0, leaving := q.leaving ++ [(q.staging, f.tag)] })
  s4.dropFrame f.id

/-- Words of 8 B in a cell, which a trunk frame's header begins. -/
def cellWordCount : Nat := 32

/-- The words of the next cell of a frame wait to be sent on its trunk, its last cell with all that remain (R343, R344); the replay
buffer holds the frame as far as it has come (R357). -/
def State.cellWords (id : Nat) (s : State) : State :=
  match s.frame id with
  | none => s
  | some f =>
    if s.trunkPort f.egress then
      let rest := (f.image f.seqNo (s.ageNow f)).drop (cellWordCount * f.sent)
      let ws := if f.sent + 1 = f.cells then rest else rest.take cellWordCount
      s.setTrunk f.egress (fun t => { t with
        tx := t.tx ++ txItems f.seqNo (decide (f.sent = 0)) ws
        buffer := t.buffer.map (fun g => if g.id = f.id then f else g) })
    else s

/-- One accepted cell crosses (R213): the head's grant, the cell's place in the egress staging, and the frame's end. The bytes of
a store-and-forward frame to a PCIe or CXL egress are held in the staging until all its cells are there (R219). -/
def State.moveCell (c : Cand) (s : State) : State :=
  match s.frame c.id with
  | none => s
  | some f =>
    let s1 := if f.sent = 0 then s.grantHead c f else s
    let bytes := if f.sent + 1 = f.cells then f.size - 256 * f.sent else 256
    let s2 := if f.egress < 160 then s1.setPort f.egress (fun q => { q with
      staging := q.staging + bytes, idleSince := s.ep.beat
      stagingHeld := if s.trunkPort f.egress || f.cutThrough then 0 else q.stagingHeld + bytes }) else s1
    let s3 := (s2.cellWords f.id).setFrame f.id (fun g => { g with sent := g.sent + 1 })
    if f.sent + 1 = f.cells then
      match s3.frame f.id with
      | some g => s3.frameLeaves g
      | none => s3
    else s3

/-- A cell's correctable error, by its bank (R241). -/
def State.eccCorrected (bank : Nat) (s : State) : State := ((s.bump 0x4010 8).bump 0x4012 bank).raise 180

/-- An uncorrectable error in a cell of a frame (R242): in the first 32 B of the head cell or in a bulk frame the frame is
discarded, a started frame is terminated, and another lossless frame goes on with its data poisoned. -/
def State.struck (id : Nat) (head32 : Bool) (s : State) : State :=
  let s0 := (s.bump 0x4010 9).raise 181
  match s.frame id with
  | none => s0
  | some f =>
    if f.sent = 0 ∧ f.cls < 4 ∧ head32 = false then s0.setFrame id (fun g => { g with poisoned := true })
    else
      let s1 := s0.frameBad id
      let s2 := if f.cls < 4 then (match s.ingressPlace f with
        | some (v, _) => s1.aer v none aerInternal
        | none => s1) else s1
      if f.kind = 0 ∧ f.near.op = .memWrite ∧ f.window.isSome then s2.pwfFrame f f.tlp.addr 6 else s2

/-- n bytes of a port's staging leave, without those held; a frame whose last bit has left is no longer counted (R27, R219). -/
def Port.drain (q : Port) (n : Nat) : Port :=
  let m := min n (q.staging - q.stagingHeld)
  { q with staging := q.staging - m
           leaving := (q.leaving.filter (fun x => decide (m < x.1))).map (fun x => (x.1 - m, x.2)) }

/-- The egress staging of a port whose link is up drains at its bytes per beat (R212, R215): the bytes of cell time i. -/
def State.drainStaging (i : Nat) (s : State) : State :=
  { s with ports := s.ports.map (fun e =>
    (e.1, if e.2.stage = 5 then e.2.drain (s.bytesPerBeat e.1 * (i + 1) / 128 - s.bytesPerBeat e.1 * i / 128) else e.2)) }

/-- One more cell of a frame is formed; its last is formed with FRAME_COMPLETE, and those of a frame from a trunk with its flits
(R205, R212). -/
def State.formCell (id : Nat) (s : State) : State :=
  s.setFrame id (fun f => if !s.trunkPort f.ingress && decide (f.formed + 1 < f.cells) then { f with formed := f.formed + 1 } else f)

/-- The cut-through frame in transmission at an egress whose next cell is needed and is not formed (R220). -/
def State.stalledAt (s : State) (p : Nat) : Option Frame :=
  s.core.frames.find? (fun f => decide (s.core.xmit.look p 0 = f.id + 1 ∧ f.egress = p ∧ f.formed ≤ f.sent ∧ f.sent < f.cells) &&
    f.cutThrough && decide ((s.port p).staging = 0))

/-- A stall ends a frame's transmission (R220, R221): the frame is terminated, keeps its cells and its place as a
store-and-forward frame, and cut-through from its ingress is suspended. -/
def State.stallTerminate (f : Frame) (s : State) : State :=
  let s1 := (((s.terminate f).bump 0x4010 3).raise 187).setFrame f.id (fun g => { g with cutThrough := false, sent := 0 })
  (s1.setPort f.egress (fun q => { q with stallSince := none })).setPort f.ingress (fun q => { q with ctSuspended := true })

/-- A stall begins or ends at an egress in a cell time, by its time in ns; a non-flit PCIe egress terminates at once (R220). -/
def State.stallStep (now p : Nat) (s : State) : State :=
  match s.stalledAt p with
  | some f =>
    if s.trunkPort p then s.setPort p (fun q => { q with stallSince := some (q.stallSince.getD now) })
    else s.stallTerminate f
  | none => if (s.port p).stallSince.isSome then s.setPort p (fun q => { q with stallSince := none }) else s

/-- The trunk ports that have a link layer up. -/
def State.trunksUp (s : State) : List Nat :=
  (s.trunks.filter (fun e => decide (e.1 < 160 ∧ e.2.sender ≠ .down))).map (·.1)

/-- A trunk sender's stalls for its window and its replay buffer, each counted when it begins (R357). -/
def State.stallCheck (p : Nat) (s : State) : State :=
  let t := s.trunk p
  let next := s.core.frames.find? (fun f => decide (f.egress = p ∧ f.sent = 0) && f.checked && headOfQueue s.core.frames f)
  let w := next.isSome && !s.windowRoom p
  let r := match next with
    | some f => s.windowRoom p && !s.replayRoom p f
    | none => false
  let s1 := s.setTrunk p (fun t => { t with stallWindow := w, stallFull := r })
  let s2 := if w && !t.stallWindow then s1.bump (0x3400 + p) 0x4D else s1
  if r && !t.stallFull then s2.bump (0x3400 + p) 0x4E else s2

/-- A replay that waited for a frame in transmission starts when the frame has ended (R691). -/
def State.owedReplay (now p : Nat) (s : State) : State :=
  if (s.trunk p).retrainOwed && !s.sendingFrame p then s.replay p now else s

/-- CELL_TIME_MATCH: cell time i of the beat. The staging drains, further cells of the frames named are formed, stalls begin and
end (R220), the on/off states are set (R352), the errors found on the cells read are handled (R241, R242), and, in a usable cell
time (R216), up to three iterations of the matcher move cells (R213, R214). DESIGN CHOICE: log entry 11. -/
def execCellTimeMatch (i : Fin 128) (formed : List Nat) (ecc : CellErrors) (s : State) : Res :=
  guarded s.running (fun s =>
    let s0 := (s.drainStaging i.val).each formed State.formCell
    let s0 := s0.each (s0.ports.map (·.1)) (State.stallStep (128 * s.ep.beat + i.val))
    let s1 := s0.each s.trunksUp (fun p s => (s.onoffEval p).stallCheck p)
    let s2 := s1.each ecc.corrected (fun b s => s.eccCorrected b.val)
    let s3 := s2.each ecc.bad (fun x s => (s.struck x.1 x.2.1).retireBank x.2.2.val)
    let m := s3.matched
    let s4 := if i.val % 4 < s3.board.throttle / 25 then (s3.each m.1 (fun c s => (s.advance c).moveCell c)).each m.2 State.moveCell else s3
    s4.each s4.trunksUp (State.owedReplay (128 * s.ep.beat + i.val))) s

/-- STALL_TERMINATION: in a cell time, the next cell of a cut-through frame in transmission at a trunk port has been missing for
the stall budget (R220, R221). -/
def execStallTermination (point : StallPoint) (s : State) : Res :=
  let passed := match (s.port point.egress.val).stallSince with
    | some b => decide (b + s.setting 0x4001 2 ≤ 128 * s.ep.beat + point.cellTime.val)
    | none => false
  guarded (s.running && s.trunkPort point.egress.val && passed) (fun s =>
    match s.stalledAt point.egress.val with
    | none => s
    | some f => s.stallTerminate f) s

/-- PATH_FAILED: a trunk path is lost (R240), its port down or declared unusable (R335, R355): its buckets fail with fault source 189, and its frames and entries are
handled as link down (R292). -/
def execPathFailed (port : Fin 160) (s : State) : Res :=
  guarded (s.running && decide (s.portRole port.val = 3) && !s.core.pathFailed.look port.val false &&
      (!s.linkActive port.val || (s.trunk port.val).mismatch || (s.trunk port.val).exceeds)) (State.pathDown port.val) s

/-- BANK_RETIRE: a bank number written to D:4013.01, or an uncorrectable error in a frame's cell of the bank, starts the
bank's retirement (R242 to R244). -/
def execBankRetire (bank : Fin 64) (strike : Option (Nat × Bool)) (s : State) : Res :=
  match strike with
  | none => commandWrite (fun s => (s.retireBank bank.val).answer 0) s
  | some x => guarded s.running (fun s => (s.struck x.1 x.2).retireBank bank.val) s

/-- BANK_RETIRED: a retiring bank that holds no cell is retired (R243). DEDUCED: log entries 14 and 28. -/
def execBankRetired (bank : Fin 64) (s : State) : Res :=
  guarded (s.running && decide (s.core.bankState.look bank.val 0 = 1) &&
      !s.core.frames.any (fun f => f.banks.contains bank.val && decide (f.charge ≠ .waiting))) (fun s =>
    ({ s with core := { s.core with bankState := s.core.bankState.put bank.val 2 } }).raise 182) s

/-- ATTACHMENT_RETIRE: an attachment number written to D:4013.02, or a parity error on a cell that crosses it, handled as
an uncorrectable error in its frame (R245): the attachment is retired at the next boundary. -/
def execAttachmentRetire (n : Fin 40) (strike : Option (Nat × Bool)) (s : State) : Res :=
  let mark (s : State) : State :=
    if s.core.attachRetired.look n.val false then s
    else { s with core := { s.core with attachPending := s.core.attachPending.put n.val true } }
  match strike with
  | none => commandWrite (fun s => (mark s).answer 0) s
  | some x => guarded s.running (fun s => mark (s.struck x.1 x.2)) s

/-- PARTNER_CREDIT_RETURN: a PCIe or CXL link partner advertises or returns credit of a class, headers or messages and data in
units of 16 B (R212, R694). -/
def execPartnerCreditReturn (port : Fin 160) (cls : Fin 4) (credit : Credit) (s : State) : Res :=
  guarded (s.running && decide (s.portRole port.val = 1 ∨ s.portRole port.val = 2) && decide ((s.port port.val).stage = 5))
    (State.setPort port.val (fun q => { q with
      creditHeaders := q.creditHeaders.put cls.val (q.creditHeaders.look cls.val 0 + credit.headers)
      creditData := q.creditData.put cls.val (q.creditData.look cls.val 0 + credit.data) })) s

end Sys2Proof.Machine
end

