-- ==== Sys2Proof/Machine/Trunks.lean ====
section
/-!
DEFINITION. The commands of the Maelok trunk (chapter 10): flits, the replay timer, round-trip probes and quiet
directions.
-/

namespace Sys2Proof.Machine

/-- A frame of a trunk port is lost or bad (R222, R365): it is discarded or terminated, and a replay is asked for. -/
def State.trunkBad (p now : Nat) (ask : Bool) (s : State) : State :=
  let s1 : State := match (s.trunk p).rxFrame with
    | some id => (s.frameBad id).setTrunk p (fun t => { t with rxFrame := none })
    | none => s
  if ask then s1.askReplay p now else s1

/-- The receiver goes on in a mode, with no word of a next frame (R341). -/
def State.rxNext (p : Nat) (m : RxMode) (s : State) : State := s.setTrunk p (fun t => { t with rxMode := m, rxWords := [] })

/-- A frame is accepted (R358): ES advances. -/
def State.accept (p : Nat) (s : State) : State :=
  s.setTrunk p (fun t => { t with es := (t.es + 1) % 4096, accepted := true, receiver := .inSync })

/-- The frame in reception ends (R358): with a good check it is accepted and delivered; else it is bad. -/
def State.trunkEnd (p now : Nat) (ok : Bool) (s : State) : State :=
  match (s.trunk p).rxFrame with
  | none => s
  | some id =>
    if ok then ((s.setTrunk p (fun t => { t with rxFrame := none })).accept p).frameDone id {}
    else (s.linkCount p 0x4A).trunkBad p now true

/-- A frame passes that the receiver does not accept: it is skipped by its length (R341). -/
def State.skipFrame (p len : Nat) (s : State) : State :=
  if trunkWordCount len ≤ 3 then s.rxNext p .between else s.setTrunk p (fun t => { t with rxMode := .skipped })

/-- The header of a frame has come (R341, R345, R358): it is lost by its CRC, bad, expected, behind or ahead. A frame without payload
is accepted and has nothing to deliver (R343). DESIGN CHOICE: log entry 50. -/
def State.headerIn (p now : Nat) (h : TrunkHead) (s : State) : State :=
  let es := (s.trunk p).es
  if !h.crcOk then ((s.linkCount p 0x4A).askReplay p now).rxNext p .lost
  else if !h.valid then
    let s1 := (s.linkCount p 0x4A).askReplay p now
    if 4096 < h.len then s1.rxNext p .lost else s1.skipFrame p h.len
  else if h.seqNo = es then
    if h.len = 0 then (s.accept p).rxNext p .between else s.setTrunk p (fun t => { t with rxMode := .expected })
  else if (es + 4096 - h.seqNo) % 4096 ≤ 2048 then s.skipFrame p h.len
  else (s.askReplay p now).skipFrame p h.len

/-- The head cell of the expected frame has come (R205, R217, R228, R345, R356, R358): it is charged, dropped, or bad. -/
def State.headIn (p now : Nat) (h : TrunkHead) (ws : List Nat) (s : State) : State :=
  let full := ws ++ List.replicate (trunkWordCount h.len - 3 - ws.length) 0
  match headOf h h.len (readPayload h.len full).1 ws with
  | none => ((s.linkCount p 0x4A).askReplay p now).setTrunk p (fun t => { t with rxMode := .skipped })
  | some x =>
    let r := s.headCell p x
    match r.1 with
    | .violation => (r.2.askReplay p now).setTrunk p (fun t => { t with rxMode := .skipped })
    | .dropped => r.2.setTrunk p (fun t => { t with rxMode := .dropped })
    | .taken id => r.2.setTrunk p (fun t => { t with rxFrame := some id })

/-- The words of a frame are in its cells; its last cell is formed with its last word (R205, R212). -/
def State.wordsIn (p : Nat) (ws : List Nat) (s : State) : State :=
  match (s.trunk p).rxFrame with
  | some id => s.setFrame id (fun f => { f with words := ws.drop 3, formed := max f.formed (min (f.cells - 1) (ws.length / 32)) })
  | none => s

/-- The data of a frame whose payload is whole (R345, R456). -/
def Frame.filled (f : Frame) (len v : Nat) : Frame :=
  match f.kind with
  | 0 =>
    let d := ((readTlp len v).getD {}).payload
    { f with tlp := { f.tlp with payload := d }, near := { f.near with payload := d } }
  | 1 => { f with beryl := { f.beryl with data := (readBeryl len v).data } }
  | _ => f

/-- The last word of a frame has come (R343, R358): its frame check is read. -/
def State.frameIn (p now : Nat) (h : TrunkHead) (ws : List Nat) (s : State) : State :=
  let r := readPayload h.len (ws.drop 3)
  let s1 : State := match (s.trunk p).rxMode, (s.trunk p).rxFrame with
    | .expected, some id => (s.setFrame id (fun f => f.filled h.len r.1)).trunkEnd p now r.2
    | .dropped, _ => if r.2 then s.accept p else (s.linkCount p 0x4A).askReplay p now
    | _, _ => s
  s1.rxNext p .between

/-- A word that carries frame bytes comes (R341): a header takes three, a head cell 32, and the length says where a frame ends. -/
def State.wordIn (p now w : Nat) (s : State) : State :=
  let t := s.trunk p
  let ws := t.rxWords ++ [w]
  let h := readHead (ofWords (ws.take 3))
  let need := trunkWordCount h.len
  let s1 := s.setTrunk p (fun t => { t with rxWords := ws })
  match t.rxMode with
  | .lost => s
  | .between => s1.setTrunk p (fun t => { t with rxMode := .header })
  | .header => if ws.length = 3 then s1.headerIn p now h else s1
  | _ =>
    let s2 := if t.rxMode ≠ .expected then s1
      else if ws.length = min need 32 then s1.headIn p now h (ws.drop 3) else s1.wordsIn p ws
    if ws.length = need then s2.frameIn p now h ws else s2

/-- The abort marker ends the frame in reception, with no replay (R366, R367). -/
def State.abortIn (p now : Nat) (s : State) : State :=
  let s1 := (s.linkCount p 0x4B).trunkBad p now false
  if (s.trunk p).rxMode = .lost then s1 else s1.rxNext p .between

/-- Word j of a flit comes (R341, R365, R367): the frame before is aborted; a frame begins by first_start after the receiver has lost
track, or makes the frame bad inside which it begins. -/
def State.flitWord (p now : Nat) (c : Control) (j w : Nat) (s : State) : State :=
  let s1 := if c.abortAt = j then s.abortIn p now else s
  if !c.wordValid.testBit j then s1
  else
    let s2 := if c.firstStart ≠ j ∨ (s1.trunk p).rxMode = .between then s1
      else if (s1.trunk p).rxMode = .lost then s1.rxNext p .between
      else ((s1.linkCount p 0x4A).trunkBad p now true).rxNext p .between
    s2.wordIn p now w

/-- A good control word is processed (R335, R342, R353, R354, R359, R362). -/
def State.controlWord (p now : Nat) (c : Control) (s : State) : State :=
  let t := s.trunk p
  let s1 := (s.setTrunk p (fun t => { t with
    partner := c.onoff, peerModule := c.node, peerPort := c.nodePort
    probeEcho := if c.probe ≠ 0 then c.probe else t.probeEcho
    quietRx := c.quiet })).peerCheck p
  let s1 := if c.quiet then (s1.each (s1.lanesInUse p) (fun l s => s.setLane l (fun x => { x with rx := .quickIdle }))).scanCheck else s1
  let s2 := if c.ackValid then s1.applyAck p c.ackSeq else s1
  let s3 :=
    if c.replayReq && !(decide (t.sender = .replaying) && decide (now < t.replayStart + s.rtt p)) then s2.replay p now else s2
  if c.probeEcho = t.probe ∧ t.probe ≠ 0 ∧ t.probeAt ≤ now ∧ t.measured = false then
    (s3.setTrunk p (fun t => { t with measured := true })).measure p (now - t.probeAt)
  else s3

/-- The bytes of a flit come at a time in ns: corrected bytes are counted on their lanes (R159, R337); an uncorrectable flit or a
control word that fails its CRC is a lost flit (R339, R359, R365); else what the flit carries is processed. A flit is sent in
answer. DESIGN CHOICE: log entry 10. -/
def State.flit (p now : Nat) (wire : List Nat) (good : Control → List Nat → State → State) (s : State) : State :=
  let lanes := s.lanesInUse p
  let r := readWire (widthLanes (s.port p).width) wire
  let s1 := s.each r.1 (fun k s =>
    let s' := if p < 160 then s.countBy 1 (0x3400 + p) 0x4F else s
    match lanes[k]? with
    | some l => s'.setLane l (fun x => { x with errors := x.errors + 1, window := x.window + 1 })
    | none => s')
  let s2 := match r.2 with
    | none => (((s1.linkCount p 0x48).raise 215).trunkBad p now true).rxNext p .lost
    | some bytes =>
      let c := readControl (numberOf (bytes.take 16))
      if c.crcOk then good c (splitWords 30 (numberOf (bytes.drop 16))) s1
      else ((s1.linkCount p 0x49).trunkBad p now true).rxNext p .lost
  s2.sendFlit p

/-- What a trunk flit with a good control word carries: its word, and the words of its frames. -/
def State.trunkWords (p now : Nat) (c : Control) (ws : List Nat) (s : State) : State :=
  let s1 := (s.controlWord p now c).each ws.zipIdx (fun x s => s.flitWord p now c x.2 x.1)
  if c.abortAt = 30 then s1.abortIn p now else s1

/-- REPLAY_TIMER_EXPIRY: the replay timer expires while frames are unacknowledged (R360). -/
def execReplayTimerExpiry (port : Fin 161) (now : Nat) (s : State) : Res :=
  guarded (s.running && (s.trunk port.val).timerOn && !s.nothingOut port.val &&
    decide ((s.trunk port.val).sender = .sending ∨ (s.trunk port.val).sender = .replaying)) (State.replay port.val now) s

/-- RTT_PROBE: a new probe value is sent (R354). -/
def execRttProbe (port : Fin 161) (now : Nat) (s : State) : Res :=
  guarded (s.running && decide (s.portRole port.val = 3) && decide ((s.port port.val).stage = 5) && !(s.trunk port.val).quietTx)
    (fun s => (s.setTrunk port.val (fun t => { t with probe := nextProbe t.probe, probeAt := now, measured := false, probeDue := true })).sendFlit port.val) s

/-- QUIET_ENTRY: a transmit direction idle for D:4400.07 beats goes quiet and its lanes enter Quick idle (R342). -/
def execQuietEntry (port : Fin 160) (s : State) : Res :=
  guarded (s.running && decide (s.portRole port.val = 3) && decide ((s.port port.val).stage = 5) && !(s.trunk port.val).quietTx &&
      decide (s.setting 0x4400 7 ≠ 0) && s.trunkIdle port.val &&
      decide (s.setting 0x4400 7 ≤ s.ep.beat - (s.trunk port.val).idleSince)) (fun s =>
    ((s.setTrunk port.val (fun t => { t with quietTx := true })).sendFlit port.val).each (s.lanesInUse port.val)
      (fun l s => s.setLane l (fun x => { x with tx := .quickIdle }))) s

/-- QUIET_EXIT: a queued frame, a replay that is due or a changed control word ends the quiet state: the lanes leave Quick idle, and
the marker goes out for 5 beats, then one inverted marker (R342). -/
def execQuietExit (port : Fin 160) (s : State) : Res :=
  guarded (s.running && (s.trunk port.val).quietTx && (!s.trunkIdle port.val || decide (s.quietWord port.val ≠ (s.trunk port.val).lastWord))) (fun s =>
    (((s.setTrunk port.val (fun t => { t with quietTx := false, idleSince := s.ep.beat })).each (s.lanesInUse port.val)
      (fun l s => s.setLane l (fun x => { x with tx := .on, lastTx := 0 })))).emit
        (.wake port.val 5 (List.replicate 16 0 ++ List.replicate 16 3))) s

/-- INVERTED_MARKER: the receiver of a direction that leaves the quiet state aligns on the inverted marker (R342). -/
def execInvertedMarker (port : Fin 160) (s : State) : Res :=
  guarded (s.running && decide (s.portRole port.val = 3) && (s.trunk port.val).quietRx) (fun s =>
    (s.setTrunk port.val (fun t => { t with quietRx := false })).each (s.lanesInUse port.val)
      (fun l s => s.setLane l (fun x => { x with rx := .on, lastRx := 0 }))) s

end Sys2Proof.Machine
end

