-- ==== Sys2Proof/Machine/Pools.lean ====
section
/-!
DEFINITION. Memory pools (chapter 11): descriptors, the decode of an owner address, extent states, and the commands of
pool devices, extents and endpoints.
-/

namespace Sys2Proof.Machine

/-- One unit of pool capacity: 256 MiB (R374). -/
def unitBytes : Nat := 2 ^ 28

/-- Fields of an extent descriptor (R377). -/
structure Ext where
  use : Nat
  prefetch : Bool
  keep : Bool
  ways : Nat
  gran : Nat
  owner : Nat
  offset : Nat
  devBase : Nat
  devSize : Nat
  reserved : Nat
  members : List Nat
  slots : Nat
deriving DecidableEq, Repr

/-- Decode an extent descriptor (R377). -/
def extFields (d : Nat) : Ext where
  use := bits d 255 254
  prefetch := bit d 253
  keep := bit d 252
  ways := bits d 251 247
  gran := bits d 246 244
  owner := bits d 243 232
  offset := bits d 231 214
  devBase := bits d 213 196
  devSize := bits d 195 177
  reserved := bits d 176 128
  members := (List.range (min (bits d 251 247) 16)).map (fun i => bits d (8 * i + 7) (8 * i))
  slots := bits d 127 0

/-- Extents of a table copy by number. -/
def extents (t : Tbl Nat) : List (Nat × Ext) :=
  (t.filter (fun e => decide (0x5080 ≤ e.1 / 256 ∧ e.1 / 256 ≤ 0x508F))).map
    (fun e => ((e.1 / 256 - 0x5080) * 256 + e.1 % 256, extFields e.2))

/-- Extents in use of a table copy. -/
def extentsUsed (t : Tbl Nat) : List (Nat × Ext) := (extents t).filter (fun e => decide (e.2.use ≠ 0))

/-- An extent's descriptor in a table copy. -/
def State.extIn (s : State) (t : Tbl Nat) (x : Nat) : Ext := extFields (s.inTables t (0x5080 + x / 256) (x % 256))

/-- Fields of a pool endpoint (R379). -/
structure Endp where
  kind : Nat
  dynamic : Bool
  size : Nat
  region : Nat
  domain : Nat
  reserved : Nat
deriving DecidableEq, Repr

/-- Decode a pool endpoint (R379). -/
def endpFields (d : Nat) : Endp where
  kind := bits d 63 62
  dynamic := bit d 61
  size := bits d 57 39
  region := bits d 38 31
  domain := bits d 30 19
  reserved := bits d 60 58 + bits d 18 0

/-- An endpoint's descriptor in a table copy. -/
def State.endpIn (s : State) (t : Tbl Nat) (e : Nat) : Endp := endpFields (s.inTables t (0x5040 + e / 256) (e % 256))

/-- Endpoints of a table copy by number. -/
def endpoints (t : Tbl Nat) : List (Nat × Endp) :=
  (t.filter (fun e => decide (0x5040 ≤ e.1 / 256 ∧ e.1 / 256 ≤ 0x5043))).map
    (fun e => ((e.1 / 256 - 0x5040) * 256 + e.1 % 256, endpFields e.2))

/-- Fields of a shared region (R389). -/
structure Rgn where
  valid : Bool
  homeTwin : Bool
  size : Nat
  domain : Nat
  reserved : Nat
deriving DecidableEq, Repr

/-- Decode a shared region (R389). -/
def rgnFields (d : Nat) : Rgn where
  valid := bit d 63
  homeTwin := bit d 62
  size := bits d 61 43
  domain := bits d 42 31
  reserved := bits d 30 0

/-- A shared region's descriptor in a table copy. -/
def State.rgnIn (s : State) (t : Tbl Nat) (r : Nat) : Rgn := rgnFields (s.inTables t 0x5030 r)

/-- Fields of a pool-device descriptor (R373). -/
structure PoolDev where
  claim : Bool
  port : Nat
  ld : Nat
  mld : Bool
  reserved : Nat
deriving DecidableEq, Repr

/-- Decode a pool-device descriptor (R373). -/
def devFields (d : Nat) : PoolDev where
  claim := bit d 31
  port := bits d 30 23
  ld := bits d 22 19
  mld := bit d 18
  reserved := bits d 17 0

/-- A pool device's descriptor in a table copy. -/
def State.devIn (s : State) (t : Tbl Nat) (d : Nat) : PoolDev := devFields (s.inTables t 0x5020 d)

/-- Claimed pool devices of a table copy, by number. -/
def claimed (t : Tbl Nat) : List (Nat × PoolDev) :=
  ((t.filter (fun e => decide (e.1 / 256 = 0x5020))).map (fun e => (e.1 % 256, devFields e.2))).filter (fun e => e.2.claim)

/-- A pool device serves pool traffic: state 3 (R376). -/
def State.devReady (s : State) (d : Nat) : Bool := decide ((s.device d).state = 3)

/-- Granule of an extent in bytes (R377). -/
def Ext.granule (x : Ext) : Nat := 256 * 2 ^ x.gran

/-- An extent covers an owner address (R377). -/
def Ext.covers (x : Ext) (a : Nat) : Bool :=
  decide (x.offset * unitBytes ≤ a ∧ a < (x.offset + x.ways * x.devSize) * unitBytes)

/-- Member device and device address of an owner address in an extent (R378). -/
def Ext.decode (x : Ext) (a : Nat) : Nat × Nat :=
  let o := a - x.offset * unitBytes
  let g := x.granule
  let chunk := o / g
  (x.members.getD (chunk % max x.ways 1) 0, x.devBase * unitBytes + chunk / max x.ways 1 * g + o % g)

/-- Owner address of a device address on member i of an extent: the inverse of R378 (R381). -/
def Ext.encode (x : Ext) (i dpa : Nat) : Nat :=
  let off := dpa - x.devBase * unitBytes
  let g := x.granule
  x.offset * unitBytes + (off / g * x.ways + i) * g + off % g

/-- The extent of an owner that covers an address, with its member and device address (R378). -/
def ownerDecode (t : Tbl Nat) (use owner a : Nat) : Option (Nat × Nat × Nat) :=
  match (extentsUsed t).find? (fun e => decide (e.2.use = use ∧ e.2.owner = owner) && e.2.covers a) with
  | some (n, x) => some (n, (x.decode a).1, (x.decode a).2)
  | none => none

/-- Port of a pool device in the live tables. -/
def State.devPort (s : State) (d : Nat) : Nat := (s.devIn s.ep.live d).port

/-- Change an extent's state; D:5090 is mirrored (R382, R619). -/
def State.setExtState (x st : Nat) (s : State) : State :=
  if (s.extent x).state = st then s
  else (s.setExtent x (fun e => { e with state := st })).mirror 8 [0x5090 + x / 256, x % 256] [st]

/-- Discard held pool prefetch lines; each that no read used is counted (R387). -/
def State.discardLines (h : Lines) (s : State) : State :=
  let s1 := { s with pool := { s.pool with lines := s.pool.lines.filter (fun x => decide (x ≠ h)) } }
  let n := if h.ready then h.len / 64 - h.used.length else 0
  if n = 0 then s1 else (s1.countBy n 0x5000 0xD).raise 227

/-- An extent leaves Assigned: its held lines are discarded (R387). -/
def State.dropLines (x : Nat) (s : State) : State :=
  s.each (s.pool.lines.filter (fun h => decide (h.extent = x))) State.discardLines

/-- Put an extent in Scrubbing, with the descriptor of its range, every member still to be written (R382, R383). -/
def State.startScrub (x was : Nat) (s : State) : State :=
  ((s.dropLines x).setExtState x 1).setExtent x (fun q => { q with
    scrubLeft := (extFields was).members, scrubbing := [], scrubSince := [], postedAt := none, releaseOwed := false, was := was })

/-- Extents in use whose members are not all Ready become Impaired, and return when every member is Ready (R386). -/
def State.refreshExtents (s : State) : State :=
  s.each (extentsUsed s.ep.live) (fun e s =>
    let st := (s.extent e.1).state
    let ok := e.2.members.all s.devReady
    if !ok ∧ (st = 2 ∨ st = 3 ∨ st = 4) then
      ((s.dropLines e.1).setExtState e.1 6).setExtent e.1 (fun q => { q with before := st })
    else if ok ∧ st = 6 then s.setExtState e.1 (s.extent e.1).before
    else s)

/-- A claimed device's link comes up or goes down, or its logical device is reset (R376): Waiting and Enumerating,
Enumerating and Waiting, or Lost. Extents follow (R386), and a scrub of a lost member fails (R383). -/
def State.deviceLink (p : Nat) (up : Bool) (ld : Option Nat) (s : State) : State :=
  let mine := (claimed s.ep.live).filter (fun d => decide (d.2.port = p) && match ld with
    | some l => d.2.mld && decide (d.2.ld = l)
    | none => true)
  let s1 := s.each mine (fun d s =>
    let st := (s.device d.1).state
    if up then
      if st = 1 ∨ st = 5 then (s.setDevice d.1 (fun q => { q with state := 2 })).emit (.enumerate d.1 1 0 false) else s
    else if st = 3 then (s.setDevice d.1 (fun q => { q with state := 5 })).raise 221
    else if st = 2 then s.setDevice d.1 (fun q => { q with state := 1 })
    else s)
  let lost (s : State) : State := s.each (s.pool.extents.map (·.1)) (fun x s =>
    if (s.extent x).state = 1 ∧ (s.extent x).scrubLeft.any (fun m => mine.any (fun d => decide (d.1 = m))) then
      ((s.setExtState x 7).setExtent x (fun q => { q with scrubbing := [] })).raise 225
    else s)
  (if up then s1 else lost s1).refreshExtents

/-- ENUMERATION_DONE: the steps of R374 end: Failed, Replaced, or Ready with the capacity rounded down to 256 MiB units, its
decoder over that capacity and its memory enabled (R376). -/
def execEnumerationDone (d : Fin 256) (ok : Bool) (capacity : BitVec 64) (serial : BitVec 64) (s : State) : Res :=
  guarded (s.running && decide ((s.device d.val).state = 2)) (fun s =>
    let v := s.device d.val
    if !ok then (s.setDevice d.val (fun q => { q with state := 4 })).raise 220
    else if v.recorded ∧ v.serial ≠ serial.toNat then (s.setDevice d.val (fun q => { q with state := 6 })).raise 222
    else
      let old := decide ((s.port (s.devPort d.val)).cxl = 1)
      let s1 := s.setDevice d.val (fun q => { q with state := 3, capacity := capacity.toNat / unitBytes, serial := serial.toNat, recorded := true })
      ((s1.emit (.enumerate d.val 3 capacity.toNat old)).emit (.enumerate d.val 4 0 false)).refreshExtents) s

/-- The side-1 module of a pair does not scrub an extent of a shared region, whose expanders are multi-headed: it waits for
side 0's record (R614, R615). DEDUCED: log entry 45. -/
def State.scrubHeld (s : State) (was : Nat) : Bool :=
  s.mirroring && decide (s.setting 0x9000 2 = 1 ∧ (extFields was).use = 2)

/-- SCRUB_START: every earlier request to a member's part of a Scrubbing extent has completed, and zeros are written there, in the
master budget (R383). -/
def execScrubStart (x : Fin 4096) (m : Fin 256) (s : State) : Res :=
  let e := s.extent x.val
  guarded (s.running && decide (e.state = 1) && e.scrubLeft.contains m.val && !e.scrubbing.contains m.val && !s.scrubHeld e.was && s.masterOpen none none &&
      !s.fab.track.any (fun t => !t.expired && decide (t.extent = some x.val ∧ t.cplPort = s.devPort m.val))) (fun s =>
    let d := extFields e.was
    (s.setExtent x.val (fun q => { q with scrubbing := m.val :: q.scrubbing, scrubSince := q.scrubSince.put m.val s.ep.beat })).emit
      (.scrub m.val (d.devBase * unitBytes) (d.devSize * unitBytes))) s

/-- The scrub writes on a member of an extent have had the time that D:5000.0A MB/s, at 128 ns a beat, takes (R383). -/
def State.scrubTime (s : State) (x m : Nat) : Bool :=
  let e := s.extent x
  decide ((extFields e.was).devSize * unitBytes * 1000 ≤ (s.ep.beat - e.scrubSince.look m 0) * s.setting 0x5000 0xA * 128)

/-- SCRUB_DONE: the scrub writes on a member end, no sooner than their rate allows. The last member frees the extent; a failure
leaves it Scrub failed (R383). -/
def execScrubDone (x : Fin 4096) (m : Fin 256) (ok : Bool) (s : State) : Res :=
  let e := s.extent x.val
  guarded (s.running && decide (e.state = 1) && e.scrubbing.contains m.val && (!ok || s.scrubTime x.val m.val)) (fun s =>
    if ok then
      let left := e.scrubLeft.filter (fun k => decide (k ≠ m.val))
      let s1 := s.setExtent x.val (fun q => { q with scrubLeft := left, scrubbing := q.scrubbing.filter (fun k => decide (k ≠ m.val)) })
      if left.isEmpty then s1.setExtState x.val 0 else s1
    else ((s.setExtState x.val 7).setExtent x.val (fun q => { q with scrubbing := [] })).raise 225) s

/-- RESCRUB_EXTENT: an extent number written to D:5001.02 (R383). -/
def execRescrubExtent (x : Fin 4096) (s : State) : Res :=
  commandWrite (fun s =>
    if (s.extent x.val).state = 7 then (s.startScrub x.val (s.extent x.val).was).answer 0 else s.answer 2) s

/-- Post an event record in an endpoint's log (R381, R384). PRESUMED: log entry 6. -/
def State.postEvent (e kind dpa body : Nat) (s : State) : State :=
  let r : EventRec := { kind := kind, handle := s.pool.nextHandle, dpa := dpa, body := body }
  { s with pool := { s.pool with events := s.pool.events.put e (s.pool.events.look e [] ++ [r]), nextHandle := (s.pool.nextHandle + 1) % 65536 } }

/-- The extent belongs to a bound dynamic endpoint. -/
def State.ofDynamic (s : State) (x : Nat) : Bool :=
  let d := s.extIn s.ep.live x
  decide (d.use = 1) && (s.endpIn s.ep.live d.owner).dynamic && (bridgeOfEndpointIn s.ep.live d.owner).isSome

/-- RELEASE_EXTENT: an extent number written to D:5001.01 (R384). -/
def execReleaseExtent (x : Fin 4096) (s : State) : Res :=
  commandWrite (fun s =>
    if (s.extent x.val).state = 2 ∧ s.ofDynamic x.val = true then
      let s1 := ((s.dropLines x.val).setExtState x.val 4).setExtent x.val (fun q => { q with postedAt := some s.ep.beat })
      (s1.postEvent (s.extIn s.ep.live x.val).owner 2 x.val 0).answer 0
    else s.answer 2) s

/-- ADD_CAPACITY_RESPONSE: the host accepts or refuses an Offered extent (R384). -/
def execAddCapacityResponse (x : Fin 4096) (accept : Bool) (s : State) : Res :=
  let e := s.extent x.val
  guarded (s.running && s.ofDynamic x.val && decide (e.state = 3 ∨ (e.state = 6 ∧ e.before = 3))) (fun s =>
    let st := if accept then 2 else 5
    let s1 := s.setExtent x.val (fun q => { q with postedAt := none, before := if accept then 2 else q.before })
    if e.state = 6 ∧ accept = true then s1 else s1.setExtState x.val st) s

/-- RELEASE_CAPACITY_RESPONSE: the host releases an extent, which becomes Released at the next boundary (R384). -/
def execReleaseCapacityResponse (x : Fin 4096) (s : State) : Res :=
  let e := s.extent x.val
  guarded (s.running && s.ofDynamic x.val && decide (e.state = 4 ∨ (e.state = 6 ∧ e.before = 4)))
    (State.setExtent x.val (fun q => { q with releaseOwed := true, postedAt := none })) s

/-- DC_ANSWER_TIMEOUT: the host has not answered for D:5000.09 beats (R384). -/
def execDcAnswerTimeout (x : Fin 4096) (s : State) : Res :=
  guarded (s.running && match (s.extent x.val).postedAt with
    | some b => decide (b + s.setting 0x5000 9 ≤ s.ep.beat)
    | none => false) (fun s => (s.setExtent x.val (fun q => { q with postedAt := none })).raise 226) s

/-- A CXL.mem request that is not forwarded (R385): a read gets poison, a write its completion. DEDUCED: log entry 26. -/
def State.memRefused (m : MemReq) (absent : Bool) (s : State) : State :=
  let p := (s.portOfVh m.host).getD 176
  let s1 := ((s.emitOn p (.memAnswer p m.tagNo m.write true)).bump 0x5000 0xB).raise (if absent then 223 else 224)
  if m.write then s1.aer m.host none aerInternal else s1

/-- An extent state in which requests are served: Assigned, Offered, Releasing or Impaired (R384 to R386). -/
def extServes (st : Nat) : Bool := decide (st = 2 ∨ st = 3 ∨ st = 4 ∨ st = 6)

/-- Forward a CXL.mem request whose entry is granted, or refuse it by the state of its extent and member now (R385,
R696), under the tables of its entry epoch (R23). -/
def State.memForward (m : MemReq) (s : State) : State :=
  match m.extent with
  | none => s.memRefused m false
  | some x =>
    if !extServes (s.extent x).state then s.memRefused m false
    else if !s.devReady m.dev then s.memRefused m true
    else
      let d := s.devIn (s.tablesOf m.tag) m.dev
      let s1 := s.allocTrack { budget := .vh m.host, reqPort := (s.portOfVh m.host).getD 176, cplPort := d.port, cplLd := d.ld, tagNo := m.tagNo,
                               remaining := 64, addr := m.addr, write := m.write, cxlMem := true, extent := some x,
                               deadline := s.ep.beat + s.setting 0x40F3 m.host }
      s1.emitOn d.port (if m.write then .devWrite m.dev m.dpa m.data m.mask m.poison else .devRead m.dev m.dpa 64)

/-- The pool prefetch that a good read of a private prefetchable extent triggers: the following lines up to 256 B in the
same granule (R387). -/
def State.poolPrefetch (x a : Nat) (s : State) : State :=
  let d := s.extIn s.ep.live x
  let g := d.granule
  let o := a - d.offset * unitBytes
  let start := a + 64
  let len := min 256 (g - (o % g + 64))
  let m := (d.decode start)
  if d.prefetch ∧ d.use = 1 ∧ (s.extent x).state = 2 ∧ len ≠ 0 ∧ s.masterOpen none none = true ∧ ¬ s.masterZero none none = true ∧
      s.host.masterWait.isEmpty ∧ ¬ s.pool.lines.any (fun h => decide (h.extent = x ∧ h.granule = o / g)) = true ∧ (1 : Int) ≤ s.sharedFree then
    let h : Lines := { extent := x, granule := o / g, start := start, len := len }
    let s1 := { s with pool := { s.pool with lines := s.pool.lines ++ [h] } }
    (s1.allocTrack { budget := .master, cplPort := s.devPort m.1, reqPort := 176, addr := start, remaining := len, cxlMem := true,
                     prefetch := true, extent := some x, deadline := s.ep.beat + s.setting 0x8062 3 }).emitOn (s.devPort m.1) (.devRead m.1 m.2 len)
  else s

/-- A CXL.mem request to a private endpoint seeks its tracker entry (R281, R381, R385, R689): it is refused under a cap of
zero or without an extent, forwarded, or it waits. -/
def State.memSeek (m : MemReq) (s : State) : State :=
  let b := Budget.vh m.host
  let t := s.tablesOf m.tag
  if s.budgetCapIn t b = 0 then s.refuseMem m.host m.tagNo m.write
  else if m.extent.isNone then s.memRefused m false
  else if s.budgetOpenIn t b && !s.fab.waiting.any (fun w => decide (w.budget = b)) then s.memForward m
  else { s with fab := { s.fab with waiting := s.fab.waiting ++ [{ budget := b, mem := some m }] } }

/-- The endpoint is visible to its host: bound to it, and not hidden under its protocol (R391). -/
def State.endpointOf (s : State) (v e : Nat) : Bool :=
  match bridgeOfEndpointIn s.ep.live e with
  | some (w, b) => decide (w = v) && s.bridgeInUse v b && !s.pool.hidden.look e false
  | none => false

/-- CXL_MEM_REQUEST: a host's request to a private endpoint (R378, R381, R385, R387): served from held lines, forwarded
to its member under a tracker entry, made to wait for one, or refused. DESIGN CHOICE: log entry 16. -/
def execCxlMemRequest (v : Fin 64) (e : Fin 1024) (addr : BitVec 64) (write : Bool) (tag : BitVec 16) (line : LineData) (poison : Bool) (s : State) : Res :=
  guarded (s.running && (s.portOfVh v.val).isSome && decide ((s.endpIn s.ep.live e.val).kind = 1)) (fun s =>
    let a := addr.toNat / 64 * 64
    let d := s.endpIn s.ep.live e.val
    let hit := if s.endpointOf v.val e.val ∧ a < d.size * unitBytes then ownerDecode s.ep.live 1 e.val a else none
    let m : MemReq := { host := v.val, extent := hit.map (·.1), dev := (hit.map (·.2.1)).getD 0, dpa := (hit.map (·.2.2)).getD 0,
                        addr := a, write := write, tagNo := tag.toNat, data := line.data.toNat, mask := line.mask.toNat, poison := poison, tag := s.ep.epoch % 4 }
    let over_ (h : Lines) : Bool := decide (m.extent = some h.extent ∧ h.start ≤ a ∧ a < h.start + h.len)
    let held := s.pool.lines.find? (fun h => h.ready && over_ h)
    let s := if write then { s with pool := { s.pool with lines := s.pool.lines.map (fun h => if over_ h then { h with stale := true } else h) } } else s
    match held with
    | some h =>
      if write then
        (s.discardLines { h with stale := true }).memSeek m
      else
        let s1 := { s with pool := { s.pool with lines := s.pool.lines.map (fun y =>
          if y = h ∧ y.used.contains a = false then { y with used := a :: y.used } else y) } }
        let p := (s.portOfVh v.val).getD 176
        (s1.bump 0x5000 0xC).emitOn p (.memAnswer p tag.toNat false false)
    | none => s.memSeek m) s

/-- POOL_PREFETCH_EXPIRY: held lines of a granule older than D:5000.08 beats are discarded (R387). -/
def execPoolPrefetchExpiry (x : Fin 4096) (granule : Nat) (s : State) : Res :=
  let h? := s.pool.lines.find? (fun h => decide (h.extent = x.val ∧ h.granule = granule) && h.ready && decide (h.since + s.setting 0x5000 8 ≤ s.ep.beat))
  guarded (s.running && h?.isSome) (fun s => match h? with
    | some h => s.discardLines h
    | none => s) s

/-- The endpoint answers its own mailbox: it is defined and bound (R380). -/
def State.endpointUp (s : State) (e : Nat) : Bool :=
  s.running && decide ((s.endpIn s.ep.live e).kind ≠ 0) && (bridgeOfEndpointIn s.ep.live e).any (fun x => (s.bridge x.1 x.2).presence)

/-- IDENTIFY_MEMORY_DEVICE: total and volatile capacity in 256 MiB units; a dynamic endpoint's capacity is not static
(R380, R384; command code and fields of the CXL specification, log entry 6). -/
def execIdentifyMemoryDevice (e : Fin 1024) (s : State) : Res :=
  guarded (s.endpointUp e.val) (fun s =>
    let d := s.endpIn s.ep.live e.val
    s.emit (.endpoint e.val 0x4000 [d.size, if d.dynamic then 0 else d.size, 0])) s

/-- GET_PARTITION_INFO: active volatile and persistent capacity (R380). PRESUMED: log entry 6. -/
def execGetPartitionInfo (e : Fin 1024) (s : State) : Res :=
  guarded (s.endpointUp e.val) (fun s =>
    let d := s.endpIn s.ep.live e.val
    s.emit (.endpoint e.val 0x4100 [if d.dynamic then 0 else d.size, 0])) s

/-- GET_EVENT_RECORDS: the endpoint's event records, oldest first (R380, R381). PRESUMED: log entry 6. -/
def execGetEventRecords (e : Fin 1024) (s : State) : Res :=
  guarded (s.endpointUp e.val) (fun s =>
    s.emit (.endpoint e.val 0x0100 ((s.pool.events.look e.val []).flatMap (fun r => [r.handle, r.kind, r.dpa, r.body])))) s

/-- CLEAR_EVENT_RECORDS: the records that the handles name are cleared (R380). -/
def execClearEventRecords (e : Fin 1024) (handles : List (BitVec 16)) (s : State) : Res :=
  guarded (s.endpointUp e.val) (fun s =>
    let left := (s.pool.events.look e.val []).filter (fun r => !handles.any (fun h => decide (h.toNat = r.handle)))
    ({ s with pool := { s.pool with events := s.pool.events.put e.val left } }).emit (.endpoint e.val 0x0101 [])) s

/-- DEVICE_EVENT_RECORD: a member device's event that names a device address is relayed to each endpoint that holds the
address, as the endpoint's own (R381). -/
def execDeviceEventRecord (d : Fin 256) (event : DeviceEvent) (s : State) : Res :=
  guarded (s.running && s.devReady d.val) (fun s =>
    s.each ((extentsUsed s.ep.live).filter (fun x => decide (x.2.devBase * unitBytes ≤ event.dpa.toNat ∧ event.dpa.toNat < (x.2.devBase + x.2.devSize) * unitBytes))) (fun x s =>
      match x.2.members.findIdx? (fun m => decide (m = d.val)) with
      | none => s
      | some i =>
        let a := x.2.encode i event.dpa.toNat
        if x.2.use = 1 then s.postEvent x.2.owner 0 a event.body.toNat
        else s.each ((endpoints s.ep.live).filter (fun e => decide (e.2.kind = 2 ∧ e.2.region = x.2.owner))) (fun e s => s.postEvent e.1 0 a event.body.toNat))) s

end Sys2Proof.Machine
end

