-- ==== Sys2Proof/Machine/Ledger.lean ====
section
/-!
DEFINITION. The coherence home and its ledger (chapter 12): entries and counts, the state tables of R411 and R412,
recalls, resets, departures and banks, as operations on one line of one page.
-/

namespace Sys2Proof.Machine

/-! ### Home messages to hosts (R397), by code -/

/-- Cmp-S with MemData. -/
def cxlCmpS : Nat := 1
/-- Cmp-E with MemData. -/
def cxlCmpED : Nat := 2
/-- Cmp-E. -/
def cxlCmpE : Nat := 3
/-- MemData with MetaValue No-Op, and Cmp. -/
def cxlCur : Nat := 4
/-- Cmp. -/
def cxlCmp : Nat := 5
/-- BISnpData. -/
def cxlSnpData : Nat := 6
/-- BISnpCur. -/
def cxlSnpCur : Nat := 7
/-- BISnpInv. -/
def cxlSnpInv : Nat := 8
/-- BIConflictAck. -/
def cxlConflictAck : Nat := 9
/-- MemData for a violating read. -/
def cxlData : Nat := 10

/-! ### Entries -/

/-- The home entry of a page, if it is tracked (R398). -/
def State.entry (s : State) (r p : Nat) : Option Entry :=
  s.home.entries.find? (fun e => decide (e.region = r ∧ e.page = p) && !e.shadow)

/-- Change the home entry of a page. -/
def State.setEntry (r p : Nat) (f : Entry → Entry) (s : State) : State :=
  { s with home := { s.home with entries := s.home.entries.map (fun e =>
    if e.region = r ∧ e.page = p ∧ e.shadow = false then f e else e) } }

/-- Lines of a page that a hierarchy holds (R399). -/
def Entry.held (e : Entry) (v : Nat) : Nat := e.counts.look v 0

/-- Hierarchies whose sharers bit is set (R398). -/
def Entry.sharers (e : Entry) : List Nat := (e.counts.filter (fun c => decide (c.2 ≠ 0))).map (·.1)

/-- Home state of a line; a line in S whose page has no sharer is in I (R400). -/
def Entry.line (e : Entry) (l : Nat) : Nat :=
  let st := e.state.look l 0
  if st = 1 ∧ e.sharers.isEmpty then 0 else st

/-- Owner of a line in E or M. -/
def Entry.ownerOf (e : Entry) (l : Nat) : Option Nat := if 2 ≤ e.state.look l 0 then some (e.owner.look l 0) else none

/-- The slot of a line, if a transaction is in progress (R410). -/
def State.homeSlot (s : State) (r p l : Nat) : Option HomeSlot :=
  s.home.slots.find? (fun q => decide (q.region = r ∧ q.page = p ∧ q.line = l))

/-- Change the slot of a line. -/
def State.setSlot12 (r p l : Nat) (f : HomeSlot → HomeSlot) (s : State) : State :=
  { s with home := { s.home with slots := s.home.slots.map (fun q => if q.region = r ∧ q.page = p ∧ q.line = l then f q else q) } }

/-- Open a slot. -/
def State.openSlot (q : HomeSlot) (s : State) : State := { s with home := { s.home with slots := s.home.slots ++ [q] } }

/-- Slots open on a page. -/
def State.slotsOf (s : State) (r p : Nat) : List HomeSlot := s.home.slots.filter (fun q => decide (q.region = r ∧ q.page = p))

/-- Hierarchies that bind an endpoint of a region and are not removed from it: its sharing group (R389, R416, R419). -/
def State.sharingGroup (s : State) (r : Nat) : List Nat :=
  (List.range 64).filter (fun v =>
    (endpoints s.ep.live).any (fun e => decide (e.2.kind = 2 ∧ e.2.region = r) && s.endpointOf v e.1) &&
    !s.home.departed.any (fun d => decide (d.region = r ∧ d.host = v)) && !s.home.timedOut.contains (r, v))

/-- A host is in the departed mask of a region (R419). -/
def State.hasDeparted (s : State) (r v : Nat) : Bool := s.home.departed.any (fun d => decide (d.region = r ∧ d.host = v))

/-- Write a line's state, owner and one count, with the change record (R399, R619 kind 1). Count changes: 0 none, 1 add,
2 subtract, 3 set to zero. A count that would leave its range stays and the page is to be reset (R399, R422). -/
def State.setLine (r p l st ow v chg : Nat) (s : State) : State :=
  match s.entry r p with
  | none => s
  | some e =>
    let n := e.held v
    let bad := (decide (chg = 1) && decide (64 ≤ n)) || (decide (chg = 2) && decide (n = 0))
    let n' := if bad then n else if chg = 1 then n + 1 else if chg = 2 then n - 1 else if chg = 3 then 0 else n
    let counts := if chg = 0 then e.counts else if n' = 0 then e.counts.del v else e.counts.put v n'
    let s1 := s.setEntry r p (fun e => { e with
      counts := counts
      state := if st = 0 then e.state.del l else e.state.put l st
      owner := if 2 ≤ st then e.owner.put l ow else e.owner.del l
      resetNow := e.resetNow || (bad && !e.resetting)
      recent := e.recent || decide (chg = 1) })
    s1.mirror 1 [e.bank, e.set, e.way, l, st, ow, v, if bad then 0 else chg] []

/-- Change a line's state, keeping its counts. -/
def State.lineTo (r p l st ow : Nat) (s : State) : State := s.setLine r p l st ow 0 0

/-! ### Memory and messages -/

/-- Region address of a line. -/
def lineAddr (p l : Nat) : Nat := p * 4096 + l * 64

/-- The tables under which the slot of a line works: those of its transaction's entry epoch (R23). -/
def State.lineTables (s : State) (r p l : Nat) : Tbl Nat :=
  match s.homeSlot r p l with
  | some k => s.tablesOf k.tag
  | none => s.ep.live

/-- Read a line from its member (R407); shared with the request's tracker entry (R693). -/
def State.readLine (r p l : Nat) (s : State) : State :=
  match ownerDecode (s.lineTables r p l) 2 r (lineAddr p l) with
  | some (x, d, a) => if s.devReady d && extServes (s.extent x).state then s.emitOn (s.devPort d) (.devRead d a 64) else (s.bump 0x5000 0xB).raise 223
  | none => (s.bump 0x5000 0xB).raise 224

/-- Write a line to its member, charged to the master budget (R407, R423). -/
def State.writeLine (r p l data mask : Nat) (poison : Bool) (s : State) : State :=
  match ownerDecode (s.lineTables r p l) 2 r (lineAddr p l) with
  | some (x, d, a) =>
    if s.devReady d && extServes (s.extent x).state then
      s.masterIssue { port := s.devPort d, addr := a, len := 64, write := true, out := .devWrite d a data mask poison }
    else (s.bump 0x5000 0xB).raise 223
  | none => (s.bump 0x5000 0xB).raise 224

/-- The master entry of a line's write frees (R280, R407). -/
def State.writeFreed (r p l : Nat) (s : State) : State :=
  match ownerDecode (s.lineTables r p l) 2 r (lineAddr p l) with
  | some (_, d, a) => s.masterDone (s.devPort d) a true
  | none => s

/-- Send a message of R397 that follows from a change: held until the twin acknowledges its record (R408). -/
def State.tell (v c r p l : Nat) (data : Option Nat) (poison : Bool) (s : State) : State :=
  s.emitVh v (.cxl v c r p l data poison)

/-- Send a snoop to the hosts of a mask (R405). -/
def State.snoop (c r p l : Nat) (mask : List Nat) (s : State) : State :=
  ((s.each mask (fun v s => s.emitOn ((s.portOfVh v).getD 176) (.cxl v c r p l none false))).bump 0x5100 0xD).countBy mask.length 0x5100 0xE

/-- A page is to be reset for a cause of its own entry (R399, R422, R424, R427): each line as soon as it has no open slot. -/
def State.duePageReset (r p : Nat) (s : State) : State :=
  s.setEntry r p (fun e => { e with resetNow := e.resetNow || !e.resetting })

/-- A page is to be reset after a violation (R414, R422): once its open slots end, unless a reset is already running. -/
def State.owePageReset (r p : Nat) (s : State) : State :=
  s.setEntry r p (fun e => { e with resetOwed := e.resetOwed || !e.resetting })

/-- A violation (R414): the message is completed without effect and the page is to be reset. -/
def State.violate (r p l : Nat) (q : Request) (s : State) : State :=
  let s1 := match q.op with
    | .rds | .rdown | .rdcur => s.tell q.host cxlData r p l none true
    | _ => s.tell q.host cxlCmp r p l none false
  let s2 := match q.track with
    | some i => s1.freeTrack i
    | none => s1
  ((s2.bump 0x5100 6).raise 233).owePageReset r p

/-- A stray message (R411). -/
def State.stray (s : State) : State := (s.bump 0x5100 8).raise 239

/-- The requester's tracker entry has been reported, or it has departed: it is served no more (R418). -/
def State.gone (s : State) (r : Nat) (q : Request) (dropped : Bool) : Bool :=
  dropped || s.hasDeparted r q.host || match q.track with
    | some i => match s.track i with
      | some t => t.expired
      | none => true
    | none => false

/-- Grant a read or an ownership (R411, R413): the count, the state and the message; the tracker entry frees. Where the
requester is gone nothing is sent, and the line takes the state of R418: I, or for an RdS the state it has. -/
def State.grant (r p l : Nat) (q : Request) (dropped : Bool) (data : Option Nat) (poison : Bool) (s : State) : State :=
  if s.gone r q dropped then
    match q.op with
    | .rdown | .own => s.lineTo r p l 0 0
    | _ => s
  else
    let s1 := match q.op with
      | .rds => (s.setLine r p l 1 0 q.host 1).tell q.host cxlCmpS r p l data poison
      | .rdown => (s.setLine r p l 2 q.host q.host 1).tell q.host cxlCmpED r p l data poison
      | .own => (s.setLine r p l 3 q.host q.host 1).tell q.host cxlCmpE r p l none false
      | _ => s.tell q.host cxlCur r p l data poison
    match q.track with
    | some i => s1.freeTrack i
    | none => s1

/-! ### R411: requests and evictions -/

/-- The class that the home gives a write: from the owner an eviction or a writeback, from another host a Wr (R396).
DEDUCED: log entry 29. DESIGN CHOICE: log entry 48. -/
def classify (owner : Option Nat) (q : Request) : CxlOp :=
  match q.op with
  | .evd => if owner = some q.host then .evd else .wr
  | .wbkeep => if owner = some q.host then .wbkeep else .wr
  | .wr => if owner = some q.host then .evd else .wr
  | o => o

/-- Open a slot in RD for a request (R411). -/
def State.openRd (r p l : Nat) (q : Request) (s : State) : State :=
  (s.openSlot { region := r, page := p, line := l, state := .rd, purpose := .request, req := some q, tag := q.tag,
                prior := match s.entry r p with | some e => e.line l | none => 0 }).readLine r p l

/-- Open a slot in SN with a snoop (R411, R412, R421). -/
def State.openSn (r p l c : Nat) (mask : List Nat) (purpose : Purpose) (q : Option Request) (s : State) : State :=
  (s.openSlot { region := r, page := p, line := l, state := .sn, purpose := purpose, req := q, pendingSet := mask,
                tag := match q with | some x => x.tag | none => s.ep.epoch % 4,
                prior := match s.entry r p with | some e => e.line l | none => 0, since := s.ep.beat }).snoop c r p l mask

/-- Open a slot in WR that writes data and then takes a target state (R411). -/
def State.openWr (r p l target : Nat) (purpose : Purpose) (q : Request) (s : State) : State :=
  (s.openSlot { region := r, page := p, line := l, state := .wr, purpose := purpose, req := if purpose = .request then some q else none, tag := q.tag,
                data := some q.data, mask := q.mask, target := target, cmps := [q.host] }).writeLine r p l q.data q.mask false

/-- Bytes of a line: those of b that a mask names, else those of a. -/
def mergeLine (a b mask : Nat) : Nat :=
  ((List.range 64).map (fun i => (if mask.testBit i then b else a) / 2 ^ (8 * i) % 256 * 2 ^ (8 * i))).sum

/-- A slot holds the data of a write, over any that it holds (R411). -/
def HomeSlot.hold (q : Request) (x : HomeSlot) : HomeSlot :=
  { x with data := some (mergeLine (x.data.getD 0) q.data q.mask), mask := (if x.data.isSome then x.mask else 0) ||| q.mask
           cmps := x.cmps ++ [q.host] }

/-- The data that a slot holds, where it is the whole line (R413). -/
def HomeSlot.whole (x : HomeSlot) : Option Nat := if x.mask = 2 ^ 64 - 1 then x.data else none

/-- A request or eviction for a line without a slot (R411, states I, S, E and M). -/
def State.stable (r p l : Nat) (e : Entry) (q : Request) (s : State) : State :=
  let st := e.line l
  let others := e.sharers.filter (fun v => decide (v ≠ q.host) && !s.hasDeparted r v)
  match e.ownerOf l with
  | none =>
    match classify none q with
    | .rds | .rdcur => s.openRd r p l q
    | .rdown => if st = 0 ∨ others = [] then s.openRd r p l q else s.openSn r p l cxlSnpInv others .request (some q)
    | .own => if st = 0 ∨ others = [] then s.grant r p l q false none false else s.openSn r p l cxlSnpInv others .request (some q)
    | .evc => if st = 0 then s.violate r p l q else (s.setLine r p l 1 0 q.host 2).tell q.host cxlCmp r p l none false
    | _ => if st = 0 ∨ others = [] then s.openWr r p l 0 .request q else s.openSn r p l cxlSnpInv others .request (some q)
  | some o =>
    let mask := [o].filter (fun v => !s.hasDeparted r v)
    match classify (some o) q with
    | .rds => if o = q.host then s.violate r p l q else s.openSn r p l cxlSnpData mask .request (some q)
    | .rdown | .own => if o = q.host then s.violate r p l q else s.openSn r p l cxlSnpInv mask .request (some q)
    | .rdcur => if o = q.host then s.violate r p l q else s.openSn r p l cxlSnpCur mask .request (some q)
    | .evc => if o = q.host then (s.setLine r p l 0 0 o 2).tell o cxlCmp r p l none false else s.violate r p l q
    | .evd => (s.setLine r p l (e.line l) o o 2).openWr r p l 0 .eviction q
    | .wbkeep => s.openWr r p l (if q.toShared then 1 else 2) .eviction q
    | .wr => s.openSn r p l cxlSnpInv mask .request (some q)

/-- A request or eviction for a line whose slot is open (R411, states RD, SN and WR). -/
def State.inSlot (r p l : Nat) (e : Entry) (k : HomeSlot) (q : Request) (s : State) : State :=
  let queue (s : State) : State := s.setSlot12 r p l (fun x => { x with queue := x.queue ++ [q] })
  match k.state with
  | .rd => match q.op with
    | .evc => (s.setLine r p l (e.state.look l 0) (e.owner.look l 0) q.host 2).tell q.host cxlCmp r p l none false
    | _ => queue s
  | .sn => match classify (e.ownerOf l) q with
    | .evc =>
      if k.pendingSet.contains q.host && !k.seen.contains q.host then
        ((s.setSlot12 r p l (fun x => { x with seen := q.host :: x.seen })).setLine r p l (e.state.look l 0) (e.owner.look l 0) q.host 2).tell
          q.host cxlCmp r p l none false
      else s.violate r p l q
    | .evd =>
      if k.pendingSet.contains q.host && !k.seen.contains q.host then
        (s.setSlot12 r p l (fun x => { x.hold q with seen := q.host :: x.seen })).setLine
          r p l (e.state.look l 0) (e.owner.look l 0) q.host 2
      else s.violate r p l q
    | .wbkeep =>
      if k.pendingSet.contains q.host then
        s.setSlot12 r p l (HomeSlot.hold q)
      else s.violate r p l q
    | _ => queue s
  | .wr => match q.op with
    | .evc | .evd | .wbkeep => s.setSlot12 r p l (fun x => { x with heldMsgs := x.heldMsgs ++ [q] })
    | _ => queue s

/-- Whether a message is an eviction, which never waits for an entry or a recall (R402, R421). -/
def isEviction (o : CxlOp) : Bool := match o with
  | .evc | .evd | .wbkeep => true
  | _ => false

/-! ### Recall and page reset (R420 to R422) -/

/-- A host that is not departed. -/
def State.present (s : State) (r : Nat) (l : List Nat) : List Nat := l.filter (fun v => !s.hasDeparted r v)

/-- Start the recall of one line without an open slot (R421). -/
def State.recallLine (r p l : Nat) (s : State) : State :=
  match s.entry r p, s.homeSlot r p l with
  | some e, none =>
    let mask := match e.ownerOf l with
      | some o => s.present r [o]
      | none => if e.line l = 1 then s.present r e.sharers else []
    if e.line l = 0 then s
    else if mask = [] then s.lineTo r p l 0 0
    else s.openSn r p l cxlSnpInv mask .recalling none
  | _, some _ => s.setSlot12 r p l (fun x => { x with recallOwed := true })
  | none, _ => s

/-- Flags of an entry changed: the record of kind 4 (R619). -/
def State.flagsMirror (r p : Nat) (s : State) : State :=
  match s.entry r p with
  | some e => s.mirror 4 [e.bank, e.set, e.way, if e.recalling then 1 else 0, if e.uncertain then 1 else 0] []
  | none => s

/-- Recall a page (R421). -/
def State.recallPage (r p : Nat) (s : State) : State :=
  match s.entry r p with
  | some e =>
    if e.recalling then s
    else
      let s1 := (s.setEntry r p (fun e => { e with recalling := true })).flagsMirror r p
      ((s1.each (List.range 64) (fun l s => s.recallLine r p l)).bump 0x5100 4).raise 237
  | none => s

/-- Start the reset slot of a line, which every host of the sharing group is snooped for; with no host it is done at once. A line
with an open slot starts it when that slot ends (R421, R422). -/
def State.resetLine (r p l : Nat) (s : State) : State :=
  let group := s.sharingGroup r
  if (s.homeSlot r p l).isSome then s.setSlot12 r p l (fun x => { x with recallOwed := true })
  else if group = [] then (s.lineTo r p l 0 0).setEntry r p (fun e => { e with resetDone := l :: e.resetDone })
  else s.openSn r p l cxlSnpInv group .reset none

/-- Start the reset of a page that is due, or that is owed once no slot of the page is open; it replaces a recall (R414, R422). -/
def State.resetIfOwed (r p : Nat) (s : State) : State :=
  match s.entry r p with
  | some e =>
    if (e.resetNow || (e.resetOwed && (s.slotsOf r p).isEmpty)) && !e.resetting then
      let s1 := (s.setEntry r p (fun e => { e with
        recalling := true, resetting := true, resetOwed := false, resetNow := false, resetDone := [] })).flagsMirror r p
      (s1.each (List.range 64) (fun l s => s.resetLine r p l)).bump 0x5100 5
    else s
  | none => s

/-! ### Allocation (R401, R402, R420) -/

/-- Ledger key of a page (R401). -/
def ledgerKey (r p : Nat) : Nat := r * 2 ^ 56 + p % 2 ^ 34

/-- A ledger bank is usable: here and, while the pair mirrors, on the twin too (R428, R625). -/
def State.bankUsable (s : State) (b : Nat) : Bool :=
  decide (s.home.bankState.look b 0 = 0) && !(s.mirroring && decide (s.twin.store.look (key 0x5101 b) 0 ≠ 0))

/-- The bank map: the next usable bank at or above a hash, wrapping (R401, R428). -/
def State.bankFor (s : State) (h : Nat) : Nat :=
  match ((List.range 16).map (fun i => (h % 16 + i) % 16)).find? s.bankUsable with
  | some b => b
  | none => h % 16

/-- Bank and set of a page (R401). -/
def State.placeOf (s : State) (r p : Nat) : Nat × Nat :=
  let h := crc32c (ledgerKey r p)
  (s.bankFor h, bits h 13 4)

/-- Allocate an entry for a page in a free way of its set, if there is one (R402). -/
def State.allocEntry (r p : Nat) (s : State) : Option State :=
  let k := s.placeOf r p
  let taken := (s.home.entries.filter (fun e => decide (e.bank = k.1 ∧ e.set = k.2))).map (·.way)
  if s.home.bankState.look k.1 0 ≠ 0 then none
  else match (List.range 16).find? (fun w => !taken.contains w) with
    | some w =>
      let e : Entry := { bank := k.1, set := k.2, way := w, region := r, page := p }
      some (({ s with home := { s.home with entries := s.home.entries ++ [e] } }).mirror 2 [k.1, k.2, w] [ledgerKey r p])
    | none => none

/-- Sum of the numbers of lines of an entry (R420). -/
def Entry.total (e : Entry) : Nat := (e.counts.map (·.2)).sum

/-- Order of victims: recent clear first, then the lowest sum, then the lowest way (R420). -/
def Entry.rank (e : Entry) : Nat := (if e.recent then 2 ^ 20 else 0) + e.total * 16 + e.way

/-- The entry of least rank. -/
def leastEntry : List Entry → Option Entry
  | [] => none
  | e :: r => match leastEntry r with
    | none => some e
    | some f => if e.rank ≤ f.rank then some e else some f

/-- Home entries of a set. -/
def State.setHomes (s : State) (b t : Nat) : List Entry := s.home.entries.filter (fun e => decide (e.bank = b ∧ e.set = t) && !e.shadow)

/-- When every home entry of a set has recent set, recent is cleared in all of them (R420). -/
def State.clearRecent (b t : Nat) (s : State) : State :=
  if (s.setHomes b t).all (·.recent) then
    { s with home := { s.home with entries := s.home.entries.map (fun e =>
      if e.bank = b ∧ e.set = t ∧ e.shadow = false then { e with recent := false } else e) } }
  else s

/-- Recall the victim of a set (R420, R625); where no entry of it can be recalled, do what is given instead. -/
def State.recallIn (b t : Nat) (instead : State → State) (s : State) : State :=
  let s1 := s.clearRecent b t
  match leastEntry ((s1.setHomes b t).filter (fun e => !e.recalling)) with
  | some v => s1.recallPage v.region v.page
  | none => instead s1

/-- Recall a victim of a set so that an allocation can proceed (R420); where no entry can be recalled the allocation
waits, and on a paired module the twin is asked to recall (R625). -/
def State.makeRoom (r p : Nat) (s : State) : State :=
  let k := s.placeOf r p
  s.recallIn k.1 k.2 (fun s => if s.mirroring then s.garnetSend 3 7 [k.1 + 16 * k.2] 0 else s)

/-! ### One message at the home -/

/-- The home slice that serves a page: that of its entry's bank, or of the bank where it would be allocated (R208, R401). -/
def State.sliceOf (s : State) (r p : Nat) : Nat :=
  match s.entry r p with
  | some e => e.bank / 2
  | none => (s.placeOf r p).1 / 2

/-- Slots in use of a home slice: an open slot and each waiting request hold one (R406). -/
def State.sliceSlots (s : State) (n : Nat) : Nat :=
  ((s.home.slots.filter (fun k => decide (s.sliceOf k.region k.page = n))).map (fun k => 1 + k.queue.length + k.heldMsgs.length)).sum +
    (s.home.allocs.filter (fun a => decide (s.sliceOf a.region a.page = n))).length

/-- A request waits in a list of its own for its entry or for the end of what keeps it back (R403, R419, R421). -/
def State.waitHome (r p l : Nat) (q : Request) (s : State) : State :=
  { s with home := { s.home with allocs := s.home.allocs ++ [{ region := r, page := p, line := l, req := q }] } }

/-- A request to a page with no entry allocates one, or waits while room is made (R403, R420). -/
def State.arriveNew (r p l : Nat) (q : Request) (s : State) : State :=
  if q.op = .evc then s.violate r p l q
  else match s.allocEntry r p with
    | some s1 => match s1.entry r p with
      | some e => s1.stable r p l e q
      | none => s1
    | none => (s.waitHome r p l q).makeRoom r p

/-- A request to a page with an entry: it joins the line's home slot, or takes effect; a line owned by a host that departed is I
first (R419). -/
def State.arriveKnown (r p l : Nat) (q : Request) (e : Entry) (s : State) : State :=
  match s.homeSlot r p l with
  | some k => (s.inSlot r p l e k q).resetIfOwed r p
  | none =>
    let lost := (e.ownerOf l).any (fun o => s.hasDeparted r o)
    let s1 := if lost then s.lineTo r p l 0 0 else s
    match s1.entry r p with
    | some e => (s1.stable r p l e q).resetIfOwed r p
    | none => s1

/-- A host message reaches its page's home (R402, R404, R406, R411, R419, R421, R424): discarded or waiting after a departure,
left on the ring, waiting for an entry, a recall or a reset, or acted on by the tables. -/
def State.arrive (r p l : Nat) (q : Request) (s : State) : State :=
  if s.hasDeparted r q.host then (if isEviction q.op then s else s.waitHome r p l q)
  else if s.twin.moving = some r ∧ isEviction q.op = false then s.waitHome r p l q
  else if isEviction q.op = false ∧ 1792 ≤ s.sliceSlots (s.sliceOf r p) then
    { s with home := { s.home with ring := s.home.ring ++ [{ region := r, page := p, line := l, req := q }] } }
  else if q.unlisted then (s.violate r p l q).resetIfOwed r p
  else match s.entry r p with
    | none => s.arriveNew r p l q
    | some e =>
      if (e.recalling || e.uncertain || e.resetOwed) && !isEviction q.op then s.waitHome r p l q
      else s.arriveKnown r p l q e

/-- Try again every message that waits for an entry or a page, and those left on the ring (R402, R406, R419, R421). -/
def State.retryAllocs (s : State) : State :=
  let w := s.home.allocs ++ s.home.ring
  ({ s with home := { s.home with allocs := [], ring := [] } }).each w (fun a s => s.arrive a.region a.page a.line a.req)

/-- Take the requests left on the ring again, in order (R406). -/
def State.takeRing (s : State) : State :=
  let w := s.home.ring
  ({ s with home := { s.home with ring := [] } }).each w (fun a s => s.arrive a.region a.page a.line a.req)

/-- A slot ends (R412, R413): a marked recall or reset of the line starts, the held messages are acted on, then the queue, and a reset that is
owed starts once no slot of the page is open. -/
def State.endSlot (k : HomeSlot) (s : State) : State :=
  let s1 := { s with home := { s.home with slots := s.home.slots.filter (fun q =>
    !decide (q.region = k.region ∧ q.page = k.page ∧ q.line = k.line)) } }
  let doRecall := match s1.entry k.region k.page with
    | some e => e.recalling && !e.resetting && !e.resetOwed
    | none => false
  let resetting := match s1.entry k.region k.page with
    | some e => e.resetting
    | none => false
  let s2 := if doRecall then s1.recallLine k.region k.page k.line else s1
  let s3 := if k.purpose = .reset then s2.setEntry k.region k.page (fun e => { e with resetDone := k.line :: e.resetDone })
    else if resetting then s2.resetLine k.region k.page k.line else s2
  ((s3.each (k.heldMsgs ++ k.queue) (fun q s => s.arrive k.region k.page k.line q)).resetIfOwed k.region k.page).takeRing

/-! ### R412, R413: responses and events -/

/-- Serve a slot's purpose after its snoops, and after its write when there was one (R413). -/
def State.servePurpose (k : HomeSlot) (s : State) : State :=
  let r := k.region
  let p := k.page
  let l := k.line
  match k.purpose, k.req with
  | .request, some q =>
    let rd (s : State) : State := (s.setSlot12 r p l (fun x => { x with state := .rd })).readLine r p l
    match q.op with
    | .rds =>
      let s1 := if k.prior ≤ 1 then s else s.lineTo r p l (if k.answer ≠ 0 then 1 else 0) 0
      if k.whole.isSome || s.gone r q k.dropped then (s1.grant r p l q k.dropped k.whole k.poison).endSlot k else rd s1
    | .rdown =>
      let s1 := s.lineTo r p l 0 0
      if k.whole.isSome || s.gone r q k.dropped then (s1.grant r p l q k.dropped k.whole k.poison).endSlot k else rd s1
    | .own => ((s.lineTo r p l 0 0).grant r p l q k.dropped none false).endSlot k
    | .rdcur =>
      let ow := match s.entry r p with | some e => e.owner.look l 0 | none => 0
      let s1 := if k.prior ≤ 1 then s else s.lineTo r p l (if k.answer = 2 then 2 else if k.answer = 1 then 1 else 0) ow
      if k.whole.isSome || s.gone r q k.dropped then (s1.grant r p l q k.dropped k.whole k.poison).endSlot k else rd s1
    | _ =>
      let s1 := s.lineTo r p l 0 0
      if s.gone r q k.dropped then s1.endSlot k
      else
        (s1.setSlot12 r p l (fun x => { x with state := .wr, serve := false, target := 0, cmps := x.cmps ++ [q.host], data := some q.data, mask := q.mask })).writeLine
          r p l q.data q.mask false
  | _, _ => (s.lineTo r p l 0 0).endSlot k

/-- A slot in SN whose pending set is empty completes (R413, R423): held data or poison is written first. -/
def State.finishSn (r p l : Nat) (s : State) : State :=
  match s.homeSlot r p l with
  | none => s
  | some k =>
    if k.state ≠ .sn ∨ k.pendingSet ≠ [] then s
    else match k.data with
      | some d => (s.setSlot12 r p l (fun x => { x with state := .wr, serve := true, poison := false })).writeLine r p l d k.mask false
      | none =>
        if k.poison then
          (((s.setSlot12 r p l (fun x => { x with state := .wr, serve := true })).writeLine r p l 0 (2 ^ 64 - 1) true).bump 0x5100 7).raise 238
        else s.servePurpose k

/-- A host leaves the pending set of a slot in SN (R412). -/
def State.unpend (r p l v : Nat) (f : HomeSlot → HomeSlot) (s : State) : State :=
  (s.setSlot12 r p l (fun x => f { x with pendingSet := x.pendingSet.filter (fun w => decide (w ≠ v)) })).finishSn r p l

/-- The slot of a line in SN that has a host pending. -/
def State.pendingSlot (s : State) (r p l v : Nat) : Option HomeSlot :=
  match s.homeSlot r p l with
  | some k => if k.state = .sn ∧ k.pendingSet.contains v then some k else none
  | none => none

/-- Hit-keep: the host held the line and keeps it, shared or exclusive (R412). -/
def State.hitKeep (r p l v : Nat) (excl : Bool) (s : State) : State :=
  match s.pendingSlot r p l v with
  | some _ => s.unpend r p l v (fun x => { x with answer := if excl then 2 else 1 })
  | none => s.stray

/-- Hit-drop: the host held the line and has dropped it (R412). -/
def State.hitDrop (r p l v : Nat) (s : State) : State :=
  match s.pendingSlot r p l v, s.entry r p with
  | some k, some e =>
    let s1 := if k.seen.contains v then s else s.setLine r p l (e.state.look l 0) (e.owner.look l 0) v 2
    (s1.unpend r p l v id).resetIfOwed r p
  | _, _ => s.stray

/-- Miss: the host did not hold the line; an owner that announced nothing leaves the poison mark (R412). -/
def State.missed (r p l v : Nat) (s : State) : State :=
  match s.pendingSlot r p l v, s.entry r p with
  | some k, some e =>
    let bad := decide (e.ownerOf l = some v) && !k.seen.contains v && k.data.isNone && decide (2 ≤ k.prior)
    s.unpend r p l v (fun x => { x with poison := x.poison || bad })
  | _, _ => s.stray

/-- Memory data arrives for a slot in RD (R412, R413). -/
def State.memoryData (r p l data : Nat) (poison : Bool) (s : State) : State :=
  match s.homeSlot r p l with
  | some k =>
    match k.state, k.req with
    | .rd, some q => (s.grant r p l q k.dropped (some data) poison).endSlot k
    | .rd, none => s.endSlot k
    | _, _ => s.stray
  | none => s.stray

/-- The messages held for a write are acted on in the state RD that it leaves: clean evictions at once, the others as Wr at the head
of the queue (R411, R412). -/
def State.actHeld (r p l : Nat) (s : State) : State :=
  match s.homeSlot r p l with
  | some k =>
    if k.state = .rd then
      let s1 := s.setSlot12 r p l (fun x => { x with heldMsgs := [], queue := x.heldMsgs.filter (fun q => decide (q.op ≠ .evc)) ++ x.queue })
      s1.each (k.heldMsgs.filter (fun q => decide (q.op = .evc))) (fun q s => s.arrive r p l q)
    else s
  | none => s

/-- A memory write of a slot in WR is done (R412): the completions that wait on it are sent; then the purpose is served,
or the target state is taken and the slot ends. -/
def State.writeDone (r p l : Nat) (s : State) : State :=
  match s.homeSlot r p l with
  | some k =>
    if k.state ≠ .wr then s.stray
    else
      let s0 := s.writeFreed r p l
      let s1 := s0.each (k.cmps.filter (fun v => !s.hasDeparted r v)) (fun v s => s.tell v cxlCmp r p l none false)
      let k1 := { k with cmps := [] }
      let s2 := s1.setSlot12 r p l (fun x => { x with cmps := [] })
      if k.serve then (s2.servePurpose k1).actHeld r p l
      else
        let ow := match s.entry r p with | some e => e.owner.look l 0 | none => 0
        (s2.lineTo r p l (if 2 ≤ k.target ∧ s.hasDeparted r ow = true then 0 else k.target) ow).endSlot k1
  | none => s.stray

/-! ### Departures (R416, R419) -/

/-- The Depart column of R412 for one open slot. -/
def State.departSlot (v : Nat) (k : HomeSlot) (s : State) : State :=
  let r := k.region
  let p := k.page
  let l := k.line
  let mine := match k.req with
    | some q => decide (q.host = v)
    | none => false
  let s1 := s.setSlot12 r p l (fun x => { x with
    dropped := x.dropped || mine
    queue := x.queue.filter (fun q => decide (q.host ≠ v))
    heldMsgs := x.heldMsgs.filter (fun q => decide (q.host ≠ v))
    cmps := x.cmps.filter (fun w => decide (w ≠ v))
    target := if 2 ≤ x.target ∧ (s.entry r p).any (fun e => decide (e.owner.look l 0 = v)) then 0 else x.target })
  if k.state = .sn ∧ k.pendingSet.contains v then s1.unpend r p l v id else s1

/-- A host departs from a region (R419): no message goes to it, its waiting requests are discarded, every open slot
applies the Depart column, its owned lines without a slot become I, and the sweep begins. -/
def State.depart (r v : Nat) (s : State) : State :=
  if s.hasDeparted r v then s
  else
    let gone : Departed := { region := r, host := v, sweeping := true }
    let s0 := { s with home := { s.home with
      departed := s.home.departed ++ [gone]
      allocs := s.home.allocs.filter (fun a => !decide (a.region = r ∧ a.req.host = v))
      ring := s.home.ring.filter (fun a => !decide (a.region = r ∧ a.req.host = v)) } }
    let s1 := s0.mirror 5 [v, r] []
    let s2 := s1.each (s1.home.slots.filter (fun k => decide (k.region = r))) (fun k s => s.departSlot v k)
    let clear (e : Entry) : Entry :=
      if e.region = r ∧ e.shadow = false then
        { e with state := e.state.filter (fun x => !(decide (2 ≤ x.2 ∧ e.owner.look x.1 0 = v) && (s2.homeSlot r e.page x.1).isNone)) }
      else e
    { s2 with home := { s2.home with entries := s2.home.entries.map clear } }

/-- A host departs from every region whose endpoint it binds or whose lines it holds (R132, R390, R419). -/
def State.departAll (v : Nat) (s : State) : State :=
  let rs := ((endpoints s.ep.live).filter (fun e => decide (e.2.kind = 2) && match bridgeOfEndpointIn s.ep.live e.1 with
    | some (w, _) => decide (w = v)
    | none => false)).map (fun e => e.2.region)
  let hs := (s.home.entries.filter (fun e => decide (e.held v ≠ 0))).map (·.region)
  s.each (rs ++ hs).eraseDups (fun r s => s.depart r v)

/-- The sweep of a region for a departed host ends (R419): its bits and counts clear, its owned lines are I, it leaves the
mask, and requests that waited for the sweep go on. -/
def State.sweepDone (r v : Nat) (s : State) : State :=
  let clear (e : Entry) : Entry :=
    if e.region = r then
      { e with
        counts := e.counts.del v
        state := e.state.filter (fun x => !(decide (2 ≤ x.2) && decide (e.owner.look x.1 0 = v)))
        owner := e.owner.filter (fun x => decide (x.2 ≠ v)) }
    else e
  let s1 := { s with home := { s.home with
    entries := s.home.entries.map clear
    departed := s.home.departed.filter (fun d => !decide (d.region = r ∧ d.host = v)) } }
  s1.retryAllocs

/-- Bytes of the entry of R398 that D:5110.02 shows, as one number of 1,024 bits. -/
def Entry.word (e : Entry) : Nat :=
  2 ^ 1023 + (if e.shadow then 2 ^ 1022 else 0) + (if e.recalling then 2 ^ 1021 else 0) + (if e.recent then 2 ^ 1020 else 0) +
    (if e.uncertain then 2 ^ 1019 else 0) + e.region % 256 * 2 ^ 1011 + e.page % 2 ^ 34 * 2 ^ 977 +
    (e.sharers.map (fun v => 2 ^ (913 + v))).sum +
    (e.counts.map (fun c => (c.2 - 1) % 64 * 2 ^ (6 * c.1 + 512))).sum +
    ((List.range 64).map (fun l => (e.state.look l 0 * 64 + (if 2 ≤ e.state.look l 0 then e.owner.look l 0 else 0)) * 2 ^ (8 * l))).sum

end Sys2Proof.Machine
end

