-- ==== Sys2Proof/Machine/Coherence.lean ====
section
/-!
DEFINITION. The commands of the coherence home (chapter 12): host messages, responses, memory events, recalls, sweeps,
scrub reads and bank retirement.
-/

namespace Sys2Proof.Machine

/-- Current home of a region: 0 this module, 1 the twin, 2 none (R615, R626, R631, R633). -/
def State.homeOf (s : State) (r : Nat) : Nat :=
  if s.twin.homes.has r then s.twin.homes.look r 0
  else if s.setting 0x9000 1 = 0 then 0
  else
    let mine := decide ((if (s.rgnIn s.ep.live r).homeTwin then 1 else 0) = s.setting 0x9000 2)
    match s.twin.state with
    | .holding => 2
    | .single => if mine then 0 else 2
    | .takenOver => 0
    | _ => if mine then 0 else 1

/-- The module serves a region for a host: it is the region's home and the host is in its sharing group (R385, R389,
R615). DEDUCED: log entry 29. -/
def State.serves (s : State) (r v : Nat) : Bool :=
  s.running && (s.rgnIn s.ep.live r).valid && decide (s.homeOf r = 0) &&
    (endpoints s.ep.live).any (fun e => decide (e.2.kind = 2 ∧ e.2.region = r) && s.endpointOf v e.1) &&
    !s.home.timedOut.contains (r, v)

/-- Home slots in use over all slices: an open slot and each waiting request hold one (R406). -/
def State.slotsInUse (s : State) : Nat :=
  (s.home.slots.map (fun k => 1 + k.queue.length + k.heldMsgs.length)).sum + s.home.allocs.length

/-- A read that needs a tracker entry obtains one, waits for one at its port stop, or is refused under a cap of zero
(R403, R689, R693); the others reach the home at once. -/
def State.portStop (r p l : Nat) (q : Request) (s : State) : State :=
  let b := Budget.vh q.host
  let port := (s.portOfVh q.host).getD 176
  let t := s.tablesOf q.tag
  if s.budgetCapIn t b = 0 then s.refuseMem q.host q.tagNo false
  else if s.budgetOpenIn t b && !s.fab.waiting.any (fun w => decide (w.budget = b)) then
    let i := s.freeIndex
    (s.allocTrack { budget := b, reqPort := port, cplPort := 176, tagNo := q.tagNo, remaining := 64, cxlMem := true,
                    deadline := s.ep.beat + s.setting 0x40F3 q.host }).arrive r p l { q with track := some i }
  else
    let w : Waiting := { budget := b, coh := some { region := r, page := p, line := l, req := q } }
    { s with fab := { s.fab with waiting := s.fab.waiting ++ [w] } }

/-- A message of a host to a shared endpoint that is bound to it can reach this module's home. -/
def State.reachesHome (s : State) (r v : Nat) : Bool :=
  s.running && (s.rgnIn s.ep.live r).valid && decide (s.homeOf r = 0) && (s.portOfVh v).isSome &&
    (endpoints s.ep.live).any (fun e => decide (e.2.kind = 2 ∧ e.2.region = r) && (match bridgeOfEndpointIn s.ep.live e.1 with
      | some (w, b) => decide (w = v) && s.bridgeInUse v b
      | none => false))

/-- A request to a hidden or removed endpoint, or above its size, is refused (R385, R391, R416): a read gets poison, any other
its completion; data that a write brings is discarded and reported. DEDUCED: log entry 29. -/
def State.cohRefused (q : Request) (s : State) : State :=
  let read := match q.op with
    | .rds | .rdown | .rdcur => true
    | _ => false
  let brings := match q.op with
    | .evd | .wr | .wbkeep => true
    | _ => false
  let p := (s.portOfVh q.host).getD 176
  let s1 := ((s.emitOn p (.memAnswer p q.tagNo (!read) read)).bump 0x5000 0xB).raise 224
  s1.ifDo brings (State.aer q.host none aerInternal)

/-- A message of a host to a shared endpoint: served by the home, or refused (R385, R391, R416). -/
def cohRequest (r p l : Nat) (q : Request) (f : State → State) (s : State) : Res :=
  guarded (s.reachesHome r q.host) (fun s =>
    if s.serves r q.host ∧ lineAddr p l < (s.rgnIn s.ep.live r).size * unitBytes then f s else s.cohRefused q) s

/-- A read or ownership request of a host (R396, R411, R693). DEDUCED: log entry 29. -/
def cohRead (op : CxlOp) (v : Fin 64) (r : Fin 256) (p : BitVec 34) (l : Fin 64) (tag : BitVec 16) (unlisted : Bool) (s : State) : Res :=
  let q : Request := { op := op, host := v.val, tagNo := tag.toNat, unlisted := unlisted, tag := s.ep.epoch % 4 }
  cohRequest r.val p.toNat l.val q (State.portStop r.val p.toNat l.val q) s

/-- An eviction or write of a host, which takes no tracker entry (R396, R411, R693). DEDUCED: log entry 29. -/
def cohWrite (op : CxlOp) (v : Fin 64) (r : Fin 256) (p : BitVec 34) (l : Fin 64) (data mask : Nat) (toShared unlisted : Bool) (s : State) : Res :=
  let q : Request := { op := op, host := v.val, data := data, mask := mask, unlisted := unlisted, toShared := toShared, tag := s.ep.epoch % 4 }
  cohRequest r.val p.toNat l.val q (State.arrive r.val p.toNat l.val q) s

/-- RDS: MemRd with MetaField Meta0-State and MetaValue S, or MemRdData (R411); or a MemRd of a form that is not listed, which is a
violation (R396). -/
def execRds (v : Fin 64) (r : Fin 256) (p : BitVec 34) (l : Fin 64) (tag : CohTag) (s : State) : Res :=
  cohRead .rds v r p l tag.tag tag.unlisted s
/-- RDOWN: MemRd with MetaValue A (R411). -/
def execRdown (v : Fin 64) (r : Fin 256) (p : BitVec 34) (l : Fin 64) (tag : BitVec 16) (s : State) : Res := cohRead .rdown v r p l tag false s
/-- OWN: MemInv with MetaField Meta0-State and MetaValue A (R411), or a MemInv of a form that is not listed (R396). -/
def execOwn (v : Fin 64) (r : Fin 256) (p : BitVec 34) (l : Fin 64) (tag : CohTag) (s : State) : Res :=
  cohRead .own v r p l tag.tag tag.unlisted s
/-- RDCUR: MemRd with MetaValue I or MetaField No-Op (R411). -/
def execRdcur (v : Fin 64) (r : Fin 256) (p : BitVec 34) (l : Fin 64) (tag : BitVec 16) (s : State) : Res := cohRead .rdcur v r p l tag false s

/-- MEMSPECRD: completed with no action and no state change (R396); R397 lists no message for it. -/
def execMemspecrd (v : Fin 64) (r : Fin 256) (p : BitVec 34) (l : Fin 64) (s : State) : Res :=
  guarded (s.serves r.val v.val && decide (lineAddr p.toNat l.val < (s.rgnIn s.ep.live r.val).size * unitBytes)) id s

/-- EVC: MemClnEvct (R411). -/
def execEvc (v : Fin 64) (r : Fin 256) (p : BitVec 34) (l : Fin 64) (s : State) : Res := cohWrite .evc v r p l 0 0 false false s
/-- EVD: MemWr, or MemWrPtl with its byte mask, with MetaValue I from the owner (R411). -/
def execEvd (v : Fin 64) (r : Fin 256) (p : BitVec 34) (l : Fin 64) (line : LineData) (s : State) : Res :=
  cohWrite .evd v r p l line.data.toNat line.mask.toNat false false s
/-- WR: MemWr or MemWrPtl from a host that is not the owner (R411), or a message of any other opcode, a violation (R396). -/
def execWr (v : Fin 64) (r : Fin 256) (p : BitVec 34) (l : Fin 64) (w : LineWrite) (s : State) : Res :=
  cohWrite .wr v r p l w.line.data.toNat w.line.mask.toNat false w.unlisted s
/-- WBKEEP: MemWr, or MemWrPtl with its byte mask, with MetaValue S or A from the owner (R411). -/
def execWbkeep (v : Fin 64) (r : Fin 256) (p : BitVec 34) (l : Fin 64) (line : LineData) (toShared : Bool) (s : State) : Res :=
  cohWrite .wbkeep v r p l line.data.toNat line.mask.toNat toShared false s

/-- The block form of a BIRsp is a violation (R396), which has nothing to complete (R414). -/
def State.blockResponse (r p : Nat) (s : State) : State :=
  ((((s.bump 0x5100 6).raise 233).owePageReset r p).resetIfOwed r p)

/-- HIT_KEEP: BIRspS, or BIRspE (R412), or a block form of either (R396). A departed host's message is discarded (R419). -/
def execHitKeep (v : Fin 64) (r : Fin 256) (p : BitVec 34) (l : Fin 64) (excl block : Bool) (s : State) : Res :=
  guarded (s.serves r.val v.val && !s.hasDeparted r.val v.val)
    (if block then State.blockResponse r.val p.toNat else State.hitKeep r.val p.toNat l.val v.val excl) s
/-- HIT_DROP: BIRspI with held indication 1 (R412), or its block form (R396). -/
def execHitDrop (v : Fin 64) (r : Fin 256) (p : BitVec 34) (l : Fin 64) (block : Bool) (s : State) : Res :=
  guarded (s.serves r.val v.val && !s.hasDeparted r.val v.val)
    (if block then State.blockResponse r.val p.toNat else State.hitDrop r.val p.toNat l.val v.val) s
/-- MISS: BIRspI with held indication 0 (R412). -/
def execMiss (v : Fin 64) (r : Fin 256) (p : BitVec 34) (l : Fin 64) (s : State) : Res :=
  guarded (s.serves r.val v.val && !s.hasDeparted r.val v.val) (State.missed r.val p.toNat l.val v.val) s

/-- BICONFLICT: answered with BIConflictAck, behind any grant already released to the host (R415). -/
def execBiconflict (v : Fin 64) (r : Fin 256) (p : BitVec 34) (l : Fin 64) (s : State) : Res :=
  guarded (s.serves r.val v.val && !s.hasDeparted r.val v.val) (fun s =>
    (s.emitOn ((s.portOfVh v.val).getD 176) (.cxl v.val cxlConflictAck r.val p.toNat l.val none false)).bump 0x5100 0xF) s

/-- MEMORY_DATA: memory read data arrives (R412). DEDUCED: log entry 29. -/
def execMemoryData (r : Fin 256) (p : BitVec 34) (l : Fin 64) (data : BitVec 512) (poison : Bool) (s : State) : Res :=
  guarded s.running (State.memoryData r.val p.toNat l.val data.toNat poison) s

/-- WRITE_DONE: a home memory write completes (R412). DEDUCED: log entry 29. -/
def execWriteDone (r : Fin 256) (p : BitVec 34) (l : Fin 64) (s : State) : Res :=
  guarded s.running (State.writeDone r.val p.toNat l.val) s

/-- Every line of a page under recall is I and no slot of it is open, or every line has completed its reset slot (R421,
R422). -/
def State.pageClear (s : State) (e : Entry) : Bool :=
  e.recalling && !e.resetOwed && !e.resetNow && (s.slotsOf e.region e.page).isEmpty &&
    (if e.resetting then (List.range 64).all (fun l => e.resetDone.contains l) else (List.range 64).all (fun l => decide (e.line l = 0)))

/-- RECALL_DONE: the entry of a recalled or reset page is freed and the messages that wait proceed (R421). -/
def execRecallDone (r : Fin 256) (p : BitVec 34) (s : State) : Res :=
  guarded (s.running && match s.entry r.val p.toNat with
    | some e => s.pageClear e
    | none => false) (fun s =>
      match s.entry r.val p.toNat with
      | none => s
      | some e =>
        let keep (x : Entry) : Bool := !(decide (x.region = r.val ∧ x.page = p.toNat) && !x.shadow)
        (({ s with home := { s.home with entries := s.home.entries.filter keep } }).mirror 3 [e.bank, e.set, e.way] []).retryAllocs) s

/-- SNOOP_TIMEOUT: a host is still pending D:5100.09 beats after its snoop: it departs from the region, and its endpoint is
hidden until a new binding (R416). -/
def execSnoopTimeout (r : Fin 256) (p : BitVec 34) (l : Fin 64) (v : Fin 64) (s : State) : Res :=
  guarded (s.running && match s.pendingSlot r.val p.toNat l.val v.val with
    | some k => decide (k.since + s.setting 0x5100 9 ≤ s.ep.beat)
    | none => false) (fun s =>
      let s1 := (({ s with home := { s.home with timedOut := (r.val, v.val) :: s.home.timedOut } }).depart r.val v.val)
      let s2 := s1.each (endpoints s1.ep.live) (fun e s =>
        match bridgeOfEndpointIn s.ep.live e.1 with
        | some (w, b) =>
          if e.2.kind = 2 ∧ e.2.region = r.val ∧ w = v.val then
            (s.bridgePresence w b false).bridgeLink w b false
          else s
        | none => s)
      (s2.bump 0x5100 0xA).raise 240) s

/-- SWEEP_DONE: the departure sweep of a region ends (R419). -/
def execSweepDone (r : Fin 256) (v : Fin 64) (s : State) : Res :=
  guarded (s.running && s.hasDeparted r.val v.val) (State.sweepDone r.val v.val) s

/-- Change a ledger bank's state; D:5101 is mirrored (R619). -/
def State.setLedgerBank (b st : Nat) (s : State) : State :=
  ({ s with home := { s.home with bankState := s.home.bankState.put b st } }).mirror 8 [0x5101, b] [st]

/-- Start the retirement of a ledger bank: no new allocation, and every home entry in it is recalled (R428). -/
def State.retireLedgerBank (b : Nat) (s : State) : State :=
  if s.home.bankState.look b 0 = 0 then
    let s1 := s.setLedgerBank b 1
    s1.each (s1.home.entries.filter (fun e => decide (e.bank = b) && !e.shadow)) (fun e s => s.recallPage e.region e.page)
  else s

/-- LEDGER_SCRUB_READ: the background scrub reads the next entry and checks it (R425 to R427, R695). error: 0 none,
1 corrected, 2 uncorrectable in bits [895:0], 3 uncorrectable in the tag word. DEDUCED: log entries 14 and 28. -/
def execLedgerScrubRead (error : Fin 4) (s : State) : Res :=
  guarded s.running (fun s =>
    let n := s.home.scrubAt
    let bank := n / 16384
    let at_ := s.home.entries.find? (fun e => decide (e.bank = bank ∧ e.set = n / 16 % 1024 ∧ e.way = n % 16))
    let s1 := { s with home := { s.home with scrubAt := (n + 1) % 262144 } }
    if s.home.bankState.look bank 0 = 2 then s1
    else match error.val with
      | 0 => s1
      | 1 => (s1.bump 0x5100 0xB).raise 232
      | 2 =>
        let s2 := s1.raise 234
        let s3 := match at_ with
          | some e => if e.shadow then s2 else (s2.duePageReset e.region e.page).resetIfOwed e.region e.page
          | none => s2
        s3.retireLedgerBank bank
      | _ => s1.raise 235) s

/-- LEDGER_BANK_RETIRE: a bank number written to D:5102.01 (R428). -/
def execLedgerBankRetire (b : Fin 16) (s : State) : Res :=
  commandWrite (fun s => (s.retireLedgerBank b.val).answer 0) s

/-- LEDGER_BANK_RETIRED: a retiring bank holds no valid entry (R428). DEDUCED: log entries 14 and 28. -/
def execLedgerBankRetired (b : Fin 16) (s : State) : Res :=
  guarded (s.running && decide (s.home.bankState.look b.val 0 = 1) && !s.home.entries.any (fun e => decide (e.bank = b.val)))
    (fun s => ((s.setLedgerBank b.val 2).raise 236).retryAllocs) s

/-- PAGE_QUERY: a page written to D:5110.01; D:5110.02 reads its entry (R429). -/
def execPageQuery (q : BitVec 64) (s : State) : Res :=
  commandWrite (fun s => if bits q.toNat 55 34 = 0 then (s.setView 0x5110 1 q.toNat).answer 0 else s.answer 2) s

end Sys2Proof.Machine
end

