-- ==== Sys2Proof/Machine/Beryl.lean ====
section
/-!
DEFINITION. Shared operations of the Beryl engine (chapter 13): contexts and keys, the key check, completion entries,
triggers, the error transition, the requester's segments, and the responder's acknowledgements.
-/

namespace Sys2Proof.Machine

/-! ### Events and contexts -/

/-- The words of an event record of R473, from the lowest. -/
def eventWords (type step key qp srcQp srcEdge srcDomain addr stamp : Nat) : List Nat :=
  let hi := type * 2 ^ 56 + step * 2 ^ 48 + key * 2 ^ 16 + qp / 2
  let lo := qp % 2 * 2 ^ 63 + srcQp * 2 ^ 46 + srcEdge * 2 ^ 34 + srcDomain * 2 ^ 22
  [stamp, addr, lo, hi]

/-- Write a Beryl event about a queue pair (types 3 and 5) to its instance (R473). -/
def State.qpEvent (type q : Nat) (s : State) : State :=
  s.eventRecord (s.qp q).inst (eventWords type 0 0 q 0 0 0 0 s.ep.beat)

/-- Whether a queue pair exists. -/
def State.qpExists (s : State) (q : Nat) : Bool := s.beryl.qps.has q

/-- Backing slot of a queue pair (R433). -/
def State.qpSlot (s : State) (q : Nat) : Nat :=
  (s.inst (s.qp q).inst).qpTable + 768 * (q - (s.instD (s.qp q).inst).qpBase)

/-- Backing slot of a region (R433). -/
def State.regionSlot (s : State) (r : Nat) : Nat :=
  (s.inst (s.region r).inst).regionTable + 32 * (r - (s.instD (s.region r).inst).regBase)

/-- Resident contexts of a cluster. -/
def State.residentIn (s : State) (c : Nat) : List (Nat × Qp) :=
  s.beryl.qps.filter (fun e => e.2.resident && decide (s.clusterOf e.1 = c))

/-- Mark a context as used now (R465). -/
def State.touch (q : Nat) (s : State) : State :=
  let s1 := s.setQp q (fun x => { x with used := s.beryl.useClock })
  { s1 with beryl := { s1.beryl with useClock := s1.beryl.useClock + 1 } }

/-- The least recently used context of a list that has no frame or work request being processed (R465). -/
def victim (l : List (Nat × Qp)) : Option Nat :=
  let idle := l.filter (fun e => e.2.parked.isEmpty && e.2.active.isEmpty && e.2.deliver.isEmpty)
  match idle.foldl (fun (b : Option (Nat × Qp)) e => match b with
      | none => some e
      | some x => if e.2.used < x.2.used then some e else b) none with
  | some e => some e.1
  | none => none

/-- Make a place for a context in its cluster: when all 2,048 are full, the victim is written back (R465). -/
def State.makePlace (q : Nat) (s : State) : State :=
  let l := s.residentIn (s.clusterOf q)
  if l.length < 2048 then s
  else match victim l with
    | none => s
    | some x =>
      let s1 := s.instWrite (s.qp x).inst (s.qpSlot x) 768 [] none none
      (s1.setQp x (fun y => { y with resident := false })).bump 0x6010 9

/-- A queue pair enters Error and all its requests leave it, without entries (R436). -/
def State.dropQp (q : Nat) (noFlush : Bool) (s : State) : State :=
  s.setQp q (fun x => { x with
    state := .error, sq := [], rq := [], tl := [], fired := [], active := [], deliver := [], recv := none, parked := [],
    rnrUntil := none, seqNakPsn := none, ackOwed := none, noFlush := noFlush })

/-- A queue pair goes to Error without flush entries, with event 3 (R465, R487, R488). -/
def State.fatalQp (q : Nat) (s : State) : State :=
  if (s.qp q).state = .error ∧ (s.qp q).noFlush = true then s else (s.dropQp q true).qpEvent 3 q

/-- A cluster needs a context: a resident one is used; one that is not starts a fetch, which a cap of zero fails (R441, R465,
R689). -/
def State.needContext (q : Nat) (s : State) : State :=
  let x := s.qp q
  if x.resident then s.touch q
  else if x.fetching then s
  else
    let v := (s.instD x.inst).vh
    if s.masterZero (some v) (some x.inst) then (s.fatalQp q).raise 351
    else
      let s1 := ((s.makePlace q).setQp q (fun y => { y with fetching := true })).bump 0x6010 8
      s1.readHost v (some x.inst) (s.qpSlot q) 768

/-- Bring a region's descriptor into the key cache of 65,536, evicting one that is not Revoking where it is full
(R433, R476). -/
def State.cacheKey (r : Nat) (s : State) : State :=
  let l := s.beryl.regions.filter (fun e => e.2.cached)
  let s1 := if l.length < 65536 then s else match l.find? (fun e => decide (e.2.state ≠ .revoking)) with
    | some e => s.setRegion e.1 (fun x => { x with cached := false })
    | none => s
  s1.setRegion r (fun x => { x with cached := true, fetching := false })

/-- Whether the descriptor that a key names has to be fetched first (R451): its index is in the range of the instance. -/
def State.keyMissing (s : State) (i key : Nat) : Bool :=
  let d := s.instD i
  decide (key ≠ 0 ∧ d.regBase ≤ key / 4096 ∧ key / 4096 < d.regBase + d.regCount) &&
    s.beryl.regions.has (key / 4096) && !(s.region (key / 4096)).cached

/-- Start the fetch of a descriptor from its backing slot (R451). -/
def State.fetchKey (i key : Nat) (s : State) : State :=
  let r := key / 4096
  if (s.region r).fetching then s
  else (s.setRegion r (fun x => { x with fetching := true })).readHost (s.instD i).vh (some i)
    ((s.inst i).regionTable + 32 * (r - (s.instD i).regBase)) 32

/-- The fetch of a descriptor fails at once: a cap of zero lets it not be issued (R451, R689). -/
def State.keyBarred (s : State) (i : Nat) : Bool := s.masterZero (some (s.instD i).vh) (some i)

/-- A key that is not zero names an index outside the ranges of an instance (R431). -/
def State.keyForeign (s : State) (i key : Nat) : Bool :=
  let d := s.instD i
  decide (key ≠ 0 ∧ (key / 4096 < d.regBase ∨ d.regBase + d.regCount ≤ key / 4096))

/-- Count a request that names a number outside the ranges of its instance (R431). -/
def State.countForeign (foreign : Bool) (s : State) : State := if foreign then (s.bump 0x6010 0x10).raise 355 else s

/-- Steps 6 to 9 of the key check (R449): 0 where every step passes, else the step that fails. The right is a bit of
the descriptor's rights, or none for local read, which is always allowed. -/
def State.keyCheck (s : State) (i key : Nat) (right : Option Nat) (addr len : Nat) : Nat :=
  let d := s.instD i
  let r := key / 4096
  let x := s.region r
  if key = 0 ∨ r < d.regBase ∨ d.regBase + d.regCount ≤ r then 6
  else if (x.state ≠ .valid ∧ x.state ≠ .asked) ∨ x.generation ≠ key % 4096 then 7
  else if (match right with | some b => !x.rights.testBit b | none => false) = true then 8
  else if addr < x.base ∨ x.base + x.len < addr + len ∨ 2 ^ 64 < addr + len then 9
  else 0

/-! ### Completions -/

/-- The four words of a completion entry, from the lowest (R443). -/
def cqeWords (phase : Bool) (status op qp srcQp srcEdge tagNo queue bytes wrId stamp : Nat) : List Nat :=
  let hi := (if phase then 2 ^ 63 else 0) + status * 2 ^ 48 + op * 2 ^ 40 + qp * 2 ^ 23 + srcQp * 2 ^ 6 + srcEdge / 64
  let mid := srcEdge % 64 * 2 ^ 58 + tagNo * 2 ^ 42 + queue * 2 ^ 40 + bytes
  [stamp, wrId, mid, hi]

/-- Fields of one completion entry. -/
structure Cqe where
  status : Nat := 0
  op : Nat := 0
  qp : Nat := 0
  srcQp : Nat := 0
  srcEdge : Nat := 0
  tagNo : Nat := 0
  queue : Nat := 0
  bytes : Nat := 0
  wrId : Nat := 0
deriving DecidableEq, Repr

/-- Write a completion entry into the ring of a queue that has room, and signal its vector (R443, R445, R545). The entry
is mirrored before it is written (R619, kind 11). -/
def State.putCqe (i c : Nat) (e : Cqe) (s : State) : State :=
  let q := s.cq c
  let slot := q.producer % 2 ^ q.log2
  let words := cqeWords q.phase e.status e.op e.qp e.srcQp e.srcEdge e.tagNo e.queue e.bytes e.wrId s.ep.beat
  let s1 := s.mirror 11 [c, slot] words
  let s2 := s1.instWrite i (q.addr + 32 * slot) 32 words none none
  let s3 := s2.setCq c (fun x => { x with
    producer := (x.producer + 1) % 2 ^ 22
    phase := if slot + 1 = 2 ^ x.log2 then !x.phase else x.phase
    count := x.count + 1 })
  s3.vecEvent true q.vector

/-- A completion queue without room enters Overrun: its queue pairs go to Error, their flush entries are discarded, and
event 4 and source 350 follow (R446). -/
def State.overrunCq (i c : Nat) (s : State) : State :=
  let s1 := s.setCq c (fun x => { x with overrun := true })
  let users := s1.beryl.qps.filter (fun e => decide (e.2.sendCq = c ∨ e.2.recvCq = c) && decide (e.2.state ≠ .error))
  let s2 := s1.each users (fun e s => s.dropQp e.1 true)
  (s2.eventRecord i (eventWords 4 0 0 c 0 0 0 0 s2.ep.beat)).raise 350

/-- A completion entry is to be written: no further entry goes to a queue in Overrun, and none is written by a squash
(R446, R513). -/
def State.complete1 (i c : Nat) (e : Cqe) (s : State) : State :=
  let q := s.cq c
  if ((s.inst i).state ≠ 2 ∧ (s.inst i).state ≠ 3) ∨ q.overrun = true then s
  else if q.count < 2 ^ q.log2 then s.putCqe i c e
  else s.overrunCq i c

/-- The completion entry of a work request, written for an error always and for a success when signaled (R440). -/
def State.completeWr (q : Nat) (owner queue status bytes : Nat) (w : Wr) (s : State) : State :=
  if status = 0 ∧ w.signaled = false then s
  else s.complete1 (s.qp q).inst (if queue = 1 then (s.qp q).recvCq else (s.qp q).sendCq)
    { status := status, op := w.op, qp := owner, queue := queue, bytes := bytes, wrId := w.wrId }

/-- Flush: every posted work request that is not completed ends with a status, on the send queue, the receive queue and
the trigger list, in queue order, and the queue pair is in Error (R436). -/
def State.flushQp (q status : Nat) (s : State) : State :=
  let x := s.qp q
  if x.state = .error then s
  else
    let s1 := s.dropQp q false
    let s2 := s1.each x.active (fun a s => s.completeWr q a.owner (if a.trig then 2 else 0) status 0 a.wr)
    let s3 := s2.each x.fired (fun f s => s.completeWr q f.1 2 1 0 f.2)
    let s4 := s3.each x.sq (fun w s => s.completeWr q q 0 1 0 w)
    let s5 := s4.each (x.deliver.filterMap (·.recv) ++ x.recv.toList ++ x.rq) (fun w s => s.completeWr q q 1 1 0 w)
    s5.each x.tl (fun w s => s.completeWr (if s.qpExists w.execQp && decide ((s.qp w.execQp).inst = x.inst) then w.execQp else q) q 2 1 0 w)

/-- A request in progress ends with its own status, every other one is flushed, and the queue pair is in Error (R437). -/
def State.failActive (q status : Nat) (a : Active) (s : State) : State :=
  let s1 := s.completeWr q a.owner (if a.trig then 2 else 0) status 0 a.wr
  (s1.setQp q (fun x => { x with active := x.active.filter (fun b => decide (b ≠ a)) })).flushQp q 1

/-! ### Triggers -/

/-- Start the head of a trigger list on its executing queue pair (R482). -/
def State.fireHead (q : Nat) (w : Wr) (s : State) : State :=
  let s1 := (s.setQp q (fun x => { x with tl := x.tl.drop 1 })).bump 0x6010 0xC
  let e := s1.qp w.execQp
  if !s1.qpExists w.execQp || decide (e.inst ≠ (s1.qp q).inst) then
    let d := s1.instD (s1.qp q).inst
    let foreign := decide (w.execQp < d.qpBase ∨ d.qpBase + d.qpCount ≤ w.execQp)
    ((s1.countForeign foreign).completeWr q q 2 12 0 w).flushQp q 1
  else if e.state ≠ .ready then s1.completeWr w.execQp q 2 1 0 w
  else s1.setQp w.execQp (fun x => { x with fired := x.fired ++ [(q, w)] })

/-- Whether the armed head of a trigger list fires now, by its kind, a delivered tag or the counter (R479). -/
def headFires (w : Wr) (counter tagNo : Nat) : Bool :=
  if w.trigKind = 0 then true
  else if w.trigKind = 1 then decide (tagNo ≠ 0 ∧ w.trigValue = tagNo)
  else if w.trigKind = 2 then decide (w.trigValue ≤ counter)
  else false

/-- Whether triggers of a queue pair may fire: it is Ready and its instance is Active (R436, R511). -/
def State.triggersLive (s : State) (q : Nat) : Bool :=
  decide ((s.qp q).state = .ready) && decide ((s.inst (s.qp q).inst).state = 2)

/-- Fire every armed head in turn: a tag fires at most one tagged entry (R479, R481). -/
def State.fireTriggers (q tagNo : Nat) : Nat → State → State
  | 0, s => s
  | n + 1, s =>
    match (s.qp q).tl with
    | [] => s
    | w :: _ =>
      if s.triggersLive q && headFires w (s.qp q).counter tagNo then
        (s.fireHead q w).fireTriggers q (if w.trigKind = 1 then 0 else tagNo) n
      else s

/-- Test the trigger list of a queue pair, with a delivered tag or 0 (R479). -/
def State.testTriggers (q tagNo : Nat) (s : State) : State := s.fireTriggers q tagNo ((s.qp q).tl.length + 1)

/-- Raise a queue pair's counter, which saturates, and test its trigger list (R479, R481). -/
def State.countUp (q : Nat) (s : State) : State :=
  (s.setQp q (fun x => { x with counter := min (x.counter + 1) 0xFFFFFFFF })).testTriggers q 0

/-! ### The requester -/

/-- Distance from one PSN to another modulo 2^24 (R460). -/
def psnFrom (a b : Nat) : Nat := (b + 2 ^ 24 - a) % 2 ^ 24

/-- Segments of a message (R452). -/
def segments (len : Nat) : Nat := max 1 ((len + 4063) / 4064)

/-- Bytes of segment k of a message (R452). -/
def segmentLen (len k : Nat) : Nat := min 4064 (len - 4064 * k)

/-- PSNs that a work request takes (R452). -/
def wrPsns (w : Wr) : Nat := if w.op = 1 ∨ w.op = 2 ∨ w.op = 3 then segments w.length else 1

/-- A READ or an atomic: it waits for a response (R454). -/
def wantsResponse (w : Wr) : Bool := decide (w.op = 2 ∨ w.op = 4 ∨ w.op = 5)

/-- Send a Beryl frame of a queue pair to its peer: the flow label holds the queue pair that issued the request, and a
response takes the class of the request that it answers (R457, R458, R459); a promoted queue pair sends from the twin's module edge (R631). -/
def State.sendBeryl (q : Nat) (f : BFrame) (s : State) : State :=
  let x := s.qp q
  let label := if f.op < 0x80 then q else x.peerQp
  let edge := if s.twin.promoted.contains q then (s.twinEdgeIn s.ep.live).getD (s.moduleEdgeIn s.ep.live) else s.moduleEdgeIn s.ep.live
  let cls := if f.op < 0x80 then x.cls else x.reqCls
  (s.bump 0x6010 1).emit (.beryl x.peerEdge cls label
    { f with cls := cls, dstQp := x.peerQp, srcQp := q, srcDomain := s.domainOfQp q, srcEdge := edge })

/-- The frame of segment k of a request, with its data (R452, R456, R457). -/
def segmentFrame (a : Active) (k data : Nat) : BFrame :=
  let w := a.wr
  let last := decide (k + 1 = a.count)
  let off := 4064 * k
  let base : BFrame := { op := w.op, psn := (a.first + k) % 2 ^ 24 }
  if w.op = 2 then
    { base with first := true, last := true, rkey := w.rkey, addr := w.raddr + off, length := w.length - off,
                tagNo := w.tagNo, countFlag := w.countRemote }
  else if w.op = 4 ∨ w.op = 5 then
    { base with first := true, last := true, rkey := w.rkey, addr := w.raddr, length := 8, dataLen := 16,
                data := w.op1 + (if w.op = 5 then w.op2 * 2 ^ 64 else 0), tagNo := w.tagNo, countFlag := w.countRemote }
  else
    let n := segmentLen w.length k
    { base with first := decide (k = 0), last := last, ackReq := last, rkey := if w.op = 1 then w.rkey else 0,
                addr := if w.op = 1 then w.raddr + off else off, length := if k = 0 then w.length else 0, dataLen := n,
                data := data % 2 ^ (8 * n), tagNo := if last then w.tagNo else 0, countFlag := last && w.countRemote }

/-- Pacing credit gained up to now, at r bytes per beat and at most 4,096 B (R470). -/
def State.gainCredit (q : Nat) (s : State) : State :=
  s.setQp q (fun x => { x with credit := min 4096 (x.credit + x.rate * (s.ep.beat - x.creditAt)), creditAt := s.ep.beat })

/-- The next segment of a queue pair may be sent: Ready, resident, no RNR wait, window and credit open, and a master entry for
the read of its data (R281, R453, R454, R460, R468, R470). DEDUCED: log entry 41. -/
def State.mayPump (s : State) (q : Nat) (a : Active) : Bool :=
  let x := s.qp q
  decide (x.state = .ready) && x.resident && x.rnrUntil.isNone && decide (0 < x.credit) &&
    decide (psnFrom x.unacked ((a.first + a.sent) % 2 ^ 24) < s.setting 0x6001 7) &&
    (!(decide ((a.wr.op = 1 ∨ a.wr.op = 3) ∧ a.wr.length ≠ 0)) ||
      s.masterOpen (some (s.instD x.inst).vh) (some x.inst) || s.masterZero (some (s.instD x.inst).vh) (some x.inst))

/-- Send segments of the requests in progress, in PSN order, while the window and the pacing allow (R454, R460, R470). The
data of each segment is the next of a list, or a free value where the list is at its end. DEDUCED: log entry 41. -/
def State.pump (q : Nat) : Nat → List Nat → State → State
  | 0, _, s => s
  | n + 1, data, s =>
    match (s.qp q).active.find? (fun a => decide (a.sent < a.count)) with
    | none => s.setQp q (fun x => { x with seqNakPsn := none })
    | some a =>
      if s.mayPump q a then
        let reads := decide ((a.wr.op = 1 ∨ a.wr.op = 3) ∧ a.wr.length ≠ 0)
        let r : Nat × State := if reads && data.isEmpty then s.fresh 2 else (data.headD 0, s)
        let i := (s.qp q).inst
        let v := (s.instD i).vh
        let k := if a.wr.op = 2 then max a.sent a.got else a.sent
        let f := segmentFrame a k r.1
        let s1 := if reads then r.2.emitHost v (r.2.readOut v (some i) (a.wr.laddr + 4064 * k) (segmentLen a.wr.length k)) else r.2
        let s2 := s1.sendBeryl q f
        let sent := if a.wr.op = 2 then a.count else a.sent + 1
        let s3 := s2.setQp q (fun x => { x with
          active := x.active.map (fun b => if b = a then { b with sent := sent } else b)
          credit := x.credit - berylBytes f.dataLen
          sentPsn := if psnFrom x.unacked x.sentPsn < psnFrom x.unacked ((a.first + a.sent) % 2 ^ 24) + (sent - a.sent) then
            (a.first + sent) % 2 ^ 24 else x.sentPsn
          timerAt := if x.unacked = (a.first + a.sent) % 2 ^ 24 ∧ a.got = 0 then s.ep.beat else x.timerAt })
        s3.pump q n (if reads then data.drop 1 else data)
      else s

/-- Send what may be sent (R460). -/
def State.pumpAll (q : Nat) (data : List Nat) (s : State) : State :=
  (s.gainCredit q).pump q 4097 data

/-- Remove the completed requests of a queue pair that may be completed: send-queue requests in order, fired ones as they
complete; local counting follows (R440, R445). -/
def State.retireDone (q : Nat) : Nat → State → State
  | 0, s => s
  | n + 1, s =>
    let x := s.qp q
    let open1 := x.active.find? (fun a => !a.trig)
    match x.active.find? (fun a => a.done && (a.trig || decide (open1 = some a))) with
    | none => s
    | some a =>
      let s1 := s.setQp q (fun y => { y with active := y.active.filter (fun b => decide (b ≠ a)) })
      let s2 := s1.completeWr q a.owner (if a.trig then 2 else 0) 0 (if a.wr.op = 6 then 0 else a.wr.length) a.wr
      let s3 := if a.wr.countLocal then s2.countUp q else s2
      s3.retireDone q n

/-- Complete what may be completed (R445). -/
def State.retireAll (q : Nat) (s : State) : State := s.retireDone q ((s.qp q).active.length + 1)

/-- The request that a queue pair would start next: its fired requests come before its send queue (R482). Its owner, and
whether it is fired. -/
def Qp.nextWr (x : Qp) (q : Nat) : Option (Nat × Bool × Wr) :=
  match x.fired, x.sq with
  | (o, w) :: _, _ => some (o, true, w)
  | [], w :: _ => some (q, false, w)
  | [], [] => none

/-- Take the next request from its queue. -/
def Qp.takeNext (x : Qp) : Qp :=
  match x.fired, x.sq with
  | _ :: r, _ => { x with fired := r }
  | [], _ :: r => { x with sq := r }
  | [], [] => x

/-- A request may start: every earlier segment is sent, the fence and the limit of outstanding READs and atomics hold, the
instance is Active and its function can master the bus (R454, R511, R549, R554). -/
def State.mayStart (s : State) (q : Nat) (w : Wr) : Bool :=
  let x := s.qp q
  let out := (x.active.filter (fun a => wantsResponse a.wr && !a.done)).length
  let d := s.instD x.inst
  decide (x.state = .ready) && x.resident && x.rnrUntil.isNone && x.active.all (fun a => decide (a.count ≤ a.sent)) &&
    decide ((s.inst x.inst).state = 2) && !(w.fence && decide (0 < out)) &&
    !(wantsResponse w && decide (s.setting 0x6001 8 ≤ out)) && s.canMaster d.vh &&
    (decide (w.op = 6) || s.masterZero (some d.vh) (some x.inst) || s.masterOpen (some d.vh) (some x.inst))

/-- Status of the local check of a request at the head: 0, or the status it fails with (R442). DEDUCED: log entry 41. -/
def State.localCheck (s : State) (q : Nat) (w : Wr) : Nat :=
  if w.op = 0 ∨ 6 < w.op then 5
  else if 2 ^ 31 < w.length ∨ ((w.op = 4 ∨ w.op = 5) ∧ w.length ≠ 8) then 2
  else if w.op = 6 then 0
  else if s.keyCheck (s.qp q).inst w.lkey (if w.op = 1 ∨ w.op = 3 then none else some 0) w.laddr w.length ≠ 0 then 3
  else 0

/-- A request at the head ends at once with a status, and the queue pair is in Error (R437, R442). -/
def State.failHead (q owner : Nat) (trig : Bool) (w : Wr) (status : Nat) (s : State) : State :=
  let s1 := s.setQp q Qp.takeNext
  (s1.completeWr q owner (if trig then 2 else 0) status 0 w).flushQp q 1

/-- Start the request at the head of a queue pair: local check, descriptor fetch, then its place among the requests in
progress with its PSNs (R442, R451, R455, R460). The operand says whether the local memory can be read. DEDUCED: log entry 41. -/
def State.startHead (q owner : Nat) (trig : Bool) (w : Wr) (readOk : Bool) (s : State) : State :=
  let x := s.qp q
  let known := decide (1 ≤ w.op ∧ w.op ≤ 5)
  if known && s.keyMissing x.inst w.lkey then
    if s.keyBarred x.inst then (s.failHead q owner trig w 11).raise 351 else s.fetchKey x.inst w.lkey
  else
    let st := s.localCheck q w
    let v := (s.instD x.inst).vh
    if st ≠ 0 then (s.countForeign (decide (st = 3) && s.keyForeign x.inst w.lkey)).failHead q owner trig w st
    else if decide ((w.op = 1 ∨ w.op = 3) ∧ w.length ≠ 0) && (!readOk || s.masterZero (some v) (some x.inst)) then
      s.failHead q owner trig w 11
    else
      let n := if w.op = 6 then 0 else wrPsns w
      let a : Active := { wr := w, trig := trig, owner := owner, first := x.psn, count := n, done := decide (w.op = 6) }
      let s1 := s.setQp q (fun y => { y.takeNext with active := y.active ++ [a], psn := (y.psn + n) % 2 ^ 24 })
      if w.length = 0 ∧ w.op ≠ 6 then s1.bump 0x6010 0x11 else s1

/-- A work request of an opcode reaches the head and is served: it starts, its segments are sent, and what is complete is
completed. While segments of an earlier request wait, they are sent (R442, R453, R454). DEDUCED: log entry 41. -/
def State.runHead (q op : Nat) (data : List Nat) (readOk : Bool) (s0 : State) : State :=
  let s := s0.gainCredit q
  match (s.qp q).active.find? (fun a => decide (a.sent < a.count)) with
  | some a => if a.wr.op = op then s.pump q 4097 data else s0
  | none =>
    match (s.qp q).nextWr q with
    | none => s0
    | some (owner, trig, w) =>
      let invalid := decide (w.op = 0 ∨ 6 < w.op)
      if (decide (w.op = op) || invalid) && s.mayStart q w then
        ((s.startHead q owner trig w readOk).pump q 4097 data).retireAll q
      else if (decide (w.op = op) || invalid) && !(s.qp q).resident then s0.needContext q
      else s0

/-- First PSN of a request whose data has not fully arrived (R463). -/
def Active.missing (a : Active) : Nat := (a.first + a.got) % 2 ^ 24

/-- Resend from a PSN: requests from it on are sent again, a READ from its first missing PSN (R463, R464). -/
def State.rewind (q p : Nat) (s : State) : State :=
  s.setQp q (fun x => { x with active := x.active.map (fun a =>
    let off := psnFrom a.first p
    let behind := psnFrom p a.first
    if a.done then a
    else if off < a.count then { a with sent := if a.wr.op = 2 then max a.got off else min a.sent off }
    else if behind < 2 ^ 23 then { a with sent := a.got }
    else a) })

/-- An acknowledgement covers every PSN up to p: WRITEs and SENDs complete; a READ or an atomic whose response has not
fully arrived holds its PSNs and is resent from its first missing one (R463). -/
def State.ackTo (q p : Nat) (s : State) : State :=
  let x := s.qp q
  let u := x.unacked
  let upto := psnFrom u p
  let act := x.active.map (fun a =>
    let final := psnFrom u ((a.first + a.count - 1) % 2 ^ 24)
    if a.done ∨ a.count = 0 then a
    else if wantsResponse a.wr then
      if psnFrom u a.missing ≤ upto ∧ a.got < a.sent then { a with sent := a.got } else a
    else if final ≤ upto then { a with done := true, got := a.count } else a)
  let waiting := (act.filter (fun a => wantsResponse a.wr && !a.done)).map (fun a => psnFrom u a.missing)
  let next := waiting.foldl min (upto + 1)
  let moved := decide (0 < next)
  (s.setQp q (fun y => { y with
    active := act, unacked := (u + next) % 2 ^ 24, retries := 0, timerAt := s.ep.beat,
    rnrs := if moved then 0 else y.rnrs })).retireAll q

/-- A PSN lies in the unacknowledged range: it has been sent, and not been acknowledged (R463). -/
def State.inUnacked (s : State) (q p : Nat) : Bool :=
  let x := s.qp q
  decide (psnFrom x.unacked p < psnFrom x.unacked x.sentPsn)

/-- An echoed mark lowers the rate, at most once in D:6001.09 beats (R469, R471). -/
def State.echoedMark (q : Nat) (s : State) : State :=
  let s1 := s.bump 0x6010 0xA
  let x := s1.qp q
  if !x.decreased || decide (x.lastDecrease + s1.setting 0x6001 9 ≤ s1.ep.beat) then
    ((s1.gainCredit q).setQp q (fun y => { y with
      rate := max (s1.setting 0x6001 0xC) (y.rate - y.rate / 4), lastDecrease := s1.ep.beat, raisedAt := s1.ep.beat,
      decreased := true })).bump 0x6010 0xB
  else s1

/-- A frame is for a queue pair that a contained domain owns or comes from one: it is discarded without a NAK (R516). -/
def State.berylContained (s : State) (f : BFrame) : Bool :=
  s.isContained f.srcDomain || s.isContained (s.domainOfQp f.dstQp)

/-- Steps 1 and 2 of the check order for any Beryl frame: what is wrong is counted (R449). -/
def State.knownFrame (s : State) (f : BFrame) : Bool := s.qpExists f.dstQp
/-- The frame comes from the queue pair's peer and domain (R449, step 2). -/
def State.rightSource (s : State) (f : BFrame) : Bool :=
  let x := s.qp f.dstQp
  decide (f.srcEdge = x.peerEdge ∧ f.srcQp = x.peerQp ∧ f.srcDomain = s.domainOfQp f.dstQp)

/-- Discard a frame that fails step 1 or 2 (R449, R490). -/
def State.wrongFrame (f : BFrame) (s : State) : State :=
  if s.knownFrame f then (s.bump 0x6010 0xE).raise 345 else (s.bump 0x6010 0xF).raise 346

/-! ### The miss buffer -/

/-- Cells parked in a cluster (R466). -/
def State.clusterCells (s : State) (c : Nat) : Nat :=
  ((s.beryl.qps.filter (fun e => decide (s.clusterOf e.1 = c))).map (fun e => e.2.parkedCells)).sum

/-- Answer a request frame with an ACK or NAK (R456, R462). -/
def State.answerBeryl (q syndrome psn time : Nat) (s : State) : State :=
  s.sendBeryl q { op := 0x83, psn := psn, syndrome := syndrome, length := time,
                  markEcho := decide (syndrome = 0) && (s.qp q).markSeen }

/-- Answer a request frame with an RNR NAK (R467, R468, R549). -/
def State.rnrNak (q psn : Nat) (s : State) : State :=
  (s.answerBeryl q 1 psn (s.setting 0x6001 3)).bump 0x6010 5

/-- Park a frame in its cluster's miss buffer, or discard it above the quota with at most one RNR NAK (R466, R467). -/
def State.park (f : BFrame) (s : State) : State :=
  let q := f.dstQp
  let x := s.qp q
  let n := berylCells f
  if s.setting 0x6001 5 < x.parkedCells + n ∨ 1024 < s.clusterCells (s.clusterOf q) + n then
    let s1 := s.raise 349
    if f.op < 0x80 ∧ (x.rnrSentParked = false ∨ x.parked = []) then
      ((s1.setQp q (fun y => { y with reqCls := f.cls })).rnrNak q f.psn).setQp q (fun y => { y with rnrSentParked := true })
    else s1
  else s.setQp q (fun y => { y with parked := y.parked ++ [f] })

/-- A frame must park: its context is not resident, or an earlier frame of its queue pair is parked (R466). -/
def State.mustPark (s : State) (q : Nat) : Bool := !(s.qp q).resident || !(s.qp q).parked.isEmpty

/-! ### The responder -/

/-- Send an ACK of everything up to E - 1 (R462). -/
def State.sendAck (q : Nat) (s : State) : State :=
  let s1 := s.answerBeryl q 0 ((s.qp q).expected + 2 ^ 24 - 1 - (((s.qp q).expected + 2 ^ 24 - 1) / 2 ^ 24) * 2 ^ 24) 0
  s1.setQp q (fun x => { x with accepted := 0, ackOwed := none, markSeen := false })

/-- Step 5 of the check order: opcode, flags and lengths form a valid request (R449). -/
def State.validRequest (s : State) (f : BFrame) : Bool :=
  let x := s.qp f.dstQp
  let seg := (f.last || decide (f.dataLen = 4064)) && decide (f.last = true ∨ f.tagNo = 0) &&
    (!f.first || (decide (f.length ≤ 2 ^ 31) && decide (f.last = true → f.dataLen = f.length) && decide (f.last = false → 4064 < f.length)))
  if f.op = 1 then seg
  else if f.op = 3 then seg && (f.first == x.recv.isNone) &&
    (if f.first then decide (f.addr = 0)
     else decide (f.addr % 4064 = 0) && (if f.last then decide (f.addr + f.dataLen = x.recvLen) else decide (f.addr + f.dataLen < x.recvLen)))
  else if f.op = 2 then decide (f.length ≤ 2 ^ 31 ∧ f.dataLen = 0)
  else if f.op = 4 ∨ f.op = 5 then
    decide (f.addr % 8 = 0 ∧ f.dataLen = 16) && (s.func (s.instD x.inst).vh).atomicEn
  else false

/-- The right that a request needs: remote read for READ, remote write for WRITE, remote atomic for atomics (R435,
R449). -/
def requestRight (op : Nat) : Nat := if op = 2 then 1 else if op = 1 then 2 else 3

/-- Bytes that a request reaches at its address. -/
def requestLen (f : BFrame) : Nat := if f.op = 2 then f.length else if f.op = 1 then f.dataLen else 8

/-- A remote access violation: NAK syndrome 3, event 1, counter and source 344 (R472). -/
def State.berylViolation (f : BFrame) (step : Nat) (s : State) : State :=
  let s1 := (s.answerBeryl f.dstQp 3 f.psn 0).eventRecord (s.qp f.dstQp).inst
    (eventWords 1 step f.rkey f.dstQp f.srcQp f.srcEdge f.srcDomain f.addr s.ep.beat)
  (s1.bump 0x6010 7).raise 344

/-- E advances over the PSNs that a frame consumes, and a new E allows a new sequence NAK (R461). -/
def State.advancePsn (q n : Nat) (s : State) : State :=
  s.setQp q (fun x => { x with expected := (x.expected + n) % 2 ^ 24, nakSent := false })

/-- An accepted segment is acknowledged at once, after D:6001.06 segments, or within one beat (R462). -/
def State.ackPolicy (f : BFrame) (s : State) : State :=
  let q := f.dstQp
  let s1 := s.setQp q (fun x => { x with accepted := x.accepted + 1, markSeen := x.markSeen || f.marked,
                                          ackOwed := some (x.ackOwed.getD s.ep.beat) })
  if f.ackReq || decide (s1.setting 0x6001 6 ≤ (s1.qp q).accepted) then s1.sendAck q else s1

/-- The last segment of a message has been accepted: its delivery follows (R480). -/
def State.awaitDelivery (f : BFrame) (recv : Option Wr) (len : Nat) (s : State) : State :=
  s.setQp f.dstQp (fun x => { x with deliver := x.deliver ++
    [{ tagNo := f.tagNo, count := f.countFlag, recv := recv, length := len, srcQp := f.srcQp, srcEdge := f.srcEdge }] })

/-- Execute an accepted WRITE segment (R453). -/
def State.doWrite (f : BFrame) (s : State) : State :=
  let q := f.dstQp
  let s1 := if f.dataLen = 0 then s
    else s.instWrite (s.qp q).inst f.addr f.dataLen [f.data] (some q) (some (f.rkey / 4096))
  let s2 := s1.advancePsn q 1
  let s3 := if f.last then s2.awaitDelivery f none 0 else s2
  s3.ackPolicy f

/-- Execute an accepted SEND segment into the consumed RECV (R453). -/
def State.doSend (f : BFrame) (w : Wr) (len : Nat) (s : State) : State :=
  let q := f.dstQp
  let s1 := if f.dataLen = 0 then s
    else s.instWrite (s.qp q).inst (w.laddr + f.addr) f.dataLen [f.data] (some q) (some (w.lkey / 4096))
  let s2 := (s1.advancePsn q 1).setQp q (fun x => { x with recv := if f.last then none else some w, recvLen := len })
  let s3 := if f.last then s2.awaitDelivery f (some w) len else s2
  s3.ackPolicy f

/-- A RECV that fails its check completes with a status, the SEND is answered with NAK syndrome 5 and the queue pair goes
to Error (R442, R449 step 10). -/
def State.failRecv (f : BFrame) (w : Wr) (status : Nat) (s : State) : State :=
  let q := f.dstQp
  let s1 := (s.answerBeryl q 5 f.psn 0).setQp q (fun x => { x with rq := x.rq.drop 1 })
  let s1 := s1.countForeign (decide (status = 3) && s1.keyForeign (s1.qp q).inst w.lkey)
  (s1.complete1 (s1.qp q).inst (s1.qp q).recvCq { status := status, op := w.op, qp := q, queue := 1, wrId := w.wrId }).flushQp q 1

/-- The READ_RESP frames of a READ_REQ, their data cut from the range's bytes as one number (R452, R453). -/
def State.readResponses (f : BFrame) (data : Nat) (s : State) : State :=
  s.each (List.range (segments f.length)) (fun k s =>
    let n := segmentLen f.length k
    let r : BFrame := {
      op := 0x81, first := decide (k = 0), last := decide (k + 1 = segments f.length), psn := (f.psn + k) % 2 ^ 24,
      addr := 4064 * k, length := if k = 0 then f.length else 0, dataLen := n,
      data := (data >>> (8 * 4064 * k)) % 2 ^ (8 * n) }
    s.sendBeryl f.dstQp r)

/-- Read a range of an instance's memory for a READ_REQ and return it, or answer NAK syndrome 5 where it cannot be read
(R453). DEDUCED: log entry 41. -/
def State.doRead (f : BFrame) (data : Nat) (ok : Bool) (again : Bool) (s : State) : State :=
  let q := f.dstQp
  let i := (s.qp q).inst
  let v := (s.instD i).vh
  if f.length ≠ 0 ∧ (ok = false ∨ s.masterZero (some v) (some i) = true) then s.answerBeryl q 5 f.psn 0
  else
    let s1 := if f.length = 0 then s else s.emitHost v (s.readOut v (some i) f.addr f.length)
    let s2 := if again then s1 else
      ((s1.advancePsn q (segments f.length)).setQp q (fun x => { x with markSeen := x.markSeen || f.marked })).awaitDelivery f none 0
    s2.readResponses f data

/-- The response of an atomic (R457). -/
def State.atomicResponse (q psn v : Nat) (s : State) : State :=
  s.sendBeryl q { op := 0x82, first := true, last := true, psn := psn, length := 8, dataLen := 8, data := v % 2 ^ 64 }

/-- Issue an AtomicOp to host memory, save its original value and return it (R453, R461). DEDUCED: log entry 41. -/
def State.doAtomic (f : BFrame) (orig : Nat) (ok : Bool) (s : State) : State :=
  let q := f.dstQp
  let i := (s.qp q).inst
  let v := (s.instD i).vh
  if ok = false ∨ s.masterZero (some v) (some i) = true then s.answerBeryl q 5 f.psn 0
  else
    let s1 := (s.logRange i f.addr 8).emitHost v (s.atomicOut i f.addr f.op (f.data % 2 ^ 64) (f.data / 2 ^ 64))
    let s2 := (s1.advancePsn q 1).setQp q (fun x => { x with
      atomics := ((f.psn, orig % 2 ^ 64) :: x.atomics).take 16, markSeen := x.markSeen || f.marked })
    (s2.awaitDelivery f none 0).atomicResponse q f.psn orig

/-- A request waits in the miss buffer for a descriptor, or is answered where its fetch cannot be issued (R451, R689). -/
def State.keyWait (f : BFrame) (key : Nat) (s : State) : State :=
  let i := (s.qp f.dstQp).inst
  if s.keyBarred i then (s.answerBeryl f.dstQp 5 f.psn 0).raise 351 else (s.fetchKey i key).park f

/-- An accepted READ or atomic that carries ack_req is acknowledged too (R462). -/
def State.ackAsked (f : BFrame) (e : Nat) (s : State) : State :=
  if f.ackReq ∧ (s.qp f.dstQp).expected ≠ e then s.sendAck f.dstQp else s

/-- Steps 5 to 10 and the execution of an expected request, or of a repeated READ (R449, R461). -/
def State.executeRequest (f : BFrame) (data : Nat) (ok again : Bool) (s : State) : State :=
  let q := f.dstQp
  let x := s.qp q
  if !s.validRequest f then s.answerBeryl q 4 f.psn 0
  else if f.op = 3 then
    match x.recv with
    | some w => s.doSend f w x.recvLen
    | none =>
      match x.rq with
      | [] => s.rnrNak q f.psn
      | w :: r =>
        if s.keyMissing x.inst w.lkey then s.keyWait f w.lkey
        else if w.op ≠ 0x10 then s.failRecv f w 5
        else if s.keyCheck x.inst w.lkey (some 0) w.laddr w.length ≠ 0 then s.failRecv f w 3
        else if w.length < f.length then s.failRecv f w 2
        else (s.setQp q (fun y => { y with rq := r })).doSend f w f.length
  else if s.keyMissing x.inst f.rkey then s.keyWait f f.rkey
  else
    let step := s.keyCheck x.inst f.rkey (some (requestRight f.op)) f.addr (requestLen f)
    if step ≠ 0 then s.berylViolation f step
    else if f.op = 1 then s.doWrite f
    else if f.op = 2 then (s.doRead f data ok again).ackAsked f x.expected
    else (s.doAtomic f data ok).ackAsked f x.expected

/-- Steps 3 and 4: only a Ready queue pair of an Active instance processes a request, and its PSN decides its class
(R449, R461, R511). -/
def State.classify (f : BFrame) (data : Nat) (ok : Bool) (s0 : State) : State :=
  let q := f.dstQp
  let s := s0.setQp q (fun y => { y with reqCls := f.cls })
  let x := s.qp q
  let back := psnFrom f.psn x.expected
  if x.state ≠ .ready ∨ (s.inst x.inst).state ≠ 2 then s
  else if f.psn = x.expected then s.executeRequest f data ok false
  else if 1 ≤ back ∧ back ≤ 2 ^ 23 then
    if f.op = 2 then s.executeRequest f data ok true
    else if f.op = 4 ∨ f.op = 5 then
      match x.atomics.find? (fun e => decide (e.1 = f.psn)) with
      | some e => s.atomicResponse q f.psn e.2
      | none => s.answerBeryl q 4 f.psn 0
    else s.sendAck q
  else if x.nakSent then s
  else ((s.answerBeryl q 2 x.expected 0).setQp q (fun y => { y with nakSent := true })).bump 0x6010 4

/-- A frame waits in the miss buffer for the context of its queue pair; it is discarded where the fetch fails at once (R465, R466,
R689). -/
def State.contextWait (f : BFrame) (s : State) : State :=
  let s1 := s.needContext f.dstQp
  if (s1.qp f.dstQp).fetching || (s1.qp f.dstQp).resident then s1.park f else s1

/-- A request frame reaches the cluster of its queue pair (R449, R466, R516, R549). The operands give what the host's
memory holds, and whether it can be read. -/
def State.requestFrame (f : BFrame) (data : Nat) (ok : Bool) (s0 : State) : State :=
  let s := s0.bump 0x6010 2
  let q := f.dstQp
  let d := s.instD (s.qp q).inst
  if s.berylContained f then s
  else if !s.knownFrame f then s.wrongFrame f
  else if s.mustPark q then s.contextWait f
  else if !s.rightSource f then s.wrongFrame f
  else if (s.qp q).state = .ready ∧ s.canMaster d.vh = false then s.rnrNak q f.psn
  else (s.touch q).classify f data ok

/-- Start the fetch or discard of a response frame's context; the response is processed by its own command (R449,
R463, R466): true where it can be processed now. -/
def State.responseReady (s : State) (f : BFrame) : Bool :=
  !s.berylContained f && s.knownFrame f && s.rightSource f && !s.mustPark f.dstQp &&
    decide ((s.qp f.dstQp).state = .ready)

/-- What happens to a response frame that cannot be processed now: parked, counted as wrong, or discarded. -/
def State.responseElse (f : BFrame) (s : State) : State :=
  if s.berylContained f then s
  else if !s.knownFrame f then s.wrongFrame f
  else if s.mustPark f.dstQp then s.contextWait f
  else if !s.rightSource f then s.wrongFrame f
  else s

/-- READ_RESP and ATOMIC_RESP at the requester: the data is written at local_addr, and PSNs up to its own are
acknowledged (R445, R463, R469). -/
def State.responseData (f : BFrame) (data : List Nat) (s0 : State) : State :=
  let q := f.dstQp
  if !s0.inUnacked q f.psn then s0
  else
    let s := if f.marked then s0.echoedMark q else s0
    match (s.qp q).active.find? (fun a => wantsResponse a.wr && !a.done && decide (a.missing = f.psn) && decide (a.got < a.count)) with
    | some a =>
      let i := (s.qp q).inst
      let s1 := if f.dataLen = 0 then s
        else s.instWrite i (a.wr.laddr + 4064 * a.got) f.dataLen [f.data] none (some (a.wr.lkey / 4096))
      let b := { a with got := a.got + 1, done := decide (a.got + 1 = a.count) }
      let s2 := s1.setQp q (fun x => { x with active := x.active.map (fun c => if c = a then b else c) })
      (s2.ackTo q f.psn).pumpAll q data
    | none => (s.ackTo q f.psn).pumpAll q data

/-- An ACK at the requester (R463, R469). -/
def State.ackFrame (f : BFrame) (data : List Nat) (s : State) : State :=
  let q := f.dstQp
  if s.inUnacked q f.psn then (((if f.markEcho then s.echoedMark q else s).ackTo q f.psn).pumpAll q data) else s

/-- A sequence NAK at the requester: it resends from the PSN at once, once while the resend runs (R463). -/
def State.seqNakFrame (f : BFrame) (data : List Nat) (s : State) : State :=
  let q := f.dstQp
  if s.inUnacked q f.psn ∧ (s.qp q).seqNakPsn ≠ some f.psn then
    ((s.rewind q f.psn).setQp q (fun x => { x with seqNakPsn := some f.psn })).pumpAll q data
  else s

/-- The request in progress that owns a PSN (R463). -/
def State.ownerOfPsn (s : State) (q p : Nat) : Option Active :=
  (s.qp q).active.find? (fun a => !a.done && decide (psnFrom a.first p < a.count))

/-- An RNR NAK at the requester (R468). -/
def State.rnrNakFrame (f : BFrame) (s0 : State) : State :=
  let q := f.dstQp
  let s := s0.bump 0x6010 6
  let x := s.qp q
  let limit := s.setting 0x6001 4
  if !s.inUnacked q f.psn then s
  else if limit ≠ 255 ∧ limit < x.rnrs + 1 then
    match s.ownerOfPsn q f.psn with
    | some a => (s.failActive q 7 a).raise 348
    | none => (s.flushQp q 1).raise 348
  else s.setQp q (fun y => { y with rnrUntil := some (s.ep.beat + f.length), rnrPsn := f.psn })

/-- A NAK with syndrome 3, 4 or 5: status 4, 5 or 8 (R444, R463). -/
def State.nakFrame (f : BFrame) (s : State) : State :=
  let q := f.dstQp
  let status := if f.syndrome = 3 then 4 else if f.syndrome = 4 then 5 else 8
  if !s.inUnacked q f.psn then s
  else match s.ownerOfPsn q f.psn with
    | some a => s.failActive q status a
    | none => s.flushQp q 1

/-- A response frame, by its opcode and syndrome (R457, R463). -/
def State.responseFrame (f : BFrame) (data : List Nat) (s : State) : State :=
  if f.op = 0x81 ∨ f.op = 0x82 then s.responseData f data
  else if f.op = 0x83 then
    if f.syndrome = 0 then s.ackFrame f data
    else if f.syndrome = 1 then s.rnrNakFrame f
    else if f.syndrome = 2 then s.seqNakFrame f data
    else if f.syndrome ≤ 5 then s.nakFrame f
    else s
  else s

/-- A response frame reaches the cluster of its queue pair. -/
def State.response (f : BFrame) (data : List Nat) (s0 : State) : State :=
  let s := s0.bump 0x6010 2
  if s.responseReady f then (s.touch f.dstQp).responseFrame f data else s.responseElse f

/-- Process the parked frames of a queue pair in arrival order until one has to wait again (R466). What the host's memory
holds for a READ or an atomic is the next of a list, or a free value. -/
def State.unpark (q : Nat) : List BFrame → List Nat → State → State
  | [], _, s => s
  | f :: r, data, s =>
    if !(s.qp q).parked.isEmpty then s.setQp q (fun x => { x with parked := x.parked ++ (f :: r) })
    else if !s.rightSource f then (s.wrongFrame f).unpark q r data
    else if f.op < 0x80 then
      let needs := decide (f.op = 2 ∨ f.op = 4 ∨ f.op = 5)
      let v : Nat × State := if needs && data.isEmpty then s.fresh 3 else (data.headD 0, s)
      (v.2.classify f v.1 true).unpark q r (if needs then data.drop 1 else data)
    else (if (s.qp q).state = .ready then s.responseFrame f [] else s).unpark q r data

/-- Process what is parked for a queue pair (R466, R467). -/
def State.unparkAll (q : Nat) (data : List Nat) (s : State) : State :=
  let l := (s.qp q).parked
  let s1 := (s.setQp q (fun x => { x with parked := [] })).unpark q l data
  if (s1.qp q).parked.isEmpty then s1.setQp q (fun x => { x with rnrSentParked := false }) else s1

/-! ### Fetches that fail, and regions in use -/

/-- A context fetch fails (R465). -/
def State.contextLost (q : Nat) (s : State) : State := ((s.setQp q (fun x => { x with fetching := false })).fatalQp q).raise 351

/-- A work request that waits at the head for its key fails with status 11 where the fetch failed (R451). -/
def State.failKeyWaiter (r q : Nat) (s : State) : State :=
  match (s.qp q).nextWr q with
  | some (owner, trig, w) =>
    if w.lkey / 4096 = r ∧ (s.qp q).state = .ready ∧ (1 ≤ w.op ∧ w.op ≤ 5) then s.failHead q owner trig w 11 else s
  | none => s

/-- The parked frames that a failed descriptor fetch answers with NAK syndrome 5: those whose key it is (R451). -/
def State.nakKeyWaiters (r q : Nat) (s : State) : State :=
  let x := s.qp q
  let bad := fun (f : BFrame) => decide (f.op < 0x80) &&
    (if f.op = 3 then decide ((match x.rq with | w :: _ => w.lkey | [] => 0) / 4096 = r) else decide (f.rkey / 4096 = r))
  let s1 := s.setQp q (fun y => { y with parked := y.parked.filter (fun f => !bad f) })
  s1.each (x.parked.filter bad) (fun f s => (s.setQp q (fun y => { y with reqCls := f.cls })).answerBeryl q 5 f.psn 0)

/-- The queue pairs of the instance that owns a region. -/
def State.regionUsers (s : State) (r : Nat) : List Nat :=
  (s.beryl.qps.filter (fun e => decide (e.2.inst = (s.region r).inst))).map (·.1)

/-- A descriptor fetch fails: what waits for it fails, and what waited behind goes on (R451). -/
def State.keyLost (r : Nat) (data : List Nat) (s : State) : State :=
  let qs := s.regionUsers r
  let s1 := (s.setRegion r (fun x => { x with fetching := false })).raise 351
  let s2 := s1.each qs (fun q s => s.failKeyWaiter r q)
  let s3 := s2.each qs (fun q s => s.nakKeyWaiters r q)
  s3.each (qs.filter (fun q => (s3.qp q).resident)) (fun q s => s.unparkAll q data)

/-- The unit that issued a master request receives its failure: the fetch of a context or of a descriptor fails (R451, R465,
R555). The other units' requests end as their own commands say (log entry 27). -/
def State.unitFails (t : Track) (s : State) : State :=
  match t.minst with
  | none => s
  | some i =>
    match s.beryl.qps.find? (fun e => e.2.fetching && decide (e.2.inst = i ∧ s.qpSlot e.1 = t.addr)) with
    | some e => s.contextLost e.1
    | none =>
      match s.beryl.regions.find? (fun e => e.2.fetching && decide (e.2.inst = i ∧ s.regionSlot e.1 = t.addr)) with
      | some e => s.keyLost e.1 []
      | none => s

/-- A region is in use by a request that passed its key check: a host write that waits, a local request that has not ended, or a
RECV that a SEND is filling (R475, R476). -/
def State.regionBusy (s : State) (r : Nat) : Bool :=
  decide ((s.region r).inflight ≠ 0) || s.beryl.qps.any (fun e =>
    e.2.active.any (fun a => !a.done && decide (a.wr.op ≠ 6 ∧ a.wr.lkey / 4096 = r)) ||
    e.2.recv.any (fun w => decide (w.lkey / 4096 = r)))

/-- A region becomes Free: its backing slot is cleared (R478, R514). -/
def State.freeRegion (r : Nat) (s : State) : State :=
  (s.instWrite (s.region r).inst (s.regionSlot r) 32 [0, 0, 0, 0] none none).setRegion r (fun x => { x with
    state := .free, base := 0, len := 0, rights := 0, cached := false, fetching := false, inflight := 0 })

end Sys2Proof.Machine
end

