-- ==== Sys2Proof/Machine/Commands.lean ====
section
/-!
DEFINITION. The command slots of the management functions and their commands (R435, R502, R531 to R533), with the
instance resets that DETACH and the other causes of R510 ask for.
-/

namespace Sys2Proof.Machine

/-- A command slot of a management function. -/
def State.slotOf (s : State) (v k : Nat) : CmdSlot := (s.func v).slots.look k {}
/-- Change a command slot. -/
def State.setCmd (v k : Nat) (f : CmdSlot → CmdSlot) (s : State) : State :=
  s.setFunc v (fun g => { g with slots := g.slots.put k (f (g.slots.look k {})) })

/-- Command code of a slot's word 0 (R532). -/
def CmdSlot.code (c : CmdSlot) : Nat := bits (c.words.getD 0 0) 63 56
/-- Instance of a slot's word 0 (R532). -/
def CmdSlot.inst (c : CmdSlot) : Nat := bits (c.words.getD 0 0) 55 44
/-- A word of a submitted command. -/
def CmdSlot.w (c : CmdSlot) (n : Nat) : Nat := c.words.getD n 0

/-- Post a command's result: busy clears, done and command_done are set, vector 0 is raised; a result 0 is mirrored
(R531, R619 kind 10). -/
def State.endCommand (v k result value : Nat) (s : State) : State :=
  let c := s.slotOf v k
  let s1 := if result = 0 then s.mirror 10 [c.code, c.inst, result, value] (c.words.drop 1) else s
  let s2 := s1.setCmd v k (fun x => { x with busy := false, done := true, result := result, value := value, waiting := false })
  let s3 := { s2 with host := { s2.host with cmdOrder := s2.host.cmdOrder.filter (fun e => decide (e ≠ (v, k))) } }
  s3.causeEvent v 2

/-- End a command with a result and no value. -/
def State.endWith (v k result : Nat) (s : State) : State := s.endCommand v k result 0

/-- A command names a number outside the instance's ranges: result 1, counter and source 355 (R431). -/
def State.outOfRange (v k : Nat) (s : State) : State := ((s.bump 0x6010 0x10).raise 355).endWith v k 1

/-- A queue pair lies in the range of an instance (R431). -/
def State.qpInRange (s : State) (i q : Nat) : Bool := decide ((s.instD i).qpBase ≤ q ∧ q < (s.instD i).qpBase + (s.instD i).qpCount)
/-- A completion queue lies in the range of an instance. -/
def State.cqInRange (s : State) (i c : Nat) : Bool := decide ((s.instD i).cqBase ≤ c ∧ c < (s.instD i).cqBase + (s.instD i).cqCount)
/-- A region index lies in the range of an instance. -/
def State.regInRange (s : State) (i r : Nat) : Bool := decide ((s.instD i).regBase ≤ r ∧ r < (s.instD i).regBase + (s.instD i).regCount)
/-- A store vector lies in the range of an instance (R543). -/
def State.vecInRange (s : State) (i n : Nat) : Bool := decide ((s.instD i).vecBase ≤ n ∧ n < (s.instD i).vecBase + (s.instD i).vecCount)

/-- The bits that a list of ranges names. -/
def maskOf (l : List (Nat × Nat)) : Nat := (l.map (fun r => 2 ^ (r.1 + 1) - 2 ^ r.2)).sum

/-- The named bits of parameter word n of a command (R532). -/
def namedBits (code n : Nat) : Nat :=
  match code, n with
  | 0x01, 1 => maskOf [(63, 0)] | 0x01, 2 => maskOf [(13, 0), (20, 16), (44, 32)]
  | 0x02, 1 => maskOf [(13, 0)]
  | 0x03, 1 => maskOf [(16, 0), (45, 32)] | 0x03, 2 => maskOf [(13, 0), (20, 16), (28, 24), (36, 32)]
  | 0x03, 3 => maskOf [(63, 0)] | 0x03, 4 => maskOf [(63, 0)] | 0x03, 5 => maskOf [(63, 0)]
  | 0x04, 1 => maskOf [(16, 0), (33, 32)] | 0x04, 2 => maskOf [(11, 0), (48, 32)]
  | 0x04, 3 => maskOf [(23, 0), (55, 32)] | 0x04, 4 => maskOf [(1, 0), (47, 32)]
  | 0x05, 1 => maskOf [(16, 0)]
  | 0x06, 1 => maskOf [(19, 0), (35, 32)] | 0x06, 2 => maskOf [(63, 0)] | 0x06, 3 => maskOf [(63, 0)]
  | 0x07, 1 => maskOf [(31, 0)]
  | 0x08, 1 => maskOf [(16, 0)] | 0x08, 2 => maskOf [(31, 0)]
  | 0x20, 1 => maskOf [(19, 0), (28, 24), (63, 32)]
  | 0x20, 2 => maskOf [(63, 0)] | 0x20, 3 => maskOf [(63, 0)] | 0x20, 4 => maskOf [(63, 0)] | 0x20, 5 => maskOf [(63, 0)]
  | 0x20, 6 => maskOf [(63, 0)] | 0x20, 7 => maskOf [(51, 0)]
  | _, _ => 0

/-- Every unnamed bit of a command is zero (R532). -/
def CmdSlot.clean (c : CmdSlot) : Bool :=
  decide (c.w 0 % 2 ^ 44 = 0) &&
    ([1, 2, 3, 4, 5, 6, 7]).all (fun n => decide (c.w n &&& namedBits c.code n = c.w n))

/-! ### Instance resets -/

/-- An instance reset ends: its status, the function's event vector and the counter (R514). DEDUCED: log entry 42. -/
def State.resetDone (i : Nat) (s : State) : State :=
  let s1 := (s.setInst i (fun e => { e with resetStatus := 3 })).bump 0x60A0 4
  s1.causeEvent (s.instD i).vh 3

/-- Ask for a reset of an instance, 1 drain or 2 squash (R510, R515). A reset of an Idle instance completes at once. -/
def State.askReset (i mode : Nat) (s : State) : State :=
  let e := s.inst i
  if e.state = 1 then s.resetDone i
  else if e.state = 2 ∨ (e.state = 3 ∧ mode = 2) then
    s.setInst i (fun x => { x with resetAsked := max x.resetAsked mode,
                                   resetStatus := if x.resetStatus = 3 then 0 else x.resetStatus })
  else s

/-- A frame in the module that belongs to an instance: a Beryl frame of one of its queue pairs (R512, R513). -/
def State.frameOfInst (s : State) (i : Nat) (f : Frame) : Bool :=
  decide (f.kind = 1) &&
    ((decide (f.ingress ≥ 160) && s.qpInRange i f.beryl.srcQp) || (decide (160 ≤ f.egress) && s.qpInRange i f.beryl.dstQp))

/-- The squash of an instance at once: frames and queued host writes are discarded, with a Posted Write Fault of cause 8
for each acknowledged segment (R513). -/
def State.squash (i : Nat) (s : State) : State :=
  let v := (s.instD i).vh
  let gone := (s.func v).stalled.filter (fun x => decide (x.inst = some i))
  let s1 := (s.setInstState i 4).setInst i (fun e => { e with resetAsked := 0, resetStatus := 2 })
  let s2 := s1.each (s1.core.frames.filter (s1.frameOfInst i)) (fun f s => s.dropFrame f.id)
  let s3 := s2.setFunc v (fun f => { f with stalled := f.stalled.filter (fun x => decide (x.inst ≠ some i)) })
  s3.each gone (fun x s =>
    let s := match x.region with
      | some r => s.setRegion r (fun y => { y with inflight := y.inflight - 1 })
      | none => s
    match x.acked, x.out with
    | some q, .hostWrite _ _ a _ =>
      s.fabricSend (s.moduleEdgeIn s.ep.live) (s.qp q).peerEdge 1 (s.qp q).peerQp (fun p => .pwf p (s.qp q).peerEdge (s.qp q).peerQp 0 a 8)
    | _, _ => s)

/-- No transaction of an instance remains (R512): no entry Outstanding, no frame, no queued host write, no started
request. -/
def State.drained (s : State) (i : Nat) : Bool :=
  decide (s.masterOfInst i = 0) && !(s.core.frames.any (s.frameOfInst i)) &&
    !((s.func (s.instD i).vh).stalled.any (fun x => decide (x.inst = some i))) &&
    !(s.beryl.qps.any (fun e => decide (e.2.inst = i) && !e.2.active.isEmpty))

/-- No tracker entry of an instance is Outstanding (R513). -/
def State.squashed (s : State) (i : Nat) : Bool :=
  !(s.fab.track.any (fun t => decide (t.budget = .master ∧ t.minst = some i) && !t.expired))

/-- The release of everything an instance holds, in the order of R514. -/
def State.releaseInst (i : Nat) (s : State) : State :=
  let mine := (s.beryl.qps.filter (fun e => decide (e.2.inst = i))).map (·.1)
  let regs := (s.beryl.regions.filter (fun e => decide (e.2.inst = i ∧ e.2.state ≠ .free))).map (·.1)
  let busy := (s.beryl.regions.filter (fun e => decide (e.2.inst = i ∧ (e.2.state = .asked ∨ e.2.state = .revoking)))).map (·.2.cmdSlot)
  let v := (s.instD i).vh
  let s1 := s.each mine (fun q s => s.emitHost v (s.writeOut i (s.qpSlot q) []))
  let s2 := s1.each regs (fun r s => s.freeRegion r)
  let s3 := { s2 with beryl := { s2.beryl with
    qps := s2.beryl.qps.filter (fun e => decide (e.2.inst ≠ i))
    cqs := s2.beryl.cqs.filter (fun e => !s.cqInRange i e.1)
    changed := s2.beryl.changed.filter (fun q => !mine.contains q) } }
  let s4 := s3.each busy (fun k s => s.endWith (k / 16) (k % 16) 0)
  let slot := (s.inst i).resetSlot
  let s5 := s4.setInst i (fun e => { state := e.state, resetStatus := e.resetStatus })
  let s6 := (s5.setInstState i 1).resetDone i
  match slot with
  | some k => s6.endWith (k / 16) (k % 16) 0
  | none => s6

/-! ### The commands -/

/-- The completion queue that a CREATE_CQ describes exists (R435). -/
def State.madeCq (c : CmdSlot) (s : State) : State :=
  s.setCq (bits (c.w 2) 13 0) (fun _ => { addr := c.w 1, log2 := bits (c.w 2) 20 16, vector := bits (c.w 2) 44 32 })

/-- CREATE_CQ (R435). -/
def State.createCq (v k : Nat) (s : State) : State :=
  let c := s.slotOf v k
  let i := c.inst
  let n := bits (c.w 2) 13 0
  let size := bits (c.w 2) 20 16
  let vec := bits (c.w 2) 44 32
  if !s.cqInRange i n || !s.vecInRange i vec then s.outOfRange v k
  else if s.beryl.cqs.has n then s.endWith v k 2
  else if size < 6 ∨ 22 < size then s.endWith v k 3
  else (s.madeCq c).endWith v k 0

/-- DESTROY_CQ (R435). A queue that does not exist is in the wrong state. -/
def State.destroyCq (v k : Nat) (s : State) : State :=
  let c := s.slotOf v k
  let n := bits (c.w 1) 13 0
  if !s.cqInRange c.inst n then s.outOfRange v k
  else if !s.beryl.cqs.has n then s.endWith v k 2
  else if s.beryl.qps.any (fun e => decide (e.2.sendCq = n ∨ e.2.recvCq = n)) then s.endWith v k 4
  else ({ s with beryl := { s.beryl with cqs := s.beryl.cqs.del n } }).endWith v k 0

/-- The queue pair that a CREATE_QP describes exists, in Reset with counter 0 (R435); its context is resident (log entry 30). -/
def State.madeQp (c : CmdSlot) (s : State) : State :=
  let q := bits (c.w 1) 16 0
  ((s.makePlace q).setQp q (fun _ => {
      inst := c.inst, sendCq := bits (c.w 1) 45 32, recvCq := bits (c.w 2) 13 0, sqLog := bits (c.w 2) 20 16, rqLog := bits (c.w 2) 28 24
      tlLog := bits (c.w 2) 36 32, sqAddr := c.w 3, rqAddr := c.w 4, tlAddr := c.w 5, resident := true })).touch q

/-- CREATE_QP (R435): in Reset, with counter 0; the context is resident (log entry 30). -/
def State.createQp (v k : Nat) (s : State) : State :=
  let c := s.slotOf v k
  let i := c.inst
  let q := bits (c.w 1) 16 0
  let scq := bits (c.w 1) 45 32
  let rcq := bits (c.w 2) 13 0
  let sl := bits (c.w 2) 20 16
  let rl := bits (c.w 2) 28 24
  let tl := bits (c.w 2) 36 32
  if !s.qpInRange i q || !s.cqInRange i scq || !s.cqInRange i rcq then s.outOfRange v k
  else if s.qpExists q then s.endWith v k 2
  else if !s.beryl.cqs.has scq || !s.beryl.cqs.has rcq then s.endWith v k 3
  else if sl < 4 ∨ 16 < sl ∨ rl < 4 ∨ 16 < rl ∨ tl < 4 ∨ 12 < tl then s.endWith v k 3
  else (s.madeQp c).endWith v k 0

/-- The queues of a queue pair emptied: it is in Reset, and its counter stays (R436). DESIGN CHOICE: log entry 30. -/
def Qp.emptied (x : Qp) : Qp :=
  { inst := x.inst, sendCq := x.sendCq, recvCq := x.recvCq, sqAddr := x.sqAddr, rqAddr := x.rqAddr, tlAddr := x.tlAddr,
    sqLog := x.sqLog, rqLog := x.rqLog, tlLog := x.tlLog, counter := x.counter, resident := x.resident, used := x.used, fetching := x.fetching }

/-- No frame of a queue pair remains in the module (R436). -/
def State.noFrames (s : State) (q : Nat) : Bool :=
  (s.qp q).parked.isEmpty &&
    !(s.core.frames.any (fun f => decide (f.kind = 1) &&
      ((decide (160 ≤ f.ingress) && decide (f.beryl.srcQp = q)) || (decide (160 ≤ f.egress) && decide (f.beryl.dstQp = q)))))

/-- The transition to Ready: peer, PSNs, class and cap are set, and armed heads are tested (R435, R436, R470). -/
def State.qpReady (q : Nat) (c : CmdSlot) (s : State) : State :=
  let cap := bits (c.w 4) 47 32
  let cap := if cap = 0 then s.setting 0x6001 0xD else cap
  let s1 := s.setQp q (fun x => { x with
    state := .ready, peerEdge := bits (c.w 2) 11 0, peerQp := bits (c.w 2) 48 32, psn := bits (c.w 3) 23 0, sentPsn := bits (c.w 3) 23 0,
    unacked := bits (c.w 3) 23 0, expected := bits (c.w 3) 55 32, cls := bits (c.w 4) 1 0, cap := cap, rate := cap,
    creditAt := s.ep.beat, timerAt := s.ep.beat, raisedAt := s.ep.beat })
  s1.testTriggers q 0

/-- MODIFY_QP (R435, R436). -/
def State.modifyQp (v k : Nat) (s : State) : State :=
  let c := s.slotOf v k
  let q := bits (c.w 1) 16 0
  let target := bits (c.w 1) 33 32
  if !s.qpInRange c.inst q then s.outOfRange v k
  else if !s.qpExists q then s.endWith v k 2
  else match (s.qp q).state, target with
    | .reset, 0 => s.endWith v k 0
    | .reset, 1 => (s.setQp q (fun x => { x with state := .init })).endWith v k 0
    | .reset, 3 => (s.setQp q (fun x => { x with state := .error })).endWith v k 0
    | .init, 0 => (s.setQp q Qp.emptied).endWith v k 0
    | .init, 2 =>
      if bits (c.w 2) 48 32 % 8 ≠ q % 8 then s.endWith v k 3 else (s.qpReady q c).endWith v k 0
    | .init, 3 => (s.flushQp q 1).endWith v k 0
    | .ready, 3 => (s.flushQp q 1).endWith v k 0
    | .error, 0 => if s.noFrames q then (s.setQp q Qp.emptied).endWith v k 0 else s.endWith v k 2
    | .error, 3 => s.endWith v k 0
    | _, _ => s.endWith v k 2

/-- DESTROY_QP (R435, R436). -/
def State.destroyQp (v k : Nat) (s : State) : State :=
  let c := s.slotOf v k
  let q := bits (c.w 1) 16 0
  if !s.qpInRange c.inst q then s.outOfRange v k
  else if !s.qpExists q ∨ (s.qp q).state = .ready then s.endWith v k 2
  else ({ s with beryl := { s.beryl with qps := s.beryl.qps.del q } }).endWith v k 0

/-- The region that a REGISTER_REGION describes is Valid, with a generation (R447). -/
def State.madeRegion (c : CmdSlot) (g : Nat) (s : State) : State :=
  let r := bits (c.w 1) 19 0
  (s.setRegion r (fun y => { y with
    state := .valid, generation := g, base := c.w 2, len := c.w 3, rights := bits (c.w 1) 35 32, inst := c.inst, inflight := 0 })).cacheKey r

/-- REGISTER_REGION (R435, R447): the key's generation is one above the last issued, from 1 to 4,095. DEDUCED: log entry 42. -/
def State.registerRegion (v k : Nat) (s : State) : State :=
  let c := s.slotOf v k
  let r := bits (c.w 1) 19 0
  let rights := bits (c.w 1) 35 32
  let x := s.region r
  if !s.regInRange c.inst r then s.outOfRange v k
  else if x.state ≠ .free then s.endWith v k 4
  else if c.w 3 = 0 ∨ 2 ^ 48 < c.w 3 ∨ 2 ^ 64 < c.w 2 + c.w 3 then s.endWith v k 3
  else if (rights.testBit 2 || rights.testBit 3) && !rights.testBit 0 then s.endWith v k 3
  else
    let g := x.generation % 4095 + 1
    (s.madeRegion c g).endCommand v k 0 (r * 4096 + g)

/-- REVOKE_REGION (R435, R474): the slot stays busy until the revocation is complete (R478, R533). DEDUCED: log entry 42. -/
def State.revokeRegion (v k : Nat) (s : State) : State :=
  let c := s.slotOf v k
  let key := bits (c.w 1) 31 0
  let r := key / 4096
  let x := s.region r
  if key ≠ 0 ∧ s.regInRange c.inst r = false then s.outOfRange v k
  else if key = 0 ∨ x.state ≠ .valid ∨ x.generation ≠ key % 4096 then s.endWith v k 3
  else s.setRegion r (fun y => { y with state := .asked, cmdSlot := 16 * v + k })

/-- SET_COUNTER (R435): the trigger list is tested (R479). -/
def State.setCounter (v k : Nat) (s : State) : State :=
  let c := s.slotOf v k
  let q := bits (c.w 1) 16 0
  if !s.qpInRange c.inst q then s.outOfRange v k
  else if !s.qpExists q then s.endWith v k 2
  else ((s.setQp q (fun x => { x with counter := bits (c.w 2) 31 0 })).testTriggers q 0).endWith v k 0

/-- What an ATTACH gives its instance, which is then Active (R502). -/
def State.attached (c : CmdSlot) (s : State) : State :=
  (s.setInst c.inst (fun e => { e with
    pasid := bits (c.w 1) 19 0, qpTable := c.w 2, regionTable := c.w 3, evAddr := c.w 4, evLog := bits (c.w 1) 28 24, evProducer := 0
    evConsumer := 0, evLost := 0, logging := decide (bits (c.w 1) 63 32 ≠ 0), maps := [c.w 5, c.w 6], mapWords := bits (c.w 1) 63 32
    firstPage := bits (c.w 7) 51 0, activeMap := 0, swapAsked := false, swapping := false, overflow := false
    recentPages := [] })).setInstState c.inst 2

/-- ATTACH: an instance that is not Idle, or that the twin serves, is refused (R502, R615). DEDUCED: log entry 42. -/
def State.attach (v k : Nat) (s : State) : State :=
  let c := s.slotOf v k
  let i := c.inst
  let size := bits (c.w 1) 28 24
  let words := bits (c.w 1) 63 32
  let aligned := ([c.w 2, c.w 3, c.w 4] ++ if words = 0 then [] else [c.w 5, c.w 6]).all (fun a => decide (a % 4096 = 0))
  if (s.inst i).state ≠ 1 ∨ s.twin.served.contains i = true then s.endWith v k 2
  else if !(s.func v).pasidEn || !aligned || decide (size < 6 ∨ 16 < size) || (decide (words ≠ 0) && !(s.func v).atomicEn) then
    s.endWith v k 3
  else (s.attached c).endWith v k 0

/-- DETACH (R502, R510): a squash reset of an Active instance; the result is posted at its end. DEDUCED: log entry 42. -/
def State.detach (v k : Nat) (s : State) : State :=
  let i := (s.slotOf v k).inst
  if (s.inst i).state ≠ 2 then s.endWith v k 2
  else (s.askReset i 2).setInst i (fun e => { e with resetSlot := some (16 * v + k) })

/-- Run the command in a slot: the instance belongs to the function, it is not in reset, every unnamed bit is zero, and
the code is known (R511, R532). DEDUCED: log entry 42. -/
def State.runCommand (v k : Nat) (s : State) : State :=
  let c := s.slotOf v k
  let i := c.inst
  if !(s.instD i).enable ∨ (s.instD i).vh ≠ v then s.endWith v k 1
  else if (s.inst i).state = 3 ∨ (s.inst i).state = 4 then s.endWith v k 4
  else if !c.clean then s.endWith v k 3
  else if c.code = 0x20 then s.attach v k
  else if c.code = 0x21 then s.detach v k
  else if 1 ≤ c.code ∧ c.code ≤ 8 ∧ (s.inst i).state ≠ 2 then s.endWith v k 2
  else match c.code with
    | 0x01 => s.createCq v k
    | 0x02 => s.destroyCq v k
    | 0x03 => s.createQp v k
    | 0x04 => s.modifyQp v k
    | 0x05 => s.destroyQp v k
    | 0x06 => s.registerRegion v k
    | 0x07 => s.revokeRegion v k
    | 0x08 => s.setCounter v k
    | _ => s.endWith v k 3

/-- An earlier running command is changing an object that a command names: a DETACH of its instance, or a revocation of
the region that a REVOKE_REGION names (R533; REGISTER_REGION of it is refused instead, R477). DEDUCED: log entry 42. -/
def State.conflicts (s : State) (v k : Nat) : Bool :=
  let c := s.slotOf v k
  let e := s.inst c.inst
  (match e.resetSlot with
    | some n => decide (n ≠ 16 * v + k) && decide (e.state = 2)
    | none => false) ||
  (decide (c.code = 0x07) &&
    (let x := s.region (bits (c.w 1) 31 0 / 4096)
     decide ((x.state = .asked ∨ x.state = .revoking) ∧ x.cmdSlot ≠ 16 * v + k ∧ x.inst = c.inst)))

/-- A slot takes a command: its words are those of its registers, and it is busy (R531). -/
def CmdSlot.take (words : List Nat) (x : CmdSlot) : CmdSlot :=
  { x with
    busy := true, words := words, waiting := false
    regs := ((List.range 8).zip words).foldl (fun t e => t.put e.1 e.2) x.regs }

/-- A write to word 0 of a slot submits its command (R531): it starts, waits, or is discarded while the slot is busy; while
the task set of the command slots moves to another core it ends with result 4 (R560). -/
def State.submit (v k : Nat) (words : List Nat) (s : State) : State :=
  if !s.running then s
  else if (s.slotOf v k).busy then s.raise 369
  else
    let s0 := s.interrupt (80 + v)
    let s1 := s0.setCmd v k (CmdSlot.take words)
    if s1.irq.moving.contains 2 then s1.endWith v k 4
    else
    let s2 := { s1 with host := { s1.host with cmdOrder := s1.host.cmdOrder ++ [(v, k)] } }
    if s2.conflicts v k then s2.setCmd v k (fun x => { x with waiting := true }) else s2.runCommand v k

/-- Words of a command of a code, naming an instance, with the low bits of word 0 and its parameter words. -/
def cmdWords (code inst : Nat) (low : BitVec 44) (ws : List (BitVec 64)) : List Nat :=
  (code * 2 ^ 56 + inst * 2 ^ 44 + low.toNat) :: (List.range 7).map (fun n => (ws.getD n 0).toNat)

/-- CREATE_CQ written to a slot (R435). -/
def execCreateCq (v : Fin 64) (k : Fin 16) (i : Fin 4096) (low : BitVec 44) (ws : List (BitVec 64)) (s : State) : Res :=
  .next (s.submit v k (cmdWords 0x01 i low ws))

/-- DESTROY_CQ written to a slot (R435). -/
def execDestroyCq (v : Fin 64) (k : Fin 16) (i : Fin 4096) (low : BitVec 44) (ws : List (BitVec 64)) (s : State) : Res :=
  .next (s.submit v k (cmdWords 0x02 i low ws))

/-- CREATE_QP written to a slot (R435). DEDUCED: log entry 30. -/
def execCreateQp (v : Fin 64) (k : Fin 16) (i : Fin 4096) (low : BitVec 44) (ws : List (BitVec 64)) (s : State) : Res :=
  .next (s.submit v k (cmdWords 0x03 i low ws))

/-- MODIFY_QP written to a slot (R436). -/
def execModifyQp (v : Fin 64) (k : Fin 16) (i : Fin 4096) (low : BitVec 44) (ws : List (BitVec 64)) (s : State) : Res :=
  .next (s.submit v k (cmdWords 0x04 i low ws))

/-- DESTROY_QP written to a slot (R436). -/
def execDestroyQp (v : Fin 64) (k : Fin 16) (i : Fin 4096) (low : BitVec 44) (ws : List (BitVec 64)) (s : State) : Res :=
  .next (s.submit v k (cmdWords 0x05 i low ws))

/-- REGISTER_REGION written to a slot (R447). -/
def execRegisterRegion (v : Fin 64) (k : Fin 16) (i : Fin 4096) (low : BitVec 44) (ws : List (BitVec 64)) (s : State) : Res :=
  .next (s.submit v k (cmdWords 0x06 i low ws))

/-- REVOKE_REGION written to a slot (R474). -/
def execRevokeRegion (v : Fin 64) (k : Fin 16) (i : Fin 4096) (low : BitVec 44) (ws : List (BitVec 64)) (s : State) : Res :=
  .next (s.submit v k (cmdWords 0x07 i low ws))

/-- SET_COUNTER written to a slot (R435). -/
def execSetCounter (v : Fin 64) (k : Fin 16) (i : Fin 4096) (low : BitVec 44) (ws : List (BitVec 64)) (s : State) : Res :=
  .next (s.submit v k (cmdWords 0x08 i low ws))

/-- ATTACH written to a slot (R502). -/
def execAttach (v : Fin 64) (k : Fin 16) (i : Fin 4096) (low : BitVec 44) (ws : List (BitVec 64)) (s : State) : Res :=
  .next (s.submit v k (cmdWords 0x20 i low ws))

/-- DETACH written to a slot (R502). -/
def execDetach (v : Fin 64) (k : Fin 16) (i : Fin 4096) (low : BitVec 44) (ws : List (BitVec 64)) (s : State) : Res :=
  .next (s.submit v k (cmdWords 0x21 i low ws))

/-- A waiting command starts once no earlier command is changing its object (R533). -/
def execCommandStart (v : Fin 64) (k : Fin 16) (s : State) : Res :=
  guarded (s.running && (s.slotOf v k).waiting && !s.conflicts v k)
    (fun s => (s.setCmd v k (fun x => { x with waiting := false })).runCommand v k) s

end Sys2Proof.Machine
end

