-- ==== Sys2Proof/Machine/Links.lean ====
section
/-!
DEFINITION. Shared operations for links that come up and go down, and for the resets of hierarchies, functions and
targets (R131, R132, R147, R259, R289 to R292, R318).
-/

namespace Sys2Proof.Machine

/-! ### Whether a port may train -/

/-- Every group of a port is cabled: both groups of an x16 port (R50, R54). -/
def State.cabled (s : State) (p : Nat) : Bool :=
  if p = 160 then !s.board.garnetPrsnt
  else !(s.group (p / 4)).prsnt && (decide ((s.portLanes s.ep.live p).2 ≠ 16) || !(s.group (p / 4 + 1)).prsnt)

/-- A port is held down: by DPC, by a contain-port reaction or by a domain containment (D:34pp.10). -/
def State.held (s : State) (p : Nat) : Bool := (s.port p).heldDpc || (s.port p).heldFault || !(s.port p).heldDomains.isEmpty

/-- A port may train: the data path is released, it is enabled, cabled and not held, its attachments are not retired (R245), a host port's PERST_N is accepted high and a downstream slot is released from reset (R51, R52, R54, R112, R270). -/
def State.mayTrain (s : State) (p : Nat) : Bool :=
  s.running && s.enabled p && s.cabled p && !s.held p && !(decide (p < 160) && (s.attachments p).any (fun n => s.core.attachRetired.look n false)) &&
    (match s.portRole p with
      | 1 => (s.group (p / 4)).perst
      | 2 => !(s.slot p).perst && !(s.slot p).releaseOwed && (match s.bridgeOfPort p with
        | some (v, b) => !(s.bridge v b).linkDisable
        | none => true)
      | 3 => true
      | _ => false)

/-- A lane that stage 1 does not try again (R146, R166). -/
def Lane.barred (x : Lane) : Bool := decide (x.failCause = 9) || x.excludeCmd

/-- Failed lanes stay excluded in the restart that follows the retrain limit, while a lane is left to train with (R164); any
other stage 1 tries every lane again (R166). DEDUCED: log entry 23. -/
def State.keepsFailed (s : State) (p : Nat) : Bool :=
  decide ((s.port p).downCause = 3) && (s.lanesOf p).any (fun l => decide ((s.lane l).state ≠ 6))

/-- A port enters stage 1: every lane is tried again but those of R164 and R166 (R147, R152, R688); a host port's link that
begins training releases the wake of its hierarchy (R271). -/
def State.enterStage1 (p : Nat) (s : State) : State :=
  let trunk := decide (s.portRole p = 3)
  let keep := s.keepsFailed p
  let s0 : State := match s.vhOfPort p with
    | some v => s.setGroup (p / 4) (fun g => { g with wakeFor := g.wakeFor.filter (· ≠ v) })
    | none => s
  let s1 := s0.setPort p (fun q => { q with
    stage := 1, state := 1, stageSince := s.ep.beat, firstDetect := none, narrowSince := none, recovery := false
    targetRate := if p = 160 then 11 else if trunk then s.portIn s.ep.live p 2 else 0 })
  (s1.clkreqCheck p).each (s.lanesOf p) (fun l s => s.setLane l (fun x =>
    if x.barred || (keep && decide (x.state = 6)) then { x with state := 6, tx := .off, rx := .off }
    else { x with state := 1, mode := if trunk then 12 else 1, tx := .on, rx := .on, failCause := 0, detected := false, ready := false
                  errOk := false, goodWords := 0, response := 0, request := 0, reqPreset := 0, answered := 0, partner := 0, proposal := 0
                  precodeTx := false, precodeRx := false, window := 0, rxExit := none }))

/-- A port starts at stage 1 when it may train and is not already training or up; a failed port waits to be disabled and
enabled again (R153). -/
def State.startPort (p : Nat) (s : State) : State :=
  if s.mayTrain p && decide ((s.port p).stage = 0 ∧ (s.port p).state ≠ 3) then s.enterStage1 p else s

/-! ### A link goes down -/

/-- As portDown, where the spec names no cause for D:34pp.19: the cause is a free value (log entry 4). DEDUCED: log entry 26. -/
def State.portDownFree (p : Nat) (s : State) : State :=
  let r := s.fresh 4
  r.2.portDown p (r.1 % 9)

/-- What concerns a port, or one logical device of it (R289). -/
def onPlace (p : Nat) (ld : Option Nat) (q n : Nat) : Bool :=
  decide (q = p) && match ld with
    | some l => decide (n = l)
    | none => true

/-- Handle the tracker entries of a port or slice that is down (rows 1 and 2 of R289), with a completion status. -/
def State.entriesDown (p : Nat) (ld : Option Nat) (status : Nat) (s : State) : State :=
  let live := s.fab.track.filter (fun t => !t.expired)
  let silent := live.filter (fun t => onPlace p ld t.reqPort t.reqLd && decide (t.budget ≠ .master))
  let told := live.filter (fun t => onPlace p ld t.cplPort t.cplLd && !(onPlace p ld t.reqPort t.reqLd && decide (t.budget ≠ .master)))
  (s.each silent (fun t s => s.expire t.index)).each told
    (fun t s => (((s.reportAs status t).expire t.index).ifDo (!t.prefetch) (State.bump 0x40F0 0xD)).unitFails t)

/-- Discard the requests from a port or slice that wait for an entry (row 3 of R289), and complete those routed to it
(row 4). -/
def State.waitingDown (p : Nat) (ld : Option Nat) (s : State) : State :=
  let fromIt (w : Waiting) : Bool := match s.frame w.frame, w.mem, w.coh with
    | _, some m, _ => decide (s.portOfVh m.host = some p ∧ ld = none)
    | _, _, some c => decide (s.portOfVh c.req.host = some p ∧ ld = none)
    | some f, _, _ => onPlace p ld f.ingress f.near.ld
    | none, _, _ => false
  let toIt (w : Waiting) : Bool := match w.mem with
    | some m => onPlace p ld (s.devIn (s.tablesOf m.tag) m.dev).port (s.devIn (s.tablesOf m.tag) m.dev).ld && !fromIt w
    | none => false
  let gone := s.fab.waiting.filter fromIt
  let told := s.fab.waiting.filter toIt
  let s1 := { s with fab := { s.fab with waiting := s.fab.waiting.filter (fun w => !fromIt w && !toIt w) } }
  let s2 := s1.each gone (fun w s => if w.mem.isNone ∧ w.coh.isNone then s.dropFrame w.frame else s)
  s2.each told (fun w s => match w.mem with
    | some m =>
      let q := (s.portOfVh m.host).getD 176
      let s3 := (s.emitOn q (.memAnswer q m.tagNo m.write true)).bump 0x40F0 0xD
      if m.write then s3.aer m.host none aerInternal else s3
    | none => s)

/-- Handle the frames of a port or slice that is down (rows 4 to 9 of R289): those queued for it, those in transmission to
it, which are lost with the link, and those from it that are not whole. -/
def State.framesDown (p : Nat) (ld : Option Nat) (s : State) : State :=
  let queued := s.core.frames.filter (fun f => onPlace p ld f.egress f.tlp.ld && decide (f.sent = 0 ∧ f.cells ≤ f.formed))
  let s1 := s.each queued (fun f s => s.discardQueued p f)
  let going := s1.core.frames.filter (fun f => onPlace p ld f.egress f.tlp.ld && decide (ld = none))
  let s2 := s1.each going (fun f s =>
    ({ s with core := { s.core with xmit := s.core.xmit.del p } }).dropFrame f.id)
  let cut := s2.core.frames.filter (fun f => onPlace p ld f.ingress f.near.ld && decide (f.formed < f.cells))
  s2.each cut (fun f s => s.frameBad f.id)

/-- Handle every frame and entry of a port, or of one logical device of it, whose link is down (R289). -/
def State.placeDown (p : Nat) (ld : Option Nat) (status : Nat) (s : State) : State :=
  ((s.entriesDown p ld status).waitingDown p ld).framesDown p ld

/-! ### Resets -/

/-- peer_event of the enabled channels that a hierarchy rings, or that ring it (R318). DESIGN CHOICE: log entry 49. -/
def State.peerEvent (v : Nat) (ringer : Bool) (s : State) : State :=
  let chans := (s.ep.live.filter (fun e => decide (0x42C0 ≤ e.1 / 256 ∧ e.1 / 256 ≤ 0x42C3) && bit e.2 63 &&
    decide ((if ringer then bits e.2 62 57 else bits e.2 56 51) = v))).map (fun e => (e.1 / 256 - 0x42C0) * 256 + e.1 % 256)
  s.each chans (fun c s =>
    let x := s.fab.channels.look c {}
    { s with fab := { s.fab with channels := s.fab.channels.put c { x with status := x.status ||| 2 ^ 31 } } })

/-- The pool endpoint's own part of a reset: its outstanding requests are handled as link down, its configuration state is lost,
and a shared endpoint's host leaves the sharing group (R131, R259, R390). -/
def State.endpointReset (v e : Nat) (s : State) : State :=
  let mine (t : Track) : Bool := !t.expired && t.cxlMem && decide (t.budget = .vh v) && match t.extent with
    | some x => decide ((s.extIn s.ep.live x).use = 1 ∧ (s.extIn s.ep.live x).owner = e)
    | none => false
  let s1 := s.each (s.fab.track.filter mine) (fun t s => ((s.reportEntry t).expire t.index).ifDo (!t.prefetch) (State.bump 0x40F0 0xD))
  let d := s.endpIn s.ep.live e
  let s2 := ({ s1 with pool := { s1.pool with epCfg := s1.pool.epCfg.del e } } : State).emit (.endpoint e 0 [])
  if d.kind = 2 then s2.depart d.region v else s2

/-- Reset the target of a binding: a whole port by hot reset on its link, which goes down and retrains; a slice by reset of
its logical device; a pool endpoint's configuration (R131, R259). -/
def State.targetReset (v b entry : Nat) (s : State) : State :=
  let p := bindPort entry
  if bindKind entry = 1 then
    let s1 := ((s.emit (.devCmd p 1 0)).portDownFree p).bridgeLink v b false
    ((s1.setPort p (fun q => { q with downOwed := false })).placeDown p none 4).startPort p
  else if bindKind entry = 2 then
    (((s.emit (.devCmd p 2 (bindLd entry))).placeDown p (some (bindLd entry)) 4)).deviceLink p false (some (bindLd entry))
  else if bindKind entry = 3 then s.endpointReset v (bindEndpoint entry)
  else s

/-- A bridge's configuration after a reset of its hierarchy: what its hardware shows stays (R131). The power and indicator
controls stay with the slot's outputs (log entry 32). -/
def Bridge.afterReset (x : Bridge) : Bridge :=
  { presence := x.presence, linkActive := x.linkActive, mrlOpen := x.mrlOpen, powerOff := x.powerOff, attnInd := x.attnInd
    powerInd := x.powerInd }

/-- Reset of a management function: its configuration and BAR state, its vectors and its mailbox sessions, and a squash of
each of its instances (R131). The aperture size and the accesses of its instances stay. DEDUCED: log entries 26 and 32. -/
def State.functionReset (v : Nat) (s : State) : State :=
  let mine := s.validInsts.filter (fun i => decide ((s.instD i).vh = v))
  let keep := (s.func v).stalled.filter (fun x => x.inst.isSome)
  let s1 := s.setFunc v (fun f => { apertureLog2 := f.apertureLog2, stalled := keep })
  let s2 := { s1 with
    host := { s1.host with
      fnVectors := s1.host.fnVectors.filter (fun e => decide (e.1 / 64 ≠ v))
      storeVectors := s1.host.storeVectors.filter (fun e => !(mine.any (fun i =>
        decide ((s.instD i).vecBase ≤ e.1 ∧ e.1 < (s.instD i).vecBase + (s.instD i).vecCount))))
      cmdOrder := s1.host.cmdOrder.filter (fun x => decide (x.1 ≠ v)) }
    adp := { s1.adp with sessions := s1.adp.sessions.filter (fun x => decide (x.mailbox ≠ some v)) } }
  s2.each mine (fun i s => s.askReset i 2)

/-- Reset of a hierarchy: fundamental reset, hot reset or link down of its host port (R131, R132, R253, R290, R301, R312,
R318). Its bindings stay. DEDUCED: log entry 26. -/
def State.hierReset (v : Nat) (s : State) : State :=
  let s1 := match s.portOfVh v with
    | some p => s.placeDown p none 4
    | none => s
  let mine := s1.fab.track.filter (fun t => !t.expired && decide (t.budget = .vh v ∧ some t.reqPort = s.portOfVh v))
  let s2 := (s1.each mine (fun t s => s.expire t.index)).departAll v
  let s3 := s2.each ((s.bindingsOf v).filter (fun b => decide (bindKind b.2 ≠ 0))) (fun b s => s.targetReset v b.1 b.2)
  let freed := (s3.bindingsOf v).filter (fun b => (s3.bridge v b.1).dpcTriggered && decide (bindKind b.2 = 1))
  let s4 := s3.each freed (fun b s => s.setPort (bindPort b.2) (fun q => { q with heldDpc := false }))
  let clean (e : Nat × Bridge) : Nat × Bridge := if e.1 / 256 = v then (e.1, e.2.afterReset) else e
  let s4b : State := { s4 with fab := { s4.fab with bridges := s4.fab.bridges.map clean } }
  let s5 := s4b.each ((s.bindingsOf v).filter (fun b => decide (bindKind b.2 = 2)))
    (fun b s => s.setSlot (bindPort b.2) (fun x => { x with blocked := x.blocked &&& (65535 - 2 ^ bindLd b.2) }))
  let owned := (s.portOfVh v).toList ++ ((s.bindingsOf v).filter (fun b => decide (bindKind b.2 = 1))).map (fun b => bindPort b.2)
  let s5 := s5.each owned (fun p s => s.setPort p (fun q => { q with ownerAspm := 0 }))
  let s6 := s5.setHier v (fun h => { reset := h.reset, bridgeCount := s.setting 0x40F7 v, hotplugIntr := h.hotplugIntr })
  let s7 := (s6.functionReset v).setFunc v (fun f => { f with apertureLog2 := s.setting 0x8060 v })
  let holds := s7.fab.holds.filter (fun (h : Hold) => decide ((winFields (s7.live (0x4240 + h.window / 256) (h.window % 256))).nearVh = v))
  (s7.each holds State.discardHold).peerEvent v true

/-! ### The handling of a lost link -/

/-- A link that is down is handled, at the beat boundary where it is down (R289 to R292): a host port resets its hierarchy,
a downstream port is reported in its bridge and its device is lost to the pool, a trunk path fails. -/
def State.linkGone (p : Nat) (status : Nat) (s0 : State) : State :=
  let s := s0.setPort p (fun q => { q with downOwed := false })
  let s1 : State := match s.portRole p with
    | 1 => match s.vhOfPort p with
      | some v => s.hierReset v
      | none => s.placeDown p none status
    | 2 =>
      let a : State := (s.placeDown p none status).deviceLink p false none
      match s.bridgeOfPort p with
      | some (v, b) =>
        let x := s.bridge v b
        let expected := x.powerOff || x.linkDisable || x.busReset
        (a.bridgeLink v b false).ifDo (x.linkActive && !expected) (fun s =>
          (s.setBridge v b (fun y => { y with surpriseDown := true })).aer v (some b) aerSurprise)
      | none => a
    | 3 => if p < 160 then ((s.trunkDown p).pathDown p).framesDown p none else s.trunkDown p
    | _ => s.placeDown p none status
  s1.setSlot p (fun x => { x with ident := 0 })

/-- A link that is down is handled; it then starts again at stage 1 where it may. -/
def State.linkLost (p status : Nat) (s : State) : State := (s.linkGone p status).startPort p

/-- Completion status for what a link down completes: that of DPC where DPC holds the port (R275), else Completer Abort. -/
def State.lostStatus (s : State) (p : Nat) : Nat :=
  match s.bridgeOfPort p with
  | some (v, b) => if (s.port p).heldDpc && (s.bridge v b).dpcUr then 1 else 4
  | none => 4

/-- Bring a link down and handle it at the same boundary. -/
def State.downNow (p cause : Nat) (s : State) : State :=
  let up := s.linkActive p
  let s1 := s.portDown p cause
  if up then s1.linkLost p (s1.lostStatus p) else s1.startPort p

/-- A port reaches stage 5 (R142, R147, R154, R159, R177): its width, rate and negotiated protocol are known, and its lanes
start without precoder history. A lane that returns from a narrowing keeps its error window. -/
def State.portUp (p width rate cxl protocols : Nat) (flit : Bool) (s : State) : State :=
  let back := (s.port p).retrains
  let s1 := s.setPort p (fun q => { q with
    stage := 5, state := 2, stageSince := s.ep.beat, narrowSince := none, recovery := false, width := width, txWidth := width, rxWidth := width
    rate := rate, flit := flit, cxl := cxl, cxlFlit := if cxl = 0 then 0 else if cxl = 3 ∧ rate = 6 then 256 else 68
    l0p := flit && q.l0p, protocols := protocols, power := .l0, idleSince := s.ep.beat, widening := false })
  (s1.each (s.lanesOf p) (fun l s => s.setLane l (fun x => if 1 ≤ x.state ∧ x.state ≤ 5 then
    { x with state := 5, mode := rate, tx := .on, rx := .on, lastTx := 0, lastRx := 0, rxExit := none
             windowSince := if back then x.windowSince else s.ep.beat } else x))).clkreqCheck p |>.ifDo (decide (p < 160)) (State.interrupt (200 + p / 4))

/-! ### Narrowing -/

/-- A lane may be part of a narrowed port: it trains, carries data, or is held (R161, R163). -/
def Lane.usable (x : Lane) : Bool := decide (1 ≤ x.state ∧ x.state ≤ 5) || decide (x.state = 8)

/-- The run of lanes that a narrowed port takes: the widest width whose lowest or highest physical lanes are all usable, the
lowest first (R161). -/
def runOf (lanes : List Nat) (ok : Nat → Bool) : List Nat → Option (List Nat × Bool)
  | [] => none
  | w :: ws =>
    if lanes.length < w then runOf lanes ok ws
    else if (lanes.take w).all ok then some (lanes.take w, false)
    else if (lanes.drop (lanes.length - w)).all ok then some (lanes.drop (lanes.length - w), true)
    else runOf lanes ok ws

/-- The run of a port (R161). -/
def State.runOfPort (s : State) (p : Nat) : Option (List Nat × Bool) :=
  runOf (s.lanesOf p) (fun l => (s.lane l).usable) [16, 8, 4, 2, 1]

/-- Put a lane out of use (R157, R160): both directions Off, the cause and the count, and the group's fault source; the lanes
of G00 to G39 report at 136 to 175 and those of the Garnet link at 176 (R175). -/
def State.laneOut (l cause : Nat) (s : State) : State :=
  (s.setLane l (fun x => { x with state := 6, tx := .off, rx := .off, failCause := cause, failCount := x.failCount + 1, rxExit := none
                                  ready := false, goodWords := 0 })).raise (136 + l / 8)

/-- Give a port its run at a stage: the lanes of the run take part, a held one leaves Deep idle, and a usable one outside it
is held in Deep idle (R161, R163). One that joins stage 4 from the training base mode runs the target mode, precoded (R141,
R147). DEDUCED: log entry 23. -/
def State.takeRun (p stage : Nat) (run : List Nat) (rev : Bool) (s : State) : State :=
  (s.setPort p (fun q => { q with reversed := rev })).each (s.lanesOf p) (fun l s =>
    s.setLane l (fun x =>
      if run.contains l then
        let base := decide (stage = 4 ∧ x.mode = 12)
        ({ x with
          state := stage, tx := .on, goodWords := 0, ready := false, response := 0, request := 0, answered := 0
          mode := if base then (s.port p).targetRate else x.mode
          precodeTx := x.precodeTx || base, precodeRx := x.precodeRx || base }).setRx s.ep.beat .on
      else if x.usable then { x with state := 8, tx := .deepIdle, rx := .deepIdle, rxExit := none, goodWords := 0, ready := false }
      else x))

/-- A port narrows after a lane failure, starting at stage 3 in the same mode (R160, R165); where no width qualifies the link
is down at once (R164). The limit counts from the first detection. DEDUCED: log entry 23. -/
def State.narrow (p : Nat) (s : State) : State :=
  match s.runOfPort p with
  | none => s.downNow p 3
  | some (run, rev) =>
    let s1 := s.takeRun p 3 run rev
    let s2 := s1.setPort p (fun q => { q with
      stage := 3, state := 1, stageSince := s.ep.beat, narrowSince := some (q.narrowSince.getD s.ep.beat), power := .l0 })
    (if s.portRole p = 3 then s2.trunkRetrain p else s2).scanCheck

/-- A PCIe link in stage 5 goes through Recovery and stays up at the data link layer, with no bound of the module's own (R148,
R183). DEDUCED: log entry 23. -/
def State.enterRecovery (p : Nat) (s : State) : State :=
  let s1 := s.setPort p (fun q => { q with stage := 4, state := 1, stageSince := s.ep.beat, recovery := true, power := .l0 })
  (s1.each (s.lanesInUse p) (fun l s => s.setLane l (fun x => ({ x with state := 4, tx := .on }).setRx s.ep.beat .on))).scanCheck

/-! ### Bus mastering and pending vectors -/

/-- Send the accesses of a function that waited, in order, once it may master the bus (R549); an access of a region leaves
its in-flight count (R476). -/
def State.resumeMaster (v : Nat) (s : State) : State :=
  if s.canMaster v then
    let q := (s.func v).stalled
    (s.setFunc v (fun f => { f with stalled := [] })).each q (fun x s =>
      let s1 := s.emitVh v x.out
      match x.region with
      | some r => s1.setRegion r (fun y => { y with inflight := y.inflight - 1 })
      | none => s1)
  else s

/-- Pending vectors of a hierarchy: of its management function, and of its instances (R541, R542). -/
def State.pendingVecs (s : State) (v : Nat) : List (Bool × Nat) :=
  ((s.host.fnVectors.filter (fun e => decide (e.1 / 64 = v) && e.2.pending)).map (fun e => (false, e.1))) ++
    ((s.host.storeVectors.filter (fun e => e.2.pending && (s.instOfVector e.1).any (fun i => decide ((s.instD i).vh = v)))).map
      (fun e => (true, e.1)))

/-- Flush a hierarchy: every pending vector that is deliverable is sent, ignoring moderation (R548); its writes
do not restart the idle time of the port. -/
def State.flushVh (v : Nat) (s : State) : State :=
  let s1 := (s.each ((s.pendingVecs v).filter (fun x => s.deliverable x.1 x.2)) (fun x s => s.vecSend x.1 x.2)).bump 0x8064 v
  match s.portOfVh v with
  | some p => s1.setPort p (fun q => { q with idleSince := (s.port p).idleSince })
  | none => s1

/-- Signal PME for a hierarchy (R549): with PM_PME on a link in L0 or L1, by WAKE_N on a link in L2. PRESUMED: log entry 6. -/
def State.signalPme (v : Nat) (s : State) : State :=
  let s1 := s.setFunc v (fun f => { f with pmeStatus := true })
  match s.portOfVh v with
  | none => s1
  | some p =>
    if (s.port p).power = .l2 then s1.setGroup (p / 4) (fun g => { g with wakeFor := v :: g.wakeFor.filter (· ≠ v) })
    else if (s.port p).stage = 5 then s1.emit (.tlp p { op := .message, msg := 0x18, reqId := s.functionId v })
    else s1

end Sys2Proof.Machine
end

