-- ==== Sys2Proof/Machine/Slots.lean ====
section
/-!
DEFINITION. The commands of the slots, the virtual bridges and DPC (chapter 08), with the expander's pins.
-/

namespace Sys2Proof.Machine

/-! ### Expander pins (R264) -/

/-- Pins of a slot: presence, attention button, power fault, MRL and wake inputs, and the outputs PERST_N, PWREN,
ATTN_LED and PWR_LED (R264). -/
structure SlotPins where
  prsnt : Nat
  attn : Option Nat
  fault : Option Nat
  mrl : Option Nat
  wake : Nat
  perst : Nat
  pwren : Nat
  attnLed : Option Nat
  pwrLed : Option Nat
deriving DecidableEq, Repr

/-- Pins of slot number k (0 to 3) under a layout code, where a port stands in it (R176, R264). -/
def slotPins (layout k : Nat) : Option SlotPins :=
  if (slotLanes layout k).2 = 0 then none
  else if layout = 0 ∨ layout = 5 then
    some { prsnt := 0, attn := some 1, fault := some 2, mrl := some 3, wake := 4, perst := 8, pwren := 9, attnLed := some 10, pwrLed := some 11 }
  else if layout = 1 then
    let j := 4 * (k / 2)
    some { prsnt := j, attn := some (j + 1), fault := some (j + 2), mrl := none, wake := j + 3, perst := 8 + j, pwren := 9 + j
           attnLed := some (10 + j), pwrLed := some (11 + j) }
  else
    let j := 2 * k
    some { prsnt := j, attn := none, fault := none, mrl := none, wake := j + 1, perst := 8 + j, pwren := 9 + j, attnLed := none, pwrLed := none }

/-- Slots of a downstream group in the live tables: port and pins. -/
def State.slotsOfGroup (s : State) (n : Nat) : List (Nat × SlotPins) :=
  if s.roleIn s.ep.live n = 2 ∧ s.ruling s.ep.live n = n then
    (List.range 4).filterMap (fun k => (slotPins (s.layoutIn s.ep.live n) k).map (fun x => (4 * n + k, x)))
  else []

/-- Level of an optional input pin as asserted: active low, and MRL active high for open (R264, D:34pp.20). -/
def pinOf (inputs : Nat) (low : Bool) : Option Nat → Nat
  | some k => if inputs.testBit k == low then 0 else 1
  | none => 0

/-- Levels of a slot's inputs, 1 for asserted, as D:34pp.20 orders them. -/
def slotLevels (x : SlotPins) (inputs : Nat) : Nat :=
  pinOf inputs true (some x.prsnt) + 2 * pinOf inputs true x.attn + 4 * pinOf inputs true x.fault + 8 * pinOf inputs false x.mrl +
    16 * pinOf inputs true (some x.wake)

/-- An output pin's value. -/
def pinValue (isOn : Bool) : Option Nat → Nat
  | some k => if isOn then 2 ^ k else 0
  | none => 0

/-- An indicator output: on, or its present phase while it blinks (R268). -/
def ledOn (led : Nat) (phase : Bool) : Bool := decide (led = 1) || (decide (led = 2) && phase)

/-- Output value of a slot's pins (R264). -/
def slotOutputs (x : SlotPins) (q : Slot) : Nat :=
  pinValue (!q.perst) (some x.perst) + pinValue q.pwren (some x.pwren) + pinValue (ledOn q.attnLed q.blinkPhase) x.attnLed +
    pinValue (ledOn q.pwrLed q.blinkPhase) x.pwrLed

/-- Value of the direction registers: 0, an output, at every output pin of the group's slots, and 1, an input, at the others
(R264, R265). -/
def slotDirections (slots : List (Nat × SlotPins)) : Nat :=
  65535 - (slots.map (fun e => pinValue true (some e.2.perst) + pinValue true (some e.2.pwren) + pinValue true e.2.attnLed +
    pinValue true e.2.pwrLed)).sum

/-- Recompute the output value of a group's expander; a change is to be written (R56). -/
def State.refreshOutputs (n : Nat) (s : State) : State :=
  let v := ((s.slotsOfGroup n).map (fun e => slotOutputs e.2 (s.slot e.1))).sum
  if v = (s.group n).outputs then s else s.setGroup n (fun g => { g with outputs := v, writePending := true })

/-- Assert a slot's PERST_N output: the hold of R52 starts again, and the link of a slot that was released goes down (R270,
R289). -/
def State.assertSlot (p : Nat) (s : State) : State :=
  let s1 := s.setSlot p (fun q => { q with perst := true, releaseOwed := false, resetting := false, holdUntil := s.ep.beat + 781250 })
  if (s.slot p).perst then s1 else (s1.portDownFree p).refreshOutputs (p / 4)

/-- Set a slot's PWREN output (R268, R270): the time for which it is high counts from the acknowledged write that drives it. -/
def State.setPwren (p : Nat) (isOn : Bool) (s : State) : State :=
  let s1 := s.setSlot p (fun q => { q with pwren := isOn, pwrenDue := if isOn then q.pwrenDue else none })
  (if isOn then s1 else s1.assertSlot p).refreshOutputs (p / 4)

/-! ### Poll results and events -/

/-- Take a poll's inputs of one slot (R266): presence, button and MRL changes need two polls, power fault and wake one. -/
def Slot.poll (q : Slot) (now : Nat) : Slot :=
  let take (b : Nat) : Bool := now.testBit b != q.inputs.testBit b && (decide (b = 2 ∨ b = 4) || now.testBit b == q.seen.testBit b)
  let chg := ((List.range 5).map (fun b => if take b then 2 ^ b else 0)).sum
  { q with seen := now, inputs := q.inputs ^^^ chg, pending := q.pending ||| chg }

/-- A wake of a device bound in a hierarchy (R271): with the upstream link in L2, or down while the host's PERST_N is
high, the host group's WAKE_N is driven low; in L0 or L1 the slot's training is started. -/
def State.wakeFrom (v p : Nat) (s : State) : State :=
  match s.portOfVh v with
  | none => s
  | some h =>
    let q := s.port h
    if q.power = .l2 ∨ (s.linkActive h = false ∧ (s.group (h / 4)).perst = true) then
      s.setGroup (h / 4) (fun g => { g with wakeFor := v :: g.wakeFor.filter (· ≠ v) })
    else if s.linkActive h then s.startPort p
    else s

/-- Convert a slot's accepted changes at the boundary after the poll (R266, R267, R270): to the bridge that is bound to the
port now; without one only D:34pp.20 has changed. The slot's PERST_N is asserted on a power fault, an open MRL or a lost
device in either case. -/
def State.slotConvert (p : Nat) (s : State) : State :=
  let q := s.slot p
  let chg (b : Nat) : Bool := q.pending.testBit b
  let isOn (b : Nat) : Bool := q.inputs.testBit b
  let s1 := s.setSlot p (fun x => { x with pending := 0 })
  let reset := (chg 0 && !isOn 0) || (chg 2 && isOn 2) || (chg 3 && isOn 3)
  let s2 : State := match s.bridgeOfPort p with
    | none => s1
    | some (v, b) =>
      let a := if chg 0 then s1.bridgePresence v b (isOn 0) else s1
      let a := if chg 1 && isOn 1 then (a.setBridge v b (fun x => { x with attnPressed := true })).hotplug v b 0 else a
      let a := if chg 3 then (a.setBridge v b (fun x => { x with mrlOpen := isOn 3, mrlChg := true })).hotplug v b 2 else a
      let a := if chg 2 && isOn 2 then ((a.setBridge v b (fun x => { x with powerFault := true })).hotplug v b 1).raise 192 else a
      let a := if (chg 2 && isOn 2) || (chg 3 && isOn 3) then a.setPwren p false else a
      if chg 4 && isOn 4 then a.wakeFrom v p else a
  if reset then s2.assertSlot p else s2

/-- SLOT_INPUT_CHANGE: an accepted input change of a slot is converted, at a boundary after the poll that accepted it
(R266, R267). -/
def execSlotInputChange (p : Fin 160) (s : State) : Res :=
  guarded (s.running && decide ((s.slot p.val).pending ≠ 0 ∧ (s.group (p.val / 4)).polledAt < s.ep.beat)) (State.slotConvert p.val) s

/-- What a write of Slot Control does to the bound port (R267, R268, R270): its indicators, its power, and the expander's write,
whose acknowledgement completes the command. -/
def State.slotControl (v b p : Nat) (powerOff : Bool) (attn pwr : Fin 4) (s : State) : State :=
  let led (c : Fin 4) (old : Nat) : Nat := if c = 1 then 1 else if c = 2 then 2 else if c = 3 then 0 else old
  let has := (slotPins (s.layoutIn s.ep.live (p / 4)) (p % 4)).any (fun x => x.attnLed.isSome)
  let s1 := s.setBridge v b (fun x => { x with powerOff := powerOff, attnInd := attn, powerInd := pwr })
  let s2 := if has then s1.setSlot p (fun q => { q with
      attnLed := led attn q.attnLed, pwrLed := led pwr q.pwrLed
      blinkAt := if q.attnLed = 2 ∨ q.pwrLed = 2 then q.blinkAt else s.ep.beat }) else s1
  let s3 := if powerOff then (if (s.slot p).pwren then s2.setPwren p false else s2)
    else if (s.slot p).inputs.testBit 3 then s2
    else s2.setPwren p true
  ((s3.setSlot p (fun q => { q with cmdOwed := true })).refreshOutputs (p / 4)).setGroup (p / 4) (fun g => { g with writePending := true })

/-- SLOT_CONTROL_WRITE: a host writes Slot Control of a bridge: its event enables are kept, and of a whole-port bridge the slot's
outputs are set (R267 to R269): power controller 1 is off; indicator codes 1 on, 2 blink, 3 off. -/
def execSlotControlWrite (v : Fin 64) (b : Fin 256) (powerOff : Bool) (ind : Indicators) (enables : BitVec 16) (s : State) : Res :=
  guarded (s.running && s.bridgeInUse v b) (fun s =>
    let s1 := s.setBridge v b (fun x => { x with slotEnables := enables.toNat &&& 0x103F })
    let e := s1.bindingIn s1.ep.live v b
    if bindKind e = 1 then s1.slotControl v b (bindPort e) powerOff ind.attn ind.pwr else s1) s

/-- INDICATOR_BLINK: a blinking indicator output toggles, every 2,500,000 beats (R268). -/
def execIndicatorBlink (p : Fin 160) (s : State) : Res :=
  guarded (s.running && decide ((s.slot p.val).attnLed = 2 ∨ (s.slot p.val).pwrLed = 2) &&
      decide ((s.slot p.val).blinkAt + 2500000 ≤ s.ep.beat)) (fun s =>
    (s.setSlot p.val (fun q => { q with blinkPhase := !q.blinkPhase, blinkAt := s.ep.beat })).refreshOutputs (p.val / 4)) s

/-- One group's conditions for the release of its PERST_N (R51, R52, R134). -/
def State.groupReady (s : State) (n : Nat) : Bool :=
  decide ((s.group n).holdUntil ≤ s.ep.beat) && !(s.group n).contention && decide ((s.group n).checkDue = none ∧ (s.group n).driven ≠ none)

/-- The group conditions for the release of Gnn_PERST_N, of both groups of an x16 port (R50, R270). -/
def State.groupReleasable (s : State) (n : Nat) : Bool :=
  s.cabled (4 * n) && s.groupReady n && (decide ((s.portLanes s.ep.live (4 * n)).2 ≠ 16) || s.groupReady (n + 1))

/-- The slot conditions of R270. -/
def State.slotReleasable (s : State) (p : Nat) : Bool :=
  let q := s.slot p
  q.inputs.testBit 0 && q.pwren && q.pwrenDue.any (fun d => decide (d ≤ s.ep.beat)) && !q.inputs.testBit 2 && !q.inputs.testBit 3 &&
    decide (q.holdUntil ≤ s.ep.beat)

/-- SLOT_RESET_RELEASE: Gnn_PERST_N is released when the group's conditions hold, and the slot's PERST_N when all of them
do (R270, R50). Training starts when the write that releases the slot is acknowledged. -/
def execSlotResetRelease (p : Fin 160) (s : State) : Res :=
  let n := p.val / 4
  guarded (s.running && decide (s.portRole p.val = 2) && s.groupReleasable n) (fun s =>
    let high (k : Nat) (s : State) : State :=
      ({ s with start := { s.start with groupPerst := s.start.groupPerst.del k } }).setGroup k (fun g => { g with driven := some true })
    let s1 := if (s.portLanes s.ep.live p.val).2 = 16 then high (n + 1) (high n s) else high n s
    if s1.slotReleasable p.val && (s1.slot p.val).perst then
      (s1.setSlot p.val (fun q => { q with perst := false, releaseOwed := true })).refreshOutputs n
    else s1) s

/-! ### DPC -/

/-- A DPC trigger of a bridge (R275, R276): a whole port goes down with cause 8 and stays down; a slice is blocked alone. -/
def State.dpcTrigger (v b reason : Nat) (s : State) : State :=
  let e := s.bindingIn s.ep.live v b
  let s1 := ((s.setBridge v b (fun x => { x with dpcTriggered := true, dpcReason := reason })).ifDo (s.bridge v b).dpcIntr (State.bridgeMsi v b)).raise 196
  if bindKind e = 1 then
    let s2 := s1.setPort (bindPort e) (fun q => { q with heldDpc := true })
    s2.portDown (bindPort e) 8
  else if bindKind e = 2 then
    let s2 := s1.setSlot (bindPort e) (fun x => { x with blocked := x.blocked ||| 2 ^ bindLd e })
    s2.placeDown (bindPort e) (some (bindLd e)) (if (s.bridge v b).dpcUr then 1 else 4)
  else s1

/-- DPC_TRIGGER: an error on a bound bridge triggers DPC (R275, R276). -/
def execDpcTrigger (v : Fin 64) (b : Fin 256) (reason : Fin 4) (s : State) : Res :=
  guarded (s.running && (s.bridge v b).dpcEnable && !(s.bridge v b).dpcTriggered &&
    decide (bindKind (s.bindingIn s.ep.live v b) ≠ 0)) (State.dpcTrigger v b reason) s

/-- DPC_TRIGGER_CLEAR: the host clears DPC Trigger Status: the port is released, of a contain-port reaction too (R275,
R277), and retrains; a slice is unblocked. What the containment of the domain holds stays (R516). -/
def execDpcTriggerClear (v : Fin 64) (b : Fin 256) (s : State) : Res :=
  guarded (s.running && (s.bridge v b).dpcTriggered) (fun s =>
    let e := s.bindingIn s.ep.live v b
    let s1 := s.setBridge v b (fun x => { x with dpcTriggered := false })
    if bindKind e = 1 then
      (s1.setPort (bindPort e) (fun q => { q with heldDpc := false, heldFault := false })).startPort (bindPort e)
    else if bindKind e = 2 ∧ s.isContained (s.domainOfVh v) = false then
      s1.setSlot (bindPort e) (fun x => { x with blocked := x.blocked &&& (65535 - 2 ^ bindLd e) })
    else s1) s

/-! ### Configuration requests (the fields and their codes are the PCIe Base Specification's, log entry 6) -/

/-- A write to a register that every configuration space has alike (R191, R254, R525). PRESUMED: log entry 6. -/
def CfgRegs.write (x : CfgRegs) : CfgField → CfgRegs
  | .command io mem _ => { x with ioEn := io, memEn := mem }
  | .sizes p r => { x with payload := p.toNat, readRequest := r.toNat }
  | .aerControl m v c => { x with aerUncMask := m.toNat, aerUncSeverity := v.toNat, aerCorMask := c.toNat }
  | _ => x

/-- What a read of such a register returns; master is the Bus Master Enable. A maximum payload of 512 B is advertised (R191).
PRESUMED: log entry 6. -/
def CfgRegs.read (x : CfgRegs) (master : Bool) : CfgField → Option Nat
  | .command .. => some (x.ioEn.toNat + 2 * x.memEn.toNat + 4 * master.toNat)
  | .sizes .. => some (x.payload + 8 * x.readRequest)
  | .deviceCapabilities => some 2
  | .aerControl .. => some (x.aerUncMask + 2 ^ 32 * x.aerUncSeverity + 2 ^ 64 * x.aerCorMask)
  | _ => none

/-- A write to a field of a virtual bridge (R254). PRESUMED: log entry 6. -/
def Bridge.write (x : Bridge) (f : CfgField) : Bridge :=
  match f with
  | .busNumbers _ sec sub => { x with secondary := sec.toNat, subordinate := sub.toNat }
  | .memWindow base limit => { x with memBase := base.toNat, memLimit := limit.toNat }
  | .prefWindow base limit => { x with prefBase := base.toNat, prefLimit := limit.toNat }
  | .ioWindow base limit => { x with ioBase := base.toNat, ioLimit := limit.toNat }
  | .bridgeControl c => { x with bridgeControl := c.toNat &&& 0xFFBF }
  | .acs c => { x with acsControl := c.toNat }
  | .dpc en ur i => { x with dpcEnable := en, dpcUr := ur, dpcIntr := i }
  | .linkControl _ dis => { x with linkDisable := dis }
  | .slotStatus p l a m f c => { x with
      presenceChg := x.presenceChg && !p, linkChg := x.linkChg && !l, attnPressed := x.attnPressed && !a
      mrlChg := x.mrlChg && !m, powerFault := x.powerFault && !f, cmdCompleted := x.cmdCompleted && !c }
  | .aer u c => { x with
      aerUnc := x.aerUnc &&& (2 ^ 32 - 1 - u.toNat), aerCor := x.aerCor &&& (2 ^ 32 - 1 - c.toNat)
      surpriseDown := x.surpriseDown && !u.toNat.testBit aerSurprise }
  | .msi e _ _ a d => { x with msiEn := e, msiAddr := a.toNat, msiData := d.toNat }
  | .command _ _ m => { x with busMaster := m, std := x.std.write f }
  | _ => { x with std := x.std.write f }

/-- A write to a field of a management function (R524, R525). PRESUMED: log entry 6. -/
def Func.write (f : Func) (w : CfgField) : Func :=
  match w with
  | .command _ _ m => { f with busMaster := m, std := f.std.write w }
  | .bars a b c => { f with bar0 := a.toNat, bar2 := b.toNat, bar4 := c.toNat }
  | .msix e m => { f with msixEn := e, msixMask := m }
  | .msi e n m a d => { f with msiEn := e, msiCount := 2 ^ n.val, msiMask := m.toNat, msiAddr := a.toNat, msiData := d.toNat }
  | .pasid e => { f with pasidEn := e }
  | .deviceControl a t u => { f with atomicEn := a, tag10 := t, tag14 := u }
  | .pmControl e c => { f with pmeEn := e, pmeStatus := f.pmeStatus && !c }
  | .aer u c => { f with aerUnc := f.aerUnc &&& (2 ^ 32 - 1 - u.toNat), aerCor := f.aerCor &&& (2 ^ 32 - 1 - c.toNat) }
  | _ => { f with std := f.std.write w }

/-- A write to a field of a pool endpoint (R380). PRESUMED: log entry 6. -/
def EpCfg.write (x : EpCfg) (f : CfgField) : EpCfg :=
  match f with
  | .command _ _ m => { x with busMaster := m, std := x.std.write f }
  | .bars a _ _ => { x with bar0 := a.toNat }
  | _ => { x with std := x.std.write f }

/-- Slot Control as it reads: the event enables, the indicator controls and the power controller control (R267, R268). PRESUMED: log
entry 6. -/
def Bridge.slotControl (x : Bridge) : Nat := x.slotEnables + 64 * x.attnInd + 256 * x.powerInd + 1024 * x.powerOff.toNat

/-- What a read of a field of a virtual bridge returns, its parts as one number, low part first; none for a register that the
module's rules do not read. PRESUMED: log entry 6. -/
def Bridge.read (x : Bridge) (f : CfgField) : Option Nat :=
  match f with
  | .busNumbers _ _ _ => some (x.secondary + 256 * x.subordinate)
  | .memWindow _ _ => some (x.memBase + 2 ^ 64 * x.memLimit)
  | .prefWindow _ _ => some (x.prefBase + 2 ^ 64 * x.prefLimit)
  | .ioWindow _ _ => some (x.ioBase + 2 ^ 32 * x.ioLimit)
  | .bridgeControl _ => some (x.bridgeControl + 64 * x.busReset.toNat)
  | .acs _ => some x.acsControl
  | .dpc .. => some (x.dpcEnable.toNat + 2 * x.dpcUr.toNat + 4 * x.dpcTriggered.toNat + 8 * x.dpcReason + 32 * x.dpcIntr.toNat)
  | .linkControl _ _ => some x.linkDisable.toNat
  | .slotStatus .. => some (x.presenceChg.toNat + 2 * x.linkChg.toNat + 4 * x.attnPressed.toNat + 8 * x.mrlChg.toNat + 16 * x.powerFault.toNat +
      32 * x.cmdCompleted.toNat + 64 * x.presence.toNat + 128 * x.linkActive.toNat + 256 * x.mrlOpen.toNat)
  | .slotControl => some x.slotControl
  | .aer _ _ => some (x.aerUnc + 2 ^ 32 * x.aerCor)
  | .msi .. => some (x.msiEn.toNat + 2 ^ 32 * x.msiAddr + 2 ^ 96 * x.msiData)
  | _ => x.std.read x.busMaster f

/-- What a read of a field of a management function returns. PRESUMED: log entry 6. -/
def Func.read (f : Func) (w : CfgField) : Option Nat :=
  match w with
  | .bars _ _ _ => some (f.bar0 + 2 ^ 64 * f.bar2 + 2 ^ 128 * f.bar4)
  | .msix _ _ => some (f.msixEn.toNat + 2 * f.msixMask.toNat)
  | .msi .. => some (f.msiEn.toNat + 2 * f.msiCount + 2 ^ 32 * f.msiAddr + 2 ^ 96 * f.msiData + 2 ^ 112 * f.msiMask)
  | .pasid _ => some f.pasidEn.toNat
  | .deviceControl .. => some (f.atomicEn.toNat + 2 * f.tag10.toNat + 4 * f.tag14.toNat)
  | .pmControl _ _ => some (f.pmeEn.toNat + 2 * f.pmeStatus.toNat)
  | .aer _ _ => some (f.aerUnc + 2 ^ 32 * f.aerCor)
  | _ => f.std.read f.busMaster w

/-- What a read of a field of a pool endpoint returns (R380). PRESUMED: log entry 6. -/
def EpCfg.read (x : EpCfg) (f : CfgField) : Option Nat :=
  match f with
  | .bars _ _ _ => some x.bar0
  | _ => x.std.read x.busMaster f

/-- Slot Capabilities of a bridge, as the places of its bits are in that register (R258, R264, R268): those of the layout for a whole
port; Hot-Plug Surprise and no controller for a slice or an endpoint. No Command Completed Support is set without a power
controller. PRESUMED: log entry 6. -/
def State.slotCaps (s : State) (v b : Nat) : Nat :=
  let e := s.bindingIn s.ep.live v b
  let p := bindPort e
  if bindKind e = 1 then
    match slotPins (s.layoutIn s.ep.live (p / 4)) (p % 4) with
    | some x => x.attn.isSome.toNat + 2 + 4 * x.mrl.isSome.toNat + 8 * x.attnLed.isSome.toNat + 16 * x.pwrLed.isSome.toNat + 64
    | none => 64
  else if bindKind e = 0 then 64 + 2 ^ 18
  else 32 + 64 + 2 ^ 18

/-- The identity of a function: Vendor ID, Device ID, Revision ID, class code, subsystem vendor ID and Subsystem ID, low part first
(R524, R679). The class codes of the bridges and of a memory device are the PCIe and CXL specifications'. PRESUMED: log entry 6. -/
def identityOf (device classCode : Nat) : Nat :=
  let vendor := Config.pciVendor % 65536
  vendor + 2 ^ 16 * device + 2 ^ 32 * (Config.hardwareRevision % 256) + 2 ^ 40 * classCode + 2 ^ 64 * vendor + 2 ^ 80 * 0x9320

/-- What a configuration request of a host reaches (R252, R255, R380): on its Type 0 bus the upstream bridge and the management
function; on the virtual internal bus the bridges in use; below a bound bridge its target. -/
def State.cfgPlace (s : State) (v : Nat) (x : Tlp) : Option CfgPlace :=
  let up := (s.hier v).up
  if x.cfg0 then (if devfnOf x = 0 then some .upstream else if devfnOf x = 1 then some .function else none)
  else if busOf x = up.secondary then (if s.bridgeInUse v (devfnOf x) then some (.bridge (devfnOf x)) else none)
  else if up.secondary < busOf x ∧ busOf x ≤ up.subordinate then
    match s.bridgeByBus s.ep.live v (busOf x) with
    | some (b, e) =>
      if bindKind e = 3 then
        (if devfnOf x = 0 ∧ busOf x = (s.bridge v b).secondary ∧ (s.bridge v b).presence = true then some (.endpoint (bindEndpoint e))
         else none)
      else some .below
    | none => none
  else none

/-- The capability registers of a management function, by their offsets: the list of R525 with the settings of its table, in the
layout of the PCIe Base Specification. PRESUMED: log entry 6. -/
def State.capabilityRead (s : State) (v off : Nat) : Option Nat :=
  let f := s.func v
  match off with
  | 0x34 => some 0x40
  | 0x40 => some 0xC8035001
  | 0x44 => some (3 * f.d3.toNat + 8 + 2 ^ 8 * f.pmeEn.toNat + 2 ^ 15 * f.pmeStatus.toNat)
  | 0x50 => some (0x018A7005 + 2 ^ 16 * f.msiEn.toNat + 2 ^ 20 * Nat.log2 f.msiCount)
  | 0x54 => some (f.msiAddr % 2 ^ 32)
  | 0x58 => some (f.msiAddr / 2 ^ 32)
  | 0x5C => some f.msiData
  | 0x60 => some f.msiMask
  | 0x70 => some (0x003F8011 + 2 ^ 30 * f.msixMask.toNat + 2 ^ 31 * f.msixEn.toNat)
  | 0x74 => some 0x4000
  | 0x78 => some 0x5000
  | 0x80 => some 0x00020010
  | 0x84 => some (2 + 2 ^ 15 + 2 ^ 28)
  | 0x100 => some 0x14820001
  | 0x148 => some 0x15810003
  | 0x14C => some (Config.serialNumber % 2 ^ 32)
  | 0x150 => some (Config.serialNumber / 2 ^ 32 % 2 ^ 32)
  | 0x158 => some 0x1601001B
  | 0x15C => some (0x1400 + 2 ^ 16 * f.pasidEn.toNat)
  | 0x160 => some 0x0001002E
  | _ => none

/-- Value of a field that a place holds, none where the module's rules do not read it (R252, R254, R380, R525). PRESUMED: log
entry 6. -/
def State.cfgRead (s : State) (v : Nat) (place : CfgPlace) (f : CfgField) : Option Nat :=
  match place, f with
  | .upstream, .identity => some (identityOf 0x0321 0x060400)
  | .bridge _, .identity => some (identityOf 0x0322 0x060400)
  | .function, .identity => some (identityOf 0x0320 0x088000)
  | .endpoint _, .identity => some (identityOf 0x0323 0x050210)
  | .upstream, .headerType => some 0x81
  | .bridge b, .headerType => some (1 + 128 * (s.bridgeInUse v (8 * (b / 8) + 1)).toNat)
  | .function, .headerType => some 0x80
  | .endpoint _, .headerType => some 0
  | .bridge b, .slotCapabilities => some (s.slotCaps v b)
  | .upstream, f => (s.hier v).up.read f
  | .bridge b, f => (s.bridge v b).read f
  | .function, .other r => s.capabilityRead v r.toNat
  | .function, f => (s.func v).read f
  | .endpoint e, f => (s.pool.epCfg.look e {}).read f
  | .below, _ => none

/-- Bus, device and function number of a place (R252, R255). -/
def State.cfgId (s : State) (v : Nat) (place : CfgPlace) (x : Tlp) : Nat :=
  match place with
  | .upstream => (s.hier v).busNo * 256
  | .function => (s.hier v).busNo * 256 + 1
  | _ => busOf x * 256 + devfnOf x

/-- The completion of a configuration request that the module answers. -/
def State.cfgDone (p id data : Nat) (x : Tlp) (s : State) : State :=
  s.emitOn p (.tlp p { answerOf x 0 with cplId := id, data := data % 2 ^ 32 })

/-- Answer a configuration read; the parts of a field stand in one value, low part first. A register that the module's rules do not
read returns a free value. DESIGN CHOICE: log entry 4. -/
def State.cfgAnswer (p id : Nat) (v : Option Nat) (x : Tlp) (s : State) : State :=
  match v with
  | some n => (s.emit (.value n)).cfgDone p id n x
  | none =>
    let r := s.fresh 5
    (r.2.emit (.value (r.1 % 2 ^ 32))).cfgDone p id r.1 x

/-- Effect of Link Control of a bridge on its port: Link Disable brings the link down and holds it (R291). -/
def State.linkDisableEffect (v b : Nat) (was : Bool) (s : State) : State :=
  let e := s.bindingIn s.ep.live v b
  if bindKind e ≠ 1 then s
  else if (s.bridge v b).linkDisable && !was then s.portDownFree (bindPort e)
  else if was && !(s.bridge v b).linkDisable then s.startPort (bindPort e)
  else s

/-- ASPM control of a place's link, where the field is its Link Control: the owner's control of the port (R194). -/
def State.ownerControl (p : Nat) (f : CfgField) (s : State) : State :=
  match f with
  | .linkControl a _ => s.setPort p (fun q => { q with ownerAspm := a.toNat })
  | _ => s

/-- A configuration write takes effect at its place (R254, R525): the upstream bridge captures its bus number from a Type 0 write;
Link Control acts on the port; a function that may master the bus again sends what waited. -/
def State.cfgWrite (v p : Nat) (place : CfgPlace) (f : CfgField) (x : Tlp) (s0 : State) : State :=
  let s := if x.cfg0 then s0.setHier v (fun h => { h with busNo := busOf x }) else s0
  match place with
  | .upstream => (s.setHier v (fun h => { h with up := h.up.write f })).ownerControl p f
  | .bridge b =>
    let e := s.bindingIn s.ep.live v b
    let s1 := s.setBridge v b (fun y => y.write f)
    (if bindKind e = 1 then s1.ownerControl (bindPort e) f else s1).linkDisableEffect v b (s.bridge v b).linkDisable
  | .function => (s.setFunc v (fun g => g.write f)).resumeMaster v
  | .endpoint e => { s with pool := { s.pool with epCfg := s.pool.epCfg.put e ((s.pool.epCfg.look e {}).write f) } }
  | .below => s

/-- A configuration request of a host reaches its place (R252, R255). -/
def State.cfgRequest (v : Nat) (field : CfgField) (x : Tlp) (s : State) : State :=
  let p := (s.portOfVh v).getD 176
  match s.cfgPlace v x with
  | none => s.emitOn p (.tlp p (answerOf x 1))
  | some .below =>
    let r := s.headCell p { size := 1, tlp := x }
    match r.1 with
    | .taken id => r.2.frameDone id {}
    | _ => r.2
  | some place =>
    if x.write then (s.cfgWrite v p place field x).cfgDone p (s.cfgId v place x) 0 x
    else s.cfgAnswer p (s.cfgId v place x) (s.cfgRead v place field) x

/-- CONFIG_REQUEST: a configuration request of a host (R252, R255): it is completed by a virtual bridge, the management function
or a pool endpoint without a tracker entry, or enters as a frame of the host port that is forwarded as Type 0 below the bound
bridge whose bus range holds it. One that reaches nothing is an Unsupported Request. write: it is a write, as its header then says.
DEDUCED: log entry 27. -/
def execConfigRequest (v : Fin 64) (x : Tlp) (field : CfgField) (write : Bool) (s : State) : Res :=
  checked x.wf (s.running && decide (x.op = .config) && (s.portOfVh v.val).isSome && !(s.hier v).reset)
    (State.cfgRequest v field { x with write := write }) s

end Sys2Proof.Machine
end

