-- ==== Sys2Proof/Machine/HostFn.lean ====
section
/-!
DEFINITION. The commands of the host functions and interrupts (chapter 15): the mailbox, the error queue, the vectors,
the power state, master timeouts and DOE.
-/

namespace Sys2Proof.Machine

/-- MBOX_SUBMIT: a submit in mbox_ctrl (R534): the request is taken, or discarded with fault source 370. The message itself
is the ADP command that follows. DEDUCED: log entry 38. -/
def execMboxSubmit (v : Fin 64) (len : BitVec 13) (s : State) : Res :=
  guarded s.running (fun s =>
    let f := s.func v
    let s1 := s.setFunc v (fun f => { f with reqLen := len.toNat })
    if f.mboxBusy || f.respReady || decide (len.toNat = 0 ∨ 4096 < len.toNat) then s1.raise 370
    else (s1.setFunc v (fun f => { f with mboxBusy := true })).interrupt (16 + v)) s

/-- RESP_READY_CLEAR: resp_ready is cleared, and the next queued message is placed with vector 1 (R534). -/
def execRespReadyClear (v : Fin 64) (s : State) : Res :=
  guarded (s.running && (s.func v).respReady) (fun s =>
    match (s.func v).respQueue with
    | [] => s.setFunc v (fun f => { f with respReady := false })
    | m :: r => (s.setFunc v (fun f => { f with resp := m.2.2, respLen := m.2.1, respQueue := r })).vecEvent false (v * 64 + 1)) s

/-- ERROR_QUEUE_SETUP: errq_base and errq_log2 are written; they take effect at the next boundary (R530). -/
def execErrorQueueSetup (v : Fin 64) (base : BitVec 64) (log2 : BitVec 32) (s : State) : Res :=
  guarded s.running (fun s => s.setFunc v (fun f => { f with errqNew := some (base.toNat, log2.toNat) })) s

/-- The written error-queue registers take effect (R530): where either has changed, the producer index becomes the consumer index. -/
def State.errqTakes (v : Nat) (s : State) : State :=
  s.setFunc v (fun f => match f.errqNew with
    | some (b, n) => { f with
        errqBase := b, errqLog2 := n, errqNew := none
        errqProducer := if b = f.errqBase ∧ n = f.errqLog2 then f.errqProducer else f.errqConsumer }
    | none => f)

/-- One vector at step 7: a running timer counts down, and at 0 it stops and the vector is sent (R545). -/
def State.timerTick (store : Bool) (k : Nat) (s : State) : State :=
  match (s.vec store k).timer with
  | 0 => s
  | 1 => (s.setVec store k (fun v => { v with timer := 0 })).vecSend store k
  | t + 1 => s.setVec store k (fun v => { v with timer := t })

/-- MODERATION_TIMER_EXPIRY: a vector's timer reaches 0 at step 7 (R545). -/
def execModerationTimerExpiry (store : Bool) (k : Fin 8192) (s : State) : Res :=
  guarded (s.running && decide ((s.vec store k).timer = 1)) (State.timerTick store k) s

/-- VECTOR_DELIVERABLE: a vector that a send left pending is sent once it is deliverable (R545). -/
def execVectorDeliverable (store : Bool) (k : Fin 8192) (s : State) : Res :=
  guarded (s.running && (s.vec store k).pending && (s.vec store k).asked && s.deliverable store k) (State.vecSend store k) s

/-- POWER_STATE_WRITE: the host writes D3hot or D0 (R549, R550). -/
def execPowerStateWrite (v : Fin 64) (d3 : Bool) (s : State) : Res :=
  guarded s.running (fun s =>
    let s1 := s.setFunc v (fun f => { f with d3 := d3 })
    if d3 then if (s.func v).pmeEn && !(s.pendingVecs v).isEmpty then s1.signalPme v else s1
    else if (s.func v).d3 then
      (s1.each (s.pendingVecs v) (fun x s => s.setVec x.1 x.2 (fun y => { y with asked := true }))).resumeMaster v
    else s1) s

/-- MASTER_TIMEOUT: the deadline of a master request begins (R555): steps 2 to 4 of R285, its own counter and source, and
the failure goes to the unit that issued it. DEDUCED: log entry 27. -/
def execMasterTimeout (i : Fin 262144) (s : State) : Res :=
  match s.track i.val with
  | some t =>
    guarded (s.running && decide (t.budget = .master ∧ t.deadline ≤ s.ep.beat) && !t.expired) (fun s =>
      let s1 := match t.mvh with
        | some v => s.setFunc v (fun f => { f with aerUnc := f.aerUnc ||| 2 ^ aerAbort })
        | none => s
      ((((s1.bump 0x40F0 8).raise 194).bump 0x8065 1).raise 368 |>.expire i.val).unitFails t) s
  | none => .next s

/-- What the module answers to an SPDM request as responder, where the spec states it (R525): version 1.2, and the device
certificate chain in slot 0. PRESUMED: log entry 6. -/
def spdmAnswer : Spdm → Option Nat
  | .version => some 0x1200
  | .certificate slot piece => if slot = 0 then some (Config.deviceChain piece.toNat) else none
  | .other => none

/-- DOE_REQUEST: a request to the management function's DOE mailbox (R198, R525): discovery of an index, SPDM, or secured
SPDM, which may program the link IDE keys. What SPDM answers beside its version and the certificate chain is a free value. -/
def execDoeRequest (v : Fin 64) (type : Fin 3) (body : DoeBody) (keys : Bool) (s : State) : Res :=
  guarded (s.running && (s.portOfVh v.val).isSome) (fun s =>
    if type = 0 then
      let i := body.index.val % 3
      let d := 1 + 65536 * i + 2 ^ 24 * (if i = 2 then 0 else i + 1)
      s.setFunc v (fun f => { f with doe := [d] })
    else
      let r := s.fresh 6
      let s1 := r.2.setFunc v (fun f => { f with doe := [(spdmAnswer body.spdm).getD r.1], ideKeys := f.ideKeys || (keys && decide (type = 2)) })
      match s.portOfVh v.val with
      | some p =>
        if keys && decide (type = 2) && decide ((s.port p).ide = 1 ∨ (s.port p).ide = 3) && decide ((s.port p).stage = 5) then
          s1.setPort p (fun q => { q with ide := 2, ideRefresh := s.ep.beat })
        else s1
      | none => s1) s

end Sys2Proof.Machine
end

