-- ==== Sys2Proof/Machine/Tenants.lean ====
section
/-!
DEFINITION. The commands of tenants and isolation (chapter 14): instance resets, dirty-map swaps and the containment of
a domain.
-/

namespace Sys2Proof.Machine

/-- The valid instance whose descriptor names a hierarchy and a BAR2 slot (R537). -/
def State.instAt (s : State) (v k : Nat) : Option Nat :=
  s.validInsts.find? (fun i => decide ((s.instD i).vh = v ∧ (s.instD i).slot = k))

/-- A host write to the reset control of a page set (R504, R510): it acts whatever the instance's state. -/
def State.resetControl (v k mode : Nat) (s : State) : State :=
  match s.instAt v k with
  | some i => s.askReset i mode
  | none => (s.bump 0x60A0 5).raise 365

/-- RESET_CONTROL_DRAIN: a host write of 1 to reset_control (R510). -/
def execResetControlDrain (v : Fin 64) (k : Fin 256) (s : State) : Res := guarded s.running (State.resetControl v k 1) s

/-- RESET_CONTROL_SQUASH: a host write of 2 to reset_control (R510). -/
def execResetControlSquash (v : Fin 64) (k : Fin 256) (s : State) : Res := guarded s.running (State.resetControl v k 2) s

/-- INSTANCE_RESET_DRAIN: D0000 writes mode 1 to D:60A0.03 (R510). -/
def execInstanceResetDrain (i : Fin 4096) (s : State) : Res := commandWrite (fun s => (s.askReset i 1).answer 0) s

/-- INSTANCE_RESET_SQUASH: D0000 writes mode 2 to D:60A0.03 (R510). -/
def execInstanceResetSquash (i : Fin 4096) (s : State) : Res := commandWrite (fun s => (s.askReset i 2).answer 0) s

/-- A reset that was asked for takes effect (R511): a drain begins, or the instance is squashed. -/
def State.resetTakes (i : Nat) (s : State) : State :=
  match (s.inst i).resetAsked with
  | 0 => s
  | 1 => (s.setInstState i 3).setInst i (fun e => { e with resetAsked := 0, resetAt := s.ep.beat, resetStatus := 1 })
  | _ => s.squash i

/-- INSTANCE_RESET_TAKES_EFFECT: in the first cell time of the next beat (R511). -/
def execInstanceResetTakesEffect (i : Fin 4096) (s : State) : Res :=
  guarded (s.running && decide ((s.inst i).resetAsked ≠ 0)) (State.resetTakes i) s

/-- DRAIN_LIMIT_REACHED: a drain not ended within D:60A0.02 beats becomes a squash (R512). -/
def execDrainLimitReached (i : Fin 4096) (s : State) : Res :=
  guarded (s.running && decide ((s.inst i).state = 3 ∧ (s.inst i).resetAt + s.setting 0x60A0 2 ≤ s.ep.beat) && !s.drained i)
    (fun s => (s.raise 360).squash i) s

/-- INSTANCE_RESET_END: no transaction of the instance remains (R512 to R514). -/
def execInstanceResetEnd (i : Fin 4096) (s : State) : Res :=
  guarded (s.running && ((decide ((s.inst i).state = 3) && s.drained i) || (decide ((s.inst i).state = 4) && s.squashed i)))
    (State.releaseInst i) s

/-- LOG_SWAP_REQUEST: a host write of 1 to log_control (R508); the page set of an instance that is not Active discards it
(R504). -/
def execLogSwapRequest (v : Fin 64) (k : Fin 256) (s : State) : Res :=
  guarded s.running (fun s => match s.instAt v k with
    | some i =>
      if (s.inst i).state ≠ 2 then (s.bump 0x60A0 5).raise 365
      else if (s.inst i).logging then s.setInst i (fun e => { e with swapAsked := true })
      else s
    | none => (s.bump 0x60A0 5).raise 365) s

/-- The inactive dirty map becomes active (R508, R509): bits are set again, and the pages set in it are none. -/
def State.logSwap (i : Nat) (s : State) : State :=
  if (s.inst i).swapAsked then
    s.setInst i (fun e => { e with
      activeMap := 1 - e.activeMap, swapAsked := false, swapping := true, overflow := false, recentPages := [] })
  else s

/-- LOG_SWAP: in the first cell time of the next beat (R508). -/
def execLogSwap (i : Fin 4096) (s : State) : Res := guarded (s.running && (s.inst i).swapAsked) (State.logSwap i) s

/-- LOG_SWAP_COMPLETE: every bit of the old map has been written (R508), or a CAS has ended in an error (R509). -/
def execLogSwapComplete (i : Fin 4096) (ok : Bool) (s : State) : Res :=
  guarded (s.running && (s.inst i).swapping) (fun s =>
    let s1 := s.setInst i (fun e => { e with swapping := false, overflow := e.overflow || !ok })
    if ok then s1 else s1.raise 363) s

/-! ### Domain containment -/

/-- Domain of a logical device of a port (R491). -/
def State.domainOfSlice (s : State) (p ld : Nat) : Nat := bits (s.portIn s.ep.live p 0x31) (12 * ld + 11) (12 * ld)

/-- Downstream ports that a domain owns whole (R491). -/
def State.portsOfDomain (s : State) (d : Nat) : List Nat :=
  (List.range 160).filter (fun p => s.enabled p && decide (s.portRole p = 2 ∧ s.domainOfPortIn s.ep.live p = d))

/-- Host ports of a domain's hierarchies (R491). -/
def State.hostPortsOfDomain (s : State) (d : Nat) : List Nat :=
  (List.range 160).filter (fun p => s.enabled p && match s.vhOfPort p with
    | some v => decide (s.domainOfVh v = d)
    | none => false)

/-- Hold a downstream port with the effect of a DPC trigger (R277): its bridge reports the software trigger, and the link
goes down with cause 8. -/
def State.containDown (p : Nat) (s : State) : State :=
  let s1 : State := match s.bridgeOfPort p with
    | some (v, b) => ((s.setBridge v b (fun x => { x with dpcTriggered := true, dpcReason := 3 })).ifDo (s.bridge v b).dpcIntr (State.bridgeMsi v b)).raise 196
    | none => s
  s1.portDown p 8

/-- Contain a domain (R516): its ports, slices and host ports go down, its instances are squashed, its windows stop
matching, and its Beryl frames are discarded. -/
def State.containDomain (d : Nat) (s : State) : State :=
  let s0 := { s with host := { s.host with contained := s.host.contained.put d true, containPending := s.host.containPending.del d } }
  let hold (p : Nat) (s : State) : State := s.setPort p (fun q => { q with heldDomains := d :: q.heldDomains })
  let s1 := s0.each (s.portsOfDomain d) (fun p s => (hold p s).containDown p)
  let s2 := s1.each ((bindings s.ep.live).filter (fun x => decide (bindKind x.2.2 = 2 ∧ s.domainOfVh x.1 = d)))
    (fun x s => if (s.bridge x.1 x.2.1).dpcTriggered then s else s.dpcTrigger x.1 x.2.1 3)
  let s3 := s2.each (s.hostPortsOfDomain d) (fun p s => (hold p s).portDown p 8)
  let s4 := s3.each (s.validInsts.filter (fun i => decide ((s.instD i).domain = d))) (fun i s => s.askReset i 2)
  let s5 := s4.each (s4.core.frames.filter (fun f => decide (f.kind = 1) && (decide (f.beryl.srcDomain = d) ||
      (s.qpExists f.beryl.dstQp && decide (s.domainOfQp f.beryl.dstQp = d))))) (fun f s => s.frameBad f.id)
  (s5.domainState d 2).raise 364

/-- DOMAIN_CONTAINMENT: at the boundary after the contain-the-domain reaction (R516). -/
def execDomainContainment (d : Fin 4096) (s : State) : Res :=
  guarded (s.running && s.host.containPending.look d.val false) (State.containDomain d.val) s

/-- Release a contained domain (R516): only what the containment holds; its ports retrain where nothing else holds them. -/
def State.containRelease (d : Nat) (s : State) : State :=
  if s.isContained d then
    let s0 := { s with host := { s.host with contained := s.host.contained.del d } }
    let mine := (List.range 160).filter (fun p => (s.port p).heldDomains.contains d)
    let s1 := s0.each mine (fun p s =>
      let s := s.setPort p (fun q => { q with heldDomains := q.heldDomains.filter (fun e => decide (e ≠ d)) })
      match s.bridgeOfPort p with
      | some (v, b) =>
        if (s.bridge v b).dpcTriggered && (s.port p).heldDpc then s
        else s.setBridge v b (fun x => { x with dpcTriggered := false })
      | none => s)
    let s2 := s1.each ((bindings s.ep.live).filter (fun x => decide (bindKind x.2.2 = 2 ∧ s.domainOfVh x.1 = d))) (fun x s =>
      let own := (s.bridge x.1 x.2.1).dpcTriggered && decide ((s.bridge x.1 x.2.1).dpcReason ≠ 3)
      if own then s
      else (s.setBridge x.1 x.2.1 (fun y => { y with dpcTriggered := false })).setSlot (bindPort x.2.2)
        (fun y => { y with blocked := y.blocked &&& (65535 - 2 ^ bindLd x.2.2) }))
    (s2.each mine State.startPort).domainState d 1
  else s

/-- CONTAIN_RELEASE: D0000 writes 1 to D:7ddd.0B (R516). -/
def execContainRelease (d : Fin 4096) (s : State) : Res := commandWrite (fun s => (s.containRelease d.val).answer 0) s

end Sys2Proof.Machine
end

