-- ==== Sys2Proof/Machine/Tracker.lean ====
section
/-!
DEFINITION. The commands of the transaction tracker, of link downs and of the windows (chapters 07, 08 and 09).
-/

namespace Sys2Proof.Machine

/-! ### Allocation of waiting requests -/

/-- Number of a budget for the round-robin turn: hierarchies 0 to 63, trunk 64, master 65 (R281). -/
def Budget.number : Budget → Nat
  | .vh v => v
  | .trunk => 64
  | .master => 65

/-- A budget by its number. -/
def budgetOf (n : Nat) : Budget := if n < 64 then .vh n else if n = 64 then .trunk else .master

/-- A waiting request may take an entry as far as its identity goes (R287). -/
def State.identityFree (s : State) (w : Waiting) : Bool :=
  !w.reuse || match s.frame w.frame with
    | some f => !s.reuseBlocked f
    | none => true

/-- The tables of a waiting request's entry epoch (R23). -/
def State.waitTables (s : State) (w : Waiting) : Tbl Nat :=
  s.tablesOf (match w.mem, w.coh, s.frame w.frame with
    | some m, _, _ => m.tag
    | none, some c, _ => c.req.tag
    | none, none, some f => f.tag
    | none, none, none => s.ep.epoch % 4)

/-- The oldest request of a budget that waits for an entry (R281); a far tag is waited for apart (R308). -/
def State.headOfBudget (s : State) (b : Budget) : Option Waiting :=
  s.fab.waiting.find? (fun w => decide (w.budget = b) && !w.farTag && s.identityFree w)

/-- The queues of master requests whose head may go now, the first in arrival order (R554). -/
def State.masterHead (s : State) : Option Master :=
  s.host.masterWait.find? (fun m => s.masterOpen m.vh m.inst &&
    !((s.host.masterWait.takeWhile (fun x => decide (x ≠ m))).any (sameQueue m)))

/-- A budget can be served now: one of its requests waits and its cap allows an entry. -/
def State.budgetReady (s : State) (b : Budget) : Bool :=
  match b with
  | .master => s.masterHead.isSome
  | _ => (s.headOfBudget b).any (fun w => s.budgetOpenIn (s.waitTables w) b)

/-- The budget whose turn it is (R281): the first from the round-robin turn that can be served. -/
def State.budgetTurn (s : State) : Option Budget :=
  (((List.range 66).map (fun i => (s.fab.turn + i) % 66)).find? (fun n => s.budgetReady (budgetOf n))).map budgetOf

/-- Remove a waiting request. -/
def State.unwait (w : Waiting) (s : State) : State :=
  { s with fab := { s.fab with waiting := s.fab.waiting.erase w } }

/-- Give a waiting request its entry (R278, R281): a frame is forwarded, or waits on for a far tag (R308); a CXL.mem request
goes to its member, and a coherent read to the home. -/
def State.grantWaiting (w : Waiting) (s0 : State) : State :=
  let s := s0.unwait w
  match w.mem, w.coh with
  | some m, _ => s.memForward m
  | none, some c =>
    let i := s.freeIndex
    (s.allocTrack { budget := w.budget, reqPort := (s.portOfVh c.req.host).getD 176, cplPort := 176, tagNo := c.req.tagNo, remaining := 64,
                    cxlMem := true, deadline := s.ep.beat + s.setting 0x40F3 c.req.host }).arrive c.region c.page c.line { c.req with track := some i }
  | none, none => match s.frame w.frame with
    | none => s
    | some f =>
      if s.wantsFarTag f then
        match s.farTagFree f.egress with
        | some g => s.grantEntry f w.budget (some g)
        | none => { s with fab := { s.fab with waiting := s.fab.waiting ++ [{ w with farTag := true, reuse := false }] } }
      else s.grantEntry f w.budget none

/-- Requests that wait under a cap that a commit has made zero do not wait on (R689): each is completed at once, and a waiting
master request is not issued. DEDUCED: log entry 27. -/
def State.refuseWaiting (s : State) : State :=
  let zero (w : Waiting) : Bool := decide (s.budgetCapIn s.ep.live w.budget = 0)
  let s1 : State := { s with
    fab := { s.fab with waiting := s.fab.waiting.filter (fun w => !zero w) }
    host := { s.host with masterWait := s.host.masterWait.filter (fun m => !s.masterZero m.vh m.inst) } }
  s1.each (s.fab.waiting.filter zero) (fun w s =>
    match w.mem, w.coh with
    | some m, _ => s.refuseMem m.host m.tagNo m.write
    | none, some c => s.refuseMem c.req.host c.req.tagNo false
    | none, none => match s.frame w.frame with
      | some f => s.refuseEntry f
      | none => s)

/-- TRACKER_ALLOCATION: the waiting request whose turn it is receives an entry (R281, R554). -/
def execTrackerAllocation (s : State) : Res :=
  guarded (s.running && s.budgetTurn.isSome) (fun s =>
    match s.budgetTurn with
    | none => s
    | some b =>
      let s1 := { s with fab := { s.fab with turn := (b.number + 1) % 66 } }
      match b with
      | .master => match s1.masterHead with
        | some m => ({ s1 with host := { s1.host with masterWait := s1.host.masterWait.erase m } }).masterGo m
        | none => s1
      | _ => match s1.headOfBudget b with
        | some w => s1.grantWaiting w
        | none => s1) s

/-- FAR_TAG_ASSIGNED: the oldest window request that waits for a far tag of a port receives one (R308). -/
def execFarTagAssigned (port : Fin 160) (s : State) : Res :=
  let w? := s.fab.waiting.find? (fun w => w.farTag && (s.frame w.frame).any (fun f => decide (f.egress = port.val)))
  guarded (s.running && (s.farTagFree port.val).isSome && w?.any (fun w => s.budgetOpenIn (s.waitTables w) w.budget)) (fun s =>
    match w? with
    | none => s
    | some w => match s.frame w.frame with
      | some f => (s.unwait w).grantEntry f w.budget (s.farTagFree port.val)
      | none => s.unwait w) s

/-! ### Completions and timeouts -/

/-- A prefetch ends without data: it is discarded without any report (R312, R387). -/
def State.prefetchLost (t : Track) (s : State) : State :=
  match t.window, t.extent with
  | some w, _ => { s with fab := { s.fab with holds := s.fab.holds.filter (fun h => !(decide (h.window = w) && !h.ready)) } }
  | none, some x => { s with pool := { s.pool with lines := s.pool.lines.filter (fun h => !(decide (h.extent = x) && !h.ready && decide (h.start = t.addr))) } }
  | none, none => s

/-- The data of a prefetch has arrived whole: it is held, unless a write has overlapped it meanwhile (R311, R387). -/
def State.prefetchHeld (t : Track) (s : State) : State :=
  match t.window, t.extent with
  | some w, _ => { s with fab := { s.fab with holds := s.fab.holds.map (fun h =>
      if h.window = w ∧ h.ready = false then { h with ready := true, since := s.ep.beat } else h) } }
  | none, some x =>
    let here (h : Lines) : Bool := decide (h.extent = x ∧ h.ready = false ∧ h.start = t.addr)
    let s1 : State := { s with pool := { s.pool with lines := s.pool.lines.map (fun h => if here h then { h with ready := true, since := s.ep.beat } else h) } }
    s1.each (s1.pool.lines.filter (fun h => h.ready && h.stale)) State.discardLines
  | none, none => s

/-- A completion for an Outstanding entry (R280, R311, R387): it is forwarded under the requester's own identity; the last
byte or an error frees the entry. -/
def State.completion (t : Track) (x : Tlp) (poison : Bool) (s : State) : State :=
  let ended := decide (x.status ≠ 0) || x.cplLast || decide (t.remaining ≤ x.len)
  if t.prefetch then
    if x.status ≠ 0 ∨ poison = true then (s.freeTrack t.index).prefetchLost t
    else if ended then (s.prefetchHeld t).freeTrack t.index
    else s.setTrack t.index (fun e => { e with remaining := e.remaining - x.len })
  else if t.cxlMem then
    let s1 := (s.freeTrack t.index).emit (.memAnswer t.reqPort t.tagNo t.write (poison || decide (x.status ≠ 0)))
    match t.extent with
    | some e => if t.write || poison || decide (x.status ≠ 0) then s1 else s1.poolPrefetch e t.addr
    | none => s1
  else if t.budget = .master then
    let s := if t.config && decide (x.status = 0) then s.takeIdent t.cplPort t.addr x.data else s
    if ended then s.freeTrack t.index else s.setTrack t.index (fun e => { e with remaining := e.remaining - x.len })
  else
    let s1 := s.complete t.reqPort t.edge (s.returned t x)
    if x.status ≠ 0 then s1.freeTrack t.index
    else if ended then (s1.freeTrack t.index).windowPrefetch t
    else s1.setTrack t.index (fun e => { e with remaining := e.remaining - x.len, addr := e.addr + x.len })

/-- COMPLETION_ARRIVES: a completion's head cell is formed (R280, R286, R288, R349): it matches its entry, an Expired entry,
or nothing; over a trunk an unknown transaction index is counted. DESIGN CHOICE: log entry 16. -/
def execCompletionArrives (ingress : Fin 177) (x : Tlp) (poison : Bool) (s : State) : Res :=
  checked x.wf (s.running && decide (x.op = .completion)) (fun s =>
    match s.entryFor ingress.val x with
    | some t =>
      if t.expired then (s.bump 0x40F0 9).raise 195
      else match s.cplRedirect s.ep.live ingress.val t x with
        | some q => (s.setTrack t.index (fun e => { e with via := some q })).emitOn q (.tlp q x)
        | none => s.completion t x poison
    | none => if s.trunkPort ingress.val then (s.bump 0x4400 9).raise 214 else s) s

/-- TRACKER_TIMEOUT: the deadline of an Outstanding entry begins (R285); a prefetch ends without a report (R312). -/
def execTrackerTimeout (i : Fin 262144) (s : State) : Res :=
  match s.track i.val with
  | some t =>
    guarded (s.running && decide (t.budget ≠ .master ∧ t.deadline ≤ s.ep.beat) && !t.expired) (fun s =>
      let s1 := s.reportEntry t
      let s2 := match s.exitBridge t with
        | some (v, b) => s1.aer v b aerAbort
        | none => s1
      ((((s2.bump 0x40F0 8).raise 194).expire i.val).ifDo t.prefetch (State.prefetchLost t))) s
  | none => .next s

/-- QUARANTINE_END: an Expired entry becomes Free after the maximum fabric residency (R286). -/
def execQuarantineEnd (i : Fin 262144) (s : State) : Res :=
  match s.track i.val with
  | some t => guarded (s.running && t.expired && decide (t.freeAt ≤ s.ep.beat)) (State.freeTrack i.val) s
  | none => .next s

/-! ### Links that go down -/

/-- LINK_DOWN: a port has left the data link layer active state (R289): its partner failed, or the module brought the link
down; its frames and entries are handled by the link-down table. -/
def execLinkDown (p : Fin 160) (s : State) : Res :=
  guarded (s.running && (s.linkActive p.val || (s.port p.val).downOwed)) (fun s =>
    let s1 := if (s.port p.val).downOwed then s else s.portDown p.val 4
    s1.linkLost p.val (s1.lostStatus p.val)) s

/-- The next attachment for an internal port (R246): the next higher-numbered usable one without an internal port, modulo
40, or the next usable one. -/
def State.nextAttachment (s : State) (n : Nat) : Option Nat :=
  let order := (List.range 39).map (fun i => (n + 1 + i) % 40)
  let usable := order.filter (fun a => !s.core.attachRetired.look a false)
  match usable.find? (fun a => !(List.range 17).any (fun i => decide (s.attachmentOf i = a))) with
  | some a => some a
  | none => usable.head?

/-- A retirement of an attachment takes effect (R245, R246): its group's ports, an x16 port that uses it too, go down with
cause 8, and its internal ports move. -/
def State.retireAttachment (n : Nat) (s : State) : State :=
  let s0 := { s with core := { s.core with attachRetired := s.core.attachRetired.put n true, attachPending := s.core.attachPending.del n } }
  let ports := (s.portsOfGroup n).filter (fun p => s.enabled p)
  let s1 := (s0.each ports (fun p s => s.portDown p 8)).raise 183
  s1.each ((List.range 17).filter (fun i => decide (s.attachmentOf i = n))) (fun i s =>
    match s.nextAttachment n with
    | some a => { s with core := { s.core with internalAt := s.core.internalAt.put i a } }
    | none => s)

/-- ATTACHMENT_RETIREMENT: at the next boundary (R245, R246). -/
def execAttachmentRetirement (n : Fin 40) (s : State) : Res :=
  guarded (s.running && s.core.attachPending.look n.val false) (State.retireAttachment n.val) s

/-! ### Windows -/

/-- PREFETCH_HOLD_EXPIRY: held window data is D:4200.04 beats old (R312). -/
def execPrefetchHoldExpiry (window : Fin 1024) (s : State) : Res :=
  let h? := s.fab.holds.find? (fun h => decide (h.window = window.val) && h.ready && decide (h.since + s.setting 0x4200 4 ≤ s.ep.beat))
  guarded (s.running && h?.isSome) (fun s => match h? with
    | some h => s.discardHold h
    | none => s) s

/-- Change a channel's registers. -/
def State.setChannel (c : Nat) (f : Channel → Channel) (s : State) : State :=
  { s with fab := { s.fab with channels := s.fab.channels.put c (f (s.fab.channels.look c {})) } }

/-- DOORBELL_RING: a host writes a channel's ring register (R316, R536): it acts only in the function of the ringer, while
the channel is enabled; bit 31 is ignored. -/
def execDoorbellRing (v : Fin 64) (c : Fin 1024) (set : BitVec 32) (s : State) : Res :=
  let e := s.channelIn s.ep.live c.val
  guarded (s.running && bit e 63 && decide (bits e 62 57 = v.val))
    (State.setChannel c.val (fun x => { x with status := x.status ||| set.toNat % 2 ^ 31 })) s

/-- DOORBELL_STATUS_CLEAR: a host writes ones to a channel's status register (R316, R536). -/
def execDoorbellStatusClear (v : Fin 64) (c : Fin 1024) (clear : BitVec 32) (s : State) : Res :=
  let e := s.channelIn s.ep.live c.val
  guarded (s.running && bit e 63 && decide (bits e 56 51 = v.val))
    (State.setChannel c.val (fun x => { x with status := x.status &&& (2 ^ 32 - 1 - clear.toNat) })) s

/-- Step 10 at one channel (R317): the target vector is raised once when an unmasked status bit newly appears. -/
def State.channelEval (c : Nat) (s : State) : State :=
  let e := s.channelIn s.ep.live c
  let x := s.fab.channels.look c {}
  let now := x.status &&& (2 ^ 32 - 1 - x.mask)
  let s1 := s.setChannel c (fun y => { y with evaluated := now })
  if bit e 63 && decide (now &&& (2 ^ 32 - 1 - x.evaluated) ≠ 0) then
    if bit e 50 then s1.vecEvent true (bits e 43 31) else s1.vecEvent false (bits e 56 51 * 64 + bits e 49 44)
  else s1

/-- A Posted Write Fault for a Beryl write (R484): its queue pair goes to Error, its unfinished requests end with status 9,
and the source hierarchy is that of its instance. -/
def State.pwfBeryl (far label cause addr farStamp : Nat) (s : State) : State :=
  let q := label % 2 ^ 17
  let peerHere := bits (s.edgeIn s.ep.live (s.qp q).peerEdge) 23 16
  let farHere := bits (s.edgeIn s.ep.live far) 23 16
  if !s.qpExists q || decide (peerHere ≠ farHere) then (s.bump 0x4200 0xE).raise 205
  else
    let v := (s.instD (s.qp q).inst).vh
    let s1 := s.errRecord (s.domainOfVh v) (pwfRecord 1 (s.moduleEdgeIn s.ep.live) far 0 cause addr farStamp s.ep.beat)
    let s2 := (((s1.aerCorrectable v aerAdvisory).causeEvent v 1).bump 0x4200 0xD).raise 203
    (s2.flushQp q 9).bump 0x6010 0xD

/-- PWF_RECEIVED: a Posted Write Fault arrives for a source edge (R322, R324, R350, R484). -/
def execPwfReceived (src far : Fin 4096) (label : BitVec 32) (req : BitVec 16) (page : BitVec 52) (cause : BitVec 8) (farStamp : BitVec 64)
    (s : State) : Res :=
  guarded s.running (fun s =>
    let addr := page.toNat * 4096
    if 7 ≤ cause.toNat ∧ src.val = s.moduleEdgeIn s.ep.live then s.pwfBeryl far label.toNat cause.toNat addr farStamp.toNat
    else s.pwfLog 1 src far req.toNat cause.toNat addr farStamp.toNat) s

end Sys2Proof.Machine
end

