-- ==== Sys2Proof/Machine/Restart.lean ====
section
/-!
DEFINITION. Shared operations of starts (R105 to R119, R131): what a start clears, and how a cold or a warm start begins.
-/

namespace Sys2Proof.Machine

/-- Entries of one table written over another. -/
def Tbl.overlay (t : Tbl Nat) (u : Tbl Nat) : Tbl Nat := u.foldl (fun t e => t.put e.1 e.2) t

/-- Settings of one fault source, as the dictionary names them: threshold, window and reactions, with those written in
this beat (R589, R609). -/
def Source.settings (n : Nat) (e : Source) : Tbl Nat :=
  let one (j v d : Nat) : Tbl Nat := if v = d then [] else [(key (0x8400 + n) j, v)]
  one 4 (e.newN.getD e.n) 0 ++ one 5 (e.newW.getD e.w) 0 ++ one 6 (e.newNormal.getD e.normal) 1 ++ one 7 (e.newSevere.getD e.severeR) 1

/-- The saved values of R677: the live values of staged entries and the last values written of settings, those that wait
for a start too (R117). DEDUCED: log entry 17. -/
def State.savedConfig (s : State) : Tbl Nat :=
  let fixed (n : Nat) : Bool := (fixedReaction n).isSome
  let cols := (s.col.sources.map (fun e => (Source.settings e.1 e.2).filter (fun x => !fixed e.1 || decide (x.1 % 256 < 6)))).flatten
  Tbl.overlay (Tbl.overlay (Tbl.overlay (Tbl.overlay s.ep.live s.settings) s.settingsNext) s.settingsStart) cols

/-- What a start leaves of the module: the levels at its pins, the supervisor, the flash, Sprout's memory, the module's own
outputs and its queue; every other register is as after reset (R108, R116, R131). DESIGN CHOICE: log entry 15. -/
def State.clearDie (s : State) : State :=
  let pins (e : Nat × GroupSide) : Nat × GroupSide :=
    (e.1, { perst := e.2.perst, clkreqPartner := e.2.clkreqPartner, wake := e.2.wake, prsnt := e.2.prsnt })
  { State.reset with
    groups := s.groups.map pins
    board := { slotId := s.board.slotId, refExternal := s.board.refExternal, modrst := s.board.modrst
               alertInLow := s.board.alertInLow, garnetPrsnt := s.board.garnetPrsnt }
    sup := { s.sup with state := .starting, patternFrom := none, energyUj := 0, gated := [], traffic := [] }
    start := { s.start with readyMs := 0, linksReadyMs := 0, watchdog := false, blockOffset := 0, storeStatus := 0, groupPerst := [] }
    sprout := { s.sprout with accepted := 0, alarm := false, readFails := 0 }
    adp := { anchors := s.adp.anchors, upA := s.adp.upA, upB := s.adp.upB }
    out := s.out, free := s.free, pending := s.pending }

/-- A safe-state record found by a start is shown and cleared, with fault source 1 (R602). -/
def State.takeRecord (old : Collector) (s : State) : State :=
  match old.retained with
  | some r => ({ s with col := { s.col with prev := r, retained := none } }).raise 1
  | none => s

/-- Begin a cold start (R105, R108, R109): all traffic ends, driven PERST_N pins are undriven (R53), FAULT_N is released
(R63), and the Sprout phase follows. The failed-start count stays (R127). -/
def State.coldStart (cause : Nat) (s : State) : State :=
  let r := s.clearDie
  State.takeRecord s.col { r with start := { r.start with
    state := .sprout, kind := 0, cause := cause, phase := .cold, counted := false, starts := r.start.starts + 1, recValid := false, recWriting := false
    recMark := false } }

/-- What a warm start at a beat keeps of a group: the level it drives, the rest of its hold, since the beat counter starts again,
and the outputs of its expander (R52, R115). DEDUCED: log entry 19. -/
def GroupSide.warm (beat : Nat) (old new : GroupSide) : GroupSide :=
  { new with driven := old.driven, holdUntil := old.holdUntil - beat, outputs := old.outputs, acked := old.acked, directed := old.directed }

/-- What a warm start at a beat keeps of a slot: its expander outputs, and the rest of its hold (R52, R115). DEDUCED: log
entry 19. -/
def Slot.warm (beat : Nat) (q : Slot) : Slot :=
  { pwren := q.pwren, pwrenDue := q.pwrenDue.map (· - beat), perst := q.perst, holdUntil := q.holdUntil - beat, attnLed := q.attnLed, pwrLed := q.pwrLed }

/-- What a warm start keeps of the die: driven PERST_N levels, expander outputs, lanes that stage 1 does not try again, and
retired units (R115, R131, R166). DEDUCED: log entry 19. -/
def State.warmClear (s : State) : State :=
  let r := s.clearDie
  let barred (e : Nat × Lane) : Nat × Lane :=
    (e.1, { state := if s.start.recCalib.look e.1 0 = 1 || e.2.barred then 6 else 0, failCause := e.2.failCause, failCount := e.2.failCount, excludeCmd := e.2.excludeCmd })
  { r with
    groups := s.groups.map (fun e => (e.1, GroupSide.warm s.ep.beat e.2 (r.groups.look e.1 {})))
    lanes := s.lanes.map barred
    core := { bankState := s.core.bankState, attachRetired := s.core.attachRetired, internalAt := s.core.internalAt }
    fab := { slots := s.fab.slots.map (fun e => (e.1, e.2.warm s.ep.beat)) }
    home := { bankState := s.home.bankState }
    beryl := { clusterRetired := s.beryl.clusterRetired }
    irq := { coreRetired := s.irq.coreRetired, tasks := s.irq.tasks } }

/-- Begin a warm start (R106, R108, R114): all traffic ends. The tables stay until the retained record has been checked,
since firmware may be writing it (R119). A setting accepted in the beat invalidates the record (R117), and a watchdog expiry
leaves it unwritten. DEDUCED: log entry 19. -/
def State.warmStart (cause : Nat) (s : State) : State :=
  let r := s.warmClear
  State.takeRecord s.col { r with
    ep := { live := s.ep.live, shadow := s.ep.live }
    settings := s.settings, settingsNext := s.settingsNext, settingsStart := s.settingsStart
    start := { r.start with
      state := .sprout, kind := 1, cause := cause, phase := .warm, counted := false, starts := r.start.starts + 1
      recValid := r.start.recValid && !r.start.recMark
      recWriting := (r.start.recWriting || r.start.recMark) && decide (cause ≠ 4), recMark := false } }

end Sys2Proof.Machine
end

