-- ==== Sys2Proof/Machine/Board.lean ====
section
/-!
DEFINITION. The commands of the connectors (chapter 02): filtered sideband levels, the check of PERST_N, the I2C segments,
the alert input, MODRST_N, the reference clock and the die's temperature.
-/

namespace Sys2Proof.Machine

/-! ### Sideband levels -/

/-- Gnn_PERST_N accepted low on a host group: a fundamental reset of every hierarchy whose upstream port is in the group
(R131, R290). Their links go down with it. DEDUCED: log entry 26. -/
def State.hostReset (n : Nat) (s : State) : State :=
  s.each ((s.portsOfGroup n).filter (fun p => s.enabled p)) (fun p s =>
    let s1 := (s.portDownFree p).setPort p (fun q => { q with downOwed := false })
    match s.vhOfPort p with
    | some v => (s1.hierReset v).setHier v (fun h => { h with reset := true })
    | none => s1)

/-- Gnn_PERST_N accepted high on a host group: its hierarchies leave reset and its ports may train (R112). -/
def State.hostRelease (n : Nat) (s : State) : State :=
  s.each (s.portsOfGroup n) (fun p s =>
    let s1 : State := match s.vhOfPort p with
      | some v => s.setHier v (fun h => { h with reset := false })
      | none => s
    s1.startPort p)

/-- SIDEBAND_LEVEL_ACCEPTED: a level that was stable for 8 beats is accepted (R47 to R50, R54, R112, R271). PERST_N acts on a
host group and WAKE_N on a downstream group of one port; PRSNT_N acts on every group, and high takes its enabled ports
down. CLKREQ_N carries what the link partner drives: low ends an L1 substate of the group's links. Before Release, levels are sampled without effect. GARNET_PRSNT_N high on a Paired or Fencing module sets fault source
389 and starts a warm start with cause twin (R629). DEDUCED: log entries 21 and 28. -/
def execSidebandLevelAccepted (n : Fin 40) (signal : Sideband) (high : Bool) (s : State) : Res :=
  guarded s.dieOn (fun s =>
    match signal with
    | .perst =>
      if s.roleIn s.ep.live n = 1 ∧ s.ruling s.ep.live n = n ∧ (s.group n).perst ≠ high then
        let s1 := s.setGroup n (fun g => { g with perst := high })
        if !s.running then s1 else if high then s1.hostRelease n else s1.hostReset n
      else s
    | .prsnt =>
      if (s.group n).prsnt = high then s
      else
        let s1 := s.setGroup n (fun g => { g with prsnt := high })
        let ports := (s.portsOfGroup n).filter (fun p => s.enabled p)
        if !s.running then s1
        else if high then s1.each ports (fun p s => s.portDown p 2)
        else s1.each ports State.startPort
    | .wake =>
      if s.roleIn s.ep.live n = 2 ∧ (s.group n).wake ≠ high then
        let s1 := s.setGroup n (fun g => { g with wake := high })
        let p := 4 * s.ruling s.ep.live n
        let single := decide ((s.portsOfGroup n).length = 1)
        match s.bridgeOfPort p with
        | some (v, _) => if s.running && !high && single then s1.wakeFrom v p else s1
        | none => s1
      else s
    | .clkreq =>
      let s1 := s.setGroup n (fun g => { g with clkreqPartner := high })
      if !s.running || high || decide (s.roleIn s.ep.live n = 0 ∨ s.roleIn s.ep.live n = 3) then s1
      else s1.each ((s.portsOfGroup n).filter (fun p => decide ((s.port p).power = .l11 ∨ (s.port p).power = .l12))) (fun p s => s.useLink p)
    | .garnetPrsnt =>
      let s1 : State := { s with board := { s.board with garnetPrsnt := high } }
      if !s.running then s1
      else if !high then s1.startPort 160
      else if decide (s.twin.state = .paired ∨ s.twin.state = .fencing) then (s1.warmStart 5).raise 389
      else s1.portDown 160 2) s

/-- The ports of a group follow what its check of PERST_N found: disabled under contention, else enabled and waiting to train
(R51). -/
def State.contentionPorts (n : Nat) (s : State) : State :=
  s.each (s.portsOfGroup n) (fun p s =>
    if s.enabled p then (if (s.port p).state = 0 then s.setPort p (fun q => { q with state := 1 }) else s)
    else s.setPort p (fun q => { q with state := 0 }))

/-- PERST_CONTENTION_CHECK: the samples of the 8 beats after a group took downstream role are complete (R51, R52, R265): a pin
that read high keeps the ports disabled; else the module drives it low, and the expander is configured. -/
def execPerstContentionCheck (n : Fin 40) (high : Bool) (s : State) : Res :=
  guarded (s.running && (s.group n).checkDue.any (fun d => decide (d ≤ s.ep.beat))) (fun s =>
    (if high then (s.setGroup n (fun g => { g with checkDue := none, contention := true })).raise (64 + n)
    else s.setGroup n (fun g => { g with
      checkDue := none, contention := false, driven := some false, holdUntil := s.ep.beat + 781250, configSteps := 2 })).contentionPorts n) s

/-! ### The I2C segment -/

/-- The expander's 7-bit address (R55). -/
def expander : Nat := 0x20

/-- A transaction failed (R57): nine clocks and a stop recover the segment; a failed poll is repeated in the next slot, and a
failed write stays pending. After 8 consecutive failed slots the segment is lost. DEDUCED: log entry 20. -/
def State.i2cFailed (n : Nat) (s0 : State) : State :=
  let s := s0.emit (.i2cRecover n)
  let g := s.group n
  let s1 := s.setGroup n (fun g => { g with
    slot := .idle, failedSlots := g.failedSlots + 1, consecFailed := min (g.consecFailed + 1) 8, lost := g.lost || decide (g.consecFailed = 7)
    writePending := g.writePending || decide (g.slot = .write), repoll := decide (g.slot = .poll) })
  let s2 := s1.each (s.slotsOfGroup n) (fun e s => s.setSlot e.1 (fun q => { q with cmdOwed := q.cmdOwed || q.cmdSent, cmdSent := false }))
  if g.consecFailed = 7 then s2.raise (64 + n) else s2

/-- I2C_POLL_SLOT: a poll slot begins (R55 to R58, R264, R265): a poll, or after a good poll the pending write of the outputs, or of
the directions. A poll after a write sets the command pointer. SDA held low fails the transaction at once (R57). DEDUCED: log
entry 20. -/
def execI2cPollSlot (n : Fin 40) (sdaLow : Bool) (s : State) : Res :=
  guarded (s.running && decide ((s.group n).slot = .idle ∧ s.ep.beat % 1024 = 0 ∧ (s.group n).slotBeat ≠ some s.ep.beat)) (fun s =>
    let g := s.group n
    let slots := s.slotsOfGroup n
    let s0 := s.setGroup n (fun g => { g with slotBeat := some s.ep.beat })
    let write := (g.writePending || decide (0 < g.configSteps)) && !g.lastWasWrite && !g.repoll && !slots.isEmpty
    let r : State × Out :=
      if !write then
        (s0.setGroup n (fun g => { g with slot := .poll, lastWasWrite := false, repoll := false }), .i2cRead n expander g.lastWasWrite)
      else if g.configSteps = 1 then
        (s0.setGroup n (fun g => { g with slot := .config, lastWasWrite := true }), .i2cWrite n expander 6 (slotDirections slots))
      else
        let a := s0.setGroup n (fun g => { g with
          slot := .write, lastWasWrite := true, writing := g.outputs, writePending := false })
        (a.each slots (fun e s => s.setSlot e.1 (fun q => { q with cmdSent := q.cmdOwed || q.cmdSent, cmdOwed := false })),
          .i2cWrite n expander 2 g.outputs)
    if sdaLow then r.1.i2cFailed n else r.1.emit r.2) s

/-- I2C_POLL_DONE: a poll read both input registers (R57, R265, R266): changes of the slots' levels are accepted and converted at
the next boundary; a lost segment is good again, and its expander is configured again. DEDUCED: log entry 20. -/
def execI2cPollDone (n : Fin 40) (inputs : BitVec 16) (s : State) : Res :=
  guarded (s.running && decide ((s.group n).slot = .poll)) (fun s =>
    let slots := s.slotsOfGroup n
    let before := s
    let s1 := s.setGroup n (fun g => { g with
      slot := .idle, inputs := inputs.toNat, consecFailed := 0, lost := false, polledAt := s.ep.beat
      configSteps := if g.lost && !slots.isEmpty then 2 else g.configSteps })
    let s2 := s1.each slots (fun e s => s.setSlot e.1 (fun q => q.poll (slotLevels e.2 inputs.toNat)))
    if slots.any (fun e => decide ((s2.slot e.1).inputs ≠ (before.slot e.1).inputs)) then s2.interrupt (160 + n) else s2) s

/-- PWREN of a slot counts as high from the acknowledged write that drives it high, its direction written (R265, R270). -/
def State.pwrenDriven (e : Nat × SlotPins) (g : GroupSide) (s : State) : State :=
  s.setSlot e.1 (fun q => { q with pwrenDue :=
    if g.directed && g.acked.testBit e.2.pwren then (if q.pwrenDue.isNone then some (s.ep.beat + 781250) else q.pwrenDue) else none })

/-- I2C_WRITE_ACKED: the expander acknowledges a write (R265, R268, R270): Command Completed is raised for the changes it
carried, and a slot whose PERST_N it released starts training. -/
def execI2cWriteAcked (n : Fin 40) (s : State) : Res :=
  guarded (s.running && decide ((s.group n).slot = .write ∨ (s.group n).slot = .config)) (fun s =>
    let g := s.group n
    let s0 := s.setGroup n (fun g => { g with
      slot := .idle, consecFailed := 0, configSteps := g.configSteps - 1, acked := if g.slot = .write then g.writing else g.acked
      directed := g.directed || decide (g.slot = .config) })
    let s1 := s0.each (s0.slotsOfGroup n) (fun e s => s.pwrenDriven e (s0.group n))
    if g.slot = .config then s1
    else s1.each (s.slotsOfGroup n) (fun e s =>
      let p := e.1
      let q := s.slot p
      let s2 : State := match s.bridgeOfPort p with
        | some (v, b) => if q.cmdSent then (s.setBridge v b (fun x => { x with cmdCompleted := true })).hotplug v b 4 else s
        | none => s
      let s3 := s2.setSlot p (fun q => { q with cmdSent := false })
      if q.releaseOwed && g.writing.testBit e.2.perst then (s3.setSlot p (fun q => { q with releaseOwed := false })).startPort p
      else s3)) s

/-- I2C_TRANSACTION_FAILED: the expander does not acknowledge (R57). DEDUCED: log entry 20. -/
def execI2cTransactionFailed (n : Fin 40) (s : State) : Res :=
  guarded (s.running && decide ((s.group n).slot ≠ .idle)) (State.i2cFailed n.val) s

/-! ### Edge pins -/

/-- Enter the fence (R628): the pair state becomes Fencing, with the trigger 1 missed heartbeats or 2 the alert. -/
def State.enterFence (trigger : Nat) (s : State) : State :=
  let s1 : State := { s with twin := { s.twin with fenceAt := s.ep.beat, trigger := trigger, edges := [] } }
  ((({ s1 with board := { s1.board with alertLow := true } } : State).setPair .fencing).raise 385)

/-- TWIN_ALERT_IN_ASSERTED: the accepted level of TWIN_ALERT_IN_N changes: low once it has been low for 16 core cycles, else
high (R60, R628). A Paired module enters the fence when it is asserted; in the fence a change to asserted is remembered
for 8 beats. DEDUCED: log entry 21. -/
def execTwinAlertInAsserted (low : Bool) (s : State) : Res :=
  guarded (s.dieOn && decide (s.board.alertInLow ≠ low)) (fun s =>
    let s1 : State := { s with board := { s.board with alertInLow := low } }
    if !low || !s.running then s1
    else
      match s.twin.state with
      | .paired => s1.enterFence 2
      | .fencing => { s1 with twin := { s1.twin with edges := (s.ep.beat :: s1.twin.edges).filter (fun b => decide (s.ep.beat < b + 8)) } }
      | _ => s1) s

/-- MODRST_N: the pin goes low, or returns high after it has been low for a number of ms (R64): 10 ms or longer starts a cold
start, shorter than 9 ms has no effect, and between them either may happen. DEDUCED: log entry 21. -/
def execModrstN (edge : ModrstEdge) (taken : Bool) (s : State) : Res :=
  guarded (decide (s.board.modrst ≠ edge.high)) (fun s =>
    let s1 : State := { s with board := { s.board with modrst := edge.high } }
    if edge.high && decide (s.sup.gate = .on) && (decide (10 ≤ edge.ms) || (decide (9 ≤ edge.ms) && taken)) then s1.coldStart 1 else s1) s

/-- REFCLK_LOSS: the external reference in use is lost or drifts (R68): the clock generator relocks to the internal
oscillator until the next cold start. -/
def execRefclkLoss (s : State) : Res :=
  guarded (s.dieOn && s.board.refExternal) (fun s =>
    ({ s with board := { s.board with refExternal := false, refLosses := s.board.refLosses + 1 } }).raise 122) s

/-- SENSOR_READ: the eight sensors are read, in 0.1 °C (R71): a second consecutive reading of 115 °C or more of one sensor
sets fault source 121, whose fixed reaction is safe state. -/
def execSensorRead (readings : Readings) (s : State) : Res :=
  guarded (s.dieOn && decide (s.ep.beat % 64 = 0)) (fun s =>
    let val (i : Nat) : Int := (readings.toList.getD i 0).toInt
    let isHot (i : Nat) : Bool := decide (1150 ≤ val i)
    let again := (List.range 8).any (fun i => isHot i && s.board.hot.look i false)
    let s1 : State := { s with board := { s.board with
      temps := (List.range 8).foldl (fun t i => t.put i (val i)) s.board.temps
      hot := (List.range 8).foldl (fun t i => t.put i (isHot i)) s.board.hot } }
    if again then s1.raise 121 else s1) s

/-- The module's temperature, the highest reading, in 0.1 °C (R69). -/
def State.temperature (s : State) : Int :=
  (List.range 8).foldl (fun m i => max m (s.board.temps.look i 0)) (s.board.temps.look 0 0)

/-- THROTTLE_EVALUATION: every 8,192 beats the throttle level steps (R69). -/
def execThrottleEvaluation (s : State) : Res :=
  guarded (s.dieOn && decide (s.ep.beat % 8192 = 0)) (fun s =>
    let t : Int := 10 * (s.setting 0x2101 1 : Int)
    let b := s.board
    if t ≤ s.temperature then
      if 25 < b.throttle then ({ s with board := { b with throttle := b.throttle - 25, throttleSteps := b.throttleSteps + 1 } }).raise 120 else s
    else if s.temperature ≤ t - 50 then { s with board := { b with throttle := min (b.throttle + 25) 100 } }
    else s) s

end Sys2Proof.Machine
end

