-- ==== Sys2Proof/Machine/CommitChecks.lean ====
section
/-!
DEFINITION. The checks that are made when a commit is due and when the configuration is loaded (R33, R181, R226, R257, R282,
R300, R332, R392, R495, R678, R686, R687). Each list names, for each condition in order, the objects that fail it.
-/

namespace Sys2Proof.Machine

/-- The lowest-numbered failing condition of a list, with the lowest-numbered object that fails it (R687); conditions
count from 1. -/
def firstFail : Nat → List (List Nat) → Option (Nat × Nat)
  | _, [] => none
  | n, l :: r => match l.min? with
    | some o => some (n, o)
    | none => firstFail (n + 1) r

/-- A condition without an object. -/
def failIf (c : Bool) : List Nat := if c then [0] else []

/-- The numbers that occur twice in a list. -/
def twice (l : List Nat) : List Nat := l.filter (fun x => decide (2 ≤ l.count x))

/-- Two ranges, each given by its start and length, overlap; an empty range overlaps nothing. -/
def overlap (a la b lb : Nat) : Bool := decide (0 < la ∧ 0 < lb ∧ a < b + lb ∧ b < a + la)

/-- Enabled ports of a role in a table copy. -/
def State.enabledRole (s : State) (t : Tbl Nat) (r : Nat) : List Nat :=
  (List.range 160).filter (fun p => s.enabledIn t p && decide (s.portRoleIn t p = r))

/-- An enabled host port names no hierarchy, or one that another enabled host port names (R179). -/
def State.badHost (s : State) (t : Tbl Nat) (p : Nat) : Bool :=
  match s.vhOfPortIn t p with
  | none => true
  | some v => (s.enabledRole t 1).any (fun q => decide (q ≠ p ∧ s.vhOfPortIn t q = some v))

/-- The lowest condition of R181 that a group fails, 0 when none. DEDUCED: log entry 18. -/
def State.groupCheck (s : State) (t : Tbl Nat) (n : Nat) : Nat :=
  let mine := (List.range 4).map (fun k => 4 * n + k)
  let enabled := mine.filter (s.enabledIn t)
  let role := s.roleIn t n
  let lay := s.layoutIn t n
  let rules := decide (s.ruling t n = n)
  let retired (p : Nat) : Bool := s.core.attachRetired.look (p / 4) false || (decide ((s.portLanes t p).2 = 16) && s.core.attachRetired.look (p / 4 + 1) false)
  match firstFail 1 [
      failIf (rules && decide (role = 3 ∧ lay ≠ 0 ∧ lay ≠ 5)),
      failIf (rules && decide (lay = 5 ∧ n % 2 = 1)),
      failIf (decide (16 < (s.enabledRole t 3).length) && decide (role = 3) && !enabled.isEmpty),
      failIf (decide (64 < (s.enabledRole t 1).length) && decide (role = 1) && !enabled.isEmpty),
      failIf (decide (role = 1) && enabled.any (s.badHost t)),
      failIf (enabled.any retired)] with
  | some c => c.1
  | none => 0

/-- The buffer's checks (R226): the condition, 0 when none. -/
def State.bufferCheck (s : State) (t : Tbl Nat) : Nat :=
  let heavy (p : Nat) : Bool := s.enabledIn t p && decide (100 < ((List.range 8).map (fun c => s.inTables t (0x4040 + p) (0x11 + c))).sum)
  let cap := s.inTables t 0x4002 2
  match firstFail 1 [
      failIf (decide (s.poolCells < s.sumRes t + s.sumMinB t + 16384)),
      failIf ((List.range 160).any heavy),
      failIf (decide (cap ≠ 0) && [1, 2, 3, 4].any (fun k => decide (cap ≤ s.inTables t 0x4004 k)))] with
  | some c => c.1
  | none => 0

/-- The tracker's checks (R282). -/
def State.trackerCheck (s : State) (t : Tbl Nat) : Nat :=
  let low (b : Budget) : Bool := decide (s.budgetCapIn t b < s.budgetReserveIn t b)
  match firstFail 1 [
      failIf (decide (262144 < s.reserveSumIn t)),
      failIf (low .trunk || low .master || (List.range 64).any (fun v => low (.vh v)))] with
  | some c => c.1
  | none => 0

/-- Domain of a logical device of a port in a table copy (D:34pp.31). -/
def State.sliceDomainIn (s : State) (t : Tbl Nat) (p ld : Nat) : Nat := bits (s.portIn t p 0x31) (12 * ld + 11) (12 * ld)

/-- The domain to which a binding's target is assigned (R491). -/
def State.targetDomain (s : State) (t : Tbl Nat) (e : Nat) : Nat :=
  if bindKind e = 1 then s.portIn t (bindPort e) 0x30
  else if bindKind e = 2 then s.sliceDomainIn t (bindPort e) (bindLd e)
  else (s.endpIn t (bindEndpoint e)).domain

/-- The bindings' checks (R257): condition, VH and bridge as D:40F6.01 holds them. DEDUCED: log entry 18. -/
def State.bindCheck (s : State) (t : Tbl Nat) : Nat :=
  let bs := bindings t
  let where' (f : Nat × Nat × Nat → Bool) : List Nat := (bs.filter f).map (fun x => x.1 * 65536 + x.2.1)
  let other (x : Nat × Nat × Nat) (f : Nat → Bool) : Bool := bs.any (fun y => decide (y.1 ≠ x.1 ∨ y.2.1 ≠ x.2.1) && f y.2.2)
  let onPort (e : Nat) : Bool := decide (bindKind e = 1 ∨ bindKind e = 2)
  match firstFail 1 [
      where' (fun x => onPort x.2.2 && !(s.enabledIn t (bindPort x.2.2) && decide (s.portRoleIn t (bindPort x.2.2) = 2))),
      where' (fun x => onPort x.2.2 && other x (fun e => onPort e && decide (bindPort e = bindPort x.2.2 ∧ (bindKind e = 1 ∨ bindKind x.2.2 = 1)))),
      where' (fun x => decide (bindKind x.2.2 = 2) && other x (fun e => decide (bindKind e = 2 ∧ bindPort e = bindPort x.2.2 ∧ bindLd e = bindLd x.2.2))),
      where' (fun x => decide (bindKind x.2.2 = 3) && (decide (1024 ≤ bindEndpoint x.2.2 ∨ (s.endpIn t (bindEndpoint x.2.2)).kind = 0) ||
        other x (fun e => decide (bindKind e = 3 ∧ bindEndpoint e = bindEndpoint x.2.2)))),
      where' (fun x => decide ((s.hier x.1).bridgeCount ≤ x.2.1 ∨ s.setting 0x40F7 x.1 ≤ x.2.1)),
      where' (fun x => decide (s.targetDomain t x.2.2 ≠ s.domainOfVhIn t x.1))] with
  | some c => c.1 * 2 ^ 24 + c.2
  | none => 0

/-! ### Windows (R300) -/

/-- Valid route entries of a window's group. -/
def routesOf (t : Tbl Nat) (w : Win) : List Nat := ((routeEntries t).filter (fun e => decide (bits e.2 61 52 = w.group))).map (·.2)

/-- Length of a window in bytes. -/
def Win.size (w : Win) : Nat := w.pages * 4096

/-- A reserved field is not zero, a coded field holds a refused value, or a base is not aligned (condition 1). A field
that the kind does not use is reserved for that kind. DEDUCED: log entry 18. -/
def Win.malformed (w : Win) : Bool :=
  decide (w.reserved ≠ 0) || (decide (w.pages ≠ 0) &&
    decide (w.kind = 3 ∨ 4 < w.prefetch ∨ 2 ^ 34 < w.pages ∨ w.nearBase % 4096 ≠ 0 ∨ w.farBase % 4096 ≠ 0 ∨
      (w.kind = 2 ∧ w.nearVh ≠ 0) ∨ (w.kind ≠ 2 ∧ w.srcEdge ≠ 0) ∨ (w.kind = 1 ∧ w.farDomain ≠ 0)))

/-- A route entry does not suit its window (condition 5). -/
def State.routeBad (s : State) (t : Tbl Nat) (w : Win) (e : Nat) : Bool :=
  let p := bits e 35 24
  if w.kind = 1 then !bit e 62
  else bit e 62 || !(s.enabledIn t p && decide (p < 160) && decide (s.portRoleIn t p = 1 ∨ s.portRoleIn t p = 2)) ||
    decide (s.domainOfPortIn t p ≠ w.farDomain)

/-- A route entry's host port has no interrupt address range, or one that the far range overlaps (condition 6). -/
def State.irqRangeBad (s : State) (t : Tbl Nat) (w : Win) (e : Nat) : Bool :=
  match s.vhOfPortIn t (bits e 35 24) with
  | some v =>
    let n := s.inTables t 0x4204 v * 1024
    decide (n = 0) || overlap (s.inTables t 0x4203 v) n w.farBase w.size
  | none => false

/-- Enabled doorbell channels of a table copy, by number (R315). -/
def channels (t : Tbl Nat) : List (Nat × Nat) :=
  (t.filter (fun e => decide (0x42C0 ≤ e.1 / 256 ∧ e.1 / 256 ≤ 0x42C3) && bit e.2 63)).map (fun e => ((e.1 / 256 - 0x42C0) * 256 + e.1 % 256, e.2))

/-- A channel rings its own hierarchy, or a vector of no instance of its target (R315). -/
def State.channelBad (s : State) (t : Tbl Nat) (e : Nat) : Bool :=
  let v := bits e 43 31
  decide (bits e 62 57 = bits e 56 51) || (bit e 50 && !((instNumbers t).any (fun i =>
    let d := instFields (s.instDescIn t i)
    d.enable && decide (d.vh = bits e 56 51 ∧ d.vecBase ≤ v ∧ v < d.vecBase + d.vecCount))))

/-- The windows' checks (R300): condition and number as D:4200.03 holds them. DEDUCED: log entry 18. -/
def State.windowCheck (s : State) (t : Tbl Nat) : Nat :=
  let isOn := (windows t).filter (fun w => decide (w.2.pages ≠ 0))
  let num (f : Nat × Win → Bool) : List Nat := (isOn.filter f).map (·.1)
  let local' (w : Win) : Bool := decide (w.kind ≠ 2)
  let same (a b : Win) : Bool := local' a == local' b && (if local' a then decide (a.nearVh = b.nearVh) else decide (a.srcEdge = b.srcEdge))
  let odd (lo hi : Nat) (f : Nat → Bool) : List Nat :=
    List.map (fun e => (e.1 / 256 - lo) * 256 + e.1 % 256) (t.filter (fun e => decide (lo ≤ e.1 / 256 ∧ e.1 / 256 ≤ hi) && f e.2))
  let pairs := (routeEntries t).map (fun e => bits e.2 61 52 * 65536 + bits e.2 51 36)
  match firstFail 1 [
      ((windows t).filter (fun w => w.2.malformed)).map (·.1) ++ odd 0x4280 0x429F (fun (e : Nat) => decide (bits e 22 20 ≠ 0)) ++
        odd 0x42C0 0x42C3 (fun (e : Nat) => decide (bits e 30 0 ≠ 0)) ++ odd 0x4203 0x4203 (fun (e : Nat) => decide (e % 4096 ≠ 0)),
      num (fun w => isOn.any (fun x => decide (x.1 ≠ w.1) && same w.2 x.2 && overlap w.2.nearBase w.2.size x.2.nearBase x.2.size)),
      num (fun w => local' w.2 && decide ((s.apertureOf w.2.nearVh).2 < w.2.nearBase + w.2.size)),
      num (fun w => decide (w.2.timeout < 391 ∨ 7812500 < w.2.timeout) || (local' w.2 && decide (s.setting 0x40F3 w.2.nearVh ≤ w.2.timeout))),
      num (fun w => (routesOf t w.2).any (s.routeBad t w.2)),
      num (fun w => decide (w.2.kind ≠ 1) && (routesOf t w.2).any (s.irqRangeBad t w.2)),
      num (fun w => decide (w.2.prefetch ≠ 0) && !w.2.readSafe),
      ((channels t).filter (fun e => s.channelBad t e.2)).map (·.1),
      ((routeEntries t).filter (fun e => decide (2 ≤ pairs.count (bits e.2 61 52 * 65536 + bits e.2 51 36)))).map (·.1)] with
  | some c => c.1 * 2 ^ 24 + c.2
  | none => 0

/-! ### The edge map and the path sets (R332) -/

/-- Entries of the edge map of a table copy. -/
def edges (t : Tbl Nat) : List (Nat × Nat) :=
  (t.filter (fun e => decide (0x4420 ≤ e.1 / 256 ∧ e.1 / 256 ≤ 0x442F))).map (fun e => (e.1 - 0x4420 * 256, e.2))

/-- A path set's ports, for the paths below its count. -/
def pathPorts (ps : Nat) : List Nat := (List.range (pathCount ps)).map (pathPort ps)

/-- The trunk tables' checks (R332): the condition. DEDUCED: log entry 18. -/
def State.trunkCheck (s : State) (t : Tbl Nat) : Nat :=
  let valid := (edges t).filter (fun e => bit e.2 31)
  let mine := valid.filter (fun e => decide (bits e.2 23 16 = s.moduleIn t))
  let fields := mine.map (fun e => bits e.2 7 0)
  let ports := fields.filter (· ≠ 255)
  let user (p : Nat) : Bool := decide (p < 160) && s.enabledIn t p && decide (s.portRoleIn t p = 1 ∨ s.portRoleIn t p = 2)
  let home := s.edgeIn t (s.moduleEdgeIn t)
  let sets := (t.filter (fun e => decide (e.1 / 256 = 0x4410))).map (fun e => (e.1 % 256, e.2))
  let path (p : Nat) : Bool := decide (p < 160) && s.enabledIn t p && decide (s.portRoleIn t p = 3)
  match firstFail 1 [
      failIf (ports.any (fun p => !user p)),
      failIf (!valid.isEmpty && (!(bit home 31 && decide (bits home 23 16 = s.moduleIn t ∧ bits home 7 0 = 255)) || !(twice fields).isEmpty)),
      failIf (sets.any (fun e => decide (8 < pathCount e.2) || (pathPorts e.2).any (fun p => !path p) || !(twice (pathPorts e.2)).isEmpty)),
      failIf (decide (pathCount (s.pathSetIn t (s.moduleIn t)) ≠ 0)),
      failIf ((edges t).any (fun e => decide (bits e.2 30 24 ≠ 0 ∨ bits e.2 15 8 ≠ 0)) ||
        sets.any (fun e => decide (bits e.2 91 64 ≠ 0 ∨ (pathCount e.2 ≤ 8 ∧ bits e.2 63 0 >>> (8 * pathCount e.2) ≠ 0))))] with
  | some c => c.1
  | none => 0

/-! ### The pools (R392) -/

/-- Subindices that a table copy lists under an index, with their values. -/
def entriesAt (t : Tbl Nat) (i : Nat) : List (Nat × Nat) := (t.filter (fun e => decide (e.1 / 256 = i))).map (fun e => (e.1 % 256, e.2))

/-- Length of an extent in its owner's address space, in units (R377). -/
def Ext.units (e : Ext) : Nat := e.ways * e.devSize

/-- Size of an extent's owner in units, none where the owner is not defined (R377, R392). -/
def State.ownerSize (s : State) (t : Tbl Nat) (e : Ext) : Option Nat :=
  if e.use = 1 then
    if e.owner < 1024 ∧ (s.endpIn t e.owner).kind = 1 then some (s.endpIn t e.owner).size else none
  else if e.owner < 256 ∧ (s.rgnIn t e.owner).valid = true then some (s.rgnIn t e.owner).size else none

/-- Domain of an extent's owner. -/
def State.ownerDomain (s : State) (t : Tbl Nat) (e : Ext) : Nat :=
  if e.use = 1 then (s.endpIn t e.owner).domain else (s.rgnIn t e.owner).domain

/-- An endpoint is bound in a table copy. -/
def endpointBound (t : Tbl Nat) (e : Nat) : Bool := (bridgeOfEndpointIn t e).isSome

/-- A region has a bound endpoint in a table copy. -/
def regionBound (t : Tbl Nat) (r : Nat) : Bool := (endpoints t).any (fun e => decide (e.2.kind = 2 ∧ e.2.region = r) && endpointBound t e.1)

/-- The owner of an extent is bound: a static endpoint, or a region with a bound endpoint (condition 8). -/
def State.ownerBound (s : State) (t : Tbl Nat) (e : Ext) : Bool :=
  (decide (e.use = 1) && endpointBound t e.owner && !(s.endpIn t e.owner).dynamic) || (decide (e.use = 2) && regionBound t e.owner)

/-- Units of an owner that its extents cover (condition 6). -/
def coveredUnits (t : Tbl Nat) (use owner : Nat) : Nat :=
  (((extentsUsed t).filter (fun e => decide (e.2.use = use ∧ e.2.owner = owner))).map (fun e => e.2.units)).sum

/-- A pool-device descriptor fails condition 2. DEDUCED: log entry 18. -/
def State.claimBad (s : State) (t : Tbl Nat) (d : Nat) (x : PoolDev) : Bool :=
  !(decide (x.port < 160) && s.enabledIn t x.port && decide (s.portRoleIn t x.port = 2) && bit (s.portIn t x.port 5) 1) ||
    (claimed t).any (fun y => decide (y.1 ≠ d ∧ y.2.port = x.port) && (!x.mld || !y.2.mld || decide (x.ld = y.2.ld))) ||
    (bindings t).any (fun b => decide (bindPort b.2.2 = x.port) && (decide (bindKind b.2.2 = 1) ||
      (decide (bindKind b.2.2 = 2) && (!x.mld || decide (bindLd b.2.2 = x.ld)))))

/-- The pools' checks (R392): condition and number as D:5000.0E holds them. A device, extent, endpoint or region that is
bound is one that the live tables bind. DEDUCED: log entry 18. -/
def State.poolCheckIn (s : State) (t : Tbl Nat) : Nat :=
  let old := s.ep.live
  let used := extentsUsed t
  let nums (f : Nat × Ext → Bool) : List Nat := (used.filter f).map (·.1)
  let all := ((extents t).map (·.1) ++ (extents old).map (·.1)).eraseDups
  let regions := ((entriesAt t 0x5030).map (·.1) ++ (entriesAt old 0x5030).map (·.1)).eraseDups
  let ends := ((endpoints t).map (·.1) ++ (endpoints old).map (·.1)).eraseDups
  let moved (x : Nat) : Bool :=
    let a := s.extIn old x
    let b := s.extIn t x
    decide (a.use = 0 ∨ a.ways ≠ b.ways ∨ a.members ≠ b.members ∨ a.devBase ≠ b.devBase ∨ a.devSize ≠ b.devSize)
  let badOwner (x : Nat) : Bool :=
    let a := s.extIn old x
    let b := s.extIn t x
    decide (a.use ≠ 0 ∧ b.use ≠ 0 ∧ (a.use ≠ b.use ∨ a.owner ≠ b.owner)) &&
      !(b.keep && decide (s.ownerDomain old a = s.ownerDomain t b))
  let desc (t : Tbl Nat) (x : Nat) : Nat := s.inTables t (0x5080 + x / 256) (x % 256)
  let gone (x : Nat) : Bool :=
    let a := s.extIn old x
    let b := s.extIn t x
    decide (a.use = 1) && endpointBound old a.owner && (s.endpIn old a.owner).dynamic &&
      decide ((b.use ≠ 1 ∨ b.owner ≠ a.owner) ∧ (s.extent x).state ≠ 5)
  let endpointMoved (e : Nat) : Bool :=
    let a := s.endpIn old e
    let b := s.endpIn t e
    endpointBound old e && decide (a.kind ≠ b.kind ∨ a.dynamic ≠ b.dynamic ∨ a.size ≠ b.size ∨ a.region ≠ b.region ∨ a.domain ≠ b.domain)
  let shared := (endpoints t).filter (fun e => decide (e.2.kind = 2))
  match firstFail 1 [
      ((entriesAt t 0x5020).filter (fun e => decide ((devFields e.2).reserved ≠ 0) ||
          ((devFields e.2).claim && !(devFields e.2).mld && decide ((devFields e.2).ld ≠ 0)))).map (·.1) ++
        ((extents t).filter (fun e => decide (e.2.reserved ≠ 0 ∨ e.2.use = 3 ∨ (e.2.use ≠ 0 ∧
          (!([1, 2, 4, 8, 16].contains e.2.ways) = true ∨ e.2.gran = 7 ∨ e.2.devSize = 0))))).map (·.1) ++
        ((endpoints t).filter (fun e => decide (e.2.reserved ≠ 0 ∨ e.2.kind = 3 ∨ (e.2.kind ≠ 0 ∧ (e.2.size = 0 ∨ 2 ^ 18 < e.2.size)) ∨
          (e.2.kind = 1 ∧ e.2.region ≠ 0)))).map (·.1) ++
        regions.filter (fun r => decide ((s.rgnIn t r).reserved ≠ 0) || ((s.rgnIn t r).valid && decide ((s.rgnIn t r).size = 0 ∨ 2 ^ 18 < (s.rgnIn t r).size))),
      ((claimed t).filter (fun d => s.claimBad t d.1 d.2)).map (·.1),
      nums (fun e => !(twice e.2.members).isEmpty || decide (e.2.slots >>> (8 * e.2.ways) ≠ 0) || (moved e.1 &&
        e.2.members.any (fun m => !s.devReady m || decide ((s.device m).capacity < e.2.devBase + e.2.devSize)))),
      nums (fun e => used.any (fun f => decide (e.1 ≠ f.1) &&
          ((e.2.members.any f.2.members.contains && overlap e.2.devBase e.2.devSize f.2.devBase f.2.devSize) ||
            (decide (e.2.use = f.2.use ∧ e.2.owner = f.2.owner) && overlap e.2.offset e.2.units f.2.offset f.2.units))) ||
        (match s.ownerSize t e.2 with
          | some n => decide (n < e.2.offset + e.2.units)
          | none => true)),
      (used.filter (fun e => decide (((s.extent e.1).state = 1 ∨ (s.extent e.1).state = 7) ∧ (s.extIn old e.1).use = 0))).map (·.1) ++
        all.filter badOwner,
      ((endpoints t).filter (fun e => decide (e.2.kind = 1) && !e.2.dynamic && decide (coveredUnits t 1 e.1 ≠ e.2.size))).map (·.1) ++
        (regions.filter (fun r => (s.rgnIn t r).valid && decide (coveredUnits t 2 r ≠ (s.rgnIn t r).size))) ++
        (shared.filter (fun e => !(s.rgnIn t e.2.region).valid || decide ((s.rgnIn t e.2.region).size ≠ e.2.size))).map (·.1),
      (shared.filter (fun e => decide (e.2.domain ≠ (s.rgnIn t e.2.region).domain) || shared.any (fun f =>
        decide (e.1 ≠ f.1 ∧ e.2.region = f.2.region) && (bridgeOfEndpointIn t e.1).any (fun a => (bridgeOfEndpointIn t f.1).any (fun b =>
          decide (a.1 = b.1)))))).map (·.1),
      ends.filter endpointMoved ++ all.filter (fun x => (decide (desc old x ≠ desc t x) &&
        (s.ownerBound old (s.extIn old x) || s.ownerBound old (s.extIn t x))) || gone x),
      regions.filter (fun r => regionBound old r && decide (s.inTables old 0x5030 r ≠ s.inTables t 0x5030 r)),
      (used.filter (fun e => decide (e.2.use = 2) && e.2.prefetch)).map (·.1) ++ (shared.filter (fun e => e.2.dynamic)).map (·.1)] with
  | some c => c.1 * 2 ^ 24 + c.2
  | none => 0

/-! ### Instances and domains (R495) -/

/-- An instance is not Idle (nor Absent), or the twin serves it (R615). -/
def State.notIdle (s : State) (i : Nat) : Bool := decide (2 ≤ (s.inst i).state) || s.twin.served.contains i

/-- A domain owns a hierarchy, port, logical device, endpoint, region or instance in a table copy (condition 8). -/
def State.domainOwns (s : State) (t : Tbl Nat) (d : Nat) : Bool :=
  decide (s.inTables t (0x7000 + d) 4 ≠ 0) || (List.range 160).any (fun p => decide (s.portIn t p 0x30 = d) ||
      (List.range 16).any (fun l => decide (s.sliceDomainIn t p l = d))) ||
    (endpoints t).any (fun e => decide (e.2.kind ≠ 0 ∧ e.2.domain = d)) ||
    (List.range 256).any (fun r => (s.rgnIn t r).valid && decide ((s.rgnIn t r).domain = d)) ||
    (instNumbers t).any (fun i => (instFields (s.instDescIn t i)).enable && decide ((instFields (s.instDescIn t i)).domain = d))

/-- The checks of instances and domains (R495): condition and number as D:60A0.01 holds them. DEDUCED: log entry 18. -/
def State.tenantCheck (s : State) (t : Tbl Nat) : Nat :=
  let old := s.ep.live
  let inst (i : Nat) : InstDesc := instFields (s.instDescIn t i)
  let valid := (instNumbers t).filter (fun i => (inst i).enable)
  let doms := (0 :: domainNumbers t).eraseDups
  let bad (d : Nat) : Bool := !s.domainValidIn t d
  let vhSet (d : Nat) : Nat := s.inTables t (0x7000 + d) 4
  let report (d : Nat) : Nat := s.inTables t (0x7000 + d) 5
  let slices (p : Nat) : List Nat := (List.range 16).map (s.sliceDomainIn t p)
  let clash (i : Nat) (base count : InstDesc → Nat) : Bool := valid.any (fun j => decide (j ≠ i) &&
    overlap (base (inst i)) (count (inst i)) (base (inst j)) (count (inst j)))
  match firstFail 1 [
      (instNumbers t).filter (fun i => decide ((inst i).reserved ≠ 0) || ((inst i).enable && bad (inst i).domain)) ++
        ((List.range 160).map (fun p => (s.portIn t p 0x30 :: slices p).filter bad)).flatten ++
        (((endpoints t).filter (fun e => decide (e.2.kind ≠ 0))).map (fun e => e.2.domain)).filter bad ++
        (((List.range 256).filter (fun r => (s.rgnIn t r).valid)).map (fun r => (s.rgnIn t r).domain)).filter bad,
      doms.filter (fun d => doms.any (fun e => decide (d ≠ e ∧ vhSet d &&& vhSet e ≠ 0)) ||
        (decide (report d ≠ 0xFF) && !(decide (report d < 64) && bit (vhSet d) (report d)))),
      ((List.range 160).map (fun p => if s.portRoleIn t p = 3 then (s.portIn t p 0x30 :: slices p).filter (· ≠ 0) else [])).flatten ++
        ((claimed t).map (fun d => if d.2.mld then [s.sliceDomainIn t d.2.port d.2.ld].filter (· ≠ 0)
          else [s.portIn t d.2.port 0x30].filter (· ≠ 0))).flatten,
      valid.filter (fun i => valid.any (fun j => decide (j ≠ i ∧ (inst j).vh = (inst i).vh ∧ (inst j).slot = (inst i).slot))),
      valid.filter (fun i => clash i InstDesc.qpBase InstDesc.qpCount || clash i InstDesc.cqBase InstDesc.cqCount ||
        clash i InstDesc.regBase InstDesc.regCount || clash i InstDesc.vecBase InstDesc.vecCount ||
        decide (131072 < (inst i).qpBase + (inst i).qpCount ∨ 16384 < (inst i).cqBase + (inst i).cqCount ∨
          1048576 < (inst i).regBase + (inst i).regCount ∨ 8192 < (inst i).vecBase + (inst i).vecCount)),
      valid.filter (fun i => decide ((inst i).domain ≠ s.domainOfVhIn t (inst i).vh)),
      (instNumbers old).filter (fun i => (s.instD i).enable && s.notIdle i && (decide (s.instDescIn t i ≠ s.instDesc i) ||
        decide (s.domainOfVhIn t (s.instD i).vh ≠ s.domainOfVh (s.instD i).vh))),
      (domainNumbers old).filter (fun d => s.domainValidIn old d && bad d && s.domainOwns t d),
      doms.filter (fun d =>
        let cap := s.inTables t (0x7000 + d) 3
        decide (cap ≠ 0 ∧ cap < (((List.range 64).filter (fun v => bit (vhSet d) v)).map (fun v => s.inTables t 0x40F1 v)).sum))] with
  | some c => c.1 * 2 ^ 24 + c.2
  | none => 0

/-- Keys of the check entries (R687). -/
def checkKeys : List Nat :=
  ((List.range 40).map (fun n => key (0x3000 + n) 0x92)) ++
    [key 0x4001 3, key 0x40F0 0xC, key 0x40F6 1, key 0x4200 3, key 0x4400 0xC, key 0x5000 0xE, key 0x60A0 1]

/-- The check entries and the values that the checks of a table copy give them: 0 where a chapter's checks pass (R687). -/
def State.checkEntries (s : State) (t : Tbl Nat) : List (Nat × Nat) :=
  checkKeys.zip (((List.range 40).map (s.groupCheck t)) ++
    [s.bufferCheck t, s.trackerCheck t, s.bindCheck t, s.windowCheck t, s.trunkCheck t, s.poolCheckIn t, s.tenantCheck t])

/-- Whether every check of a table copy passes, the limit of R33 apart. -/
def State.checksPass (s : State) (t : Tbl Nat) : Bool := (s.checkEntries t).all (fun c => decide (c.2 = 0))

/-- Write the check entries (R687). DEDUCED: log entry 17. -/
def State.writeChecks (cs : List (Nat × Nat)) (s : State) : State := s.each cs (fun c s => s.setView (c.1 / 256) (c.1 % 256) c.2)

/-- Keys at which two table copies may differ: those listed in either, and, where the role or the layout of a group is listed in
either, those whose default depends on it, of the group and of the odd group above it (R33, R178). -/
def candidateKeys (a b : Tbl Nat) : List Nat :=
  let listed := (a.map (·.1)) ++ (b.map (·.1)).filter (fun k => !a.has k)
  let groups := (listed.filter (fun k => decide (0x3000 ≤ k / 256 ∧ k / 256 < 0x3028 ∧ (k % 256 = 0x90 ∨ k % 256 = 0x91)))).map (fun k => k / 256 - 0x3000)
  let all := (List.range 40).filter (fun nn => groups.contains nn || (decide (nn % 2 = 1) && groups.contains (nn - 1)))
  listed ++ ((all.map dependentKeys).flatten).filter (fun k => !listed.contains k)

/-- Keys of the staged entries whose value differs between two table copies (R33). DEDUCED: log entry 17. -/
def State.changedKeys (s : State) (a b : Tbl Nat) : List Nat :=
  (candidateKeys a b).filter (fun k => decide (s.entryIn a (k / 256) (k % 256) ≠ s.entryIn b (k / 256) (k % 256)))

/-- Number of staged changes (R33, D:1210.08). DEDUCED: log entry 17. -/
def State.stagedCount (s : State) : Nat := (s.changedKeys s.ep.live s.ep.shadow).length

end Sys2Proof.Machine
end

