-- ==== Sys2Proof/Machine/Commit.lean ====
section
/-!
DEFINITION. Commits (R28 to R37, R182, R183, R227, R258, R259, R306, R376, R382, R384, R536, R622): requests, the attempt at
a boundary, and everything that a commit that takes effect does.
-/

namespace Sys2Proof.Machine

/-! ### Ports -/

/-- An entry that brings a port down when it changes has changed: role, layout, hierarchy, protocols, flit setting, clocking,
IDE, a trunk port's rates, or a reservation (R182, R183, R227). -/
def State.portChanged (s : State) (t u : Tbl Nat) (p : Nat) : Bool :=
  decide (s.portRoleIn t p ≠ s.portRoleIn u p ∨ s.layoutIn t (p / 4) ≠ s.layoutIn u (p / 4) ∨ s.portLanes t p ≠ s.portLanes u p) ||
    [4, 5, 6, 9, 0xA].any (fun j => decide (s.portIn t p j ≠ s.portIn u p j)) ||
    (decide (s.portRoleIn t p = 3) && [2, 3].any (fun j => decide (s.portIn t p j ≠ s.portIn u p j))) ||
    (List.range 4).any (fun c => decide (s.reservationIn t p c ≠ s.reservationIn u p c))

/-- Bring down the ports that a commit disables or changes, and handle what concerns them, under the old tables (R182). -/
def State.commitPortsDown (u : Tbl Nat) (s : State) : State :=
  let t := s.ep.live
  s.each ((List.range 160).filter (fun p => s.enabledIn t p && (!s.enabledIn u p || s.portChanged t u p))) (fun p s =>
    let up := s.linkActive p
    let s1 := s.portDown p (if s.enabledIn u p then 6 else 1)
    if up then s1.linkGone p 4 else s1.setPort p (fun q => { q with downOwed := false }))

/-- Start the ports that a commit enables or changes, and direct the speed changes of R183. -/
def State.commitPortsUp (t : Tbl Nat) (s : State) : State :=
  s.each (List.range 160) (fun p s =>
    if !s.enabled p then
      if (s.port p).state = 0 then s else s.setPort p (fun q => { q with state := 0, ide := if s.portIn s.ep.live p 0xA = 1 then q.ide else 0 })
    else if !s.enabledIn t p || s.portChanged t s.ep.live p then
      (s.setPort p (fun q => { q with state := 1, ide := if s.portIn s.ep.live p 0xA = 1 then 1 else 0 })).startPort p
    else
      let s1 := if s.portIn t p 0xB ≠ s.portIn s.ep.live p 0xB then s.setPort p (fun q => { q with idleSince := s.ep.beat }) else s
      let s2 := if s.portIn t p 2 ≠ s.portIn s.ep.live p 2 ∧ (s.port p).stage = 5 ∧ s.portRole p ≠ 3 then
          (s1.emit (.devCmd p 3 (s.portIn s.ep.live p 2))).enterRecovery p else s1
      if s.portRole p = 3 ∧ s.portIn t p 0x42 ≠ s.portIn s.ep.live p 0x42 ∧ (s.port p).stage = 5 then s2.peerCheck p else s2)

/-! ### Lane groups -/

/-- What a commit does to the sidebands of a group: a group that takes downstream role, or that found contention and has
changed, is checked again; one that leaves the role no longer drives PERST_N; a changed layout starts its slots anew; WAKE_N
is driven on for hierarchies whose host port the group still has (R47, R51, R265, R271). -/
def State.commitGroup (t : Tbl Nat) (n : Nat) (s : State) : State :=
  let u := s.ep.live
  let was := decide (s.roleIn t n = 2)
  let is := decide (s.roleIn u n = 2)
  let moved := decide (s.roleIn t n ≠ s.roleIn u n ∨ s.layoutIn t n ≠ s.layoutIn u n ∨ s.ruling t n ≠ s.ruling u n)
  let touched := moved || (s.changedKeys t u).any (fun k => decide (k / 256 = 0x3000 + n ∨ (0x3400 + 4 * n ≤ k / 256 ∧ k / 256 < 0x3404 + 4 * n)))
  let s0 := s.setGroup n (fun g => { g with wakeFor := g.wakeFor.filter (fun v => (s.portOfVh v).any (fun p => decide (p / 4 = n))) })
  let s1 := if moved && (was || is) then (s0.each ((List.range 4).map (4 * n + ·)) (fun p s => s.setSlot p (fun _ => {}))).refreshOutputs n else s0
  if is && (!was || ((s.group n).contention && touched)) then
    s1.setGroup n (fun g => { g with checkDue := some (s.ep.beat + 8), driven := none, configSteps := 0, directed := false })
  else if was && !is then
    s1.setGroup n (fun g => { g with checkDue := none, driven := none, contention := false, configSteps := 0, directed := false })
  else s1

/-- The two groups of an x16 downstream port drive PERST_N alike (R50): where a commit has joined groups that do not, each pin
that is driven is asserted again. DEDUCED: log entry 49. -/
def State.joinPerst (n : Nat) (s : State) : State :=
  let low (g : GroupSide) : GroupSide := if g.driven.isSome then { g with driven := some false, holdUntil := s.ep.beat + 781250 } else g
  if (s.portLanes s.ep.live (4 * n)).2 = 16 ∧ s.roleIn s.ep.live n = 2 ∧ (s.group n).driven ≠ (s.group (n + 1)).driven then
    (s.setGroup n low).setGroup (n + 1) low
  else s

/-! ### Bindings -/

/-- Whether a bound endpoint is shown to its host: not hidden under its host's protocol, and, where it is shared, with its
home here (R391, R615). -/
def State.endpointShown (s : State) (e : Nat) : Bool :=
  !s.pool.hidden.look e false && (decide ((s.endpIn s.ep.live e).kind ≠ 2) || decide (s.homeOf (s.endpIn s.ep.live e).region = 0))

/-- Show or hide a bound endpoint as its protocol and its home say (R391, R615, R626, R631). -/
def State.refreshEndpoint (v b e : Nat) (s : State) : State :=
  (s.bridgePresence v b (s.endpointShown e)).bridgeLink v b (s.endpointShown e)

/-- Whether a host port's protocol hides an endpoint: a shared one on other than CXL 3.1, a private one on PCIe or CXL 1.1 (R190,
R391). -/
def hides (kind cxl : Nat) : Bool := if kind = 2 then decide (cxl ≠ 3) else decide (cxl < 2)

/-- While the host port of a hierarchy is up, a bound endpoint is hidden or not by its protocol; hiding one sets fault source
228 (R391). DEDUCED: log entry 26. -/
def State.hideCheck (v e : Nat) (s : State) : State :=
  match s.portOfVh v with
  | some p =>
    if s.linkActive p then
      let h := hides (s.endpIn s.ep.live e).kind (s.port p).cxl
      let s1 : State := { s with pool := { s.pool with hidden := s.pool.hidden.put e h } }
      if h then s1.raise 228 else s1
    else s
  | none => s

/-- Remove the bindings that a commit removes or replaces, under the old tables (R259). The hold of a DPC trigger ends with its
binding, and a slot whose PERST_N is asserted is not resetting. DEDUCED: log entry 49. -/
def State.commitUnbind (u : Tbl Nat) (s : State) : State :=
  s.each ((bindings s.ep.live).filter (fun x => decide (s.bindingIn u x.1 x.2.1 ≠ x.2.2))) (fun x s =>
    let p := bindPort x.2.2
    let s1 := ((s.bridgePresence x.1 x.2.1 false).bridgeLink x.1 x.2.1 false).setBridge x.1 x.2.1 (fun b => { b with dpcTriggered := false })
    let s2 := if bindKind x.2.2 = 1 then
        (s1.setPort p (fun q => { q with ownerAspm := 0, heldDpc := false })).setSlot p (fun q => { q with resetting := !q.perst })
      else if bindKind x.2.2 = 2 then s1.setSlot p (fun q => { q with blocked := q.blocked &&& (65535 - 2 ^ bindLd x.2.2) })
      else s1
    s2.targetReset x.1 x.2.1 x.2.2)

/-- Show the bindings that a commit adds as hot-adds (R258, R391, R416). A whole port's bridge takes the slot's power state as
its Power Controller Control (log entry 32). -/
def State.commitBind (t : Tbl Nat) (s : State) : State :=
  s.each ((bindings s.ep.live).filter (fun x => decide (s.bindingIn t x.1 x.2.1 ≠ x.2.2))) (fun x s =>
    let p := bindPort x.2.2
    if bindKind x.2.2 = 1 then
      let s1 := (s.setBridge x.1 x.2.1 (fun b => { b with powerOff := !(s.slot p).pwren })).bridgePresence x.1 x.2.1 true
      if (s.port p).stage = 5 then s1.bridgeLink x.1 x.2.1 true else s1
    else if bindKind x.2.2 = 2 then (s.bridgePresence x.1 x.2.1 true).bridgeLink x.1 x.2.1 true
    else
      let e := bindEndpoint x.2.2
      let r := (s.endpIn s.ep.live e).region
      let s1 : State := { s with home := { s.home with timedOut := s.home.timedOut.filter (fun y => decide (y ≠ (r, x.1))) } }
      (s1.hideCheck x.1 e).refreshEndpoint x.1 x.2.1 e)

/-! ### Windows and channels -/

/-- Discard the held prefetch data of the windows that a commit disables, resizes, moves or gives another group (R306). -/
def State.commitWindows (t : Tbl Nat) (s : State) : State :=
  let win (t : Tbl Nat) (w : Nat) : Win := winFields (s.inTables t (0x4240 + w / 256) (w % 256))
  let same (a b : Win) : Bool := decide (a.kind = b.kind ∧ a.nearVh = b.nearVh ∧ a.srcEdge = b.srcEdge ∧ a.group = b.group ∧ a.pages = b.pages ∧
    a.nearBase = b.nearBase ∧ a.farBase = b.farBase)
  s.each (s.fab.holds.filter (fun h => !same (win t h.window) (win s.ep.live h.window))) State.discardHold

/-- Clear the registers of doorbell channels: the status of one that is disabled, status and mask of one whose hierarchies
change (R316, R536). -/
def State.commitChannels (t : Tbl Nat) (s : State) : State :=
  s.each (s.fab.channels.map (·.1)) (fun c s =>
    let a := s.channelIn t c
    let b := s.channelIn s.ep.live c
    if bits a 62 51 ≠ bits b 62 51 then s.setChannel c (fun _ => {})
    else if !bit b 63 then s.setChannel c (fun x => { x with status := 0, evaluated := 0 })
    else s)

/-! ### Pools -/

/-- Pool devices at a commit (R376): a claim that takes effect waits or enumerates; a released one is forgotten.
DEDUCED: log entry 18. -/
def State.commitDevices (t : Tbl Nat) (s : State) : State :=
  s.each (List.range 256) (fun d s =>
    let a := s.devIn t d
    let b := s.devIn s.ep.live d
    if a = b then s
    else if b.claim then
      let up := decide ((s.port b.port).stage = 5) && bit (s.port b.port).protocols 1
      (s.setDevice d (fun _ => { state := if up then 2 else 1 })).ifDo up (State.emit (.enumerate d 1 0 false))
    else if a.claim then s.setDevice d (fun _ => {})
    else s)

/-- Extents at a commit (R382, R384): one taken out of use is scrubbed; one put in use is Assigned, or Offered to a bound
dynamic endpoint with an Add Capacity event; a change of owner leaves it Assigned. DEDUCED: log entry 18. -/
def State.commitExtents (t : Tbl Nat) (s : State) : State :=
  let all := ((extents t).map (·.1) ++ (extents s.ep.live).map (·.1)).eraseDups
  (s.each all (fun x s =>
    let a := s.extIn t x
    let b := s.extIn s.ep.live x
    if a.use ≠ 0 ∧ b.use = 0 then s.startScrub x (s.inTables t (0x5080 + x / 256) (x % 256))
    else if a.use = 0 ∧ b.use ≠ 0 then
      if s.ofDynamic x then
        ((s.setExtState x 3).setExtent x (fun q => { q with postedAt := some s.ep.beat })).postEvent b.owner 1 x 0
      else s.setExtState x 2
    else if a ≠ b then s.dropLines x
    else s)).refreshExtents

/-! ### Instances and domains -/

/-- Instances and domains at a commit: a newly valid instance is Idle, an invalid one Absent (R501); changes of a domain's
state are mirrored (R619, kind 14). -/
def State.commitTenants (t : Tbl Nat) (s : State) : State :=
  let insts := (instNumbers t ++ instNumbers s.ep.live).eraseDups
  let s1 := s.each insts (fun i s =>
    let was := (instFields (s.instDescIn t i)).enable
    let is := (s.instD i).enable
    if is && !was then (s.setInst i (fun _ => {})).setInstState i 1
    else if was && !is then (s.setInstState i 0).setInst i (fun _ => {})
    else s)
  s1.each ((domainNumbers t ++ domainNumbers s.ep.live).eraseDups) (fun d s =>
    if s.domainValidIn t d = s.domainValidIn s.ep.live d then s
    else s.domainState d (if !s.domainValidIn s.ep.live d then 0 else if s.isContained d then 2 else 1))

/-! ### The commit itself -/

/-- Payload words of an entry's mirror record: 1 to 4, by the width of its type, the most significant first (R619).
PRESUMED: log entry 33. -/
def entryWords (k v : Nat) : List Nat :=
  let n := match Dict.find (k / 256) (k % 256) with
    | some r => min 4 (max 1 ((r.width + 63) / 64))
    | none => 1
  splitWords n v

/-- Bytes of the records that a commit makes (R619, R622). -/
def commitBytes (ks : List Nat) : Nat := (ks.map (fun k => 8 + 8 * (entryWords k 0).length)).sum

/-- The epoch advances: the old tables are retained for the superseded epoch, the shadow becomes live, and the commit is
recorded (R21, R22, R31). -/
def State.swapTables (s : State) : State :=
  { s with ep := { s.ep with
      superseded := s.ep.superseded ++ [{ count := s.ep.epoch, stopped := s.ep.beat, tables := s.ep.live }]
      epoch := s.ep.epoch + 1, live := s.ep.shadow, lastToken := s.ep.token, lastEpoch := s.ep.epoch + 1, lastBeat := s.ep.beat } }

/-- A commit takes effect (R31): under the old tables, what it removes goes; the tables are swapped; under the new ones,
what it adds appears; the check entries return to 0, the records are made, and the retained record is marked invalid.
DEDUCED: log entry 27. -/
def State.applyCommit (s : State) : State :=
  let t := s.ep.live
  let u := s.ep.shadow
  let ks := s.changedKeys t u
  let s1 := ((s.commitUnbind u).commitPortsDown u).swapTables
  let s2 := (((s1.each (List.range 40) (State.commitGroup t)).each (List.range 40) State.joinPerst).commitPortsUp t).bucketChecks t
  let s3 := (((s2.commitDevices t).commitBind t).commitWindows t).commitChannels t
  let s4 := (s3.commitExtents t).commitTenants t
  let s5 := (s4.each ks (fun k s => s.mirror 8 [k / 256, k % 256] (entryWords k (s.entryIn s.ep.live (k / 256) (k % 256))))).writeChecks
    ((s.checkEntries []).map (fun c => (c.1, 0)))
  let s6 : State := { s5 with
    core := { s5.core with suspended := false }
    ports := s5.ports.map (fun e => (e.1, { e.2 with ctSuspended := false }))
    start := { s5.start with recValid := false, recWriting := true } }
  (s6.refuseWaiting).setCommit .idle

/-- A commit is deferred: counted once (R32), and each wait for the mirror queue is counted (R622). DESIGN CHOICE: log entry 47. -/
def State.deferCommit (full : Bool) (s : State) : State :=
  let s1 := if full then (s.bump 0x9003 6).raise 390 else s
  if s.ep.commit = .deferred then s1
  else ({ s1 with ep := { s1.ep with deferrals := s1.ep.deferrals + 1 } }).setCommit .deferred

/-- A commit is rejected: the check entries tell why, none of them written where only the limit of R33 is exceeded, and the
shadow keeps its contents (R33, R687). DEDUCED: log entry 17. -/
def State.rejectCommit (cs : List (Nat × Nat)) (s : State) : State :=
  (if cs.any (fun c => decide (c.2 ≠ 0)) then s.writeChecks cs else s).setCommit .rejected

/-- A commit's records do not fit in the mirror queue (R622). DESIGN CHOICE: log entry 47. -/
def State.commitWaits (s : State) : Bool :=
  s.mirroring && decide (2 ^ 20 < s.mirrorBytes + commitBytes (s.changedKeys s.ep.live s.ep.shadow))

/-- The attempt at step 3 of a boundary: the commit is deferred, rejected or takes effect (R31 to R33, R622, R686). -/
def State.tryCommit (s : State) : State :=
  if 2 ≤ s.ep.superseded.length then s.deferCommit false
  else if s.commitWaits then s.deferCommit true
  else
    let cs := s.checkEntries s.ep.shadow
    if 16384 < s.stagedCount ∨ cs.any (fun c => decide (c.2 ≠ 0)) then s.rejectCommit cs
    else s.applyCommit

/-- A commit is pending and due at this boundary (R30). -/
def State.commitDue (s : State) : Bool := decide (s.ep.commit = .pending ∧ s.ep.due ≤ s.ep.beat)

/-- A commit waits in state Deferred, and may take effect at this boundary (R32, R622). -/
def State.deferredReady (s : State) : Bool := decide (s.ep.commit = .deferred ∧ s.ep.superseded.length < 2)

/-- Release the superseded epochs whose in-flight count is zero (R36). -/
def State.releaseEpochs (s : State) : State :=
  { s with ep := { s.ep with superseded := s.ep.superseded.filter (fun e => decide (s.inFlight (e.count % 4) ≠ 0)) } }

/-- The drain check (R37): a superseded epoch still live 64 beats after it stopped being current sets source 16, once. -/
def State.drainCheck (s : State) : State :=
  let late (e : SupEpoch) : Bool := decide (e.stopped + 64 ≤ s.ep.beat) && !e.overrun
  let n := (s.ep.superseded.filter late).length
  ({ s with ep := { s.ep with superseded := s.ep.superseded.map (fun e => if late e then { e with overrun := true } else e) } }).each
    (List.range n) (fun _ s => s.raise 16)

/-- Accept a commit request, which locks the shadow (R28 to R30). -/
def State.commitRequest (token cycle : Nat) (s : State) : State :=
  if token = 0 then s.answer 2
  else if s.ep.commit = .pending ∨ s.ep.commit = .deferred then s.answer 1
  else
    let due := s.ep.beat + (if cycle ≤ 224 then 1 else 2)
    (({ s with ep := { s.ep with token := token, due := due } }).setCommit .pending).answer 0

/-- EPOCH_RELEASE: step 2 of a boundary releases a drained superseded epoch (R36).
DEDUCED: log entries 14 and 28. DESIGN CHOICE: log entry 16. -/
def execEpochRelease (tag : Fin 4) (s : State) : Res :=
  guarded (s.running && decide (s.inFlight tag = 0)) (fun s =>
    { s with ep := { s.ep with superseded := s.ep.superseded.filter (fun e => decide (e.count % 4 ≠ tag.val)) } }) s

/-- COMMIT_REQUEST: a token written to D:1210.01, in a cycle of the beat (R28 to R30). DESIGN CHOICE: log entry 11. -/
def execCommitRequest (token : BitVec 32) (cycle : Fin 256) (s : State) : Res := commandWrite (State.commitRequest token.toNat cycle) s

/-- COMMIT_DUE: step 3 of the boundary at which a pending commit is due (R31 to R33, R686). DESIGN CHOICE: log entry 16. -/
def execCommitDue (s : State) : Res := guarded (s.running && s.commitDue) State.tryCommit s

/-- DEFERRED_COMMIT_APPLIED: step 3 of a boundary at which a deferred commit's turn comes (R32). -/
def execDeferredCommitApplied (s : State) : Res := guarded (s.running && s.deferredReady) State.tryCommit s

/-- SHADOW_DISCARD: a write to D:1210.07; 1 discards the staged changes, refused as busy while a commit waits (R35). -/
def execShadowDiscard (one : Bool) (s : State) : Res :=
  if !one then guarded s.adpUp (State.answer 0) s
  else commandWrite (fun s =>
    if s.ep.commit = .pending ∨ s.ep.commit = .deferred then s.answer 1
    else
      let s1 : State := { s with ep := { s.ep with shadow := s.ep.live } }
      (if s.ep.commit = .idle then s1 else s1.setCommit .idle).answer 0) s

/-- DRAIN_OVERRUN: step 4 of a boundary (R37). DEDUCED: log entries 14 and 28. -/
def execDrainOverrun (s : State) : Res := guarded s.running State.drainCheck s

end Sys2Proof.Machine
end

