-- ==== Sys2Proof/Machine/Twin.lean ====
section
/-!
DEFINITION. Shared operations of twin pairing (chapter 18): mirror records and their words, the Garnet link's frames, the
shadows and the twin store, the state that a module describes at an attach, homes, and the takeover.
-/

namespace Sys2Proof.Machine

/-! ### Records (R619) -/

/-- Header fields of each kind of record, by position and width, in the order of the table (R619). -/
def recordFields : Nat → List (Nat × Nat)
  | 1 => [(52, 4), (42, 10), (38, 4), (32, 6), (30, 2), (24, 6), (18, 6), (16, 2)]
  | 2 => [(52, 4), (42, 10), (38, 4)]
  | 3 => [(52, 4), (42, 10), (38, 4)]
  | 4 => [(52, 4), (42, 10), (38, 4), (37, 1), (36, 1)]
  | 5 => [(50, 6), (42, 8)]
  | 8 => [(40, 16), (32, 8)]
  | 9 => [(39, 17)]
  | 10 => [(48, 8), (36, 12), (32, 4), (0, 32)]
  | 11 => [(42, 14), (20, 22)]
  | 12 => [(44, 12), (28, 16)]
  | 13 => [(44, 12), (41, 3)]
  | 14 => [(44, 12), (42, 2)]
  | 15 => [(42, 14), (20, 22)]
  | _ => []

/-- Whether a number of payload words belongs to a kind of record (R619). -/
def payloadFits (kind n : Nat) : Bool :=
  match kind with
  | 2 => decide (n = 1)
  | 8 => decide (1 ≤ n ∧ n ≤ 4)
  | 9 => decide (n = 3)
  | 10 => decide (n = 7)
  | 11 | 12 => decide (n = 4)
  | _ => decide (n = 0)

/-- A record is well formed: a kind of the table, every field in its width, and the payload of its kind (R619).
DEDUCED: log entry 44. DESIGN CHOICE: log entry 7. -/
def recordWf (r : Record) : Bool :=
  let f := recordFields r.kind
  !f.isEmpty && decide (r.fields.length = f.length) && (r.fields.zip f).all (fun x => decide (x.1 < 2 ^ x.2.2)) &&
    payloadFits r.kind r.payload.length && r.payload.all (fun w => decide (w < 2 ^ 64))

/-- The words of a record: its header and its payload (R619). PRESUMED: log entry 33. -/
def recordWords (r : Record) : List Nat :=
  (r.kind * 2 ^ 59 + r.payload.length * 2 ^ 56 + ((r.fields.zip (recordFields r.kind)).map (fun x => x.1 * 2 ^ x.2.1)).sum) :: r.payload

/-- Records that fit in a number of words, whole and in order (R618). -/
def fitCount : Nat → List Record → Nat
  | _, [] => 0
  | room, r :: l => if r.payload.length + 1 ≤ room then fitCount (room - (r.payload.length + 1)) l + 1 else 0

/-- Payload of a queue-pair record (R619; the places of its fields are log entry 33). -/
def qpPayload (q : Qp) : List Nat :=
  let m := q.image
  let at_ (n : Nat) : Nat := m.getD n 0
  [at_ 0 * 2 ^ 48 + at_ 1 * 2 ^ 24 + at_ 2, at_ 3 * 2 ^ 40 + at_ 4 * 2 ^ 24 + at_ 6, at_ 5 * 2 ^ 32 + at_ 7 * 2 ^ 16 + at_ 8]

/-! ### Frames (R616 to R618) -/

/-- The Garnet link carries frames. -/
def State.garnetUp (s : State) : Bool :=
  s.running && decide ((s.port 160).stage = 5) && decide ((s.trunk 160).receiver ≠ .down)

/-- A Garnet frame arrives (R358, R362, R365, R616): the next in order is accepted and acknowledged, one that was accepted
before is discarded, and one ahead or bad asks for a replay. A header that spells another frame than this one has not arrived
with it. DESIGN CHOICE: log entry 7. -/
def State.garnetAccept (h : GarnetHead) (kind code : Nat) (body : List Nat) (f : State → State) (s : State) : State :=
  let t := s.trunk 160
  if !garnetSpells h kind code body then s
  else if !garnetOk h body then s.askReplay 160 h.now
  else if garnetSeq h = t.es then
    f (s.setTrunk 160 (fun t => { t with es := (t.es + 1) % 4096, accepted := true, receiver := .inSync }))
  else if (t.es + 4096 - garnetSeq h) % 4096 ≤ 2048 then s
  else s.askReplay 160 h.now

/-- A control message of a code arrives: it raises interrupt source 6 (R618). -/
def State.message (h : GarnetHead) (code : Nat) (body : List Nat) (f : State → State) (s : State) : State :=
  s.garnetAccept h 3 code body (fun s => f (s.interrupt 6))

/-- Send a control message (R618). -/
def State.tellTwin (code : Nat) (body : List Nat) (s : State) : State := s.garnetSend 3 code body 0

/-- Send the records below a number that wait, in order, in frames of up to 27 words, while the link takes them (R618, R622). -/
def State.sendRecords (bound : Nat) : Nat → State → State
  | 0, s => s
  | n + 1, s =>
    let k := fitCount 27 (s.twin.queue.takeWhile (fun r => decide (r.number < bound)))
    if k = 0 ∨ (s.trunk 160).sender ≠ .sending ∨ 2048 ≤ s.twin.unacked.length then s
    else
      let out := s.twin.queue.take k
      let upto := match out.getLast? with
        | some r => r.number + 1
        | none => 0
      let s1 : State := { s with twin := { s.twin with queue := s.twin.queue.drop k } }
      ((s1.garnetSend 2 0 (out.map recordWords).flatten upto).countBy k 0x9003 3).sendRecords bound n

/-- Send the closed deltas: the records of each, and its beat frame behind the last of them (R620). -/
def State.sendDeltas : Nat → State → State
  | 0, s => s
  | n + 1, s =>
    match s.twin.closes with
    | [] => s
    | c :: r =>
      let s1 := s.sendRecords c.upto 2048
      if s1.twin.queue.any (fun r => decide (r.number < c.upto)) then s1
      else
        let s2 : State := { s1 with twin := { s1.twin with closes := r } }
        (s2.garnetSend 1 c.delta [c.stamp, c.count * 2 ^ 32] 0).sendDeltas n

/-! ### Homes and endpoints -/

/-- Fix the current home of every valid region as it is now (R615). -/
def State.fixHomes (f : Nat → Nat → Nat) (s : State) : State :=
  s.each ((List.range 256).filter (fun r => (s.rgnIn s.ep.live r).valid)) (fun r t =>
    { t with twin := { t.twin with homes := t.twin.homes.put r (f r (s.homeOf r)) } })

/-- Show or hide every bound shared endpoint as its home says (R615). -/
def State.refreshShared (s : State) : State :=
  s.each ((bindings s.ep.live).filter (fun x => decide (bindKind x.2.2 = 3) &&
      decide ((s.endpIn s.ep.live (bindEndpoint x.2.2)).kind = 2))) (fun x s =>
    if (s.bridge x.1 x.2.1).presence = s.endpointShown (bindEndpoint x.2.2) then s else s.refreshEndpoint x.1 x.2.1 (bindEndpoint x.2.2))

/-- A request to a region that this module no longer serves is refused (R385, R626). DEDUCED: log entry 44. -/
def State.refuseShared (a : Alloc) (s : State) : State :=
  let s1 := match a.req.op with
    | .rds | .rdown | .rdcur => s.tell a.req.host cxlData a.region a.page a.line none true
    | _ => s.tell a.req.host cxlCmp a.region a.page a.line none false
  let s2 := match a.req.track with
    | some i => s1.freeTrack i
    | none => s1
  (s2.bump 0x5000 0xB).raise 224

/-- The twin has acknowledged the home-move message: it is the region's home, and endpoints are hidden here (R626). -/
def State.moveDone (s : State) : State :=
  match s.twin.moving with
  | none => s
  | some r =>
    let w := (s.home.allocs ++ s.home.ring).filter (fun a => decide (a.region = r))
    let s1 : State := { s with
      home := { s.home with allocs := s.home.allocs.filter (fun a => decide (a.region ≠ r)), ring := s.home.ring.filter (fun a => decide (a.region ≠ r)) }
      twin := { s.twin with homes := s.twin.homes.put r 1, moving := none, moveSent := false } }
    (s1.each w State.refuseShared).refreshShared

/-- Mirroring ends and the module is Single (R636): shadows and the twin store are released, each region keeps its home, and
nothing is held any more. -/
def State.becomeSingle (s : State) : State :=
  let s1 := s.fixHomes (fun _ h => h)
  let s2 : State := { s1 with
    home := { s1.home with entries := s1.home.entries.filter (fun e => !e.shadow) }
    twin := { s1.twin with queue := [], acked := s1.twin.nextRecord, opened := 0, closes := [], store := [], storeRecs := [], deltaRecs := [], lastDelta := []
                           moving := none, moveSent := false } }
  ((s2.setPair .single).releaseHeld).retryAllocs

/-- Both sync-done messages have been acknowledged: the modules are Paired (R635). -/
def State.tryPaired (s : State) : State :=
  if s.twin.state = .attaching ∧ s.twin.syncAcked ∧ s.twin.syncGot then
    ({ s with twin := { s.twin with attachResult := 1 } }).setPair .paired
  else s

/-- What follows when the twin acknowledges a control message of this module: sync done, detach, home move (R626, R635,
R636). -/
def State.messageAcked (code : Nat) (s : State) : State :=
  match code with
  | 4 => State.tryPaired { s with twin := { s.twin with syncAcked := true } }
  | 5 => if s.twin.state = .paired then s.becomeSingle else s
  | 8 => s.moveDone
  | _ => s

/-- An acknowledgement of the twin, and what follows from the control messages that it covers (R359, R621). -/
def State.twinAck (a : Nat) (s : State) : State :=
  let codes := ((s.twin.unacked.take (s.garnetCovered a)).filter (fun f => decide (f.kind = 3))).map (·.info)
  (s.garnetAck a).each codes State.messageAcked

/-! ### Applying records (R624) -/

/-- Change the shadow entry at a bank, set and way. -/
def State.setShadow (b t w : Nat) (f : Entry → Entry) (s : State) : State :=
  { s with home := { s.home with entries := s.home.entries.map (fun e =>
    if e.bank = b ∧ e.set = t ∧ e.way = w ∧ e.shadow = true then f e else e) } }

/-- A line change applied to an entry: state, owner, and one count (R619 kind 1). -/
def Entry.lineChange (l st ow v chg : Nat) (e : Entry) : Entry :=
  let n := e.held v
  let n' := match chg with
    | 1 => n + 1
    | 2 => n - 1
    | 3 => 0
    | _ => n
  { e with
    counts := if n' = 0 then e.counts.del v else e.counts.put v n'
    state := if st = 0 then e.state.del l else e.state.put l st
    owner := if 2 ≤ st then e.owner.put l ow else e.owner.del l }

/-- A host that departed holds no line of an entry any more, and its owned lines are I (R419). -/
def Entry.departed (v : Nat) (e : Entry) : Entry :=
  { e with
    counts := e.counts.del v
    state := e.state.filter (fun (x : Nat × Nat) => !(decide (2 ≤ x.2) && decide (e.owner.look x.1 0 = v)))
    owner := e.owner.filter (fun (x : Nat × Nat) => decide (x.2 ≠ v)) }

/-- A table of which both modules hold identical values (R614), with the object that one of its entries names. -/
def pairObject (i j : Nat) : Option Nat :=
  if i = 0x40F7 ∨ i = 0x5030 then some j
  else if 0x5040 ≤ i ∧ i ≤ 0x5043 then some ((i - 0x5040) * 256 + j)
  else if 0x5080 ≤ i ∧ i ≤ 0x508F then some ((i - 0x5080) * 256 + j)
  else if 0x6080 ≤ i ∧ i ≤ 0x608F then some ((i - 0x6080) * 256 + j)
  else if 0x7000 ≤ i ∧ i ≤ 0x7FFF then some (i - 0x7000)
  else none

/-- The value that the payload of an entry record holds, the most significant word first. PRESUMED: log entry 33. -/
def payloadValue (l : List Nat) : Nat := l.foldl (fun n w => n * 2 ^ 64 + w) 0

/-- An entry record (R624, R615, R625): it enters the twin store; a pair table that differs is reported, a free extent ends the
wait of side 1, and a bank that the twin retires is recalled here. -/
def State.applyEntry (i j v : Nat) (s : State) : State :=
  let s1 : State := { s with twin := { s.twin with store := s.twin.store.put (key i j) v } }
  if 0x5090 ≤ i ∧ i ≤ 0x509F then
    let x := (i - 0x5090) * 256 + j
    if v = 0 ∧ (s.extent x).state = 1 ∧ s.scrubHeld (s.extent x).was then (s1.setExtent x (fun e => { e with scrubLeft := [] })).setExtState x 0
    else s1
  else if i = 0x5101 then
    if v = 0 then s1
    else s1.each (s1.home.entries.filter (fun e => decide (e.bank = j) && !e.shadow)) (fun e s => s.recallPage e.region e.page)
  else match pairObject i j with
    | some n =>
      if s.live i j = v then s1
      else ({ s1 with twin := { s1.twin with mismatch := i * 65536 + n % 65536 } }).raise 387
    | none => s1

/-- The object of an instance that a command record creates anew: the records about its earlier life are dropped. -/
def staleAfter (r : Record) (x : Record) : Bool :=
  let w (n : Nat) : Nat := r.payload.getD (n - 1) 0
  match r.fields.head? with
  | some 1 => decide (x.kind = 11 ∨ x.kind = 15) && decide (x.fields.head? = some (bits (w 2) 13 0))
  | some 3 => decide (x.kind = 9) && decide (x.fields.head? = some (bits (w 1) 16 0))
  | _ => false

/-- Keep a record in the twin store: the last one about each queue pair, completion queue, instance and domain, and the
commands in order; an instance that becomes Idle or Absent leaves its commands behind. -/
def keepRecord (r : Record) (l : List Record) : List Record :=
  match r.kind with
  | 10 => l.filter (fun x => !staleAfter r x) ++ [r]
  | 13 =>
    let l1 := l.filter (fun x => !(decide (x.kind = 13) && decide (x.fields.head? = r.fields.head?)))
    let l2 := if r.fields.getD 1 0 ≤ 1 then
        l1.filter (fun x => !((decide (x.kind = 10) && decide (x.fields[1]? = r.fields.head?)) || (decide (x.kind = 12) && decide (x.fields.head? = r.fields.head?))))
      else l1
    l2 ++ [r]
  | _ => l.filter (fun x => !(decide (x.kind = r.kind) && decide (x.fields.head? = r.fields.head?))) ++ [r]

/-- Apply one record at once (R624). DEDUCED: log entry 44. -/
def State.applyRecord (r : Record) (s : State) : State :=
  let f (n : Nat) : Nat := r.fields.getD n 0
  let keep (s : State) : State := { s with twin := { s.twin with storeRecs := keepRecord r s.twin.storeRecs } }
  let s0 : State := ({ s with twin := { s.twin with deltaRecs := s.twin.deltaRecs ++ [r] } }).bump 0x9003 4
  match r.kind with
  | 1 => s0.setShadow (f 0) (f 1) (f 2) (Entry.lineChange (f 3) (f 4) (f 5) (f 6) (f 7))
  | 2 =>
    let w := r.payload.getD 0 0
    let e : Entry := { bank := f 0, set := f 1, way := f 2, shadow := true, region := bits w 63 56, page := bits w 33 0 }
    { s0 with home := { s0.home with entries := s0.home.entries.filter (fun x =>
      !(decide (x.bank = e.bank ∧ x.set = e.set ∧ x.way = e.way) && x.shadow)) ++ [e] } }
  | 3 =>
    State.retryAllocs { s0 with home := { s0.home with entries := s0.home.entries.filter (fun x =>
      !(decide (x.bank = f 0 ∧ x.set = f 1 ∧ x.way = f 2) && x.shadow)) } }
  | 4 => s0.setShadow (f 0) (f 1) (f 2) (fun e => { e with recalling := decide (f 3 = 1), uncertain := decide (f 4 = 1) })
  | 5 => { s0 with home := { s0.home with entries := s0.home.entries.map (fun e => if e.shadow ∧ e.region = f 1 then e.departed (f 0) else e) } }
  | 8 => s0.applyEntry (f 0) (f 1) (payloadValue r.payload)
  | 13 =>
    let others := s.twin.served.filter (fun i => decide (i ≠ f 0))
    keep { s0 with twin := { s0.twin with served := if 2 ≤ f 1 then others ++ [f 0] else others } }
  | _ => keep s0

/-! ### What a module tells at an attach (R635) -/

/-- Records of the lines of one home entry that are not in state I: state and owner, and as many additions for each host as
it holds lines. DEDUCED: log entry 44. -/
def State.describeEntry (e : Entry) (s : State) : State :=
  let s1 := s.mirror 2 [e.bank, e.set, e.way] [ledgerKey e.region e.page]
  let one (l st ow v chg : Nat) (s : State) : State := s.mirror 1 [e.bank, e.set, e.way, l, st, ow, v, chg] []
  let owned := (List.range 64).filter (fun l => decide (2 ≤ e.line l))
  let s2 := s1.each owned (fun l s => one l (e.line l) (e.owner.look l 0) (e.owner.look l 0) 1 s)
  let rest (v : Nat) : Nat := e.held v - (owned.filter (fun l => decide (e.owner.look l 0 = v))).length
  let shared := (List.range 64).filter (fun l => decide (e.line l = 1))
  s2.each shared.zipIdx (fun x s =>
    let vs := e.sharers.filter (fun v => decide (x.2 < rest v))
    if vs.isEmpty then one x.1 1 0 0 0 s else s.each vs (fun v s => one x.1 1 0 v 1 s))

/-- The command record that would create an object of an instance. -/
def State.describeCommand (code i value : Nat) (words : List Nat) (s : State) : State :=
  s.mirror 10 [code, i, 0, value] ((List.range 7).map (fun n => words.getD n 0))

/-- Records of an Active instance: the commands that create its objects, and their state. DEDUCED: log entry 44. -/
def State.describeInst (i : Nat) (s : State) : State :=
  let e := s.inst i
  let cqs := s.beryl.cqs.filter (fun c => s.cqInRange i c.1)
  let qps := s.beryl.qps.filter (fun q => decide (q.2.inst = i))
  let regs := s.beryl.regions.filter (fun r => decide (r.2.inst = i ∧ r.2.state ≠ .free))
  let s1 := s.describeCommand 0x20 i 0 [e.pasid + e.evLog * 2 ^ 24 + e.mapWords * 2 ^ 32, e.qpTable, e.regionTable, e.evAddr,
    e.maps.getD 0 0, e.maps.getD 1 0, e.firstPage]
  let s2 := s1.each cqs (fun c s => s.describeCommand 0x01 i 0 [c.2.addr, c.1 + c.2.log2 * 2 ^ 16 + c.2.vector * 2 ^ 32])
  let s3 := s2.each qps (fun q s =>
    let x := q.2
    let a := s.describeCommand 0x03 i 0 [q.1 + x.sendCq * 2 ^ 32, x.recvCq + x.sqLog * 2 ^ 16 + x.rqLog * 2 ^ 24 + x.tlLog * 2 ^ 32, x.sqAddr,
      x.rqAddr, x.tlAddr]
    let b := if x.state = .ready then a.describeCommand 0x04 i 0 [q.1 + 2 * 2 ^ 32, x.peerEdge + x.peerQp * 2 ^ 32, x.sentPsn + x.expected * 2 ^ 32,
      x.cls + x.cap * 2 ^ 32] else a
    b.mirror 9 [q.1] (qpPayload x))
  let s4 := s3.each regs (fun r s => s.describeCommand 0x06 i (r.1 * 4096 + r.2.generation) [r.1 + r.2.rights * 2 ^ 32, r.2.base, r.2.len])
  (s4.mirror 13 [i, e.state] []).each cqs (fun c s => s.mirror 15 [c.1, c.2.consumer] [])

/-- The records that describe a module's current state, in the order of R635. DEDUCED: log entry 44. -/
def State.describe (s : State) : State :=
  let s1 := s.each (s.home.entries.filter (fun e => !e.shadow)) State.describeEntry
  let s2 := s1.each s.ep.live (fun (e : Nat × Nat) s => s.mirror 8 [e.1 / 256, e.1 % 256] (entryWords e.1 e.2))
  let s3 := s2.each (s.home.bankState.filter (fun (b : Nat × Nat) => decide (b.2 ≠ 0))) (fun b s => s.mirror 8 [0x5101, b.1] [b.2])
  let s4 := s3.each (s.pool.extents.filter (fun x => decide (x.2.state ≠ 0)))
    (fun x s => s.mirror 8 [0x5090 + x.1 / 256, x.1 % 256] [x.2.state])
  let s5 := s4.each (s.validInsts.filter (fun i => decide (2 ≤ (s.inst i).state))) State.describeInst
  s5.each ((0 :: domainNumbers s.ep.live).eraseDups.filter (s.domainValidIn s.ep.live)) (fun d s => s.mirror 14 [d, if s.isContained d then 2 else 1] [])

/-- Both modules accept the attach (R635): the twin store is emptied, regions get their homes, the hold begins, and the state
is described. A region that neither module serves gets the side of its home_twin; a twin that has taken over serves every
region that this module does not. -/
def State.enterAttaching (s : State) : State :=
  let tookOver := decide (s.twin.twinState = 5)
  let mine (r : Nat) : Bool := decide ((if (s.rgnIn s.ep.live r).homeTwin then 1 else 0) = s.setting 0x9000 2)
  let s1 := s.fixHomes (fun r h => if h = 0 then 0 else if tookOver then 1 else if mine r then 0 else 1)
  let s2 : State := { s1 with
    home := { s1.home with entries := s1.home.entries.filter (fun e => !e.shadow) }
    twin := { s1.twin with
      queue := [], acked := s1.twin.nextRecord, opened := 0, closes := [], store := [], storeRecs := [], deltaRecs := [], lastDelta := [], served := []
      promoted := [], takeoverEdge := false, syncSent := false, syncAcked := false, syncGot := false, attachAsked := false, missed := 0
      heartbeat := true, restartAt := none } }
  ((s2.setPair .attaching).refreshShared).describe

/-! ### Losing the twin and takeover (R627 to R631) -/

/-- TWIN_ALERT_IN_N is pulsing: it has become asserted at least twice within 8 consecutive beats (R628). -/
def State.pulsing (s : State) : Bool := decide (2 ≤ (s.twin.edges.filter (fun b => decide (s.ep.beat < b + 8))).length)

/-- A beat without a heartbeat counts as missed, but not while the Garnet link narrows or retrains within its limit (R627);
the fourth in a row takes a Paired module to the fence (R628). DEDUCED: log entry 44. -/
def State.missBeat (s : State) : State :=
  if (s.port 160).narrowSince.isSome then s
  else
    let s1 : State := (({ s with twin := { s.twin with missed := s.twin.missed + 1 } }).bump 0x9003 1).raise 384
    if s.twin.state = .paired ∧ 4 ≤ s.twin.missed + 1 then s1.enterFence 1 else s1

/-- The shadow entries that the last whole delta, or a record after it, changed (R424). -/
def State.namedShadow (s : State) (e : Entry) : Bool :=
  (s.twin.lastDelta ++ s.twin.deltaRecs).any (fun r => decide (r.kind = 1 ∨ r.kind = 2 ∨ r.kind = 4) &&
    decide (r.fields.take 3 = [e.bank, e.set, e.way]))

/-- Promote the shadows to home entries, and reset the uncertain pages (R424, R631 order 3). DEDUCED: log entry 44. -/
def State.promoteLedger (s : State) : State :=
  let up := s.home.entries.filter (fun e => e.shadow && s.namedShadow e)
  let s1 : State := { s with home := { s.home with entries := s.home.entries.map (fun e =>
    if e.shadow then { e with shadow := false, uncertain := e.uncertain || s.namedShadow e } else e) } }
  let s2 := s1.fixHomes (fun _ _ => 0)
  s2.each up (fun e s => (((s.duePageReset e.region e.page).resetIfOwed e.region e.page).bump 0x5100 0xC).raise 241)

/-- Do again what a command record of the lost module did (R631 order 5). -/
def State.redo (r : Record) (s : State) : State :=
  let c : CmdSlot := { words := (r.fields.getD 0 0 * 2 ^ 56 + r.fields.getD 1 0 * 2 ^ 44) :: r.payload }
  let q := bits (c.w 1) 16 0
  match c.code with
  | 0x01 => s.madeCq c
  | 0x02 => { s with beryl := { s.beryl with cqs := s.beryl.cqs.del (bits (c.w 1) 13 0) } }
  | 0x03 => s.madeQp c
  | 0x04 => match bits (c.w 1) 33 32 with
    | 0 => s.setQp q Qp.emptied
    | 1 => s.setQp q (fun x => { x with state := .init })
    | 2 => s.qpReady q c
    | _ => s.setQp q (fun x => { x with state := .error })
  | 0x05 => { s with beryl := { s.beryl with qps := s.beryl.qps.del q } }
  | 0x06 => s.madeRegion c (r.fields.getD 3 0 % 4096)
  | 0x07 => s.setRegion (bits (c.w 1) 31 0 / 4096) (fun x => { x with state := .free, base := 0, len := 0, rights := 0, cached := false })
  | 0x08 => s.setQp q (fun x => { x with counter := bits (c.w 2) 31 0 })
  | 0x20 => s.attached c
  | _ => s

/-- The state of a queue pair as its kind 9 record gives it: nothing that was fetched or in progress is known (R619, R631). -/
def Qp.mirrored (p : List Nat) (x : Qp) : Qp :=
  let w (n : Nat) : Nat := p.getD n 0
  { x with
    state := match bits (w 0) 49 48 with
      | 0 => .reset
      | 1 => .init
      | 2 => .ready
      | _ => .error
    psn := bits (w 0) 47 24, sentPsn := bits (w 0) 47 24, unacked := bits (w 0) 23 0, expected := bits (w 1) 63 40, rate := bits (w 1) 39 24, counter := bits (w 2) 63 32
    sqProd := bits (w 1) 15 0, rqProd := bits (w 2) 31 16, tlProd := bits (w 2) 15 0 }

/-- The indexes of a completion queue from its last entry and its last consumer index (R619 kinds 11 and 15). -/
def State.mirroredCq (c : Nat) (s : State) : State :=
  let last (k : Nat) : Option Record := s.twin.storeRecs.find? (fun r => decide (r.kind = k) && decide (r.fields.head? = some c))
  let cons := match last 15 with
    | some r => r.fields.getD 1 0
    | none => 0
  s.setCq c (fun x =>
    let n := 2 ^ x.log2
    match last 11 with
    | some r =>
      let slot := r.fields.getD 1 0
      let ph := (r.payload.getD 3 0).testBit 63
      let d := (slot + 1 + n - cons % n) % n
      { x with consumer := cons, producer := (cons + d) % 2 ^ 22, count := d, phase := if slot + 1 = n then !ph else ph }
    | none => { x with consumer := cons, producer := cons, count := 0, phase := decide (cons / n % 2 = 0) })

/-- Event indexes of an instance from its last event record; the host's consumer index is not mirrored (R623; log entry 34). -/
def State.mirroredEvents (i : Nat) (s : State) : State :=
  match s.twin.storeRecs.find? (fun r => decide (r.kind = 12) && decide (r.fields.head? = some i)) with
  | some r => s.setInst i (fun e => { e with evProducer := r.fields.getD 1 0 + 1, evConsumer := r.fields.getD 1 0 + 1 })
  | none => s

/-- Write again the entries that the last whole delta and later records carried (R631 order 5). -/
def State.rewrite (r : Record) (s : State) : State :=
  let a := r.fields.getD 0 0
  let slot := r.fields.getD 1 0
  if r.kind = 11 then
    match s.twin.served.find? (fun i => s.cqInRange i a) with
    | some i => s.instWrite i ((s.cq a).addr + 32 * slot) 32 r.payload none none
    | none => s
  else if r.kind = 12 ∧ s.twin.served.contains a then s.instWrite a ((s.inst a).evAddr + 32 * slot) 32 r.payload none none
  else s

/-- Serve the instances of the lost module (R486, R631 order 5). DEDUCED: log entries 34 and 44. -/
def State.promoteInsts (s : State) : State :=
  let l := s.twin.served
  let s1 := s.each (s.twin.storeRecs.filter (fun r => decide (r.kind = 10) && l.contains (r.fields.getD 1 0))) State.redo
  let s2 := s1.each l (fun i s => (s.setInstState i 2).mirroredEvents i)
  let s3 := s2.each ((s2.beryl.cqs.map (·.1)).filter (fun c => l.any (fun i => s.cqInRange i c))) State.mirroredCq
  let mine := (s3.beryl.qps.filter (fun e => l.contains e.2.inst)).map (·.1)
  let s4 := s3.each mine (fun q s =>
    match s.twin.storeRecs.find? (fun r => decide (r.kind = 9) && decide (r.fields.head? = some q)) with
    | some r => s.setQp q (Qp.mirrored r.payload)
    | none => s)
  let s5 : State := ({ s4 with twin := { s4.twin with promoted := mine } } : State).each (s.twin.lastDelta ++ s.twin.deltaRecs) State.rewrite
  let lost := mine.filter (fun q => decide ((s5.qp q).state = .ready ∧ (s5.qp q).unacked ≠ (s5.qp q).sentPsn))
  (s5.each lost (fun q s => ((s.flushQp q 10).qpEvent 5 q))).raise 356

/-- The fence ends and the module takes over (R631): the actions of the table in order. DEDUCED: log entry 34. -/
def State.takeover (s : State) : State :=
  let s1 : State := ({ s with
    board := { s.board with alertLow := s.col.safe }
    twin := { s.twin with acked := s.twin.nextRecord, queue := [], opened := 0, closes := [], takeoverEdge := true } }).setPair .takenOver
  let s2 := ((((s1.releaseHeld).bump 0x9003 7).setView 0x9003 8 s.ep.beat).setView 0x9003 9 s.twin.trigger).raise 386
  let s3 := ((s2.promoteLedger).refreshShared).promoteInsts
  let s4 := s3.each (s.twin.storeRecs.filter (fun r => decide (r.kind = 14))) (fun r s =>
    if r.fields.getD 1 0 = 2 ∧ s.isContained (r.fields.getD 0 0) = false then s.containDomain (r.fields.getD 0 0) else s)
  State.retryAllocs { s4 with twin := { s4.twin with served := [] } }

/-- The fence has lasted 2,048 beats and the module does not give way (R628, R629). -/
def State.takeoverDue (s : State) : Bool :=
  decide (s.twin.state = .fencing ∧ s.twin.fenceAt + 2048 ≤ s.ep.beat) && !(decide (s.setting 0x9000 2 = 1) && s.pulsing)

/-- Send a restart request (R637). -/
def State.askRestart (s : State) : State :=
  let s1 : State := { s with twin := { s.twin with restartAt := some s.ep.beat } }
  ((s1.tellTwin 6 []).bump 0x9003 0xA).raise 388

/-- A good Garnet control word is processed (R354, R359, R362, R617, R637): its node, and its side in bit 7 and its pair state in bits 6 to 4 of node_port. -/
def State.garnetWord (now : Nat) (c : Control) (s : State) : State :=
  let t := s.trunk 160
  let s1 : State := { s with twin := { s.twin with twinNode := c.node, twinSide := bits c.nodePort 7 7, twinState := bits c.nodePort 6 4 } }
  let s1 := s1.setTrunk 160 (fun t => { t with probeEcho := if c.probe ≠ 0 then c.probe else t.probeEcho })
  let s2 := if c.ackValid then s1.twinAck c.ackSeq else s1
  let s3 := if c.replayReq && !(decide (t.sender = .replaying) && decide (now < t.replayStart + s.rtt 160)) then s2.replay 160 now else s2
  let s4 :=
    if c.probeEcho = t.probe ∧ t.probe ≠ 0 ∧ t.probeAt ≤ now ∧ t.measured = false then
      (s3.setTrunk 160 (fun t => { t with measured := true })).measure 160 (now - t.probeAt)
    else s3
  if s4.twin.state ≠ .takenOver then s4
  else if bits c.nodePort 6 4 = 0 then { s4 with twin := { s4.twin with restartAt := none } }
  else if (bits c.nodePort 6 4 = 3 ∨ bits c.nodePort 6 4 = 4) ∧ s4.twin.restartAt = none then s4.askRestart
  else s4

end Sys2Proof.Machine
end

