-- ==== Sys2Proof/Machine/Pair.lean ====
section
/-!
DEFINITION. The commands of twin pairing (chapter 18), and the flits of a trunk or the Garnet link.
-/

namespace Sys2Proof.Machine

/-- FLIT_RECEIVED: the 272 bytes of a flit arrive at a time in ns (R336 to R367, R616): on a trunk port, or on the Garnet link, port
160, whose frames are commands of their own. DEDUCED: log entry 44. -/
def execFlitReceived (port : Fin 161) (now : Nat) (wire : Wire) (s : State) : Res :=
  guarded (s.running && decide (s.portRole port.val = 3) && decide ((s.trunk port.val).receiver ≠ .down)
      && decide ((s.port port.val).stage = 5) && !(s.trunk port.val).quietRx)
    (State.flit port.val now (wire.toList.map BitVec.toNat)
      (if port.val = 160 then fun c _ => State.garnetWord now c else State.trunkWords port.val now)) s

/-- BEAT_FRAME: an accepted beat frame closes a delta and is a heartbeat (R620, R627). Its body is the sender's beat counter and
the number of records of the delta (R618); no rule reads them, nor the delta number. -/
def execBeatFrame (f : BeatFrame) (s : State) : Res :=
  guarded s.garnetUp (State.garnetAccept f.head 1 0 [f.stamp.toNat, f.records.toNat * 2 ^ 32] (fun s =>
    State.bump 0x9003 2 { s with twin := { s.twin with heartbeat := true, lastDelta := s.twin.deltaRecs, deltaRecs := [] } })) s

/-- RECORD_FRAME: mirror records are applied at once, in order (R619, R624). -/
def execRecordFrame (h : GarnetHead) (records : List Record) (s : State) : Res :=
  checked (records.all recordWf && decide ((records.map (fun r => r.payload.length + 1)).sum ≤ 27)) s.garnetUp
    (State.garnetAccept h 2 0 (records.map recordWords).flatten (fun s => if s.mirroring then s.each records State.applyRecord else s)) s

/-- MIRROR_ACK_RELEASE: the twin acknowledges frames; the messages held for their records are released (R359, R621).
DEDUCED: log entry 44. -/
def execMirrorAckRelease (ack : BitVec 12) (s : State) : Res := guarded s.garnetUp (State.twinAck ack.toNat) s

/-- MISSED_HEARTBEAT: a beat ends in which no beat frame was accepted (R627, R628). -/
def execMissedHeartbeat (s : State) : Res := guarded (s.running && s.mirroring && !s.twin.heartbeat) State.missBeat s

/-- TWIN_ALERT_PULSING: a side-1 module in the fence finds its alert input pulsing, and gives way (R628, R629). -/
def execTwinAlertPulsing (s : State) : Res :=
  guarded (s.running && decide (s.twin.state = .fencing ∧ s.setting 0x9000 2 = 1) && s.pulsing) (State.warmStart 5) s

/-- TAKEOVER: the fence ends and the module takes over (R631). -/
def execTakeover (s : State) : Res := guarded (s.running && s.takeoverDue) State.takeover s

/-- A pair state in which a module may be attached: Holding, Single or Taken over (R634). DEDUCED: log entry 44. -/
def attachable (c : Nat) : Bool := decide (c = 0 ∨ c = 1 ∨ c = 5)

/-- ATTACH_REQUEST: 1 written to D:9001.01 (R613, R634). -/
def execAttachRequest (one : Bool) (s : State) : Res :=
  if !one then guarded s.adpUp (State.answer 0) s
  else commandWrite (fun s =>
    if s.setting 0x9000 1 = 1 ∧ (s.port 160).stage = 5 ∧ attachable s.twin.state.code = true ∧ attachable s.twin.twinState = true ∧
        ¬ (s.twin.state = .takenOver ∧ s.twin.twinState = 5) then
      (State.tellTwin 1 [] { s with twin := { s.twin with attachAsked := true } }).answer 0
    else s.answer 1) s

/-- The reason for which an attach request is refused, 0 for none (R634): equal sides and the twin's number are seen here; the
conditions that compare the two modules' tables and states come with the command (log entry 35). -/
def State.attachReason (s : State) (differs : Fin 8) : Nat :=
  if s.twin.twinSide = s.setting 0x9000 2 then 2
  else if s.twin.twinNode ≠ s.setting 0x9000 3 then 3
  else if 3 ≤ differs.val then differs.val else 0

/-- An attach is refused: the reason is shown, and fault source 391 is set (R634). DESIGN CHOICE: log entry 35. -/
def State.attachRefused (reason : Nat) (s : State) : State :=
  State.raise 391 { s with twin := { s.twin with attachResult := reason, attachAsked := false } }

/-- ATTACH_REQUEST_MESSAGE: the twin asks for an attach: refused with a reason, or accepted (R634, R635).
DESIGN CHOICE: log entry 35. -/
def execAttachRequestMessage (h : GarnetHead) (differs : Fin 8) (s : State) : Res :=
  guarded s.garnetUp (State.message h 1 [] (fun s =>
    if s.setting 0x9000 1 = 0 ∨ attachable s.twin.state.code = false then s
    else if s.attachReason differs = 0 then (s.tellTwin 2 []).enterAttaching
    else (s.tellTwin 3 [s.attachReason differs]).attachRefused (s.attachReason differs))) s

/-- ATTACH_ACCEPT: the twin accepts, and both modules enter Attaching (R635). -/
def execAttachAccept (h : GarnetHead) (s : State) : Res :=
  guarded s.garnetUp (State.message h 2 [] (fun s =>
    if s.twin.attachAsked && attachable s.twin.state.code then s.enterAttaching else s)) s

/-- ATTACH_REFUSE: the twin refuses with a reason (R634). -/
def execAttachRefuse (h : GarnetHead) (reason : BitVec 8) (s : State) : Res :=
  guarded s.garnetUp (State.message h 3 [reason.toNat] (State.attachRefused reason.toNat)) s

/-- SYNC_DONE: the twin has sent all of its state (R635). -/
def execSyncDone (h : GarnetHead) (s : State) : Res :=
  guarded s.garnetUp (State.message h 4 [] (fun s =>
    if s.twin.state = .attaching then State.tryPaired { s with twin := { s.twin with syncGot := true } } else s)) s

/-- DETACH_REQUEST: 1 written to D:9001.02 (R636); refused as busy unless the module is Paired. -/
def execDetachRequest (one : Bool) (s : State) : Res :=
  if !one then guarded s.adpUp (State.answer 0) s
  else commandWrite (fun s =>
    if s.twin.state = .paired then (State.tellTwin 5 [] s).answer 0
    else s.answer 1) s

/-- DETACH_MESSAGE: the twin detaches; its message is acknowledged, and both modules are Single (R636). -/
def execDetachMessage (h : GarnetHead) (s : State) : Res :=
  guarded s.garnetUp (State.message h 5 [] (fun s => if s.twin.state = .paired then s.becomeSingle else s)) s

/-- SERVE_ALONE: 1 written to D:9001.04 moves a Holding module to Single (R633). -/
def execServeAlone (one : Bool) (s : State) : Res :=
  if !one then guarded s.adpUp (State.answer 0) s
  else commandWrite (fun s =>
    if s.twin.state = .holding then ((s.setPair .single).refreshShared).answer 0 else s.answer 1) s

/-- HOME_MOVE: a region number written to D:9002.01 (R626): its pages are recalled, and requests to it wait. -/
def execHomeMove (region : BitVec 16) (s : State) : Res :=
  commandWrite (fun s =>
    let r := region.toNat
    if 255 < r then s.answer 2
    else if s.twin.state = .paired ∧ (s.rgnIn s.ep.live r).valid = true ∧ s.homeOf r = 0 ∧ s.twin.moving = none then
      let s1 : State := { s with twin := { s.twin with moving := some r, moveSent := false } }
      (s1.each (s1.home.entries.filter (fun e => decide (e.region = r) && !e.shadow)) (fun e s => s.recallPage e.region e.page)).answer 0
    else s.answer 1) s

/-- HOME_MOVE_MESSAGE: the twin hands over a region's home: this module serves it, and shows its endpoints (R626). -/
def execHomeMoveMessage (h : GarnetHead) (region : Fin 256) (s : State) : Res :=
  guarded s.garnetUp (State.message h 8 [region.val] (fun s =>
    if s.twin.state = .paired then State.refreshShared { s with twin := { s.twin with homes := s.twin.homes.put region 0 } } else s)) s

/-- RECALL_REQUEST: the twin lacks room in a set, and one home entry of it is recalled here (R420, R625). -/
def execRecallRequest (h : GarnetHead) (bank : Fin 16) (set_ : BitVec 10) (s : State) : Res :=
  guarded s.garnetUp (State.message h 7 [bank.val + 16 * set_.toNat] (fun s => if s.mirroring then s.recallIn bank set_.toNat id else s)) s

/-- RESTART_REQUEST: the twin has taken over and asks this module to start anew (R637): a warm start with cause twin, refused
in safe state and during a start (R107, R129). -/
def execRestartRequest (h : GarnetHead) (s : State) : Res :=
  guarded s.garnetUp (State.message h 6 [] (fun s => if s.starting then s else s.warmStart 5)) s

/-- RESTART_REQUEST_REPEAT: 7,813 beats after the last one, while the twin does not show Holding (R637). -/
def execRestartRequestRepeat (s : State) : Res :=
  guarded (s.garnetUp && decide (s.twin.state = .takenOver ∧ s.twin.twinState ≠ 0) && match s.twin.restartAt with
    | some b => decide (b + 7813 ≤ s.ep.beat)
    | none => false) State.askRestart s

/-- TWIN_QUERY: an entry written to D:9006.01; D:9006.02 reads its value in the twin store (R638). -/
def execTwinQuery (q : BitVec 32) (s : State) : Res :=
  commandWrite (fun s => (s.setView 0x9006 1 q.toNat).answer 0) s

end Sys2Proof.Machine
end

