-- ==== Sys2Proof/Machine/Power.lean ====
section
/-!
DEFINITION. The commands of the power entry (chapter 03) and of standby (chapter 16): the feeds, the electronic fuse, trips,
retries and the latch, the release pattern, and standby with its wakes.
-/

namespace Sys2Proof.Machine

/-- One feed: 0 P48A, 1 P48B. -/
def State.feed (s : State) (k : Nat) : Feed := if k = 0 then s.sup.feedA else s.sup.feedB
/-- Change one feed. -/
def State.setFeed (k : Nat) (f : Feed → Feed) (s : State) : State :=
  if k = 0 then { s with sup := { s.sup with feedA := f s.sup.feedA } } else { s with sup := { s.sup with feedB := f s.sup.feedB } }
/-- Change the supervisor. -/
def State.setSup (f : Supervisor → Supervisor) (s : State) : State := { s with sup := f s.sup }
/-- A feed is present (R74). -/
def Supervisor.fed (u : Supervisor) : Bool := u.feedA.present || u.feedB.present

/-- FEED_PRESENT: a feed rises to 38.0 V (R74, R91, R93): with a retained state that is intact, latch, cool-down and retry
count stay; a latch that the discharged capacitor released is recorded. -/
def execFeedPresent (k : Fin 2) (s : State) : Res :=
  guarded (!(s.feed k).present) (fun s =>
    let u := s.sup
    let s1 := if !u.fed && u.recLatched && decide (u.recRelease = 0) && !u.retained then s.setSup (fun u => { u with recRelease := 1 }) else s
    (s1.setFeed k (fun f => { f with present := true })).setSup (fun u => { u with retained := true })) s

/-- REVERSE_CURRENT_OFF: a reverse current of 1 A turns the feed's FET off (R75). -/
def execReverseCurrentOff (k : Fin 2) (s : State) : Res :=
  guarded (s.feed k).conducting (State.setFeed k (fun f => { f with conducting := false, reverseOff := true })) s

/-- FET_CONDUCTS_AGAIN: the feed exceeds the bus voltage by 50 mV (R75). -/
def execFetConductsAgain (k : Fin 2) (s : State) : Res :=
  guarded (!(s.feed k).conducting) (State.setFeed k (fun f => { f with conducting := true, reverseOff := false })) s

/-- The gate turns off: the die and the Sprout domain lose their supply, and with it the retained SRAM (R127, R570); every
driven pin is released. Flash, the supervisor's store and the pins' levels stay. DEDUCED: log entry 22. -/
def State.gateOff (st : PowerState) (s : State) : State :=
  let r := s.clearDie
  { r with
    sup := { r.sup with gate := .off, gateOffOwed := false, pgOut := false, timer := false, state := st }
    board := { modrst := s.board.modrst, alertInLow := s.board.alertInLow, garnetPrsnt := s.board.garnetPrsnt }
    sprout := {}
    adp := { anchors := s.adp.anchors }
    start := { slotA := s.start.slotA, slotB := s.start.slotB, golden := s.start.golden, copyA := s.start.copyA, copyB := s.start.copyB } }

/-- Record one event of the supervisor for the next start (R94). -/
def Supervisor.record (src : Nat) (u : Supervisor) : Supervisor := { u with records := u.records.put src (u.records.look src 0 + 1) }

/-- Safe state is entered by the supervisor while the die or, in standby, Sprout has power (R77, R84, R98). -/
def State.supervisorSafe (s : State) : State := s.ifDo (s.dieOn || decide (s.sup.state = .standby)) (State.enterSafe 3 0)

/-- The gate turns off after a trip or a shutdown: after a trip the cool-down starts, or the supervisor is latched off
(R77, R84, R86, R87). DEDUCED: log entry 22. -/
def State.tripEnd (s : State) : State :=
  (s.gateOff (if s.sup.latched then .latchedOff else if s.sup.tripped then .coolDown else .shutdown)).setSup (fun u => { u with
    tripped := false, coolDown := u.tripped && !u.latched })

/-- FEED_LOST: a feed is below 37.0 V for 10 µs (R74, R76). The loss of the last one is a removal: PG_OUT falls and the gate
is off at once (R83, R90, R98). DEDUCED: log entry 22. -/
def execFeedLost (k : Fin 2) (s : State) : Res :=
  guarded (s.feed k).present (fun s =>
    let s1 := (s.setFeed k (fun f => { f with present := false })).raise (112 + k)
    if s1.sup.fed then s1
    else
      let s2 := s1.setSup (fun u => { u with fedLong := false })
      if s2.sup.gate = .off then s2 else s2.supervisorSafe.tripEnd) s

/-- BUS_SHUTDOWN: the bus is under 36.0 V for 50 µs or over 63.0 V for 10 µs (R77): PG_OUT falls, safe state is entered and
the gate turns off 20 µs later. It is no trip: a cool-down and the retry count stay. A bus that leaves its limits while the
gate is off is a shutdown too. DEDUCED: log entry 22. -/
def execBusShutdown (overVolt : Bool) (s : State) : Res :=
  guarded (s.sup.retained && !s.sup.shutdown) (fun s =>
    let s1 := s.setSup (fun u => ({ u with
      pgOut := false, shutdown := true, fedLong := false, gateOffOwed := u.gateOffOwed || decide (u.gate ≠ .off)
      state := if u.state = .unpowered then .shutdown else u.state, lastTrip := if overVolt then 5 else 4 } : Supervisor).record 114)
    s1.supervisorSafe) s

/-- Start a ramp (R78); a retry that waited is counted (R86). -/
def State.ramp (s : State) : State := s.setSup (fun u => { u with
  gate := .ramping, state := .ramp, shutdown := false, retryOwed := false, retryCount := u.retryCount + (if u.retryOwed then 1 else 0) })

/-- GATE_TURN_ON: a feed has been present, with the bus at or below 60.0 V, for a continuous 100 ms (R77, R78, R91): the gate
turns on, unless a cool-down runs or the supervisor is latched off. DEDUCED: log entry 22. -/
def execGateTurnOn (s : State) : Res :=
  guarded (decide (s.sup.gate = .off) && s.sup.fed) (fun s =>
    let s1 := s.setSup (fun u => { u with fedLong := true, shutdown := false })
    if s.sup.latched || s.sup.coolDown then s1 else s1.ramp) s

/-- GATE_FULLY_ON: the output is within 0.5 V of the bus (R78, R105): a cold start begins. -/
def execGateFullyOn (s : State) : Res :=
  guarded (decide (s.sup.gate = .ramping) && !s.sup.gateOffOwed) (fun s => (s.setSup (fun u => { u with gate := .on })).coldStart 0) s

/-- A trip (R84, R87, R93, R94): PG_OUT falls, safe state is entered while the die has power, and the gate is to turn off.
With a retry count of 5 the supervisor latches off. -/
def State.trip (cause src : Nat) (s : State) : State :=
  let latch := decide (s.sup.retryCount = 5) && !s.sup.latched
  let s1 := s.setSup (fun u => ({ u with
    pgOut := false, timer := false, gateOffOwed := true, tripped := true, lastTrip := cause, trips := u.trips + 1 } : Supervisor).record src)
  let s2 := if latch then s1.setSup (fun u => ({ u with latched := true, recLatched := true, recRelease := 0 } : Supervisor).record 118) else s1
  s2.supervisorSafe

/-- INRUSH_TRIP: during a ramp the current stays at the limit for 2 ms, or the ramp takes 15 ms (R79). -/
def execInrushTrip (s : State) : Res := guarded (decide (s.sup.gate = .ramping) && !s.sup.gateOffOwed) (State.trip 3 117) s

/-- FAULT_TIMER_START: the input current reaches 13 A while the gate is fully on (R80). -/
def execFaultTimerStart (s : State) : Res :=
  guarded (decide (s.sup.gate = .on) && !s.sup.timer && !s.sup.gateOffOwed) (State.setSup (fun u => { u with timer := true })) s

/-- FAULT_TIMER_IDLE: the current has stayed below 12.5 A for 100 µs (R80). -/
def execFaultTimerIdle (s : State) : Res := guarded s.sup.timer (State.setSup (fun u => { u with timer := false })) s

/-- OVERCURRENT_TRIP: the fault timer reaches 2 ms (R80). -/
def execOvercurrentTrip (s : State) : Res :=
  guarded (s.sup.timer && decide (s.sup.gate = .on) && !s.sup.gateOffOwed) (State.trip 1 115) s

/-- HARD_SHORT_TRIP: the input current exceeds 40 A, at any time that the gate lets it flow (R81, R84): PG_OUT and the gate
fall together. DEDUCED: log entry 22. -/
def execHardShortTrip (s : State) : Res :=
  guarded (decide (s.sup.gate ≠ .off)) (fun s => (s.trip 2 116).tripEnd) s

/-- PG_OUT_RISE: the gate has been fully on, with the fault timer idle, for a continuous 1 ms (R82). -/
def execPgOutRise (s : State) : Res :=
  guarded (decide (s.sup.gate = .on) && !s.sup.timer && !s.sup.pgOut && !s.sup.gateOffOwed) (State.setSup (fun u => { u with pgOut := true })) s

/-- GATE_OFF_AFTER_TRIP: 20 µs after an overcurrent or inrush trip, or after the entry to shutdown (R77, R84, R86). -/
def execGateOffAfterTrip (s : State) : Res := guarded s.sup.gateOffOwed State.tripEnd s

/-- AUTOMATIC_RETRY: the cool-down of 2 s ends (R86, R91): the retry follows, or waits until a feed has been present for
100 ms. -/
def execAutomaticRetry (s : State) : Res :=
  guarded s.sup.coolDown (fun s =>
    let s1 := s.setSup (fun u => { u with coolDown := false, retryOwed := true })
    if s.sup.fedLong then s1.ramp else s1) s

/-- RETRY_COUNT_CLEAR: PG_OUT has stayed high for a continuous 10 s (R88). -/
def execRetryCountClear (s : State) : Res := guarded s.sup.pgOut (State.setSup (fun u => { u with retryCount := 0 })) s

/-- RETAINED_STATE_CLEARED: the capacitor has discharged without a feed (R90): the module starts fresh; the latch record is
kept. -/
def execRetainedStateCleared (s : State) : Res :=
  guarded (!s.sup.fed && s.sup.retained && decide (s.sup.gate = .off)) (State.setSup (fun u => { u with
    retained := false, retryCount := 0, coolDown := false, retryOwed := false, latched := false, shutdown := false, lastTrip := 0, trips := 0, records := []
    state := .unpowered })) s

/-! ### The latch's release -/

/-- The module is receiving heartbeats on the Garnet link: it accepted one in this beat or in the one before (R92, R627).
DESIGN CHOICE: log entry 49. -/
def State.heartbeats (s : State) : Bool := s.twin.heartbeat || s.twin.heard

/-- TWIN_RELEASE: a write of 1 to D:2030.01 (R92): the release pattern is driven on TWIN_ALERT_N, or the write is refused. -/
def execTwinRelease (s : State) : Res :=
  commandWrite (fun s =>
    if s.heartbeats || s.board.garnetPrsnt then s.answer 1
    else (s.setSup (fun u => { u with patternFrom := some s.ep.beat })).answer 0) s

/-- RELEASE_PATTERN_ACCEPTED: three low pulses on TWIN_ALERT_IN_N while the gate is off and a feed is present (R92, R93): a fresh
start follows once a feed has been present for 100 ms (R91). -/
def execReleasePatternAccepted (s : State) : Res :=
  guarded (s.sup.latched && decide (s.sup.gate = .off) && s.sup.fed) (fun s =>
    let s1 := s.setSup (fun u => { u with
      latched := false, retryCount := 0, retryOwed := false, coolDown := false, recRelease := 2, state := .unpowered })
    if s.sup.fedLong then s1.ramp else s1) s

/-- LATCH_RECORD_CLEAR: a write of 1 to D:2001.07 (R93). -/
def execLatchRecordClear (s : State) : Res :=
  commandWrite (fun s => (s.setSup (fun u => { u with recLatched := false, recRelease := 0 })).answer 0) s

/-! ### Standby -/

/-- A saved value as the retained record holds it (R117). -/
def State.recorded (s : State) (i j : Nat) : Nat := s.inTables s.start.recConfig i j

/-- Levels that Sprout watches, by number: PRSNT_N of group nn at nn, PERST_N at 40 + nn, WAKE_N at 80 + nn, then
GARNET_PRSNT_N, TWIN_ALERT_IN_N, P48A and P48B (R575). -/
def State.watched (s : State) : Tbl Bool :=
  let g (f : GroupSide → Bool) (b : Nat) : Tbl Bool := (List.range 40).map (fun n => (b + n, f (s.group n)))
  g (·.prsnt) 0 ++ g (·.perst) 40 ++ g (·.wake) 80 ++
    [(120, s.board.garnetPrsnt), (121, !s.board.alertInLow), (122, s.sup.feedA.present), (123, s.sup.feedB.present)]

/-- STANDBY_REQUEST: a write of 1 to D:2110.01 (R96, R579): refused while a twin is attached, or a port is enabled that is no
host port with PERST_N low. Sprout saves calibration and configuration, the die powers down, driven PERST_N keep their
levels, and the alarm starts. -/
def execStandbyRequest (s : State) : Res :=
  commandWrite (fun s =>
    let quiet (p : Nat) : Bool := !s.enabled p || (decide (s.portRole p = 1) && !(s.group (p / 4)).perst)
    let alone := decide (s.twin.state = .holding ∨ s.twin.state = .single ∨ s.twin.state = .takenOver)
    if !alone || !(List.range 160).all quiet then s.answer 1
    else
      let s1 := s.answer 0
      let w := s1.warmClear
      { w with
        sup := { w.sup with state := .standby }
        sprout := { w.sprout with filters := s.watched, samples := s.watched, accepted := 0, alarm := decide (s.setting 0x8020 2 ≠ 0) }
        start := { w.start with recConfig := s.savedConfig, recValid := decide (Config.recordSize s.savedConfig ≤ 176 * 1024), recWriting := false, recMark := false } }) s

/-- Whether Sprout watches a wake source (R575). -/
def State.watches (s : State) (w : Nat) : Bool := bit (s.recorded 0x8020 1) w

/-- The wake source that a watched pin belongs to (R575). -/
def wakeSourceOf (k : Nat) : Nat := if k < 120 then k % 40 else 40 + (k - 120)

/-- Whether a change of a pin to a level is an event of its wake source (R575). -/
def State.wakeEvent (s : State) (k : Nat) (level : Bool) : Bool :=
  let role := s.roleIn s.start.recConfig (k % 40)
  if k < 40 then true
  else if k < 80 then level && decide (role = 1)
  else if k < 120 then !level && decide (role = 2)
  else if k = 121 then !level
  else true

/-- A pin's level accepted by Sprout becomes the module's level. -/
def State.pinLevel (k : Nat) (level : Bool) (s : State) : State :=
  if k < 40 then s.setGroup k (fun g => { g with prsnt := level })
  else if k < 80 then s.setGroup (k - 40) (fun g => { g with perst := level })
  else if k < 120 then s.setGroup (k - 80) (fun g => { g with wake := level })
  else if k = 120 then { s with board := { s.board with garnetPrsnt := level } }
  else if k = 121 then { s with board := { s.board with alertInLow := !level } }
  else s

/-- A wake source is accepted (R577): in standby it is acted on by the wake; after it, until Ready, its bit is added. -/
def State.acceptWake (w : Nat) (s : State) : State :=
  if s.sup.state = .standby then { s with sprout := { s.sprout with accepted := s.sprout.accepted ||| 2 ^ w } }
  else { s with sprout := { s.sprout with wakeSources := s.sprout.wakeSources ||| 2 ^ w } }

/-- WAKE_SOURCE_SAMPLE: Sprout samples each watched source (R575, R577): a change that two consecutive samples show is
accepted. -/
def execWakeSourceSample (levels : BitVec 124) (s : State) : Res :=
  guarded (decide (s.sup.state = .standby) || (s.starting && decide (s.start.cause = 6))) (fun s =>
    s.each ((List.range 124).filter (fun k => s.watches (wakeSourceOf k))) (fun k s =>
      let now := levels.getLsbD k
      let was := s.sprout.filters.look k true
      let take := (now != was) && (now == s.sprout.samples.look k true)
      let s1 : State := { s with sprout := { s.sprout with
        samples := s.sprout.samples.put k now, filters := if take then s.sprout.filters.put k now else s.sprout.filters } }
      if take then (s1.pinLevel k now).ifDo (s.wakeEvent k now) (State.acceptWake (wakeSourceOf k)) else s1)) s

/-- WAKE_ALARM: the alarm of D:8020.02 expires and acts as W44 (R575, R579). -/
def execWakeAlarm (s : State) : Res :=
  guarded (decide (s.sup.state = .standby) && s.sprout.alarm) (fun s =>
    let s1 : State := { s with sprout := { s.sprout with alarm := false } }
    s1.ifDo (s1.watches 44) (State.acceptWake 44)) s

/-- STANDBY_WAKE: an accepted wake source, or a waking frame on MGMT_A (1) or MGMT_B (2), ends standby (R97, R576 to R579). -/
def execStandbyWake (frame : Fin 3) (s : State) : Res :=
  guarded (decide (s.sup.state = .standby) && (decide (frame ≠ 0) || decide (s.sprout.accepted ≠ 0))) (fun s =>
    let s1 : State := { s with sprout := { s.sprout with
      wakeSources := s.sprout.accepted, wakeFrame := frame, wakes := s.sprout.wakes + 1, alarm := false } }
    s1.warmStart 6) s

end Sys2Proof.Machine
end

