-- ==== Sys2Proof/Machine/Engine.lean ====
section
/-!
DEFINITION. The meanings of the Beryl engine's commands (chapter 13): doorbells, fetches, work requests, frames,
timers, deliveries, revocations and clusters.
-/

namespace Sys2Proof.Machine

/-! ### Doorbells -/

/-- A write to the page set of an instance that is not Active is discarded (R504). -/
def State.pageDead (s : State) (i : Nat) : Bool := decide ((s.inst i).state ≠ 2)

/-- Discard a write to the page set of an instance that is not Active (R504). DEDUCED: log entry 41. -/
def State.pageDiscard (s : State) : State := (s.bump 0x60A0 5).raise 365

/-- The entries of a ring that a doorbell covers, from its producer index up to a new one; an entry that the operand does
not list reads as zeros (log entry 31). -/
def ringEntries (prod index : Nat) (ws : List Wr) : List Wr :=
  (List.range ((index + 65536 - prod) % 65536)).map (fun n => ws.getD n {})

/-- A doorbell of one queue of a queue pair (R431, R436, R441, R504): f posts entries, g completes them in Error. -/
def State.ringDoorbell (i q : Nat) (f : Qp → Qp) (post : State → State) (flush : State → State) (s : State) : State :=
  if s.pageDead i then s.pageDiscard
  else if !s.qpInRange i q then (s.bump 0x6010 0x10).raise 355
  else if !s.qpExists q then s
  else match (s.qp q).state with
    | .reset => s
    | .error => flush (s.setQp q f)
    | _ => (post (s.setQp q f)).needContext q

/-- The reads of ring entries from the host's memory, each entry once (R439). DESIGN CHOICE: log entry 31. -/
def State.readRing (q base log2 prod n : Nat) (s : State) : State :=
  let i := (s.qp q).inst
  let v := (s.instD i).vh
  s.each (List.range n) (fun k s => s.emitHost v (s.readOut v (some i) (base + 64 * ((prod + k) % 2 ^ log2)) 64))

/-- A send-queue doorbell (R441): the new work requests are fetched. DESIGN CHOICE: log entry 31. -/
def execSendQueueDoorbell (i : Fin 4096) (q : Fin 131072) (index : BitVec 16) (ws : List Wr) (s : State) : Res :=
  checked (ws.all Wr.wf) s.running (fun s =>
    let x := s.qp q
    let new := ringEntries x.sqProd index.toNat ws
    s.ringDoorbell i q (fun y => { y with sqProd := index.toNat })
      (fun s => (s.readRing q x.sqAddr x.sqLog x.sqProd new.length).setQp q (fun y => { y with sq := y.sq ++ new }))
      (fun s => (s.readRing q x.sqAddr x.sqLog x.sqProd new.length).each new (fun w s => s.completeWr q q 0 1 0 w))) s

/-- A receive-queue doorbell (R441). DESIGN CHOICE: log entry 31. -/
def execReceiveQueueDoorbell (i : Fin 4096) (q : Fin 131072) (index : BitVec 16) (ws : List Wr) (s : State) : Res :=
  checked (ws.all Wr.wf) s.running (fun s =>
    let x := s.qp q
    let new := ringEntries x.rqProd index.toNat ws
    s.ringDoorbell i q (fun y => { y with rqProd := index.toNat })
      (fun s => (s.readRing q x.rqAddr x.rqLog x.rqProd new.length).setQp q (fun y => { y with rq := y.rq ++ new }))
      (fun s => (s.readRing q x.rqAddr x.rqLog x.rqProd new.length).each new (fun w s => s.completeWr q q 1 1 0 w))) s

/-- A trigger-list doorbell (R441, R479): the head is armed, and tested. DESIGN CHOICE: log entry 31. -/
def execTriggerListDoorbell (i : Fin 4096) (q : Fin 131072) (index : BitVec 16) (ws : List Wr) (s : State) : Res :=
  checked (ws.all Wr.wf) s.running (fun s =>
    let x := s.qp q
    let new := ringEntries x.tlProd index.toNat ws
    s.ringDoorbell i q (fun y => { y with tlProd := index.toNat })
      (fun s => ((s.readRing q x.tlAddr x.tlLog x.tlProd new.length).setQp q (fun y => { y with tl := y.tl ++ new })).testTriggers q 0)
      (fun s => (s.readRing q x.tlAddr x.tlLog x.tlProd new.length).each new (fun w s => s.completeWr q q 2 1 0 w))) s

/-- A completion-queue consumer-index doorbell (R441, R446, R619 kind 15). -/
def execCqConsumerDoorbell (i : Fin 4096) (c : Fin 16384) (index : BitVec 22) (s : State) : Res :=
  guarded s.running (fun s =>
    if s.pageDead i then s.pageDiscard
    else if !s.cqInRange i c then (s.bump 0x6010 0x10).raise 355
    else if !s.beryl.cqs.has c then s
    else
      let x := s.cq c
      let n := if index.toNat = x.consumer then 0 else (index.toNat + 2 ^ 22 - x.consumer - 1) % 2 ^ x.log2 + 1
      (s.setCq c (fun y => { y with consumer := index.toNat, count := y.count - n })).mirror 15 [c, index.toNat] []) s

/-! ### Fetches -/

/-- The host port of a queue pair's instance. -/
def State.hostPortOf (s : State) (q : Nat) : Nat := (s.portOfVh (s.instD (s.qp q).inst).vh).getD 176

/-- A queue-pair context fetch ends (R465, R466): parked frames are processed, or the queue pair is fatal.
DESIGN CHOICE: log entry 31. -/
def execContextFetchDone (q : Fin 131072) (ok : Bool) (data : List Nat) (s : State) : Res :=
  guarded (s.running && s.qpExists q && (s.qp q).fetching) (fun s =>
    let s1 := s.masterDone (s.hostPortOf q) (s.qpSlot q) false
    if ok then ((s1.setQp q (fun x => { x with fetching := false, resident := true })).touch q).unparkAll q data
    else s1.contextLost q) s

/-- A region descriptor fetch ends (R451): what waits for it goes on, or fails. DESIGN CHOICE: log entry 31. -/
def execKeyFetchDone (r : Fin 1048576) (ok : Bool) (data : List Nat) (s : State) : Res :=
  guarded (s.running && (s.region r).fetching) (fun s =>
    let s1 := s.masterDone ((s.portOfVh (s.instD (s.region r).inst).vh).getD 176) (s.regionSlot r) false
    if ok then
      (s1.cacheKey r).each ((s.regionUsers r).filter (fun q => (s.qp q).resident && !(s.qp q).parked.isEmpty)) (fun q s => s.unparkAll q data)
    else s1.keyLost r data) s

/-! ### Work requests -/

/-- A WRITE reaches the head, or its next segments are sent (R442, R453). Operands: what local memory holds for each
segment sent, and whether it can be read. DEDUCED: log entry 41. -/
def execWrWrite (q : Fin 131072) (data : List Nat) (readOk : Bool) (s : State) : Res :=
  guarded s.running (fun s => s.runHead q 1 data readOk) s

/-- A READ reaches the head and sends its READ_REQ (R453). DEDUCED: log entry 41. -/
def execWrRead (q : Fin 131072) (s : State) : Res :=
  guarded s.running (fun s => s.runHead q 2 [] true) s

/-- A SEND reaches the head, or its next segments are sent (R453). DEDUCED: log entry 41. -/
def execWrSend (q : Fin 131072) (data : List Nat) (readOk : Bool) (s : State) : Res :=
  guarded s.running (fun s => s.runHead q 3 data readOk) s

/-- A FETCH_ADD reaches the head and sends its request (R453). -/
def execWrFetchAdd (q : Fin 131072) (s : State) : Res :=
  guarded s.running (fun s => s.runHead q 4 [] true) s

/-- A CMP_SWAP reaches the head and sends its request (R453). -/
def execWrCmpSwap (q : Fin 131072) (s : State) : Res :=
  guarded s.running (fun s => s.runHead q 5 [] true) s

/-- A NOP reaches the head and completes (R445). -/
def execWrNop (q : Fin 131072) (s : State) : Res :=
  guarded s.running (fun s => s.runHead q 6 [] true) s

/-! ### Frames at the responder -/

/-- An opcode of a request frame (R457). -/
def requestOp (op : Nat) : Bool := decide (1 ≤ op ∧ op ≤ 5)

/-- A request frame of an opcode, or one of no opcode of R457, which step 5 answers. -/
def isRequest (op : Nat) (f : BFrame) : Bool := decide (f.op = op) || !(requestOp f.op || decide (0x81 ≤ f.op ∧ f.op ≤ 0x83))

/-- A WRITE segment reaches its responder (R461). -/
def execWriteSegment (f : BFrame) (s : State) : Res := checked f.wf (s.running && isRequest 1 f) (fun s => s.requestFrame f 0 true) s

/-- A SEND segment reaches its responder (R453). -/
def execSendSegment (f : BFrame) (s : State) : Res := checked f.wf (s.running && isRequest 3 f) (fun s => s.requestFrame f 0 true) s

/-- A READ_REQ reaches its responder (R461). Operands: the bytes that the range holds, as one number, and whether they can
be read. -/
def execReadReq (f : BFrame) (data : Nat) (readOk : Bool) (s : State) : Res :=
  checked f.wf (s.running && isRequest 2 f) (fun s => s.requestFrame f data readOk) s

/-- A FETCH_ADD reaches its responder (R453). Operands: the original value, and whether the AtomicOp completes. -/
def execFetchAddRequest (f : BFrame) (orig : BitVec 64) (ok : Bool) (s : State) : Res :=
  checked f.wf (s.running && isRequest 4 f) (fun s => s.requestFrame f orig.toNat ok) s

/-- A CMP_SWAP reaches its responder (R453). -/
def execCmpSwapRequest (f : BFrame) (orig : BitVec 64) (ok : Bool) (s : State) : Res :=
  checked f.wf (s.running && isRequest 5 f) (fun s => s.requestFrame f orig.toNat ok) s

/-! ### Frames at the requester -/

/-- A READ_RESP reaches its requester (R463). The list holds what local memory holds for segments that the
acknowledgement lets the requester send. -/
def execReadResp (f : BFrame) (data : List Nat) (s : State) : Res := checked f.wf (s.running && decide (f.op = 0x81)) (fun s => s.response f data) s

/-- An ATOMIC_RESP reaches its requester (R463). -/
def execAtomicResp (f : BFrame) (data : List Nat) (s : State) : Res := checked f.wf (s.running && decide (f.op = 0x82)) (fun s => s.response f data) s

/-- An ACK reaches its requester (R463). -/
def execAck (f : BFrame) (data : List Nat) (s : State) : Res :=
  checked f.wf (s.running && decide (f.op = 0x83 ∧ f.syndrome = 0)) (fun s => s.response f data) s

/-- A sequence NAK reaches its requester (R463). -/
def execSequenceNak (f : BFrame) (data : List Nat) (s : State) : Res :=
  checked f.wf (s.running && decide (f.op = 0x83 ∧ f.syndrome = 2)) (fun s => s.response f data) s

/-- An RNR NAK reaches its requester (R468). -/
def execRnrNak (f : BFrame) (s : State) : Res :=
  checked f.wf (s.running && decide (f.op = 0x83 ∧ f.syndrome = 1)) (fun s => s.response f []) s

/-- A NAK with syndrome 3, 4 or 5 reaches its requester (R463). -/
def execNak (f : BFrame) (s : State) : Res :=
  checked f.wf (s.running && decide (f.op = 0x83 ∧ 3 ≤ f.syndrome ∧ f.syndrome ≤ 5)) (fun s => s.response f []) s

/-! ### Timers -/

/-- The retransmit timer expires (R464). -/
def execRetransmitTimeout (q : Fin 131072) (data : List Nat) (s : State) : Res :=
  let x := s.qp q
  guarded (s.running && decide (x.state = .ready ∧ x.unacked ≠ x.sentPsn ∧ x.timerAt + s.setting 0x6001 1 ≤ s.ep.beat) && x.rnrUntil.isNone) (fun s =>
    let x := s.qp q
    if s.setting 0x6001 2 < x.retries + 1 then
      match s.ownerOfPsn q x.unacked with
      | some a => (s.failActive q 6 a).raise 347
      | none => (s.flushQp q 1).raise 347
    else
      let s1 := (s.setQp q (fun y => { y with retries := y.retries + 1, timerAt := s.ep.beat, seqNakPsn := none })).bump 0x6010 3
      (s1.rewind q x.unacked).pumpAll q data) s

/-- The RNR wait ends (R468). -/
def execRnrWaitEnd (q : Fin 131072) (data : List Nat) (s : State) : Res :=
  let x := s.qp q
  guarded (s.running && decide (x.state = .ready) && (match x.rnrUntil with | some b => decide (b ≤ s.ep.beat) | none => false)) (fun s =>
    let p := (s.qp q).rnrPsn
    let s1 := s.setQp q (fun y => { y with rnrUntil := none, rnrs := y.rnrs + 1, timerAt := s.ep.beat })
    (s1.rewind q p).pumpAll q data) s

/-- An accepted segment has gone one beat without being acknowledged (R462). -/
def execAckTimer (q : Fin 131072) (s : State) : Res :=
  let x := s.qp q
  guarded (s.running && decide (x.state = .ready) && (match x.ackOwed with | some b => decide (b + 1 ≤ s.ep.beat) | none => false))
    (fun s => s.sendAck q) s

/-- A period of D:6001.0A beats without a decrease ends (R471). -/
def execRateIncrease (q : Fin 131072) (s : State) : Res :=
  let x := s.qp q
  guarded (s.running && decide (x.state = .ready ∧ x.decreased = true ∧ x.rate < x.cap ∧ x.raisedAt + s.setting 0x6001 0xA ≤ s.ep.beat ∧
      (s.ep.beat - x.lastDecrease) % s.setting 0x6001 0xA = 0)) (fun s =>
    (s.gainCredit q).setQp q (fun y => { y with rate := min y.cap (y.rate + s.setting 0x6001 0xB), raisedAt := s.ep.beat })) s

/-! ### Delivery -/

/-- A message is delivered: the RECV completion of a SEND is written, the count flag raises the counter, and the tag is
matched against the head (R480). -/
def execMessageDelivery (q : Fin 131072) (s : State) : Res :=
  guarded (s.running && !(s.qp q).deliver.isEmpty) (fun s =>
    match (s.qp q).deliver with
    | [] => s
    | m :: r =>
      let s1 := s.setQp q (fun x => { x with deliver := r })
      let s2 := match m.recv with
        | some w => s1.complete1 (s1.qp q).inst (s1.qp q).recvCq {
            op := w.op, qp := q, srcQp := m.srcQp, srcEdge := m.srcEdge, tagNo := m.tagNo, queue := 1, bytes := m.length,
            wrId := w.wrId }
        | none => s1
      let s3 := if m.count then s2.countUp q else s2
      if m.tagNo = 0 then s3 else s3.testTriggers q m.tagNo) s

/-! ### Revocation -/

/-- At the first cell time of the next beat the region becomes Revoking (R474). -/
def execRegionRevoking (r : Fin 1048576) (s : State) : Res :=
  guarded (s.running && decide ((s.region r).state = .asked)) (fun s => s.setRegion r (fun x => { x with state := .revoking })) s

/-- The in-flight count of a Revoking region is zero: it becomes Free, event 2 is written and the command's result is
posted (R478). -/
def execRevocationComplete (r : Fin 1048576) (s : State) : Res :=
  guarded (s.running && decide ((s.region r).state = .revoking) && !s.regionBusy r) (fun s =>
    let x := s.region r
    let s1 := s.freeRegion r
    let s2 := s1.eventRecord x.inst (eventWords 2 0 (r * 4096 + x.generation) 0 0 0 0 0 s.ep.beat)
    s2.endWith (x.cmdSlot / 16) (x.cmdSlot % 16) 0) s

/-! ### Clusters -/

/-- A cluster number written to D:6030.01, or an uncorrectable error outside its contexts (R488): it is retired at the next
beat boundary. An error in a word of a resident context is corrected and counted, or makes its queue pair fatal (R487):
the operand names the queue pair, and whether the error is uncorrectable. -/
def execClusterRetire (c : Fin 8) (context : Option (Fin 131072 × Bool)) (s : State) : Res :=
  match context with
  | none =>
    commandWrite (fun s =>
      (if s.beryl.clusterRetired.look c false then s
        else { s with beryl := { s.beryl with clusterPending := s.beryl.clusterPending.put c true } }).answer 0) s
  | some (q, bad) =>
    guarded (s.running && s.qpExists q && (s.qp q).resident && decide (s.clusterOf q = c)) (fun s =>
      if bad then (s.fatalQp q).raise 353 else (s.bump 0x6010 0x12).raise 352) s

/-- Retire a cluster at a boundary (R488): its resident queue pairs are fatal; the others move to the next cluster. -/
def State.retireCluster (c : Nat) (s : State) : State :=
  let lost := (s.residentIn c).map (·.1)
  let s1 := s.each lost (fun q s => s.fatalQp q)
  let away : Nat × Qp → Nat × Qp := fun e => if lost.contains e.1 then (e.1, { e.2 with resident := false }) else e
  ({ s1 with beryl := { s1.beryl with
    qps := s1.beryl.qps.map away
    clusterRetired := s1.beryl.clusterRetired.put c true
    clusterPending := s1.beryl.clusterPending.del c } }).raise 354

/-- The retirement takes effect (R488). -/
def execClusterRetirement (c : Fin 8) (s : State) : Res :=
  guarded (s.running && s.beryl.clusterPending.look c false) (fun s => s.retireCluster c) s

/-- A queue pair written to D:6040.01 selects what D:6040.02 to D:6040.08 report (R489). -/
def execQpQuery (q : Fin 131072) (s : State) : Res := commandWrite (fun s => (s.setView 0x6040 1 q).answer 0) s

end Sys2Proof.Machine
end

