-- ==== Sys2Proof/Machine/Values.lean ====
section
/-!
DEFINITION. Which values an entry takes (R670, R685 step 6, and the rules of the entries themselves).
-/

namespace Sys2Proof.Machine

/-- A trust anchor may be written (R648): its reserved bits are zero, a valid anchor has a level, only D0000 has a level above
View, and a valid Own anchor of D0000 remains. -/
def State.anchorOk (s : State) (slot v : Nat) : Bool :=
  decide (bits v 9 1 = 0 ∧ (v % 2 = 1 → bits v 11 10 ≠ 0) ∧ ¬ (1 < bits v 11 10 ∧ bits v 23 12 ≠ 0)) &&
    (s.adp.anchors.put slot v).any (fun (a : Nat × Nat) => decide (a.2 % 2 = 1 ∧ bits a.2 11 10 = 3 ∧ bits a.2 23 12 = 0))

/-- The rule of an entry beside its type and range, in the table copy that the write is staged in (R176, R179, R203, R225, R253, R256,
R293, R314, R328, R429, R492, R510, R520, R526, R591, R594, R648). A binding of kind 0 has every field zero. DESIGN CHOICE: log
entry 49. -/
def State.valueRule (s : State) (t : Tbl Nat) (i j v : Nat) : Bool :=
  let p := i - 0x3400
  let role := s.portRoleIn t p
  if 0x3000 ≤ i ∧ i < 0x3028 then decide (j ≠ 0x91 ∨ v ≤ 5)
  else if 0x3400 ≤ i ∧ i < 0x34A0 then
    if j = 2 then
      if role = 3 then decide (8 ≤ v ∧ v ≤ 10) else if role = 0 then true else decide (v ≤ 7)
    else if j = 3 then decide (role ≠ 3) || decide (v ≤ s.portIn t p 2)
    else if j = 6 then decide (v < 64 ∨ v = 255)
    else if j = 0x22 then decide (role = 2)
    else if j = 0x50 then decide (v = 0)
    else if j = 0x30 then decide (role ≠ 1)
    else true
  else if 0x4040 ≤ i ∧ i < 0x40E0 then
    if 1 ≤ j ∧ j ≤ 4 then
      if s.portRoleIn t (i - 0x4040) = 3 then (if j = 4 then decide (v = 0) else decide (64 ≤ v ∧ v ≤ 65535))
      else decide (8 ≤ v ∧ v ≤ 65535 ∧ (j = 4 → v % 2 = 0))
    else true
  else if 0x4100 ≤ i ∧ i < 0x4140 then
    let k := bindKind v
    decide (k ≤ 3 ∧ bits v 15 12 = 0 ∧ bindPort v < 160) &&
      (match k with
        | 1 => decide (bindLd v = 0 ∧ bindEndpoint v = 0)
        | 2 => decide (bindEndpoint v = 0)
        | 3 => decide (bindPort v = 0 ∧ bindLd v = 0)
        | _ => decide (v = 0))
  else if i = 0x4203 then decide (v % 4096 = 0)
  else if i = 0x4204 then decide (v % 4 = 0)
  else if i = 0x4400 ∧ j = 4 then decide (v = 0 ∨ 16 ≤ v)
  else if 0x4420 ≤ i ∧ i < 0x4430 then decide (bits v 7 0 < 160 ∨ bits v 7 0 = 255)
  else if i = 0x1120 then s.anchorOk j v
  else if i = 0x60A0 ∧ j = 3 then decide (bits v 31 30 = 1 ∨ bits v 31 30 = 2)
  else if i = 0x5110 then decide (bits v 55 34 = 0)
  else if 0x7000 ≤ i ∧ i < 0x8000 then
    if j = 1 then decide (i ≠ 0x7000 ∨ v = 1) else if j = 5 then decide (v < 64 ∨ v = 255) else true
  else if i = 0x8020 ∧ j = 1 then decide (v < 2 ^ 45)
  else if i = 0x8060 then decide (v = 0 ∨ (24 ≤ v ∧ v ≤ 46))
  else if 0x8400 ≤ i ∧ i < 0x8800 then
    let n := i - 0x8400
    if j = 6 ∨ j = 7 then (fixedReaction n).isNone && decide ((v = 2 ∨ v = 3) → scopeOf n < 40) else true
  else true

/-- A value is allowed by its entry's type, range and rules (R670). -/
def State.valueOk (s : State) (r : EntryRow) (t : Tbl Nat) (i j v : Nat) : Bool :=
  decide (r.lo ≤ v ∧ v ≤ r.hi ∧ v < 2 ^ r.width) &&
    (match r.ty with
      | .bool => decide (v ≤ 1)
      | .domain => decide (v < 4096) && s.domainValidIn (if r.kind = .staged then t else s.ep.live) v
      | .edge => decide (v < 4096)
      | _ => true) && s.valueRule t i j v

/-- A saved value is kept by the load: it belongs to a setting or a staged entry, and its value is allowed (R678). -/
def State.loadOk (s : State) (raw : Tbl Nat) (k v : Nat) : Bool :=
  match Dict.find (k / 256) (k % 256) with
  | some r => decide (r.kind = .setting ∨ r.kind = .staged) && s.valueOk r raw (k / 256) (k % 256) v
  | none => false

/-- Settings that take effect at the next start (R135, R238, R348, R640, R644; R67 for the reference). -/
def startKeys : List Nat :=
  [key 0x2211 1, key 0x4006 1, key 0x4400 3, key 0x1100 1, key 0x1100 2, key 0x1100 3, key 0x1100 4, key 0xA010 3]

/-- A saved value belongs to a staged entry. -/
def isStaged (k : Nat) : Bool := (Dict.find (k / 256) (k % 256)).any (fun r => decide (r.kind = .staged))

/-- A setting of a fault source (R609). -/
def isSource (k : Nat) : Bool := decide (0x8400 ≤ k / 256 ∧ k / 256 < 0x8800)

/-- Put a saved setting of a fault source in force. -/
def State.loadSource (k v : Nat) (s : State) : State :=
  s.setSource (k / 256 - 0x8400) (fun e => match k % 256 with
    | 4 => { e with n := v }
    | 5 => { e with w := v }
    | 6 => { e with normal := v }
    | 7 => { e with severeR := v }
    | _ => e)

end Sys2Proof.Machine
end

