-- ==== Sys2Proof/Machine/Start.lean ====
section
/-!
DEFINITION. The commands of starts, firmware images, the retained record, the stored dictionary, and resets (chapter 04).
-/

namespace Sys2Proof.Machine

/-- A change of the start unit. -/
def State.setStartUnit (f : StartUnit → StartUnit) (s : State) : State := { s with start := f s.start }

/-- A start waits for a phase, and the die has power; a start that has ended in safe state does not go on (R109, R110, R114). -/
def State.inPhase (s : State) (p : StartPhase) : Bool := s.dieOn && !s.col.safe && decide (s.start.phase = p)

/-! ### The stored dictionary -/

/-- The newest flash copy whose CRC passes (R121). -/
def StartUnit.newest (u : StartUnit) : Option StoredCopy :=
  if u.copyA.crcOk && (!u.copyB.crcOk || decide (u.copyB.generation < u.copyA.generation)) then some u.copyA
  else if u.copyB.crcOk then some u.copyB
  else none

/-- The saved values that this start loads: the retained record's for a warm start, else those of the newest copy (R114, R118,
R121). DEDUCED: log entry 17. -/
def State.loadSet (s : State) : Tbl Nat :=
  if s.start.kind = 1 then s.start.recConfig
  else match s.start.newest with
    | some c => c.entries
    | none => []

/-- A saved value of the load set, or the entry's default. DEDUCED: log entry 19. -/
def State.loaded (s : State) (i j : Nat) : Nat := s.inTables s.loadSet i j

/-! ### Phases of a start -/

/-- The management cores that are not retired (R559). -/
def State.usableCores (s : State) : List Nat := (List.range 4).filter (fun k => !s.irq.coreRetired.look k false)

/-- The core that runs a task set (R559, D:8001). -/
def State.coreOfTask (s : State) (k : Nat) : Nat := match s.irq.tasks.look k 0 with
  | 0 => k
  | c + 1 => c

/-- The next usable core above a core, wrapping (R560). -/
def State.nextCore (s : State) (k : Nat) : Option Nat :=
  ([(k + 1) % 4, (k + 2) % 4, (k + 3) % 4]).find? (fun c => s.usableCores.contains c)

/-- Retire a management core: its task sets move, with their interrupt enables, to the next usable core above it (R559,
R560). -/
def State.coreRetire (k : Nat) (s : State) : State :=
  let s1 : State := { s with irq := { s.irq with coreRetired := s.irq.coreRetired.put k true, corePending := s.irq.corePending.del k } }
  match s1.nextCore k with
  | none => s1
  | some c =>
    let mine := (List.range 4).filter (fun t => decide (s.coreOfTask t = k))
    let ours := s1.irq.enable.filter (fun e => decide (e.1 / 512 = k) && e.2)
    let tasks := mine.foldl (fun t m => Tbl.put t m (c + 1)) s1.irq.tasks
    let moved := ours.foldl (fun t e => Tbl.put (Tbl.put t e.1 false) (c * 512 + e.1 % 512) true) s1.irq.enable
    { s1 with irq := { s1.irq with tasks := tasks, enable := moved, moving := (s1.irq.moving ++ mine).eraseDups } }

/-- COLD_START: the Sprout phase (R109): SLOT_ID is latched, the capacitor is checked, the trip records are read, and the
reference is selected (R65, R67, R94, R95). -/
def execColdStart (slotId : BitVec 4) (capOk refValid : Bool) (s : State) : Res :=
  guarded (s.inPhase .cold) (fun s =>
    let s1 := s.each s.sup.records (fun r s => s.each (List.range r.2) (fun _ s => s.raise r.1))
    let s2 : State := { s1 with
      board := { s1.board with slotId := slotId.toNat, refExternal := refValid && decide (s.loaded 0xA010 3 = 0) }
      sup := { s1.sup with records := [], capOk := capOk }
      start := { s1.start with phase := .bist, state := .bist } }
    if capOk then s2 else s2.raise 119) s

/-- A unit that BIST can retire (R607). -/
inductive BistUnit where
  | attachment (n : Fin 40) | bank (b : Fin 64) | ledger (b : Fin 16) | cluster (c : Fin 8) | core (k : Fin 4)
deriving DecidableEq, Repr

/-- Retire a unit that failed BIST (R110, R607). -/
def State.bistRetire (u : BistUnit) (s : State) : State :=
  (match u with
    | .attachment n => s.retireAttachment n
    | .bank b => { s with core := { s.core with bankState := s.core.bankState.put b 2 } }
    | .ledger b => s.setLedgerBank b 2
    | .cluster c => { s with beryl := { s.beryl with clusterRetired := s.beryl.clusterRetired.put c true } }
    | .core k => s.coreRetire k).raise 130

/-- End a start in safe state after a BIST failure (R110): the cause that the record holds is a free value (log entry 4). -/
def State.bistSafe (s : State) : State :=
  let r := (s.enterSafe 3 0xFFFF).fresh 7
  let c := r.1 % 256
  { r.2 with col := { r.2.col with now := { r.2.col.now with cause := c }, retained := r.2.col.retained.map (fun x => { x with cause := c }) } }

/-- BIST_DONE: the failed units that can be retired are retired; any other failure ends the start in safe state (R110,
R607). A cold start's BIST returns passing units to service (R608). -/
def execBistDone (attachments : List (Fin 40)) (banks : List (Fin 64)) (ledger : List (Fin 16)) (clusters : List (Fin 8))
    (cores : List (Fin 4)) (other : Bool) (s : State) : Res :=
  guarded (s.inPhase .bist) (fun s =>
    let s0 : State := if s.start.kind = 2 then s else { s with
      core := { s.core with bankState := [], attachRetired := [], internalAt := [] }
      home := { s.home with bankState := [] }
      beryl := { s.beryl with clusterRetired := [] }
      irq := { s.irq with coreRetired := [], tasks := [] } }
    let units := attachments.map BistUnit.attachment ++ banks.map BistUnit.bank ++ ledger.map BistUnit.ledger ++
      clusters.map BistUnit.cluster ++ cores.map BistUnit.core
    let s1 := (s0.each units State.bistRetire)
    let s2 : State := { s1 with irq := { s1.irq with moving := [] } }
    if other then s2.bistSafe
    else if s2.usableCores.isEmpty then s2.enterSafe 4 0xFFFF
    else (s2.setStartUnit (fun u => { u with phase := .calibration })).setStart .calibration) s

/-- CALIBRATION_DONE: lanes that fail calibration are excluded with cause 9 until the next cold start, and those that failed an
earlier one and pass are free again (R146); the calibration part of the retained record is written (R117). -/
def execCalibrationDone (failed : List (Fin 328)) (s : State) : Res :=
  guarded (s.inPhase .calibration) (fun s =>
    let passed := (s.lanes.filter (fun e => decide (e.2.failCause = 9) && !failed.any (fun f => decide (f.val = e.1)))).map (·.1)
    let s0 := s.each passed (fun l s => s.setLane l (fun x => { x with failCause := 0, state := if x.excludeCmd then 6 else 0 }))
    let s1 := s0.each failed (fun l s =>
      (s.setLane l (fun x => { x with state := 6, failCause := 9, failCount := x.failCount + 1 })).raise (136 + l.val / 8))
    let calib := (List.range 328).map (fun l => (l, if failed.any (fun f => decide (f.val = l)) then 1 else 0))
    (s1.setStartUnit (fun u => { u with recCalib := calib, phase := .firmware })).setStart .firmware) s

/-- An image is valid: its signature verifies and its security version suffices (R122). DESIGN CHOICE: log entry 5. -/
def Image.verified (i : Image) : Bool := Config.imageSigned i.blocks && decide (Config.minSecurity ≤ Config.imageSecurity i.blocks)

/-- What verification records of an image (R122, R135). -/
def Image.checked (i : Image) : Image :=
  if i.verified then
    { i with valid := true, version := Config.imageVersion i.blocks }
  else { i with valid := false, version := 0 }

/-- Enter limited mode, on the golden image (R124, R127): no data path is released, and every PERST_N is undriven. A golden image
that is not valid is never executed (R122): the start ends without an image. DEDUCED: log entry 19. DESIGN CHOICE: log
entry 49. -/
def State.enterLimited (s : State) : State :=
  if !s.start.golden.valid then s.setStartUnit (fun u => { u with running := 3, phase := .none, watchdog := false })
  else
    let s1 := ((s.setStartUnit (fun u => { u with running := 2, phase := .none, watchdog := true })).raise 128).setStart .limited
    { s1 with groups := s1.groups.map (fun e => (e.1, { e.2 with driven := none })) }

/-- FIRMWARE_LOAD: a slot is chosen, verified and loaded, and the watchdog is armed; limited mode where no slot may run
(R123, R124). -/
def execFirmwareLoad (s : State) : Res :=
  guarded (s.inPhase .firmware) (fun s =>
    let s1 := s.setStartUnit (fun u => { u with slotA := u.slotA.checked, slotB := u.slotB.checked, golden := u.golden.checked, state := .firmware })
    let ok (k : Nat) : Bool := if k = 0 then s1.start.slotA.valid else s1.start.slotB.valid
    let first := if s.start.failed = 0 then s.loaded 0x2220 1 % 2 else 1 - s.start.lastFailedSlot
    if s.start.failed = 3 then s1.enterLimited
    else
      let s2 := if ok first then s1 else s1.raise 125
      if !ok first && !ok (1 - first) then s2.failedStart.enterLimited
      else
        (s2.setStartUnit (fun u => { u with running := if ok first then first else 1 - first, watchdog := true, phase := .configuration })).setStart
          .configuration) s

/-- Build epoch 0 from a set of saved values (R678): settings in force, and the staged values checked as one commit, or left
in the shadow behind the defaults where they fail. -/
def State.buildTables (raw : Tbl Nat) (s : State) : State :=
  let good := raw.filter (fun e => s.loadOk raw e.1 e.2)
  let settings := good.filter (fun e => !isStaged e.1 && !isSource e.1)
  let tables := good.filter (fun e => isStaged e.1)
  let sources := good.filter (fun e => isSource e.1)
  let s1 := ({ s with settings := settings, settingsNext := [], settingsStart := [], ep := {} }).each
    sources (fun (e : Nat × Nat) s => s.loadSource e.1 e.2)
  let s2 := s1.each (List.range 64) (fun v s =>
    (s.setHier v (fun h => { h with bridgeCount := s.setting 0x40F7 v })).setFunc v (fun f => { f with apertureLog2 := s.setting 0x8060 v }))
  let cs := s2.checkEntries tables
  if cs.all (fun c => decide (c.2 = 0)) then
    (({ s2 with ep := { s2.ep with live := tables, shadow := tables } }).commitDevices []).commitTenants []
  else ({ s2 with ep := { s2.ep with shadow := tables, commit := .rejected } }).writeChecks cs

/-- CONFIGURATION_LOAD: the stored dictionary or the retained record becomes epoch 0, and the retained record is written
(R109, R114, R117, R121, R678). -/
def execConfigurationLoad (s : State) : Res :=
  guarded (s.inPhase .configuration) (fun s =>
    let cold := decide (s.start.kind ≠ 1)
    let bad := (if s.start.copyA.crcOk then 0 else 1) + (if s.start.copyB.crcOk then 0 else 1)
    let src := if !cold then 2 else if bad = 2 then 3 else 1
    let s1 := (s.buildTables s.loadSet).setStartUnit (fun u => { u with source := src, phase := .release })
    let s2 := if cold && decide (0 < bad) then s1.raise 126 else s1
    if cold then
      let cfg := s2.savedConfig
      s2.setStartUnit (fun u => { u with recConfig := cfg, recValid := decide (Config.recordSize cfg ≤ 176 * 1024), recWriting := false })
    else s2) s

/-- DATA_PATH_RELEASE: the beat counter starts from zero, the start is Ready, and links begin to train (R109, R112, R113); a
group in downstream role is checked and driven, or keeps the level it was driven to (R115). A module of a pair starts in
Holding (R633). -/
def execDataPathRelease (ms : BitVec 32) (s : State) : Res :=
  guarded (s.inPhase .release) (fun s =>
    let s1 : State := { s with
      ep := { s.ep with beat := 0, epoch := 0, superseded := [], inflight := [] }
      start := { s.start with phase := .none, readyMs := ms.toNat }
      sup := { s.sup with state := .active } }
    let s2 := s1.setStart .ready
    let s3 := if s2.setting 0x9000 1 = 1 then s2.setPair .holding else s2
    let s4 := s3.each ((List.range 40).filter (fun n => decide (s3.roleIn s3.ep.live n = 2))) (fun n s =>
      s.setGroup n (fun g => if g.driven.isNone then { g with checkDue := some 8 } else { g with configSteps := 2 }))
    (s4.commitBind []).each (List.range 161) State.startPort) s

/-- WARM_START: the retained record is checked (R114, R118, R572): valid, the calibration is restored; invalid, the cold
path follows. The tables and settings are cleared. One copy of the start state may have been repaired from the other two. -/
def execWarmStart (recordOk sramError repaired : Bool) (s : State) : Res :=
  guarded (s.inPhase .warm && !s.start.recWriting) (fun s =>
    let good := s.start.recValid && recordOk && !sramError
    let s0 := if sramError || repaired then s.raise 379 else s
    let s0 := if repaired then s0.bump 0x8021 3 else s0
    let s1 : State := { s0 with ep := {}, settings := [], settingsNext := [], settingsStart := [] }
    if good then (s1.setStartUnit (fun u => { u with phase := .firmware })).setStart .firmware
    else ((s1.setStartUnit (fun u => { u with kind := 2, recValid := false, phase := .bist })).raise 124).setStart .bist) s

/-- READY_TIMEOUT: firmware has not reached Ready 2 s after t0: the start ends, and counts as failed (R126). DEDUCED: log
entry 19. -/
def execReadyTimeout (s : State) : Res :=
  guarded (s.dieOn && s.starting) (fun s => s.failedStart.setStartUnit (fun u => { u with phase := .none })) s

/-- START_CONFIRMED: Ready has been held for 468,750,000 beats (R125). -/
def execStartConfirmed (s : State) : Res :=
  guarded (s.running && decide (s.start.state = .ready ∧ 468750000 ≤ s.ep.beat)) (fun s =>
    let s1 := (s.setStartUnit (fun u => { u with failed := 0 })).setStart .confirmed
    if s.start.running < 2 ∧ s.setting 0x2220 1 ≠ s.start.running then
      { s1 with settingsNext := s1.settingsNext.put (key 0x2220 1) s.start.running, start := { s1.start with recMark := true } }
    else s1) s

/-! ### Requests for starts -/

/-- A request for a start from the module's clients (R107, R129, R127): refused as busy in safe state and during a start. In
limited mode it clears the failed-start count. -/
def State.startAllowed (s : State) : Bool := s.dieOn && !s.col.safe && !s.starting

/-- Whether an ADP write of a start request is answered now, in limited mode too (R127, R130, R600). -/
def State.startAnswered (s : State) : Bool := s.adpUp

/-- WARM_START_REQUEST: 1 written to D:2210.01 (R106, R107, R129). -/
def execWarmStartRequest (s : State) : Res :=
  guarded s.startAnswered (fun s =>
    if !s.startAllowed then s.answer 1
    else
      let s1 := if s.start.state = .limited then s.setStartUnit (fun u => { u with failed := 0 }) else s
      (s1.warmStart 3).answer 0) s

/-- COLD_START_REQUEST: 2 written to D:2210.01, accepted in safe state too (R105, R107, R129). -/
def execColdStartRequest (s : State) : Res :=
  guarded s.startAnswered (fun s =>
    if s.starting then s.answer 1
    else
      let s1 := if s.start.state = .limited then s.setStartUnit (fun u => { u with failed := 0 }) else s
      (s1.coldStart 2).answer 0) s

/-- A watchdog expiry: a failed start before confirmation, if it has not been counted, and a warm start (R106, R126, R129). The
events are raised in the module that starts. -/
def State.watchdogExpire (s : State) : State :=
  let first := decide (s.start.state ≠ .confirmed) && !s.start.counted
  let s1 := s.setStartUnit (fun u => { u with expiries := u.expiries + 1 })
  let s2 := s1.warmStart 4
  let s3 := if first then s2.setStartUnit (fun u => { u with failed := min (u.failed + 1) 3, lastFailedSlot := s.start.running % 2 }) else s2
  (if first then s3.raise 127 else s3).raise 129

/-- WATCHDOG_EXPIRY: the armed firmware watchdog expires; it is stopped in safe state (R107, R126). -/
def execWatchdogExpiry (s : State) : Res := guarded (s.dieOn && s.start.watchdog && !s.col.safe) State.watchdogExpire s

/-! ### The retained record and the stored dictionary -/

/-- RETAINED_RECORD_WRITTEN: firmware has rewritten the configuration part and the CRC (R117). -/
def execRetainedRecordWritten (s : State) : Res :=
  guarded (s.dieOn && s.start.recWriting) (fun s =>
    let cfg := s.savedConfig
    s.setStartUnit (fun u => { u with recConfig := cfg, recValid := decide (Config.recordSize cfg ≤ 176 * 1024), recWriting := false })) s

/-- STORE_REQUEST: 1 written to D:2230.01 begins a save (R120); one save runs at a time, and a write during it is answered busy.
DESIGN CHOICE: log entry 49. -/
def execStoreRequest (s : State) : Res :=
  commandWrite (fun s =>
    if s.start.storeStatus = 1 then s.answer 1 else (s.setStartUnit (fun u => { u with storeStatus := 1 })).answer 0) s

/-- STORE_SAVE_DONE: the save ends: the older copy, or one that fails its CRC, holds the saved values under the next generation
number, or its CRC fails (R120, R121, R677). A copy that fails its CRC counts as the older one, copy A first, and only copies
that pass it count for the generation number. DESIGN CHOICE: log entry 49. -/
def execStoreSaveDone (ok : Bool) (s : State) : Res :=
  guarded (s.dieOn && decide (s.start.storeStatus = 1)) (fun s =>
    let u := s.start
    let gen := max (if u.copyA.crcOk then u.copyA.generation else 0) (if u.copyB.crcOk then u.copyB.generation else 0) + 1
    let c : StoredCopy := { generation := gen % 2 ^ 32, crcOk := ok, entries := s.savedConfig }
    let intoA := !u.copyA.crcOk || (u.copyB.crcOk && decide (u.copyA.generation < u.copyB.generation))
    s.setStartUnit (fun u => { u with
      storeStatus := if ok then 2 else 3, copyA := if intoA then c else u.copyA, copyB := if intoA then u.copyB else c })) s

/-! ### Images -/

/-- Change the slot that is not running (R128); from the golden image, the slot of D:2220.01. DESIGN CHOICE: log entry 49. -/
def State.setIdleImage (f : Image → Image) (s : State) : State :=
  let k := if s.start.running = 0 then 1 else if s.start.running = 1 then 0 else s.setting 0x2220 1
  s.setStartUnit (fun u => if k = 0 then { u with slotA := f u.slotA } else { u with slotB := f u.slotB })

/-- Whether image updates are accepted: whenever requests are performed, and in limited mode (R127). -/
def State.updatesOpen (s : State) : Bool := s.adpUp && ((s.running && !s.starting) || decide (s.start.state = .limited)) && !s.col.safe

/-- IMAGE_BLOCK_WRITE: a 1 KiB block written to D:2221.02 is stored at the offset, which advances; a block aimed at the
running slot is refused as busy (R128). -/
def execImageBlockWrite (slot : Fin 2) (block : BitVec 8192) (s : State) : Res :=
  guarded s.adpUp (fun s =>
    if !s.updatesOpen || decide (s.start.running = slot.val) then s.answer 1
    else
      let k := s.start.blockOffset
      let f (i : Image) : Image := { i with blocks := i.blocks.put k block.toNat, valid := false }
      (s.setStartUnit (fun u =>
        let u1 := if slot.val = 0 then { u with slotA := f u.slotA } else { u with slotB := f u.slotB }
        { u1 with blockOffset := (k + 1) % 2 ^ 32 })).answer 0) s

/-- IMAGE_VERIFY: 1 written to D:2221.03 verifies the slot that is not running (R128). DESIGN CHOICE: log entry 5. -/
def execImageVerify (slot : Fin 2) (s : State) : Res :=
  guarded s.adpUp (fun s =>
    if !s.updatesOpen || decide (s.start.running = slot.val) then s.answer 1
    else
      let i := if slot.val = 0 then s.start.slotA else s.start.slotB
      (s.setStartUnit (fun u =>
        let u1 := if slot.val = 0 then { u with slotA := i.checked } else { u with slotB := i.checked }
        { u1 with verifyFailed := !i.verified })).answer 0) s

/-! ### Resets -/

/-- Assert fundamental reset on a downstream group: Gnn_PERST_N is driven low under R52, on both groups of an x16 port, and
the reset of its slots holds their links down (R50, R131, R134). DEDUCED: log entry 22. -/
def State.groupReset (n : Nat) (s : State) : State :=
  let r := s.ruling s.ep.live n
  let both := if s.layoutIn s.ep.live r = 5 then [r, r + 1] else [n]
  let low (k : Nat) (s : State) : State :=
    ({ s with start := { s.start with groupPerst := s.start.groupPerst.put k true } }).setGroup k (fun g =>
      { g with driven := g.driven.map (fun _ => false), holdUntil := s.ep.beat + 781250 })
  (s.each both low).each ((s.portsOfGroup n)) State.assertSlot

/-- GROUP_PERST: 1 written to D:2240.nn (R134); refused on a group of any other role. DEDUCED: log entry 22. -/
def execGroupPerst (n : Fin 40) (s : State) : Res :=
  commandWrite (fun s => if s.roleIn s.ep.live n = 2 then (s.groupReset n).answer 0 else s.answer 2) s

/-- HOT_RESET: a hot reset received on a host's upstream link resets that hierarchy only, and the link retrains (R131). -/
def execHotReset (v : Fin 64) (s : State) : Res :=
  guarded (s.running && (s.portOfVh v).any (fun p => s.linkActive p)) (fun s =>
    match s.portOfVh v with
    | none => s
    | some p =>
      let s1 := (s.portDownFree p).setPort p (fun q => { q with downOwed := false })
      (s1.hierReset v).startPort p) s

/-- SECONDARY_BUS_RESET: SBR set on a virtual downstream bridge resets the bound target (R131). -/
def execSecondaryBusReset (v : Fin 64) (b : Fin 256) (s : State) : Res :=
  guarded (s.running && s.bridgeInUse v b) (fun s =>
    let s1 := s.setBridge v b (fun x => { x with busReset := true })
    (s1.targetReset v b (s.bindingIn s.ep.live v b)).setBridge v b (fun x => { x with busReset := false })) s

/-- FUNCTION_LEVEL_RESET: FLR of a management function (R131). -/
def execFunctionLevelReset (v : Fin 64) (s : State) : Res := guarded s.running (State.functionReset v) s

end Sys2Proof.Machine
end

