-- ==== Sys2Proof/Machine/Control.lean ====
section
/-!
DEFINITION. The commands of embedded control (chapter 16): management cores, the interrupt controller's registers, and
the Sprout domain's periodic work.
-/

namespace Sys2Proof.Machine

/-! ### Cores (R558 to R563) -/

/-- Cores that are usable and stay so at the next boundary (R560, R561). -/
def State.stayingCores (s : State) : List Nat := s.usableCores.filter (fun k => !s.irq.corePending.look k false)

/-- A core is to be retired at the next boundary (R560). -/
def State.markCore (k : Nat) (s : State) : State := { s with irq := { s.irq with corePending := s.irq.corePending.put k true } }

/-- A core fails: it is retired at the next boundary; with the last usable core, the module enters safe state (R560, R561). -/
def State.coreFail (k : Nat) (s : State) : State :=
  if s.stayingCores.all (fun c => decide (c = k)) then (s.markCore k).enterSafe 4 0xFFFF else s.markCore k

/-- The retirement of a core takes effect at a boundary (R560). -/
def State.coreRetired (k : Nat) (s : State) : State := (s.coreRetire k).raise 376

/-- CORE_RETIRE: a core's number written to D:8000.03 (R560, R561): refused as busy when no usable core would remain. -/
def execCoreRetire (value : BitVec 8) (s : State) : Res :=
  commandWrite (fun s =>
    if 3 < value.toNat then s.answer 2
    else if s.stayingCores.all (fun c => decide (c = value.toNat)) then s.answer 1
    else if !s.usableCores.contains value.toNat then s.answer 0
    else (s.markCore value.toNat).answer 0) s

/-- CORE_CHECKIN_TIMEOUT: a usable core has not checked in for 7,813 beats (R560, R561). -/
def execCoreCheckinTimeout (k : Fin 4) (s : State) : Res :=
  guarded (s.dieOn && s.stayingCores.contains k.val) (State.coreFail k.val) s

/-- TASK_SET_MOVE_DONE: a task set has moved to its new core (R560). -/
def execTaskSetMoveDone (set : Fin 4) (s : State) : Res :=
  guarded (s.dieOn && s.irq.moving.contains set.val) (fun s =>
    { s with irq := { s.irq with moving := s.irq.moving.filter (fun k => decide (k ≠ set.val)) } }) s

/-- MGMT_SRAM_ERROR: an error in management SRAM (R560, R563): corrected and counted; in shared code or data, as a watchdog
expiry, which safe state does not act on; in local memory, a failure of its core. -/
def execMgmtSramError (e : SramError) (s : State) : Res :=
  guarded s.dieOn (fun s => match e with
    | .corrected => (s.bump 0x8002 1).raise 377
    | .shared => if s.col.safe then s.raise 378 else s.watchdogExpire.raise 378
    | .coreLocal k => if s.stayingCores.contains k.val then s.coreFail k.val else s) s

/-! ### The interrupt controller (R564 to R569) -/

/-- The highest-numbered source offered to a core, or 0 (R566). -/
def State.claimable (s : State) (k : Nat) : Nat :=
  (s.irq.pending.map (·.1)).foldl (fun m n => if s.offered k n && decide (m < n) then n else m) 0

/-- CLAIM: a read of claim[k] answers the highest source offered to the core, clears its pending bit and puts it in service,
or answers 0 (R566, R567). DESIGN CHOICE: log entry 48. -/
def execClaim (k : Fin 4) (s : State) : Res :=
  guarded (s.dieOn && s.usableCores.contains k.val) (fun s =>
    let n := s.claimable k.val
    if n = 0 then s.emit (.value 0)
    else
      let s1 := ({ s with irq := { s.irq with pending := s.irq.pending.del n, inService := s.irq.inService.put n (k.val + 1) } }).bump 0x8010 2
      s1.emit (.value n)) s

/-- Items of a fault notification: the sources of a fault group whose sticky bits are set, with their class (R661). -/
def State.faultItems (s : State) (g : Nat) : List Nat :=
  ([4 * g, 4 * g + 1, 4 * g + 2, 4 * g + 3].filter (fun n => (s.source n).sticky)).map
    (fun n => n + (if (s.source n).severe then 2 ^ 31 else 0))

/-- COMPLETE: a write of a source to complete[k] by the core that claimed it ends its service (R566). A fault group that has
been serviced is notified (R591, R661). DEDUCED: log entry 43. DESIGN CHOICE: log entry 48. -/
def execComplete (k : Fin 4) (value : BitVec 32) (s : State) : Res :=
  guarded (s.dieOn && s.usableCores.contains k.val && decide (s.irq.inService.look (value.toNat % 512) 0 = k.val + 1)) (fun s =>
    let n := value.toNat % 512
    let s1 : State := { s with irq := { s.irq with inService := s.irq.inService.del n } }
    if 256 ≤ n then s1.notify 0 0 (s1.faultItems (n - 256)) else s1) s

/-- SOFT_RAISE: a write of k, 0 to 3, to soft_raise sets the pending bit of source 8 + k (R569). DEDUCED: log entry 43.
DESIGN CHOICE: log entry 48. -/
def execSoftRaise (value : BitVec 32) (s : State) : Res :=
  guarded (s.dieOn && decide (value.toNat < 4)) (State.interrupt (8 + value.toNat)) s

/-- FIRMWARE_TICK: every 781 beats interrupt source 1 is pending (R564). DEDUCED: log entry 28. DESIGN CHOICE: log entry 48. -/
def execFirmwareTick (s : State) : Res := guarded (s.dieOn && decide (s.ep.beat % 781 = 0)) (State.interrupt 1) s

/-! ### The Sprout domain (R570 to R574) -/

/-- SUPERVISOR_READ: once per millisecond Sprout reads the supervisor, which gives the feeds, the input current and power, and
the energy of that millisecond; the tenth consecutive failure sets fault source 380 and the last good values stay (R573).
DEDUCED: log entry 21. -/
def execSupervisorRead (ok : Bool) (aMv bMv ma mw : BitVec 32) (s : State) : Res :=
  guarded (decide (s.sup.gate = .on)) (fun s =>
    if ok then { s with
      sup := { s.sup with
        feedA := { s.sup.feedA with mv := aMv.toNat }
        feedB := { s.sup.feedB with mv := bMv.toNat }
        inputMa := ma.toNat, inputMw := mw.toNat, energyUj := s.sup.energyUj + mw.toNat }
      sprout := { s.sprout with readFails := 0 } }
    else
      let s1 : State := { s with sprout := { s.sprout with readFails := min 10 (s.sprout.readFails + 1), readErrors := s.sprout.readErrors + 1 } }
      if s.sprout.readFails = 9 then s1.raise 380 else s1) s

/-- The 10 ms of Sprout's check-in start again (R574). -/
def State.sproutSeen (s : State) : State := { s with irq := { s.irq with sproutAt := s.ep.beat } }

/-- SPROUT_CHECKIN: Sprout checks in with the cores through interrupt source 7 (R574). -/
def execSproutCheckin (s : State) : Res := guarded s.dieOn (fun s => s.sproutSeen.interrupt 7) s

/-- SPROUT_CHECKIN_MISSED: the cores have seen no check-in for 10 ms (R574), and the next 10 ms count from the report. DEDUCED:
log entry 43. -/
def execSproutCheckinMissed (s : State) : Res :=
  guarded (s.dieOn && decide (s.irq.sproutAt + 78125 ≤ s.ep.beat)) (fun s => s.sproutSeen.raise 381) s

end Sys2Proof.Machine
end

