-- ==== Sys2Proof/Machine/Lanes.lean ====
section
/-!
DEFINITION. The commands of the serial lanes (chapter 05): symbols, training blocks, stage bounds, lane failures and
narrowing, direction states and eye scans.
-/

namespace Sys2Proof.Machine

/-! ### Symbols (R139, R140) -/

/-- Gray symbol of a pair of bits, the first in time first (R139). -/
def gray : Bool → Bool → Fin 4
  | false, false => 0
  | false, true => 1
  | true, true => 2
  | true, false => 3

/-- Amplitude of a level, in thirds of the full swing: -1, -1/3, 1/3 and 1 (R139, R140). -/
def amplitude (l : Fin 4) : Int := 2 * l.val - 3

/-- The levels that a precoding transmitter sends for a run of Gray symbols, after level p (R140). -/
def precode (p : Fin 4) : List (Fin 4) → List (Fin 4)
  | [] => []
  | g :: r => (g - p) :: precode (g - p) r

/-- The Gray symbols that a receiver recovers from a run of levels, after level p (R140). DEDUCED: log entry 23. -/
def decodeLevels (p : Fin 4) : List (Fin 4) → List (Fin 4)
  | [] => []
  | l :: r => (l + p) :: decodeLevels l r

/-- Bits of a run of Gray symbols (R139). -/
def grayBits : List (Fin 4) → List Bool
  | [] => []
  | g :: r => (2 ≤ g.val : Bool) :: (g = 1 ∨ g = 2 : Bool) :: grayBits r

/-- Gray symbols of a run of bits (R139). -/
def graySymbols : List Bool → List (Fin 4)
  | a :: b :: r => gray a b :: graySymbols r
  | _ => []

/-- A bit at an outer level: 1 at level 3, 0 at level 0 (R149). -/
def outer (b : Bool) : Fin 4 := if b then 3 else 0

/-- Modes whose symbols are PAM4 (R137). -/
def pam4 (mode : Nat) : Bool := decide (6 ≤ mode ∧ mode ≤ 11)

/-! ### PRBS31 (R149) -/

/-- The next 31 bits of PRBS31, the newest lowest: x^31 + x^28 + 1 (R149). -/
def prbsNext (x : Nat) : Nat := (2 * x + (if x.testBit 30 != x.testBit 27 then 1 else 0)) % 2 ^ 31

/-- The next n bits of PRBS31 after the last 31 (R149). -/
def prbsRun : Nat → Nat → List Bool
  | 0, _ => []
  | n + 1, x => (prbsNext x).testBit 0 :: prbsRun n (prbsNext x)

/-- The last 31 bits of PRBS31 after n more (R149). -/
def prbsAfter : Nat → Nat → Nat
  | 0, x => x
  | n + 1, x => prbsAfter n (prbsNext x)

/-- Compare received bits with the expected run: the last 31 bits expected, and the errors counted (R153). -/
def prbsCheck : Nat → Nat → List Bool → Nat × Nat
  | x, e, [] => (x, e)
  | x, e, b :: r => prbsCheck (prbsNext x) (if (prbsNext x).testBit 0 = b then e else e + 1) r

/-- The error measurement of stage 4 over the PRBS part of a block (R142, R153): its levels are decoded from p(-1) = 0. The first
31 bits of a measurement set the expected run; one of at least 2^28 bits with a ratio below 10^-6 meets the target, else the
next begins. DEDUCED: log entry 23. -/
def Lane.measure (x : Lane) (levels : List (Fin 4)) : Lane :=
  let bs := grayBits (decodeLevels 0 levels)
  let fresh := decide (x.prbsCount = 0)
  let from_ := if fresh then (bs.take 31).foldl (fun n b => 2 * n + b.toNat) 0 else x.prbsRx
  let rest := if fresh then bs.drop 31 else bs
  let r := prbsCheck from_ x.prbsErrors rest
  let n := x.prbsCount + rest.length
  let y := { x with prbsRx := r.1, lastRx := levels.getLastD 0 }
  if n < 2 ^ 28 then { y with prbsCount := n, prbsErrors := r.2 }
  else { y with prbsCount := 0, prbsErrors := 0, errOk := x.errOk || decide (r.2 * 10 ^ 6 < n) }

/-! ### Training control words (R150) -/

/-- CRC-16 over the top 48 bits of a training control word (R150). -/
def trainingCrc (w : Nat) : Nat := crc16 48 (w >>> 16)

/-- The fields of a training control word (R150). -/
structure TrainWord where
  stage : Nat
  laneNumber : Nat
  width : Nat
  targetRate : Nat
  request : Nat
  preset : Nat
  response : Nat
  ready : Bool
  excluded : Bool
  crcOk : Bool
deriving DecidableEq, Repr

/-- Decode a training control word by the bit ranges of R150. -/
def trainWord (w : Nat) : TrainWord where
  stage := bits w 63 60
  laneNumber := bits w 59 56
  width := bits w 55 52
  targetRate := bits w 51 48
  request := bits w 47 44
  preset := bits w 43 40
  response := bits w 39 36
  ready := bit w 35
  excluded := bit w 34
  crcOk := decide (trainingCrc w = bits w 15 0)

/-- The trunk and Garnet transmitter presets: c-2, c-1, c+1 and c0 (R143). -/
def presetOf (n : Nat) : Option (Int × Int × Int × Int) :=
  ([(0, 0, 0, 64), (0, -4, 0, 60), (0, -8, 0, 56), (0, -4, -8, 52), (0, -8, -8, 48), (-2, -8, -4, 50), (-2, -12, -8, 42),
    (-4, -12, -12, 36)])[n]?

/-- The limits of the coefficients of a trunk or Garnet transmitter (R143). -/
def coeffsOk (a b c d : Int) : Bool :=
  decide (-8 ≤ a ∧ a ≤ 0 ∧ -16 ≤ b ∧ b ≤ 0 ∧ -20 ≤ c ∧ c ≤ 0 ∧ 32 ≤ d)

/-- Set a transmitter's coefficients where they are within the limits, and answer: 1 applied, 2 refused at limit (R150). -/
def Lane.tune (x : Lane) (a b c d : Int) : Lane :=
  if coeffsOk a b c d then { x with cm2 := a, cm1 := b, cp1 := c, c0 := d, response := 1 } else { x with response := 2 }

/-- Serve the partner's request (R150): a preset, or one step of a coefficient, which c0 takes up so that the magnitudes still
sum to 64. A request is served once, when it appears; the answer stays while the request does. -/
def Lane.serve (x : Lane) (w : TrainWord) : Lane :=
  if w.request = (trainWord x.partner).request ∧ (w.request ≠ 1 ∨ w.preset = (trainWord x.partner).preset) then
    if w.request = 0 then { x with response := 0 } else x
  else match w.request with
    | 1 => match presetOf w.preset with
      | some (a, b, c, d) => x.tune a b c d
      | none => { x with response := 2 }
    | 2 => x.tune x.cm2 (x.cm1 + 1) x.cp1 (x.c0 + 1)
    | 3 => x.tune x.cm2 (x.cm1 - 1) x.cp1 (x.c0 - 1)
    | 4 => x.tune x.cm2 x.cm1 (x.cp1 + 1) (x.c0 + 1)
    | 5 => x.tune x.cm2 x.cm1 (x.cp1 - 1) (x.c0 - 1)
    | 6 => x.tune (x.cm2 + 1) x.cm1 x.cp1 (x.c0 + 1)
    | 7 => x.tune (x.cm2 - 1) x.cm1 x.cp1 (x.c0 - 1)
    | 8 => { x with response := 1 }
    | _ => { x with response := 0 }

/-- The receiver's own request: a new one only after the answer to the previous one was seen in two consecutive blocks
(R150). -/
def Lane.ask (x : Lane) (w : TrainWord) (r preset : Nat) : Lane :=
  let seen := if w.response = 0 then 0 else min 2 (x.answered + 1)
  if x.request = 0 ∨ seen = 2 then { x with request := r, reqPreset := if r = 1 then preset else 0, answered := 0 }
  else { x with answered := seen }

/-! ### Moving through the stages (R147, R151, R153, R688) -/

/-- Lanes of a port that take part in its training: not excluded and not held (R151). -/
def State.trainees (s : State) (p : Nat) : List Nat :=
  (s.lanesOf p).filter (fun l => decide (1 ≤ (s.lane l).state ∧ (s.lane l).state ≤ 4))

/-- A lane is ready to leave its stage (R151). -/
def Lane.leaves (x : Lane) : Bool := decide (x.goodWords = 8) && x.ready

/-- A port moves to a stage (R147, R151): a new stage counts control words anew. DEDUCED: log entry 23. -/
def State.toStage (p n : Nat) (s : State) : State :=
  (s.setPort p (fun q => { q with stage := n, state := 1, stageSince := s.ep.beat })).each (s.trainees p) (fun l s =>
    s.setLane l (fun x => { x with state := n, goodWords := 0, ready := false }))

/-- A port ends training as failed (R153, R187, R688, R204); a port that was up before goes down as after its retrain limit
(R164). -/
def State.failTraining (p : Nat) (s : State) : State :=
  if (s.port p).retrains then s.downNow p 3
  else
    let s1 := s.setPort p (fun q => { q with state := 3, stage := 0, downCause := 7, firstDetect := none })
    let s2 := s1.each (s.lanesOf p) (fun l s => s.setLane l (fun x =>
      { x with state := if x.state = 6 then 6 else 0, tx := .off, rx := .off, ready := false, goodWords := 0 }))
    if p < 160 then (s2.raise (256 + p / 4)).interrupt (200 + p / 4) else s2

/-- The lowest rate that the partner proposes in its last good control words of stage 3, as a mode code; 0 for none (R688).
DEDUCED: log entry 23. -/
def State.partnerRate (s : State) (p : Nat) : Nat :=
  ((s.trainees p).map (fun l =>
    let r := (s.lane l).proposal
    if r = 0 then 0 else 7 + r)).foldl min 10

/-- The lanes of a port are reversed where the partner numbers them downward (R185). DEDUCED: log entry 23. -/
def State.numbersDown (s : State) (p : Nat) : Bool :=
  let n (l : Nat) : Nat := (trainWord (s.lane l).partner).laneNumber
  match s.trainees p with
  | [] => (s.port p).reversed
  | [_] => (s.port p).reversed
  | l :: r => decide (n (r.getLastD l) < n l)

/-- Stage 4 begins at the lower of both proposals, unless that is below the port's own limit (R154, R688); trunk and Garnet
lanes then precode (R141). DEDUCED: log entry 23. -/
def State.toTarget (p : Nat) (s : State) : State :=
  let r := if p = 160 then 11 else min (s.port p).targetRate (s.partnerRate p)
  if p ≠ 160 ∧ r < s.portIn s.ep.live p 3 then s.failTraining p
  else
    let s1 := (s.setPort p (fun q => { q with targetRate := r, reversed := s.numbersDown p })).toStage p 4
    s1.each (s1.trainees p) (fun l s => s.setLane l (fun x => { x with
      mode := r, precodeTx := true, precodeRx := true, errOk := false, prbsCount := 0, prbsErrors := 0 }))

/-- The port moves on once every lane that is not excluded is ready (R151). Stage 1 ends by R152 alone; a link comes up from
stage 4, or from stage 3 in a narrowing, by PORT_LINK_UP. -/
def State.stageAdvance (p : Nat) (s : State) : State :=
  let q := s.port p
  let l := s.trainees p
  if l.isEmpty || !l.all (fun l => (s.lane l).leaves) then s
  else if q.stage = 2 then s.toStage p 3
  else if q.stage = 3 ∧ q.narrowSince.isNone then s.toTarget p
  else s

/-- After lanes were excluded in training, the port goes on with its run, or ends training as failed (R153, R161). Where a
held lane returns, the stage starts again. DEDUCED: log entry 23. -/
def State.settle (p : Nat) (s : State) : State :=
  match s.runOfPort p with
  | none => s.failTraining p
  | some (run, rev) =>
    if run.all (fun l => decide ((s.lane l).state ≠ 8)) then
      let s1 := s.each (s.lanesOf p) (fun l s => s.setLane l (fun x =>
        if run.contains l || !x.usable then x else { x with state := 8, tx := .deepIdle, rx := .deepIdle, goodWords := 0, ready := false }))
      (s1.setPort p (fun q => { q with reversed := rev })).stageAdvance p
    else (s.takeRun p (s.port p).stage run rev).setPort p (fun q => { q with stageSince := s.ep.beat })

/-- A lane of a port that trains is excluded, and the port goes on as R153 says; a lane of a port that is up fails (R160, R165,
R172). -/
def State.laneFail (l cause : Nat) (s : State) : State :=
  match s.portOfLane l with
  | none => s.laneOut l cause
  | some p =>
    let s1 := s.laneOut l cause
    if s.linkActive p then s1.narrow p
    else if 2 ≤ (s.port p).stage then s1.settle p
    else s1

/-! ### The blocks that are sent (R149, R150) -/

/-- Place of a lane among those of its port's run: the physical order, or its reverse where the run is the highest lanes
(R161, R185). DEDUCED: log entry 23. -/
def State.laneNumber (s : State) (p l : Nat) : Nat :=
  match s.runOfPort p with
  | some (run, rev) => (if rev then run.reverse else run).findIdx (· = l)
  | none => 0

/-- Code of a trunk rate in target_rate (R150): Garnet lanes send 2 only. -/
def rateCode (p r : Nat) : Nat := if p = 160 then 2 else r - 7

/-- The control word that a lane sends in a stage (R150). A lane that is not used is Off, so the module sends no block with
bit 34 set. -/
def State.sentWord (s : State) (p stage l : Nat) : Nat :=
  let x := s.lane l
  let width := match s.runOfPort p with
    | some (run, _) => widthCode run.length - 1
    | none => 0
  let w := stage * 2 ^ 60 + (if stage ≤ 2 then 0 else s.laneNumber p l) * 2 ^ 56 + width * 2 ^ 52 +
    rateCode p (s.port p).targetRate * 2 ^ 48 + x.request * 2 ^ 44 + x.reqPreset * 2 ^ 40 + x.response * 2 ^ 36 + x.ready.toNat * 2 ^ 35
  w + trainingCrc w

/-- The levels of a block (R139, R140, R142, R149): the marker, the control word at the outer levels, and PRBS31, one bit in a
symbol of the training base mode, and two bits Gray-mapped and precoded from p(-1) = 0 in a PAM4 symbol. -/
def blockLevels (pam : Bool) (word seed : Nat) : List (Fin 4) :=
  List.replicate 16 3 ++ List.replicate 16 0 ++ (List.range 64).map (fun i => outer (word.testBit (63 - i))) ++
    (if pam then precode 0 (graySymbols (prbsRun 8000 seed)) else (prbsRun 4000 seed).map outer)

/-- A lane sends a block; its PRBS goes on from block to block, and the last level stays in the precoder (R142, R149). -/
def State.sendBlock (p stage l : Nat) (s : State) : State :=
  let x := s.lane l
  let pam := pam4 x.mode
  let w := s.sentWord p stage l
  let levels := blockLevels pam w x.prbsTx
  (s.emit (.training l w levels)).setLane l (fun x =>
    { x with prbsTx := prbsAfter (if pam then 8000 else 4000) x.prbsTx, lastTx := if pam then levels.getLastD 0 else 0 })

/-- Blocks of 4,096 symbols that a lane of a mode begins in a beat of 128 ns: 1 at 32 GBd, 2 at 64 GBd, 2.5 at 80 GBd (R137, R149).
-/
def blocksIn (mode beat : Nat) : Nat :=
  match mode with
  | 9 | 11 => 2
  | 10 => 2 + beat % 2
  | _ => 1

/-- In stages 1 to 4 every trunk and Garnet lane that takes part sends training blocks back to back (R149): those of one beat. -/
def State.sendBlocks (s : State) : State :=
  s.each ((List.range 161).filter (fun p => decide (s.portRole p = 3) && decide (1 ≤ (s.port p).stage ∧ (s.port p).stage ≤ 4))) (fun p s =>
    s.each ((s.trainees p).filter (fun l => decide ((s.lane l).tx = .on))) (fun l s =>
      s.each (List.range (blocksIn (s.lane l).mode s.ep.beat)) (fun _ s => s.sendBlock p (s.port p).stage l)))

/-! ### The commands -/

/-- TRAINING_BLOCK: a trunk or Garnet lane receives a training block (R149 to R153). block: its control word, and the levels of
its PRBS part, measured in stage 4. done: the lane's own work of its stage, as R147 lists it, is complete with this block.
wish: the request its tuning has for the partner. inverted: the pair's polarity is inverted (R184). A lane of a link
that narrows keeps its coefficients and its polarity correction (R162). DEDUCED: log entry 23. DESIGN CHOICE: log entry 49.
DESIGN CHOICE: log entry 5. -/
def execTrainingBlock (lane : Fin 328) (block : TrainBlock) (done inverted : Bool) (wish : LaneWish) (s : State) : Res :=
  match s.portOfLane lane.val with
  | none => .next s
  | some p =>
    guarded (s.running && decide (s.portRole p = 3) && (s.trainees p).contains lane.val) (fun s =>
      let w := trainWord block.word.toNat
      let n := (s.port p).stage
      let back := s.linkActive p
      let s0 := if n = 4 then s.setLane lane.val (fun x => x.measure block.prbs) else s
      if !w.crcOk then s0.setLane lane.val (fun x => { x with goodWords := 0 })
      else
        let s1 := (s0.setLane lane.val (fun x => { x with partner := block.word.toNat, detected := true, proposal := if w.stage = 3 then w.targetRate else x.proposal })).setPort
          p (fun q => { q with firstDetect := if n = 1 then some (q.firstDetect.getD s.ep.beat) else q.firstDetect })
        if w.excluded then s1.laneFail lane.val 5
        else
          let old := s.lane lane.val
          (s1.setLane lane.val (fun x =>
            let y := (if back then x else { ({ x with partner := old.partner }).serve w with partner := x.partner }).ask w wish.ask.val wish.preset.val
            { y with polarity := if n = 3 ∧ back = false then inverted else x.polarity
                     ready := x.ready || decide (n = 1) || (done && (decide (n ≠ 4) || x.errOk))
                     goodWords := if w.stage = n ∧ w.ready = true then min 8 (x.goodWords + 1) else if x.goodWords = 8 then 8 else 0 })).stageAdvance p) s

/-- DETECT_TIMER: 64 beats after the first lane is detected, the undetected lanes are excluded with cause 6 and the port enters
stage 2 (R152). -/
def execDetectTimer (port : Fin 161) (s : State) : Res :=
  guarded (s.running && decide (s.portRole port.val = 3) && decide ((s.port port.val).stage = 1) &&
      (match (s.port port.val).firstDetect with
        | some b => decide (b + 64 ≤ s.ep.beat)
        | none => false)) (fun s =>
    let p := port.val
    let lost := (s.trainees p).filter (fun l => !(s.lane l).detected)
    let s1 := (s.each lost (fun l s => s.laneOut l 6)).settle p
    if (s1.port p).stage = 1 then s1.toStage p 2 else s1) s

/-- Bound of a stage on trunk and Garnet lanes, in beats; none in stages 1 and 5 (R147). -/
def stageBound (n : Nat) : Option Nat :=
  match n with
  | 2 => some 7813
  | 3 => some 3907
  | 4 => some 390625
  | _ => none

/-- The port returns to stage 2 at the next lower trunk rate that its configuration allows, or ends training as failed (R153,
R154, R688). The lanes that missed the target are tried again. -/
def State.fallBack (p : Nat) (missed : List Nat) (s : State) : State :=
  let r := (s.port p).targetRate - 1
  if p = 160 ∨ r < s.portIn s.ep.live p 3 ∨ r < 8 then s.failTraining p
  else
    let s1 := s.each missed (fun l s => s.setLane l (fun x => { x with
      state := 2, tx := .on, rx := .on, failCause := 0, mode := 12, precodeTx := false, precodeRx := false, errOk := false
      prbsCount := 0, prbsErrors := 0 }))
    (s1.setPort p (fun q => { q with targetRate := r })).toStage p 2

/-- STAGE_BOUND_REACHED: the bound of a trunk or Garnet port's stage has passed (R153). -/
def execStageBoundReached (port : Fin 161) (s : State) : Res :=
  guarded (s.running && decide (s.portRole port.val = 3) && (match stageBound (s.port port.val).stage with
      | some b => decide ((s.port port.val).stageSince + b ≤ s.ep.beat)
      | none => false)) (fun s =>
    let p := port.val
    let n := (s.port p).stage
    let missed := (s.trainees p).filter (fun l => if n = 4 then !(s.lane l).errOk else !(s.lane l).leaves)
    let s1 := s.each missed (fun l s => s.laneOut l (if n = 2 then 7 else if n = 3 then 11 else 8))
    if n = 4 ∧ (s1.trainees p).isEmpty = true then s1.fallBack p missed
    else if missed.isEmpty then s1
    else s1.settle p) s

/-- Equalizer parameters that a receiver of a mode has, by number (R144): 0 peaking, 1 gain, 2 the first decision-feedback tap,
3 to 9 the other decision-feedback taps of NRZ, 10 to 25 the feed-forward taps of PAM4. -/
def hasParam (mode k : Nat) : Bool := decide (k ≤ 2) || (if pam4 mode then decide (10 ≤ k ∧ k ≤ 25) else decide (k ≤ 9))

/-- The number of a parameter: the stage of the equalizer and the tap in it. The decision feedback has taps 0 to 7; no parameter
has number 26 (R144). -/
def paramNo (part : EqStage) (tap : Fin 16) : Nat :=
  match part with
  | .peaking => 0
  | .gain => 1
  | .dfe => if tap.val < 8 then 2 + tap.val else 26
  | .ffe => 10 + tap.val

/-- One step of an unsigned code, up or down, within its range. -/
def stepCode (v top : Nat) (up : Bool) : Nat := if up then min top (v + 1) else v - 1

/-- One step of an equalizer parameter (R145); D:30nn.k5 codes peaking, gain and the first tap (R172). The range of the other taps
is that of the first. DESIGN CHOICE: log entry 49. -/
def Lane.adapt (x : Lane) (k : Nat) (up : Bool) : Lane :=
  let eq (pk gn tp : Nat) : Lane := { x with rxEq := pk * 2 ^ 28 + gn * 2 ^ 20 + tp * 2 ^ 12 }
  let pk := bits x.rxEq 31 28
  let gn := bits x.rxEq 27 20
  let tp := bits x.rxEq 19 12
  if k = 0 then eq (stepCode pk 15 up) gn tp
  else if k = 1 then eq pk (stepCode gn 255 up) tp
  else if k = 2 then eq pk gn ((stepCode ((tp + 128) % 256) 255 up + 128) % 256)
  else
    let v := x.taps.look (k - 1) 0
    { x with taps := x.taps.put (k - 1) (if up then min 127 (v + 1) else max (-128) (v - 1)) }

/-- ADAPTATION_STEP: a receiver in stage 5 moves an equalizer parameter by one step, each at most once in 64 beats, unless
adaptation is frozen (R145). Which parameter moves, and which way, is the lane's own. -/
def execAdaptationStep (lane : Fin 328) (part : EqStage) (tap : Fin 16) (up : Bool) (s : State) : Res :=
  let x := s.lane lane.val
  guarded (s.running && decide (x.state = 5) && decide (x.rx = .on) && hasParam x.mode (paramNo part tap) &&
      decide (s.setting (if lane.val < 320 then 0x3000 + lane.val / 8 else 0x9008) 0x83 = 0) &&
      (match x.adaptAt.find? (fun e => decide (e.1 = paramNo part tap)) with
        | some b => decide (b.2 + 64 ≤ s.ep.beat)
        | none => true)) (fun s =>
    s.setLane lane.val (fun y => { y.adapt (paramNo part tap) up with adaptAt := y.adaptAt.put (paramNo part tap) s.ep.beat })) s

/-- The dictionary index that holds a lane's group-wide entries (R172, R173). -/
def laneIndex (l : Nat) : Nat := if l < 320 then 0x3000 + l / 8 else 0x9008

/-- The index that holds a port's retrain limit: an x16 port's even group, which its number names (R164, R173). -/
def limitIndex (p : Nat) : Nat := if p < 160 then 0x3000 + p / 4 else 0x9008

/-- ERROR_WINDOW_END: a lane's error window of D:30nn.81 beats ends, and the next starts (R159). more: errors attributed to the
lane in the window that no other command counted. -/
def execErrorWindowEnd (lane : Fin 328) (more : BitVec 32) (s : State) : Res :=
  let x := s.lane lane.val
  guarded (s.running && decide (x.state = 5) && decide (x.windowSince + s.setting (laneIndex lane.val) 0x81 ≤ s.ep.beat)) (fun s =>
    s.setLane lane.val (fun y => { y with
      errors := y.errors + more.toNat, peak := max y.peak (y.window + more.toNat), window := 0
      windowSince := y.windowSince + s.setting (laneIndex lane.val) 0x81 })) s

/-- LANE_FAILURE: a lane failure is detected (R159, R160). Loss of signal and of lock are checked while the receiver is On, and
the error threshold against the window's count, of which more is the part that no other command counted. A lane that a
narrowing at the same boundary holds was On when its failure was detected (R165). -/
def execLaneFailure (lane : Fin 328) (cause : Fin 6) (more : BitVec 32) (s : State) : Res :=
  let x := s.lane lane.val
  let limit := s.setting (laneIndex lane.val) 0x80
  let now := decide (x.state = 8) && (s.portOfLane lane.val).any (fun p => decide ((s.port p).stageSince = s.ep.beat))
  let isOn := decide (x.rx = .on) || now
  guarded (s.running && (s.portOfLane lane.val).any (fun p => s.linkActive p) && (decide (3 ≤ x.state ∧ x.state ≤ 5) || now) &&
      (match cause.val with
        | 1 | 2 => isOn
        | 3 => isOn && decide (limit ≠ 0 ∧ limit < x.window + more.toNat)
        | 4 | 5 => true
        | _ => false)) (fun s =>
    let s1 := if cause.val = 3 then s.setLane lane.val (fun y => { y with
      errors := y.errors + more.toNat, window := y.window + more.toNat, peak := max y.peak (y.window + more.toNat) }) else s
    s1.laneFail lane.val cause.val) s

/-- RETRAIN_LIMIT: a narrowing or retrain has not reached stage 5 within D:30nn.82 beats of the detection: the link is down
(R164). DEDUCED: log entry 23. -/
def execRetrainLimit (port : Fin 161) (s : State) : Res :=
  guarded (s.running && (match (s.port port.val).narrowSince with
      | some b => decide (b + s.setting (limitIndex port.val) 0x82 ≤ s.ep.beat)
      | none => false)) (State.downNow port.val 3) s

/-- LANE_EXCLUDE: D:30nn.kC is written (R172): 1 excludes the lane with cause 10, 0 allows it again at the next stage 1. A lane
that is excluded already keeps its cause and its count. DESIGN CHOICE: log entry 49. -/
def execLaneExclude (lane : Fin 328) (exclude : Bool) (s : State) : Res :=
  commandWrite (fun s =>
    let s1 := s.setLane lane.val (fun x => { x with excludeCmd := exclude })
    if exclude && decide ((s.lane lane.val).state ≠ 6) then (s1.laneFail lane.val 10).answer 0 else s1.answer 0) s

/-- ASPM states that a port may use (R194): those of D:34pp.07 that the link's owner enables; D:34pp.07 alone on an unbound
downstream port. -/
def State.aspmAllowed (s : State) (p : Nat) : Nat :=
  let a := s.portIn s.ep.live p 7
  if s.portRole p = 2 ∧ (s.bridgeOfPort p).isNone then a else a &&& (s.port p).ownerAspm

/-- Whether a port's link layer asks one direction of a lane for a state (R156): a trunk's or the Garnet link's may for any; a PCIe
port's for On, for Quick idle in L0s, which needs non-flit mode and, where the module sends, its enable, and for Deep idle
under L0p (R191, R193, R194, R197). DEDUCED: log entry 25. -/
def State.asksFor (s : State) (l : Nat) (receiver : Bool) (d : LaneDir) : Bool :=
  match s.portOfLane l with
  | none => false
  | some p =>
    if s.portRole p = 3 then true
    else match d with
      | .on => true
      | .quickIdle => !(s.port p).flit && (receiver || bit (s.aspmAllowed p) 0) && decide ((s.port p).power = .l0 ∨ (s.port p).power = .l0s)
      | .deepIdle => (s.port p).l0p && decide ((s.port p).power = .l0 ∨ (s.port p).power = .l0p)
      | .off => false

/-- LANE_DIRECTION_CHANGE: the port's link layer asks one direction of a lane for a state (R155, R156); the other direction
keeps its own. DESIGN CHOICE: log entry 11. DEDUCED: log entry 25. -/
def execLaneDirectionChange (lane : Fin 328) (receiver : Bool) (d : LaneDir) (s : State) : Res :=
  guarded (s.running && decide ((s.lane lane.val).state = 5) && s.asksFor lane.val receiver d) (fun s =>
    let s1 := s.setLane lane.val (fun x =>
      if receiver then Lane.setRx s.ep.beat d { x with lastRx := if d = .on then 0 else x.lastRx }
      else { x with tx := d, lastTx := if d = .on then 0 else x.lastTx })
    (match s.portOfLane lane.val with
      | some p => s1.l0sCheck p
      | none => s1).scanCheck) s

/-- RX_LOCK_TIMEOUT: a receiver that left Deep idle or Off has not locked within its exit latency and 64 beats (R158, R163). -/
def execRxLockTimeout (lane : Fin 328) (s : State) : Res :=
  guarded (s.running && (match (s.lane lane.val).rxExit with
      | some b => decide (b ≤ s.ep.beat)
      | none => false)) (State.laneFail lane.val 2) s

/-! ### Eye scans (R167 to R174) -/

/-- Change an eye-scan slot. DESIGN CHOICE: log entry 4. DEDUCED: log entry 24. -/
def State.setScan (n : Nat) (f : Scan → Scan) (s : State) : State := { s with scans := s.scans.put n (f (s.scans.look n {})) }

/-- A selector of the dictionary, with its default where it has not been written (R674). -/
def State.selector (s : State) (i j : Nat) : Nat := s.views.look (key i j) (Dict.dflt s.board.slotId (key i j))

/-- Positions on an axis of a scan, each side of zero (R170). -/
def scanSide (range step : Nat) : Nat := if step = 0 then 0 else range / step

/-- Eyes that a selection visits, in order (R170, R174). -/
def scanEyes (sel : Nat) : List Nat := if sel = 3 then [1, 0, 2] else [sel]

/-- Points of a scan (R170). -/
def scanPoints (f : Nat → Nat) : Nat :=
  (scanEyes (f 3)).length * (2 * scanSide (f 4) (f 5) + 1) * (2 * scanSide (f 6) (f 7) + 1)

/-- Whether the module refuses a scan (R168). DEDUCED: log entry 24. -/
def State.scanRefused (s : State) (n : Nat) (f : Nat → Nat) : Bool :=
  let l := s.lane (f 1 * 8 + f 2)
  let pam := pam4 l.mode
  !(decide (l.state = 5) && decide (l.rx = .on)) ||
    s.scans.any (fun e => decide (e.1 ≠ n ∧ e.2.status = 1 ∧ e.2.params.look 1 0 = f 1)) ||
    decide (f 5 = 0 ∨ f 7 = 0 ∨ f 8 < 10 ∨ 36 < f 8) || decide (3 < f 3 ∨ (f 3 ≠ 0 ∧ pam = false)) || decide (4096 < scanPoints f)

/-- SCAN_START: 1 written to D:A02s.09 starts a scan, which clears the slot's results, or is refused with status 5 (R168). The
full scale of the target receiver is latched (R174). DEDUCED: log entry 24. -/
def execScanStart (slot : Fin 4) (fullScale : BitVec 16) (s : State) : Res :=
  commandWrite (fun s =>
    let f (j : Nat) : Nat := s.selector (0xA020 + slot.val) j
    (if s.scanRefused slot.val f then s.setScan slot.val (fun x => { x with status := 5 })
     else s.setScan slot.val (fun _ => {
      status := 1, total := scanPoints f, done := 0, fullScale := fullScale.toNat
      params := [1, 2, 3, 4, 5, 6, 7, 8].map (fun j => (j, f j)), records := [] })).answer 0) s

/-- Offset of a position of an axis, as the low 8 bits of a signed number (R170). -/
def scanOffset (side step i : Nat) : Nat := (256 + step * i - step * side) % 256

/-- The record of a scan's point i (R170). -/
def scanRecord (f : Nat → Nat) (i errors : Nat) : Nat :=
  let ps := scanSide (f 4) (f 5)
  let vs := scanSide (f 6) (f 7)
  let np := 2 * ps + 1
  let nv := 2 * vs + 1
  let eye := (scanEyes (f 3)).getD (i / (np * nv)) 0
  scanOffset ps (f 5) (i / nv % np) * 2 ^ 56 + scanOffset vs (f 7) (i % nv) * 2 ^ 48 + eye * 2 ^ 46 +
    (if errors < 0xFFFFFFFF then errors else 2 ^ 45 + 0xFFFFFFFF)

/-- SCAN_POINT_DONE: the comparisons of a point end, and its record is written; the last point ends the scan (R167, R170). A
scan whose receiver left On or stage 5 is aborted instead (R171). -/
def execScanPointDone (slot : Fin 4) (errors : BitVec 37) (s : State) : Res :=
  guarded (s.running && decide ((s.scans.look slot.val {}).status = 1) &&
      decide (errors.toNat ≤ 2 ^ (s.scans.look slot.val {}).params.look 8 0)) (fun s =>
    let s1 := s.scanCheck
    if (s1.scans.look slot.val {}).status ≠ 1 then s1
    else s1.setScan slot.val (fun x =>
      let f (j : Nat) : Nat := x.params.look j 0
      { x with records := x.records.put x.done (scanRecord f x.done errors.toNat), done := x.done + 1
               status := if x.total ≤ x.done + 1 then 2 else 1 })) s

/-- SCAN_ABORT: 1 written to D:A02s.0A aborts a running scan with status 3; completed records stay (R171). -/
def execScanAbort (slot : Fin 4) (s : State) : Res :=
  commandWrite (fun s =>
    (s.setScan slot.val (fun x => if x.status = 1 then { x with status := 3 } else x)).answer 0) s

end Sys2Proof.Machine
end

