-- ==== Sys2Proof/Machine/Ports.lean ====
section
/-!
DEFINITION. The commands of the ports (chapter 06): PCIe training, link up, link power states, L0p and link IDE.
-/

namespace Sys2Proof.Machine

/-! ### Negotiation (R187 to R190) -/

/-- Protocols that both ends offer (R189). DEDUCED: log entry 25. -/
def State.protocolsWith (s : State) (p : Nat) (x : Partner) : Nat := s.portIn s.ep.live p 5 &&& x.offers.toNat

/-- The partner's reference clock suits a port's clocking mode (R186): SRNS requires it within 600 ppm and without spread.
DEDUCED: log entry 25. -/
def State.clockFits (s : State) (p : Nat) (x : RefClock) : Bool :=
  decide (s.portIn s.ep.live p 9 = 0) || (decide (x.ppm.toInt.natAbs ≤ 600) && !x.spread)

/-- Protocols that a port runs under a CXL version (R189): none under PCIe, and no CXL.cache under CXL 1.1. -/
def State.protocolsRun (s : State) (p cxl : Nat) (x : Partner) : Nat :=
  if cxl = 0 then 0 else if cxl = 1 then s.protocolsWith p x &&& 3 else s.protocolsWith p x

/-- CXL version that a port runs (R189): CXL 1.1 on a downstream port only. -/
def State.cxlWith (s : State) (p : Nat) (x : Partner) : Nat :=
  if s.protocolsWith p x = 0 then 0 else if x.cxl.val = 1 ∧ s.portRole p ≠ 2 then 0 else x.cxl.val

/-- Flit mode that a port negotiates; none where it requires a mode that the partner lacks (R187). -/
def State.flitWith (s : State) (p : Nat) (x : Partner) : Option Bool :=
  match s.portIn s.ep.live p 4 with
  | 1 => if x.flit then some true else none
  | 2 => some false
  | _ => some x.flit

/-- Highest mode code that a PCIe port may run (R187 to R189). -/
def rateCeiling (limit cxl : Nat) (flit : Bool) : Nat :=
  min (min limit (if flit then 7 else 5)) (if cxl = 3 then 6 else if cxl = 1 ∨ cxl = 2 then 5 else 7)

/-! ### Training of PCIe ports -/

/-- A PCIe transmitter takes a preset, whose coefficients are those of the PCIe Base Specification, or a coefficient set whose
magnitudes sum to 64 (R143). DESIGN CHOICE: log entry 49. -/
def Lane.equalize (x : Lane) (e : PcieEq) : Lane :=
  match e with
  | .preset n =>
    let t (k m : Nat) : Int := (Config.presetTap x.mode n.val k % m : Nat)
    { x with cm2 := -(t 0 16), cm1 := -(t 1 16), cp1 := -(t 2 32), c0 := 64 - t 0 16 - t 1 16 - t 2 32 }
  | .coeffs a b c d =>
    if a.toInt.natAbs + b.toInt.natAbs + c.toInt.natAbs + d.toInt.natAbs = 64 then
      { x with cm2 := a.toInt, cm1 := b.toInt, c0 := c.toInt, cp1 := d.toInt }
    else x

/-- The partner's equalization request reaches the transmitter of one of a port's lanes (R143). -/
def State.equalizeLane (p : Nat) (eq : Option (Fin 16 × PcieEq)) (s : State) : State :=
  match eq with
  | some (i, e) => match (s.lanesOf p)[i.val]? with
    | some l => s.setLane l (fun x => if x.tx = .on then x.equalize e else x)
    | none => s
  | none => s

/-- TRAINING_SET_RECEIVED: a PCIe port receives training sets and moves through its LTSSM, whose stage each lane reports (R147,
R148). unused: lanes that the partner marks unused, which fail on a link that was up (R159). sets: the pairs whose
polarity the receivers correct in stage 3 (R184), unless the link was up (R162), and a transmitter setting that the partner
asks of a lane (R143). A link whose partner falls back to Detect is down. DEDUCED: log entry 25. -/
def execTrainingSetReceived (port : Fin 160) (stage : Fin 5) (unused : BitVec 16) (sets : TrainSets) (s : State) : Res :=
  guarded (s.running && decide (s.portRole port.val = 1 ∨ s.portRole port.val = 2) && decide (1 ≤ (s.port port.val).stage ∧ 1 ≤ stage.val)) (fun s =>
    let p := port.val
    let up := s.linkActive p
    let s := if stage.val = 4 then s.equalizeLane p sets.eq else s
    if stage.val = 1 then
      if up then s.portDown p 4 else s.toStage p 1
    else if (s.port p).stage = 5 then
      let s1 := s.enterRecovery p
      let gone := (s.lanesOf p).filter (fun l => unused.toNat.testBit (l - (s.portLanes s.ep.live p).1) && decide ((s1.lane l).state = 4))
      if gone.isEmpty then (if stage.val = 3 then s1.toStage p 3 else s1)
      else s1.each gone (fun l s => if (s.lane l).usable then s.laneFail l 5 else s)
    else
      let s1 := if up && decide ((s.port p).stage = 3) then s else s.toStage p stage.val
      s1.each (s.lanesOf p) (fun l s => s.setLane l (fun x =>
        if stage.val = 3 ∧ x.state = 3 ∧ up = false then { x with polarity := sets.inverted.toNat.testBit (l - (s.portLanes s.ep.live p).1) } else x)))
    s

/-! ### Link up -/

/-- A PCIe port's lanes for a width: the lowest or, reversed, the highest; the others are not used by the partner (R159, R185).
-/
def State.useWidth (p n : Nat) (rev : Bool) (s : State) : State :=
  let l := s.lanesOf p
  let run := if rev then l.drop (l.length - n) else l.take n
  (s.setPort p (fun q => { q with reversed := rev })).each l (fun l s =>
    if run.contains l then s else if (s.lane l).usable then s.laneOut l 5 else s)

/-- The lanes of a run are all able to train (R161). -/
def State.runFits (s : State) (p n : Nat) (rev : Bool) : Bool :=
  let l := s.lanesOf p
  decide (0 < n ∧ n ≤ l.length) && (if rev then l.drop (l.length - n) else l.take n).all (fun l => (s.lane l).usable)

/-- A host port's hierarchy sees its link come up (R198, R318, R391). -/
def State.hostUp (p : Nat) (s : State) : State :=
  match s.vhOfPort p with
  | none => s
  | some v =>
    let s1 := (s.peerEvent v true).peerEvent v false
    s1.each ((s.bindingsOf v).filter (fun b => decide (bindKind b.2 = 3))) (fun b s =>
      (s.hideCheck v (bindEndpoint b.2)).refreshEndpoint v b.1 (bindEndpoint b.2))

/-- A downstream port is unbound: no bridge holds it, whole or by a slice (R256, R262). -/
def State.unbound (s : State) (p : Nat) : Bool :=
  !(bindings s.ep.live).any (fun x => decide ((bindKind x.2.2 = 1 ∨ bindKind x.2.2 = 2) ∧ bindPort x.2.2 = p))

/-- What stands behind a downstream port sees its link come up (R259, R262, R374): the bridge of a whole binding, and a claimed
pool device with CXL.mem; an unbound device is read for its IDs. -/
def State.deviceUp (p : Nat) (s : State) : State :=
  let s1 := s.setSlot p (fun x => { x with resetting := false, ident := 0 })
  let s2 := if bit (s.port p).protocols 1 then s1.deviceLink p true none else s1
  match s.bridgeOfPort p with
  | some (v, b) => s2.bridgeLink v b true
  | none => if s.unbound p then (s2.readIdent p 0).readIdent p 8 else s2

/-- Link IDE state of a port whose link comes up (R198, R199): off, secure once its keys are there, else in key exchange, or
still insecure. DEDUCED: log entry 25. -/
def State.ideUp (p : Nat) (keyed : Bool) (s : State) : State :=
  let set : Bool := if s.portRole p = 1 then (match s.vhOfPort p with
    | some v => (s.func v).ideKeys
    | none => false) else keyed
  s.setPort p (fun q =>
    if s.portIn s.ep.live p 0xA = 0 then { q with ide := 0 }
    else if set then { q with ide := 2, ideRefresh := s.ep.beat }
    else { q with ide := if q.ide = 3 then 3 else 1 })

/-- Precoding of PCIe lanes: the module's receivers request it in modes 6 and 7, its transmitters use it where the partner
requests it (R141). -/
def State.precodeUp (p rate : Nat) (tx : Bool) (s : State) : State :=
  s.each (s.lanesInUse p) (fun l s => s.setLane l (fun x =>
    { x with precodeTx := tx && decide (6 ≤ rate), precodeRx := decide (6 ≤ rate) }))

/-- A PCIe link comes up: the module advertises its credits (R694), and the link partner's are none until it advertises them
(R212). -/
def State.pcieUp (p rate width : Nat) (rev : Bool) (x : Partner) (clock : RefClock) (precode keyed : Bool) (s : State) : State :=
  match s.flitWith p x with
  | none => s.failTraining p
  | some flit =>
    let cxl := s.cxlWith p x
    if rate < 1 ∨ rateCeiling (s.portIn s.ep.live p 2) cxl flit < rate ∨ s.clockFits p clock = false then s
    else
      let s0 := s.setPort p (fun q => { q with l0p := x.l0p })
      let s1 := (s0.useWidth p (widthLanes width) rev).portUp p width rate cxl (s.protocolsRun p cxl x) flit
      let s2 := (((s1.setPort p (fun q => { q with creditHeaders := [], creditData := [] })).precodeUp p rate precode).ideUp p keyed).advertise
        p x.scaled
      if s.portRole p = 1 then s2.hostUp p else s2.deviceUp p

/-- A PCIe link that was up returns to stage 5 (R141, R160, R183, R188): its protocol and flit mode stay, and after a Recovery
its rate may have changed, within its limit; a key set for its IDE stays. -/
def State.pcieBack (p rate : Nat) (tx : Bool) (s : State) : State :=
  let q := s.port p
  let r := if q.recovery then rate else q.rate
  if r < 1 ∨ (q.recovery = true ∧ rateCeiling (s.portIn s.ep.live p 2) q.cxl q.flit < r) then s
  else (s.portUp p (widthCode (s.trainees p).length) r q.cxl q.protocols q.flit).precodeUp p r tx

/-- The last blocks before data starts show stage 5, one on each lane (R150); a narrowing may leave the lanes reversed (R185).
DEDUCED: log entry 23. -/
def State.lastBlocks (p : Nat) (s : State) : State :=
  (s.each (s.trainees p) (fun l s => s.sendBlock p 5 l)).setPort p (fun q => { q with reversed := if q.stage = 3 then s.numbersDown p else q.reversed })

/-- PORT_LINK_UP: a port reaches stage 5 and starts to carry data (R147, R151, R154, R187 to R189). A trunk or Garnet port does
so once every lane is ready in stage 4, or in stage 3 of a narrowing; now is the time in ns of its link layer. A PCIe port
does so at the rate and width that its LTSSM reached. -/
def execPortLinkUp (port : Fin 161) (now : Nat) (rate : Fin 8) (width : Fin 6) (reversed : Bool) (x : Partner) (clock : RefClock)
    (precode keyed : Bool) (s : State) : Res :=
  let p := port.val
  let q := s.port p
  if s.portRole p = 3 then
    guarded (s.running && (decide (q.stage = 4) || (decide (q.stage = 3) && q.narrowSince.isSome)) && !(s.trainees p).isEmpty &&
        (s.trainees p).all (fun l => (s.lane l).leaves)) (fun s =>
      let r := if q.narrowSince.isSome then q.rate else q.targetRate
      ((s.lastBlocks p).portUp p (widthCode (s.trainees p).length) r 0 0 false).trunkUp p now) s
  else if q.retrains then
    guarded (s.running && decide (3 ≤ q.stage ∧ q.stage ≤ 4) && !(s.trainees p).isEmpty) (State.pcieBack p rate.val precode) s
  else
    guarded (s.running && decide (s.portRole p = 1 ∨ s.portRole p = 2) && decide (3 ≤ q.stage ∧ q.stage ≤ 4) &&
        s.runFits p (widthLanes width.val) reversed)
      (State.pcieUp p rate.val width.val reversed x clock precode keyed) s

/-! ### Link power states (R193 to R197) -/

/-- L1 or one of its substates, by number 0 to 2. -/
def l1State (n : Fin 3) : LinkPower := if n = 0 then .l1 else if n = 1 then .l11 else .l12

/-- The downstream ports bound to a hierarchy, whole or by a slice (R195). -/
def State.portsUnder (s : State) (v : Nat) : List Nat :=
  ((s.bindingsOf v).filter (fun b => decide (bindKind b.2 = 1 ∨ bindKind b.2 = 2))).map (fun b => bindPort b.2)

/-- A transaction of a hierarchy is in the module (R195): a frame or a tracker entry of its ports, one that waits, a master request
into its memory, or a coherent request or snoop of its host. -/
def State.hierBusy (s : State) (v p : Nat) : Bool :=
  let mine (q : Nat) : Bool := decide (q = p) || (s.portsBelow v).contains q
  let ofHost (r : Request) : Bool := decide (r.host = v)
  s.core.frames.any (fun f => mine f.ingress || mine f.egress) ||
    s.fab.track.any (fun t => !t.expired && (mine t.reqPort || mine t.cplPort || decide (t.budget = .vh v ∨ t.mvh = some v))) ||
    s.fab.waiting.any (fun w => decide (w.budget = .vh v)) ||
    s.host.masterWait.any (fun m => decide (m.vh = some v)) ||
    (s.home.allocs ++ s.home.ring).any (fun a => ofHost a.req) ||
    s.home.slots.any (fun h => h.req.any ofHost || h.queue.any ofHost || h.heldMsgs.any ofHost || h.pendingSet.contains v || h.cmps.contains v)

/-- A link is in L1 or deeper, or there is none (R195). -/
def Port.deep (q : Port) : Bool :=
  match q.power with
  | .l1 | .l11 | .l12 | .l2 => true
  | _ => decide (q.stage ≠ 5) && !q.retrains

/-- L1_ENTRY_INITIATE: an idle host port initiates ASPM L1, or a substate, after a flush of its hierarchy (R195, R548); the
host may refuse. DEDUCED: log entry 25. -/
def execL1EntryInitiate (port : Fin 160) (sub : Fin 3) (acked : Bool) (s : State) : Res :=
  let p := port.val
  let q := s.port p
  match s.vhOfPort p with
  | none => .next s
  | some v =>
    guarded (s.running && decide (q.stage = 5) && decide (q.power = .l0 ∨ q.power = .l0s ∨ q.power = .l0p) && bit (s.aspmAllowed p) 1 &&
        (decide (sub = 0) || bit (s.aspmAllowed p) (1 + sub.val)) && decide (q.idleSince + s.portIn s.ep.live p 0xB ≤ s.ep.beat) &&
        !s.hierBusy v p && (s.portsUnder v).all (fun b => (s.port b).deep)) (fun s =>
      let s1 := s.flushVh v
      if acked then s1.setPower p (l1State sub) else s1) s

/-- Codes of the commands sent to a device or link partner: 1 hot reset, 2 reset of a logical device, 3 speed change, 4 refusal
of ASPM L1, 5 PME_Turn_Off passed on, 6 new link IDE keys. -/
def State.tellPartner (p code arg : Nat) (s : State) : State := s.emit (.devCmd p code arg)

/-- PARTNER_L1_REQUEST: a downstream partner asks for ASPM L1 or a substate (R194, R196): accepted when it is enabled and
nothing is queued for egress. -/
def execPartnerL1Request (port : Fin 160) (sub : Fin 3) (s : State) : Res :=
  let p := port.val
  guarded (s.running && decide (s.portRole p = 2) && decide ((s.port p).stage = 5) && !(s.port p).deep) (fun s =>
    if bit (s.aspmAllowed p) 1 && (decide (sub = 0) || bit (s.aspmAllowed p) (1 + sub.val)) &&
        decide (s.queuedAt p = 0 ∧ s.core.xmit.look p 0 = 0 ∧ (s.port p).staging = 0) then s.setPower p (l1State sub)
    else s.tellPartner p 4 0) s

/-- PCI_PM_L1_REQUEST: PCI-PM L1 entry on a host port is accepted after a flush (R195, R548). -/
def execPciPmL1Request (port : Fin 160) (s : State) : Res :=
  match s.vhOfPort port.val with
  | none => .next s
  | some v => guarded (s.running && decide ((s.port port.val).stage = 5) && !(s.port port.val).deep)
      (fun s => (s.flushVh v).setPower port.val .l1) s

/-- PME_TURN_OFF: PME_Turn_Off received on a host port is passed on to the bound devices, and answered with PME_TO_Ack after a
flush; the links go to L2 (R193, R548). DEDUCED: log entry 25. -/
def execPmeTurnOff (v : Fin 64) (s : State) : Res :=
  match s.portOfVh v.val with
  | none => .next s
  | some p => guarded (s.running && decide ((s.port p).stage = 5) && decide ((s.port p).power ≠ .l2)) (fun s =>
      let below := (s.portsBelow v.val).filter (fun b => decide ((s.port b).stage = 5))
      let s1 := s.each below (fun b s => (s.tellPartner b 5 0).setPower b .l2)
      ((s1.flushVh v.val).emit (.tlp p { op := .message, msg := 0x1B, msgRoute := 5, reqId := s.functionId v.val })).setPower p .l2) s

/-- L1_EXIT: the link partner leaves L1 or a substate, and the port's lanes return to On (R193, R196). -/
def execL1Exit (port : Fin 160) (s : State) : Res :=
  guarded (s.running && (match (s.port port.val).power with
    | .l1 | .l11 | .l12 => true
    | _ => false)) (fun s => (s.setPort port.val (fun q => { q with idleSince := s.ep.beat })).setPower port.val .l0) s

/-- Give one direction of a port a width under L0p: its lanes outside the width go to Deep idle, the others are On (R193,
R197). -/
def State.l0pWidth (p code : Nat) (receive : Bool) (s : State) : State :=
  let run := (s.lanesInUse p).take (widthLanes code)
  let s1 := s.each (s.lanesInUse p) (fun l s => s.setLane l (fun x =>
    let d : LaneDir := if run.contains l then .on else .deepIdle
    if receive then x.setRx s.ep.beat d
    else { x with tx := d }))
  (s1.setPort p (fun q =>
    let tx := if receive then q.txWidth else code
    let rx := if receive then code else q.rxWidth
    { q with txWidth := tx, rxWidth := rx, power := if tx < q.width ∨ rx < q.width then .l0p else .l0 })).scanCheck

/-- A port runs L0p: negotiated, in flit mode, up, and in L0 (R191, R197). -/
def State.l0pOpen (s : State) (p : Nat) : Bool :=
  s.running && decide (s.portRole p = 1 ∨ s.portRole p = 2) && decide ((s.port p).stage = 5) && (s.port p).l0p &&
    decide ((s.port p).power = .l0 ∨ (s.port p).power = .l0p)

/-- L0P_EVALUATION: every 64 beats the module compares the bytes that a port sent in them with its transmit width (R197): full
width above 80 % or with more than 64 cells queued, half the width below 35 % and above x2. A widening ends by the next
evaluation, which does not narrow. DEDUCED: log entry 25. -/
def execL0pEvaluation (port : Fin 160) (used : BitVec 32) (s : State) : Res :=
  let p := port.val
  guarded (s.l0pOpen p && decide (s.portIn s.ep.live p 8 = 1) && decide (s.ep.beat % 64 = 0)) (fun s =>
    let q := s.port p
    let whole := 64 * s.bytesPerBeat p
    if 80 * whole < 100 * used.toNat ∨ 64 < s.queuedAt p then
      if q.txWidth < q.width then (s.l0pWidth p q.width false).setPort p (fun x => { x with widening := true })
      else s.setPort p (fun x => { x with widening := false })
    else if 100 * used.toNat < 35 * whole ∧ 2 < q.txWidth ∧ q.widening = false then s.l0pWidth p (q.txWidth - 1) false
    else s.setPort p (fun x => { x with widening := false })) s

/-- L0P_PARTNER_REQUEST: the partner's request for its transmit width is honoured (R197). -/
def execL0pPartnerRequest (port : Fin 160) (width : Fin 6) (s : State) : Res :=
  guarded (s.l0pOpen port.val && decide (1 ≤ width.val ∧ width.val ≤ (s.port port.val).width)) (State.l0pWidth port.val width.val true) s

/-! ### Link IDE (R198, R199) -/

/-- IDE_KEY_REFRESH: the module gives a downstream port's device keys through the device's DOE (R198, R199): the first ones of a
link, which end its key exchange, and new ones every 2^28 beats. DEDUCED: log entry 25. -/
def execIdeKeyRefresh (port : Fin 160) (s : State) : Res :=
  let q := s.port port.val
  guarded (s.running && decide (s.portRole port.val = 2) && (decide (q.ide = 2 ∧ q.ideRefresh + 2 ^ 28 ≤ s.ep.beat) ||
      decide ((q.ide = 1 ∨ q.ide = 3) ∧ q.stage = 5))) (fun s =>
    (s.setPort port.val (fun q => { q with ide := 2, ideRefresh := s.ep.beat })).tellPartner port.val 6 0) s

/-- IDE_INTEGRITY_FAILURE: a link IDE check fails (R199). -/
def execIdeIntegrityFailure (port : Fin 160) (s : State) : Res :=
  guarded (s.running && decide ((s.port port.val).ide = 2) && s.linkActive port.val) (State.ideFailure port.val) s

end Sys2Proof.Machine
end

