-- ==== Sys2Proof/Machine/Faults.lean ====
section
/-!
DEFINITION. The fault collector (chapter 17): the classification of step 5 of a beat boundary, the reactions, and the
commands of its entries.
-/

namespace Sys2Proof.Machine

/-! ### Counting and classes (R585 to R589) -/

/-- A write of the beat gives the source's configuration word new settings, and with them a parity bit that follows (R589, R604). -/
def Source.rewritten (e : Source) : Bool := e.newN.isSome || e.newW.isSome || e.newNormal.isSome || e.newSevere.isSome

/-- A source after the writes of the beat: a clear, or new settings, which also reset the count and the class (R588, R589).
DEDUCED: log entry 38. -/
def Source.written (e : Source) : Source :=
  let reset := e.clearOwed || e.rewritten
  { e with
    sticky := e.sticky && !e.clearOwed, count := if reset then 0 else e.count, severe := e.severe && !reset
    n := e.newN.getD e.n, w := e.newW.getD e.w, normal := e.newNormal.getD e.normal, severeR := e.newSevere.getD e.severeR
    clearOwed := false, newN := none, newW := none, newNormal := none, newSevere := none }

/-- Steps 1 to 3 of R585 for one source at the boundary that starts a beat, with the sticky bit and the total of its events
(R583). -/
def Source.classify (beat : Nat) (e : Source) : Source :=
  let ended := decide (e.w ≠ 0 ∧ e.count ≠ 0 ∧ e.w ≤ beat - e.windowStart)
  let c := if ended then 0 else e.count
  let c2 := min 255 (c + e.newEvents)
  { e with
    count := c2, windowStart := if c = 0 ∧ e.newEvents ≠ 0 then beat - 1 else e.windowStart
    severe := decide (e.n ≠ 0 ∧ e.n ≤ c2), sticky := e.sticky || decide (e.newEvents ≠ 0)
    events := e.events + e.newEvents, newEvents := 0 }

/-- The reaction code of a source's class, or its fixed one (R590, R591). -/
def Source.reaction (n : Nat) (e : Source) : Nat := (fixedReaction n).getD (if e.severe then e.severeR else e.normal)

/-- The domains other than D0000 that own a port, or a slice of a port, of a group (R593). -/
def State.domainsOfGroup (s : State) (n : Nat) : List Nat :=
  (((s.portsOfGroup n).map (fun p =>
    s.domainOfPortIn s.ep.live p :: (if s.portRole p = 2 then (List.range 16).map (s.sliceDomainIn s.ep.live p) else []))).flatten.filter
      (fun d => decide (d ≠ 0))).eraseDups

/-- The effect of a reaction code below 4 that was decided for a source (R590, R592, R593): containments follow at the next
boundary. DEDUCED: log entry 43. -/
def State.react (n code : Nat) (s : State) : State :=
  let s1 := if 1 ≤ code then s.interrupt (256 + n / 4) else s
  let g := scopeOf n
  let s2 : State := if 2 ≤ code ∧ g < 40 ∧ !s1.col.portPending.contains g then
    { s1 with col := { s1.col with portPending := s1.col.portPending ++ [g] } } else s1
  if 3 ≤ code ∧ g < 40 then
    s2.each ((s2.domainsOfGroup g).filter (fun d => !s2.isContained d)) (fun d s =>
      { s with host := { s.host with containPending := s.host.containPending.put d true } })
  else s2

/-- Step 5 of a beat boundary (R585, R587 to R590, R595, R602): every source is classified, and the reactions of those with
new events are applied. Any code 4 outside safe state is one entry to safe state, with the lowest such source; the others
are then reduced to code 0, as all are in safe state. -/
def State.collect (s : State) : State :=
  let fired := (s.col.sources.filter (fun e => decide (e.2.newEvents ≠ 0))).map (·.1)
  let s1 : State := { s with col := { s.col with
    sources := s.col.sources.map (fun e => (e.1, (e.2.written).classify s.ep.beat))
    parityBad := s.col.parityBad && !(s.source 0).rewritten } }
  if s1.col.safe then s1
  else
    let codes := fired.map (fun n => (n, (s1.source n).reaction n))
    match codes.find? (fun c => decide (c.2 = 4)) with
    | some c => s1.enterSafe 1 c.1
    | none => s1.each codes (fun c s => s.react c.1 c.2)

/-! ### Containment (R592 to R594) -/

/-- Contain the ports of a group (R592): each is held and goes down with cause 8, enabled or not; a downstream port as by a
software DPC trigger (R277). DEDUCED: log entry 43. -/
def State.containGroup (n : Nat) (s : State) : State :=
  let s0 : State := { s with col := { s.col with portPending := s.col.portPending.filter (fun g => decide (g ≠ n)) } }
  s0.each (s0.portsOfGroup n) (fun p s =>
    let s1 := s.setPort p (fun q => { q with heldFault := true })
    if s.portRole p = 2 then s1.containDown p else s1.portDown p 8)

/-- PORT_CONTAINMENT: the boundary after a contain-port reaction was decided for a group (R592). DEDUCED: log entry 43. -/
def execPortContainment (n : Fin 40) (s : State) : Res :=
  guarded (s.running && s.col.portPending.contains n.val) (State.containGroup n.val) s

/-- Release a port from a contain-port reaction (R594): its bridge's software trigger ends where nothing else holds the port,
which trains again from the next boundary. -/
def State.releasePort (p : Nat) (s : State) : State :=
  let s1 := s.setPort p (fun q => { q with heldFault := false })
  match s.bridgeOfPort p with
  | some (v, b) => if s1.held p then s1 else s1.setBridge v b (fun x => { x with dpcTriggered := false })
  | none => s1

/-- PORT_RELEASE: D:34pp.50 is written (R594, R611): 0 releases the port, 1 is refused. -/
def execPortRelease (port : Fin 160) (value : Bool) (s : State) : Res :=
  commandWrite (fun s =>
    if !s.portNamed s.ep.live port.val then s.answer 3
    else if value then s.answer 2
    else (s.releasePort port.val).answer 0) s

/-! ### Entries of the sources (R588, R596, R610) -/

/-- Writes to sticky bits are performed in safe state too (R600). -/
def State.clearOpen (s : State) : Bool :=
  s.adpUp && (s.running || s.col.safe) && !s.starting && !s.irq.moving.contains 0

/-- A source is cleared at the next boundary (R588). -/
def State.clearSource (n : Nat) (s : State) : State := s.setSource n (fun e => { e with clearOwed := true })

/-- STICKY_CLEAR: 1 written to D:(8400 + s).01 (R588, R600). -/
def execStickyClear (n : Fin 1024) (s : State) : Res :=
  guarded s.adpUp (fun s => if s.clearOpen then (s.clearSource n.val).answer 0 else s.answer 1) s

/-- FORCE: 1 written to D:(8400 + s).02 adds one event to the source (R596). -/
def execForce (n : Fin 1024) (s : State) : Res := commandWrite (fun s => (s.raise n.val).answer 0) s

/-- CLEAR_ALL: 1 written to D:8030.0C clears every source (R588, R610). -/
def execClearAll (s : State) : Res :=
  commandWrite (fun s => (s.each (s.col.sources.map (·.1)) State.clearSource).answer 0) s

/-- COLLECTOR_INJECT: 1 written to D:8030.0A inverts the parity bit of config[0] at the next boundary (R605). -/
def execCollectorInject (s : State) : Res :=
  commandWrite (fun s => ({ s with col := { s.col with injectOwed := true } } : State).answer 0) s

/-- A parity error in a collector word is detected (R605): safe state with cause 2. -/
def State.parityCheck (s : State) : State := if s.col.parityBad then s.enterSafe 2 0xFFFF else s

/-- COLLECTOR_SCAN: every 16 beats the collector checks the parity of all its words (R603, R605). DEDUCED: log entry 28. -/
def execCollectorScan (s : State) : Res := guarded (s.dieOn && decide (s.ep.beat % 16 = 0)) State.parityCheck s

end Sys2Proof.Machine
end

