-- ==== Sys2Proof/Machine/Reading.lean ====
section
/-!
DEFINITION. What every dictionary entry reads (R674): the reports of chapters 01 to 20 from the state, settings with those that
wait, staged entries in either copy, selectors, and the fixed values of commands.
-/

namespace Sys2Proof.Machine

/-- A number whose bit n is a condition, for n below a bound. -/
def flags (n : Nat) (f : Nat → Bool) : Nat := ((List.range n).map (fun i => if f i then 2 ^ i else 0)).sum

/-- A signed number as a two's complement value of a width (R670). -/
def signed (w : Nat) (v : Int) : Nat := (v % (2 ^ w : Int)).toNat

/-- One for true. -/
def one (b : Bool) : Nat := if b then 1 else 0

/-- A report that the dictionary itself holds: a counter, a check entry, a fixed value. DESIGN CHOICE: log entry 4. -/
def State.kept (s : State) (i j : Nat) : Nat := s.views.look (key i j) (Dict.dflt s.board.slotId (key i j))

/-- Chapter 01: beat, epochs and commits. -/
def State.reportBeat (s : State) (i j : Nat) : Nat :=
  if i = 0x1202 then s.inFlight j
  else match i, j with
    | 0x1200, 1 => s.ep.beat
    | 0x1201, 1 => s.ep.epoch
    | 0x1201, 2 => s.ep.epoch % 4
    | 0x1201, 3 => s.ep.superseded.length + 1
    | 0x1201, 4 => (s.ep.superseded.head?.map (·.count)).getD s.ep.epoch
    | 0x1210, 2 => s.ep.commit.code
    | 0x1210, 3 => s.ep.lastToken
    | 0x1210, 4 => s.ep.lastEpoch
    | 0x1210, 5 => s.ep.lastBeat
    | 0x1210, 6 => s.ep.deferrals
    | 0x1210, 8 => s.stagedCount
    | _, _ => s.kept i j

/-- Chapters 02 and 03: die temperature, edge signals, feeds, retries, power state. -/
def State.reportBoard (s : State) (i j : Nat) : Nat :=
  match i, j with
  | 0x2100, 1 => signed 32 s.temperature
  | 0x2101, 2 => s.board.throttle
  | 0x2101, 3 => s.board.throttleSteps
  | 0xA010, 1 => s.board.slotId
  | 0xA010, 2 => one s.board.refExternal
  | 0xA010, 4 => s.board.refLosses
  | 0xA010, 5 => flags 6 (fun b => match b with
    | 0 => s.board.modrst
    | 1 => !s.board.faultLow
    | 2 => s.sup.pgOut
    | 3 => !s.board.alertLow
    | 4 => !s.board.alertInLow
    | _ => s.board.garnetPrsnt)
  | 0x2000, 1 => s.sup.feedA.mv
  | 0x2000, 2 => s.sup.feedB.mv
  | 0x2000, 3 => s.sup.inputMa
  | 0x2000, 4 => s.sup.inputMw
  | 0x2000, 5 => flags 6 (fun b => match b with
    | 0 => s.sup.feedA.present
    | 1 => s.sup.feedB.present
    | 2 => s.sup.feedA.conducting
    | 3 => s.sup.feedB.conducting
    | 4 => s.sup.feedA.reverseOff
    | _ => s.sup.feedB.reverseOff)
  | 0x2000, 6 => s.sup.energyUj / 1000
  | 0x2001, 1 => s.sup.retryCount
  | 0x2001, 2 => s.sup.lastTrip
  | 0x2001, 3 => s.sup.trips
  | 0x2001, 4 => s.sup.recRelease
  | 0x2001, 5 => one s.sup.recLatched
  | 0x2001, 6 => one s.sup.capOk
  | 0x2110, 2 => match s.sup.state with
    | .starting => 4
    | .active => 5
    | .safe => 6
    | _ => 0
  | 0x2100, n => signed 32 (s.board.temps.look (n - 2) 0)
  | _, _ => s.kept i j

/-- Version string of an image, empty when it is not valid (R135). -/
def Image.shown (x : Image) : Nat := if x.valid then x.version else 0

/-- The image that runs (R135). -/
def State.runningImage (s : State) : Image :=
  match s.start.running with
  | 0 => s.start.slotA
  | 1 => s.start.slotB
  | _ => s.start.golden

/-- Chapter 04: starts, images and the stored dictionary. DEDUCED: log entry 19. -/
def State.reportStart (s : State) (i j : Nat) : Nat :=
  match i, j with
  | 0x2200, 1 => s.start.state.code
  | 0x2200, 2 => s.start.kind
  | 0x2200, 3 => s.start.cause
  | 0x2200, 4 => s.start.source
  | 0x2200, 5 => s.start.running
  | 0x2200, 6 => s.start.failed
  | 0x2200, 7 => s.start.readyMs
  | 0x2200, 8 => s.start.linksReadyMs
  | 0x2200, 9 => s.start.starts
  | 0x2211, 2 => s.start.expiries
  | 0x2220, 2 => s.start.slotA.shown
  | 0x2220, 3 => s.start.slotB.shown
  | 0x2220, 4 => s.start.golden.shown
  | 0x2220, 5 => flags 4 (fun b => match b with
    | 0 => s.start.slotA.valid
    | 1 => s.start.slotB.valid
    | 2 => s.start.golden.valid
    | _ => s.start.verifyFailed)
  | 0x2220, 6 => Config.minSecurity % 65536
  | 0x2230, 2 => max (if s.start.copyA.crcOk then s.start.copyA.generation else 0) (if s.start.copyB.crcOk then s.start.copyB.generation else 0)
  | 0x2230, 3 => s.start.storeStatus
  | _, _ => s.kept i j

/-- Code of a lane direction's state (D:30nn.k2). -/
def dirCode : LaneDir → Nat
  | .on => 0 | .quickIdle => 1 | .deepIdle => 2 | .off => 3

/-- A lane's entries, subindex k0 to kB (R173). DEDUCED: log entry 23. -/
def State.reportLane (s : State) (l j : Nat) : Nat :=
  let x := s.lane l
  match j with
  | 0 => if (s.portOfLane l).isNone then 7 else x.state
  | 1 => x.mode
  | 2 => dirCode x.tx
  | 3 => dirCode x.rx
  | 4 => signed 8 x.cm2 * 2 ^ 24 + signed 8 x.cm1 * 2 ^ 16 + signed 8 x.c0 * 2 ^ 8 + signed 8 x.cp1
  | 5 => x.rxEq
  | 6 => one x.polarity
  | 7 => min x.errors (2 ^ 32 - 1)
  | 8 => min x.peak (2 ^ 32 - 1)
  | 9 => x.failCause
  | 10 => x.failCount
  | 11 => one x.precodeTx + 2 * one x.precodeRx
  | _ => 0

/-- Lanes of a group that are neither failed nor excluded (D:30nn.84); group 40 is the twin lanes. -/
def State.lanesUsable (s : State) (n : Nat) : Nat :=
  flags 8 (fun k => decide ((s.lane (8 * n + k)).state ≠ 6) && !(s.lane (8 * n + k)).excludeCmd)

/-- Chapters 02, 05 and 06: the entries of a lane group. D:30nn.E1 shows a contention before a lost segment, and bits 0 and 2 of
D:30nn.E0 show the last accepted levels, whatever the module drives. DESIGN CHOICE: log entry 49. -/
def State.reportGroup (s : State) (n j : Nat) : Nat :=
  let g := s.group n
  if j = 0xE0 then flags 5 (fun b => match b with
    | 0 => g.perst
    | 1 => g.clkreq && g.clkreqPartner
    | 2 => g.wake
    | 3 => g.prsnt
    | _ => g.driven.isSome)
  else if j = 0xE1 then (if g.contention then 1 else if g.lost then 2 else 0)
  else if j = 0xE2 then g.failedSlots
  else if j = 0xE3 then g.inputs
  else if j = 0x84 then s.lanesUsable n
  else if j < 0x80 then s.reportLane (8 * n + j / 16) (j % 16)
  else s.kept (0x3000 + n) j

/-- Slot state of a whole port (D:34pp.21). DEDUCED: log entry 45. -/
def State.slotState (s : State) (p : Nat) : Nat :=
  let x := s.slot p
  if s.held p then 5 else if x.resetting then 4 else if s.linkActive p then 3
  else if x.pwren then 2 else if bit x.inputs 0 then 1 else 0

/-- Chapters 06, 08, 10 and 17: the entries of a port. A downstream port's entries read 0 on any other port (R293).
DEDUCED: log entries 23 and 25 and 45. -/
def State.reportPort (s : State) (p j : Nat) : Nat :=
  let q := s.port p
  let t := s.trunk p
  let down := decide (s.portRole p = 2)
  match j with
  | 0x10 => if s.held p then 6 else if s.enabled p then max q.state 1 else 0
  | 0x11 => q.width
  | 0x12 => q.rate
  | 0x13 => one q.flit
  | 0x14 => q.cxl
  | 0x15 => q.protocols
  | 0x16 => q.txWidth * 256 + q.rxWidth
  | 0x17 => (s.portLanes s.ep.live p).1
  | 0x18 => q.linkDowns
  | 0x19 => q.downCause
  | 0x1A => q.ide
  | 0x20 => if down then (s.slot p).inputs else 0
  | 0x21 => if down then s.slotState p else 0
  | 0x24 => if down then match s.bridgeOfPort p with
      | some (v, b) => v * 256 + b
      | none => 0xFFFF
    else 0
  | 0x25 => if down then (s.slot p).ident else 0
  | 0x26 => if down then s.kept (0x3400 + p) j else 0
  | 0x27 => if down then flags 16 (fun l => (bindings s.ep.live).any (fun x => decide (bindKind x.2.2 = 2 ∧ bindPort x.2.2 = p ∧ bindLd x.2.2 = l))) else 0
  | 0x28 => if down then s.kept (0x3400 + p) j else 0
  | 0x29 => if down then s.kept (0x3400 + p) j else 0
  | 0x40 => t.peerModule
  | 0x41 => t.peerPort
  | 0x43 => s.rtt p
  | 0x44 => s.headroom p
  | 0x45 => s.replayBytes p
  | 0x4C => t.own + 16 * t.partner + 256 * one t.exceeds
  | _ => s.kept (0x3400 + p) j

/-- Chapter 07: the switch core and the shared buffer. -/
def State.reportCore (s : State) (i j : Nat) : Nat :=
  if 0x4040 ≤ i ∧ i < 0x40E0 then
    let p := i - 0x4040
    match j with
    | 5 => one (s.port p).ctSuspended
    | 6 => s.queuedAt p
    | 7 => s.bulkSharedAt p
    | _ => s.kept i j
  else if i = 0x4011 then s.core.bankState.look j 0
  else if i = 0x4020 then s.attachmentOf j
  else if i = 0x40E1 then
    if pathCount (s.pathSetIn s.ep.live j) = 0 then 0 else ((List.range 64).map (fun b => s.effective j b % 8 * 2 ^ (3 * b))).sum
  else if i = 0x40E2 then flags 64 (fun b => (s.bucket j b).pinned)
  else if i = 0x40E3 then flags 64 (fun b => (s.bucket j b).failed)
  else match i, j with
    | 0x4000, 1 => s.poolCells
    | 0x4000, 2 => signed 32 s.sharedCells
    | 0x4000, 3 => signed 32 s.sharedFree
    | 0x4000, 4 => s.sumRes s.ep.live
    | 0x4000, 5 => if s.core.suspended then 0 else s.sumMinB s.ep.live
    | 0x4000, 6 => s.cellsInUse
    | 0x4000, 7 => flags 64 (fun b => decide (s.core.bankState.look b 0 ≠ 2))
    | 0x4000, 8 => flags 40 (fun n => !s.core.attachRetired.look n false)
    | 0x4000, 9 => one s.core.suspended
    | 0x4006, 3 => (s.core.buckets.filter (fun b => b.2.pinned)).length
    | _, _ => s.kept i j

/-- Chapters 08 and 09: the tracker, bridges and windows. -/
def State.reportFabric (s : State) (i j : Nat) : Nat :=
  if i = 0x40F4 then s.budgetUsed (.vh j)
  else if i = 0x40F5 then flags 256 (fun b => (s.bridge j b).presence)
  else match i, j with
    | 0x40F0, 2 => (s.fab.track.filter (fun t => !t.expired)).length
    | 0x40F0, 3 => (s.fab.track.filter (fun t => t.expired)).length
    | 0x4200, 7 => (s.fab.track.filter (fun t => t.window.isSome && !t.expired)).length
    | _, _ => s.kept i j

/-- Extents whose range is being scrubbed or failed its scrub, with the descriptor of the range (R383). -/
def State.scrubbed (s : State) : List Ext :=
  (s.pool.extents.filter (fun x => decide (x.2.state = 1 ∨ x.2.state = 7))).map (fun x => extFields x.2.was)

/-- Pool devices in state Ready. -/
def State.readyDevices (s : State) : List (Nat × Device) := s.pool.devices.filter (fun d => decide (d.2.state = 3))

/-- Capacity of some extents on the Ready devices, in 256 MiB units (R393). -/
def State.readyCapacity (s : State) (xs : List Ext) : Nat :=
  (s.readyDevices.map (fun d => ((xs.filter (fun x => x.members.contains d.1)).map (·.devSize)).sum)).sum

/-- Capacity of the Ready devices that lies in no extent in use and in none being scrubbed (D:5000.04). DEDUCED: log entry 45. -/
def State.freeCapacity (s : State) : Nat :=
  let busy := (extentsUsed s.ep.live).map (·.2) ++ s.scrubbed
  (s.readyDevices.map (fun d => d.2.capacity - ((busy.filter (fun x => x.members.contains d.1)).map (·.devSize)).sum)).sum

/-- Chapter 11: memory pools. DEDUCED: log entry 45. -/
def State.reportPool (s : State) (i j : Nat) : Nat :=
  if i = 0x5021 then (s.device j).state
  else if i = 0x5022 then (s.device j).capacity
  else if i = 0x5023 then (s.device j).serial
  else if 0x5048 ≤ i ∧ i ≤ 0x504B then
    match bridgeOfEndpointIn s.ep.live ((i - 0x5048) * 256 + j) with
    | some (v, b) => v * 256 + b
    | none => 0xFFFF
  else if 0x5090 ≤ i ∧ i ≤ 0x509F then (s.extent ((i - 0x5090) * 256 + j)).state
  else match i, j with
    | 0x5000, 1 => s.readyDevices.length
    | 0x5000, 2 => (s.readyDevices.map (fun d => d.2.capacity)).sum
    | 0x5000, 3 => s.readyCapacity ((extentsUsed s.ep.live).map (·.2))
    | 0x5000, 4 => s.freeCapacity
    | 0x5000, 5 => s.readyCapacity s.scrubbed
    | 0x5000, 6 => (s.pool.extents.filter (fun x => decide (x.2.state = 6))).length
    | _, _ => s.kept i j

/-- Ledger entries in usable banks (D:5100.01). -/
def State.ledgerCapacity (s : State) : Nat := 16384 * ((List.range 16).filter (fun b => decide (s.home.bankState.look b 0 = 0))).length

/-- Chapter 12: the ledger. -/
def State.reportLedger (s : State) (i j : Nat) : Nat :=
  if i = 0x5101 then s.home.bankState.look j 0
  else if i = 0x5103 then ((s.home.entries.filter (fun e => !e.shadow)).map (fun e => e.held j)).sum
  else match i, j with
    | 0x5100, 1 => s.ledgerCapacity
    | 0x5100, 2 => (s.home.entries.filter (fun e => !e.shadow)).length
    | 0x5100, 3 => (s.home.entries.filter (fun e => e.shadow)).length
    | 0x5100, 0x10 => s.slotsInUse
    | 0x5100, 0x11 => one (s.home.departed.any (fun d => d.sweeping))
    | 0x5110, 2 =>
      let q := s.kept 0x5110 1
      match s.home.entries.find? (fun e => decide (e.region = bits q 63 56 ∧ e.page = bits q 33 0)) with
      | some e => e.word
      | none => 0
    | _, _ => s.kept i j

/-- Clusters that are not retired. -/
def State.usableClusters (s : State) : List Nat := (List.range 8).filter (fun c => !s.beryl.clusterRetired.look c false)

/-- Chapter 13: the Beryl engine. -/
def State.reportBeryl (s : State) (i j : Nat) : Nat :=
  if i = 0x6020 then one (s.beryl.clusterRetired.look j false)
  else if i = 0x6021 then s.clusterCells j
  else if i = 0x6040 then
    let n := s.kept 0x6040 1
    let q := s.qp n
    if !s.qpExists n then (if j = 2 then 0xFF else 0)
    else match j with
      | 2 => q.state.code
      | 3 => q.peerEdge * 2 ^ 17 + q.peerQp
      | 4 => q.sentPsn
      | 5 => q.expected
      | 6 => q.rate
      | 7 => s.domainOfQp n * 2 ^ 16 + q.inst
      | _ => q.counter
  else match i, j with
    | 0x6000, 2 => 2048 * s.usableClusters.length
    | 0x6000, 5 => flags 8 (fun c => !s.beryl.clusterRetired.look c false)
    | 0x6000, 6 => s.beryl.qps.length
    | 0x6000, 7 => (s.beryl.qps.filter (fun q => q.2.resident)).length
    | 0x6000, 8 => (s.beryl.regions.filter (fun r => decide (r.2.state = .valid))).length
    | 0x6000, 9 => (s.beryl.regions.filter (fun r => decide (r.2.state = .asked ∨ r.2.state = .revoking))).length
    | _, _ => s.kept i j

/-- A domain is joined to another one by a local window or a doorbell channel (R319). -/
def State.joined (s : State) (d : Nat) : Bool :=
  (windows s.ep.live).any (fun w => decide (w.2.pages ≠ 0 ∧ w.2.kind = 0 ∧ s.domainOfVh w.2.nearVh ≠ w.2.farDomain) &&
      (decide (s.domainOfVh w.2.nearVh = d) || decide (w.2.farDomain = d))) ||
    s.ep.live.any (fun (e : Nat × Nat) => decide (0x42C0 ≤ e.1 / 256 ∧ e.1 / 256 ≤ 0x42C3) && bit e.2 63 &&
      decide (s.domainOfVh (bits e.2 62 57) ≠ s.domainOfVh (bits e.2 56 51)) &&
      (decide (s.domainOfVh (bits e.2 62 57) = d) || decide (s.domainOfVh (bits e.2 56 51) = d)))

/-- Chapter 14: a domain's entry. DEDUCED: log entry 45. -/
def State.reportDomain (s : State) (d j : Nat) : Nat :=
  match j with
  | 6 => if !s.domainValidIn s.ep.live d then 0 else if s.isContained d then 2 else 1
  | 9 => s.minimumUsed d
  | 0xA => s.domainTags d
  | 0xC => (s.validInsts.filter (fun i => decide ((s.instD i).domain = d))).length
  | 0xD => flags 3 (fun b => match b with
    | 0 => (s.portsOfDomain d ++ s.hostPortsOfDomain d).all (fun p => decide (s.portIn s.ep.live p 0x23 = 1))
    | 1 => s.joined d
    | _ => !s.col.safe)
  | _ => s.kept (0x7000 + d) j

/-- Chapters 15 and 16: the master budget, cores, interrupts and Sprout. -/
def State.reportControl (s : State) (i j : Nat) : Nat :=
  if i = 0x8001 then flags 8 (fun t => decide (t < 4) && decide (s.coreOfTask t = j) && !s.irq.coreRetired.look j false)
  else match i, j with
    | 0x8065, 2 => s.budgetUsed .master
    | 0x8000, 1 => flags 4 (fun k => !s.irq.coreRetired.look k false)
    | 0x8000, 2 => s.usableCores.length
    | 0x8020, 3 => s.sprout.wakeSources
    | 0x8020, 4 => s.sprout.wakeFrame
    | 0x8020, 5 => s.sprout.wakes
    | 0x8021, 1 => Config.recordSize s.start.recConfig
    | 0x8021, 2 => if s.start.recWriting then 2 else if s.start.recValid then 1 else 0
    | 0x8021, 4 => s.sprout.readErrors
    | _, _ => s.kept i j

/-- Chapter 17: the entries of one fault source. -/
def State.reportSource (s : State) (n j : Nat) : Nat :=
  let e := s.source n
  match j with
  | 1 => one e.sticky
  | 3 => e.count
  | 8 => one e.severe
  | 9 => scopeOf n
  | 0xA => one (fixedReaction n).isSome
  | 0xB => min e.events (2 ^ 32 - 1)
  | _ => s.kept (0x8400 + n) j

/-- Chapter 17: the collector. -/
def State.reportCollector (s : State) (i j : Nat) : Nat :=
  let now : SafeRec := if s.col.safe then s.col.now else {}
  match j with
  | 1 => ((s.col.sources.filter (fun e => e.2.sticky)).map (fun e => 2 ^ e.1)).sum
  | 2 => ((s.col.sources.filter (fun e => e.2.severe)).map (fun e => 2 ^ e.1)).sum
  | 3 => one s.col.safe
  | 4 => now.cause
  | 5 => now.source
  | 6 => now.stamp
  | 7 => s.col.prev.cause
  | 8 => s.col.prev.source
  | 9 => s.col.prev.stamp
  | 0xB => flags 160 (fun p => (s.port p).heldFault)
  | _ => s.kept i j

/-- Chapter 18: the twin. -/
def State.reportTwin (s : State) (i j : Nat) : Nat :=
  if i = 0x9004 then (if (s.rgnIn s.ep.live j).valid then s.homeOf j else 0xFF)
  else match i, j with
    | 0x9000, 4 => s.twin.state.code
    | 0x9000, 5 => s.twin.twinState
    | 0x9001, 3 => s.twin.attachResult
    | 0x9003, 5 => s.mirrorBytes
    | 0x9005, 1 => s.twin.mismatch
    | 0x9006, 2 => s.twin.store.look (key (bits (s.kept 0x9006 1) 31 16) (bits (s.kept 0x9006 1) 15 8)) 0
    | _, _ => s.kept i j

/-- The module's link-local address on a segment (R641). -/
def linkLocal (slot k : Nat) : Nat := 0xFE80 * 2 ^ 112 + 0x080000FFFE000000 + slot % 16 * 256 + k

/-- Sessions that are open (D:1110.01). -/
def State.openSessions (s : State) : List Session := s.adp.sessions.filter (fun x => !x.halfOpen)

/-- A trust anchor is valid (R648). -/
def State.anchorsValid (s : State) : List Nat := (s.adp.anchors.filter (fun (a : Nat × Nat) => bit a.2 0)).map (·.1)

/-- Chapter 19: segments and sessions. -/
def State.reportAdp (s : State) (i j : Nat) : Nat :=
  match i, j with
  | 0x1100, 5 => linkLocal s.board.slotId 0
  | 0x1100, 6 => linkLocal s.board.slotId 1
  | 0x1100, 7 => flags 4 (fun b => match b with
    | 0 => s.adp.upA
    | 1 => s.adp.upB
    | 2 => s.adp.conflictA
    | _ => s.adp.conflictB)
  | 0x1110, 1 => s.openSessions.length
  | 0x1121, 1 => one !s.anchorsValid.isEmpty
  | _, _ => s.kept i j

/-- The capacity entries D:1010.01 to D:1010.0A (R682). -/
def State.capacities (s : State) : List Nat :=
  [(((List.range 40).filter (fun n => !s.core.attachRetired.look n false)).map (fun n => popCount (s.lanesUsable n) 8)).sum,
   popCount (s.lanesUsable 40) 8, ((List.range 40).filter (fun n => !s.core.attachRetired.look n false)).length, s.poolCells,
   ((List.range 64).filter (fun b => decide (s.core.bankState.look b 0 = 0))).length, s.ledgerCapacity,
   ((List.range 16).filter (fun b => decide (s.home.bankState.look b 0 = 0))).length, 2048 * s.usableClusters.length,
   s.usableClusters.length, s.usableCores.length]

/-- The headline values of the capacity entries (R682). -/
def capacityFull : List Nat := [320, 8, 40, 262144, 64, 262144, 16, 16384, 8, 4]

/-- Chapter 20: identity and capacity. -/
def State.reportIdentity (s : State) (i j : Nat) : Nat :=
  match i, j with
  | 0x1000, 1 => 0x49636E6F722053696C69636F6E
  | 0x1000, 2 => 0x426F726C6F6E
  | 0x1000, 3 => 0x424D58392D33323041
  | 0x1000, 5 => Config.serialNumber % 2 ^ 64
  | 0x1000, 6 => Config.hardwareRevision % 256
  | 0x1000, 7 => s.runningImage.version
  | 0x1002, 1 => Config.pciVendor % 65536
  | 0x1002, 6 => Config.pciVendor % 65536 * 65536 + 0x9320
  | 0x1002, 7 => Config.hardwareRevision % 256
  | 0x1010, 0xB => flags 7 (fun k => match k with
    | 0 => decide (((List.range 40).map (fun n => popCount (s.lanesUsable n) 8)).sum < 320)
    | 1 => decide (popCount (s.lanesUsable 40) 8 < 8)
    | 2 => (List.range 40).any (fun n => s.core.attachRetired.look n false)
    | 3 => (List.range 64).any (fun b => decide (s.core.bankState.look b 0 ≠ 0))
    | 4 => (List.range 16).any (fun b => decide (s.home.bankState.look b 0 ≠ 0))
    | 5 => (List.range 8).any (fun c => s.beryl.clusterRetired.look c false)
    | _ => (List.range 4).any (fun k => s.irq.coreRetired.look k false))
  | 0x1010, 0xC => one ((s.capacities.zip capacityFull).any (fun x => decide (x.1 < x.2)))
  | 0x1010, 0xD => s.kept i j
  | 0x1010, n => s.capacities.getD (n - 1) 0
  | _, _ => s.kept i j

/-- Eye-scan entries (R168 to R170): status, points and the blocks of 128 records, the first record first. -/
def State.reportScan (s : State) (i j : Nat) : Nat :=
  if 0xA030 ≤ i then
    let x := s.scans.look (i - 0xA030) {}
    ((List.range 128).map (fun k => x.records.look ((j - 1) * 128 + k) 0 * 2 ^ (64 * (127 - k)))).sum
  else
    let x := s.scans.look (i - 0xA020) {}
    match j with
    | 0xB => x.status
    | 0xC => x.total
    | 0xD => x.done
    | 0xE => x.fullScale
    | _ => s.kept i j

/-- What a report entry reads (R674). -/
def State.report (s : State) (i j : Nat) : Nat :=
  if i < 0x1100 then s.reportIdentity i j
  else if i < 0x1200 then s.reportAdp i j
  else if i < 0x2000 then s.reportBeat i j
  else if i < 0x2200 then s.reportBoard i j
  else if i < 0x3000 then s.reportStart i j
  else if i < 0x3028 then s.reportGroup (i - 0x3000) j
  else if i < 0x34A0 then s.reportPort (i - 0x3400) j
  else if i < 0x40F0 then s.reportCore i j
  else if i < 0x4400 then s.reportFabric i j
  else if i < 0x5000 then s.kept i j
  else if i < 0x5100 then s.reportPool i j
  else if i < 0x6000 then s.reportLedger i j
  else if i < 0x6080 then s.reportBeryl i j
  else if 0x6090 ≤ i ∧ i ≤ 0x609F then (s.inst ((i - 0x6090) * 256 + j)).state
  else if i < 0x7000 then s.kept i j
  else if i < 0x8000 then s.reportDomain (i - 0x7000) j
  else if i = 0x8030 then s.reportCollector i j
  else if i < 0x8400 then s.reportControl i j
  else if i < 0x8800 then s.reportSource (i - 0x8400) j
  else if i = 0x9008 then (if j = 0x84 then s.lanesUsable 40 else s.reportLane (320 + j / 16) (j % 16))
  else if i < 0xA000 then s.reportTwin i j
  else if i = 0xA010 then s.reportBoard i j
  else s.reportScan i j

/-- A setting as it was last written or loaded, one that waits for a boundary or a start included (R674); those of a fault
source are the collector's, and a trust anchor is kept in its own flash area (R589, R648). -/
def State.written (s : State) (i j : Nat) : Nat :=
  let k := key i j
  if i = 0x1120 then s.adp.anchors.look j 0
  else if 0x8400 ≤ i ∧ i < 0x8800 then
    let e := s.source (i - 0x8400)
    match j, fixedReaction (i - 0x8400) with
    | 4, _ => e.newN.getD e.n
    | 5, _ => e.newW.getD e.w
    | _, some r => r
    | 6, none => e.newNormal.getD e.normal
    | _, none => e.newSevere.getD e.severeR
  else s.settingsNext.look k (s.settingsStart.look k (s.setting i j))

/-- What a command reads: the fixed value that its meaning states, all ones for the number commands and 0 for the others; the
reset of a group and the exclusion of a lane read their present state, and the commands of a port and a fault source that keep
a state read it (R674). -/
def State.readCommand (s : State) (i j : Nat) : Nat :=
  if 0x8400 ≤ i ∧ i < 0x8800 then s.reportSource (i - 0x8400) j
  else if 0x3400 ≤ i ∧ i < 0x34A0 then
    one (if j = 0x50 then (s.port (i - 0x3400)).heldFault else (s.slot (i - 0x3400)).pwren)
  else if 0x3000 ≤ i ∧ i < 0x3028 then one (s.lane (8 * (i - 0x3000) + j / 16)).excludeCmd
  else match i, j with
    | 0x2240, _ => one (decide (s.roleIn s.ep.live j = 2) && (s.start.groupPerst.look j false || decide ((s.group j).driven ≠ some true)))
    | 0x9008, _ => one (s.lane (320 + j / 16)).excludeCmd
    | 0x4013, _ => 0xFF
    | 0x5102, _ => 0xFF
    | 0x6030, _ => 0xFF
    | 0x8000, _ => 0xFF
    | 0x5001, _ => 0xFFFF
    | 0x9002, _ => 0xFFFF
    | _, _ => 0

/-- What D:34pp.30 reads in a table copy: a host port's is the domain of its hierarchy, a trunk port's D0000 (R522).
DEDUCED: log entry 26. -/
def State.portDomain (s : State) (t : Tbl Nat) (p : Nat) : Nat :=
  match s.portRoleIn t p with
  | 1 => let v := s.portIn t p 6
         if v < 64 then s.domainOfVhIn t v else 0
  | 3 => 0
  | _ => s.portIn t p 0x30

/-- What an entry reads in a copy of the staged tables, 0 the shadow, 1 the live copy (R674, R675). A port number that names no
port in the copy read has its port and buffer entries read as disabled, that is at their defaults (R177). -/
def State.readEntry (s : State) (copy : Nat) (r : EntryRow) (i j : Nat) : Nat :=
  let v := match r.kind with
    | .report => s.report i j
    | .setting => s.written i j
    | .staged =>
      let t := if copy = 0 then s.ep.shadow else s.ep.live
      if namesPort i && !s.portNamed t (portOfIndex i) then Dict.dflt s.board.slotId (key i j)
      else if 0x3400 ≤ i ∧ i < 0x34A0 then
        (if j = 0x30 then s.portDomain t (i - 0x3400) else s.entryIn t i j)
      else if 0x3000 ≤ i ∧ i < 0x3028 then s.inTables t (0x3000 + s.ruling t (i - 0x3000)) j
      else s.entryIn t i j
    | .selector => if i = 0x2221 then s.start.blockOffset else s.kept i j
    | .command => s.readCommand i j
  if v < 2 ^ r.width then v else Config.counterPast (key i j) v % 2 ^ r.width

end Sys2Proof.Machine
end

