-- ==== Sys2Proof/Machine/Writes.lean ====
section
/-!
DEFINITION. Writes of dictionary entries: the checks of an item in the order of R685, and what a write does by the kind of
its entry (R674). A command entry does what its own command does.
-/

namespace Sys2Proof.Machine

/-! ### The command entries -/

/-- The status that an output carries. -/
def Out.status? : Out → Option Nat
  | .status c => some c
  | _ => none

/-- The status that an outcome answers, the newest one. -/
def statusOf : Res → Nat
  | .next t => (t.out.findSome? Out.status?).getD 0
  | _ => 0

/-- The state of an outcome without the status that it answers, which the ADP response carries. DEDUCED: log entry 38. -/
def settled (s : State) : Res → State
  | .next t =>
    let n := t.out.length - s.out.length
    { t with out := (t.out.take n).eraseP (fun o => o.status?.isSome) ++ t.out.drop n }
  | _ => s

/-- The image slot that is not running (R128); beside the golden image, the slot of D:2220.01. DESIGN CHOICE: log
entry 49. -/
def State.idleSlot (s : State) : Fin 2 :=
  if s.start.running = 0 then 1 else if s.start.running = 1 then 0 else Fin.ofNat 2 (s.setting 0x2220 1)

/-- A port is a target of some binding. -/
def State.portBound (s : State) (p : Nat) : Bool :=
  (bindings s.ep.live).any (fun x => decide ((bindKind x.2.2 = 1 ∨ bindKind x.2.2 = 2) ∧ bindPort x.2.2 = p))

/-- A write of D:34pp.22: PWREN of a slot, refused as busy while the port is bound (R259, R263, R293). -/
def State.writePwren (p v : Nat) (s : State) : State :=
  if s.portBound p then s.answer 1 else (s.setPwren p (decide (v = 1))).answer 0

/-- What a write of a value does at a command entry, in a cycle of the beat (R674): the command of that entry. The full scale
that a scan latches is a free value (R174, log entry 4). DEDUCED: log entries 19 and 38. -/
def State.commandItem (i j v : Nat) (cycle : Fin 256) (s : State) : Res :=
  if 0x8400 ≤ i ∧ i < 0x8800 then
    if j = 1 then execStickyClear (Fin.ofNat 1024 (i - 0x8400)) s else execForce (Fin.ofNat 1024 (i - 0x8400)) s
  else if 0x7000 ≤ i ∧ i < 0x8000 then execContainRelease (Fin.ofNat 4096 (i - 0x7000)) s
  else if 0x3400 ≤ i ∧ i < 0x34A0 then
    if j = 0x50 then execPortRelease (Fin.ofNat 160 (i - 0x3400)) (decide (v = 1)) s
    else commandWrite (State.writePwren (i - 0x3400) v) s
  else if 0x3000 ≤ i ∧ i < 0x3028 then execLaneExclude (Fin.ofNat 328 (8 * (i - 0x3000) + j / 16)) (decide (v = 1)) s
  else if 0xA020 ≤ i ∧ i < 0xA024 then
    if j = 9 then
      let r := s.fresh 8
      execScanStart (Fin.ofNat 4 (i - 0xA020)) (BitVec.ofNat 16 r.1) r.2
    else execScanAbort (Fin.ofNat 4 (i - 0xA020)) s
  else match i, j with
    | 0x1210, 1 => execCommitRequest (BitVec.ofNat 32 v) cycle s
    | 0x1210, _ => execShadowDiscard true s
    | 0x2001, _ => execLatchRecordClear s
    | 0x2030, _ => execTwinRelease s
    | 0x2110, _ => execStandbyRequest s
    | 0x2210, _ => if v = 1 then execWarmStartRequest s else execColdStartRequest s
    | 0x2221, 2 => execImageBlockWrite s.idleSlot (BitVec.ofNat 8192 v) s
    | 0x2221, _ => execImageVerify s.idleSlot s
    | 0x2230, _ => execStoreRequest s
    | 0x2240, _ => execGroupPerst (Fin.ofNat 40 j) s
    | 0x4013, 1 => execBankRetire (Fin.ofNat 64 v) none s
    | 0x4013, _ => execAttachmentRetire (Fin.ofNat 40 v) none s
    | 0x5001, 1 => execReleaseExtent (Fin.ofNat 4096 v) s
    | 0x5001, _ => execRescrubExtent (Fin.ofNat 4096 v) s
    | 0x5102, _ => execLedgerBankRetire (Fin.ofNat 16 v) s
    | 0x6030, _ => execClusterRetire (Fin.ofNat 8 v) none s
    | 0x60A0, _ =>
      if bits v 31 30 = 1 then execInstanceResetDrain (Fin.ofNat 4096 v) s else execInstanceResetSquash (Fin.ofNat 4096 v) s
    | 0x8000, _ => execCoreRetire (BitVec.ofNat 8 v) s
    | 0x8030, 0xA => execCollectorInject s
    | 0x8030, _ => execClearAll s
    | 0x9001, 1 => execAttachRequest true s
    | 0x9001, 2 => execDetachRequest true s
    | 0x9001, _ => execServeAlone true s
    | 0x9002, _ => execHomeMove (BitVec.ofNat 16 v) s
    | 0x9008, _ => execLaneExclude (Fin.ofNat 328 (320 + j / 16)) (decide (v = 1)) s
    | _, _ => .next (s.answer 3)

/-! ### The other kinds of entry -/

/-- A write of a setting (R674): it waits for the next boundary or the next start, a source's for step 5 (R589), and the
retained record is marked at the boundary (R117); a trust anchor is saved at once (R648). DEDUCED: log entry 38. -/
def State.writeSetting (i j v : Nat) (s : State) : State :=
  let k := key i j
  let mark (s : State) : State := { s with start := { s.start with recMark := true } }
  if i = 0x1120 then { s with adp := { s.adp with anchors := s.adp.anchors.put j v } }
  else if 0x8400 ≤ i ∧ i < 0x8800 then
    mark (s.setSource (i - 0x8400) (fun e => match j with
      | 4 => { e with newN := some v }
      | 5 => { e with newW := some v }
      | 6 => { e with newNormal := some v }
      | _ => { e with newSevere := some v }))
  else if startKeys.contains k then mark { s with settingsStart := s.settingsStart.put k v }
  else mark { s with settingsNext := s.settingsNext.put k v }

/-- A write of a staged entry: the shadow holds the value (R20, R674). -/
def State.writeStaged (i j v : Nat) (s : State) : State :=
  { s with ep := { s.ep with shadow := s.ep.shadow.put (key i j) v } }

/-- A write of a selector (R674). DEDUCED: log entry 37. -/
def State.writeSelector (i j v : Nat) (s : State) : State :=
  if i = 0x2221 then { s with start := { s.start with blockOffset := v } } else s.setView i j v

/-- What a write that passes its checks does. DEDUCED: log entry 38. -/
def State.writeEntry (r : EntryRow) (i j v : Nat) (cycle : Fin 256) (s : State) : State :=
  match r.kind with
  | .report => s
  | .setting => s.writeSetting i j v
  | .staged => s.writeStaged i j v
  | .selector => s.writeSelector i j v
  | .command => settled s (s.commandItem i j v cycle)

/-! ### The checks of an item (R685) -/

/-- Value length of an entry's type, in bytes (R670); of a string the greatest. -/
def EntryRow.bytes (r : EntryRow) : Nat :=
  match r.ty with
  | .u8 | .bool => 1
  | .u16 | .domain | .edge => 2
  | .u32 | .i32 | .beats => 4
  | .u64 => 8
  | .ipv6 => 16
  | .str | .bitmap => (r.width + 7) / 8

/-- Step 5: the type code and the value length match (R672). -/
def EntryRow.typed (r : EntryRow) (x : AdpItem) : Bool :=
  decide (x.code = r.ty.code) && (if r.ty = .str then decide (x.len ≤ r.bytes) else decide (x.len = r.bytes))

/-- A command of type bool, to which a write of 0 does nothing (R674); the commands with a default hold a state that 0 changes. -/
def EntryRow.silent (r : EntryRow) (i j v : Nat) : Bool :=
  decide (r.kind = .command ∧ r.ty = .bool ∧ v = 0) &&
    !decide ((0x3000 ≤ i ∧ i < 0x3028) ∨ i = 0x9008 ∨ ((0x3400 ≤ i ∧ i < 0x34A0) ∧ (j = 0x22 ∨ j = 0x50)))

/-- The port of an entry exists for a write: in the staged layout for a staged entry, else in the live one (R177). -/
def State.namesObject (s : State) (r : EntryRow) (i : Nat) : Bool :=
  let t := if r.kind = .staged then s.ep.shadow else s.ep.live
  if 0x3400 ≤ i ∧ i < 0x34A0 then s.portNamed t (i - 0x3400)
  else if 0x4040 ≤ i ∧ i < 0x40E0 then s.portNamed t (i - 0x4040)
  else true

/-- Step 7: the module can perform the write now (R29, R127, R129, R130, R560, R600, R613); a command says so itself. -/
def State.writeBusy (s : State) (r : EntryRow) (i j v : Nat) (cycle : Fin 256) : Nat :=
  let busy (b : Bool) : Nat := if b then 1 else 0
  match r.kind with
  | .command => statusOf (s.commandItem i j v cycle)
  | .staged => busy (!s.adpOpen || decide (s.ep.commit = .pending ∨ s.ep.commit = .deferred))
  | _ =>
    if i = 0x2221 then busy !s.updatesOpen
    else busy (!s.adpOpen || (decide (i = 0x9000) && !decide (s.twin.state = .holding ∨ s.twin.state = .single)))

/-- Steps 6 and 7: the value, then the module's state. -/
def State.valueStatus (s : State) (r : EntryRow) (i j v : Nat) (cycle : Fin 256) : Nat :=
  if !s.valueOk r s.ep.shadow i j v then 2
  else if r.silent i j v then 0
  else s.writeBusy r i j v cycle

/-- A domain other than D0000 reaches an entry: its own, the state of its own instances, and the entries of ports that it, or
a logical device of it, owns (R494, R650). -/
def State.reaches (s : State) (d i j : Nat) : Bool :=
  decide (d = 0) || decide (i = 0x7000 + d) ||
    (decide (0x6090 ≤ i ∧ i < 0x60A0) && s.validInsts.contains ((i - 0x6090) * 256 + j) &&
      decide ((s.instD ((i - 0x6090) * 256 + j)).domain = d)) ||
    (decide (0x3400 ≤ i ∧ i < 0x34A0) && s.portNamed s.ep.live (i - 0x3400) &&
      (decide (s.domainOfPortIn s.ep.live (i - 0x3400) = d) ||
        (decide (s.portRole (i - 0x3400) = 2) && (List.range 16).any (fun l => decide (s.sliceDomainIn s.ep.live (i - 0x3400) l = d)))))

/-- The status of a WRITE item for a session of a level and a domain (R685); an unclaimed module lets only the trust anchors be
written (R651). -/
def State.itemStatus (s : State) (unclaimed : Bool) (level dom : Nat) (x : AdpItem) (cycle : Fin 256) : Nat :=
  match Dict.find x.index x.sub with
  | none => 3
  | some r =>
    if !s.namesObject r x.index then 3
    else if !s.reaches dom x.index x.sub then 4
    else if r.kind = .report then 6
    else if level < r.level ∨ (unclaimed = true ∧ x.index ≠ 0x1120) then 4
    else if !r.typed x then 5
    else s.valueStatus r x.index x.sub x.value cycle

/-! ### Registers with no command of their own -/

/-- A host's write to a register of its management function or of an instance page (R527, R529 to R531, R536, R537, R541, R542). -/
def State.writeHost (v : Nat) (reg : HostReg) (s : State) : State :=
  let instOf (slot : Nat) (f : Instance → Instance) : State :=
    match s.instOfSlot v slot with
    | some i => if s.pageDead i then s.pageDiscard else s.setInst i f
    | none => s.pageDiscard
  match reg with
  | .eventCause ones => s.setFunc v (fun f => { f with cause := f.cause &&& (2 ^ 32 - 1 - ones.toNat) })
  | .errqConsumer n => s.setFunc v (fun f => { f with errqConsumer := n.toNat })
  | .errqBase a => s.setFunc v (fun f => { f with errqNew := some (a.toNat, (f.errqNew.map (·.2)).getD f.errqLog2) })
  | .errqLog2 n => s.setFunc v (fun f => { f with errqNew := some ((f.errqNew.map (·.1)).getD f.errqBase, n.toNat) })
  | .cmdWord k w a => s.setFunc v (fun f => { f with slots := f.slots.put k.val { f.slots.look k.val {} with
      regs := (f.slots.look k.val {}).regs.put (w.val + 1) a.toNat } })
  | .mboxLength n => s.setFunc v (fun f => { f with reqLen := n.toNat })
  | .mboxRequest k a => s.setFunc v (fun f => { f with request := f.request.put k.val a.toNat })
  | .cmdDone k => s.setFunc v (fun f => { f with slots := f.slots.put k.val { f.slots.look k.val {} with done := false } })
  | .msixEntry k a d m => s.setVec false (v * 64 + k.val) (fun x => { x with addr := a.toNat, data := d.toNat, masked := m })
  | .fnModeration k n t => s.setVec false (v * 64 + k.val) (fun x => { x with modCount := n.toNat, modTimer := t.toNat })
  | .dbMask c m =>
    let e := s.channelIn s.ep.live c.val
    if bit e 63 && decide (bits e 56 51 = v) then s.setChannel c.val (fun x => { x with mask := m.toNat }) else s
  | .storeEntry k a d m n t =>
    match s.instOfVector k.val with
    | some i =>
      if (s.instD i).vh = v then
        s.setVec true k.val (fun x => { x with
          addr := a.toNat / 4 * 4, data := d.toNat, masked := m, modCount := n.toNat, modTimer := t.toNat })
      else s
    | none => s
  | .evqConsumer slot n => instOf slot.val (fun x => { x with evConsumer := n.toNat })
  | .idleHint slot b => instOf slot.val (fun x => { x with idleHint := b })
  | .badForm => (s.bump 0x8063 v).raise 371

/-- A write to 4 B of enable[k]: bits 8 to 11 act only in their own core's register (R568, R569). -/
def State.writeEnable (k word : Nat) (value : BitVec 32) (s : State) : State :=
  s.each (List.range 32) (fun b s =>
    let n := 32 * word + b
    if 8 ≤ n ∧ n < 12 ∧ n ≠ 8 + k then s
    else { s with irq := { s.irq with enable := s.irq.enable.put (k * 512 + n) (value.getLsbD b) } })

/-- A write to config[s] of the collector (R589, R591, R604): the fields of a reaction that its source does not allow keep
their values. -/
def State.writeConfig (n v : Nat) (s : State) : State :=
  let ok (c : Nat) : Bool := (fixedReaction n).isNone && decide (c ≤ 4 ∧ (c = 2 ∨ c = 3 → scopeOf n < 40))
  let m := bits v 52 50
  let h := bits v 58 56
  let s1 : State := { s with start := { s.start with recMark := true } }
  s1.setSource n (fun e => { e with
    newN := some (bits v 47 40), newW := some (bits v 20 0)
    newNormal := if ok m then some m else e.newNormal, newSevere := if ok h then some h else e.newSevere })

/-- A write with no command of its own, in a cycle of the beat (R674): one of an entry is checked as that of an Own session
of D0000 and answered; D:10F0.01 is held per session, and no session writes it here. DEDUCED: log entry 38. -/
def State.registerWrite (w : RegWrite) (cycle : Fin 256) (s : State) : State :=
  match w with
  | .entry i j v =>
    match Dict.find i.toNat j.toNat with
    | none => s.answer 3
    | some r =>
      if !s.namesObject r i.toNat then s.answer 3
      else if r.kind = .report then s.answer 6
      else if i.toNat = 0x10F0 then s.answer 4
      else
        let c := s.valueStatus r i.toNat j.toNat v cycle
        (if c = 0 ∧ r.silent i.toNat j.toNat v = false then s.writeEntry r i.toNat j.toNat v cycle else s).answer c
  | .host v reg => s.ifDo s.running (State.writeHost v.val reg)
  | .irqEnable k word value => s.writeEnable k.val word.val value
  | .config n v => s.writeConfig n.val v.toNat
  | .status n v => s.ifDo (v.getLsbD 15) (State.clearSource n.val)
  | .force v => s.raise (v.toNat % 1024)
  | .ignored => s

/-- REGISTER_WRITE: a write to a setting or register with no row of its own (R674). An entry is written while ADP requests are
answered, a register of the management address space while the die has power. DEDUCED: log entry 37. -/
def execRegisterWrite (w : RegWrite) (cycle : Fin 256) (s : State) : Res :=
  guarded (match w with | .entry _ _ _ => s.adpUp | _ => s.dieOn) (State.registerWrite w cycle) s

end Sys2Proof.Machine
end

