-- ==== Sys2Proof/Machine/Adp.lean ====
section
/-!
DEFINITION. The Amiust Dictionary Protocol (chapter 19): handshakes, sessions, requests and their responses, segments and
trust anchors.
-/

namespace Sys2Proof.Machine

/-! ### Messages -/

/-- A message can arrive on a path: the segment is up and has no address conflict (R642, R643), or the mailbox holds a
submitted request (R534). -/
def State.pathOpen (s : State) : AdpPath → Bool
  | .segmentA => s.adp.upA && !s.adp.conflictA
  | .segmentB => s.adp.upB && !s.adp.conflictB
  | .mailbox v => s.running && (s.func v.val).mboxBusy

/-- A message arrives: interrupt source 4 or 5 of its segment is pending (R564), or the mailbox is no longer busy (R534). -/
def State.arrived (p : AdpPath) (s : State) : State :=
  match p with
  | .segmentA => s.interrupt 4
  | .segmentB => s.interrupt 5
  | .mailbox v => s.setFunc v.val (fun f => { f with mboxBusy := false })

/-- A message on a path, handled while ADP is answered (R129, R600, R663). -/
def received (p : AdpPath) (f : State → State) (s : State) : Res :=
  guarded (s.adpUp && s.pathOpen p) (fun s => f (s.arrived p)) s

/-- Hierarchy of a mailbox path. -/
def mailboxOf : AdpPath → Option Nat
  | .mailbox v => some v.val
  | _ => none

/-- Send a message on a path: kind, op and a body of len bytes (R644, R645). Messages but those of a handshake end with a tag
of 16 B. -/
def State.sendAdp (p : AdpPath) (session kind op seq ref len : Nat) (body : List Nat) (s : State) : State :=
  match p with
  | .segmentA => s.emit (.adp 1 session kind op seq ref body)
  | .segmentB => s.emit (.adp 2 session kind op seq ref body)
  | .mailbox v => s.mailboxPut v.val false ((if kind = 3 then 16 else 32) + len) (op :: kind :: session :: seq :: ref :: body)

/-- Greatest body of a message on a path (R645). -/
def bodyLimit : AdpPath → Nat
  | .mailbox _ => 4064
  | _ => 1200

/-! ### Handshakes (R647 to R653) -/

/-- REFUSE: the half-open session, if there is one, is discarded (R652). DEDUCED: log entry 36. -/
def State.refuse (p : AdpPath) (n code : Nat) (s : State) : State := (s.endSession n).sendAdp p n 3 6 0 0 1 [code]

/-- A check of a handshake fails: it is counted, with fault source 416 (R652). DEDUCED: log entry 36. -/
def State.refuseCheck (p : AdpPath) (n code : Nat) (s : State) : State := (((s.bump 0x1110 2).raise 416).refuse p n code)

/-- A limit of sessions or handshakes is reached: status 1 and fault source 419 (R647). DEDUCED: log entry 36. -/
def State.refuseLimit (p : AdpPath) (n : Nat) (s : State) : State := (s.raise 419).refuse p n 1

/-- The sessions open on the network, or in a hierarchy's mailbox. -/
def State.sessionsAt (s : State) (vh : Option Nat) : List Session :=
  s.openSessions.filter (fun x => if vh.isNone then x.mailbox.isNone else decide (x.mailbox = vh))

/-- One more session would pass the limit of its path (R647, R651): 16 on the network, one there while unclaimed, and one in each
mailbox. DEDUCED: log entry 36. -/
def State.sessionsFull (s : State) (vh : Option Nat) : Bool :=
  decide ((if vh.isNone ∧ ¬ s.anchorsValid.isEmpty = true then 16 else 1) ≤ (s.sessionsAt vh).length)

/-- The handshakes in progress. -/
def State.halfOpen (s : State) : List Session := s.adp.sessions.filter (·.halfOpen)

/-- The module's answer to HELLO: HELLO_REPLY, whose nonce and key are free values, and its chain in pieces of 1,024 B (R652).
DESIGN CHOICE: log entry 4. -/
def State.helloReply (p : AdpPath) (n : Nat) (s : State) : State :=
  let len := Config.deviceChainLen % 8193
  let r := s.fresh 9
  let k := r.2.fresh 10
  (k.2.sendAdp p n 3 2 0 0 131 [r.1, k.1, len]).each (List.range ((len + 1023) / 1024)) (fun i s =>
    s.sendAdp p n 3 3 0 0 (2 + min 1024 (len - 1024 * i)) [1024 * i, Config.deviceChain i])

/-- HELLO: a client asks for a session of a level, with a chain of a length (R647, R650 to R652, R663). DEDUCED: log entry 36. -/
def execHello (path : AdpPath) (version level : BitVec 8) (chainLen : BitVec 16) (s : State) : Res :=
  received path (fun s =>
    if version ≠ 1#8 then s
    else if s.irq.moving.contains 0 then s.refuse path 0 1
    else if s.anchorsValid.isEmpty ∧ (mailboxOf path).isSome then s.refuseCheck path 0 4
    else if level.toNat = 0 ∨ 3 < level.toNat ∨ chainLen.toNat = 0 ∨ 8192 < chainLen.toNat then s.refuseCheck path 0 2
    else if s.sessionsFull (mailboxOf path) ∨ 4 ≤ s.halfOpen.length then s.refuseLimit path 0
    else
      let n := s.adp.nextSession
      let x : Session := {
        number := n, mailbox := (mailboxOf path), helloBeat := s.ep.beat, requested := level.toNat, chainLen := chainLen.toNat }
      let s1 : State := { s with adp := { s.adp with sessions := s.adp.sessions ++ [x], nextSession := n % (2 ^ 32 - 1) + 1 } }
      s1.helloReply path n) s

/-- The half-open session that a handshake message names on its path. -/
def State.handshake (s : State) (p : AdpPath) (n : Nat) : Option Session :=
  s.halfOpen.find? (fun x => decide (x.number = n ∧ x.mailbox = (mailboxOf p)))

/-- CHAIN: a piece of the client's chain, at an offset (R652). A gap before it, or bytes beyond the chain's length, fail.
DEDUCED: log entry 36. -/
def execChain (path : AdpPath) (session : BitVec 32) (offset : BitVec 16) (len : Fin 1025) (s : State) : Res :=
  received path (fun s =>
    match s.handshake path session.toNat with
    | none => s
    | some x =>
      if s.irq.moving.contains 0 then s.refuse path x.number 1
      else if x.chainGot < offset.toNat ∨ x.chainLen < offset.toNat + len.val then s.refuseCheck path x.number 2
      else s.setSession x.number (fun y => { y with chainGot := max y.chainGot (offset.toNat + len.val) })) s

/-- What a handshake is granted: anchor slot, level and domain (R648 to R651), or the status of its refusal. The chain holds
when each certificate verifies and the last is signed by the key of the anchor slot; while the module is unclaimed it is one
self-signed certificate. -/
def State.sessionGrant (s : State) (x : Session) (chainOk : Bool) (anchor : Option (Fin 64)) (selfSigned : Bool) :
    Except Nat (Option Nat × Nat × Nat) :=
  if s.anchorsValid.isEmpty then
    if selfSigned && chainOk && x.mailbox.isNone then .ok (none, 3, 0) else .error 4
  else match anchor with
    | none => .error 4
    | some a =>
      let v := s.adp.anchors.look a.val 0
      if !chainOk || v % 2 = 0 then .error 4
      else if (match x.mailbox with | some h => decide (s.domainOfVh h ≠ bits v 23 12) | none => false) then .error 4
      else .ok (some a.val, min x.requested (bits v 11 10), bits v 23 12)

/-- FINISH: the client's signature and its chain are verified, and the session is granted with FINISH_ACK or refused (R649 to
R652). What the cryptography answers comes with the command (log entry 5). DEDUCED: log entry 36. -/
def execFinish (path : AdpPath) (session : BitVec 32) (signatureOk chainOk : Bool) (anchor : Option (Fin 64)) (selfSigned : Bool)
    (s : State) : Res :=
  received path (fun s =>
    match s.handshake path session.toNat with
    | none => s
    | some x =>
      if s.irq.moving.contains 0 then s.refuse path x.number 1
      else if !signatureOk || decide (x.chainGot ≠ x.chainLen) then s.refuseCheck path x.number 4
      else match s.sessionGrant x chainOk anchor selfSigned with
        | .error c => s.refuseCheck path x.number c
        | .ok (a, level, dom) =>
          if s.sessionsFull (mailboxOf path) then s.refuseLimit path x.number
          else
            let s1 := s.setSession x.number (fun y => { y with
              halfOpen := false, anchor := a, level := level, domain := dom, lastBeat := s.ep.beat, unclaimed := a.isNone })
            let r := s1.fresh 11
            r.2.sendAdp path x.number 3 5 0 0 99 [level, dom, r.1]) s

/-! ### Messages of a session (R646, R659, R660) -/

/-- A sequence number is new: above the highest accepted, or within 64 below it and not yet seen (R659). DEDUCED: log entry 37. -/
def Session.isNew (x : Session) (seq : Nat) : Bool :=
  decide (x.highSeq < seq) || (decide (1 ≤ seq ∧ x.highSeq ≤ seq + 64) && !x.seen.contains seq)

/-- A session that has accepted a message. -/
def Session.took (x : Session) (seq beat : Nat) : Session :=
  let h := max x.highSeq seq
  { x with highSeq := h, seen := (seq :: x.seen).filter (fun n => decide (h ≤ n + 64)), lastBeat := beat, tagFails := 0 }

/-- A message of a session arrives (R645, R646, R659, R660): another version, an unknown session and a failed tag are discarded,
a duplicate receives its kept response, and a new message is acted on. DEDUCED: log entry 37. -/
def State.adpMessage (h : AdpHead) (f : Session → State → State) (s : State) : State :=
  if h.version ≠ 1#8 then s
  else match s.openSessions.find? (fun x => decide (x.number = h.session ∧ x.mailbox = mailboxOf h.path)) with
    | none => s
    | some x =>
      if !h.tagOk then
        let s1 := (s.bump 0x1110 3).raise 418
        if 15 ≤ x.tagFails then s1.endSession x.number else s1.setSession x.number (fun y => { y with tagFails := y.tagFails + 1 })
      else if 2 ^ 32 ≤ h.seq then s.endSession x.number
      else if !x.isNew h.seq then
        let s1 := s.bump 0x1110 4
        match x.kept.find? (fun r => decide (r.seq = h.seq)) with
        | some r => s1.sendAdp h.path x.number 1 r.op r.own r.ref r.len r.body
        | none => s1
      else
        let y := x.took h.seq s.ep.beat
        f y (s.setSession x.number (fun _ => y))

/-- Answer a request and keep the response (R655, R660); a session whose own number would reach 2^32 ends (R654).
DEDUCED: log entry 37. -/
def State.respond (h : AdpHead) (x : Session) (op len : Nat) (body : List Nat) (s : State) : State :=
  let q := x.ownSeq + 1
  if 2 ^ 32 ≤ q then s.endSession x.number
  else
    let r : Response := { seq := h.seq, own := q, ref := h.ref, op := op, len := len, body := body }
    (s.setSession x.number (fun y => { y with ownSeq := q, kept := (r :: y.kept).take 16 })).sendAdp h.path x.number 1 op q h.ref len body

/-- A request without items (R685): its level, its body, then the module's state; the answer precedes the effect. While the task
set of ADP moves, every request is answered busy (R560, R663). DEDUCED: log entry 37. -/
def State.request (h : AdpHead) (op level : Nat) (status : Session → State → Nat) (f : Session → State → State) (s : State) : State :=
  s.adpMessage h (fun x s =>
    let c := if s.irq.moving.contains 0 then 1 else if x.level < level then 4 else if !h.bodyOk then 7 else status x s
    let s1 := s.respond h x op 1 [c]
    if c = 0 then f x s1 else s1)

/-- CLOSE ends the session, and nothing is sent for it (R654). DEDUCED: log entry 37. -/
def execClose (h : AdpHead) (s : State) : Res := received h.path (State.adpMessage h (fun x s => s.endSession x.number)) s

/-- NOP keeps a session alive (R655). DEDUCED: log entry 37. -/
def execNop (h : AdpHead) (s : State) : Res := received h.path (State.request h 0x14 1 (fun _ _ => 0) (fun _ s => s)) s

/-- While a start is in progress only identity entries and D:2200 are read, at View level; every other access is answered busy
(R130). -/
def State.openDuringStart (s : State) (i : Nat) : Bool := !s.starting || decide (i = 0x1000 ∨ i = 0x1002 ∨ i = 0x2200)

/-- Bytes of a value padded to 8 B (R657). -/
def padded (n : Nat) : Nat := (n + 7) / 8 * 8

/-- Bytes of a string value: those up to its first character. -/
def strBytes (v : Nat) : Nat := ((List.range 32).filter (fun k => decide (256 ^ k ≤ v))).length

/-- An item header of a response (R657). -/
def itemHeader (x : AdpItem) (status code len : Nat) : Nat :=
  x.index * 2 ^ 48 + x.sub * 2 ^ 40 + status * 2 ^ 32 + code * 2 ^ 24 + len

/-- One item of a READ: its response words and bytes (R657, R668, R675, R685 steps 1 and 2). -/
def State.readItem (s : State) (x : Session) (i : AdpItem) : List Nat × Nat :=
  match Dict.find i.index i.sub with
  | none => ([itemHeader i 3 0 0], 8)
  | some r =>
    if !s.reaches x.domain i.index i.sub then ([itemHeader i 4 0 0], 8)
    else if !s.openDuringStart i.index then ([itemHeader i 1 0 0], 8)
    else
      let v := if i.index = 0x10F0 then x.readCopy
        else s.readEntry (if x.domain = 0 then x.readCopy else 1) r i.index i.sub
      let n := if r.ty = .str then strBytes v else r.bytes
      ([itemHeader i 0 r.ty.code n, v], 8 + padded n)

/-- The items of a READ and the bytes of the response's body (R655, R657). -/
def State.readItems (s : State) (x : Session) (items : List AdpItem) : List Nat × Nat :=
  let rs := items.map (s.readItem x)
  ((rs.map (·.1)).flatten, 1 + (rs.map (·.2)).sum)

/-- An item that is read from config[0] of the collector, whose parity is checked on the read (R603, R604, R605). DEDUCED: log entry 43. -/
def readsConfig0 (i : AdpItem) : Bool := decide (i.index = 0x8400) && [4, 5, 6, 7, 0xA].contains i.sub

/-- ADP_READ: each item is answered with its own status, or the whole with status 8 where the response is too large (R656,
R657). -/
def execAdpRead (h : AdpHead) (items : List AdpItem) (s : State) : Res :=
  if items.all AdpItem.wf = false then .next s
  else
    received h.path (State.adpMessage h (fun x s =>
      let r := s.readItems x items
      if s.irq.moving.contains 0 then s.respond h x 0x10 1 [1]
      else if !h.bodyOk || decide (bodyLimit h.path < 8 * items.length) then s.respond h x 0x10 1 [7]
      else if bodyLimit h.path < r.2 then s.respond h x 0x10 1 [8]
      else (s.respond h x 0x10 r.2 (0 :: r.1)).ifDo (items.any readsConfig0) State.parityCheck)) s

/-- The status of a WRITE item of a session; D:10F0.01 is its own (R651, R675, R684, R685). -/
def State.sessionItem (s : State) (x : Session) (i : AdpItem) (cycle : Fin 256) : Nat :=
  s.itemStatus x.unclaimed x.level x.domain i cycle

/-- One item of a WRITE takes effect. -/
def State.writeItem (x : Session) (cycle : Fin 256) (i : AdpItem) (s : State) : State :=
  match Dict.find i.index i.sub with
  | none => s
  | some r =>
    if r.silent i.index i.sub i.value then s
    else if i.index = 0x10F0 then s.setSession x.number (fun y => { y with readCopy := i.value })
    else s.writeEntry r i.index i.sub i.value cycle

/-- The sessions that a written anchor ends: those authenticated through its slot, and the one of an unclaimed module once an
anchor is valid (R649, R651). -/
def State.endThrough (slots : List Nat) (s : State) : State :=
  s.each (s.adp.sessions.filter (fun x => (match x.anchor with | some a => slots.contains a | none => false) ||
    (x.unclaimed && !s.anchorsValid.isEmpty))) (fun x s => s.endSession x.number)

/-- ADP_WRITE: a WRITE, in a cycle of the beat, is checked whole; when every item passes all take effect in order, else none
does (R658, R685). The response precedes the effects. DEDUCED: log entry 37. -/
def execAdpWrite (h : AdpHead) (items : List AdpItem) (cycle : Fin 256) (s : State) : Res :=
  if items.all AdpItem.wf = false then .next s
  else
    received h.path (State.adpMessage h (fun x s =>
      let cs := items.map (fun i => (i, s.sessionItem x i cycle))
      if s.irq.moving.contains 0 then s.respond h x 0x11 1 [1]
      else if !h.bodyOk || decide (bodyLimit h.path < (items.map (fun i => 8 + padded i.len)).sum) then s.respond h x 0x11 1 [7]
      else
        let c := ((cs.map (·.2)).find? (fun c => decide (c ≠ 0))).getD 0
        let s1 := s.respond h x 0x11 (1 + 8 * items.length) (c :: cs.map (fun p => itemHeader p.1 p.2 p.1.code 0))
        if c = 0 then
          (s1.each items (State.writeItem x cycle)).endThrough ((items.filter (fun i => decide (i.index = 0x1120))).map (·.sub))
        else s1)) s

/-- ADP_COMMIT: a COMMIT acts as a write of its token to D:1210.01, in a cycle of the beat (R28, R655). -/
def execAdpCommit (h : AdpHead) (token : BitVec 32) (cycle : Fin 256) (s : State) : Res :=
  received h.path (State.request h 0x12 2
    (fun x s => if x.unclaimed then 4 else statusOf (execCommitRequest token cycle s))
    (fun _ s => settled s (execCommitRequest token cycle s))) s

/-- SUBSCRIBE replaces the session's notification mask; a domain other than D0000 is allowed bit 4 only (R661).
DEDUCED: log entry 37. -/
def execSubscribe (h : AdpHead) (mask : BitVec 32) (s : State) : Res :=
  received h.path (State.request h 0x13 1 (fun _ s => if s.starting then 1 else 0)
    (fun x s => s.setSession x.number (fun y => { y with mask := if x.domain = 0 then mask.toNat % 32 else mask.toNat &&& 16 }))) s

/-! ### Timeouts (R654) -/

/-- End the handshakes and the idle sessions whose time has passed (R654, step 8 of R17). DEDUCED: log entry 37. -/
def State.expireSessions (s : State) : State :=
  let late (x : Session) : Bool :=
    if x.halfOpen then decide (x.helloBeat + s.setting 0x1101 1 ≤ s.ep.beat) else decide (x.lastBeat + s.setting 0x1101 2 ≤ s.ep.beat)
  { s with adp := { s.adp with sessions := s.adp.sessions.filter (fun x => !late x) } }

/-- HANDSHAKE_TIMEOUT: a handshake not finished D:1101.01 beats after HELLO ends (R654). -/
def execHandshakeTimeout (session : BitVec 32) (s : State) : Res :=
  guarded (s.dieOn && s.adp.sessions.any (fun x => decide (x.number = session.toNat) && x.halfOpen &&
    decide (x.helloBeat + s.setting 0x1101 1 ≤ s.ep.beat))) (State.endSession session.toNat) s

/-- IDLE_TIMEOUT: a session that has accepted no message for D:1101.02 beats ends (R654). -/
def execIdleTimeout (session : BitVec 32) (s : State) : Res :=
  guarded (s.dieOn && s.adp.sessions.any (fun x => decide (x.number = session.toNat) && !x.halfOpen &&
    decide (x.lastBeat + s.setting 0x1101 2 ≤ s.ep.beat))) (State.endSession session.toNat) s

/-! ### Segments (R642, R643) -/

/-- ADDRESS_CONFLICT: duplicate address detection finds a conflict on MGMT_A or MGMT_B, which is not used until the next start
(R642). -/
def execAddressConflict (onB : Bool) (s : State) : Res :=
  guarded s.dieOn (fun s =>
    let s1 : State := { s with adp := if onB then { s.adp with conflictB := true } else { s.adp with conflictA := true } }
    s1.raise 417) s

/-- SEGMENT_DOWN: the PHY loses its link, or no beacon is seen for 10 ms (R643). -/
def execSegmentDown (onB : Bool) (s : State) : Res :=
  guarded (s.dieOn && (if onB then s.adp.upB else s.adp.upA)) (fun s =>
    if onB then ({ s with adp := { s.adp with upB := false } } : State).raise 422
    else ({ s with adp := { s.adp with upA := false } } : State).raise 421) s

/-- SEGMENT_UP: the PHY reports link and, when the module is not the coordinator, a beacon has been seen (R643). -/
def execSegmentUp (onB : Bool) (s : State) : Res :=
  guarded s.dieOn (fun s =>
    if onB then { s with adp := { s.adp with upB := true } } else { s with adp := { s.adp with upA := true } }) s

/-! ### Trust anchors (R648) -/

/-- TRUST_ANCHOR_WRITE: an Own session of D0000 writes a trust anchor, which is saved at once; the sessions authenticated through
its slot end after the response (R648, R649, R651). -/
def execTrustAnchorWrite (slot : Fin 64) (anchor : BitVec 800) (s : State) : Res :=
  commandWrite (fun s =>
    if s.anchorOk slot.val anchor.toNat then
      (((s.writeSetting 0x1120 slot.val anchor.toNat).answer 0).endThrough [slot.val])
    else s.answer 2) s

end Sys2Proof.Machine
end

