-- ==== Sys2Proof/Machine/Beat.lean ====
section
/-!
DEFINITION. The beat boundary (R17): the ordered steps 1 to 10, and what the other chapters let take effect at the next
boundary. A row that names one of these effects alone applies the same operation for its own case.
-/

namespace Sys2Proof.Machine

/-! ### What waits for a boundary -/

/-- Written settings take effect (R674), the retained record is marked (R117), and an injected parity error appears (R605).
DEDUCED: log entry 13. -/
def State.takeSettings (s : State) : State :=
  let mark := s.start.recMark
  { s with
    settings := s.settingsNext.foldl (fun t e => t.put e.1 e.2) s.settings
    settingsNext := []
    start := { s.start with recMark := false, recValid := s.start.recValid && !mark, recWriting := s.start.recWriting || mark }
    col := { s.col with parityBad := s.col.parityBad != s.col.injectOwed, injectOwed := false } }

/-- Cores that are to be retired (R560). -/
def State.retireCores (s : State) : State :=
  s.each (((s.irq.corePending.filter (fun (e : Nat × Bool) => e.2))).map (·.1)) State.coreRetired

/-- Attachments and engine clusters that are to be retired (R245, R488). -/
def State.retireUnits (s : State) : State :=
  (s.each ((s.core.attachPending.filter (fun (e : Nat × Bool) => e.2)).map (·.1)) State.retireAttachment).each
    ((s.beryl.clusterPending.filter (fun (e : Nat × Bool) => e.2)).map (·.1)) State.retireCluster

/-- Containments that were decided at the previous boundary (R516, R592, R593). DEDUCED: log entry 43. -/
def State.containNow (s : State) : State :=
  (s.each s.col.portPending State.containGroup).each ((s.host.containPending.filter (fun (e : Nat × Bool) => e.2)).map (·.1))
    State.containDomain

/-- Links that went down are handled (R289). -/
def State.loseLinks (s : State) : State :=
  s.each ((s.ports.filter (fun (e : Nat × Port) => e.2.downOwed)).map (·.1)) (fun p s => s.linkLost p (s.lostStatus p))

/-- A released extent becomes Released (R384); an Impaired one when it recovers. -/
def State.releaseExtent (x : Nat) (s : State) : State :=
  let s1 := s.setExtent x (fun q => { q with releaseOwed := false, before := if q.state = 6 then 5 else q.before })
  if (s.extent x).state = 6 then s1 else s1.setExtState x 5

/-- Instance resets and log swaps begin, regions begin their revocation, error-queue registers take effect, and released extents
leave (R384, R474, R508, R511, R530). DEDUCED: log entry 13. -/
def State.takeRequests (s : State) : State :=
  let s1 := s.each ((s.host.instances.filter (fun (e : Nat × Instance) => decide (e.2.resetAsked ≠ 0))).map (·.1)) State.resetTakes
  let s2 := s1.each ((s1.host.instances.filter (fun (e : Nat × Instance) => e.2.swapAsked)).map (·.1)) State.logSwap
  let s3 := s2.each ((s2.beryl.regions.filter (fun (e : Nat × Region) => decide (e.2.state = .asked))).map (·.1))
    (fun r s => s.setRegion r (fun x => { x with state := .revoking }))
  let s4 := s3.each ((s3.host.funcs.filter (fun (e : Nat × Func) => e.2.errqNew.isSome)).map (·.1)) State.errqTakes
  s4.each ((s4.pool.extents.filter (fun (e : Nat × Extent) => e.2.releaseOwed)).map (·.1)) State.releaseExtent

/-! ### The numbered steps -/

/-- Step 3 (R30 to R32). DESIGN CHOICE: log entry 16. -/
def State.commitStep (s : State) : State := if s.commitDue || s.deferredReady then s.tryCommit else s

/-- Slots whose accepted changes are converted, after step 3 (R266). -/
def State.convertSlots (s : State) : State :=
  s.each ((s.fab.slots.filter (fun (e : Nat × Slot) => decide (e.2.pending ≠ 0))).map (·.1)) State.slotConvert

/-- Step 6 (R215): every egress that is in service, and the internal ports. -/
def State.reloadWeights (s : State) : State :=
  s.each ((List.range 177).filter (fun p => decide (160 ≤ p) || s.enabled p)) State.reloadPort

/-- Step 7 for one of the two kinds of vector (R545, R550): timers count, then a vector that a send left undelivered is sent where
it is deliverable. -/
def State.vectorStep (store : Bool) (s : State) : State :=
  let ks (s : State) : List Nat := (if store then s.host.storeVectors else s.host.fnVectors).map (·.1)
  (s.each (ks s) (State.timerTick store)).each (ks s) (fun k s =>
    if (s.vec store k).pending && (s.vec store k).asked && s.deliverable store k then s.vecSend store k else s)

/-- The heartbeats of the beat that ends are counted while the pair mirrors (R627), and remembered for one beat (R92).
DEDUCED: log entry 44. -/
def State.countHeartbeat (s : State) : State :=
  let s1 : State := if !s.mirroring then s else if s.twin.heartbeat then { s with twin := { s.twin with missed := 0 } } else s.missBeat
  { s1 with twin := { s1.twin with heartbeat := false, heard := s.twin.heartbeat } }

/-- Changed queue pairs are recorded at the end of the beat (R619, kind 9). -/
def State.recordQps (s : State) : State :=
  let s1 := s.each s.beryl.changed (fun q s => s.mirror 9 [q] (qpPayload (s.qp q)))
  { s1 with beryl := { s1.beryl with changed := [] } }

/-- In Attaching, the sync-done message follows the description once its delta has been sent (R635). -/
def State.syncDone (s : State) : State :=
  if s.twin.state = .attaching ∧ s.twin.closes.isEmpty = true ∧ s.twin.syncSent = false then
    State.tellTwin 4 [] { s with twin := { s.twin with syncSent := true } }
  else s

/-- The home-move message follows the recall of every page of the region (R626). DEDUCED: log entry 44. -/
def State.homeMove (s : State) : State :=
  match s.twin.moving with
  | some r =>
    if s.twin.moveSent || !s.twin.closes.isEmpty || s.home.entries.any (fun e => decide (e.region = r) && !e.shadow) ||
        s.home.slots.any (fun q => decide (q.region = r)) then s
    else State.tellTwin 8 [r] { s with twin := { s.twin with moveSent := true } }
  | none => s

/-- How many records of a list end beyond the 1 MiB of the mirror queue, given the bytes that stand before them
(R622). DESIGN CHOICE: log entry 47. -/
def recordsOver : Nat → List Record → Nat
  | _, [] => 0
  | used, r :: rest => (if 2 ^ 20 < used + Record.bytes r then 1 else 0) + recordsOver (used + Record.bytes r) rest

/-- Each record of this beat that found no room in the mirror queue waited: it is counted, with fault source 390 (R622).
DESIGN CHOICE: log entry 47. -/
def State.countWaits (s : State) : State :=
  let old := s.twin.queue.length - s.twin.opened
  let n := recordsOver ((s.twin.queue.take old).map Record.bytes).sum (s.twin.queue.drop old)
  if n = 0 then s else (s.countBy n 0x9003 6).raise 390

/-- The beat ends: its records are sent, and what the rest of the boundary changes belongs to the delta of the beat that it starts
(R620, R622). -/
def State.closeDelta (s : State) : State :=
  if s.mirroring then
    let s1 := (s.recordQps).countWaits
    let d := (s1.twin.delta + 1) % 65536
    let c : Close := { upto := s1.twin.nextRecord, delta := d, stamp := s1.ep.beat, count := s1.twin.opened }
    ({ s1 with twin := { s1.twin with delta := d, opened := 0, closes := s1.twin.closes ++ [c] } } : State).sendRecords c.upto 2048
  else s

/-- Step 9 (R620, R626, R627): the heartbeats are counted, and the closed deltas are sent, each with its beat frame. DEDUCED: log entry
13. -/
def State.mirrorStep (s : State) : State :=
  let s1 := s.countHeartbeat
  if s.mirroring then ((s1.sendDeltas s1.twin.closes.length).syncDone).homeMove else s1

/-- The fence (R628, R629, R631): TWIN_ALERT_N is low in its even beats, side 1 gives way to a pulsing twin, and at its end the
module takes over. DEDUCED: log entry 13. -/
def State.fenceStep (s : State) : State :=
  if s.twin.state = .fencing then
    let s1 : State := { s with board := { s.board with alertLow := decide ((s.ep.beat - s.twin.fenceAt) % 2 = 0) } }
    if s1.setting 0x9000 2 = 1 ∧ s1.pulsing = true then s1.warmStart 5
    else if s1.takeoverDue then s1.takeover
    else s1
  else s

/-- The release pattern on TWIN_ALERT_N (R92): three low periods of 10 ms, with two high ones between them. -/
def State.patternStep (s : State) : State :=
  match s.sup.patternFrom with
  | some b =>
    let n := s.ep.beat - b
    if 390625 ≤ n then { s with sup := { s.sup with patternFrom := none }, board := { s.board with alertLow := false } }
    else { s with board := { s.board with alertLow := decide (n / 78125 % 2 = 0) } }
  | none => s

/-- Step 10 (R317): every channel with a register set. -/
def State.doorbellStep (s : State) : State := s.each (s.fab.channels.map (·.1)) State.channelEval

/-! ### Conditions that are read at every boundary -/

/-- Trunk paths: the partner's numbers, and paths that are usable again (R240, R335, R355). -/
def State.checkPaths (s : State) : State :=
  let trunks := (List.range 160).filter (fun p => decide (s.portRole p = 3) && decide ((s.port p).stage = 5))
  s.each trunks (fun p s =>
    let s1 := s.peerCheck p
    let s2 := s1.setTrunk p (fun t => { t with exceeds := t.exceeds && s1.exceeds p })
    if s2.core.pathFailed.look p false && !(s2.trunk p).mismatch && !(s2.trunk p).exceeds then
      { s2 with core := { s2.core with pathFailed := s2.core.pathFailed.del p } }
    else s2)

/-- Trunk and Garnet links send the flits of the beat, and the idle times of their directions are kept (R336, R342). -/
def State.linkFlits (s : State) : State :=
  let up := (s.trunks.map (·.1)).filter s.sendsFlits
  (s.each up State.flushFlits).each up State.quietCheck

/-- Ports that may train start (R147, R182, R594). -/
def State.startPorts (s : State) : State := s.each (List.range 161) State.startPort

/-- Clock gating (R99): an attachment, buffer bank, cluster or ledger bank that saw no traffic in the beat and holds no queued
work; a frame start counts for its attachment and for every bank and cluster. DEDUCED: log entry 39. -/
def State.gateUnits (s : State) : State :=
  let isOn := decide (s.setting 0x2111 1 = 1)
  let quiet := s.sup.traffic.isEmpty
  let side (a : Nat) : Bool := !s.sup.traffic.contains a &&
    !s.core.frames.any (fun f => (s.attachments f.ingress ++ s.attachments f.egress).contains a)
  let bank (b : Nat) : Bool := quiet && !s.core.frames.any (fun f => f.banks.contains b)
  let cluster (c : Nat) : Bool := quiet && !s.beryl.qps.any (fun e => decide (s.clusterOf e.1 = c) &&
    (decide (e.2.unacked ≠ e.2.psn) || !e.2.sq.isEmpty || !e.2.active.isEmpty || !e.2.deliver.isEmpty))
  let ledger (b : Nat) : Bool := quiet && !s.home.slots.any (fun q => decide ((s.placeOf q.region q.page).1 = b))
  let units := if isOn then ((List.range 40).filter side) ++ ((List.range 64).filter bank).map (· + 100) ++
    ((List.range 8).filter cluster).map (· + 200) ++ ((List.range 16).filter ledger).map (· + 300) else []
  { s with sup := { s.sup with traffic := [], gated := units.map (fun u => (u, true)) } }

/-- The rate at which a port is configured to run: its limit, within the ceiling of what it negotiated (R111, R187, R189). -/
def State.bestRate (s : State) (p : Nat) : Nat :=
  let q := s.port p
  if p = 160 then 11
  else if s.portRole p = 3 then s.portIn s.ep.live p 2 else rateCeiling (s.portIn s.ep.live p 2) q.cxl q.flit

/-- A port has its link at the configured rate and width, or has ended training as failed (R111). -/
def State.settled (s : State) (p : Nat) : Bool :=
  let q := s.port p
  decide (q.state = 3) || (decide (q.stage = 5) && decide (q.width = widthCode (s.portLanes s.ep.live p).2) &&
    decide (q.rate = s.bestRate p))

/-- Links are ready (R111): every enabled port, and the Garnet link of a pair or of a module whose twin cable is present, is
settled; the time from t0 is recorded once (D:2200.08). DEDUCED: log entry 19. -/
def State.linksReady (s : State) : State :=
  if s.start.linksReadyMs = 0 ∧ ((List.range 160).all (fun p => !s.enabled p || s.settled p)) = true ∧
      ((s.setting 0x9000 1 = 0 ∧ s.board.garnetPrsnt = true) ∨ s.settled 160 = true) then
    { s with start := { s.start with linksReadyMs := s.start.readyMs + s.ep.beat * 128 / 1000000 } }
  else s

/-- Boundaries at which a capacity entry changed are counted while the module is in service (D:1010.0D). -/
def State.countCapacity (s : State) : State :=
  let now := s.capacities
  let s1 : State := { s with col := { s.col with capacity := now } }
  if s.running && !(now == s.col.capacity) then s1.bump 0x1010 0xD else s1

/-! ### The boundary -/

/-- A boundary without a data path, during a start or in safe state (R599, R600): the counter, the collector and the ADP
timers go on. DEDUCED: log entry 14. DESIGN CHOICE: log entry 15. -/
def State.idleBoundary (s : State) : State := (((s.retireCores).collect).expireSessions).countCapacity

/-- What comes before step 2, once settings are in force. DEDUCED: log entry 13. -/
def State.beforeSteps (s : State) : State :=
  ((((s.closeDelta).containNow).retireUnits).loseLinks).takeRequests

/-- Steps 2 to 5 (R17, R36, R37, R585), with the slot changes that follow step 3. DEDUCED: log entry 13. -/
def State.epochSteps (s : State) : State :=
  (((((s.releaseEpochs).commitStep).convertSlots).drainCheck).collect).retireCores

/-- Steps 6 to 10 (R17), while no step before has ended the service. DEDUCED: log entry 13. -/
def State.serviceSteps (s : State) : State :=
  if !s.running then s
  else
    let s1 := ((s.reloadWeights.vectorStep false).vectorStep true).expireSessions
    let s2 := (s1.mirrorStep).doorbellStep
    ((((((s2.checkPaths).linkFlits.startPorts).sendBlocks).scanCheck).gateUnits).linksReady).patternStep

/-- The work of a beat boundary (R17). DEDUCED: log entry 13. DESIGN CHOICE: log entry 15. -/
def State.boundary (s : State) : State :=
  let s1 : State := { s with ep := { s.ep with beat := s.ep.beat + 1 } }
  let s2 := s1.takeSettings
  if !s2.running then s2.idleBoundary
  else
    let s3 := ((s2.beforeSteps).epochSteps).serviceSteps
    (s3.ifDo s3.running State.fenceStep).countCapacity

/-- BEAT_BOUNDARY: cycle 0 of a beat (R13, R17), while the die has power.
DEDUCED: log entries 13 and 14. DESIGN CHOICE: log entry 16. -/
def execBeatBoundary (s : State) : Res := guarded s.dieOn State.boundary s

end Sys2Proof.Machine
end

