-- ==== Sys2Proof/Machine/Dispatch.lean ====
section
/-!
DEFINITION. Dispatch: the meaning of every command.
-/

namespace Sys2Proof.Machine

/-- What a command does to everything but the queue. -/
def exec (i : Instr) (s : State) : Host.Outcome State Fault Refusal :=
  match i with
  | .beatBoundary => Sys2Proof.Machine.execBeatBoundary s
  | .epochRelease tag => Sys2Proof.Machine.execEpochRelease tag s
  | .commitRequest token cycle => Sys2Proof.Machine.execCommitRequest token cycle s
  | .commitDue => Sys2Proof.Machine.execCommitDue s
  | .deferredCommitApplied => Sys2Proof.Machine.execDeferredCommitApplied s
  | .shadowDiscard one => Sys2Proof.Machine.execShadowDiscard one s
  | .drainOverrun => Sys2Proof.Machine.execDrainOverrun s
  | .sidebandLevelAccepted n signal high => Sys2Proof.Machine.execSidebandLevelAccepted n signal high s
  | .perstContentionCheck n high => Sys2Proof.Machine.execPerstContentionCheck n high s
  | .i2cPollSlot n sdaLow => Sys2Proof.Machine.execI2cPollSlot n sdaLow s
  | .i2cPollDone n inputs => Sys2Proof.Machine.execI2cPollDone n inputs s
  | .i2cWriteAcked n => Sys2Proof.Machine.execI2cWriteAcked n s
  | .i2cTransactionFailed n => Sys2Proof.Machine.execI2cTransactionFailed n s
  | .twinAlertInAsserted low => Sys2Proof.Machine.execTwinAlertInAsserted low s
  | .modrstN edge taken => Sys2Proof.Machine.execModrstN edge taken s
  | .refclkLoss => Sys2Proof.Machine.execRefclkLoss s
  | .sensorRead readings => Sys2Proof.Machine.execSensorRead readings s
  | .throttleEvaluation => Sys2Proof.Machine.execThrottleEvaluation s
  | .feedPresent k => Sys2Proof.Machine.execFeedPresent k s
  | .feedLost k => Sys2Proof.Machine.execFeedLost k s
  | .reverseCurrentOff k => Sys2Proof.Machine.execReverseCurrentOff k s
  | .fetConductsAgain k => Sys2Proof.Machine.execFetConductsAgain k s
  | .busShutdown overVolt => Sys2Proof.Machine.execBusShutdown overVolt s
  | .gateTurnOn => Sys2Proof.Machine.execGateTurnOn s
  | .gateFullyOn => Sys2Proof.Machine.execGateFullyOn s
  | .inrushTrip => Sys2Proof.Machine.execInrushTrip s
  | .faultTimerStart => Sys2Proof.Machine.execFaultTimerStart s
  | .faultTimerIdle => Sys2Proof.Machine.execFaultTimerIdle s
  | .overcurrentTrip => Sys2Proof.Machine.execOvercurrentTrip s
  | .hardShortTrip => Sys2Proof.Machine.execHardShortTrip s
  | .pgOutRise => Sys2Proof.Machine.execPgOutRise s
  | .gateOffAfterTrip => Sys2Proof.Machine.execGateOffAfterTrip s
  | .automaticRetry => Sys2Proof.Machine.execAutomaticRetry s
  | .retryCountClear => Sys2Proof.Machine.execRetryCountClear s
  | .retainedStateCleared => Sys2Proof.Machine.execRetainedStateCleared s
  | .twinRelease => Sys2Proof.Machine.execTwinRelease s
  | .releasePatternAccepted => Sys2Proof.Machine.execReleasePatternAccepted s
  | .latchRecordClear => Sys2Proof.Machine.execLatchRecordClear s
  | .standbyRequest => Sys2Proof.Machine.execStandbyRequest s
  | .wakeSourceSample levels => Sys2Proof.Machine.execWakeSourceSample levels s
  | .wakeAlarm => Sys2Proof.Machine.execWakeAlarm s
  | .standbyWake frame => Sys2Proof.Machine.execStandbyWake frame s
  | .warmStartRequest => Sys2Proof.Machine.execWarmStartRequest s
  | .coldStartRequest => Sys2Proof.Machine.execColdStartRequest s
  | .watchdogExpiry => Sys2Proof.Machine.execWatchdogExpiry s
  | .coldStart slotId capOk refValid => Sys2Proof.Machine.execColdStart slotId capOk refValid s
  | .bistDone attachments banks ledger clusters cores other => Sys2Proof.Machine.execBistDone attachments banks ledger clusters cores other s
  | .calibrationDone failed => Sys2Proof.Machine.execCalibrationDone failed s
  | .firmwareLoad => Sys2Proof.Machine.execFirmwareLoad s
  | .configurationLoad => Sys2Proof.Machine.execConfigurationLoad s
  | .dataPathRelease ms => Sys2Proof.Machine.execDataPathRelease ms s
  | .warmStart recordOk sramError repaired => Sys2Proof.Machine.execWarmStart recordOk sramError repaired s
  | .readyTimeout => Sys2Proof.Machine.execReadyTimeout s
  | .startConfirmed => Sys2Proof.Machine.execStartConfirmed s
  | .retainedRecordWritten => Sys2Proof.Machine.execRetainedRecordWritten s
  | .storeRequest => Sys2Proof.Machine.execStoreRequest s
  | .imageBlockWrite slot block => Sys2Proof.Machine.execImageBlockWrite slot block s
  | .imageVerify slot => Sys2Proof.Machine.execImageVerify slot s
  | .groupPerst n => Sys2Proof.Machine.execGroupPerst n s
  | .hotReset v => Sys2Proof.Machine.execHotReset v s
  | .secondaryBusReset v b => Sys2Proof.Machine.execSecondaryBusReset v b s
  | .functionLevelReset v => Sys2Proof.Machine.execFunctionLevelReset v s
  | .trainingBlock lane block done inverted wish => Sys2Proof.Machine.execTrainingBlock lane block done inverted wish s
  | .detectTimer port => Sys2Proof.Machine.execDetectTimer port s
  | .stageBoundReached port => Sys2Proof.Machine.execStageBoundReached port s
  | .portLinkUp port now rate width reversed x clock precode keyed => Sys2Proof.Machine.execPortLinkUp port now rate width reversed x clock precode keyed s
  | .adaptationStep lane part tap up => Sys2Proof.Machine.execAdaptationStep lane part tap up s
  | .errorWindowEnd lane more => Sys2Proof.Machine.execErrorWindowEnd lane more s
  | .laneFailure lane cause more => Sys2Proof.Machine.execLaneFailure lane cause more s
  | .retrainLimit port => Sys2Proof.Machine.execRetrainLimit port s
  | .laneExclude lane exclude => Sys2Proof.Machine.execLaneExclude lane exclude s
  | .laneDirectionChange lane receiver d => Sys2Proof.Machine.execLaneDirectionChange lane receiver d s
  | .rxLockTimeout lane => Sys2Proof.Machine.execRxLockTimeout lane s
  | .scanStart slot fullScale => Sys2Proof.Machine.execScanStart slot fullScale s
  | .scanPointDone slot errors => Sys2Proof.Machine.execScanPointDone slot errors s
  | .scanAbort slot => Sys2Proof.Machine.execScanAbort slot s
  | .l1EntryInitiate port sub acked => Sys2Proof.Machine.execL1EntryInitiate port sub acked s
  | .partnerL1Request port sub => Sys2Proof.Machine.execPartnerL1Request port sub s
  | .pciPmL1Request port => Sys2Proof.Machine.execPciPmL1Request port s
  | .pmeTurnOff v => Sys2Proof.Machine.execPmeTurnOff v s
  | .l0pEvaluation port used => Sys2Proof.Machine.execL0pEvaluation port used s
  | .l0pPartnerRequest port width => Sys2Proof.Machine.execL0pPartnerRequest port width s
  | .ideKeyRefresh port => Sys2Proof.Machine.execIdeKeyRefresh port s
  | .ideIntegrityFailure port => Sys2Proof.Machine.execIdeIntegrityFailure port s
  | .frameStart path => Sys2Proof.Machine.execFrameStart path s
  | .frameHeadCell ingress h => Sys2Proof.Machine.execFrameHeadCell ingress h s
  | .frameComplete id c => Sys2Proof.Machine.execFrameComplete id c s
  | .engineChargeRetry id => Sys2Proof.Machine.execEngineChargeRetry id s
  | .cellTimeMatch idx formed ecc => Sys2Proof.Machine.execCellTimeMatch idx formed ecc s
  | .stallTermination point => Sys2Proof.Machine.execStallTermination point s
  | .pathFailed port => Sys2Proof.Machine.execPathFailed port s
  | .bankRetire bank strike => Sys2Proof.Machine.execBankRetire bank strike s
  | .bankRetired bank => Sys2Proof.Machine.execBankRetired bank s
  | .attachmentRetire n strike => Sys2Proof.Machine.execAttachmentRetire n strike s
  | .attachmentRetirement n => Sys2Proof.Machine.execAttachmentRetirement n s
  | .slotInputChange p => Sys2Proof.Machine.execSlotInputChange p s
  | .slotControlWrite v b powerOff ind enables => Sys2Proof.Machine.execSlotControlWrite v b powerOff ind enables s
  | .indicatorBlink p => Sys2Proof.Machine.execIndicatorBlink p s
  | .slotResetRelease p => Sys2Proof.Machine.execSlotResetRelease p s
  | .dpcTrigger v b reason => Sys2Proof.Machine.execDpcTrigger v b reason s
  | .dpcTriggerClear v b => Sys2Proof.Machine.execDpcTriggerClear v b s
  | .configRequest v x field write => Sys2Proof.Machine.execConfigRequest v x field write s
  | .trackerAllocation => Sys2Proof.Machine.execTrackerAllocation s
  | .completionArrives ingress x poison => Sys2Proof.Machine.execCompletionArrives ingress x poison s
  | .trackerTimeout idx => Sys2Proof.Machine.execTrackerTimeout idx s
  | .quarantineEnd idx => Sys2Proof.Machine.execQuarantineEnd idx s
  | .linkDown p => Sys2Proof.Machine.execLinkDown p s
  | .farTagAssigned port => Sys2Proof.Machine.execFarTagAssigned port s
  | .prefetchHoldExpiry window => Sys2Proof.Machine.execPrefetchHoldExpiry window s
  | .doorbellRing v c set => Sys2Proof.Machine.execDoorbellRing v c set s
  | .doorbellStatusClear v c clear => Sys2Proof.Machine.execDoorbellStatusClear v c clear s
  | .pwfReceived src far label req page cause farStamp => Sys2Proof.Machine.execPwfReceived src far label req page cause farStamp s
  | .flitReceived port now wire => Sys2Proof.Machine.execFlitReceived port now wire s
  | .replayTimerExpiry port now => Sys2Proof.Machine.execReplayTimerExpiry port now s
  | .rttProbe port now => Sys2Proof.Machine.execRttProbe port now s
  | .quietEntry port => Sys2Proof.Machine.execQuietEntry port s
  | .quietExit port => Sys2Proof.Machine.execQuietExit port s
  | .enumerationDone d ok capacity serial => Sys2Proof.Machine.execEnumerationDone d ok capacity serial s
  | .scrubStart x m => Sys2Proof.Machine.execScrubStart x m s
  | .scrubDone x m ok => Sys2Proof.Machine.execScrubDone x m ok s
  | .rescrubExtent x => Sys2Proof.Machine.execRescrubExtent x s
  | .releaseExtent x => Sys2Proof.Machine.execReleaseExtent x s
  | .addCapacityResponse x accept => Sys2Proof.Machine.execAddCapacityResponse x accept s
  | .releaseCapacityResponse x => Sys2Proof.Machine.execReleaseCapacityResponse x s
  | .dcAnswerTimeout x => Sys2Proof.Machine.execDcAnswerTimeout x s
  | .cxlMemRequest v e addr write tag line poison => Sys2Proof.Machine.execCxlMemRequest v e addr write tag line poison s
  | .poolPrefetchExpiry x granule => Sys2Proof.Machine.execPoolPrefetchExpiry x granule s
  | .identifyMemoryDevice e => Sys2Proof.Machine.execIdentifyMemoryDevice e s
  | .getPartitionInfo e => Sys2Proof.Machine.execGetPartitionInfo e s
  | .getEventRecords e => Sys2Proof.Machine.execGetEventRecords e s
  | .clearEventRecords e handles => Sys2Proof.Machine.execClearEventRecords e handles s
  | .rds v r p l tag => Sys2Proof.Machine.execRds v r p l tag s
  | .rdown v r p l tag => Sys2Proof.Machine.execRdown v r p l tag s
  | .own v r p l tag => Sys2Proof.Machine.execOwn v r p l tag s
  | .rdcur v r p l tag => Sys2Proof.Machine.execRdcur v r p l tag s
  | .memspecrd v r p l => Sys2Proof.Machine.execMemspecrd v r p l s
  | .evc v r p l => Sys2Proof.Machine.execEvc v r p l s
  | .evd v r p l line => Sys2Proof.Machine.execEvd v r p l line s
  | .wr v r p l w => Sys2Proof.Machine.execWr v r p l w s
  | .wbkeep v r p l line toShared => Sys2Proof.Machine.execWbkeep v r p l line toShared s
  | .hitKeep v r p l excl block => Sys2Proof.Machine.execHitKeep v r p l excl block s
  | .hitDrop v r p l block => Sys2Proof.Machine.execHitDrop v r p l block s
  | .miss v r p l => Sys2Proof.Machine.execMiss v r p l s
  | .biconflict v r p l => Sys2Proof.Machine.execBiconflict v r p l s
  | .memoryData r p l data poison => Sys2Proof.Machine.execMemoryData r p l data poison s
  | .writeDone r p l => Sys2Proof.Machine.execWriteDone r p l s
  | .recallDone r p => Sys2Proof.Machine.execRecallDone r p s
  | .snoopTimeout r p l v => Sys2Proof.Machine.execSnoopTimeout r p l v s
  | .sweepDone r v => Sys2Proof.Machine.execSweepDone r v s
  | .ledgerScrubRead error => Sys2Proof.Machine.execLedgerScrubRead error s
  | .ledgerBankRetire b => Sys2Proof.Machine.execLedgerBankRetire b s
  | .ledgerBankRetired b => Sys2Proof.Machine.execLedgerBankRetired b s
  | .pageQuery q => Sys2Proof.Machine.execPageQuery q s
  | .createCq v k idx low ws => Sys2Proof.Machine.execCreateCq v k idx low ws s
  | .destroyCq v k idx low ws => Sys2Proof.Machine.execDestroyCq v k idx low ws s
  | .createQp v k idx low ws => Sys2Proof.Machine.execCreateQp v k idx low ws s
  | .modifyQp v k idx low ws => Sys2Proof.Machine.execModifyQp v k idx low ws s
  | .destroyQp v k idx low ws => Sys2Proof.Machine.execDestroyQp v k idx low ws s
  | .registerRegion v k idx low ws => Sys2Proof.Machine.execRegisterRegion v k idx low ws s
  | .revokeRegion v k idx low ws => Sys2Proof.Machine.execRevokeRegion v k idx low ws s
  | .setCounter v k idx low ws => Sys2Proof.Machine.execSetCounter v k idx low ws s
  | .attach v k idx low ws => Sys2Proof.Machine.execAttach v k idx low ws s
  | .detach v k idx low ws => Sys2Proof.Machine.execDetach v k idx low ws s
  | .commandStart v k => Sys2Proof.Machine.execCommandStart v k s
  | .sendQueueDoorbell idx q index ws => Sys2Proof.Machine.execSendQueueDoorbell idx q index ws s
  | .receiveQueueDoorbell idx q index ws => Sys2Proof.Machine.execReceiveQueueDoorbell idx q index ws s
  | .triggerListDoorbell idx q index ws => Sys2Proof.Machine.execTriggerListDoorbell idx q index ws s
  | .cqConsumerDoorbell idx c index => Sys2Proof.Machine.execCqConsumerDoorbell idx c index s
  | .contextFetchDone q ok data => Sys2Proof.Machine.execContextFetchDone q ok data s
  | .keyFetchDone r ok data => Sys2Proof.Machine.execKeyFetchDone r ok data s
  | .wrWrite q data readOk => Sys2Proof.Machine.execWrWrite q data readOk s
  | .wrRead q => Sys2Proof.Machine.execWrRead q s
  | .wrSend q data readOk => Sys2Proof.Machine.execWrSend q data readOk s
  | .wrFetchAdd q => Sys2Proof.Machine.execWrFetchAdd q s
  | .wrCmpSwap q => Sys2Proof.Machine.execWrCmpSwap q s
  | .wrNop q => Sys2Proof.Machine.execWrNop q s
  | .writeSegment f => Sys2Proof.Machine.execWriteSegment f s
  | .sendSegment f => Sys2Proof.Machine.execSendSegment f s
  | .readReq f data readOk => Sys2Proof.Machine.execReadReq f data readOk s
  | .fetchAddRequest f orig ok => Sys2Proof.Machine.execFetchAddRequest f orig ok s
  | .cmpSwapRequest f orig ok => Sys2Proof.Machine.execCmpSwapRequest f orig ok s
  | .readResp f data => Sys2Proof.Machine.execReadResp f data s
  | .atomicResp f data => Sys2Proof.Machine.execAtomicResp f data s
  | .ack f data => Sys2Proof.Machine.execAck f data s
  | .sequenceNak f data => Sys2Proof.Machine.execSequenceNak f data s
  | .rnrNak f => Sys2Proof.Machine.execRnrNak f s
  | .nak f => Sys2Proof.Machine.execNak f s
  | .retransmitTimeout q data => Sys2Proof.Machine.execRetransmitTimeout q data s
  | .rnrWaitEnd q data => Sys2Proof.Machine.execRnrWaitEnd q data s
  | .ackTimer q => Sys2Proof.Machine.execAckTimer q s
  | .rateIncrease q => Sys2Proof.Machine.execRateIncrease q s
  | .messageDelivery q => Sys2Proof.Machine.execMessageDelivery q s
  | .regionRevoking r => Sys2Proof.Machine.execRegionRevoking r s
  | .revocationComplete r => Sys2Proof.Machine.execRevocationComplete r s
  | .clusterRetire c context => Sys2Proof.Machine.execClusterRetire c context s
  | .clusterRetirement c => Sys2Proof.Machine.execClusterRetirement c s
  | .qpQuery q => Sys2Proof.Machine.execQpQuery q s
  | .domainContainment d => Sys2Proof.Machine.execDomainContainment d s
  | .containRelease d => Sys2Proof.Machine.execContainRelease d s
  | .resetControlDrain v k => Sys2Proof.Machine.execResetControlDrain v k s
  | .resetControlSquash v k => Sys2Proof.Machine.execResetControlSquash v k s
  | .instanceResetDrain idx => Sys2Proof.Machine.execInstanceResetDrain idx s
  | .instanceResetSquash idx => Sys2Proof.Machine.execInstanceResetSquash idx s
  | .instanceResetTakesEffect idx => Sys2Proof.Machine.execInstanceResetTakesEffect idx s
  | .drainLimitReached idx => Sys2Proof.Machine.execDrainLimitReached idx s
  | .instanceResetEnd idx => Sys2Proof.Machine.execInstanceResetEnd idx s
  | .logSwapRequest v k => Sys2Proof.Machine.execLogSwapRequest v k s
  | .logSwap idx => Sys2Proof.Machine.execLogSwap idx s
  | .logSwapComplete idx ok => Sys2Proof.Machine.execLogSwapComplete idx ok s
  | .mboxSubmit v len => Sys2Proof.Machine.execMboxSubmit v len s
  | .respReadyClear v => Sys2Proof.Machine.execRespReadyClear v s
  | .errorQueueSetup v base log2 => Sys2Proof.Machine.execErrorQueueSetup v base log2 s
  | .moderationTimerExpiry store k => Sys2Proof.Machine.execModerationTimerExpiry store k s
  | .vectorDeliverable store k => Sys2Proof.Machine.execVectorDeliverable store k s
  | .powerStateWrite v d3 => Sys2Proof.Machine.execPowerStateWrite v d3 s
  | .masterTimeout idx => Sys2Proof.Machine.execMasterTimeout idx s
  | .doeRequest v type body keys => Sys2Proof.Machine.execDoeRequest v type body keys s
  | .coreRetire value => Sys2Proof.Machine.execCoreRetire value s
  | .coreCheckinTimeout k => Sys2Proof.Machine.execCoreCheckinTimeout k s
  | .taskSetMoveDone set => Sys2Proof.Machine.execTaskSetMoveDone set s
  | .mgmtSramError e => Sys2Proof.Machine.execMgmtSramError e s
  | .claim k => Sys2Proof.Machine.execClaim k s
  | .complete k value => Sys2Proof.Machine.execComplete k value s
  | .softRaise value => Sys2Proof.Machine.execSoftRaise value s
  | .firmwareTick => Sys2Proof.Machine.execFirmwareTick s
  | .supervisorRead ok aMv bMv ma mw => Sys2Proof.Machine.execSupervisorRead ok aMv bMv ma mw s
  | .sproutCheckin => Sys2Proof.Machine.execSproutCheckin s
  | .sproutCheckinMissed => Sys2Proof.Machine.execSproutCheckinMissed s
  | .portContainment n => Sys2Proof.Machine.execPortContainment n s
  | .portRelease port value => Sys2Proof.Machine.execPortRelease port value s
  | .stickyClear n => Sys2Proof.Machine.execStickyClear n s
  | .force n => Sys2Proof.Machine.execForce n s
  | .clearAll => Sys2Proof.Machine.execClearAll s
  | .collectorInject => Sys2Proof.Machine.execCollectorInject s
  | .collectorScan => Sys2Proof.Machine.execCollectorScan s
  | .beatFrame f => Sys2Proof.Machine.execBeatFrame f s
  | .recordFrame h records => Sys2Proof.Machine.execRecordFrame h records s
  | .mirrorAckRelease ack => Sys2Proof.Machine.execMirrorAckRelease ack s
  | .missedHeartbeat => Sys2Proof.Machine.execMissedHeartbeat s
  | .twinAlertPulsing => Sys2Proof.Machine.execTwinAlertPulsing s
  | .takeover => Sys2Proof.Machine.execTakeover s
  | .attachRequest one => Sys2Proof.Machine.execAttachRequest one s
  | .attachRequestMessage h differs => Sys2Proof.Machine.execAttachRequestMessage h differs s
  | .attachAccept h => Sys2Proof.Machine.execAttachAccept h s
  | .attachRefuse h reason => Sys2Proof.Machine.execAttachRefuse h reason s
  | .syncDone h => Sys2Proof.Machine.execSyncDone h s
  | .detachRequest one => Sys2Proof.Machine.execDetachRequest one s
  | .detachMessage h => Sys2Proof.Machine.execDetachMessage h s
  | .serveAlone one => Sys2Proof.Machine.execServeAlone one s
  | .homeMove region => Sys2Proof.Machine.execHomeMove region s
  | .homeMoveMessage h region => Sys2Proof.Machine.execHomeMoveMessage h region s
  | .recallRequest h bank set_ => Sys2Proof.Machine.execRecallRequest h bank set_ s
  | .restartRequest h => Sys2Proof.Machine.execRestartRequest h s
  | .restartRequestRepeat => Sys2Proof.Machine.execRestartRequestRepeat s
  | .twinQuery q => Sys2Proof.Machine.execTwinQuery q s
  | .hello path version level chainLen => Sys2Proof.Machine.execHello path version level chainLen s
  | .chain path session offset len => Sys2Proof.Machine.execChain path session offset len s
  | .finish path session signatureOk chainOk anchor selfSigned => Sys2Proof.Machine.execFinish path session signatureOk chainOk anchor selfSigned s
  | .close h => Sys2Proof.Machine.execClose h s
  | .adpRead h items => Sys2Proof.Machine.execAdpRead h items s
  | .adpWrite h items cycle => Sys2Proof.Machine.execAdpWrite h items cycle s
  | .adpCommit h token cycle => Sys2Proof.Machine.execAdpCommit h token cycle s
  | .subscribe h mask => Sys2Proof.Machine.execSubscribe h mask s
  | .nop h => Sys2Proof.Machine.execNop h s
  | .handshakeTimeout session => Sys2Proof.Machine.execHandshakeTimeout session s
  | .idleTimeout session => Sys2Proof.Machine.execIdleTimeout session s
  | .addressConflict onB => Sys2Proof.Machine.execAddressConflict onB s
  | .segmentDown onB => Sys2Proof.Machine.execSegmentDown onB s
  | .trustAnchorWrite slot anchor => Sys2Proof.Machine.execTrustAnchorWrite slot anchor s
  | .registerWrite w cycle => Sys2Proof.Machine.execRegisterWrite w cycle s
  | .segmentUp onB => Sys2Proof.Machine.execSegmentUp onB s
  | .partnerCreditReturn port cls credit => Sys2Proof.Machine.execPartnerCreditReturn port cls credit s
  | .trainingSetReceived port stage unused sets => Sys2Proof.Machine.execTrainingSetReceived port stage unused sets s
  | .l1Exit port => Sys2Proof.Machine.execL1Exit port s
  | .invertedMarker port => Sys2Proof.Machine.execInvertedMarker port s
  | .storeSaveDone ok => Sys2Proof.Machine.execStoreSaveDone ok s
  | .deviceEventRecord d event => Sys2Proof.Machine.execDeviceEventRecord d event s

end Sys2Proof.Machine
end

