-- ==== Sys2Proof/Machine/Step.lean ====
section
/-!
DEFINITION. Step: the command at the front of the queue is performed; on an empty queue the block idles (log entry 2).
-/

namespace Sys2Proof.Machine

/-- Take the command at the front of the queue and perform it with the queue's rest; idle on an empty queue.
DESIGN CHOICE: log entry 2. -/
def step (s : State) : Host.Outcome State Fault Refusal :=
  match s.pending with
  | [] => .next s
  | c :: rest => exec c { s with pending := rest }

/-- The state with the command that a word spells at the front of its queue; unchanged where the word spells none. -/
def State.withFetchWord (s : State) (nbits w : Nat) : State :=
  match decodeTableWord nbits w with
  | some c => { s with pending := c :: s.pending }
  | none => s

end Sys2Proof.Machine
end

