-- ==== Sys2Proof/Safety.lean ====
section
/-!
DEFINITION. Safety: the terms in which claims speak of the machine. The parts of its state, what it means that a command
changes only some of them, and which of them each command may change at all; the bound on live epochs, and what counts as
silence in safe state.
-/

namespace Sys2Proof.Machine

/-- The parts of the state. Together they cover every field of State. -/
inductive Part where
  /-- The beat counter. -/
  | beat
  /-- The epoch count and the superseded epochs. -/
  | epochs
  /-- The in-flight counts of the epoch tags. -/
  | inflight
  /-- The commit state, its token and due beat, and the record of the last commit. -/
  | commit
  /-- The live tables and the shadow. -/
  | tables
  /-- The sidebands and expanders of the groups. -/
  | groups
  /-- Edge pins, reference clock, temperature. -/
  | board
  /-- The power-entry supervisor, the power state and clock gating. -/
  | sup
  /-- Starts, images and the stored dictionary. -/
  | start
  /-- The lanes. -/
  | lanes
  /-- The ports. -/
  | ports
  /-- The eye-scan slots. -/
  | scans
  /-- The frames in the shared buffer. -/
  | frames
  /-- The state of banks, attachments and internal ports. -/
  | units
  /-- The matcher: its pointers and the frames in transmission. -/
  | matcher
  /-- The buckets and paths of the trunks. -/
  | paths
  /-- The hierarchies. -/
  | hiers
  /-- The virtual bridges. -/
  | bridges
  /-- The slots of the downstream ports. -/
  | slots
  /-- The tracker, what waits for it, and held window data. -/
  | tracker
  /-- The doorbell channels. -/
  | channels
  /-- The recent Posted Write Faults. -/
  | pwf
  /-- The link layers of the trunks. -/
  | trunks
  /-- The pool devices. -/
  | devices
  /-- The extents and the hidden endpoints. -/
  | extents
  /-- The held lines of the pools. -/
  | poolLines
  /-- The event logs and the configuration registers of the pool endpoints. -/
  | poolEvents
  /-- The ledger, its banks and its scrub. -/
  | ledger
  /-- The home slots and the waiting allocations. -/
  | homeSlots
  /-- The departed hosts. -/
  | departed
  /-- The queue pairs. -/
  | qps
  /-- The completion queues. -/
  | cqs
  /-- The registered regions. -/
  | regions
  /-- The engine clusters. -/
  | clusters
  /-- The management functions. -/
  | funcs
  /-- The interrupt vectors. -/
  | vectors
  /-- The instances. -/
  | instances
  /-- The order of the running commands. -/
  | cmdOrder
  /-- The contained domains. -/
  | contained
  /-- The waiting master requests. -/
  | masterWait
  /-- The pending bits of the interrupt controller. -/
  | irqPending
  /-- The rest of the interrupt controller and the cores. -/
  | irqUnit
  /-- The Sprout domain. -/
  | sprout
  /-- The fault sources of the collector. -/
  | sources
  /-- Safe state and its records. -/
  | safeState
  /-- The rest of the fault collector. -/
  | collector
  /-- The twin pairing. -/
  | pairing
  /-- The mirror queue and the messages held for it. -/
  | mirror
  /-- The ADP sessions. -/
  | sessions
  /-- The management segments. -/
  | segments
  /-- The trust anchors. -/
  | anchors
  /-- The settings in force. -/
  | settings
  /-- The settings that wait for the next boundary. -/
  | settingsNext
  /-- The settings that wait for the next start. -/
  | settingsStart
  /-- The counters and selectors. -/
  | views
  /-- What the module has sent out. -/
  | outputs
  /-- The counter behind the free values. -/
  | free
  /-- The queue of waiting commands. -/
  | queue
deriving DecidableEq, Repr

/-- A part is the same in two states. -/
def Part.same : Part → State → State → Prop
  | .beat, s, t => t.ep.beat = s.ep.beat
  | .epochs, s, t => t.ep.epoch = s.ep.epoch ∧ t.ep.superseded = s.ep.superseded
  | .inflight, s, t => t.ep.inflight = s.ep.inflight
  | .commit, s, t => t.ep.commit = s.ep.commit ∧ t.ep.token = s.ep.token ∧ t.ep.due = s.ep.due ∧ t.ep.lastToken = s.ep.lastToken ∧ t.ep.lastEpoch = s.ep.lastEpoch ∧ t.ep.lastBeat = s.ep.lastBeat ∧ t.ep.deferrals = s.ep.deferrals
  | .tables, s, t => t.ep.live = s.ep.live ∧ t.ep.shadow = s.ep.shadow
  | .groups, s, t => t.groups = s.groups
  | .board, s, t => t.board = s.board
  | .sup, s, t => t.sup = s.sup
  | .start, s, t => t.start = s.start
  | .lanes, s, t => t.lanes = s.lanes
  | .ports, s, t => t.ports = s.ports
  | .scans, s, t => t.scans = s.scans
  | .frames, s, t => t.core.frames = s.core.frames ∧ t.core.nextId = s.core.nextId ∧ t.core.nextBank = s.core.nextBank
  | .units, s, t => t.core.bankState = s.core.bankState ∧ t.core.attachRetired = s.core.attachRetired ∧ t.core.attachPending = s.core.attachPending ∧ t.core.internalAt = s.core.internalAt
  | .matcher, s, t => t.core.suspended = s.core.suspended ∧ t.core.pointers = s.core.pointers ∧ t.core.xmit = s.core.xmit
  | .paths, s, t => t.core.buckets = s.core.buckets ∧ t.core.pathFailed = s.core.pathFailed
  | .hiers, s, t => t.fab.hiers = s.fab.hiers
  | .bridges, s, t => t.fab.bridges = s.fab.bridges
  | .slots, s, t => t.fab.slots = s.fab.slots
  | .tracker, s, t => t.fab.track = s.fab.track ∧ t.fab.nextIndex = s.fab.nextIndex ∧ t.fab.waiting = s.fab.waiting ∧ t.fab.turn = s.fab.turn ∧ t.fab.holds = s.fab.holds
  | .channels, s, t => t.fab.channels = s.fab.channels
  | .pwf, s, t => t.fab.pwfRecent = s.fab.pwfRecent
  | .trunks, s, t => t.trunks = s.trunks
  | .devices, s, t => t.pool.devices = s.pool.devices
  | .extents, s, t => t.pool.extents = s.pool.extents ∧ t.pool.hidden = s.pool.hidden
  | .poolLines, s, t => t.pool.lines = s.pool.lines
  | .poolEvents, s, t => t.pool.events = s.pool.events ∧ t.pool.nextHandle = s.pool.nextHandle ∧ t.pool.epCfg = s.pool.epCfg
  | .ledger, s, t => t.home.entries = s.home.entries ∧ t.home.bankState = s.home.bankState ∧ t.home.scrubAt = s.home.scrubAt
  | .homeSlots, s, t => t.home.slots = s.home.slots ∧ t.home.allocs = s.home.allocs ∧ t.home.ring = s.home.ring
  | .departed, s, t => t.home.departed = s.home.departed ∧ t.home.timedOut = s.home.timedOut
  | .qps, s, t => t.beryl.qps = s.beryl.qps ∧ t.beryl.changed = s.beryl.changed ∧ t.beryl.useClock = s.beryl.useClock
  | .cqs, s, t => t.beryl.cqs = s.beryl.cqs
  | .regions, s, t => t.beryl.regions = s.beryl.regions
  | .clusters, s, t => t.beryl.clusterRetired = s.beryl.clusterRetired ∧ t.beryl.clusterPending = s.beryl.clusterPending
  | .funcs, s, t => t.host.funcs = s.host.funcs
  | .vectors, s, t => t.host.fnVectors = s.host.fnVectors ∧ t.host.storeVectors = s.host.storeVectors
  | .instances, s, t => t.host.instances = s.host.instances
  | .cmdOrder, s, t => t.host.cmdOrder = s.host.cmdOrder
  | .contained, s, t => t.host.contained = s.host.contained ∧ t.host.containPending = s.host.containPending
  | .masterWait, s, t => t.host.masterWait = s.host.masterWait
  | .irqPending, s, t => t.irq.pending = s.irq.pending
  | .irqUnit, s, t => t.irq.inService = s.irq.inService ∧ t.irq.enable = s.irq.enable ∧ t.irq.coreRetired = s.irq.coreRetired ∧ t.irq.corePending = s.irq.corePending ∧ t.irq.tasks = s.irq.tasks ∧ t.irq.moving = s.irq.moving ∧ t.irq.sproutAt = s.irq.sproutAt
  | .sprout, s, t => t.sprout = s.sprout
  | .sources, s, t => t.col.sources = s.col.sources
  | .safeState, s, t => t.col.safe = s.col.safe ∧ t.col.now = s.col.now ∧ t.col.prev = s.col.prev ∧ t.col.retained = s.col.retained
  | .collector, s, t => t.col.injectOwed = s.col.injectOwed ∧ t.col.parityBad = s.col.parityBad ∧ t.col.capacity = s.col.capacity ∧ t.col.portPending = s.col.portPending
  | .pairing, s, t => ({ t.twin with opened := 0, closes := [], queue := [], unacked := [], nextRecord := 0, acked := 0, held := [] } : Twin) =
      { s.twin with opened := 0, closes := [], queue := [], unacked := [], nextRecord := 0, acked := 0, held := [] }
  | .mirror, s, t => t.twin.opened = s.twin.opened ∧ t.twin.closes = s.twin.closes ∧ t.twin.queue = s.twin.queue ∧ t.twin.unacked = s.twin.unacked ∧ t.twin.nextRecord = s.twin.nextRecord ∧ t.twin.acked = s.twin.acked ∧ t.twin.held = s.twin.held
  | .sessions, s, t => t.adp.sessions = s.adp.sessions ∧ t.adp.nextSession = s.adp.nextSession
  | .segments, s, t => t.adp.upA = s.adp.upA ∧ t.adp.upB = s.adp.upB ∧ t.adp.conflictA = s.adp.conflictA ∧ t.adp.conflictB = s.adp.conflictB
  | .anchors, s, t => t.adp.anchors = s.adp.anchors
  | .settings, s, t => t.settings = s.settings
  | .settingsNext, s, t => t.settingsNext = s.settingsNext
  | .settingsStart, s, t => t.settingsStart = s.settingsStart
  | .views, s, t => t.views = s.views
  | .outputs, s, t => t.out = s.out
  | .free, s, t => t.free = s.free
  | .queue, s, t => t.pending = s.pending

/-- Every part of the state but those listed is the same in t as in s. -/
def OnlyChanges (l : List Part) (s t : State) : Prop := ∀ p, p ∉ l → p.same s t


/-- Parts: ports and their lanes, of which a sideband follows. -/
def Part.links : List Part :=
  [.groups, .lanes, .ports, .scans]

/-- Parts: what an access to a host's memory may change beside its own unit: a link that leaves a low-power state, dirty logging, the record of the access, what is sent and counted. -/
def Part.hostAccess : List Part :=
  [.groups, .lanes, .ports, .scans, .vectors, .instances, .mirror, .views, .outputs]

/-- Parts: what the Beryl engine works on. -/
def Part.engine : List Part :=
  [.groups, .lanes, .ports, .scans, .vectors, .instances, .mirror, .views, .outputs, .funcs, .sources, .qps, .cqs, .regions,
   .free]

/-- Parts: what an ADP notification may change: sessions, mailboxes and their vectors. -/
def Part.notify : List Part :=
  [.groups, .lanes, .ports, .scans, .vectors, .instances, .mirror, .views, .outputs, .funcs, .sources, .sessions]

/-- Parts: what a message may change that the coherence home works on. -/
def Part.homeWork : List Part :=
  [.groups, .lanes, .ports, .scans, .tracker, .trunks, .ledger, .homeSlots, .funcs, .masterWait, .sources, .mirror, .views,
   .outputs]

/-- Parts: what the loss of a link may change. -/
def Part.linkLoss : List Part :=
  [.inflight, .groups, .lanes, .ports, .scans, .frames, .matcher, .paths, .hiers, .bridges, .slots, .tracker, .channels, .pwf,
   .trunks, .devices, .extents, .poolLines, .poolEvents, .ledger, .homeSlots, .departed, .qps, .cqs, .regions, .funcs, .vectors,
   .instances, .cmdOrder, .masterWait, .irqPending, .sources, .mirror, .sessions, .views, .outputs, .free]

/-- Parts: what the entry into safe state may change. -/
def Part.safeEntry : List Part :=
  [.inflight, .board, .sup, .start, .lanes, .frames, .matcher, .tracker, .sources, .safeState, .collector, .outputs]

/-- Parts: what a start clears or changes. -/
def Part.restart : List Part :=
  [.beat, .epochs, .inflight, .commit, .tables, .groups, .board, .sup, .start, .lanes, .ports, .scans, .frames, .units,
   .matcher, .paths, .hiers, .bridges, .slots, .tracker, .channels, .pwf, .trunks, .devices, .extents, .poolLines, .poolEvents,
   .ledger, .homeSlots, .departed, .qps, .cqs, .regions, .clusters, .funcs, .vectors, .instances, .cmdOrder, .contained,
   .masterWait, .irqPending, .irqUnit, .sprout, .sources, .safeState, .collector, .pairing, .mirror, .sessions, .segments,
   .settings, .settingsNext, .settingsStart, .views]

/-- The parts of the state that a command may change at all. -/
def touches : Instr → List Part
  | .beatBoundary => Part.restart ++ [.outputs, .free]
  | .epochRelease _ => [.epochs]
  | .commitRequest _ _ => Part.notify ++ [.commit, .irqPending]
  | .commitDue => Part.linkLoss ++ [.epochs, .commit, .tables, .start]
  | .deferredCommitApplied => Part.linkLoss ++ [.epochs, .commit, .tables, .start]
  | .shadowDiscard _ => Part.notify ++ [.commit, .tables, .irqPending]
  | .drainOverrun => [.epochs, .sources]
  | .sidebandLevelAccepted _ _ _ => Part.restart ++ [.outputs, .free]
  | .perstContentionCheck _ _ => [.groups, .ports, .sources]
  | .i2cPollSlot _ _ => [.groups, .slots, .sources, .outputs]
  | .i2cPollDone _ _ => [.groups, .slots, .irqPending]
  | .i2cWriteAcked _ => Part.links ++ [.hiers, .bridges, .slots, .mirror, .outputs]
  | .i2cTransactionFailed _ => [.groups, .slots, .sources, .outputs]
  | .twinAlertInAsserted _ => Part.notify ++ [.board, .pairing]
  | .modrstN _ _ => Part.restart
  | .refclkLoss => [.board, .sources]
  | .sensorRead _ => [.board, .sources]
  | .throttleEvaluation => [.board, .sources]
  | .feedPresent _ => [.sup]
  | .feedLost _ => Part.restart ++ [.outputs]
  | .reverseCurrentOff _ => [.sup]
  | .fetConductsAgain _ => [.sup]
  | .busShutdown _ => Part.safeEntry
  | .gateTurnOn => [.sup]
  | .gateFullyOn => Part.restart
  | .inrushTrip => Part.safeEntry
  | .faultTimerStart => [.sup]
  | .faultTimerIdle => [.sup]
  | .overcurrentTrip => Part.safeEntry
  | .hardShortTrip => Part.restart ++ [.outputs]
  | .pgOutRise => [.sup]
  | .gateOffAfterTrip => Part.restart
  | .automaticRetry => [.sup]
  | .retryCountClear => [.sup]
  | .retainedStateCleared => [.sup]
  | .twinRelease => [.sup, .outputs]
  | .releasePatternAccepted => [.sup]
  | .latchRecordClear => [.sup, .outputs]
  | .standbyRequest => Part.restart ++ [.outputs]
  | .wakeSourceSample _ => [.groups, .board, .sprout]
  | .wakeAlarm => [.sprout]
  | .standbyWake _ => Part.restart
  | .warmStartRequest => Part.restart ++ [.outputs]
  | .coldStartRequest => Part.restart ++ [.outputs]
  | .watchdogExpiry => Part.restart
  | .coldStart _ _ _ => [.board, .sup, .start, .sources]
  | .bistDone _ _ _ _ _ _ => Part.notify ++ [.inflight, .board, .sup, .start, .frames, .units, .matcher, .tracker, .ledger, .clusters, .irqPending, .irqUnit,
     .safeState, .collector, .free]
  | .calibrationDone _ => Part.notify ++ [.start]
  | .firmwareLoad => Part.notify ++ [.start]
  | .configurationLoad => Part.notify ++ [.beat, .epochs, .inflight, .commit, .tables, .start, .hiers, .devices, .settings, .settingsNext, .settingsStart]
  | .dataPathRelease _ => Part.notify ++ [.beat, .epochs, .inflight, .sup, .start, .hiers, .bridges, .extents, .departed, .pairing]
  | .warmStart _ _ _ => Part.notify ++ [.beat, .epochs, .inflight, .commit, .tables, .start, .settings, .settingsNext, .settingsStart]
  | .readyTimeout => [.start, .sources]
  | .startConfirmed => Part.notify ++ [.start, .settingsNext]
  | .retainedRecordWritten => [.start]
  | .storeRequest => [.start, .outputs]
  | .imageBlockWrite _ _ => [.start, .outputs]
  | .imageVerify _ => [.start, .outputs]
  | .groupPerst _ => Part.links ++ [.start, .slots, .irqPending, .sources, .outputs, .free]
  | .hotReset _ => Part.linkLoss
  | .secondaryBusReset _ _ => Part.engine ++ [.inflight, .frames, .matcher, .paths, .hiers, .bridges, .tracker, .pwf, .trunks, .devices, .extents, .poolLines,
     .poolEvents, .ledger, .homeSlots, .departed, .masterWait, .irqPending]
  | .functionLevelReset _ => Part.hostAccess ++ [.funcs, .cmdOrder, .sessions]
  | .trainingBlock _ _ _ _ _ => Part.linkLoss
  | .detectTimer _ => Part.linkLoss
  | .stageBoundReached _ => Part.linkLoss
  | .portLinkUp _ _ _ _ _ _ _ _ _ => Part.linkLoss
  | .adaptationStep _ _ _ _ => [.lanes]
  | .errorWindowEnd _ _ => [.lanes]
  | .laneFailure _ _ _ => Part.linkLoss
  | .retrainLimit _ => Part.linkLoss
  | .laneExclude _ _ => Part.linkLoss
  | .laneDirectionChange _ _ _ => [.lanes, .ports, .scans]
  | .rxLockTimeout _ => Part.linkLoss
  | .scanStart _ _ => [.scans, .outputs]
  | .scanPointDone _ _ => [.scans]
  | .scanAbort _ => [.scans, .outputs]
  | .l1EntryInitiate _ _ _ => Part.hostAccess
  | .partnerL1Request _ _ => Part.links ++ [.outputs]
  | .pciPmL1Request _ => Part.hostAccess
  | .pmeTurnOff _ => Part.hostAccess
  | .l0pEvaluation _ _ => [.lanes, .ports, .scans]
  | .l0pPartnerRequest _ _ => [.lanes, .ports, .scans]
  | .ideKeyRefresh _ => [.ports, .outputs]
  | .ideIntegrityFailure _ => Part.links ++ [.hiers, .bridges, .funcs, .irqPending, .sources]
  | .frameStart _ => [.sup]
  | .frameHeadCell _ _ => Part.links ++ [.inflight, .frames, .hiers, .bridges, .tracker, .sources, .views, .outputs]
  | .frameComplete _ _ => Part.hostAccess ++ [.inflight, .frames, .matcher, .paths, .hiers, .bridges, .tracker, .pwf, .trunks, .funcs, .irqPending, .sources]
  | .engineChargeRetry _ => [.inflight, .frames, .tracker, .views, .outputs]
  | .cellTimeMatch _ _ _ => Part.hostAccess ++ [.inflight, .sup, .frames, .units, .matcher, .paths, .hiers, .bridges, .tracker, .pwf, .trunks, .funcs, .sources]
  | .stallTermination _ => [.ports, .frames, .matcher, .trunks, .sources, .views, .outputs]
  | .pathFailed _ => Part.hostAccess ++ [.inflight, .frames, .paths, .hiers, .bridges, .tracker, .pwf, .funcs, .sources]
  | .bankRetire _ _ => Part.hostAccess ++ [.inflight, .frames, .units, .matcher, .paths, .hiers, .bridges, .tracker, .pwf, .trunks, .funcs, .sources]
  | .bankRetired _ => [.units, .sources]
  | .attachmentRetire _ _ => Part.hostAccess ++ [.inflight, .frames, .units, .matcher, .paths, .hiers, .bridges, .tracker, .pwf, .trunks, .funcs, .sources]
  | .attachmentRetirement _ => Part.links ++ [.units, .irqPending, .sources]
  | .slotInputChange _ => Part.links ++ [.hiers, .bridges, .slots, .irqPending, .sources, .mirror, .outputs, .free]
  | .slotControlWrite _ _ _ _ _ => Part.links ++ [.bridges, .slots, .irqPending, .sources, .free]
  | .indicatorBlink _ => [.groups, .slots]
  | .slotResetRelease _ => [.groups, .start, .slots]
  | .dpcTrigger _ _ _ => Part.engine ++ [.inflight, .frames, .matcher, .paths, .hiers, .bridges, .slots, .tracker, .pwf, .trunks, .masterWait, .irqPending]
  | .dpcTriggerClear _ _ => [.groups, .lanes, .ports, .bridges, .slots]
  | .configRequest _ _ _ _ => Part.hostAccess ++ [.inflight, .frames, .matcher, .paths, .hiers, .bridges, .tracker, .pwf, .trunks, .poolEvents, .regions, .funcs,
     .irqPending, .sources, .free]
  | .trackerAllocation => Part.homeWork ++ [.frames, .hiers, .bridges]
  | .completionArrives _ _ _ => Part.links ++ [.paths, .slots, .tracker, .poolLines, .sources, .views, .outputs]
  | .trackerTimeout _ => Part.links ++ [.paths, .hiers, .bridges, .tracker, .poolLines, .sources, .views, .outputs]
  | .quarantineEnd _ => [.tracker]
  | .linkDown _ => Part.linkLoss
  | .farTagAssigned _ => [.frames, .tracker]
  | .prefetchHoldExpiry _ => [.tracker, .sources, .views]
  | .doorbellRing _ _ _ => [.channels]
  | .doorbellStatusClear _ _ _ => [.channels]
  | .pwfReceived _ _ _ _ _ _ _ => Part.engine ++ [.hiers]
  | .flitReceived _ _ _ => Part.homeWork ++ [.inflight, .frames, .matcher, .paths, .hiers, .bridges, .pwf, .vectors, .instances, .irqPending, .pairing, .sessions]
  | .replayTimerExpiry _ _ => [.inflight, .lanes, .ports, .scans, .frames, .matcher, .tracker, .trunks, .sources, .views, .outputs]
  | .rttProbe _ _ => [.trunks, .outputs]
  | .quietEntry _ => [.lanes, .trunks, .outputs]
  | .quietExit _ => [.lanes, .trunks, .outputs]
  | .enumerationDone _ _ _ _ => [.devices, .extents, .poolLines, .sources, .mirror, .views, .outputs]
  | .scrubStart _ _ => [.extents, .outputs]
  | .scrubDone _ _ _ => [.extents, .sources, .mirror]
  | .rescrubExtent _ => [.extents, .poolLines, .sources, .mirror, .views, .outputs]
  | .releaseExtent _ => [.extents, .poolLines, .poolEvents, .sources, .mirror, .views, .outputs]
  | .addCapacityResponse _ _ => [.extents, .mirror]
  | .releaseCapacityResponse _ => [.extents]
  | .dcAnswerTimeout _ => [.extents, .sources]
  | .cxlMemRequest _ _ _ _ _ _ _ => Part.links ++ [.hiers, .bridges, .tracker, .poolLines, .sources, .views, .outputs]
  | .poolPrefetchExpiry _ _ => [.poolLines, .sources, .views]
  | .identifyMemoryDevice _ => [.outputs]
  | .getPartitionInfo _ => [.outputs]
  | .getEventRecords _ => [.outputs]
  | .clearEventRecords _ _ => [.poolEvents, .outputs]
  | .rds _ _ _ _ _ => Part.homeWork ++ [.hiers, .bridges]
  | .rdown _ _ _ _ _ => Part.homeWork ++ [.hiers, .bridges]
  | .own _ _ _ _ _ => Part.homeWork ++ [.hiers, .bridges]
  | .rdcur _ _ _ _ _ => Part.homeWork ++ [.hiers, .bridges]
  | .memspecrd _ _ _ _ => []
  | .evc _ _ _ _ => Part.homeWork ++ [.hiers, .bridges]
  | .evd _ _ _ _ _ => Part.homeWork ++ [.hiers, .bridges]
  | .wr _ _ _ _ _ => Part.homeWork ++ [.hiers, .bridges]
  | .wbkeep _ _ _ _ _ _ => Part.homeWork ++ [.hiers, .bridges]
  | .hitKeep _ _ _ _ _ _ => Part.homeWork
  | .hitDrop _ _ _ _ _ => Part.homeWork
  | .miss _ _ _ _ => Part.homeWork
  | .biconflict _ _ _ _ => Part.links ++ [.views, .outputs]
  | .memoryData _ _ _ _ _ => Part.homeWork
  | .writeDone _ _ _ => Part.homeWork
  | .recallDone _ _ => Part.homeWork
  | .snoopTimeout _ _ _ _ => Part.homeWork ++ [.hiers, .bridges, .departed]
  | .sweepDone _ _ => Part.homeWork ++ [.departed]
  | .ledgerScrubRead _ => Part.links ++ [.ledger, .homeSlots, .sources, .mirror, .views, .outputs]
  | .ledgerBankRetire _ => Part.links ++ [.ledger, .homeSlots, .sources, .mirror, .views, .outputs]
  | .ledgerBankRetired _ => Part.homeWork
  | .pageQuery _ => [.views, .outputs]
  | .createCq _ _ _ _ _ => Part.engine ++ [.cmdOrder, .irqPending]
  | .destroyCq _ _ _ _ _ => Part.engine ++ [.cmdOrder, .irqPending]
  | .createQp _ _ _ _ _ => Part.engine ++ [.cmdOrder, .irqPending]
  | .modifyQp _ _ _ _ _ => Part.engine ++ [.cmdOrder, .irqPending]
  | .destroyQp _ _ _ _ _ => Part.engine ++ [.cmdOrder, .irqPending]
  | .registerRegion _ _ _ _ _ => Part.engine ++ [.cmdOrder, .irqPending]
  | .revokeRegion _ _ _ _ _ => Part.engine ++ [.cmdOrder, .irqPending]
  | .setCounter _ _ _ _ _ => Part.engine ++ [.cmdOrder, .irqPending]
  | .attach _ _ _ _ _ => Part.engine ++ [.cmdOrder, .irqPending]
  | .detach _ _ _ _ _ => Part.engine ++ [.cmdOrder, .irqPending]
  | .commandStart _ _ => Part.engine ++ [.cmdOrder]
  | .sendQueueDoorbell _ _ _ _ => Part.engine ++ [.tracker, .masterWait]
  | .receiveQueueDoorbell _ _ _ _ => Part.engine ++ [.tracker, .masterWait]
  | .triggerListDoorbell _ _ _ _ => Part.engine ++ [.tracker, .masterWait]
  | .cqConsumerDoorbell _ _ _ => [.cqs, .sources, .mirror, .views]
  | .contextFetchDone _ _ _ => Part.engine ++ [.tracker, .masterWait]
  | .keyFetchDone _ _ _ => Part.engine ++ [.tracker, .masterWait]
  | .wrWrite _ _ _ => Part.engine ++ [.tracker, .masterWait]
  | .wrRead _ => Part.engine ++ [.tracker, .masterWait]
  | .wrSend _ _ _ => Part.engine ++ [.tracker, .masterWait]
  | .wrFetchAdd _ => Part.engine ++ [.tracker, .masterWait]
  | .wrCmpSwap _ => Part.engine ++ [.tracker, .masterWait]
  | .wrNop _ => Part.engine ++ [.tracker, .masterWait]
  | .writeSegment _ => Part.engine ++ [.tracker, .masterWait]
  | .sendSegment _ => Part.engine ++ [.tracker, .masterWait]
  | .readReq _ _ _ => Part.engine ++ [.tracker, .masterWait]
  | .fetchAddRequest _ _ _ => Part.engine ++ [.tracker, .masterWait]
  | .cmpSwapRequest _ _ _ => Part.engine ++ [.tracker, .masterWait]
  | .readResp _ _ => Part.engine ++ [.tracker, .masterWait]
  | .atomicResp _ _ => Part.engine ++ [.tracker, .masterWait]
  | .ack _ _ => Part.engine ++ [.tracker, .masterWait]
  | .sequenceNak _ _ => Part.engine ++ [.tracker, .masterWait]
  | .rnrNak _ => Part.engine ++ [.tracker, .masterWait]
  | .nak _ => Part.engine ++ [.tracker, .masterWait]
  | .retransmitTimeout _ _ => Part.engine
  | .rnrWaitEnd _ _ => Part.links ++ [.qps, .funcs, .mirror, .views, .outputs, .free]
  | .ackTimer _ => [.qps, .views, .outputs]
  | .rateIncrease _ => [.qps]
  | .messageDelivery _ => Part.engine
  | .regionRevoking _ => [.regions]
  | .revocationComplete _ => Part.hostAccess ++ [.regions, .funcs, .cmdOrder, .sources, .free]
  | .clusterRetire _ _ => Part.hostAccess ++ [.qps, .regions, .clusters, .funcs, .sources, .free]
  | .clusterRetirement _ => Part.hostAccess ++ [.qps, .regions, .clusters, .funcs, .sources, .free]
  | .qpQuery _ => [.views, .outputs]
  | .domainContainment _ => Part.engine ++ [.inflight, .frames, .matcher, .paths, .hiers, .bridges, .slots, .tracker, .pwf, .trunks, .contained, .masterWait,
     .irqPending, .sessions]
  | .containRelease _ => Part.notify ++ [.bridges, .slots, .contained]
  | .resetControlDrain _ _ => Part.hostAccess ++ [.funcs, .sources]
  | .resetControlSquash _ _ => Part.hostAccess ++ [.funcs, .sources]
  | .instanceResetDrain _ => Part.hostAccess ++ [.funcs]
  | .instanceResetSquash _ => Part.hostAccess ++ [.funcs]
  | .instanceResetTakesEffect _ => [.inflight, .frames, .paths, .tracker, .regions, .funcs, .instances, .mirror, .outputs]
  | .drainLimitReached _ => [.inflight, .frames, .paths, .tracker, .regions, .funcs, .instances, .sources, .mirror, .outputs]
  | .instanceResetEnd _ => Part.engine ++ [.cmdOrder]
  | .logSwapRequest _ _ => [.instances, .sources, .views]
  | .logSwap _ => [.instances]
  | .logSwapComplete _ _ => [.instances, .sources]
  | .mboxSubmit _ _ => [.funcs, .irqPending, .sources]
  | .respReadyClear _ => Part.hostAccess ++ [.funcs]
  | .errorQueueSetup _ _ _ => [.funcs]
  | .moderationTimerExpiry _ _ => Part.hostAccess
  | .vectorDeliverable _ _ => Part.hostAccess
  | .powerStateWrite _ _ => Part.links ++ [.regions, .funcs, .vectors, .mirror, .outputs]
  | .masterTimeout _ => Part.engine ++ [.tracker, .masterWait]
  | .doeRequest _ _ _ _ => [.ports, .funcs, .free]
  | .coreRetire _ => [.irqUnit, .outputs]
  | .coreCheckinTimeout _ => Part.safeEntry ++ [.irqUnit]
  | .taskSetMoveDone _ => [.irqUnit]
  | .mgmtSramError _ => Part.restart ++ [.outputs]
  | .claim _ => [.irqPending, .irqUnit, .views, .outputs]
  | .complete _ _ => Part.notify ++ [.irqUnit]
  | .softRaise _ => [.irqPending]
  | .firmwareTick => [.irqPending]
  | .supervisorRead _ _ _ _ _ => [.sup, .sprout, .sources]
  | .sproutCheckin => [.irqPending, .irqUnit]
  | .sproutCheckinMissed => [.irqUnit, .sources]
  | .portContainment _ => Part.links ++ [.bridges, .irqPending, .sources, .collector, .mirror, .outputs]
  | .portRelease _ _ => [.ports, .bridges, .outputs]
  | .stickyClear _ => [.sources, .outputs]
  | .force _ => [.sources, .outputs]
  | .clearAll => [.sources, .outputs]
  | .collectorInject => [.collector, .outputs]
  | .collectorScan => Part.safeEntry
  | .beatFrame _ => [.trunks, .pairing, .views]
  | .recordFrame _ _ => Part.homeWork ++ [.extents, .pairing]
  | .mirrorAckRelease _ => Part.homeWork ++ [.hiers, .bridges, .vectors, .instances, .pairing, .sessions]
  | .missedHeartbeat => Part.notify ++ [.board, .pairing]
  | .twinAlertPulsing => Part.restart
  | .takeover => Part.engine ++ [.inflight, .board, .frames, .matcher, .paths, .hiers, .bridges, .slots, .tracker, .pwf, .trunks, .ledger, .homeSlots,
     .contained, .masterWait, .irqPending, .pairing, .sessions]
  | .attachRequest _ => [.trunks, .pairing, .mirror, .outputs]
  | .attachRequestMessage _ _ => Part.notify ++ [.hiers, .bridges, .trunks, .ledger, .irqPending, .pairing]
  | .attachAccept _ => Part.notify ++ [.hiers, .bridges, .trunks, .ledger, .irqPending, .pairing]
  | .attachRefuse _ _ => [.trunks, .irqPending, .sources, .pairing, .views]
  | .syncDone _ => Part.notify ++ [.trunks, .irqPending, .pairing]
  | .detachRequest _ => [.trunks, .mirror, .outputs]
  | .detachMessage _ => Part.homeWork ++ [.vectors, .instances, .irqPending, .pairing, .sessions]
  | .serveAlone _ => Part.notify ++ [.hiers, .bridges, .pairing]
  | .homeMove _ => Part.links ++ [.ledger, .homeSlots, .sources, .pairing, .mirror, .views, .outputs]
  | .homeMoveMessage _ _ => Part.links ++ [.hiers, .bridges, .trunks, .irqPending, .pairing, .mirror, .views, .outputs]
  | .recallRequest _ _ _ => Part.links ++ [.trunks, .ledger, .homeSlots, .irqPending, .sources, .mirror, .views, .outputs]
  | .restartRequest _ => Part.restart
  | .restartRequestRepeat => [.trunks, .sources, .pairing, .mirror, .views]
  | .twinQuery _ => [.views, .outputs]
  | .hello _ _ _ _ => Part.notify ++ [.irqPending, .free]
  | .chain _ _ _ _ => Part.notify ++ [.irqPending]
  | .finish _ _ _ _ _ _ => Part.notify ++ [.irqPending, .free]
  | .close _ => Part.notify ++ [.irqPending]
  | .adpRead _ _ => Part.notify ++ [.inflight, .board, .sup, .start, .frames, .matcher, .tracker, .irqPending, .safeState, .collector]
  | .adpWrite _ _ _ => Part.restart ++ [.anchors, .outputs, .free]
  | .adpCommit _ _ _ => Part.notify ++ [.commit, .irqPending]
  | .subscribe _ _ => Part.notify ++ [.irqPending]
  | .nop _ => Part.notify ++ [.irqPending]
  | .handshakeTimeout _ => [.sessions]
  | .idleTimeout _ => [.sessions]
  | .addressConflict _ => [.sources, .segments]
  | .segmentDown _ => [.sources, .segments]
  | .trustAnchorWrite _ _ => [.start, .sources, .sessions, .anchors, .settingsNext, .settingsStart, .outputs]
  | .registerWrite _ _ => Part.restart ++ [.anchors, .outputs, .free]
  | .segmentUp _ => [.segments]
  | .partnerCreditReturn _ _ _ => [.ports]
  | .trainingSetReceived _ _ _ _ => Part.linkLoss
  | .l1Exit _ => Part.links
  | .invertedMarker _ => [.lanes, .trunks]
  | .storeSaveDone _ => [.start]
  | .deviceEventRecord _ _ => [.poolEvents]

/-- The counts of the epochs that are live: the current one, and the superseded ones whose tables are retained (R22). -/
def State.liveEpochs (s : State) : List Nat := s.ep.epoch :: s.ep.superseded.map (·.count)

/-- At most two epochs are superseded and still live, so that with the current one at most three are (R22). -/
def State.EpochsBounded (s : State) : Prop := s.ep.superseded.length ≤ 2

/-- The power states fit together: safe state is the power state of that name (R599), a die with power or in standby has the
gate fully on (R78, R96), and no cool-down runs but with the gate off (R86). -/
def State.PowerLegal (s : State) : Prop :=
  (s.col.safe = true ↔ s.sup.state = .safe) ∧
  (s.dieOn = true ∨ s.sup.state = .standby → s.sup.gate = .on) ∧
  (s.sup.coolDown = true → s.sup.gate = .off)

/-- An output that leaves on a link of the module or reaches a memory: everything but the answers and messages of ADP, the
values that register reads return, and the cut that ends a frame in transmission. -/
def Out.leaves : Out → Bool
  | .status _ | .value _ | .adp .. | .cut .. => false
  | _ => true

/-- What t has sent out beyond s, newest first, when its record of outputs extends that of s. -/
def SentSince (s t : State) (l : List Out) : Prop := t.out = l ++ s.out

/-- A slot of a function holds a command newly written to it, which is the last in the order of the running ones (R531, R533). -/
def State.submitted (v k : Nat) (words : List Nat) (s : State) : State :=
  let s1 := (s.interrupt (80 + v)).setCmd v k (CmdSlot.take words)
  { s1 with host := { s1.host with cmdOrder := s1.host.cmdOrder ++ [(v, k)] } }

/-- A command written to a slot starts at once, and nothing of R511, R532 and R560 ends it: the slot is free, the cores work, no
earlier command changes its object, its instance belongs to the function and is not in reset, and it sets no unnamed bit. -/
def State.commandStarts (s : State) (v k : Nat) (words : List Nat) : Prop :=
  s.running = true ∧ (s.slotOf v k).busy = false ∧ s.irq.moving.contains 2 = false ∧
  (s.submitted v k words).conflicts v k = false ∧
  ((s.submitted v k words).instD ((s.submitted v k words).slotOf v k).inst).enable = true ∧
  ((s.submitted v k words).instD ((s.submitted v k words).slotOf v k).inst).vh = v ∧
  ((s.submitted v k words).slotOf v k).clean = true

/-- A Garnet frame of a kind, with a code where it is a control message, and a body is the next in order and good, on a link that carries frames: the module accepts it (R358, R616). -/
def State.garnetNext (s : State) (h : GarnetHead) (kind code : Nat) (body : List Nat) : Prop :=
  s.garnetUp = true ∧ garnetSpells h kind code body = true ∧ garnetOk h body = true ∧ garnetSeq h = (s.trunk 160).es

/-- The next Garnet frame has been accepted, and an acknowledgement is to be sent (R358, R616). -/
def State.garnetTaken (s : State) : State :=
  (s.setTrunk 160 (fun t => { t with es := (t.es + 1) % 4096, accepted := true, receiver := .inSync }))

/-- An ADP message can arrive on a path: the module answers ADP, and the path is open (R129, R600, R642, R643). -/
def State.adpListens (s : State) (p : AdpPath) : Prop := s.adpUp = true ∧ s.pathOpen p = true

/-- An ADP message is a new one of an open session: its version is 1, its session is open on its path, its tag verifies, and its
sequence number is new (R645, R646, R659). -/
def State.adpNew (s : State) (h : AdpHead) (x : Session) : Prop :=
  s.adpListens h.path ∧ h.version = 1#8 ∧
  s.openSessions.find? (fun y => decide (y.number = h.session ∧ y.mailbox = mailboxOf h.path)) = some x ∧
  h.tagOk = true ∧ h.seq < 2 ^ 32 ∧ x.isNew h.seq = true

/-- A new message of a session has been accepted (R654, R659): the session notes its number and the beat. -/
def State.adpTaken (s : State) (h : AdpHead) (x : Session) : State :=
  (s.arrived h.path).setSession x.number (fun _ => x.took h.seq s.ep.beat)

/-- The data that a command carries is in range: the frames, requests, items and records of the formats that have ranges. -/
def operandsWf : Instr → Bool
  | .sendQueueDoorbell _ _ _ ws | .receiveQueueDoorbell _ _ _ ws | .triggerListDoorbell _ _ _ ws => ws.all Wr.wf
  | .writeSegment f | .sendSegment f | .readReq f _ _ | .fetchAddRequest f _ _ | .cmpSwapRequest f _ _ | .readResp f _
  | .atomicResp f _ | .ack f _ | .sequenceNak f _ | .rnrNak f | .nak f => f.wf
  | .configRequest _ x _ _ => x.wf
  | .frameHeadCell _ h => h.wf
  | .completionArrives _ x _ => x.wf
  | .recordFrame _ rs => rs.all recordWf && decide ((rs.map (fun r => r.payload.length + 1)).sum ≤ 27)
  | .adpRead _ items | .adpWrite _ items _ => items.all AdpItem.wf
  | _ => true

/-- A command that is a write of a command entry of the dictionary. -/
def commandEntry : Instr → Bool
  | .commitRequest _ _ | .twinRelease | .latchRecordClear | .standbyRequest | .storeRequest | .groupPerst _ | .laneExclude _ _
  | .scanStart _ _ | .scanAbort _ | .rescrubExtent _ | .releaseExtent _ | .ledgerBankRetire _ | .pageQuery _ | .qpQuery _
  | .containRelease _ | .instanceResetDrain _ | .instanceResetSquash _ | .coreRetire _ | .portRelease _ _ | .force _ | .clearAll
  | .collectorInject | .homeMove _ | .twinQuery _ | .trustAnchorWrite _ _ | .shadowDiscard true | .bankRetire _ none
  | .attachmentRetire _ none | .clusterRetire _ none | .attachRequest true | .detachRequest true | .serveAlone true => true
  | _ => false

end Sys2Proof.Machine
end

