-- ==== Sys2Proof/Certificates/Slice0/Obligations.lean ====
section
/-!
DEFINITION. The statements about the model. Each is about one command or a family of commands on every state that meets its
hypotheses, or about every command. A docstring says what is stated and ends with the rules of the spec that the statement draws
on; a rule that a statement states whole is cited in OBLIGATIONS.json.
-/

section

open Sys2Proof Sys2Proof.Machine

/-- A commit request and a discard of the shadow, on every state in which ADP requests are performed. Draws on R28 to R30, R35.
-/
def Obligations.CommitRequestAndDiscard : Prop :=
  (∀ (token : BitVec 32) (cycle : Fin 256) (s : State), s.adpOpen = true → token ≠ 0#32 → s.ep.commit ≠ .pending →
    s.ep.commit ≠ .deferred → ∃ t, exec (.commitRequest token cycle) s = .next t ∧ t.ep.commit = .pending ∧
      t.ep.token = token.toNat ∧ t.ep.due = s.ep.beat + (if cycle.val ≤ 224 then 1 else 2) ∧ t.ep.live = s.ep.live ∧
      t.ep.shadow = s.ep.shadow ∧ t.ep.epoch = s.ep.epoch ∧ t.out.head? = some (.status 0)) ∧
  (∀ (token : BitVec 32) (cycle : Fin 256) (s : State), s.adpOpen = true →
    s.ep.commit = .pending ∨ s.ep.commit = .deferred ∨ token = 0#32 →
    exec (.commitRequest token cycle) s = .next (s.answer (if token = 0#32 then 2 else 1))) ∧
  (∀ s : State, s.adpOpen = true → s.ep.commit = .idle ∨ s.ep.commit = .rejected →
    ∃ t, exec (.shadowDiscard true) s = .next t ∧ t.ep.shadow = s.ep.live ∧ t.ep.live = s.ep.live ∧ t.ep.commit = .idle ∧
      t.ep.epoch = s.ep.epoch ∧ t.out.head? = some (.status 0)) ∧
  (∀ s : State, s.adpOpen = true → s.ep.commit = .pending ∨ s.ep.commit = .deferred →
    exec (.shadowDiscard true) s = .next (s.answer 1)) ∧
  (∀ s : State, s.adpUp = true → exec (.shadowDiscard false) s = .next (s.answer 0))

/-- A commit that is due, or whose turn has come, takes effect when fewer than three epochs are live, its records fit and its
checks pass: the shadow becomes live, the epoch advances and the commit is recorded. One that fails a check is rejected and
changes no table, and writes no check entry when only the number of its records is too large. One that finds three epochs live
is deferred, and counted once. Draws on R31 to R33, R686. -/
def Obligations.CommitTakesEffect : Prop :=
  (∀ s : State, s.running = true → s.ep.commit = .pending ∧ s.ep.due ≤ s.ep.beat ∨ s.ep.commit = .deferred →
    s.ep.superseded.length < 2 → s.commitWaits = false → s.stagedCount ≤ 16384 →
    (∀ c ∈ s.checkEntries s.ep.shadow, c.2 = 0) →
    ∃ t, (s.ep.commit = .pending → exec .commitDue s = .next t) ∧ (s.ep.commit = .deferred → exec .deferredCommitApplied s = .next t) ∧
      t.ep.live = s.ep.shadow ∧ t.ep.shadow = s.ep.shadow ∧ t.ep.commit = .idle ∧ t.ep.epoch = s.ep.epoch + 1 ∧
      t.ep.lastToken = s.ep.token ∧ t.ep.lastEpoch = s.ep.epoch + 1 ∧ t.ep.lastBeat = s.ep.beat ∧
      t.ep.superseded = s.ep.superseded ++ [{ count := s.ep.epoch, stopped := s.ep.beat, tables := s.ep.live }] ∧
      t.ep.beat = s.ep.beat ∧ t.ep.deferrals = s.ep.deferrals) ∧
  (∀ s : State, s.running = true → s.ep.commit = .pending ∧ s.ep.due ≤ s.ep.beat ∨ s.ep.commit = .deferred →
    s.ep.superseded.length < 2 → s.commitWaits = false →
    16384 < s.stagedCount ∨ (∃ c ∈ s.checkEntries s.ep.shadow, c.2 ≠ 0) →
    ∃ t, (s.ep.commit = .pending → exec .commitDue s = .next t) ∧ (s.ep.commit = .deferred → exec .deferredCommitApplied s = .next t) ∧
      t.ep = { s.ep with commit := .rejected } ∧ ((∀ c ∈ s.checkEntries s.ep.shadow, c.2 = 0) → t = s.setCommit .rejected)) ∧
  (∀ s : State, s.running = true → s.ep.commit = .pending → s.ep.due ≤ s.ep.beat → 2 ≤ s.ep.superseded.length →
    ∃ t, exec .commitDue s = .next t ∧ t.ep = { s.ep with commit := .deferred, deferrals := s.ep.deferrals + 1 })

/-- The drain of superseded epochs. A drained epoch is released; an epoch that has not drained 64 beats after it stopped being
current sets fault source 16 once, and stays live. Draws on R36, R37. -/
def Obligations.DrainOfEpochs : Prop :=
  (∀ (tag : Fin 4) (s : State), s.running = true → s.inFlight tag.val = 0 →
    exec (.epochRelease tag) s = .next { s with ep := { s.ep with
      superseded := s.ep.superseded.filter (fun e => decide (e.count % 4 ≠ tag.val)) } }) ∧
  (∀ s : State, s.running = true → ∃ t, exec .drainOverrun s = .next t ∧
    t.ep = { s.ep with superseded := s.ep.superseded.map (fun e => if e.stopped + 64 ≤ s.ep.beat then { e with overrun := true } else e) } ∧
    (t.source 16).newEvents = (s.source 16).newEvents +
      (s.ep.superseded.filter (fun e => decide (e.stopped + 64 ≤ s.ep.beat) && !e.overrun)).length ∧
    (∀ n, n ≠ 16 → t.source n = s.source n))

/-- An accepted sideband level. PERST_N acts on the ruling group of a host port: high releases the host's port, low resets its
hierarchy. PRSNT_N high takes the group's enabled ports down, low starts them. WAKE_N low on a group of one bound port wakes
that port's hierarchy. CLKREQ_N low from the partner brings the group's ports back from L1.1 and L1.2. GARNET_PRSNT_N high
takes the Garnet port down, and on a Paired or Fencing module sets source 389 and begins a warm start; low starts the port. A
level that is already accepted, and a signal that the group's role does not use, change nothing. Before Release the level is
only kept. Draws on R47 to R50, R54, R271, R629. -/
def Obligations.SidebandLevelIsAccepted : Prop :=
  (∀ (n : Fin 40) (high : Bool) (s : State), s.dieOn = true → s.roleIn s.ep.live n = 1 → s.ruling s.ep.live n = n →
    (s.group n).perst ≠ high → exec (.sidebandLevelAccepted n .perst high) s =
      .next (if s.running = false then s.setGroup n (fun g => { g with perst := high })
        else if high then (s.setGroup n (fun g => { g with perst := high })).hostRelease n
        else (s.setGroup n (fun g => { g with perst := high })).hostReset n)) ∧
  (∀ (n : Fin 40) (high : Bool) (s : State), s.dieOn = true → (s.group n).prsnt ≠ high →
    exec (.sidebandLevelAccepted n .prsnt high) s =
      .next (if s.running = false then s.setGroup n (fun g => { g with prsnt := high })
        else (s.setGroup n (fun g => { g with prsnt := high })).each ((s.portsOfGroup n).filter (fun p => s.enabled p))
          (fun p s => if high then s.portDown p 2 else s.startPort p))) ∧
  (∀ (n : Fin 40) (high : Bool) (v b : Nat) (s : State), s.dieOn = true → s.roleIn s.ep.live n = 2 →
    (s.group n).wake ≠ high → s.bridgeOfPort (4 * s.ruling s.ep.live n) = some (v, b) →
    exec (.sidebandLevelAccepted n .wake high) s =
      .next (if s.running = true ∧ high = false ∧ (s.portsOfGroup n).length = 1 then
          (s.setGroup n (fun g => { g with wake := high })).wakeFrom v (4 * s.ruling s.ep.live n)
        else s.setGroup n (fun g => { g with wake := high }))) ∧
  (∀ (n : Fin 40) (high : Bool) (s : State), s.dieOn = true → s.roleIn s.ep.live n = 2 →
    (s.group n).wake ≠ high → s.bridgeOfPort (4 * s.ruling s.ep.live n) = none →
    exec (.sidebandLevelAccepted n .wake high) s = .next (s.setGroup n (fun g => { g with wake := high }))) ∧
  (∀ (n : Fin 40) (high : Bool) (s : State), s.dieOn = true → exec (.sidebandLevelAccepted n .clkreq high) s =
    .next (if s.running = true ∧ high = false ∧ s.roleIn s.ep.live n ≠ 0 ∧ s.roleIn s.ep.live n ≠ 3 then
        (s.setGroup n (fun g => { g with clkreqPartner := false })).each
          ((s.portsOfGroup n).filter (fun p => decide ((s.port p).power = .l11 ∨ (s.port p).power = .l12))) (fun p s => s.useLink p)
      else s.setGroup n (fun g => { g with clkreqPartner := high }))) ∧
  (∀ (n : Fin 40) (s : State), s.running = true → exec (.sidebandLevelAccepted n .garnetPrsnt false) s =
    .next (State.startPort 160 { s with board := { s.board with garnetPrsnt := false } })) ∧
  (∀ (n : Fin 40) (s : State), s.running = true → exec (.sidebandLevelAccepted n .garnetPrsnt true) s =
    .next (if s.twin.state = .paired ∨ s.twin.state = .fencing then
        (State.warmStart 5 { s with board := { s.board with garnetPrsnt := true } }).raise 389
      else State.portDown 160 2 { s with board := { s.board with garnetPrsnt := true } })) ∧
  (∀ (n : Fin 40) (high : Bool) (s : State), s.dieOn = true → s.running = false →
    exec (.sidebandLevelAccepted n .garnetPrsnt high) s = .next { s with board := { s.board with garnetPrsnt := high } }) ∧
  (∀ (n : Fin 40) (signal : Sideband) (high : Bool) (s : State), s.dieOn = true →
    signal = .perst ∧ (s.roleIn s.ep.live n ≠ 1 ∨ s.ruling s.ep.live n ≠ n ∨ (s.group n).perst = high) ∨
      signal = .prsnt ∧ (s.group n).prsnt = high ∨
      signal = .wake ∧ (s.roleIn s.ep.live n ≠ 2 ∨ (s.group n).wake = high) →
    exec (.sidebandLevelAccepted n signal high) s = .next s)

/-- The check of a downstream group's PERST_N, 8 beats after the group took that role. A pin that read high is in contention
and sets the group's fault source; else the module drives it low for at least 781,250 beats and configures the expander. The
group's enabled ports are kept down while the contention lasts. Draws on R51, R52, R265. -/
def Obligations.PerstIsCheckedBeforeItIsDriven : Prop :=
  (∀ (n : Fin 40) (d : Nat) (s : State), s.running = true → (s.group n).checkDue = some d → d ≤ s.ep.beat →
    exec (.perstContentionCheck n true) s =
      .next (((s.setGroup n (fun g => { g with checkDue := none, contention := true })).raise (64 + n)).contentionPorts n)) ∧
  (∀ (n : Fin 40) (d : Nat) (s : State), s.running = true → (s.group n).checkDue = some d → d ≤ s.ep.beat →
    exec (.perstContentionCheck n false) s =
      .next ((s.setGroup n (fun g => { g with
        checkDue := none, contention := false, driven := some false, holdUntil := s.ep.beat + 781250, configSteps := 2 })).contentionPorts n)) ∧
  (∀ (n : Fin 40) (high : Bool) (d : Nat) (s : State), s.running = true → (s.group n).checkDue = some d → d ≤ s.ep.beat →
    ∃ t, exec (.perstContentionCheck n high) s = .next t ∧ (t.group n).contention = high ∧ (t.group n).checkDue = none ∧
      (high = false → (t.group n).driven = some false ∧ (t.group n).holdUntil = s.ep.beat + 781250 ∧ (t.group n).configSteps = 2) ∧
      (high = true → (t.group n).driven = (s.group n).driven ∧ (t.source (64 + n)).newEvents = (s.source (64 + n)).newEvents + 1)) ∧
  (∀ (n : Fin 40) (high : Bool) (d : Nat) (s : State), (s.group n).checkDue = some d → s.ep.beat < d →
    exec (.perstContentionCheck n high) s = .next s)

/-- The I2C transactions of a group's segment. A slot starts a poll of the expander at address 0x20, which sets the command
pointer when the last transaction was a write, or after a poll the write that waits: of the direction registers first, then of
the output registers. SDA held low fails it at once. A poll that completes takes both input registers. An acknowledged write
drives the pins, and completes the slot commands and releases that it carried. A failure frees the bus, leaves the slot of the
transaction and is counted; a failed poll is repeated, and a failed write waits again. Draws on R55 to R58, R265 to R267, R270.
-/
def Obligations.I2cTransactions : Prop :=
  (∀ (n : Fin 40) (s : State), s.running = true → (s.group n).slot = .idle → s.ep.beat % 1024 = 0 →
    (s.group n).slotBeat ≠ some s.ep.beat →
    (s.group n).lastWasWrite = true ∨ (s.group n).repoll = true ∨ s.slotsOfGroup n = [] ∨
      (s.group n).writePending = false ∧ (s.group n).configSteps = 0 →
    exec (.i2cPollSlot n false) s = .next ((s.setGroup n (fun g => { g with
      slotBeat := some s.ep.beat, slot := .poll, lastWasWrite := false, repoll := false })).emit
        (.i2cRead n 0x20 (s.group n).lastWasWrite))) ∧
  (∀ (n : Fin 40) (s : State), s.running = true → (s.group n).slot = .idle → s.ep.beat % 1024 = 0 →
    (s.group n).slotBeat ≠ some s.ep.beat → (s.group n).lastWasWrite = false → (s.group n).repoll = false → s.slotsOfGroup n ≠ [] →
    (s.group n).configSteps = 1 →
    exec (.i2cPollSlot n false) s = .next ((s.setGroup n (fun g => { g with
      slotBeat := some s.ep.beat, slot := .config, lastWasWrite := true })).emit (.i2cWrite n 0x20 6 (slotDirections (s.slotsOfGroup n))))) ∧
  (∀ (n : Fin 40) (s : State), s.running = true → (s.group n).slot = .idle → s.ep.beat % 1024 = 0 →
    (s.group n).slotBeat ≠ some s.ep.beat → (s.group n).lastWasWrite = false → (s.group n).repoll = false → s.slotsOfGroup n ≠ [] →
    (s.group n).configSteps ≠ 1 → (s.group n).writePending = true ∨ 1 < (s.group n).configSteps →
    exec (.i2cPollSlot n false) s = .next (((s.setGroup n (fun g => { g with
      slotBeat := some s.ep.beat, slot := .write, lastWasWrite := true, writing := g.outputs, writePending := false })).each
        (s.slotsOfGroup n) (fun e s => s.setSlot e.1 (fun q => { q with cmdSent := q.cmdOwed || q.cmdSent, cmdOwed := false }))).emit
          (.i2cWrite n 0x20 2 (s.group n).outputs))) ∧
  (∀ (n : Fin 40) (s : State), s.running = true → (s.group n).slot = .idle → s.ep.beat % 1024 = 0 →
    (s.group n).slotBeat ≠ some s.ep.beat →
    ∃ t, exec (.i2cPollSlot n true) s = .next t ∧ (t.group n).slot = .idle ∧ (t.group n).slotBeat = some s.ep.beat ∧
      (t.group n).failedSlots = (s.group n).failedSlots + 1 ∧ (t.group n).consecFailed = min ((s.group n).consecFailed + 1) 8) ∧
  (∀ (n : Fin 40) (inputs : BitVec 16) (s : State), s.running = true → (s.group n).slot = .poll →
    ∃ t, exec (.i2cPollDone n inputs) s = .next t ∧ t.group n = { s.group n with
        slot := .idle, inputs := inputs.toNat, consecFailed := 0, lost := false, polledAt := s.ep.beat
        configSteps := if (s.group n).lost = true ∧ s.slotsOfGroup n ≠ [] then 2 else (s.group n).configSteps } ∧
      (∀ e ∈ s.slotsOfGroup n, t.slot e.1 = (s.slot e.1).poll (slotLevels e.2 inputs.toNat)) ∧
      ((∃ e ∈ s.slotsOfGroup n, (t.slot e.1).inputs ≠ (s.slot e.1).inputs) → t.irq.pending.look (160 + n) false = true)) ∧
  (∀ (n : Fin 40) (s : State), s.running = true → (s.group n).slot = .config → exec (.i2cWriteAcked n) s =
    .next (State.each (s.slotsOfGroup n) (fun e z => z.pwrenDriven e { s.group n with
        slot := .idle, consecFailed := 0, configSteps := (s.group n).configSteps - 1, directed := true })
      (s.setGroup n (fun g => { g with slot := .idle, consecFailed := 0, configSteps := g.configSteps - 1, directed := true })))) ∧
  (∀ (n : Fin 40) (s : State), s.running = true → (s.group n).slot = .write →
    ∃ t, exec (.i2cWriteAcked n) s = .next t ∧ ∀ e ∈ s.slotsOfGroup n, (t.slot e.1).cmdSent = false ∧
      ((s.group n).writing.testBit e.2.perst = true → (t.slot e.1).releaseOwed = false) ∧
      ((s.slot e.1).cmdSent = true → ∀ v b, s.bridgeOfPort e.1 = some (v, b) → (t.bridge v b).cmdCompleted = true)) ∧
  (∀ (n : Fin 40) (s : State), s.running = true → (s.group n).slot = .write → s.slotsOfGroup n = [] →
    exec (.i2cWriteAcked n) s = .next (s.setGroup n (fun g => { g with
      slot := .idle, consecFailed := 0, configSteps := g.configSteps - 1, acked := g.writing }))) ∧
  (∀ (n : Fin 40) (s : State), s.running = true → (s.group n).slot ≠ .idle → ∃ t, exec (.i2cTransactionFailed n) s = .next t ∧
    t.out = .i2cRecover n :: s.out ∧ t.group n = { s.group n with
      slot := .idle, failedSlots := (s.group n).failedSlots + 1, consecFailed := min ((s.group n).consecFailed + 1) 8
      lost := (s.group n).lost || decide ((s.group n).consecFailed = 7)
      writePending := (s.group n).writePending || decide ((s.group n).slot = .write), repoll := decide ((s.group n).slot = .poll) } ∧
    (t.source (64 + n)).newEvents = (s.source (64 + n)).newEvents + if (s.group n).consecFailed = 7 then 1 else 0)

/-- The edge pins and the sensors. An edge of MODRST_N is kept, and the end of a pulse of 10 ms, or of 9 ms or more that is
taken as one, is a cold start. Draws on R60, R64, R68 to R71, R628. -/
def Obligations.BoardPinsAndSensors : Prop :=
  (∀ s : State, s.dieOn = true → s.board.alertInLow = true →
    exec (.twinAlertInAsserted false) s = .next { s with board := { s.board with alertInLow := false } }) ∧
  (∀ s : State, s.dieOn = true → s.board.alertInLow = false →
    s.running = false ∨ s.twin.state ≠ .paired ∧ s.twin.state ≠ .fencing →
    exec (.twinAlertInAsserted true) s = .next { s with board := { s.board with alertInLow := true } }) ∧
  (∀ s : State, s.running = true → s.board.alertInLow = false → s.twin.state = .paired →
    exec (.twinAlertInAsserted true) s = .next (State.enterFence 2 { s with board := { s.board with alertInLow := true } })) ∧
  (∀ s : State, s.running = true → s.board.alertInLow = false → s.twin.state = .fencing →
    exec (.twinAlertInAsserted true) s = .next { s with
      board := { s.board with alertInLow := true }
      twin := { s.twin with edges := (s.ep.beat :: s.twin.edges).filter (fun b => decide (s.ep.beat < b + 8)) } }) ∧
  (∀ (ms : Nat) (taken : Bool) (s : State), s.board.modrst = true →
    exec (.modrstN ⟨false, ms⟩ taken) s = .next { s with board := { s.board with modrst := false } }) ∧
  (∀ (ms : Nat) (taken : Bool) (s : State), s.board.modrst = false → exec (.modrstN ⟨true, ms⟩ taken) s =
    .next (if s.sup.gate = .on ∧ (10 ≤ ms ∨ 9 ≤ ms ∧ taken = true) then State.coldStart 1 { s with board := { s.board with modrst := true } }
      else { s with board := { s.board with modrst := true } })) ∧
  (∀ s : State, s.dieOn = true → s.board.refExternal = true → exec .refclkLoss s =
    .next (State.raise 122 { s with board := { s.board with refExternal := false, refLosses := s.board.refLosses + 1 } })) ∧
  (∀ (r : Readings) (s : State), s.dieOn = true → s.ep.beat % 64 = 0 →
    ∃ t, exec (.sensorRead r) s = .next t ∧
      (∀ i : Nat, i < 8 → t.board.temps.look i 0 = (r.toList.getD i 0).toInt ∧
        t.board.hot.look i false = decide (1150 ≤ (r.toList.getD i 0).toInt)) ∧
      (t.source 121).newEvents = (s.source 121).newEvents +
        (if (List.range 8).any (fun i => decide (1150 ≤ (r.toList.getD i 0).toInt) && s.board.hot.look i false) then 1 else 0) ∧
      t.board.throttle = s.board.throttle ∧ t.sup = s.sup ∧ t.col.safe = s.col.safe) ∧
  (∀ s : State, s.dieOn = true → s.ep.beat % 8192 = 0 →
    (10 * (s.setting 0x2101 1 : Int) ≤ s.temperature → 25 < s.board.throttle → exec .throttleEvaluation s =
      .next (State.raise 120 { s with board := { s.board with throttle := s.board.throttle - 25, throttleSteps := s.board.throttleSteps + 1 } })) ∧
    (10 * (s.setting 0x2101 1 : Int) ≤ s.temperature → s.board.throttle ≤ 25 → exec .throttleEvaluation s = .next s) ∧
    (s.temperature ≤ 10 * (s.setting 0x2101 1 : Int) - 50 → exec .throttleEvaluation s =
      .next { s with board := { s.board with throttle := min (s.board.throttle + 25) 100 } }) ∧
    (s.temperature < 10 * (s.setting 0x2101 1 : Int) → 10 * (s.setting 0x2101 1 : Int) - 50 < s.temperature →
      exec .throttleEvaluation s = .next s))

/-- The two feeds. A feed that rises is present; one that falls is lost and sets source 112 or 113. The loss of the last one is
a removal: PG_OUT is low, the gate is off at once and the die has no power. A reverse current turns the feed's FET off, and it
conducts again once the feed exceeds the bus. Draws on R74 to R76, R83, R90, R98. -/
def Obligations.FeedsAndTheirFets : Prop :=
  (∀ (k : Fin 2) (s : State), (s.feed k).present = false → ∃ t, exec (.feedPresent k) s = .next t ∧
    t.feed k = { s.feed k with present := true } ∧ t.sup.retained = true ∧ t.sup.gate = s.sup.gate ∧
    t.sup.latched = s.sup.latched ∧ t.sup.coolDown = s.sup.coolDown ∧ t.sup.retryCount = s.sup.retryCount ∧ t.ep = s.ep ∧
    t.start = s.start ∧ t.col = s.col ∧ t.out = s.out) ∧
  (∀ (k : Fin 2) (s : State), (s.feed k).present = true → (s.feed (1 - k)).present = true →
    exec (.feedLost k) s = .next ((s.setFeed k (fun f => { f with present := false })).raise (112 + k))) ∧
  (∀ (k : Fin 2) (s : State), (s.feed k).present = true → (s.feed (1 - k)).present = false → s.sup.gate = .off →
    exec (.feedLost k) s = .next (((s.setFeed k (fun f => { f with present := false })).raise (112 + k)).setSup
      (fun u => { u with fedLong := false }))) ∧
  (∀ (k : Fin 2) (s : State), (s.feed k).present = true → (s.feed (1 - k)).present = false → s.sup.gate ≠ .off →
    ∃ t, exec (.feedLost k) s = .next t ∧ t.sup.fed = false ∧ t.sup.fedLong = false ∧ t.sup.gate = .off ∧ t.sup.pgOut = false ∧
      t.sup.gateOffOwed = false ∧ t.sup.trips = s.sup.trips ∧ t.sup.retryCount = s.sup.retryCount ∧ t.sup.latched = s.sup.latched ∧
      t.sup.coolDown = (s.sup.tripped && !s.sup.latched) ∧ t.dieOn = false) ∧
  (∀ (k : Fin 2) (s : State), (s.feed k).conducting = true → exec (.reverseCurrentOff k) s =
    .next (s.setFeed k (fun f => { f with conducting := false, reverseOff := true }))) ∧
  (∀ (k : Fin 2) (s : State), (s.feed k).conducting = false → exec (.fetConductsAgain k) s =
    .next (s.setFeed k (fun f => { f with conducting := true, reverseOff := false })))

/-- The gate. It ramps once a feed has been present for 100 ms and nothing bars it; fully on, a cold start begins. The fault
timer and PG_OUT follow the current. Overcurrent, inrush and hard short are trips, which lower PG_OUT, enter safe state and
turn the gate off; the fifth retry latches the supervisor off. A shutdown turns the gate off too and is no trip. Draws on R77
to R88, R91, R94. -/
def Obligations.GateRampTripsAndShutdown : Prop :=
  (∀ s : State, s.sup.gate = .off → s.sup.fed = true → s.sup.latched = false → s.sup.coolDown = false →
    exec .gateTurnOn s = .next (s.setSup (fun u => { u with
      fedLong := true, gate := .ramping, state := .ramp, shutdown := false, retryOwed := false
      retryCount := u.retryCount + (if u.retryOwed then 1 else 0) }))) ∧
  (∀ s : State, s.sup.gate = .off → s.sup.fed = true → s.sup.latched = true ∨ s.sup.coolDown = true →
    exec .gateTurnOn s = .next (s.setSup (fun u => { u with fedLong := true, shutdown := false }))) ∧
  (∀ s : State, s.sup.gate = .ramping → s.sup.gateOffOwed = false →
    exec .gateFullyOn s = .next ((s.setSup (fun u => { u with gate := .on })).coldStart 0)) ∧
  (∀ s : State, s.sup.gate = .on → s.sup.timer = false → s.sup.gateOffOwed = false →
    exec .faultTimerStart s = .next (s.setSup (fun u => { u with timer := true }))) ∧
  (∀ s : State, s.sup.timer = true → exec .faultTimerIdle s = .next (s.setSup (fun u => { u with timer := false }))) ∧
  (∀ s : State, s.sup.gate = .on → s.sup.timer = false → s.sup.pgOut = false → s.sup.gateOffOwed = false →
    exec .pgOutRise s = .next (s.setSup (fun u => { u with pgOut := true }))) ∧
  (∀ s : State, s.sup.gate = .ramping → s.sup.gateOffOwed = false → ∃ t, exec .inrushTrip s = .next t ∧ t.sup.pgOut = false ∧
    t.sup.timer = false ∧ t.sup.gateOffOwed = true ∧ t.sup.gate = .ramping ∧ t.sup.trips = s.sup.trips + 1 ∧ t.sup.lastTrip = 3 ∧
    t.sup.latched = (s.sup.latched || decide (s.sup.retryCount = 5)) ∧ (s.dieOn = true → t.col.safe = true)) ∧
  (∀ s : State, s.sup.gate = .on → s.sup.timer = true → s.sup.gateOffOwed = false → ∃ t, exec .overcurrentTrip s = .next t ∧
    t.sup.pgOut = false ∧ t.sup.timer = false ∧ t.sup.gateOffOwed = true ∧ t.sup.gate = .on ∧ t.sup.trips = s.sup.trips + 1 ∧
    t.sup.lastTrip = 1 ∧ t.sup.latched = (s.sup.latched || decide (s.sup.retryCount = 5)) ∧
    (s.dieOn = true ∨ s.sup.state = .standby → t.col.safe = true)) ∧
  (∀ s : State, s.sup.gate ≠ .off → ∃ t, exec .hardShortTrip s = .next t ∧ t.sup.gate = .off ∧
    t.sup.pgOut = false ∧ t.sup.gateOffOwed = false ∧ t.sup.lastTrip = 2 ∧ t.sup.trips = s.sup.trips + 1 ∧
    t.sup.latched = (s.sup.latched || decide (s.sup.retryCount = 5)) ∧ t.sup.coolDown = !t.sup.latched ∧ t.dieOn = false) ∧
  (∀ s : State, s.sup.gateOffOwed = true → ∃ t, exec .gateOffAfterTrip s = .next t ∧ t.sup.gate = .off ∧
    t.sup.gateOffOwed = false ∧ t.sup.tripped = false ∧ t.sup.latched = s.sup.latched ∧
    t.sup.coolDown = (s.sup.tripped && !s.sup.latched) ∧ t.sup.state =
      (if s.sup.latched then .latchedOff else if s.sup.tripped then .coolDown else .shutdown) ∧ t.dieOn = false) ∧
  (∀ (overVolt : Bool) (s : State), s.sup.retained = true → s.sup.shutdown = false → ∃ t, exec (.busShutdown overVolt) s = .next t ∧
    t.sup.pgOut = false ∧ t.sup.shutdown = true ∧ t.sup.fedLong = false ∧ t.sup.lastTrip = (if overVolt then 5 else 4) ∧
    t.sup.gate = s.sup.gate ∧ t.sup.gateOffOwed = (s.sup.gateOffOwed || decide (s.sup.gate ≠ .off)) ∧ t.sup.trips = s.sup.trips ∧
    t.sup.latched = s.sup.latched ∧ t.sup.coolDown = s.sup.coolDown ∧ t.sup.retryCount = s.sup.retryCount ∧
    t.sup.records.look 114 0 = s.sup.records.look 114 0 + 1 ∧
    (s.dieOn = true ∨ s.sup.state = .standby → t.col.safe = true))

/-- The retries, the latch and their release. The end of a cool-down is followed by the retry, or by a wait for a feed that is
present for 100 ms. Draws on R86 to R93. -/
def Obligations.RetryLatchAndRelease : Prop :=
  (∀ s : State, s.sup.coolDown = true → s.sup.fedLong = true →
    exec .automaticRetry s = .next (s.setSup (fun u => { u with
      gate := .ramping, state := .ramp, shutdown := false, coolDown := false, retryOwed := false, retryCount := s.sup.retryCount + 1 }))) ∧
  (∀ s : State, s.sup.coolDown = true → s.sup.fedLong = false →
    exec .automaticRetry s = .next (s.setSup (fun u => { u with coolDown := false, retryOwed := true }))) ∧
  (∀ s : State, s.sup.pgOut = true → exec .retryCountClear s = .next (s.setSup (fun u => { u with retryCount := 0 }))) ∧
  (∀ s : State, s.sup.fed = false → s.sup.retained = true → s.sup.gate = .off → ∃ t, exec .retainedStateCleared s = .next t ∧
    t.sup.retained = false ∧ t.sup.retryCount = 0 ∧ t.sup.coolDown = false ∧ t.sup.latched = false ∧ t.sup.retryOwed = false ∧
    t.sup.recLatched = s.sup.recLatched ∧ t.sup.recRelease = s.sup.recRelease ∧ t.sup.gate = .off) ∧
  (∀ s : State, s.adpOpen = true → s.heartbeats = false → s.board.garnetPrsnt = false →
    exec .twinRelease s = .next ((s.setSup (fun u => { u with patternFrom := some s.ep.beat })).answer 0)) ∧
  (∀ s : State, s.adpOpen = true → s.heartbeats = true ∨ s.board.garnetPrsnt = true → exec .twinRelease s = .next (s.answer 1)) ∧
  (∀ s : State, s.sup.latched = true → s.sup.gate = .off → s.sup.fed = true → s.sup.fedLong = true → exec .releasePatternAccepted s =
    .next (s.setSup (fun u => { u with
      gate := .ramping, state := .ramp, shutdown := false, latched := false, retryOwed := false, coolDown := false, recRelease := 2, retryCount := 0 }))) ∧
  (∀ s : State, s.sup.latched = true → s.sup.gate = .off → s.sup.fed = true → s.sup.fedLong = false →
    exec .releasePatternAccepted s = .next (s.setSup (fun u => { u with
      latched := false, retryOwed := false, coolDown := false, retryCount := 0, recRelease := 2, state := .unpowered }))) ∧
  (∀ s : State, s.adpOpen = true → exec .latchRecordClear s =
    .next ((s.setSup (fun u => { u with recLatched := false, recRelease := 0 })).answer 0))

/-- Standby. A request powers the die down and keeps the levels of driven PERST_N pins; Sprout then samples the wake sources it
watches, and an accepted source, the alarm or a waking frame begins a warm start with cause 6. Draws on R96, R97, R575 to R579.
-/
def Obligations.StandbyAndItsWake : Prop :=
  (∀ s : State, s.adpOpen = true → s.twin.state = .holding ∨ s.twin.state = .single ∨ s.twin.state = .takenOver →
    (∀ p : Nat, p < 160 → s.enabled p = true → s.portRole p = 1 ∧ (s.group (p / 4)).perst = false) →
    ∃ t, exec .standbyRequest s = .next t ∧ t.sup.state = .standby ∧ t.sup.gate = s.sup.gate ∧ t.dieOn = false ∧
      t.sprout.accepted = 0 ∧ t.sprout.filters = s.watched ∧ t.start.recValid = decide (Config.recordSize s.savedConfig ≤ 176 * 1024) ∧ t.start.recConfig = s.savedConfig ∧
      t.core.frames = [] ∧ t.ports = [] ∧ (∀ n : Nat, (t.group n).driven = (s.group n).driven) ∧ t.out = .status 0 :: s.out) ∧
  (∀ s : State, s.adpOpen = true → s.twin.state ≠ .holding → s.twin.state ≠ .single → s.twin.state ≠ .takenOver →
    exec .standbyRequest s = .next (s.answer 1)) ∧
  (∀ (levels : BitVec 124) (s : State), s.sup.state = .standby ∨ s.starting = true ∧ s.start.cause = 6 → ∃ t, exec (.wakeSourceSample levels) s = .next t ∧
    (∀ k : Nat, k < 124 → s.watches (wakeSourceOf k) = true → t.sprout.samples.look k true = levels.getLsbD k) ∧
    t.sup = s.sup ∧ t.start = s.start) ∧
  (∀ s : State, s.sup.state = .standby → s.sprout.alarm = true → exec .wakeAlarm s =
    .next { s with sprout := { s.sprout with
      alarm := false, accepted := if s.watches 44 then s.sprout.accepted ||| 2 ^ 44 else s.sprout.accepted } }) ∧
  (∀ (frame : Fin 3) (s : State), s.sup.state = .standby → frame ≠ 0 ∨ s.sprout.accepted ≠ 0 →
    ∃ t, exec (.standbyWake frame) s = .next t ∧ t.start.cause = 6 ∧ t.start.phase = .warm ∧ t.start.kind = 1 ∧
      t.sup.state = .starting ∧ t.sprout.wakeSources = s.sprout.accepted ∧ t.sprout.wakeFrame = frame ∧
      t.sprout.wakes = s.sprout.wakes + 1)

/-- How a start begins. A cold start clears the die, forgets the retained record and waits for its Sprout phase; a warm start
keeps the live tables, the driven PERST_N levels and the retired units, and waits for the check of the retained record. Both
end all traffic, leave the pair and every session, release FAULT_N and keep the failed-start count. Draws on R105 to R108,
R114, R119, R126, R129. -/
def Obligations.StartsClearTheDie : Prop :=
  (∀ (cause : Nat) (s : State),
    let t := s.coldStart cause
    t.start.phase = .cold ∧ t.start.kind = 0 ∧ t.start.cause = cause ∧ t.start.starts = s.start.starts + 1 ∧
    t.start.recValid = false ∧ t.start.failed = s.start.failed ∧ t.sup.state = .starting ∧ t.col.safe = false ∧
    t.board.faultLow = false ∧ t.ports = [] ∧ t.lanes = [] ∧ t.core.frames = [] ∧ t.fab.hiers = [] ∧ t.fab.track = [] ∧
    t.home.entries = [] ∧ t.beryl.qps = [] ∧ t.adp.sessions = [] ∧ t.ep.superseded = [] ∧
    (∀ n : Nat, (t.group n).driven = none ∧ (t.group n).perst = (s.group n).perst) ∧ t.adp.anchors = s.adp.anchors ∧ t.out = s.out) ∧
  (∀ (cause : Nat) (s : State),
    let t := s.warmStart cause
    t.start.phase = .warm ∧ t.start.kind = 1 ∧ t.start.cause = cause ∧ t.start.starts = s.start.starts + 1 ∧
    t.start.failed = s.start.failed ∧ t.sup.state = .starting ∧ t.col.safe = false ∧ t.board.faultLow = false ∧
    t.ports = [] ∧ t.core.frames = [] ∧ t.fab.hiers = [] ∧ t.fab.track = [] ∧ t.home.entries = [] ∧ t.beryl.qps = [] ∧
    t.adp.sessions = [] ∧ t.ep.superseded = [] ∧ t.ep.live = s.ep.live ∧ t.ep.shadow = s.ep.live ∧
    (∀ n : Nat, (t.group n).driven = (s.group n).driven ∧ (t.group n).holdUntil = (s.group n).holdUntil - s.ep.beat) ∧
    t.core.bankState = s.core.bankState ∧
    t.core.attachRetired = s.core.attachRetired ∧ t.home.bankState = s.home.bankState ∧
    t.beryl.clusterRetired = s.beryl.clusterRetired ∧ t.irq.coreRetired = s.irq.coreRetired ∧ t.adp.anchors = s.adp.anchors ∧
    t.out = s.out)

/-- Requests for a start. A cold start request is answered in safe state too, a warm start request is then busy; both are busy
during a start. In limited mode a request clears the failed-start count. An expiry of the watchdog counts, and before
confirmation counts as a failed start, once; it begins a warm start with cause 4. A start that is not Ready in time ends and
counts as failed. Draws on R105 to R107, R126, R127, R129, R600. -/
def Obligations.StartRequestsAndWatchdog : Prop :=
  (∀ s : State, s.adpUp = true → s.col.safe = false → s.starting = false →
    exec .warmStartRequest s = .next (((if s.start.state = .limited then s.setStartUnit (fun u => { u with failed := 0 }) else s).warmStart 3).answer 0)) ∧
  (∀ s : State, s.adpUp = true → s.col.safe = true ∨ s.starting = true → exec .warmStartRequest s = .next (s.answer 1)) ∧
  (∀ s : State, s.adpUp = true → s.starting = false →
    exec .coldStartRequest s = .next (((if s.start.state = .limited then s.setStartUnit (fun u => { u with failed := 0 }) else s).coldStart 2).answer 0)) ∧
  (∀ s : State, s.adpUp = true → s.starting = true → exec .coldStartRequest s = .next (s.answer 1)) ∧
  (∀ s : State, s.dieOn = true → s.start.watchdog = true → s.col.safe = false → ∃ t, exec .watchdogExpiry s = .next t ∧
    t.start.phase = .warm ∧ t.start.cause = 4 ∧ t.start.expiries = s.start.expiries + 1 ∧ t.start.recWriting = false ∧
    t.start.failed = (if s.start.state = .confirmed ∨ s.start.counted = true then s.start.failed else min (s.start.failed + 1) 3)) ∧
  (∀ s : State, s.dieOn = true → s.starting = true → ∃ t, exec .readyTimeout s = .next t ∧
    t.start.phase = .none ∧ t.starting = false ∧ t.start.counted = true ∧ t.ep = s.ep ∧
    t.start.failed = (if s.start.counted = true then s.start.failed else min (s.start.failed + 1) 3)) ∧
  (∀ s : State, s.running = true → s.start.state = .ready → 468750000 ≤ s.ep.beat → ∃ t, exec .startConfirmed s = .next t ∧
    t.start.failed = 0 ∧ t.start.state = .confirmed ∧ t.start.running = s.start.running ∧ t.ep = s.ep ∧ t.settings = s.settings)

/-- The phases of a start follow one another, cold: Sprout, BIST, calibration, firmware, configuration, release; warm: the
check of the retained record, then firmware where it is good, else BIST. After three failed starts, or with neither slot valid,
the golden image runs in limited mode if it is valid, and no image if it is not. Draws on R109 to R117, R121 to R124, R146. -/
def Obligations.StartPhasesFollow : Prop :=
  (∀ (slotId : BitVec 4) (capOk refValid : Bool) (s : State), s.inPhase .cold = true →
    ∃ t, exec (.coldStart slotId capOk refValid) s = .next t ∧ t.start.phase = .bist ∧ t.start.state = .bist ∧
      t.board.slotId = slotId.toNat ∧ t.board.refExternal = (refValid && decide (s.loaded 0xA010 3 = 0)) ∧ t.sup.records = [] ∧
      t.sup.capOk = capOk ∧ (capOk = true → s.sup.records = [] → t.col = s.col)) ∧
  (∀ (a : List (Fin 40)) (b : List (Fin 64)) (l : List (Fin 16)) (c : List (Fin 8)) (k : List (Fin 4)) (s : State),
    s.inPhase .bist = true → ∃ t, exec (.bistDone a b l c k false) s = .next t ∧
      (t.start.phase = .calibration ∧ t.start.state = .calibration ∧ t.usableCores ≠ [] ∧ t.irq.moving = [] ∨ t.col.safe = true) ∧
      (k = [] → s.start.kind ≠ 2 → t.start.phase = .calibration)) ∧
  (∀ (a : List (Fin 40)) (b : List (Fin 64)) (l : List (Fin 16)) (c : List (Fin 8)) (k : List (Fin 4)) (s : State),
    s.inPhase .bist = true → ∃ t, exec (.bistDone a b l c k true) s = .next t ∧ t.col.safe = true) ∧
  (∀ (failed : List (Fin 328)) (s : State), s.inPhase .calibration = true → exec (.calibrationDone failed) s =
    .next ((((s.each ((s.lanes.filter (fun e => decide (e.2.failCause = 9) && !failed.any (fun f => decide (f.val = e.1)))).map (·.1))
      (fun l s => s.setLane l (fun x => { x with failCause := 0, state := if x.excludeCmd then 6 else 0 }))).each failed (fun l s => (s.setLane l (fun x => { x with state := 6, failCause := 9, failCount := x.failCount + 1 })).raise
      (136 + l.val / 8))).setStartUnit (fun u => { u with
        recCalib := (List.range 328).map (fun l => (l, if failed.any (fun f => decide (f.val = l)) then 1 else 0))
        phase := .firmware })).setStart .firmware)) ∧
  (∀ s : State, s.inPhase .firmware = true → s.start.failed ≠ 3 →
    s.start.slotA.checked.valid = true ∨ s.start.slotB.checked.valid = true →
    ∃ t, exec .firmwareLoad s = .next t ∧ t.start.phase = .configuration ∧ t.start.state = .configuration ∧
      t.start.watchdog = true ∧ (s.start.failed = 0 → ∀ k : Nat, k = s.loaded 0x2220 1 % 2 →
        t.start.running = if (if k = 0 then s.start.slotA.checked.valid else s.start.slotB.checked.valid) then k else 1 - k)) ∧
  (∀ s : State, s.inPhase .firmware = true →
    s.start.failed = 3 ∨ s.start.slotA.checked.valid = false ∧ s.start.slotB.checked.valid = false →
    ∃ t, exec .firmwareLoad s = .next t ∧ t.start.phase = .none ∧
      (s.start.golden.checked.valid = true → t.start.state = .limited ∧ t.start.running = 2 ∧ t.start.watchdog = true ∧
        (∀ n : Nat, (t.group n).driven = none)) ∧
      (s.start.golden.checked.valid = false → t.start.running = 3 ∧ t.start.watchdog = false)) ∧
  (∀ s : State, s.inPhase .configuration = true → ∃ t, exec .configurationLoad s = .next t ∧ t.start.phase = .release) ∧
  (∀ (ms : BitVec 32) (s : State), s.inPhase .release = true → ∃ t, exec (.dataPathRelease ms) s = .next t ∧
    t.start.phase = .none ∧ t.start.state = .ready ∧ t.start.readyMs = ms.toNat ∧ t.sup.state = .active ∧ t.ep.beat = 0 ∧
    t.ep.epoch = 0 ∧ t.running = true) ∧
  (∀ (recordOk sramError repaired : Bool) (s : State), s.inPhase .warm = true → s.start.recWriting = false →
    ∃ t, exec (.warmStart recordOk sramError repaired) s = .next t ∧
      t.start.phase = (if s.start.recValid = true ∧ recordOk = true ∧ sramError = false then .firmware else .bist) ∧
      t.settings = [] ∧ t.ep = {})

/-- The retained record, the stored dictionary and the images. Draws on R117, R120, R128. -/
def Obligations.RecordStoreAndImages : Prop :=
  (∀ s : State, s.dieOn = true → s.start.recWriting = true → exec .retainedRecordWritten s = .next (s.setStartUnit (fun u => { u with
    recConfig := s.savedConfig, recValid := decide (Config.recordSize s.savedConfig ≤ 176 * 1024), recWriting := false }))) ∧
  (∀ s : State, s.adpOpen = true → s.start.storeStatus ≠ 1 →
    exec .storeRequest s = .next ((s.setStartUnit (fun u => { u with storeStatus := 1 })).answer 0)) ∧
  (∀ s : State, s.adpOpen = true → s.start.storeStatus = 1 → exec .storeRequest s = .next (s.answer 1)) ∧
  (∀ (slot : Fin 2) (block : BitVec 8192) (s : State), s.adpUp = true → s.updatesOpen = true → s.start.running ≠ slot.val →
    ∃ t, exec (.imageBlockWrite slot block) s = .next t ∧
      t.start.blockOffset = (s.start.blockOffset + 1) % 2 ^ 32 ∧ t.out = .status 0 :: s.out ∧
      (slot = 0 → t.start.slotA = { s.start.slotA with blocks := s.start.slotA.blocks.put s.start.blockOffset block.toNat, valid := false } ∧
        t.start.slotB = s.start.slotB) ∧
      (slot = 1 → t.start.slotB = { s.start.slotB with blocks := s.start.slotB.blocks.put s.start.blockOffset block.toNat, valid := false } ∧
        t.start.slotA = s.start.slotA)) ∧
  (∀ (slot : Fin 2) (s : State), s.adpUp = true → s.updatesOpen = true → s.start.running ≠ slot.val →
    ∃ t, exec (.imageVerify slot) s = .next t ∧ t.out = .status 0 :: s.out ∧
      (slot = 0 → t.start.slotA = s.start.slotA.checked ∧ t.start.slotB = s.start.slotB ∧ t.start.verifyFailed = !s.start.slotA.verified) ∧
      (slot = 1 → t.start.slotB = s.start.slotB.checked ∧ t.start.slotA = s.start.slotA ∧ t.start.verifyFailed = !s.start.slotB.verified)) ∧
  (∀ (slot : Fin 2) (block : BitVec 8192) (s : State), s.adpUp = true → s.updatesOpen = false ∨ s.start.running = slot.val →
    exec (.imageBlockWrite slot block) s = .next (s.answer 1) ∧ exec (.imageVerify slot) s = .next (s.answer 1))

/-- The resets below a start. Draws on R131, R134. -/
def Obligations.ResetsBelowAStart : Prop :=
  (∀ (n : Fin 40) (s : State), s.adpOpen = true → s.roleIn s.ep.live n = 2 →
    exec (.groupPerst n) s = .next ((s.groupReset n).answer 0)) ∧
  (∀ (n : Fin 40) (s : State), s.adpOpen = true → s.roleIn s.ep.live n ≠ 2 →
    exec (.groupPerst n) s = .next (s.answer 2)) ∧
  (∀ (v : Fin 64) (p : Nat) (s : State), s.running = true → s.portOfVh v = some p → s.linkActive p = true →
    exec (.hotReset v) s = .next ((((s.portDownFree p).setPort p (fun q => { q with downOwed := false })).hierReset v).startPort p)) ∧
  (∀ (v : Fin 64) (b : Fin 256) (s : State), s.running = true → s.bridgeInUse v b = true →
    exec (.secondaryBusReset v b) s = .next
      (((s.setBridge v b (fun x => { x with busReset := true })).targetReset v b (s.bindingIn s.ep.live v b)).setBridge v b (fun x => { x with busReset := false }))) ∧
  (∀ (v : Fin 64) (s : State), s.running = true → exec (.functionLevelReset v) s = .next (s.functionReset v))

/-- Training of ports. A trunk or Garnet block whose check fails restarts the count of good words; one that says the partner
excluded the lane fails it with cause 5; a good one is taken, and the stage advances where its lanes are ready. On a link that
was up the coefficients and the polarity stay. The detect timer excludes the lanes not detected and enters stage 2; the bound
of a stage takes out the lanes that have not met it, and the port returns to stage 2 where none met the target. The link comes
up from stage 4, or from stage 3 of a narrowing. Draws on R147 to R154, R160, R162, R184, R187 to R189. -/
def Obligations.TrunkTraining : Prop :=
  (∀ (lane : Fin 328) (p : Nat) (word : BitVec 64) (prbs : List (Fin 4)) (done inverted : Bool) (ask : Fin 9) (preset : Fin 8)
    (s : State), s.running = true → s.portOfLane lane = some p → s.portRole p = 3 → lane.val ∈ s.trainees p →
    ((trainWord word.toNat).crcOk = false → exec (.trainingBlock lane ⟨word, prbs⟩ done inverted ⟨ask, preset⟩) s =
      .next ((if (s.port p).stage = 4 then s.setLane lane (fun x => x.measure prbs) else s).setLane lane (fun x => { x with goodWords := 0 }))) ∧
    ((trainWord word.toNat).crcOk = true → (trainWord word.toNat).excluded = true →
      ∃ u : State, exec (.trainingBlock lane ⟨word, prbs⟩ done inverted ⟨ask, preset⟩) s = .next (u.laneFail lane 5) ∧
        (u.lane lane).partner = word.toNat ∧ (u.lane lane).detected = true ∧ (u.port p).stage = (s.port p).stage ∧
        ((s.port p).stage = 1 → (u.port p).firstDetect = some ((s.port p).firstDetect.getD s.ep.beat)) ∧
        (∀ l : Nat, l ≠ lane → u.lane l = s.lane l)) ∧
    ((trainWord word.toNat).crcOk = true → (trainWord word.toNat).excluded = false →
      ∃ u : State, exec (.trainingBlock lane ⟨word, prbs⟩ done inverted ⟨ask, preset⟩) s = .next (u.stageAdvance p) ∧
        (u.lane lane).partner = word.toNat ∧ (u.lane lane).detected = true ∧ (u.port p).stage = (s.port p).stage ∧ u.out = s.out ∧
        ((s.port p).stage = 1 → (u.port p).firstDetect = some ((s.port p).firstDetect.getD s.ep.beat)) ∧
        ((s.port p).stage ≠ 3 ∨ s.linkActive p = true → (u.lane lane).polarity = (s.lane lane).polarity) ∧
        ((s.port p).stage = 3 → s.linkActive p = false → (u.lane lane).polarity = inverted) ∧
        (s.linkActive p = true → (u.lane lane).cm2 = (s.lane lane).cm2 ∧ (u.lane lane).cm1 = (s.lane lane).cm1 ∧
          (u.lane lane).c0 = (s.lane lane).c0 ∧ (u.lane lane).cp1 = (s.lane lane).cp1) ∧
        (u.lane lane).goodWords = (if (trainWord word.toNat).stage = (s.port p).stage ∧ (trainWord word.toNat).ready = true then
          min 8 ((s.lane lane).goodWords + 1) else if (s.lane lane).goodWords = 8 then 8 else 0) ∧
        (∀ l : Nat, l ≠ lane → u.lane l = s.lane l))) ∧
  (∀ (port : Fin 161) (b : Nat) (s : State), s.running = true → s.portRole port = 3 → (s.port port).stage = 1 →
    (s.port port).firstDetect = some b → b + 64 ≤ s.ep.beat →
    ∃ u : State, u = (s.each ((s.trainees port).filter (fun l => !(s.lane l).detected)) (fun l s => s.laneOut l 6)).settle port ∧
      exec (.detectTimer port) s = .next (if (u.port port).stage = 1 then u.toStage port 2 else u)) ∧
  (∀ (port : Fin 161) (b : Nat) (s : State), s.running = true → s.portRole port = 3 →
    stageBound (s.port port).stage = some b → (s.port port).stageSince + b ≤ s.ep.beat →
    ((s.trainees port).filter (fun l => if (s.port port).stage = 4 then !(s.lane l).errOk else !(s.lane l).leaves) = [] →
      s.trainees port ≠ [] → exec (.stageBoundReached port) s = .next s) ∧
    (∀ l ls, (s.trainees port).filter (fun l => if (s.port port).stage = 4 then !(s.lane l).errOk else !(s.lane l).leaves) = l :: ls →
      ∃ u : State, u = s.each (l :: ls) (fun l z => z.laneOut l
        (if (s.port port).stage = 2 then 7 else if (s.port port).stage = 3 then 11 else 8)) ∧
        exec (.stageBoundReached port) s =
          .next (if (s.port port).stage = 4 ∧ u.trainees port = [] then u.fallBack port (l :: ls) else u.settle port))) ∧
  (∀ (port : Fin 161) (now : Nat) (rate : Fin 8) (width : Fin 6) (reversed : Bool) (x : Partner) (clock : RefClock)
    (pc kd : Bool) (s : State), s.running = true → s.portRole port = 3 →
    (s.port port).stage = 4 ∨ (s.port port).stage = 3 ∧ (s.port port).narrowSince ≠ none → s.trainees port ≠ [] →
    (∀ l ∈ s.trainees port, (s.lane l).leaves = true) →
    exec (.portLinkUp port now rate width reversed x clock pc kd) s =
      .next (((s.lastBlocks port).portUp port (widthCode (s.trainees port).length)
        (if (s.port port).narrowSince.isSome then (s.port port).rate else (s.port port).targetRate) 0 0 false).trunkUp port now)) ∧
  (∀ (port : Fin 161) (now : Nat) (rate : Fin 8) (width : Fin 6) (reversed : Bool) (x : Partner) (clock : RefClock)
    (pc kd : Bool) (s : State), s.running = true → s.portRole port = 1 ∨ s.portRole port = 2 → 3 ≤ (s.port port).stage → (s.port port).stage ≤ 4 →
    (s.port port).retrains = false → s.runFits port (widthLanes width) reversed = true →
    exec (.portLinkUp port now rate width reversed x clock pc kd) s = .next (s.pcieUp port rate width reversed x clock pc kd)) ∧
  (∀ (port : Fin 161) (now : Nat) (rate : Fin 8) (width : Fin 6) (reversed : Bool) (x : Partner) (clock : RefClock)
    (pc kd : Bool) (s : State), s.running = true → s.portRole port ≠ 3 → 3 ≤ (s.port port).stage → (s.port port).stage ≤ 4 →
    (s.port port).retrains = true → s.trainees port ≠ [] →
    exec (.portLinkUp port now rate width reversed x clock pc kd) s = .next (s.pcieBack port rate pc))

/-- Lanes in service. Adaptation moves one equalizer parameter by one step, each at most once in 64 beats; an error window ends
and the next one starts; a failure is acted on with its cause, on a lane that a narrowing of the same beat holds too; the
retrain limit takes the port down; a write to D:30nn.kC excludes a lane or allows it again; a direction changes without the
other; a receiver that does not lock fails. Draws on R144, R145, R155 to R165, R172. -/
def Obligations.LanesInService : Prop :=
  (∀ (lane : Fin 328) (part : EqStage) (tap : Fin 16) (param : Nat) (up : Bool) (s : State), paramNo part tap = param →
    s.running = true → (s.lane lane).state = 5 → (s.lane lane).rx = .on → hasParam (s.lane lane).mode param = true →
    s.setting (if lane.val < 320 then 0x3000 + lane.val / 8 else 0x9008) 0x83 = 0 →
    (∀ e ∈ (s.lane lane).adaptAt, e.1 = param → e.2 + 64 ≤ s.ep.beat) →
    ∃ t, exec (.adaptationStep lane part tap up) s = .next t ∧ (t.lane lane).adaptAt = (s.lane lane).adaptAt.put param s.ep.beat ∧
      (t.lane lane).rxEq = ((s.lane lane).adapt param up).rxEq ∧ (t.lane lane).taps = ((s.lane lane).adapt param up).taps ∧
      (param = 0 → bits (t.lane lane).rxEq 31 28 = (if up then min 15 (bits (s.lane lane).rxEq 31 28 + 1)
        else bits (s.lane lane).rxEq 31 28 - 1) ∧ (t.lane lane).taps = (s.lane lane).taps) ∧
      (param = 1 → bits (t.lane lane).rxEq 27 20 = (if up then min 255 (bits (s.lane lane).rxEq 27 20 + 1)
        else bits (s.lane lane).rxEq 27 20 - 1) ∧ bits (t.lane lane).rxEq 31 28 = bits (s.lane lane).rxEq 31 28) ∧
      (∀ l : Nat, l ≠ lane → t.lane l = s.lane l) ∧ t.ports = s.ports ∧ t.out = s.out) ∧
  (∀ (lane : Fin 328) (more : BitVec 32) (s : State), s.running = true → (s.lane lane).state = 5 →
    (s.lane lane).windowSince + s.setting (laneIndex lane) 0x81 ≤ s.ep.beat →
    exec (.errorWindowEnd lane more) s = .next (s.setLane lane (fun y => { y with
      errors := y.errors + more.toNat, peak := max y.peak (y.window + more.toNat), window := 0
      windowSince := y.windowSince + s.setting (laneIndex lane) 0x81 }))) ∧
  (∀ (lane : Fin 328) (cause : Fin 6) (more : BitVec 32) (p : Nat) (s : State), s.running = true → s.portOfLane lane = some p →
    s.linkActive p = true → (3 ≤ (s.lane lane).state ∧ (s.lane lane).state ≤ 5 ∧ ((s.lane lane).rx = .on ∨ 4 ≤ cause.val)) ∨
      ((s.lane lane).state = 8 ∧ (s.port p).stageSince = s.ep.beat) → cause.val ≠ 0 → cause.val ≠ 3 →
    exec (.laneFailure lane cause more) s = .next (s.laneFail lane cause)) ∧
  (∀ (lane : Fin 328) (more : BitVec 32) (p : Nat) (s : State), s.running = true → s.portOfLane lane = some p →
    s.linkActive p = true → (3 ≤ (s.lane lane).state ∧ (s.lane lane).state ≤ 5 ∧ (s.lane lane).rx = .on) ∨
      ((s.lane lane).state = 8 ∧ (s.port p).stageSince = s.ep.beat) → s.setting (laneIndex lane) 0x80 ≠ 0 →
    s.setting (laneIndex lane) 0x80 < (s.lane lane).window + more.toNat →
    exec (.laneFailure lane 3 more) s = .next ((s.setLane lane (fun y => { y with
      errors := y.errors + more.toNat, window := y.window + more.toNat, peak := max y.peak (y.window + more.toNat) })).laneFail lane 3)) ∧
  (∀ (port : Fin 161) (b : Nat) (s : State), s.running = true → (s.port port).narrowSince = some b →
    b + s.setting (limitIndex port) 0x82 ≤ s.ep.beat → exec (.retrainLimit port) s = .next (s.downNow port 3)) ∧
  (∀ (lane : Fin 328) (s : State), s.adpOpen = true →
    exec (.laneExclude lane false) s = .next ((s.setLane lane (fun x => { x with excludeCmd := false })).answer 0) ∧
    ((s.lane lane).state ≠ 6 → exec (.laneExclude lane true) s =
      .next (((s.setLane lane (fun x => { x with excludeCmd := true })).laneFail lane 10).answer 0)) ∧
    ((s.lane lane).state = 6 → exec (.laneExclude lane true) s =
      .next ((s.setLane lane (fun x => { x with excludeCmd := true })).answer 0))) ∧
  (∀ (lane : Fin 328) (d : LaneDir) (s : State), s.running = true → (s.lane lane).state = 5 → s.asksFor lane false d = true →
    ∃ u : State, exec (.laneDirectionChange lane false d) s = .next (State.scanCheck u) ∧ (u.lane lane).tx = d ∧
      (u.lane lane).rx = (s.lane lane).rx) ∧
  (∀ (lane : Fin 328) (d : LaneDir) (s : State), s.running = true → (s.lane lane).state = 5 → s.asksFor lane true d = true →
    ∃ u : State, exec (.laneDirectionChange lane true d) s = .next (State.scanCheck u) ∧ (u.lane lane).rx = d ∧
      (u.lane lane).tx = (s.lane lane).tx) ∧
  (∀ (lane : Fin 328) (b : Nat) (s : State), s.running = true → (s.lane lane).rxExit = some b → b ≤ s.ep.beat →
    exec (.rxLockTimeout lane) s = .next (s.laneFail lane 2))

/-- The eye scans. A start that is refused leaves status 5; else the slot's results are cleared, its parameters and the full
scale are latched, and it runs. A completed point is recorded, and the last one ends the scan; an abort stops a running scan
and keeps its records. A scan whose receiver left On or stage 5 aborts. Draws on R167 to R171, R174. -/
def Obligations.EyeScans : Prop :=
  (∀ (slot : Fin 4) (fs : BitVec 16) (s : State), s.adpOpen = true →
    s.scanRefused slot (fun j => s.selector (0xA020 + slot.val) j) = true →
    exec (.scanStart slot fs) s = .next ((s.setScan slot (fun x => { x with status := 5 })).answer 0)) ∧
  (∀ (slot : Fin 4) (fs : BitVec 16) (s : State), s.adpOpen = true →
    s.scanRefused slot (fun j => s.selector (0xA020 + slot.val) j) = false →
    ∃ t, exec (.scanStart slot fs) s = .next t ∧ (t.scans.look slot {}).status = 1 ∧ (t.scans.look slot {}).done = 0 ∧
      (t.scans.look slot {}).records = [] ∧ (t.scans.look slot {}).fullScale = fs.toNat ∧
      (t.scans.look slot {}).total = scanPoints (fun j => s.selector (0xA020 + slot.val) j) ∧
      (∀ k : Nat, k ≠ slot → t.scans.look k {} = s.scans.look k {}) ∧ t.out = .status 0 :: s.out) ∧
  (∀ (slot : Fin 4) (errors : BitVec 37) (s : State), s.running = true → (s.scans.look slot {}).status = 1 →
    errors.toNat ≤ 2 ^ (s.scans.look slot {}).params.look 8 0 → (s.scanCheck.scans.look slot {}).status = 1 →
    exec (.scanPointDone slot errors) s = .next (s.scanCheck.setScan slot (fun x => { x with
      records := x.records.put x.done (scanRecord (fun j => x.params.look j 0) x.done errors.toNat), done := x.done + 1
      status := if x.total ≤ x.done + 1 then 2 else 1 }))) ∧
  (∀ (slot : Fin 4) (errors : BitVec 37) (s : State), s.running = true → (s.scans.look slot {}).status = 1 →
    errors.toNat ≤ 2 ^ (s.scans.look slot {}).params.look 8 0 → (s.scanCheck.scans.look slot {}).status ≠ 1 →
    exec (.scanPointDone slot errors) s = .next s.scanCheck) ∧
  (∀ (slot : Fin 4) (s : State), s.adpOpen = true → exec (.scanAbort slot) s =
    .next ((s.setScan slot (fun x => if x.status = 1 then { x with status := 3 } else x)).answer 0))

/-- The power states of links, their widths in L0p, and link IDE. A host port that is idle, with its whole hierarchy idle and
below it no link awake, initiates L1 after a flush. A downstream partner's request is accepted when the state is enabled and
nothing is queued. PME_Turn_Off is passed on, and answered by a PME_TO_Ack message after a flush. A link IDE failure makes the
link insecure and takes it down. Draws on R193 to R199, R548. -/
def Obligations.LinkPowerAndIde : Prop :=
  (∀ (port : Fin 160) (sub : Fin 3) (v : Nat) (acked : Bool) (s : State), s.running = true → s.vhOfPort port = some v →
    (s.port port).stage = 5 → (s.port port).power = .l0 ∨ (s.port port).power = .l0s ∨ (s.port port).power = .l0p →
    bit (s.aspmAllowed port) 1 = true → sub = 0 ∨ bit (s.aspmAllowed port) (1 + sub) = true →
    (s.port port).idleSince + s.portIn s.ep.live port 0xB ≤ s.ep.beat → s.hierBusy v port = false →
    (∀ b ∈ s.portsUnder v, (s.port b).deep = true) →
    exec (.l1EntryInitiate port sub acked) s = .next (if acked then (s.flushVh v).setPower port (l1State sub) else s.flushVh v)) ∧
  (∀ (port : Fin 160) (sub : Fin 3) (s : State), s.running = true → s.portRole port = 2 → (s.port port).stage = 5 →
    (s.port port).deep = false →
    exec (.partnerL1Request port sub) s = .next (if bit (s.aspmAllowed port) 1 = true ∧ (sub = 0 ∨ bit (s.aspmAllowed port) (1 + sub) = true) ∧
        s.queuedAt port = 0 ∧ s.core.xmit.look port 0 = 0 ∧ (s.port port).staging = 0 then s.setPower port (l1State sub)
      else s.tellPartner port 4 0)) ∧
  (∀ (port : Fin 160) (v : Nat) (s : State), s.running = true → s.vhOfPort port = some v → (s.port port).stage = 5 →
    (s.port port).deep = false → exec (.pciPmL1Request port) s = .next ((s.flushVh v).setPower port .l1)) ∧
  (∀ (v : Fin 64) (p : Nat) (s : State), s.running = true → s.portOfVh v = some p → (s.port p).stage = 5 → (s.port p).power ≠ .l2 →
    exec (.pmeTurnOff v) s = .next ((((s.each ((s.portsBelow v).filter (fun b => decide ((s.port b).stage = 5)))
      (fun b s => (s.tellPartner b 5 0).setPower b .l2)).flushVh v).emit
        (.tlp p { op := .message, msg := 0x1B, msgRoute := 5, reqId := s.functionId v })).setPower p .l2)) ∧
  (∀ (port : Fin 160) (used : BitVec 32) (s : State), s.l0pOpen port = true → s.portIn s.ep.live port 8 = 1 → s.ep.beat % 64 = 0 →
    (80 * (64 * s.bytesPerBeat port) < 100 * used.toNat ∨ 64 < s.queuedAt port → (s.port port).txWidth < (s.port port).width →
      exec (.l0pEvaluation port used) s = .next ((s.l0pWidth port (s.port port).width false).setPort port (fun x => { x with widening := true }))) ∧
    (80 * (64 * s.bytesPerBeat port) < 100 * used.toNat ∨ 64 < s.queuedAt port → (s.port port).width ≤ (s.port port).txWidth →
      exec (.l0pEvaluation port used) s = .next (s.setPort port (fun x => { x with widening := false }))) ∧
    (100 * used.toNat < 35 * (64 * s.bytesPerBeat port) → s.queuedAt port ≤ 64 → 2 < (s.port port).txWidth → (s.port port).widening = false →
      exec (.l0pEvaluation port used) s = .next (s.l0pWidth port ((s.port port).txWidth - 1) false)) ∧
    (100 * used.toNat ≤ 80 * (64 * s.bytesPerBeat port) → s.queuedAt port ≤ 64 →
      35 * (64 * s.bytesPerBeat port) ≤ 100 * used.toNat ∨ (s.port port).txWidth ≤ 2 ∨ (s.port port).widening = true →
      exec (.l0pEvaluation port used) s = .next (s.setPort port (fun x => { x with widening := false })))) ∧
  (∀ (port : Fin 160) (width : Fin 6) (s : State), s.l0pOpen port = true → 1 ≤ width.val → width.val ≤ (s.port port).width →
    exec (.l0pPartnerRequest port width) s = .next (s.l0pWidth port width true)) ∧
  (∀ (port : Fin 160) (s : State), s.running = true → s.portRole port = 2 →
    (s.port port).ide = 2 ∧ (s.port port).ideRefresh + 2 ^ 28 ≤ s.ep.beat ∨
      ((s.port port).ide = 1 ∨ (s.port port).ide = 3) ∧ (s.port port).stage = 5 →
    exec (.ideKeyRefresh port) s =
      .next ((s.setPort port (fun q => { q with ide := 2, ideRefresh := s.ep.beat })).tellPartner port 6 0)) ∧
  (∀ (port : Fin 160) (s : State), s.running = true → (s.port port).ide = 2 → s.linkActive port = true →
    ∃ u : State, exec (.ideIntegrityFailure port) s = .next (State.portDown port 5 u) ∧ (u.port port).ide = 3 ∧
      (u.port port).stage = (s.port port).stage ∧ (u.source (296 + port / 4)).newEvents = (s.source (296 + port / 4)).newEvents + 1)

/-- Frames through the switch. Draws on R99, R213 to R222, R228, R240 to R246, R352. -/
def Obligations.FramesThroughTheSwitch : Prop :=
  (∀ (ingress egress : Fin 177) (s : State), s.running = true → exec (.frameStart ⟨ingress, egress⟩) s = .next { s with sup := { s.sup with
      gated := s.sup.gated.filter (fun g => !(s.attachments ingress ++ s.attachments egress).contains g.1 && decide (g.1 < 100))
      traffic := s.attachments ingress ++ s.attachments egress ++ s.sup.traffic } }) ∧
  (∀ (ingress : Fin 177) (h : Head) (s : State), s.running = true → h.wf = true → s.crossesTrunk ingress h = false →
    ingress.val < 160 ∨ s.engineHeld ingress h = false →
    exec (.frameHeadCell ingress h) s = .next (s.headCell ingress h).2) ∧
  (∀ (id : Nat) (c : Checks) (f : Frame) (s : State), s.running = true → s.frame id = some f → f.charge ≠ .waiting →
    f.formed < f.cells ∨ f.checked = false → exec (.frameComplete id c) s = .next (s.frameDone id c)) ∧
  (∀ (id : Nat) (f : Frame) (s : State), s.running = true → s.frame id = some f → f.charge = .waiting → f.cls < 4 →
    ((s.chargeLossless f).1 = .waiting → exec (.engineChargeRetry id) s = .next s) ∧
    (∀ (c : Charge) (u : State) (banks : List Nat) (next : Nat), s.chargeLossless f = (c, u) → c ≠ .waiting →
      u.takeBanks f.cells u.core.nextBank [] = (banks, next) → exec (.engineChargeRetry id) s =
        .next (State.setFrame id (fun g => { g with charge := c, banks := banks }) { u with core := { u.core with nextBank := next } }))) ∧
  (∀ (i : Fin 128) (formed : List Nat) (corrected : List (Fin 64)) (bad : List (Nat × Bool × Fin 64)) (s : State), s.running = true →
    ∃ u v : State, u = (s.drainStaging i).each formed State.formCell ∧
      v = (((u.each (u.ports.map (·.1)) (State.stallStep (128 * s.ep.beat + i))).each s.trunksUp
        (fun p s => (s.onoffEval p).stallCheck p)).each corrected (fun b s => s.eccCorrected b)).each bad
        (fun x s => (s.struck x.1 x.2.1).retireBank x.2.2) ∧
      (v.board.throttle / 25 ≤ i.val % 4 → exec (.cellTimeMatch i formed ⟨corrected, bad⟩) s =
        .next (v.each v.trunksUp (State.owedReplay (128 * s.ep.beat + i)))) ∧
      (i.val % 4 < v.board.throttle / 25 → ∃ w : State,
        w = (v.each v.matched.1 (fun c s => (s.advance c).moveCell c)).each v.matched.2 State.moveCell ∧
        exec (.cellTimeMatch i formed ⟨corrected, bad⟩) s = .next (w.each w.trunksUp (State.owedReplay (128 * s.ep.beat + i))))) ∧
  (∀ (egress : Fin 160) (i : Fin 128) (b : Nat) (f : Frame) (s : State), s.running = true → s.trunkPort egress = true →
    (s.port egress).stallSince = some b → b + s.setting 0x4001 2 ≤ 128 * s.ep.beat + i → s.stalledAt egress = some f →
    ∃ u : State, u = (((s.terminate f).bump 0x4010 3).raise 187).setFrame f.id (fun g => { g with cutThrough := false, sent := 0 }) ∧
      exec (.stallTermination ⟨egress, i⟩) s = .next ((u.setPort f.egress (fun q => { q with stallSince := none })).setPort f.ingress
        (fun q => { q with ctSuspended := true }))) ∧
  (∀ (port : Fin 160) (s : State), s.running = true → s.portRole port = 3 → s.core.pathFailed.look port false = false →
    s.linkActive port = false ∨ (s.trunk port).mismatch = true ∨ (s.trunk port).exceeds = true →
    exec (.pathFailed port) s = .next (s.pathDown port))

/-- Banks and attachments retire. A number written to the dictionary, or an uncorrectable error struck in a frame's cell,
starts it; a retiring bank that holds no cell is retired with source 182. Draws on R242 to R246. -/
def Obligations.BanksAndAttachmentsRetire : Prop :=
  (∀ (bank : Fin 64) (s : State), s.adpOpen = true → exec (.bankRetire bank none) s = .next ((s.retireBank bank).answer 0)) ∧
  (∀ (bank : Fin 64) (id : Nat) (control : Bool) (s : State), s.running = true →
    exec (.bankRetire bank (some (id, control))) s = .next ((s.struck id control).retireBank bank)) ∧
  (∀ (bank : Fin 64) (s : State), s.running = true → s.core.bankState.look bank 0 = 1 →
    (∀ f ∈ s.core.frames, f.charge ≠ .waiting → bank.val ∉ f.banks) →
    ∃ t, exec (.bankRetired bank) s = .next t ∧ t.core.bankState.look bank 0 = 2 ∧
      (∀ k : Nat, k ≠ bank → t.core.bankState.look k 0 = s.core.bankState.look k 0) ∧
      (t.source 182).newEvents = (s.source 182).newEvents + 1 ∧ t.core.frames = s.core.frames) ∧
  (∀ (bank : Fin 64) (f : Frame) (s : State), f ∈ s.core.frames → f.charge ≠ .waiting → bank.val ∈ f.banks →
    exec (.bankRetired bank) s = .next s) ∧
  (∀ (n : Fin 40) (s : State), s.adpOpen = true → s.core.attachRetired.look n false = false →
    exec (.attachmentRetire n none) s = .next (State.answer 0 { s with core := { s.core with attachPending := s.core.attachPending.put n true } })) ∧
  (∀ (n : Fin 40) (id : Nat) (control : Bool) (s : State), s.running = true → (s.struck id control).core.attachRetired.look n false = false →
    exec (.attachmentRetire n (some (id, control))) s = .next { s.struck id control with
      core := { (s.struck id control).core with attachPending := (s.struck id control).core.attachPending.put n true } }) ∧
  (∀ (n : Fin 40) (s : State), s.running = true → s.core.attachPending.look n false = true →
    exec (.attachmentRetirement n) s = .next (s.retireAttachment n))

/-- The slots and Downstream Port Containment. Draws on R266 to R277. -/
def Obligations.SlotsAndDpc : Prop :=
  (∀ (p : Fin 160) (s : State), s.running = true → (s.slot p).pending ≠ 0 → (s.group (p / 4)).polledAt < s.ep.beat →
    exec (.slotInputChange p) s = .next (s.slotConvert p)) ∧
  (∀ (v : Fin 64) (b : Fin 256) (off : Bool) (attn pwr : Fin 4) (enables : BitVec 16) (s : State), s.running = true →
    s.bridgeInUse v b = true → bindKind (s.bindingIn s.ep.live v b) = 1 →
    ∃ t, exec (.slotControlWrite v b off ⟨attn, pwr⟩ enables) s = .next t ∧
      (t.bridge v b).powerOff = off ∧ (t.bridge v b).attnInd = attn ∧ (t.bridge v b).powerInd = pwr ∧
      (t.bridge v b).slotEnables = enables.toNat &&& 0x103F ∧
      (t.group (bindPort (s.bindingIn s.ep.live v b) / 4)).writePending = true ∧
      (t.slot (bindPort (s.bindingIn s.ep.live v b))).cmdOwed = true) ∧
  (∀ (v : Fin 64) (b : Fin 256) (off : Bool) (attn pwr : Fin 4) (enables : BitVec 16) (s : State), s.running = true →
    s.bridgeInUse v b = true → bindKind (s.bindingIn s.ep.live v b) ≠ 1 → exec (.slotControlWrite v b off ⟨attn, pwr⟩ enables) s =
      .next (s.setBridge v b (fun x => { x with slotEnables := enables.toNat &&& 0x103F }))) ∧
  (∀ (p : Fin 160) (s : State), s.running = true → (s.slot p).attnLed = 2 ∨ (s.slot p).pwrLed = 2 →
    (s.slot p).blinkAt + 2500000 ≤ s.ep.beat → exec (.indicatorBlink p) s =
      .next ((s.setSlot p (fun q => { q with blinkPhase := !q.blinkPhase, blinkAt := s.ep.beat })).refreshOutputs (p.val / 4))) ∧
  (∀ (p : Fin 160) (s : State), s.running = true → s.portRole p = 2 → s.groupReleasable (p.val / 4) = true →
    ∃ t, exec (.slotResetRelease p) s = .next t ∧ (t.group (p.val / 4)).driven = some true ∧
      ((s.portLanes s.ep.live p).2 = 16 → (t.group (p.val / 4 + 1)).driven = some true)) ∧
  (∀ (v : Fin 64) (b : Fin 256) (reason : Fin 4) (s : State), s.running = true → (s.bridge v b).dpcEnable = true →
    (s.bridge v b).dpcTriggered = false → bindKind (s.bindingIn s.ep.live v b) ≠ 0 →
    exec (.dpcTrigger v b reason) s = .next (s.dpcTrigger v b reason)) ∧
  (∀ (v : Fin 64) (b : Fin 256) (s : State), s.running = true → (s.bridge v b).dpcTriggered = true →
    (bindKind (s.bindingIn s.ep.live v b) = 1 → exec (.dpcTriggerClear v b) s =
      .next (((s.setBridge v b (fun x => { x with dpcTriggered := false })).setPort (bindPort (s.bindingIn s.ep.live v b))
        (fun q => { q with heldDpc := false, heldFault := false })).startPort (bindPort (s.bindingIn s.ep.live v b)))) ∧
    (bindKind (s.bindingIn s.ep.live v b) = 2 → s.isContained (s.domainOfVh v) = false → exec (.dpcTriggerClear v b) s =
      .next ((s.setBridge v b (fun x => { x with dpcTriggered := false })).setSlot (bindPort (s.bindingIn s.ep.live v b))
        (fun x => { x with blocked := x.blocked &&& (65535 - 2 ^ bindLd (s.bindingIn s.ep.live v b)) }))) ∧
    (bindKind (s.bindingIn s.ep.live v b) = 2 → s.isContained (s.domainOfVh v) = true → exec (.dpcTriggerClear v b) s =
      .next (s.setBridge v b (fun x => { x with dpcTriggered := false }))) ∧
    (bindKind (s.bindingIn s.ep.live v b) ≠ 1 → bindKind (s.bindingIn s.ep.live v b) ≠ 2 → exec (.dpcTriggerClear v b) s =
      .next (s.setBridge v b (fun x => { x with dpcTriggered := false }))))

/-- A configuration request of a host reaches the upstream port or the management function (a Type 0 request), a virtual bridge
(bus = the secondary bus) or a pool endpoint without a tracker entry and is answered there, or goes below the bridge whose bus
range holds it; a bridge, device or bus that does not exist answers Unsupported Request. Draws on R252, R255. -/
def Obligations.ConfigurationRequests : Prop :=
  (∀ (v : Fin 64) (x : Tlp) (s : State), x.cfg0 = true →
    s.cfgPlace v x = (if devfnOf x = 0 then some .upstream else if devfnOf x = 1 then some .function else none)) ∧
  (∀ (v : Fin 64) (x : Tlp) (s : State), x.cfg0 = false → busOf x = (s.hier v).up.secondary →
    s.cfgPlace v x = (if s.bridgeInUse v (devfnOf x) = true then some (.bridge (devfnOf x)) else none)) ∧
  (∀ (v : Fin 64) (x : Tlp) (b e : Nat) (s : State), x.cfg0 = false → (s.hier v).up.secondary < busOf x →
    busOf x ≤ (s.hier v).up.subordinate → s.bridgeByBus s.ep.live v (busOf x) = some (b, e) → bindKind e ≠ 3 →
    s.cfgPlace v x = some .below) ∧
  (∀ (v : Fin 64) (x : Tlp) (s : State), x.cfg0 = false → (s.hier v).up.secondary ≠ busOf x →
    s.bridgeByBus s.ep.live v (busOf x) = none → s.cfgPlace v x = none) ∧
  (∀ (v : Fin 64) (x : Tlp) (field : CfgField) (p : Nat) (s : State), x.wf = true → x.op = .config → s.running = true →
    s.portOfVh v = some p → (s.hier v).reset = false →
    (s.cfgPlace v x = none → exec (.configRequest v x field x.write) s = .next ((s.emit (.tlp p (answerOf x 1))).useLink p)) ∧
    (∀ place, s.cfgPlace v x = some place → place ≠ .below → x.write = true → exec (.configRequest v x field x.write) s =
      .next ((((s.cfgWrite v p place field x).emit (.tlp p { answerOf x 0 with cplId := s.cfgId v place x, data := 0 })).useLink p))) ∧
    (∀ place n, s.cfgPlace v x = some place → place ≠ .below → x.write = false → s.cfgRead v place field = some n →
      exec (.configRequest v x field x.write) s = .next ((((s.emit (.value n)).emit (.tlp p { answerOf x 0 with
        cplId := s.cfgId v place x, data := n % 2 ^ 32 })).useLink p))) ∧
    (∀ place, s.cfgPlace v x = some place → place ≠ .below → x.write = false → s.cfgRead v place field = none →
      exec (.configRequest v x field x.write) s = .next ((((s.fresh 5).2.emit (.value ((s.fresh 5).1 % 2 ^ 32))).emit (.tlp p { answerOf x 0 with
        cplId := s.cfgId v place x, data := (s.fresh 5).1 % 2 ^ 32 })).useLink p)) ∧
    (s.cfgPlace v x = some .below → ∀ id, (s.headCell p { size := 1, tlp := x }).1 = .taken id →
      exec (.configRequest v x field x.write) s = .next ((s.headCell p { size := 1, tlp := x }).2.frameDone id {})) ∧
    (s.cfgPlace v x = some .below → (∀ id, (s.headCell p { size := 1, tlp := x }).1 ≠ .taken id) →
      exec (.configRequest v x field x.write) s = .next (s.headCell p { size := 1, tlp := x }).2)) ∧
  (∀ (v : Fin 64) (x : Tlp) (field : CfgField) (write : Bool) (s : State), exec (.configRequest v x field write) s =
    exec (.configRequest v { x with write := write } field write) s) ∧
  (∀ (v : Fin 64) (p b : Nat) (field : CfgField) (x : Tlp) (s : State), (s.cfgWrite v p .upstream field x).hier v =
      { s.hier v with up := (s.hier v).up.write field, busNo := if x.cfg0 = true then busOf x else (s.hier v).busNo } ∧
    (s.cfgWrite v p .upstream field x).fab.bridges = s.fab.bridges ∧
    s.cfgRead v (.bridge b) .identity = some (identityOf 0x0322 0x060400) ∧
    s.cfgRead v .function .headerType = some 0x80)

/-- The transaction tracker, links that go down, windows and channels. Draws on R280 to R292, R308, R312, R316, R322 to R324.
-/
def Obligations.TrackerWindowsAndChannels : Prop :=
  (∀ (b : Budget) (w : Waiting) (s : State), s.running = true → s.budgetTurn = some b → b ≠ .master →
    State.headOfBudget { s with fab := { s.fab with turn := (b.number + 1) % 66 } } b = some w →
    exec .trackerAllocation s = .next (State.grantWaiting w { s with fab := { s.fab with turn := (b.number + 1) % 66 } })) ∧
  (∀ (m : Master) (s : State), s.running = true → s.budgetTurn = some .master →
    State.masterHead { s with fab := { s.fab with turn := (Budget.number .master + 1) % 66 } } = some m →
    exec .trackerAllocation s = .next (State.masterGo m { s with
      fab := { s.fab with turn := (Budget.number .master + 1) % 66 }
      host := { s.host with masterWait := s.host.masterWait.erase m } })) ∧
  (∀ (ingress : Fin 177) (x : Tlp) (poison : Bool) (s : State), s.running = true → x.wf = true → x.op = .completion →
    (∀ t, s.entryFor ingress x = some t → t.expired = false → s.cplRedirect s.ep.live ingress t x = none →
      exec (.completionArrives ingress x poison) s = .next (s.completion t x poison)) ∧
    (∀ t q, s.entryFor ingress x = some t → t.expired = false → s.cplRedirect s.ep.live ingress t x = some q →
      exec (.completionArrives ingress x poison) s = .next ((s.setTrack t.index (fun e => { e with via := some q })).emitOn q (.tlp q x))) ∧
    (∀ t, s.entryFor ingress x = some t → t.expired = true → exec (.completionArrives ingress x poison) s = .next ((s.bump 0x40F0 9).raise 195)) ∧
    (s.entryFor ingress x = none → s.trunkPort ingress = true → exec (.completionArrives ingress x poison) s = .next ((s.bump 0x4400 9).raise 214)) ∧
    (s.entryFor ingress x = none → s.trunkPort ingress = false → exec (.completionArrives ingress x poison) s = .next s)) ∧
  (∀ (i : Fin 262144) (t : Track) (s : State), s.running = true → s.track i = some t → t.budget ≠ .master → t.deadline ≤ s.ep.beat →
    t.expired = false → ∃ u, exec (.trackerTimeout i) s = .next ((((State.bump 0x40F0 8 u).raise 194).expire i).ifDo t.prefetch (State.prefetchLost t)) ∧
      u.fab.track = s.fab.track) ∧
  (∀ (i : Fin 262144) (t : Track) (s : State), s.running = true → s.track i = some t → t.expired = true → t.freeAt ≤ s.ep.beat →
    exec (.quarantineEnd i) s = .next (s.freeTrack i)) ∧
  (∀ (p : Fin 160) (s : State), s.running = true →
    ((s.port p).downOwed = true → exec (.linkDown p) s = .next (s.linkLost p (s.lostStatus p))) ∧
    ((s.port p).downOwed = false → s.linkActive p = true →
      exec (.linkDown p) s = .next ((s.portDown p 4).linkLost p ((s.portDown p 4).lostStatus p)))) ∧
  (∀ (port : Fin 160) (k : Nat) (w : Waiting) (f : Frame) (s : State), s.running = true → s.farTagFree port = some k →
    s.fab.waiting.find? (fun w => w.farTag && (s.frame w.frame).any (fun f => decide (f.egress = port.val))) = some w →
    s.budgetOpenIn (s.waitTables w) w.budget = true → s.frame w.frame = some f →
    exec (.farTagAssigned port) s = .next ((s.unwait w).grantEntry f w.budget (some k))) ∧
  (∀ (window : Fin 1024) (h : Hold) (s : State), s.running = true →
    s.fab.holds.find? (fun h => decide (h.window = window.val) && h.ready && decide (h.since + s.setting 0x4200 4 ≤ s.ep.beat)) = some h →
    exec (.prefetchHoldExpiry window) s = .next (s.discardHold h)) ∧
  (∀ (v : Fin 64) (c : Fin 1024) (word : BitVec 32) (s : State), s.running = true → bit (s.channelIn s.ep.live c) 63 = true →
    (bits (s.channelIn s.ep.live c) 62 57 = v → exec (.doorbellRing v c word) s =
      .next (s.setChannel c (fun x => { x with status := x.status ||| word.toNat % 2 ^ 31 }))) ∧
    (bits (s.channelIn s.ep.live c) 56 51 = v → exec (.doorbellStatusClear v c word) s =
      .next (s.setChannel c (fun x => { x with status := x.status &&& (2 ^ 32 - 1 - word.toNat) }))) ∧
    (bits (s.channelIn s.ep.live c) 62 57 ≠ v → exec (.doorbellRing v c word) s = .next s)) ∧
  (∀ (src far : Fin 4096) (label : BitVec 32) (req : BitVec 16) (page : BitVec 52) (cause : BitVec 8) (stamp : BitVec 64) (s : State),
    s.running = true →
    (cause.toNat < 7 ∨ src.val ≠ s.moduleEdgeIn s.ep.live → exec (.pwfReceived src far label req page cause stamp) s =
      .next (s.pwfLog 1 src far req.toNat cause.toNat (page.toNat * 4096) stamp.toNat)) ∧
    (7 ≤ cause.toNat → src.val = s.moduleEdgeIn s.ep.live → exec (.pwfReceived src far label req page cause stamp) s =
      .next (s.pwfBeryl far label.toNat cause.toNat (page.toNat * 4096) stamp.toNat)))

/-- The link layer of the trunks. A received flit counts the bytes the code corrects on their lanes; a flit that cannot be
decoded, or whose control word fails its CRC, makes the receiver lose track and ask for a replay; a good one is processed, on
the Garnet link as its control word; each is answered with a flit. The replay timer starts a replay; a probe is sent; an idle
direction goes quiet, with its lanes in Quick idle, and leaves the quiet state with its lanes on; a receiver leaves it at the
inverted marker. Draws on R336 to R342, R352 to R360, R616. -/
def Obligations.TrunkLinkLayer : Prop :=
  (∀ (port : Fin 161) (now : Nat) (wire : Wire) (fixed : List Nat) (fix : Nat → State → State) (s : State),
    s.running = true → s.portRole port = 3 → (s.trunk port).receiver ≠ .down → (s.port port).stage = 5 → (s.trunk port).quietRx = false →
    fix = (fun k u => match (s.lanesInUse port)[k]? with
      | some l => State.setLane l (fun x => { x with errors := x.errors + 1, window := x.window + 1 })
          (if port.val < 160 then u.countBy 1 (0x3400 + port) 0x4F else u)
      | none => if port.val < 160 then u.countBy 1 (0x3400 + port) 0x4F else u) →
    (readWire (widthLanes (s.port port).width) (wire.toList.map BitVec.toNat) = (fixed, none) → exec (.flitReceived port now wire) s =
      .next ((((((s.each fixed fix).linkCount port 0x48).raise 215).trunkBad port now true).rxNext port .lost).sendFlit port)) ∧
    (∀ (bytes : List Nat) (c : Control), readWire (widthLanes (s.port port).width) (wire.toList.map BitVec.toNat) = (fixed, some bytes) →
      c = readControl (numberOf (bytes.take 16)) →
      (c.crcOk = false → exec (.flitReceived port now wire) s =
        .next (((((s.each fixed fix).linkCount port 0x49).trunkBad port now true).rxNext port .lost).sendFlit port)) ∧
      (c.crcOk = true → port.val < 160 → exec (.flitReceived port now wire) s =
        .next (((s.each fixed fix).trunkWords port now c (splitWords 30 (numberOf (bytes.drop 16)))).sendFlit port)) ∧
      (c.crcOk = true → port.val = 160 → exec (.flitReceived port now wire) s =
        .next (((s.each fixed fix).garnetWord now c).sendFlit port)))) ∧
  (∀ (port : Fin 161) (now : Nat) (s : State), s.running = true → (s.trunk port).timerOn = true → s.nothingOut port = false →
    (s.trunk port).sender = .sending ∨ (s.trunk port).sender = .replaying →
    exec (.replayTimerExpiry port now) s = .next (s.replay port now)) ∧
  (∀ (port : Fin 161) (now : Nat) (s : State), s.running = true → s.portRole port = 3 → (s.port port).stage = 5 →
    (s.trunk port).quietTx = false → exec (.rttProbe port now) s =
      .next ((s.setTrunk port (fun t => { t with probe := nextProbe t.probe, probeAt := now, measured := false, probeDue := true })).sendFlit port)) ∧
  (∀ (port : Fin 160) (s : State), s.running = true → s.portRole port = 3 → (s.port port).stage = 5 →
    (s.trunk port).quietTx = false → s.setting 0x4400 7 ≠ 0 → s.trunkIdle port = true →
    s.setting 0x4400 7 ≤ s.ep.beat - (s.trunk port).idleSince → ∃ t, exec (.quietEntry port) s = .next t ∧
      (t.trunk port).quietTx = true ∧ (∀ l ∈ s.lanesInUse port, (t.lane l).tx = .quickIdle) ∧
      (∀ l, l ∉ s.lanesInUse port → t.lane l = s.lane l) ∧ t.core = s.core) ∧
  (∀ (port : Fin 160) (s : State), s.running = true → (s.trunk port).quietTx = true →
    s.trunkIdle port = false ∨ s.quietWord port ≠ (s.trunk port).lastWord → ∃ t, exec (.quietExit port) s = .next t ∧
    (t.trunk port).quietTx = false ∧ (∀ l ∈ s.lanesInUse port, (t.lane l).tx = .on) ∧
    (∀ l, l ∉ s.lanesInUse port → t.lane l = s.lane l) ∧ t.core = s.core ∧
    t.out = .wake port 5 (List.replicate 16 0 ++ List.replicate 16 3) :: s.out) ∧
  (∀ (port : Fin 160) (s : State), s.running = true → s.portRole port = 3 → (s.trunk port).quietRx = true →
    ∃ t, exec (.invertedMarker port) s = .next t ∧ (t.trunk port).quietRx = false ∧ (∀ l ∈ s.lanesInUse port, (t.lane l).rx = .on) ∧
    (∀ l, l ∉ s.lanesInUse port → t.lane l = s.lane l) ∧ t.core = s.core ∧ t.out = s.out)

/-- Pool devices and their extents. Draws on R374 to R376, R383, R384. -/
def Obligations.PoolDevicesAndExtents : Prop :=
  (∀ (d : Fin 256) (ok : Bool) (cap serial : BitVec 64) (s : State), s.running = true → (s.device d).state = 2 →
    (ok = false → exec (.enumerationDone d ok cap serial) s = .next ((s.setDevice d (fun q => { q with state := 4 })).raise 220)) ∧
    (ok = true → (s.device d).recorded = true → (s.device d).serial ≠ serial.toNat →
      exec (.enumerationDone d ok cap serial) s = .next ((s.setDevice d (fun q => { q with state := 6 })).raise 222)) ∧
    (ok = true → (s.device d).recorded = false ∨ (s.device d).serial = serial.toNat →
      exec (.enumerationDone d ok cap serial) s = .next (((((s.setDevice d (fun q => { q with
        state := 3, capacity := cap.toNat / unitBytes, serial := serial.toNat, recorded := true })).emit
        (.enumerate d 3 cap.toNat (decide ((s.port (s.devPort d)).cxl = 1)))).emit (.enumerate d 4 0 false))).refreshExtents))) ∧
  (∀ (x : Fin 4096) (m : Fin 256) (s : State), s.running = true → (s.extent x).state = 1 → m.val ∈ (s.extent x).scrubLeft →
    m.val ∉ (s.extent x).scrubbing → s.scrubHeld (s.extent x).was = false → s.masterOpen none none = true →
    (∀ t ∈ s.fab.track, t.expired = false → t.extent = some x.val → t.cplPort ≠ s.devPort m) →
    exec (.scrubStart x m) s = .next ((s.setExtent x (fun q => { q with
      scrubbing := m.val :: q.scrubbing
      scrubSince := q.scrubSince.put m.val s.ep.beat })).emit
      (.scrub m ((extFields (s.extent x).was).devBase * unitBytes) ((extFields (s.extent x).was).devSize * unitBytes)))) ∧
  (∀ (x : Fin 4096) (m : Fin 256) (s : State), s.running = true → (s.extent x).state = 1 → m.val ∈ (s.extent x).scrubbing →
    s.scrubTime x m = true →
    ((∀ k ∈ (s.extent x).scrubLeft, k = m.val) → exec (.scrubDone x m true) s = .next ((s.setExtent x (fun q => { q with
      scrubLeft := [], scrubbing := q.scrubbing.filter (fun k => decide (k ≠ m.val)) })).setExtState x 0)) ∧
    (∀ k ∈ (s.extent x).scrubLeft, k ≠ m.val → exec (.scrubDone x m true) s = .next (s.setExtent x (fun q => { q with
      scrubLeft := (s.extent x).scrubLeft.filter (fun k => decide (k ≠ m.val))
      scrubbing := q.scrubbing.filter (fun k => decide (k ≠ m.val)) })))) ∧
  (∀ (x : Fin 4096) (m : Fin 256) (s : State), s.running = true → (s.extent x).state = 1 → m.val ∈ (s.extent x).scrubbing →
    exec (.scrubDone x m false) s = .next (((s.setExtState x 7).setExtent x (fun q => { q with scrubbing := [] })).raise 225)) ∧
  (∀ (x : Fin 4096) (s : State), s.adpOpen = true →
    ((s.extent x).state = 7 → exec (.rescrubExtent x) s = .next ((s.startScrub x (s.extent x).was).answer 0)) ∧
    ((s.extent x).state ≠ 7 → exec (.rescrubExtent x) s = .next (s.answer 2)) ∧
    ((s.extent x).state = 2 → s.ofDynamic x = true → exec (.releaseExtent x) s =
      .next (((((s.dropLines x).setExtState x 4).setExtent x (fun q => { q with postedAt := some s.ep.beat })).postEvent
        (s.extIn s.ep.live x).owner 2 x 0).answer 0)) ∧
    ((s.extent x).state ≠ 2 ∨ s.ofDynamic x = false → exec (.releaseExtent x) s = .next (s.answer 2))) ∧
  (∀ (x : Fin 4096) (accept : Bool) (s : State), s.running = true → s.ofDynamic x = true → (s.extent x).state = 3 →
    exec (.addCapacityResponse x accept) s = .next ((s.setExtent x (fun q => { q with
      postedAt := none, before := if accept then 2 else q.before })).setExtState x (if accept then 2 else 5))) ∧
  (∀ (x : Fin 4096) (s : State), s.running = true → s.ofDynamic x = true → (s.extent x).state = 6 → (s.extent x).before = 3 →
    exec (.addCapacityResponse x true) s = .next (s.setExtent x (fun q => { q with postedAt := none, before := 2 })) ∧
    exec (.addCapacityResponse x false) s = .next ((s.setExtent x (fun q => { q with postedAt := none })).setExtState x 5)) ∧
  (∀ (x : Fin 4096) (s : State), s.running = true → s.ofDynamic x = true →
    (s.extent x).state = 4 ∨ ((s.extent x).state = 6 ∧ (s.extent x).before = 4) →
    exec (.releaseCapacityResponse x) s = .next (s.setExtent x (fun q => { q with releaseOwed := true, postedAt := none }))) ∧
  (∀ (x : Fin 4096) (b : Nat) (s : State), s.running = true → (s.extent x).postedAt = some b → b + s.setting 0x5000 9 ≤ s.ep.beat →
    exec (.dcAnswerTimeout x) s = .next ((s.setExtent x (fun q => { q with postedAt := none })).raise 226))

/-- The endpoints of the pools. A CXL.mem request without held lines seeks its tracker entry, a write after it made the lines
that are still being read stale; a read of held lines is answered from them. The mailbox commands answer the endpoint's
capacity and its event records. The command codes and the fields of the answers are those of the CXL family (log entry 6).
Draws on R378 to R381, R385, R387. -/
def Obligations.PoolEndpoints : Prop :=
  (∀ (v : Fin 64) (e : Fin 1024) (addr : BitVec 64) (tag : BitVec 16) (data : BitVec 512) (mask : BitVec 64) (poison : Bool)
    (p a : Nat) (hit : Option (Nat × Nat × Nat)) (m : Bool → MemReq) (covers : Lines → Bool) (s : State), s.running = true → s.portOfVh v = some p →
    (s.endpIn s.ep.live e).kind = 1 → a = addr.toNat / 64 * 64 →
    hit = (if s.endpointOf v e = true ∧ a < (s.endpIn s.ep.live e).size * unitBytes then ownerDecode s.ep.live 1 e a else none) →
    m = (fun write => {
      host := v, extent := hit.map (·.1), dev := (hit.map (·.2.1)).getD 0, dpa := (hit.map (·.2.2)).getD 0
      addr := a, write := write, tagNo := tag.toNat, data := data.toNat, mask := mask.toNat, poison := poison
      tag := s.ep.epoch % 4 }) →
    covers = (fun h => decide (hit.map (·.1) = some h.extent ∧ h.start ≤ a ∧ a < h.start + h.len)) →
    ((∀ h ∈ s.pool.lines, covers h = true → h.ready = false) →
      exec (.cxlMemRequest v e addr false tag ⟨data, mask⟩ poison) s = .next (s.memSeek (m false)) ∧
      exec (.cxlMemRequest v e addr true tag ⟨data, mask⟩ poison) s = .next (State.memSeek (m true) { s with pool := { s.pool with
        lines := s.pool.lines.map (fun h => if covers h = true then { h with stale := true } else h) } })) ∧
    (∀ h, s.pool.lines.find? (fun h => h.ready && covers h) = some h →
      exec (.cxlMemRequest v e addr true tag ⟨data, mask⟩ poison) s = .next (State.memSeek (m true) (State.discardLines { h with stale := true }
        { s with pool := { s.pool with lines := s.pool.lines.map (fun h => if covers h = true then { h with stale := true } else h) } })) ∧
      ∃ t, exec (.cxlMemRequest v e addr false tag ⟨data, mask⟩ poison) s = .next t ∧ t.out = .memAnswer p tag.toNat false false :: s.out ∧
        t.fab.track = s.fab.track)) ∧
  (∀ (x : Fin 4096) (g : Nat) (h : Lines) (s : State), s.running = true →
    s.pool.lines.find? (fun h => decide (h.extent = x.val ∧ h.granule = g) && h.ready && decide (h.since + s.setting 0x5000 8 ≤ s.ep.beat)) = some h →
    exec (.poolPrefetchExpiry x g) s = .next (s.discardLines h)) ∧
  (∀ (e : Fin 1024) (s : State), s.endpointUp e = true →
    exec (.identifyMemoryDevice e) s = .next (s.emit (.endpoint e 0x4000
      [(s.endpIn s.ep.live e).size, if (s.endpIn s.ep.live e).dynamic then 0 else (s.endpIn s.ep.live e).size, 0])) ∧
    exec (.getPartitionInfo e) s = .next (s.emit (.endpoint e 0x4100
      [if (s.endpIn s.ep.live e).dynamic then 0 else (s.endpIn s.ep.live e).size, 0])) ∧
    exec (.getEventRecords e) s = .next (s.emit (.endpoint e 0x0100
      ((s.pool.events.look e []).flatMap (fun r => [r.handle, r.kind, r.dpa, r.body]))))) ∧
  (∀ (e : Fin 1024) (handles : List (BitVec 16)) (s : State), s.endpointUp e = true →
    ∃ t, exec (.clearEventRecords e handles) s = .next t ∧ t.out = .endpoint e 0x0101 [] :: s.out ∧
      t.pool.events.look e [] = (s.pool.events.look e []).filter (fun r => !handles.any (fun h => decide (h.toNat = r.handle))) ∧
      (∀ k : Nat, k ≠ e → t.pool.events.look k [] = s.pool.events.look k []) ∧ t.pool.lines = s.pool.lines ∧
      t.pool.devices = s.pool.devices)

/-- A host's coherence requests to a region that the module serves. Those that need a tracker entry obtain one, wait for one or
are refused under a cap of zero; an eviction or write reaches the home at once. Above the endpoint's size, or to an endpoint
that is hidden or removed, each is refused. MEMSPECRD has no effect. Draws on R396, R403, R411, R693. -/
def Obligations.CoherenceRequests : Prop :=
  (∀ (v : Fin 64) (r : Fin 256) (p : BitVec 34) (l : Fin 64) (tag : BitVec 16) (un : Bool) (s : State), s.reachesHome r v = true →
    s.serves r v = true → lineAddr p.toNat l < (s.rgnIn s.ep.live r).size * unitBytes →
    exec (.rds v r p l ⟨tag, un⟩) s = .next (s.portStop r p.toNat l { op := .rds, host := v, tagNo := tag.toNat, unlisted := un, tag := s.ep.epoch % 4 }) ∧
    exec (.rdown v r p l tag) s = .next (s.portStop r p.toNat l { op := .rdown, host := v, tagNo := tag.toNat, tag := s.ep.epoch % 4 }) ∧
    exec (.own v r p l ⟨tag, un⟩) s = .next (s.portStop r p.toNat l { op := .own, host := v, tagNo := tag.toNat, unlisted := un, tag := s.ep.epoch % 4 }) ∧
    exec (.rdcur v r p l tag) s = .next (s.portStop r p.toNat l { op := .rdcur, host := v, tagNo := tag.toNat, tag := s.ep.epoch % 4 })) ∧
  (∀ (v : Fin 64) (r : Fin 256) (p : BitVec 34) (l : Fin 64) (data : BitVec 512) (mask : BitVec 64) (toShared un : Bool) (s : State),
    s.reachesHome r v = true → s.serves r v = true → lineAddr p.toNat l < (s.rgnIn s.ep.live r).size * unitBytes →
    exec (.evc v r p l) s = .next (s.arrive r p.toNat l { op := .evc, host := v, mask := 0, tag := s.ep.epoch % 4 }) ∧
    exec (.evd v r p l ⟨data, mask⟩) s = .next (s.arrive r p.toNat l { op := .evd, host := v, data := data.toNat, mask := mask.toNat, tag := s.ep.epoch % 4 }) ∧
    exec (.wr v r p l ⟨⟨data, mask⟩, un⟩) s = .next (s.arrive r p.toNat l { op := .wr, host := v, data := data.toNat, mask := mask.toNat, unlisted := un, tag := s.ep.epoch % 4 }) ∧
    exec (.wbkeep v r p l ⟨data, mask⟩ toShared) s = .next (s.arrive r p.toNat l { op := .wbkeep, host := v, data := data.toNat, mask := mask.toNat, toShared := toShared, tag := s.ep.epoch % 4 })) ∧
  (∀ (v : Fin 64) (r : Fin 256) (p : BitVec 34) (l : Fin 64) (tag : BitVec 16) (data : BitVec 512) (mask : BitVec 64) (toShared un : Bool)
    (s : State), s.reachesHome r v = true → s.serves r v = false ∨ (s.rgnIn s.ep.live r).size * unitBytes ≤ lineAddr p.toNat l →
    exec (.rds v r p l ⟨tag, un⟩) s = .next (s.cohRefused { op := .rds, host := v, tagNo := tag.toNat, unlisted := un, tag := s.ep.epoch % 4 }) ∧
    exec (.rdown v r p l tag) s = .next (s.cohRefused { op := .rdown, host := v, tagNo := tag.toNat, tag := s.ep.epoch % 4 }) ∧
    exec (.own v r p l ⟨tag, un⟩) s = .next (s.cohRefused { op := .own, host := v, tagNo := tag.toNat, unlisted := un, tag := s.ep.epoch % 4 }) ∧
    exec (.rdcur v r p l tag) s = .next (s.cohRefused { op := .rdcur, host := v, tagNo := tag.toNat, tag := s.ep.epoch % 4 }) ∧
    exec (.evc v r p l) s = .next (s.cohRefused { op := .evc, host := v, mask := 0, tag := s.ep.epoch % 4 }) ∧
    exec (.evd v r p l ⟨data, mask⟩) s = .next (s.cohRefused { op := .evd, host := v, data := data.toNat, mask := mask.toNat, tag := s.ep.epoch % 4 }) ∧
    exec (.wr v r p l ⟨⟨data, mask⟩, un⟩) s = .next (s.cohRefused { op := .wr, host := v, data := data.toNat, mask := mask.toNat, unlisted := un, tag := s.ep.epoch % 4 }) ∧
    exec (.wbkeep v r p l ⟨data, mask⟩ toShared) s = .next (s.cohRefused { op := .wbkeep, host := v, data := data.toNat, mask := mask.toNat, toShared := toShared, tag := s.ep.epoch % 4 })) ∧
  (∀ (v : Fin 64) (r : Fin 256) (p : BitVec 34) (l : Fin 64) (s : State), exec (.memspecrd v r p l) s = .next s)

/-- Answers of the hosts and of memory, and the ends of recalls and sweeps. Draws on R396, R412, R415, R416, R419, R421. -/
def Obligations.CoherenceAnswers : Prop :=
  (∀ (v : Fin 64) (r : Fin 256) (p : BitVec 34) (l : Fin 64) (excl : Bool) (s : State), s.serves r v = true → s.hasDeparted r v = false →
    exec (.hitKeep v r p l excl false) s = .next (s.hitKeep r p.toNat l v excl) ∧
    exec (.hitKeep v r p l excl true) s = .next (s.blockResponse r p.toNat) ∧
    exec (.hitDrop v r p l false) s = .next (s.hitDrop r p.toNat l v) ∧
    exec (.hitDrop v r p l true) s = .next (s.blockResponse r p.toNat) ∧
    exec (.miss v r p l) s = .next (s.missed r p.toNat l v) ∧
    exec (.biconflict v r p l) s = .next (((s.emit (.cxl v cxlConflictAck r p.toNat l none false)).useLink
      ((s.portOfVh v).getD 176)).bump 0x5100 0xF)) ∧
  (∀ (v : Fin 64) (r : Fin 256) (p : BitVec 34) (l : Fin 64) (excl block : Bool) (s : State), s.hasDeparted r v = true →
    exec (.hitKeep v r p l excl block) s = .next s ∧ exec (.hitDrop v r p l block) s = .next s ∧ exec (.miss v r p l) s = .next s ∧
    exec (.biconflict v r p l) s = .next s) ∧
  (∀ (r : Fin 256) (p : BitVec 34) (l : Fin 64) (data : BitVec 512) (poison : Bool) (s : State), s.running = true →
    exec (.memoryData r p l data poison) s = .next (s.memoryData r p.toNat l data.toNat poison) ∧
    exec (.writeDone r p l) s = .next (s.writeDone r p.toNat l)) ∧
  (∀ (r : Fin 256) (p : BitVec 34) (e : Entry) (s : State), s.running = true → s.entry r p.toNat = some e → s.pageClear e = true →
    exec (.recallDone r p) s = .next ((State.mirror 3 [e.bank, e.set, e.way] [] { s with home := { s.home with
      entries := s.home.entries.filter (fun x => !(decide (x.region = r.val ∧ x.page = p.toNat) && !x.shadow)) } }).retryAllocs)) ∧
  (∀ (r : Fin 256) (p : BitVec 34) (l v : Fin 64) (k : HomeSlot) (s : State), s.running = true →
    s.pendingSlot r p.toNat l v = some k → k.since + s.setting 0x5100 9 ≤ s.ep.beat →
    ∃ u : State, exec (.snoopTimeout r p l v) s = .next ((u.bump 0x5100 0xA).raise 240) ∧
      OnlyChanges [.groups, .lanes, .ports, .scans, .hiers, .bridges, .mirror, .outputs] (State.depart r v { s with home := { s.home with timedOut := (r.val, v.val) :: s.home.timedOut } }) u) ∧
  (∀ (r : Fin 256) (v : Fin 64) (s : State), s.running = true → s.hasDeparted r v = true →
    exec (.sweepDone r v) s = .next (s.sweepDone r v))

/-- The ledger's scrub, its banks and the page query. Draws on R425 to R429. -/
def Obligations.LedgerUpkeep : Prop :=
  (∀ (error : Fin 4) (s : State), s.running = true → s.home.bankState.look (s.home.scrubAt / 16384) 0 = 2 ∨ error = 0 →
    exec (.ledgerScrubRead error) s = .next { s with home := { s.home with scrubAt := (s.home.scrubAt + 1) % 262144 } }) ∧
  (∀ (s : State), s.running = true → s.home.bankState.look (s.home.scrubAt / 16384) 0 ≠ 2 →
    exec (.ledgerScrubRead 1) s =
      .next ((State.bump 0x5100 0xB { s with home := { s.home with scrubAt := (s.home.scrubAt + 1) % 262144 } }).raise 232) ∧
    exec (.ledgerScrubRead 3) s =
      .next (State.raise 235 { s with home := { s.home with scrubAt := (s.home.scrubAt + 1) % 262144 } })) ∧
  (∀ (s : State), s.running = true → s.home.bankState.look (s.home.scrubAt / 16384) 0 ≠ 2 →
    ∀ e : Option Entry, s.home.entries.find? (fun e => decide (e.bank = s.home.scrubAt / 16384 ∧ e.set = s.home.scrubAt / 16 % 1024 ∧
      e.way = s.home.scrubAt % 16)) = e → ∃ u : State, u = State.raise 234 { s with home := { s.home with scrubAt := (s.home.scrubAt + 1) % 262144 } } ∧
      exec (.ledgerScrubRead 2) s = .next (State.retireLedgerBank (s.home.scrubAt / 16384) (match e with
        | some e => if e.shadow then u else (u.duePageReset e.region e.page).resetIfOwed e.region e.page
        | none => u))) ∧
  (∀ (b : Fin 16) (s : State), s.adpOpen = true → exec (.ledgerBankRetire b) s = .next ((s.retireLedgerBank b).answer 0)) ∧
  (∀ (b : Fin 16) (s : State), s.running = true → s.home.bankState.look b 0 = 1 → (∀ e ∈ s.home.entries, e.bank ≠ b.val) →
    exec (.ledgerBankRetired b) s = .next (((s.setLedgerBank b 2).raise 236).retryAllocs)) ∧
  (∀ (q : BitVec 64) (s : State), s.adpOpen = true →
    (bits q.toNat 55 34 = 0 → exec (.pageQuery q) s = .next ((s.setView 0x5110 1 q.toNat).answer 0)) ∧
    (bits q.toNat 55 34 ≠ 0 → exec (.pageQuery q) s = .next (s.answer 2)))

/-- A command written to a free slot starts where nothing of R511, R532 and R560 ends it, and has its effect; its result is
posted with it, but for REVOKE_REGION and DETACH, whose slots stay busy until the revocation or the reset ends. Draws on R435,
R436, R447, R474, R502, R531 to R533. -/
def Obligations.SlotCommandsTakeEffect : Prop :=
  ∀ (v : Fin 64) (k : Fin 16) (i : Fin 4096) (low : BitVec 44) (ws : List (BitVec 64)) (s u : State) (x : CmdSlot) (code : Nat),
    u = s.submitted v k (cmdWords code i low ws) → x = u.slotOf v k → s.commandStarts v k (cmdWords code i low ws) →
    (code = 0x01 → (u.inst x.inst).state = 2 → u.cqInRange x.inst (bits (x.w 2) 13 0) = true →
      u.vecInRange x.inst (bits (x.w 2) 44 32) = true → u.beryl.cqs.has (bits (x.w 2) 13 0) = false →
      6 ≤ bits (x.w 2) 20 16 → bits (x.w 2) 20 16 ≤ 22 →
      exec (.createCq v k i low ws) s = .next ((u.madeCq x).endWith v k 0)) ∧
    (code = 0x02 → (u.inst x.inst).state = 2 → u.cqInRange x.inst (bits (x.w 1) 13 0) = true →
      u.beryl.cqs.has (bits (x.w 1) 13 0) = true →
      (∀ e ∈ u.beryl.qps, e.2.sendCq ≠ bits (x.w 1) 13 0 ∧ e.2.recvCq ≠ bits (x.w 1) 13 0) →
      exec (.destroyCq v k i low ws) s =
        .next (State.endWith v k 0 { u with beryl := { u.beryl with cqs := u.beryl.cqs.del (bits (x.w 1) 13 0) } })) ∧
    (code = 0x03 → (u.inst x.inst).state = 2 → u.qpInRange x.inst (bits (x.w 1) 16 0) = true →
      u.cqInRange x.inst (bits (x.w 1) 45 32) = true → u.cqInRange x.inst (bits (x.w 2) 13 0) = true →
      u.qpExists (bits (x.w 1) 16 0) = false → u.beryl.cqs.has (bits (x.w 1) 45 32) = true →
      u.beryl.cqs.has (bits (x.w 2) 13 0) = true → 4 ≤ bits (x.w 2) 20 16 → bits (x.w 2) 20 16 ≤ 16 →
      4 ≤ bits (x.w 2) 28 24 → bits (x.w 2) 28 24 ≤ 16 → 4 ≤ bits (x.w 2) 36 32 → bits (x.w 2) 36 32 ≤ 12 →
      exec (.createQp v k i low ws) s = .next ((u.madeQp x).endWith v k 0)) ∧
    (code = 0x04 → (u.inst x.inst).state = 2 → u.qpInRange x.inst (bits (x.w 1) 16 0) = true →
      u.qpExists (bits (x.w 1) 16 0) = true →
      ((u.qp (bits (x.w 1) 16 0)).state = .reset → bits (x.w 1) 33 32 = 1 → exec (.modifyQp v k i low ws) s =
        .next ((u.setQp (bits (x.w 1) 16 0) (fun y => { y with state := .init })).endWith v k 0)) ∧
      ((u.qp (bits (x.w 1) 16 0)).state = .init → bits (x.w 1) 33 32 = 2 →
        bits (x.w 2) 48 32 % 8 = bits (x.w 1) 16 0 % 8 → exec (.modifyQp v k i low ws) s =
        .next ((u.qpReady (bits (x.w 1) 16 0) x).endWith v k 0)) ∧
      ((u.qp (bits (x.w 1) 16 0)).state = .ready → bits (x.w 1) 33 32 = 3 → exec (.modifyQp v k i low ws) s =
        .next ((u.flushQp (bits (x.w 1) 16 0) 1).endWith v k 0))) ∧
    (code = 0x05 → (u.inst x.inst).state = 2 → u.qpInRange x.inst (bits (x.w 1) 16 0) = true →
      u.qpExists (bits (x.w 1) 16 0) = true → (u.qp (bits (x.w 1) 16 0)).state ≠ .ready → exec (.destroyQp v k i low ws) s =
        .next (State.endWith v k 0 { u with beryl := { u.beryl with qps := u.beryl.qps.del (bits (x.w 1) 16 0) } })) ∧
    (code = 0x06 → (u.inst x.inst).state = 2 → u.regInRange x.inst (bits (x.w 1) 19 0) = true →
      (u.region (bits (x.w 1) 19 0)).state = .free → x.w 3 ≠ 0 → x.w 3 ≤ 2 ^ 48 → x.w 2 + x.w 3 ≤ 2 ^ 64 →
      (bits (x.w 1) 35 32).testBit 2 = false → (bits (x.w 1) 35 32).testBit 3 = false →
      exec (.registerRegion v k i low ws) s = .next ((u.madeRegion x ((u.region (bits (x.w 1) 19 0)).generation % 4095 + 1)).endCommand v k 0
        (bits (x.w 1) 19 0 * 4096 + ((u.region (bits (x.w 1) 19 0)).generation % 4095 + 1)))) ∧
    (code = 0x07 → (u.inst x.inst).state = 2 → bits (x.w 1) 31 0 ≠ 0 → u.regInRange x.inst (bits (x.w 1) 31 0 / 4096) = true →
      (u.region (bits (x.w 1) 31 0 / 4096)).state = .valid → (u.region (bits (x.w 1) 31 0 / 4096)).generation = bits (x.w 1) 31 0 % 4096 →
      exec (.revokeRegion v k i low ws) s =
        .next (u.setRegion (bits (x.w 1) 31 0 / 4096) (fun y => { y with state := .asked, cmdSlot := 16 * v + k }))) ∧
    (code = 0x08 → (u.inst x.inst).state = 2 → u.qpInRange x.inst (bits (x.w 1) 16 0) = true →
      u.qpExists (bits (x.w 1) 16 0) = true → exec (.setCounter v k i low ws) s =
        .next (((u.setQp (bits (x.w 1) 16 0) (fun y => { y with counter := bits (x.w 2) 31 0 })).testTriggers (bits (x.w 1) 16 0) 0).endWith v k 0)) ∧
    (code = 0x20 → (u.inst x.inst).state = 1 → u.twin.served.contains x.inst = false → (u.func v).pasidEn = true →
      x.w 2 % 4096 = 0 → x.w 3 % 4096 = 0 → x.w 4 % 4096 = 0 → 6 ≤ bits (x.w 1) 28 24 → bits (x.w 1) 28 24 ≤ 16 →
      bits (x.w 1) 63 32 = 0 → exec (.attach v k i low ws) s = .next ((u.attached x).endWith v k 0)) ∧
    (code = 0x21 → (u.inst x.inst).state = 2 → exec (.detach v k i low ws) s =
      .next ((u.askReset x.inst 2).setInst x.inst (fun e => { e with resetSlot := some (16 * v + k) })))

/-- A command written to a busy slot is discarded with source 369; one whose object an earlier command changes waits, and
starts once nothing holds it. While the task set of the slots moves to another core it ends with result 4. Draws on R531, R533,
R560. -/
def Obligations.SlotCommandsWaitOrEnd : Prop :=
  (∀ (v : Fin 64) (k : Fin 16) (i : Fin 4096) (low : BitVec 44) (ws : List (BitVec 64)) (s : State), s.running = true →
    (s.slotOf v k).busy = true →
    ∀ c ∈ [Instr.createCq v k i low ws, .destroyCq v k i low ws, .createQp v k i low ws, .modifyQp v k i low ws,
      .destroyQp v k i low ws, .registerRegion v k i low ws, .revokeRegion v k i low ws, .setCounter v k i low ws,
      .attach v k i low ws, .detach v k i low ws], exec c s = .next (s.raise 369)) ∧
  (∀ (v : Fin 64) (k : Fin 16) (i : Fin 4096) (low : BitVec 44) (ws : List (BitVec 64)) (code : Nat) (c : Instr) (s : State),
    (code, c) ∈ [(0x01, Instr.createCq v k i low ws), (0x02, .destroyCq v k i low ws), (0x03, .createQp v k i low ws),
      (0x04, .modifyQp v k i low ws), (0x05, .destroyQp v k i low ws), (0x06, .registerRegion v k i low ws),
      (0x07, .revokeRegion v k i low ws), (0x08, .setCounter v k i low ws), (0x20, .attach v k i low ws), (0x21, .detach v k i low ws)] →
    s.running = true → (s.slotOf v k).busy = false → s.irq.moving.contains 2 = false →
    (s.submitted v k (cmdWords code i low ws)).conflicts v k = true →
    exec c s = .next ((s.submitted v k (cmdWords code i low ws)).setCmd v k (fun x => { x with waiting := true }))) ∧
  (∀ (v : Fin 64) (k : Fin 16) (s : State), s.running = true → (s.slotOf v k).waiting = true → s.conflicts v k = false →
    exec (.commandStart v k) s = .next ((s.setCmd v k (fun x => { x with waiting := false })).runCommand v k))

/-- The doorbells. A doorbell of a queue pair of an Active instance posts the entries up to its index: they join the queue, and
the context is called for where it is missing. The consumer index of a completion queue frees its entries. A write to the page
set of an instance that is not Active is discarded; a number outside the instance's ranges is counted. Draws on R431, R436,
R439, R441, R446, R479, R504. -/
def Obligations.Doorbells : Prop :=
  (∀ (i : Fin 4096) (q : Fin 131072) (index : BitVec 16) (ws : List Wr) (s : State), s.running = true → (∀ w ∈ ws, w.wf = true) →
    (s.inst i).state = 2 → s.qpInRange i q = true → s.qpExists q = true → (s.qp q).state = .init ∨ (s.qp q).state = .ready →
    exec (.sendQueueDoorbell i q index ws) s = .next (((((s.setQp q (fun y => { y with sqProd := index.toNat })).readRing q (s.qp q).sqAddr
      (s.qp q).sqLog (s.qp q).sqProd (ringEntries (s.qp q).sqProd index.toNat ws).length).setQp q (fun y => { y with
        sq := y.sq ++ ringEntries (s.qp q).sqProd index.toNat ws })).needContext q)) ∧
    exec (.receiveQueueDoorbell i q index ws) s = .next (((((s.setQp q (fun y => { y with rqProd := index.toNat })).readRing q (s.qp q).rqAddr
      (s.qp q).rqLog (s.qp q).rqProd (ringEntries (s.qp q).rqProd index.toNat ws).length).setQp q (fun y => { y with
        rq := y.rq ++ ringEntries (s.qp q).rqProd index.toNat ws })).needContext q)) ∧
    exec (.triggerListDoorbell i q index ws) s = .next ((((((s.setQp q (fun y => { y with tlProd := index.toNat })).readRing q (s.qp q).tlAddr
      (s.qp q).tlLog (s.qp q).tlProd (ringEntries (s.qp q).tlProd index.toNat ws).length).setQp q (fun y => { y with
        tl := y.tl ++ ringEntries (s.qp q).tlProd index.toNat ws })).testTriggers q 0).needContext q))) ∧
  (∀ (i : Fin 4096) (q : Fin 131072) (index : BitVec 16) (ws : List Wr) (s : State), s.running = true → (∀ w ∈ ws, w.wf = true) →
    (s.inst i).state = 2 → s.qpInRange i q = true → s.qpExists q = true → (s.qp q).state = .reset →
    exec (.sendQueueDoorbell i q index ws) s = .next s ∧ exec (.receiveQueueDoorbell i q index ws) s = .next s ∧
    exec (.triggerListDoorbell i q index ws) s = .next s) ∧
  (∀ (i : Fin 4096) (q : Fin 131072) (c : Fin 16384) (index : BitVec 16) (ci : BitVec 22) (ws : List Wr) (s : State), s.running = true →
    (∀ w ∈ ws, w.wf = true) → (s.inst i).state ≠ 2 →
    exec (.sendQueueDoorbell i q index ws) s = .next ((s.bump 0x60A0 5).raise 365) ∧
    exec (.receiveQueueDoorbell i q index ws) s = .next ((s.bump 0x60A0 5).raise 365) ∧
    exec (.triggerListDoorbell i q index ws) s = .next ((s.bump 0x60A0 5).raise 365) ∧
    exec (.cqConsumerDoorbell i c ci) s = .next ((s.bump 0x60A0 5).raise 365)) ∧
  (∀ (i : Fin 4096) (c : Fin 16384) (ci : BitVec 22) (s : State), s.running = true → (s.inst i).state = 2 →
    (s.cqInRange i c = false → exec (.cqConsumerDoorbell i c ci) s = .next ((s.bump 0x6010 0x10).raise 355)) ∧
    (s.cqInRange i c = true → s.beryl.cqs.has c = true → exec (.cqConsumerDoorbell i c ci) s =
      .next (State.mirror 15 [c, ci.toNat] [] (s.setCq c (fun y => { y with consumer := ci.toNat, count := y.count -
        (if ci.toNat = (s.cq c).consumer then 0 else (ci.toNat + 2 ^ 22 - (s.cq c).consumer - 1) % 2 ^ (s.cq c).log2 + 1) })))))

/-- A work request at the head of a queue pair is served by the command of its opcode: while segments of a request of that
opcode wait, they are sent; where no earlier request has segments left and it may start, it starts, segments are sent while
window and pacing allow, and what is complete is completed. A request whose opcode is none of R453's is served by any. Where
the context is missing, it is called for. Draws on R442, R445, R453 to R455, R460. -/
def Obligations.WorkRequestsAtTheHead : Prop :=
  (∀ (q : Fin 131072) (data : List Nat) (readOk : Bool) (s : State), s.running = true →
    exec (.wrWrite q data readOk) s = .next (s.runHead q 1 data readOk) ∧ exec (.wrRead q) s = .next (s.runHead q 2 [] true) ∧
    exec (.wrSend q data readOk) s = .next (s.runHead q 3 data readOk) ∧ exec (.wrFetchAdd q) s = .next (s.runHead q 4 [] true) ∧
    exec (.wrCmpSwap q) s = .next (s.runHead q 5 [] true) ∧ exec (.wrNop q) s = .next (s.runHead q 6 [] true)) ∧
  (∀ (q : Fin 131072) (op : Nat) (data : List Nat) (readOk : Bool) (s : State),
    (∀ owner trig w, ((s.gainCredit q).qp q).active.find? (fun a => decide (a.sent < a.count)) = none →
      ((s.gainCredit q).qp q).nextWr q = some (owner, trig, w) → w.op = op ∨ w.op = 0 ∨ 6 < w.op →
      ((s.gainCredit q).mayStart q w = true →
        s.runHead q op data readOk = (((s.gainCredit q).startHead q owner trig w readOk).pump q 4097 data).retireAll q) ∧
      ((s.gainCredit q).mayStart q w = false → ((s.gainCredit q).qp q).resident = false →
        s.runHead q op data readOk = s.needContext q)) ∧
    (∀ a, ((s.gainCredit q).qp q).active.find? (fun a => decide (a.sent < a.count)) = some a → a.wr.op = op →
      s.runHead q op data readOk = (s.gainCredit q).pump q 4097 data) ∧
    (((s.gainCredit q).qp q).active.find? (fun a => decide (a.sent < a.count)) = none → ((s.gainCredit q).qp q).nextWr q = none →
      s.runHead q op data readOk = s))

/-- A frame reaches its queue pair. A request from an isolated domain is dropped; one that names no queue pair or comes from
another than the peer is discarded; one whose context is not resident waits for it; one whose host gives no master access gets
an RNR NAK; any other is classified as R461 says. A response is processed where the queue pair is Ready. Each counts as
received. A frame that is not well-formed, and one of another opcode, change nothing. Draws on R449, R461 to R463, R466, R468.
-/
def Obligations.FramesAtTheQueuePair : Prop :=
  (∀ (f : BFrame) (data : Nat) (orig : BitVec 64) (ok : Bool) (s u : State) (t : Nat → Bool → State), s.running = true → f.wf = true →
    u = s.bump 0x6010 2 →
    t = (fun d b => if u.berylContained f = true then u else if u.knownFrame f = false then u.wrongFrame f
      else if u.mustPark f.dstQp = true then u.contextWait f else if u.rightSource f = false then u.wrongFrame f
      else if (u.qp f.dstQp).state = .ready ∧ u.canMaster (u.instD (u.qp f.dstQp).inst).vh = false then u.rnrNak f.dstQp f.psn
      else (u.touch f.dstQp).classify f d b) →
    (f.op = 1 → exec (.writeSegment f) s = .next (t 0 true)) ∧
    (f.op = 2 → exec (.readReq f data ok) s = .next (t data ok)) ∧
    (f.op = 3 → exec (.sendSegment f) s = .next (t 0 true)) ∧
    (f.op = 4 → exec (.fetchAddRequest f orig ok) s = .next (t orig.toNat ok)) ∧
    (f.op = 5 → exec (.cmpSwapRequest f orig ok) s = .next (t orig.toNat ok))) ∧
  (∀ (f : BFrame) (data : List Nat) (s u : State) (t : List Nat → State), s.running = true → f.wf = true → u = s.bump 0x6010 2 →
    t = (fun d => if u.responseReady f = true then (u.touch f.dstQp).responseFrame f d else u.responseElse f) →
    (f.op = 0x81 → exec (.readResp f data) s = .next (t data)) ∧
    (f.op = 0x82 → exec (.atomicResp f data) s = .next (t data)) ∧
    (f.op = 0x83 → f.syndrome = 0 → exec (.ack f data) s = .next (t data)) ∧
    (f.op = 0x83 → f.syndrome = 2 → exec (.sequenceNak f data) s = .next (t data)) ∧
    (f.op = 0x83 → f.syndrome = 1 → exec (.rnrNak f) s = .next (t [])) ∧
    (f.op = 0x83 → 3 ≤ f.syndrome → f.syndrome ≤ 5 → exec (.nak f) s = .next (t []))) ∧
  (∀ (f : BFrame) (data : List Nat) (n : Nat) (orig : BitVec 64) (ok : Bool) (s : State), f.wf = false →
    exec (.writeSegment f) s = .next s ∧ exec (.readReq f n ok) s = .next s ∧ exec (.sendSegment f) s = .next s ∧
    exec (.fetchAddRequest f orig ok) s = .next s ∧ exec (.cmpSwapRequest f orig ok) s = .next s ∧ exec (.readResp f data) s = .next s ∧
    exec (.atomicResp f data) s = .next s ∧ exec (.ack f data) s = .next s ∧ exec (.sequenceNak f data) s = .next s ∧
    exec (.rnrNak f) s = .next s ∧ exec (.nak f) s = .next s) ∧
  (∀ (f : BFrame) (data : List Nat) (s : State), f.wf = true → f.op = 1 → exec (.sendSegment f) s = .next s ∧
    exec (.readResp f data) s = .next s)

/-- Fetches end, timers expire, messages are delivered. Draws on R451, R462, R464 to R466, R468, R471, R480. -/
def Obligations.FetchesTimersAndDelivery : Prop :=
  (∀ (q : Fin 131072) (data : List Nat) (s u : State), s.running = true → s.qpExists q = true → (s.qp q).fetching = true →
    u = s.masterDone (s.hostPortOf q) (s.qpSlot q) false →
    exec (.contextFetchDone q true data) s = .next (((u.setQp q (fun x => { x with fetching := false, resident := true })).touch q).unparkAll
      q data) ∧
    exec (.contextFetchDone q false data) s = .next (u.contextLost q)) ∧
  (∀ (r : Fin 1048576) (data : List Nat) (s u : State), s.running = true → (s.region r).fetching = true →
    u = s.masterDone ((s.portOfVh (s.instD (s.region r).inst).vh).getD 176) (s.regionSlot r) false →
    exec (.keyFetchDone r true data) s = .next ((u.cacheKey r).each ((s.regionUsers r).filter (fun q => (s.qp q).resident &&
      !(s.qp q).parked.isEmpty)) (fun q s => s.unparkAll q data)) ∧
    exec (.keyFetchDone r false data) s = .next (u.keyLost r data)) ∧
  (∀ (q : Fin 131072) (data : List Nat) (s : State), s.running = true → (s.qp q).state = .ready → (s.qp q).unacked ≠ (s.qp q).sentPsn →
    (s.qp q).timerAt + s.setting 0x6001 1 ≤ s.ep.beat → (s.qp q).rnrUntil = none →
    ((s.qp q).retries < s.setting 0x6001 2 → exec (.retransmitTimeout q data) s = .next (((((s.setQp q (fun y => { y with
      retries := y.retries + 1, timerAt := s.ep.beat, seqNakPsn := none })).bump 0x6010 3).rewind q (s.qp q).unacked).pumpAll q data))) ∧
    (s.setting 0x6001 2 ≤ (s.qp q).retries → (∀ a, s.ownerOfPsn q (s.qp q).unacked = some a →
      exec (.retransmitTimeout q data) s = .next ((s.failActive q 6 a).raise 347)) ∧
      (s.ownerOfPsn q (s.qp q).unacked = none → exec (.retransmitTimeout q data) s = .next ((s.flushQp q 1).raise 347)))) ∧
  (∀ (q : Fin 131072) (data : List Nat) (b : Nat) (s : State), s.running = true → (s.qp q).state = .ready →
    (s.qp q).rnrUntil = some b → b ≤ s.ep.beat → exec (.rnrWaitEnd q data) s = .next (((s.setQp q (fun y => { y with
      rnrUntil := none, rnrs := y.rnrs + 1, timerAt := s.ep.beat })).rewind q (s.qp q).rnrPsn).pumpAll q data)) ∧
  (∀ (q : Fin 131072) (b : Nat) (s : State), s.running = true → (s.qp q).state = .ready → (s.qp q).ackOwed = some b →
    b < s.ep.beat → exec (.ackTimer q) s = .next (s.sendAck q)) ∧
  (∀ (q : Fin 131072) (s : State), s.running = true → (s.qp q).state = .ready → (s.qp q).decreased = true →
    (s.qp q).rate < (s.qp q).cap → (s.qp q).raisedAt + s.setting 0x6001 0xA ≤ s.ep.beat →
    (s.ep.beat - (s.qp q).lastDecrease) % s.setting 0x6001 0xA = 0 → exec (.rateIncrease q) s =
      .next ((s.gainCredit q).setQp q (fun y => { y with rate := min y.cap (y.rate + s.setting 0x6001 0xB), raisedAt := s.ep.beat }))) ∧
  (∀ (q : Fin 131072) (m : Delivery) (r : List Delivery) (s u : State), s.running = true → (s.qp q).deliver = m :: r →
    u = (match m.recv with
      | none => s.setQp q (fun x => { x with deliver := r })
      | some w => (s.setQp q (fun x => { x with deliver := r })).complete1 ((s.setQp q (fun x => { x with deliver := r })).qp q).inst
          ((s.setQp q (fun x => { x with deliver := r })).qp q).recvCq {
            op := w.op, qp := q, srcQp := m.srcQp, srcEdge := m.srcEdge, tagNo := m.tagNo, queue := 1, bytes := m.length
            wrId := w.wrId }) →
    exec (.messageDelivery q) s = .next
      (if m.tagNo = 0 then (if m.count = true then u.countUp q else u)
      else (if m.count = true then u.countUp q else u).testTriggers q m.tagNo))

/-- Revocation, clusters, the query of a queue pair, and containment of a domain. Draws on R474, R478, R487 to R489, R516. -/
def Obligations.RevocationClustersAndDomains : Prop :=
  (∀ (r : Fin 1048576) (s : State), s.running = true → (s.region r).state = .asked →
    exec (.regionRevoking r) s = .next (s.setRegion r (fun x => { x with state := .revoking }))) ∧
  (∀ (r : Fin 1048576) (s : State), s.running = true → (s.region r).state = .revoking → s.regionBusy r = false →
    exec (.revocationComplete r) s = .next (((s.freeRegion r).eventRecord (s.region r).inst
      (eventWords 2 0 (r * 4096 + (s.region r).generation) 0 0 0 0 0 s.ep.beat)).endWith ((s.region r).cmdSlot / 16) ((s.region r).cmdSlot % 16) 0)) ∧
  (∀ (c : Fin 8) (s : State), s.adpOpen = true →
    (s.beryl.clusterRetired.look c false = false → exec (.clusterRetire c none) s =
      .next (State.answer 0 { s with beryl := { s.beryl with clusterPending := s.beryl.clusterPending.put c true } })) ∧
    (s.beryl.clusterRetired.look c false = true → exec (.clusterRetire c none) s = .next (s.answer 0))) ∧
  (∀ (c : Fin 8) (q : Fin 131072) (s : State), s.running = true → s.qpExists q = true → (s.qp q).resident = true →
    s.clusterOf q = c → exec (.clusterRetire c (some (q, true))) s = .next ((s.fatalQp q).raise 353) ∧
      exec (.clusterRetire c (some (q, false))) s = .next ((s.bump 0x6010 0x12).raise 352)) ∧
  (∀ (c : Fin 8) (s : State), s.running = true → s.beryl.clusterPending.look c false = true →
    exec (.clusterRetirement c) s = .next (s.retireCluster c)) ∧
  (∀ (q : Fin 131072) (s : State), s.adpOpen = true → exec (.qpQuery q) s = .next ((s.setView 0x6040 1 q).answer 0)) ∧
  (∀ (d : Fin 4096) (s : State), s.running = true → s.host.containPending.look d false = true →
    exec (.domainContainment d) s = .next (s.containDomain d)) ∧
  (∀ (d : Fin 4096) (s : State), s.adpOpen = true → exec (.containRelease d) s = .next ((s.containRelease d).answer 0))

/-- Resets of instances and swaps of their logs. A reset asked by the host, or by the dictionary, is owed; at the next beat it
takes effect; a drain that does not end within D:60A0.02 beats becomes a squash with source 360; it ends once no transaction of
the instance remains. A log swap is asked, taken and ended. Draws on R504, R508 to R514. -/
def Obligations.InstanceResetsAndLogSwaps : Prop :=
  (∀ (v : Fin 64) (k : Fin 256) (s : State), s.running = true →
    exec (.resetControlDrain v k) s = .next (s.resetControl v k 1) ∧
    exec (.resetControlSquash v k) s = .next (s.resetControl v k 2)) ∧
  (∀ (i : Fin 4096) (s : State), s.adpOpen = true →
    exec (.instanceResetDrain i) s = .next ((s.askReset i 1).answer 0) ∧
    exec (.instanceResetSquash i) s = .next ((s.askReset i 2).answer 0)) ∧
  (∀ (i : Fin 4096) (s : State), s.running = true → (s.inst i).resetAsked ≠ 0 →
    exec (.instanceResetTakesEffect i) s = .next (s.resetTakes i)) ∧
  (∀ (i : Fin 4096) (s : State), s.running = true → (s.inst i).state = 3 → (s.inst i).resetAt + s.setting 0x60A0 2 ≤ s.ep.beat →
    s.drained i = false → exec (.drainLimitReached i) s = .next ((s.raise 360).squash i)) ∧
  (∀ (i : Fin 4096) (s : State), s.running = true → (s.inst i).state = 3 ∧ s.drained i = true ∨ (s.inst i).state = 4 ∧ s.squashed i = true →
    exec (.instanceResetEnd i) s = .next (s.releaseInst i)) ∧
  (∀ (v : Fin 64) (k : Fin 256) (i : Nat) (s : State), s.running = true → s.instAt v k = some i →
    ((s.inst i).state = 2 → (s.inst i).logging = true → exec (.logSwapRequest v k) s = .next (s.setInst i (fun e => { e with swapAsked := true }))) ∧
    ((s.inst i).state = 2 → (s.inst i).logging = false → exec (.logSwapRequest v k) s = .next s) ∧
    ((s.inst i).state ≠ 2 → exec (.logSwapRequest v k) s = .next ((s.bump 0x60A0 5).raise 365))) ∧
  (∀ (v : Fin 64) (k : Fin 256) (s : State), s.running = true → s.instAt v k = none →
    exec (.logSwapRequest v k) s = .next ((s.bump 0x60A0 5).raise 365)) ∧
  (∀ (i : Fin 4096) (s : State), s.running = true → (s.inst i).swapAsked = true → exec (.logSwap i) s = .next (s.logSwap i)) ∧
  (∀ (i : Fin 4096) (s : State), s.running = true → (s.inst i).swapping = true →
    exec (.logSwapComplete i true) s = .next (s.setInst i (fun e => { e with swapping := false, overflow := e.overflow || false })) ∧
    exec (.logSwapComplete i false) s = .next ((s.setInst i (fun e => { e with swapping := false, overflow := e.overflow || true })).raise 363))

/-- The management functions. The answer of SPDM in a DOE response is not stated by the spec: it is a free value (log entry 4),
and this statement holds for each. Draws on R198, R525, R530, R534, R545, R549, R550, R555. -/
def Obligations.ManagementFunctions : Prop :=
  (∀ (v : Fin 64) (len : BitVec 13) (s u : State), s.running = true → u = s.setFunc v (fun f => { f with reqLen := len.toNat }) →
    ((s.func v).mboxBusy = false → (s.func v).respReady = false → len.toNat ≠ 0 → len.toNat ≤ 4096 →
      exec (.mboxSubmit v len) s = .next ((u.setFunc v (fun f => { f with mboxBusy := true })).interrupt (16 + v))) ∧
    ((s.func v).mboxBusy = true ∨ (s.func v).respReady = true ∨ len.toNat = 0 ∨ 4096 < len.toNat →
      exec (.mboxSubmit v len) s = .next (u.raise 370))) ∧
  (∀ (v : Fin 64) (s : State), s.running = true → (s.func v).respReady = true →
    ((s.func v).respQueue = [] → exec (.respReadyClear v) s = .next (s.setFunc v (fun f => { f with respReady := false }))) ∧
    (∀ m r, (s.func v).respQueue = m :: r → exec (.respReadyClear v) s =
      .next ((s.setFunc v (fun f => { f with resp := m.2.2, respLen := m.2.1, respQueue := r })).vecEvent false (v * 64 + 1)))) ∧
  (∀ (v : Fin 64) (base : BitVec 64) (log2 : BitVec 32) (s : State), s.running = true → exec (.errorQueueSetup v base log2) s =
    .next (s.setFunc v (fun f => { f with errqNew := some (base.toNat, log2.toNat) }))) ∧
  (∀ (store : Bool) (k : Fin 8192) (s : State), s.running = true → (s.vec store k).timer = 1 →
    exec (.moderationTimerExpiry store k) s = .next (s.timerTick store k)) ∧
  (∀ (store : Bool) (k : Fin 8192) (s : State), s.running = true → (s.vec store k).pending = true → (s.vec store k).asked = true →
    s.deliverable store k = true → exec (.vectorDeliverable store k) s = .next (s.vecSend store k)) ∧
  (∀ (v : Fin 64) (s : State), s.running = true →
    ((s.func v).pmeEn = false ∨ s.pendingVecs v = [] → exec (.powerStateWrite v true) s = .next (s.setFunc v (fun f => { f with d3 := true }))) ∧
    ((s.func v).pmeEn = true → s.pendingVecs v ≠ [] →
      exec (.powerStateWrite v true) s = .next ((s.setFunc v (fun f => { f with d3 := true })).signalPme v)) ∧
    ((s.func v).d3 = false → exec (.powerStateWrite v false) s = .next (s.setFunc v (fun f => { f with d3 := false }))) ∧
    ((s.func v).d3 = true → exec (.powerStateWrite v false) s = .next (((s.setFunc v (fun f => { f with d3 := false })).each
      (s.pendingVecs v) (fun x s => s.setVec x.1 x.2 (fun y => { y with asked := true }))).resumeMaster v))) ∧
  (∀ (i : Fin 262144) (t : Track) (s u : State), s.running = true → s.track i = some t → t.budget = .master → t.deadline ≤ s.ep.beat →
    t.expired = false → u = (match t.mvh with
      | some v => s.setFunc v (fun f => { f with aerUnc := f.aerUnc ||| 2 ^ aerAbort })
      | none => s) →
    exec (.masterTimeout i) s = .next ((((((u.bump 0x40F0 8).raise 194).bump 0x8065 1).raise 368).expire i).unitFails t)) ∧
  (∀ (v : Fin 64) (p : Nat) (index : Fin 256) (spdm : Spdm) (keys : Bool) (s : State), s.running = true → s.portOfVh v = some p →
    exec (.doeRequest v 0 ⟨index, spdm⟩ keys) s = .next (s.setFunc v (fun f => { f with
      doe := [1 + 65536 * (index.val % 3) + 2 ^ 24 * (if index.val % 3 = 2 then 0 else index.val % 3 + 1)] }))) ∧
  (∀ (v : Fin 64) (p : Nat) (index : Fin 256) (spdm : Spdm) (keys : Bool) (s : State), s.running = true → s.portOfVh v = some p →
    exec (.doeRequest v 1 ⟨index, spdm⟩ keys) s = .next (State.setFunc v (fun f => { f with
      doe := [(spdmAnswer spdm).getD (Config.freeValue 6 s.free)], ideKeys := f.ideKeys || false }) { s with free := s.free + 1 })) ∧
  (∀ (v : Fin 64) (p : Nat) (index : Fin 256) (spdm : Spdm) (keys : Bool) (s u : State), s.running = true → s.portOfVh v = some p →
    u = State.setFunc v (fun f => { f with
      doe := [(spdmAnswer spdm).getD (Config.freeValue 6 s.free)], ideKeys := f.ideKeys || keys }) { s with free := s.free + 1 } →
    (keys = true → (s.port p).ide = 1 ∨ (s.port p).ide = 3 → (s.port p).stage = 5 → exec (.doeRequest v 2 ⟨index, spdm⟩ keys) s =
      .next (u.setPort p (fun q => { q with ide := 2, ideRefresh := s.ep.beat }))) ∧
    (keys = false ∨ (s.port p).ide ≠ 1 ∧ (s.port p).ide ≠ 3 ∨ (s.port p).stage ≠ 5 →
      exec (.doeRequest v 2 ⟨index, spdm⟩ keys) s = .next u))

/-- The management cores, their interrupt controller and Sprout. Draws on R559 to R569, R573, R574. -/
def Obligations.CoresInterruptsAndSprout : Prop :=
  (∀ (value : BitVec 8) (s : State), s.adpOpen = true →
    (3 < value.toNat → exec (.coreRetire value) s = .next (s.answer 2)) ∧
    (value.toNat ≤ 3 → (∀ c ∈ s.stayingCores, c = value.toNat) → exec (.coreRetire value) s = .next (s.answer 1)) ∧
    (value.toNat ≤ 3 → (∃ c ∈ s.stayingCores, c ≠ value.toNat) → s.usableCores.contains value.toNat = true →
      exec (.coreRetire value) s = .next ((s.markCore value.toNat).answer 0)) ∧
    (value.toNat ≤ 3 → (∃ c ∈ s.stayingCores, c ≠ value.toNat) → s.usableCores.contains value.toNat = false →
      exec (.coreRetire value) s = .next (s.answer 0))) ∧
  (∀ (k : Fin 4) (s : State), s.dieOn = true → s.stayingCores.contains k = true →
    exec (.coreCheckinTimeout k) s = .next (s.coreFail k) ∧ exec (.mgmtSramError (.coreLocal k)) s = .next (s.coreFail k)) ∧
  (∀ (set : Fin 4) (s : State), s.dieOn = true → s.irq.moving.contains set.val = true → exec (.taskSetMoveDone set) s =
    .next { s with irq := { s.irq with moving := s.irq.moving.filter (fun k => decide (k ≠ set.val)) } }) ∧
  (∀ s : State, s.dieOn = true → exec (.mgmtSramError .corrected) s = .next ((s.bump 0x8002 1).raise 377) ∧
    (s.col.safe = false → exec (.mgmtSramError .shared) s = .next (s.watchdogExpire.raise 378)) ∧
    (s.col.safe = true → exec (.mgmtSramError .shared) s = .next (s.raise 378))) ∧
  (∀ (k : Fin 4) (s : State), s.dieOn = true → s.usableCores.contains k.val = true →
    (s.claimable k = 0 → exec (.claim k) s = .next (s.emit (.value 0))) ∧
    (s.claimable k ≠ 0 → ∃ t, exec (.claim k) s = .next t ∧ t.out = .value (s.claimable k) :: s.out ∧
      t.irq.inService.look (s.claimable k) 0 = k + 1 ∧ t.irq.pending = s.irq.pending.del (s.claimable k) ∧
      (∀ n, n ≠ s.claimable k → t.irq.inService.look n 0 = s.irq.inService.look n 0) ∧ t.irq.enable = s.irq.enable)) ∧
  (∀ (k : Fin 4) (value : BitVec 32) (s u : State), s.dieOn = true → s.usableCores.contains k.val = true →
    s.irq.inService.look (value.toNat % 512) 0 = k + 1 →
    u = { s with irq := { s.irq with inService := s.irq.inService.del (value.toNat % 512) } } →
    exec (.complete k value) s = .next (if 256 ≤ value.toNat % 512 then u.notify 0 0 (u.faultItems (value.toNat % 512 - 256)) else u)) ∧
  (∀ (value : BitVec 32) (s : State), s.dieOn = true → value.toNat < 4 → exec (.softRaise value) s = .next (s.interrupt (8 + value.toNat))) ∧
  (∀ s : State, s.dieOn = true → s.ep.beat % 781 = 0 → exec .firmwareTick s = .next (s.interrupt 1)) ∧
  (∀ (aMv bMv ma mw : BitVec 32) (s : State), s.sup.gate = .on →
    exec (.supervisorRead true aMv bMv ma mw) s = .next { s with
      sup := { s.sup with
        feedA := { s.sup.feedA with mv := aMv.toNat }, feedB := { s.sup.feedB with mv := bMv.toNat }
        inputMa := ma.toNat, inputMw := mw.toNat, energyUj := s.sup.energyUj + mw.toNat }
      sprout := { s.sprout with readFails := 0 } } ∧
    (s.sprout.readFails ≠ 9 → exec (.supervisorRead false aMv bMv ma mw) s = .next { s with
      sprout := { s.sprout with readFails := min 10 (s.sprout.readFails + 1), readErrors := s.sprout.readErrors + 1 } }) ∧
    (s.sprout.readFails = 9 → exec (.supervisorRead false aMv bMv ma mw) s = .next (State.raise 380 { s with
      sprout := { s.sprout with readFails := 10, readErrors := s.sprout.readErrors + 1 } }))) ∧
  (∀ s : State, s.dieOn = true → exec .sproutCheckin s = .next (State.interrupt 7 { s with irq := { s.irq with sproutAt := s.ep.beat } }) ∧
    (s.irq.sproutAt + 78125 ≤ s.ep.beat →
      exec .sproutCheckinMissed s = .next (State.raise 381 { s with irq := { s.irq with sproutAt := s.ep.beat } })))

/-- The fault collector's commands. Sticky bits are cleared in safe state too, where the clear is answered. Draws on R588, R592
to R596, R603 to R605, R610, R611. -/
def Obligations.FaultCollectorCommands : Prop :=
  (∀ (n : Fin 40) (s : State), s.running = true → s.col.portPending.contains n.val = true →
    exec (.portContainment n) s = .next (s.containGroup n)) ∧
  (∀ (port : Fin 160) (s : State), s.adpOpen = true →
    (s.portNamed s.ep.live port = true → exec (.portRelease port false) s = .next ((s.releasePort port).answer 0) ∧
      exec (.portRelease port true) s = .next (s.answer 2)) ∧
    (s.portNamed s.ep.live port = false → ∀ value, exec (.portRelease port value) s = .next (s.answer 3))) ∧
  (∀ (n : Fin 1024) (s : State), s.adpUp = true →
    (s.clearOpen = true → exec (.stickyClear n) s = .next ((s.clearSource n).answer 0)) ∧
    (s.clearOpen = false → exec (.stickyClear n) s = .next (s.answer 1))) ∧
  (∀ (n : Fin 1024) (s : State), s.adpOpen = true → ∃ t, exec (.force n) s = .next t ∧
    (t.source n).newEvents = (s.source n).newEvents + 1 ∧ (∀ k : Nat, k ≠ n → t.source k = s.source k) ∧ t.out = .status 0 :: s.out) ∧
  (∀ s : State, s.adpOpen = true → exec .clearAll s = .next ((s.each (s.col.sources.map (·.1)) State.clearSource).answer 0)) ∧
  (∀ s : State, s.adpOpen = true → exec .collectorInject s = .next (State.answer 0 { s with col := { s.col with injectOwed := true } })) ∧
  (∀ s : State, s.dieOn = true → s.ep.beat % 16 = 0 → exec .collectorScan s = .next s.parityCheck)

/-- Frames of the Garnet link. The next frame in order is accepted and acknowledged, and then acted on: a beat frame closes the
delta and is a heartbeat, records are applied at once and in order while the modules mirror. A bad frame, or one ahead of its
turn, asks for a replay; one that was accepted before is discarded. An acknowledgement releases what waits for it. Draws on
R358, R616, R619 to R621, R624, R627. -/
def Obligations.TwinFramesAndRecords : Prop :=
  (∀ (h : GarnetHead) (stamp : BitVec 64) (n : BitVec 32) (s : State), s.garnetNext h 1 0 [stamp.toNat, n.toNat * 2 ^ 32] →
    ∃ u : State, exec (.beatFrame ⟨h, stamp, n⟩) s = .next u ∧ u.twin.heartbeat = true ∧ u.twin.lastDelta = s.twin.deltaRecs ∧ u.twin.deltaRecs = [] ∧
      u.trunks = s.garnetTaken.trunks ∧ u.out = s.garnetTaken.out ∧ u.home = s.home ∧ u.beryl = s.beryl ∧ u.twin.store = s.twin.store) ∧
  (∀ (h : GarnetHead) (records : List Record) (s : State), s.garnetNext h 2 0 (records.map recordWords).flatten →
    (∀ r ∈ records, recordWf r = true) → (records.map (fun r => r.payload.length + 1)).sum ≤ 27 →
    (s.mirroring = true → exec (.recordFrame h records) s = .next (s.garnetTaken.each records State.applyRecord)) ∧
    (s.mirroring = false → exec (.recordFrame h records) s = .next s.garnetTaken)) ∧
  (∀ (h : GarnetHead) (stamp : BitVec 64) (n : BitVec 32) (s : State), s.garnetUp = true →
    (garnetSpells h 1 0 [stamp.toNat, n.toNat * 2 ^ 32] = true → garnetOk h [stamp.toNat, n.toNat * 2 ^ 32] = false →
      exec (.beatFrame ⟨h, stamp, n⟩) s = .next (s.askReplay 160 h.now)) ∧
    (garnetSpells h 2 0 [] = true → garnetOk h [] = false → exec (.recordFrame h []) s = .next (s.askReplay 160 h.now)) ∧
    (garnetSpells h 3 4 [] = true → garnetOk h [] = false → exec (.syncDone h) s = .next (s.askReplay 160 h.now)) ∧
    (garnetSpells h 1 0 [stamp.toNat, n.toNat * 2 ^ 32] = false → exec (.beatFrame ⟨h, stamp, n⟩) s = .next s)) ∧
  (∀ (h : GarnetHead) (s : State), s.garnetUp = true → garnetOk h [] = true → garnetSeq h ≠ (s.trunk 160).es →
    (((s.trunk 160).es + 4096 - garnetSeq h) % 4096 ≤ 2048 →
      (garnetSpells h 2 0 [] = true → exec (.recordFrame h []) s = .next s) ∧
      (garnetSpells h 3 5 [] = true → exec (.detachMessage h) s = .next s)) ∧
    (2048 < ((s.trunk 160).es + 4096 - garnetSeq h) % 4096 →
      (garnetSpells h 2 0 [] = true → exec (.recordFrame h []) s = .next (s.askReplay 160 h.now)) ∧
      (garnetSpells h 3 5 [] = true → exec (.detachMessage h) s = .next (s.askReplay 160 h.now)))) ∧
  (∀ (ack : BitVec 12) (s : State), s.garnetUp = true → exec (.mirrorAckRelease ack) s = .next (s.twinAck ack.toNat)) ∧
  (∀ (h : GarnetHead) (bank : Fin 16) (set_ : BitVec 10) (s : State), s.garnetNext h 3 7 [bank + 16 * set_.toNat] →
    (s.mirroring = true → exec (.recallRequest h bank set_) s = .next ((s.garnetTaken.interrupt 6).recallIn bank set_.toNat id)) ∧
    (s.mirroring = false → exec (.recallRequest h bank set_) s = .next (s.garnetTaken.interrupt 6)))

/-- The loss of the twin. A beat without a heartbeat counts as missed, except while the Garnet link narrows or retrains, and
the fourth in a row takes a Paired module to the fence. In the fence a module of side 1 gives way to a pulsing alert with a
warm start; else, at its end, it takes over. A restart request makes the twin start anew, and is repeated. Draws on R627 to
R631, R637. -/
def Obligations.TheTwinIsLost : Prop :=
  (∀ (s : State), s.running = true → s.mirroring = true → s.twin.heartbeat = false →
    ((s.port 160).narrowSince ≠ none → exec .missedHeartbeat s = .next s) ∧
    ((s.port 160).narrowSince = none → s.twin.state = .paired → 3 ≤ s.twin.missed → ∃ u : State, exec .missedHeartbeat s = .next u ∧
      u.twin.state = .fencing ∧ u.twin.fenceAt = s.ep.beat ∧ u.twin.trigger = 1 ∧ u.board.alertLow = true ∧ u.twin.missed = s.twin.missed + 1 ∧
      u.core = s.core ∧ u.fab = s.fab ∧ u.home = s.home) ∧
    ((s.port 160).narrowSince = none → s.twin.state ≠ .paired ∨ s.twin.missed < 3 → ∃ u : State, exec .missedHeartbeat s = .next u ∧
      u.twin = { s.twin with missed := s.twin.missed + 1 } ∧ u.board = s.board)) ∧
  (∀ (s : State), s.running = true → s.twin.state = .fencing → s.setting 0x9000 2 = 1 → s.pulsing = true →
    exec .twinAlertPulsing s = .next (s.warmStart 5) ∧ exec .takeover s = .next s) ∧
  (∀ (s : State), s.running = true → s.takeoverDue = true → ∃ u : State, exec .takeover s = .next u ∧
    u.twin.state = .takenOver ∧ u.twin.served = [] ∧ u.board = { s.board with alertLow := s.col.safe } ∧
    u.ep.live = s.ep.live ∧ u.ep.beat = s.ep.beat ∧ u.sup = s.sup ∧ u.start = s.start) ∧
  (∀ (h : GarnetHead) (s : State), s.garnetNext h 3 6 [] →
    (s.starting = true → exec (.restartRequest h) s = .next (s.garnetTaken.interrupt 6)) ∧
    (s.starting = false → exec (.restartRequest h) s = .next ((s.garnetTaken.interrupt 6).warmStart 5))) ∧
  (∀ (b : Nat) (s : State), s.garnetUp = true → s.twin.state = .takenOver → s.twin.twinState ≠ 0 → s.twin.restartAt = some b →
    (b + 7813 ≤ s.ep.beat → ∃ u : State, exec .restartRequestRepeat s = .next u ∧ u.twin.restartAt = some s.ep.beat ∧
      (u.source 388).newEvents = (s.source 388).newEvents + 1) ∧
    (s.ep.beat < b + 7813 → exec .restartRequestRepeat s = .next s))

/-- Attaching, detaching, serving alone and moving a home; each is answered busy where the pair states forbid it. Draws on
R613, R626, R633 to R636, R638. -/
def Obligations.TwinPairing : Prop :=
  (∀ (s : State), s.adpOpen = true →
    (s.setting 0x9000 1 = 1 → (s.port 160).stage = 5 → attachable s.twin.state.code = true → attachable s.twin.twinState = true →
      ¬ (s.twin.state = .takenOver ∧ s.twin.twinState = 5) →
      exec (.attachRequest true) s = .next ((State.tellTwin 1 [] { s with twin := { s.twin with attachAsked := true } }).answer 0)) ∧
    (s.setting 0x9000 1 ≠ 1 ∨ (s.port 160).stage ≠ 5 ∨ attachable s.twin.state.code = false ∨ attachable s.twin.twinState = false ∨
      s.twin.state = .takenOver ∧ s.twin.twinState = 5 → exec (.attachRequest true) s = .next (s.answer 1)) ∧
    (s.twin.state = .paired → exec (.detachRequest true) s = .next ((s.tellTwin 5 []).answer 0)) ∧
    (s.twin.state ≠ .paired → exec (.detachRequest true) s = .next (s.answer 1)) ∧
    (s.twin.state = .holding → ∃ u : State, exec (.serveAlone true) s = .next u ∧ u.twin.state = .single ∧ u.ep = s.ep ∧ u.home = s.home) ∧
    (s.twin.state ≠ .holding → exec (.serveAlone true) s = .next (s.answer 1))) ∧
  (∀ (h : GarnetHead) (differs : Fin 8) (s : State), s.garnetNext h 3 1 [] →
    (s.setting 0x9000 1 = 0 ∨ attachable s.twin.state.code = false →
      exec (.attachRequestMessage h differs) s = .next (s.garnetTaken.interrupt 6)) ∧
    (s.setting 0x9000 1 ≠ 0 → attachable s.twin.state.code = true → s.attachReason differs = 0 →
      exec (.attachRequestMessage h differs) s = .next ((s.garnetTaken.interrupt 6).tellTwin 2 []).enterAttaching) ∧
    (s.setting 0x9000 1 ≠ 0 → attachable s.twin.state.code = true → s.attachReason differs ≠ 0 →
      exec (.attachRequestMessage h differs) s = .next (((s.garnetTaken.interrupt 6).tellTwin 3
        [s.attachReason differs]).attachRefused (s.attachReason differs)))) ∧
  (∀ (h : GarnetHead) (s : State), s.garnetNext h 3 2 [] →
    (s.twin.attachAsked = true → attachable s.twin.state.code = true →
      exec (.attachAccept h) s = .next (s.garnetTaken.interrupt 6).enterAttaching) ∧
    (s.twin.attachAsked = false ∨ attachable s.twin.state.code = false → exec (.attachAccept h) s = .next (s.garnetTaken.interrupt 6))) ∧
  (∀ (h : GarnetHead) (reason : BitVec 8) (s : State), s.garnetNext h 3 3 [reason.toNat] →
    exec (.attachRefuse h reason) s = .next ((s.garnetTaken.interrupt 6).attachRefused reason.toNat)) ∧
  (∀ (h : GarnetHead) (s : State), s.garnetNext h 3 4 [] →
    (s.twin.state = .attaching → s.twin.syncAcked = true →
      ∃ u : State, exec (.syncDone h) s = .next u ∧ u.twin.state = .paired ∧ u.twin.attachResult = 1 ∧ u.home = s.home) ∧
    (s.twin.state = .attaching → s.twin.syncAcked = false →
      ∃ u : State, exec (.syncDone h) s = .next u ∧ u.twin.state = .attaching ∧ u.twin.syncGot = true ∧ u.home = s.home) ∧
    (s.twin.state ≠ .attaching → exec (.syncDone h) s = .next (s.garnetTaken.interrupt 6))) ∧
  (∀ (h : GarnetHead) (s : State), s.garnetNext h 3 5 [] →
    (s.twin.state = .paired → exec (.detachMessage h) s = .next (s.garnetTaken.interrupt 6).becomeSingle) ∧
    (s.twin.state ≠ .paired → exec (.detachMessage h) s = .next (s.garnetTaken.interrupt 6))) ∧
  (∀ (region : BitVec 16) (s : State), s.adpOpen = true →
    (255 < region.toNat → exec (.homeMove region) s = .next (s.answer 2)) ∧
    (region.toNat ≤ 255 → s.twin.state = .paired → (s.rgnIn s.ep.live region.toNat).valid = true → s.homeOf region.toNat = 0 → s.twin.moving = none →
      ∃ u : State, exec (.homeMove region) s = .next u ∧ u.twin.moving = some region.toNat ∧ u.twin.moveSent = false ∧ u.ep = s.ep ∧ u.fab = s.fab ∧ u.core = s.core) ∧
    (region.toNat ≤ 255 → s.twin.state ≠ .paired ∨ (s.rgnIn s.ep.live region.toNat).valid = false ∨ s.homeOf region.toNat ≠ 0 ∨ s.twin.moving ≠ none →
      exec (.homeMove region) s = .next (s.answer 1))) ∧
  (∀ (h : GarnetHead) (region : Fin 256) (s : State), s.garnetNext h 3 8 [region] →
    (s.twin.state = .paired → ∃ u : State, exec (.homeMoveMessage h region) s = .next u ∧ u.twin.homes.look region.val 2 = 0 ∧ u.home = s.home ∧
      (∀ r, r ≠ region.val → u.twin.homes.look r 2 = s.twin.homes.look r 2)) ∧
    (s.twin.state ≠ .paired → exec (.homeMoveMessage h region) s = .next (s.garnetTaken.interrupt 6))) ∧
  (∀ s : State, s.adpUp = true → exec (.attachRequest false) s = .next (s.answer 0) ∧ exec (.detachRequest false) s = .next (s.answer 0) ∧
    exec (.serveAlone false) s = .next (s.answer 0)) ∧
  (∀ (q : BitVec 32) (s : State), s.adpOpen = true → exec (.twinQuery q) s = .next ((s.setView 0x9006 1 q.toNat).answer 0))

/-- Handshakes of ADP. HELLO opens a half-open session with the next number, and is answered; a piece of the chain without a
gap is kept; FINISH grants the session, and FINISH_ACK carries a signature that is a free value; a check that fails is counted
and refused, and the half-open session ends. A handshake or session that is idle too long ends. The refusal codes that R652
does not name for a cause are log entry 36. Draws on R647 to R652, R654. -/
def Obligations.AdpHandshakes : Prop :=
  (∀ (path : AdpPath) (version level : BitVec 8) (chainLen : BitVec 16) (s : State), s.adpListens path →
    (version ≠ 1#8 → exec (.hello path version level chainLen) s = .next (s.arrived path)) ∧
    (version = 1#8 → s.irq.moving.contains 0 = true → exec (.hello path version level chainLen) s = .next ((s.arrived path).refuse path 0 1)) ∧
    (version = 1#8 → s.irq.moving.contains 0 = false → s.anchorsValid = [] → mailboxOf path ≠ none →
      exec (.hello path version level chainLen) s = .next ((s.arrived path).refuseCheck path 0 4)) ∧
    (version = 1#8 → s.irq.moving.contains 0 = false → (s.anchorsValid ≠ [] ∨ mailboxOf path = none) →
      level.toNat = 0 ∨ 3 < level.toNat ∨ chainLen.toNat = 0 ∨ 8192 < chainLen.toNat →
      exec (.hello path version level chainLen) s = .next ((s.arrived path).refuseCheck path 0 2)) ∧
    (version = 1#8 → s.irq.moving.contains 0 = false → (s.anchorsValid ≠ [] ∨ mailboxOf path = none) →
      1 ≤ level.toNat → level.toNat ≤ 3 → 1 ≤ chainLen.toNat → chainLen.toNat ≤ 8192 →
      (s.sessionsFull (mailboxOf path) = true ∨ 4 ≤ s.halfOpen.length →
        exec (.hello path version level chainLen) s = .next ((s.arrived path).refuseLimit path 0)) ∧
      (s.sessionsFull (mailboxOf path) = false → s.halfOpen.length < 4 →
        exec (.hello path version level chainLen) s = .next (State.helloReply path s.adp.nextSession
          { s.arrived path with adp := { s.adp with
            nextSession := s.adp.nextSession % (2 ^ 32 - 1) + 1
            sessions := s.adp.sessions ++ [{ number := s.adp.nextSession, mailbox := mailboxOf path, helloBeat := s.ep.beat,
                                             requested := level.toNat, chainLen := chainLen.toNat }] } })))) ∧
  (∀ (path : AdpPath) (session : BitVec 32) (offset : BitVec 16) (len : Fin 1025) (signatureOk chainOk selfSigned : Bool)
    (anchor : Option (Fin 64)) (s : State), s.adpListens path →
    (s.handshake path session.toNat = none → exec (.chain path session offset len) s = .next (s.arrived path) ∧
      exec (.finish path session signatureOk chainOk anchor selfSigned) s = .next (s.arrived path)) ∧
    (∀ x, s.handshake path session.toNat = some x → s.irq.moving.contains 0 = true →
      exec (.chain path session offset len) s = .next ((s.arrived path).refuse path x.number 1) ∧
      exec (.finish path session signatureOk chainOk anchor selfSigned) s = .next ((s.arrived path).refuse path x.number 1))) ∧
  (∀ (path : AdpPath) (session : BitVec 32) (offset : BitVec 16) (len : Fin 1025) (x : Session) (s : State), s.adpListens path →
    s.handshake path session.toNat = some x → s.irq.moving.contains 0 = false →
    (offset.toNat ≤ x.chainGot → offset.toNat + len.val ≤ x.chainLen → exec (.chain path session offset len) s =
      .next ((s.arrived path).setSession x.number (fun y => { y with chainGot := max y.chainGot (offset.toNat + len.val) }))) ∧
    (x.chainGot < offset.toNat ∨ x.chainLen < offset.toNat + len.val →
      exec (.chain path session offset len) s = .next ((s.arrived path).refuseCheck path x.number 2))) ∧
  (∀ (path : AdpPath) (session : BitVec 32) (signatureOk chainOk selfSigned : Bool) (anchor : Option (Fin 64)) (x : Session) (s : State),
    s.adpListens path → s.handshake path session.toNat = some x → s.irq.moving.contains 0 = false →
    (signatureOk = false ∨ x.chainGot ≠ x.chainLen →
      exec (.finish path session signatureOk chainOk anchor selfSigned) s = .next ((s.arrived path).refuseCheck path x.number 4)) ∧
    (signatureOk = true → x.chainGot = x.chainLen →
      (∀ c, s.sessionGrant x chainOk anchor selfSigned = .error c →
        exec (.finish path session signatureOk chainOk anchor selfSigned) s = .next ((s.arrived path).refuseCheck path x.number c)) ∧
      (∀ (a : Option Nat) (level dom : Nat), s.sessionGrant x chainOk anchor selfSigned = .ok (a, level, dom) →
        (s.sessionsFull (mailboxOf path) = true →
          exec (.finish path session signatureOk chainOk anchor selfSigned) s = .next ((s.arrived path).refuseLimit path x.number)) ∧
        (s.sessionsFull (mailboxOf path) = false →
          exec (.finish path session signatureOk chainOk anchor selfSigned) s = .next (State.sendAdp path x.number 3 5 0 0 99
            [level, dom, Config.freeValue 11 s.free]
            { (s.arrived path).setSession x.number (fun y => { y with
                halfOpen := false, anchor := a, level := level, domain := dom, lastBeat := s.ep.beat, unclaimed := a.isNone }) with
              free := s.free + 1 }))))) ∧
  (∀ (n : BitVec 32) (x : Session) (s : State), s.dieOn = true → x ∈ s.adp.sessions → x.number = n.toNat →
    (x.halfOpen = true → x.helloBeat + s.setting 0x1101 1 ≤ s.ep.beat → exec (.handshakeTimeout n) s = .next (s.endSession n.toNat)) ∧
    (x.halfOpen = false → x.lastBeat + s.setting 0x1101 2 ≤ s.ep.beat → exec (.idleTimeout n) s = .next (s.endSession n.toNat))) ∧
  (∀ (n : Nat) (s : State) (x : Session), x ∈ (s.endSession n).adp.sessions ↔ x ∈ s.adp.sessions ∧ x.number ≠ n)

/-- Messages of an ADP session. A message of another version is discarded; a failed tag is counted, and the sixteenth in a row
ends the session; a message that was accepted before is counted and gets the kept response again. A new message is acted on:
CLOSE ends the session, NOP and SUBSCRIBE answer, COMMIT acts as a write of its token, READ answers its items, and WRITE
performs all of its items or none; each response precedes the effect. Draws on R28, R645, R646, R654 to R661, R685. -/
def Obligations.AdpMessages : Prop :=
  (∀ (h : AdpHead) (s : State), s.adpListens h.path → h.version ≠ 1#8 →
    exec (.close h) s = .next (s.arrived h.path) ∧ exec (.nop h) s = .next (s.arrived h.path) ∧
    exec (.adpRead h []) s = .next (s.arrived h.path)) ∧
  (∀ (h : AdpHead) (x : Session) (s : State), s.adpListens h.path → h.version = 1#8 →
    s.openSessions.find? (fun y => decide (y.number = h.session ∧ y.mailbox = mailboxOf h.path)) = some x →
    (h.tagOk = false → x.tagFails < 15 → exec (.nop h) s = .next
      ((((s.arrived h.path).bump 0x1110 3).raise 418).setSession x.number (fun y => { y with tagFails := y.tagFails + 1 }))) ∧
    (h.tagOk = false → 15 ≤ x.tagFails → exec (.nop h) s = .next ((((s.arrived h.path).bump 0x1110 3).raise 418).endSession x.number)) ∧
    (h.tagOk = true → h.seq < 2 ^ 32 → x.isNew h.seq = false →
      (x.kept.find? (fun r => decide (r.seq = h.seq)) = none → exec (.nop h) s = .next ((s.arrived h.path).bump 0x1110 4)) ∧
      (∀ r, x.kept.find? (fun r => decide (r.seq = h.seq)) = some r → exec (.nop h) s = .next
        (((s.arrived h.path).bump 0x1110 4).sendAdp h.path x.number 1 r.op r.own r.ref r.len r.body)))) ∧
  (∀ (h : AdpHead) (x : Session) (s : State), s.adpNew h x →
    exec (.close h) s = .next ((s.adpTaken h x).endSession x.number) ∧
    (s.irq.moving.contains 0 = true →
      exec (.nop h) s = .next ((s.adpTaken h x).respond h (x.took h.seq s.ep.beat) 0x14 1 [1])) ∧
    (s.irq.moving.contains 0 = false → 1 ≤ x.level →
      (h.bodyOk = false → exec (.nop h) s = .next ((s.adpTaken h x).respond h (x.took h.seq s.ep.beat) 0x14 1 [7])) ∧
      (h.bodyOk = true → exec (.nop h) s = .next ((s.adpTaken h x).respond h (x.took h.seq s.ep.beat) 0x14 1 [0]) ∧
        (∀ mask : BitVec 32, s.starting = true →
          exec (.subscribe h mask) s = .next ((s.adpTaken h x).respond h (x.took h.seq s.ep.beat) 0x13 1 [1])) ∧
        (∀ mask : BitVec 32, s.starting = false →
          exec (.subscribe h mask) s = .next (((s.adpTaken h x).respond h (x.took h.seq s.ep.beat) 0x13 1 [0]).setSession x.number
            (fun y => { y with mask := if x.domain = 0 then mask.toNat % 32 else mask.toNat &&& 16 })))) ∧
      (∀ (token : BitVec 32) (cycle : Fin 256), x.level < 2 →
        exec (.adpCommit h token cycle) s = .next ((s.adpTaken h x).respond h (x.took h.seq s.ep.beat) 0x12 1 [4])) ∧
      (∀ (token : BitVec 32) (cycle : Fin 256), 2 ≤ x.level → h.bodyOk = true → x.unclaimed = false →
        statusOf (exec (.commitRequest token cycle) (s.adpTaken h x)) = 0 →
        exec (.adpCommit h token cycle) s = .next (settled ((s.adpTaken h x).respond h (x.took h.seq s.ep.beat) 0x12 1 [0])
          (exec (.commitRequest token cycle) ((s.adpTaken h x).respond h (x.took h.seq s.ep.beat) 0x12 1 [0])))) ∧
      (∀ (token : BitVec 32) (cycle : Fin 256) (c : Nat), 2 ≤ x.level → h.bodyOk = true →
        c = (if x.unclaimed = true then 4 else statusOf (exec (.commitRequest token cycle) (s.adpTaken h x))) → c ≠ 0 →
        exec (.adpCommit h token cycle) s = .next ((s.adpTaken h x).respond h (x.took h.seq s.ep.beat) 0x12 1 [c])) ∧
      (∀ items : List AdpItem, (∀ i ∈ items, i.wf = true) → h.bodyOk = true → 8 * items.length ≤ bodyLimit h.path →
        (((s.adpTaken h x).readItems (x.took h.seq s.ep.beat) items).2 ≤ bodyLimit h.path → exec (.adpRead h items) s =
          .next (((s.adpTaken h x).respond h (x.took h.seq s.ep.beat) 0x10 ((s.adpTaken h x).readItems (x.took h.seq s.ep.beat) items).2
            (0 :: ((s.adpTaken h x).readItems (x.took h.seq s.ep.beat) items).1)).ifDo (items.any readsConfig0) State.parityCheck)) ∧
        (bodyLimit h.path < ((s.adpTaken h x).readItems (x.took h.seq s.ep.beat) items).2 → exec (.adpRead h items) s =
          .next ((s.adpTaken h x).respond h (x.took h.seq s.ep.beat) 0x10 1 [8]))) ∧
      (∀ (items : List AdpItem) (cycle : Fin 256), (∀ i ∈ items, i.wf = true) → h.bodyOk = true →
        (items.map (fun i => 8 + padded i.len)).sum ≤ bodyLimit h.path →
        ((∀ i ∈ items, (s.adpTaken h x).sessionItem (x.took h.seq s.ep.beat) i cycle = 0) → exec (.adpWrite h items cycle) s =
          .next (((((s.adpTaken h x).respond h (x.took h.seq s.ep.beat) 0x11 (1 + 8 * items.length)
            (0 :: items.map (fun i => itemHeader i 0 i.code 0))).each items (State.writeItem (x.took h.seq s.ep.beat) cycle)).endThrough
              ((items.filter (fun i => decide (i.index = 0x1120))).map (·.sub))))) ∧
        (∀ i ∈ items, (s.adpTaken h x).sessionItem (x.took h.seq s.ep.beat) i cycle ≠ 0 → ∃ c, c ≠ 0 ∧ exec (.adpWrite h items cycle) s =
          .next ((s.adpTaken h x).respond h (x.took h.seq s.ep.beat) 0x11 (1 + 8 * items.length)
            (c :: items.map (fun i => itemHeader i ((s.adpTaken h x).sessionItem (x.took h.seq s.ep.beat) i cycle) i.code 0))))))) ∧
  (∀ (h : AdpHead) (x : Session) (items : List AdpItem) (cycle : Fin 256) (s : State), s.adpNew h x →
    ((∃ i ∈ items, i.wf = false) → exec (.adpRead h items) s = .next s ∧ exec (.adpWrite h items cycle) s = .next s) ∧
    ((∀ i ∈ items, i.wf = true) → s.irq.moving.contains 0 = true →
      exec (.adpRead h items) s = .next ((s.adpTaken h x).respond h (x.took h.seq s.ep.beat) 0x10 1 [1]) ∧
      exec (.adpWrite h items cycle) s = .next ((s.adpTaken h x).respond h (x.took h.seq s.ep.beat) 0x11 1 [1])) ∧
    ((∀ i ∈ items, i.wf = true) → s.irq.moving.contains 0 = false → h.bodyOk = false →
      exec (.adpRead h items) s = .next ((s.adpTaken h x).respond h (x.took h.seq s.ep.beat) 0x10 1 [7]) ∧
      exec (.adpWrite h items cycle) s = .next ((s.adpTaken h x).respond h (x.took h.seq s.ep.beat) 0x11 1 [7])))

/-- Segments, trust anchors, and writes of the entries without a row of their own. A write of an entry that cannot be written,
that does not exist, or that a session alone holds is refused with its status; a setting is staged for the boundary, or for the
next start, after its checks. Draws on R642, R643, R648, R649, R651, R674. -/
def Obligations.SegmentsAnchorsAndWrites : Prop :=
  (∀ (s : State), s.dieOn = true →
    exec (.addressConflict false) s = .next (({ s with adp := { s.adp with conflictA := true } } : State).raise 417) ∧
    exec (.addressConflict true) s = .next (({ s with adp := { s.adp with conflictB := true } } : State).raise 417) ∧
    exec (.segmentUp false) s = .next { s with adp := { s.adp with upA := true } } ∧
    exec (.segmentUp true) s = .next { s with adp := { s.adp with upB := true } } ∧
    (s.adp.upA = true → exec (.segmentDown false) s = .next (({ s with adp := { s.adp with upA := false } } : State).raise 421)) ∧
    (s.adp.upB = true → exec (.segmentDown true) s = .next (({ s with adp := { s.adp with upB := false } } : State).raise 422))) ∧
  (∀ (slot : Fin 64) (anchor : BitVec 800) (s : State), s.adpOpen = true →
    (s.anchorOk slot anchor.toNat = true → ∃ u : State, exec (.trustAnchorWrite slot anchor) s = .next u ∧
      u.adp.anchors = s.adp.anchors.put slot anchor.toNat ∧ u.out = .status 0 :: s.out ∧
      (∀ x ∈ u.adp.sessions, x ∈ s.adp.sessions ∧ x.anchor ≠ some slot.val)) ∧
    (s.anchorOk slot anchor.toNat = false → exec (.trustAnchorWrite slot anchor) s = .next (s.answer 2))) ∧
  (∀ (i : BitVec 16) (j : BitVec 8) (v : Nat) (cycle : Fin 256) (s : State), s.adpUp = true →
    (Dict.find i.toNat j.toNat = none → exec (.registerWrite (.entry i j v) cycle) s = .next (s.answer 3)) ∧
    (∀ r, Dict.find i.toNat j.toNat = some r →
      (s.namesObject r i.toNat = false → exec (.registerWrite (.entry i j v) cycle) s = .next (s.answer 3)) ∧
      (s.namesObject r i.toNat = true → r.kind = .report → exec (.registerWrite (.entry i j v) cycle) s = .next (s.answer 6)) ∧
      (s.namesObject r i.toNat = true → r.kind ≠ .report → i.toNat ≠ 0x10F0 → s.valueStatus r i.toNat j.toNat v cycle = 0 →
        r.silent i.toNat j.toNat v = false →
        exec (.registerWrite (.entry i j v) cycle) s = .next ((s.writeEntry r i.toNat j.toNat v cycle).answer 0)) ∧
      (s.namesObject r i.toNat = true → r.kind ≠ .report → i.toNat = 0x10F0 → exec (.registerWrite (.entry i j v) cycle) s = .next (s.answer 4)) ∧
      (s.namesObject r i.toNat = true → r.kind ≠ .report → i.toNat ≠ 0x10F0 → s.valueStatus r i.toNat j.toNat v cycle = 0 →
        r.silent i.toNat j.toNat v = true → exec (.registerWrite (.entry i j v) cycle) s = .next (s.answer 0)) ∧
      (s.namesObject r i.toNat = true → r.kind ≠ .report → i.toNat ≠ 0x10F0 → s.valueStatus r i.toNat j.toNat v cycle ≠ 0 →
        exec (.registerWrite (.entry i j v) cycle) s = .next (s.answer (s.valueStatus r i.toNat j.toNat v cycle))))) ∧
  (∀ (w : RegWrite) (cycle : Fin 256) (s : State), s.dieOn = true →
    (∀ v reg, w = .host v reg → (s.running = true → exec (.registerWrite w cycle) s = .next (s.writeHost v reg)) ∧
      (s.running = false → exec (.registerWrite w cycle) s = .next s)) ∧
    (∀ k word value, w = .irqEnable k word value → exec (.registerWrite w cycle) s = .next (s.writeEnable k word value)) ∧
    (∀ n v, w = .config n v → exec (.registerWrite w cycle) s = .next (s.writeConfig n v.toNat)) ∧
    (∀ n v, w = .status n v → exec (.registerWrite w cycle) s =
      .next (if v.getLsbD 15 then s.setSource n (fun e => { e with clearOwed := true }) else s)) ∧
    (∀ v, w = .force v → exec (.registerWrite w cycle) s = .next (s.raise (v.toNat % 1024))) ∧
    (w = .ignored → exec (.registerWrite w cycle) s = .next s)) ∧
  (∀ (r : EntryRow) (i j v : Nat) (cycle : Fin 256) (s : State), r.kind = .staged →
    s.writeEntry r i j v cycle = { s with ep := { s.ep with shadow := s.ep.shadow.put (key i j) v } })

/-- What a link partner does: it returns credit, sends training sets, leaves L1, or begins again after the quiet state. Draws
on R147, R148, R159, R193, R196, R212, R342. -/
def Obligations.PartnersOfALink : Prop :=
  (∀ (port : Fin 160) (cls : Fin 4) (headers data : Nat) (s : State), s.running = true → s.portRole port = 1 ∨ s.portRole port = 2 →
    (s.port port).stage = 5 → ∃ u : State, exec (.partnerCreditReturn port cls ⟨headers, data⟩) s = .next u ∧
      (u.port port).creditHeaders.look cls 0 = (s.port port).creditHeaders.look cls 0 + headers ∧
      (u.port port).creditData.look cls 0 = (s.port port).creditData.look cls 0 + data ∧
      (∀ c, c ≠ cls.val → (u.port port).creditData.look c 0 = (s.port port).creditData.look c 0) ∧
      (∀ c, c ≠ cls.val → (u.port port).creditHeaders.look c 0 = (s.port port).creditHeaders.look c 0) ∧
      (∀ q, q ≠ port.val → u.port q = s.port q) ∧ u.lanes = s.lanes ∧ u.core = s.core) ∧
  (∀ (port : Fin 160) (stage : Fin 5) (unused inverted : BitVec 16) (eq : Option (Fin 16 × PcieEq)) (gone : List Nat) (s u : State),
    s.running = true → s.portRole port = 1 ∨ s.portRole port = 2 → 1 ≤ (s.port port).stage →
    u = (if stage.val = 4 then s.equalizeLane port eq else s) →
    gone = ((u.lanesOf port).filter (fun l => unused.toNat.testBit (l - (u.portLanes u.ep.live port).1) &&
      decide (((u.enterRecovery port).lane l).state = 4))) →
    (stage.val = 1 → s.linkActive port = true → exec (.trainingSetReceived port stage unused ⟨inverted, eq⟩) s = .next (s.portDown port 4)) ∧
    (stage.val = 1 → s.linkActive port = false → exec (.trainingSetReceived port stage unused ⟨inverted, eq⟩) s = .next (s.toStage port 1)) ∧
    (2 ≤ stage.val → (u.port port).stage = 5 → gone = [] → stage.val ≠ 3 →
      exec (.trainingSetReceived port stage unused ⟨inverted, eq⟩) s = .next (u.enterRecovery port)) ∧
    (stage.val = 3 → (u.port port).stage = 5 → gone = [] →
      exec (.trainingSetReceived port stage unused ⟨inverted, eq⟩) s = .next ((u.enterRecovery port).toStage port 3)) ∧
    (2 ≤ stage.val → (u.port port).stage = 5 → gone ≠ [] → exec (.trainingSetReceived port stage unused ⟨inverted, eq⟩) s =
      .next ((u.enterRecovery port).each gone (fun l s => if (s.lane l).usable = true then s.laneFail l 5 else s))) ∧
    (2 ≤ stage.val → (u.port port).stage ≠ 5 → ∃ v : State,
      v = (if s.linkActive port = true ∧ (u.port port).stage = 3 then u else u.toStage port stage) ∧
      exec (.trainingSetReceived port stage unused ⟨inverted, eq⟩) s = .next (v.each (u.lanesOf port) (fun l y => y.setLane l (fun x =>
        if stage.val = 3 ∧ x.state = 3 ∧ s.linkActive port = false then
          { x with polarity := inverted.toNat.testBit (l - (y.portLanes y.ep.live port).1) } else x))))) ∧
  (∀ (port : Fin 160) (s : State), s.running = true →
    ((s.port port).power = .l1 ∨ (s.port port).power = .l11 ∨ (s.port port).power = .l12 → ∃ u : State, exec (.l1Exit port) s = .next u ∧
      (u.port port).power = .l0 ∧ (u.port port).idleSince = s.ep.beat ∧ (u.port port).txWidth = (s.port port).width ∧ (∀ q, q ≠ port.val → u.port q = s.port q) ∧
      (∀ l ∈ s.lanesOf port, (s.lane l).state = 5 → (u.lane l).tx = .on ∧ (u.lane l).rx = .on) ∧ u.core = s.core) ∧
    ((s.port port).power = .l0 → exec (.l1Exit port) s = .next s)) ∧
  (∀ (port : Fin 160) (s : State), s.running = true → s.portRole port = 3 → (s.trunk port).quietRx = true →
    ∃ u : State, exec (.invertedMarker port) s = .next u ∧ u.trunk port = { s.trunk port with quietRx := false } ∧
      (∀ l ∈ s.lanesInUse port, (u.lane l).rx = .on ∧ (u.lane l).lastRx = 0) ∧ (∀ l, l ∉ s.lanesInUse port → u.lane l = s.lane l) ∧
      (∀ p, p ≠ port.val → u.trunk p = s.trunk p) ∧ u.core = s.core ∧ u.out = s.out)

/-- The end of a save of the stored configuration, which takes the place of the older or of a bad copy; and an event of a
member device, which is relayed to the endpoints that hold the address, in their own addresses. Draws on R120, R121, R677,
R381. -/
def Obligations.SavesAndDeviceEvents : Prop :=
  (∀ (ok : Bool) (s : State), s.dieOn = true → s.start.storeStatus = 1 → ∃ (u : State) (c : StoredCopy),
    exec (.storeSaveDone ok) s = .next u ∧ u.start.storeStatus = (if ok then 2 else 3) ∧
    c.crcOk = ok ∧ c.entries = s.savedConfig ∧
    (s.start.copyA.crcOk = true → s.start.copyB.crcOk = true →
      c.generation = (max s.start.copyA.generation s.start.copyB.generation + 1) % 2 ^ 32) ∧
    (s.start.copyA.crcOk = false ∨ s.start.copyB.crcOk = true ∧ s.start.copyA.generation < s.start.copyB.generation →
      u.start.copyA = c ∧ u.start.copyB = s.start.copyB) ∧
    (s.start.copyA.crcOk = true → s.start.copyB.crcOk = false ∨ s.start.copyB.generation ≤ s.start.copyA.generation →
      u.start.copyA = s.start.copyA ∧ u.start.copyB = c) ∧ u.settings = s.settings ∧ u.ep = s.ep) ∧
  (∀ (d : Fin 256) (dpa : BitVec 64) (body : BitVec 512) (s : State), s.running = true → s.devReady d = true →
    ∃ u : State, exec (.deviceEventRecord d ⟨dpa, body⟩) s = .next u ∧ OnlyChanges [.poolEvents] s u ∧
      (∀ (e : Nat), (∀ x ∈ extentsUsed s.ep.live, d.val ∈ x.2.members → x.2.devBase * unitBytes ≤ dpa.toNat →
          dpa.toNat < (x.2.devBase + x.2.devSize) * unitBytes → (x.2.use = 1 → x.2.owner ≠ e) ∧
          (x.2.use ≠ 1 → ∀ y ∈ endpoints s.ep.live, y.1 = e → y.2.kind ≠ 2 ∨ y.2.region ≠ x.2.owner)) →
        u.pool.events.look e [] = s.pool.events.look e []) ∧
      (∀ (n : Nat) (x : Ext) (i : Nat), extentsUsed s.ep.live = [(n, x)] → x.use = 1 →
        x.members.findIdx? (fun m => decide (m = d.val)) = some i → x.devBase * unitBytes ≤ dpa.toNat →
        dpa.toNat < (x.devBase + x.devSize) * unitBytes → u = s.postEvent x.owner 0 (x.encode i dpa.toNat) body.toNat))

/-- A step performs the command at the front of the queue with the queue's rest, and the block idles on an empty queue. That a
command waits in a queue, and that the block idles on an empty one, is the model's form (log entry 2). The command table gives
no row bits, so no word spells a command. -/
def Obligations.StepRunsTheFrontCommand : Prop :=
  (∀ (c : Instr) (rest : List Instr) (s : State), step { s with pending := c :: rest } = exec c { s with pending := rest }) ∧
  (∀ (s : State), s.pending = [] → step s = .next s) ∧
  (∀ (s : State) (nbits w : Nat), decodeTableWord nbits w = none ∧ s.withFetchWord nbits w = s)

/-- The frame of every command: it changes only the parts of the state that its list in Sys2Proof/Safety.lean names, and keeps
every other part as it was. None changes the queue, so that a step takes its front and adds nothing, and the command behind it
runs next: first in, first out (log entry 2). -/
def Obligations.EveryCommandChangesOnlyItsParts : Prop :=
  (∀ (c : Instr) (s t : State), exec c s = .next t → OnlyChanges (touches c) s t) ∧
  (∀ (c d : Instr) (rest : List Instr) (s t : State), s.pending = c :: d :: rest → step s = .next t →
    t.pending = d :: rest ∧ step t = exec d { t with pending := rest })

/-- Every command has a next state, in every state: no command meets a fault or a refusal. One whose data are out of the range
of its format has not arrived, and changes nothing: a format's ranges are the model's way to hold its fields (log entry 7). -/
def Obligations.EveryCommandHasANextState : Prop :=
  (∀ (c : Instr) (s : State), ∃ t, exec c s = .next t) ∧
  (∀ (c : Instr) (s : State), operandsWf c = false → exec c s = .next s)

/-- While the module answers ADP but does not perform requests, every write of a command entry is answered busy and has no
other effect; and where it does not answer ADP, the write has no effect at all. Draws on R129, R130, R560, R600, R663. -/
def Obligations.CommandEntriesWaitForService : Prop :=
  ∀ (c : Instr) (s : State), commandEntry c = true →
    (s.adpUp = true → s.adpOpen = false → exec c s = .next { s with out := .status 1 :: s.out }) ∧
    (s.adpUp = false → exec c s = .next s)

/-- The beat counter goes up by one at each beat boundary of a die with power, and is zero when the data path is released at
the end of a start; nothing else changes it but a start, which clears it before that (a boundary that ends in a start as well).
It is a number without a greatest one, so it never wraps. Draws on R14. -/
def Obligations.BeatCounterCounts : Prop :=
  (∀ s : State, s.dieOn = true → ∃ t, exec .beatBoundary s = .next t ∧
    (t.ep.beat = s.ep.beat + 1 ∨ t.ep.beat = 0 ∧ t.start.phase = .warm)) ∧
  (∀ (ms : BitVec 32) (s t : State), s.inPhase .release = true → exec (.dataPathRelease ms) s = .next t → t.ep.beat = 0) ∧
  (∀ (c : Instr) (s t : State), exec c s = .next t → c ≠ .beatBoundary → t.ep.beat = s.ep.beat ∨ t.ep.beat = 0) ∧
  (∀ (s : State), s.dieOn = false → exec .beatBoundary s = .next s)

/-- The current epoch is live, and each superseded one while its tables are retained; at most three are live at once, the
current one and up to two superseded ones. Every step keeps this. Draws on R22. -/
def Obligations.EpochBoundKept : Prop :=
  ∀ (s t : State), s.EpochsBounded → step s = .next t →
    t.EpochsBounded ∧ t.ep.epoch ∈ t.liveEpochs ∧ (∀ e ∈ t.ep.superseded, e.count ∈ t.liveEpochs) ∧ t.liveEpochs.length ≤ 3

/-- The power states fit together, and every step keeps this. Draws on R78, R86, R96, R599. -/
def Obligations.PowerStatesKept : Prop :=
  ∀ (s t : State), s.PowerLegal → step s = .next t → t.PowerLegal

/-- No command but a start or the loss of power ends safe state. Draws on R599, R601. -/
def Obligations.SafeStateIsLeftByAStart : Prop :=
  ∀ (c : Instr) (s t : State), s.PowerLegal → s.col.safe = true → exec c s = .next t →
    t.col.safe = true ∨ t.sup.gate = .off ∨ t.start.phase = .cold

/-- In safe state nothing is sent on a link and no memory is accessed. Whatever command comes, while the module stays in safe
state, what it sends out is an answer or message of ADP, the value of a register read, or the cut that ends a frame. Draws on
R599. -/
def Obligations.SafeStateIsSilent : Prop :=
  ∀ (c : Instr) (s t : State), s.col.safe = true → exec c s = .next t →
    ∃ l, SentSince s t l ∧ ∀ o ∈ l, o.leaves = false

/-- The module right after reset. It is without power: the beat counter and the epoch count are zero, no commit waits, the gate
is off, every lane and port is off, nothing is in the buffer, the tracker or the ledger, no queue pair or instance is set up,
no fault is recorded, the module is single, no session is open, and no command waits; so the invariants hold. Draws on R14,
R21, R28, R78, R147, R155, R436, R501, R583, R599, R613, R647. -/
def Obligations.ResetState : Prop :=
  (State.reset.ep.beat = 0 ∧ State.reset.ep.epoch = 0 ∧ State.reset.ep.superseded = [] ∧ State.reset.ep.commit = .idle ∧
    State.reset.sup.state = .unpowered ∧ State.reset.sup.gate = .off ∧ State.reset.sup.latched = false) ∧
  (∀ l, (State.reset.lane l).state = 0 ∧ (State.reset.lane l).tx = .off ∧ (State.reset.lane l).rx = .off) ∧
  (∀ p, (State.reset.port p).state = 0 ∧ (State.reset.port p).stage = 0) ∧
  (State.reset.core.frames = [] ∧ State.reset.fab.track = [] ∧ State.reset.home.entries = [] ∧ State.reset.pool.extents = []) ∧
  (∀ q, (State.reset.qp q).state = .reset) ∧ (∀ i, (State.reset.inst i).state = 0) ∧
  (State.reset.col.safe = false ∧ ∀ n, (State.reset.source n).sticky = false) ∧
  (State.reset.twin.state = .single ∧ State.reset.adp.sessions = [] ∧ State.reset.pending = []) ∧
  State.reset.EpochsBounded ∧ State.reset.PowerLegal

end
end

