-- ==== Sys2Proof/Laws/Parts.lean ====
section
/-!
SUPPORT. How OnlyChanges composes: it is reflexive and transitive, a field update changes the part that holds the field, and
the outcome combinators and State.each change what their operation changes. Every lemma has the form that apply wants: from
what changed before, and the fact that the operation's parts are among ps, to what has changed after.
-/

namespace Sys2Proof.Machine

theorem Part.same_refl (p : Part) (s : State) : p.same s s := by
  cases p <;> simp [Part.same]
theorem Part.same_trans (p : Part) (s t u : State) (h : p.same s t) (k : p.same t u) : p.same s u := by
  cases p <;> simp_all [Part.same]
/-- Parts of one list are parts of another. -/
def within (a b : List Part) : Bool := a.all (fun p => b.contains p)
theorem within_trans {a b c : List Part} (h : within a b = true) (k : within b c = true) : within a c = true := by
  simp only [within, List.all_eq_true, List.contains_iff_mem] at *
  exact fun p hp => k p (h p hp)
theorem OnlyChanges.refl (l : List Part) (s : State) : OnlyChanges l s s := fun p _ => p.same_refl s
theorem OnlyChanges.mem {a b : List Part} {p : Part} (h : within a b = true) (hp : p ∉ b) (hm : a.contains p = true) : False := by
  simp only [within, List.all_eq_true, List.contains_iff_mem] at *
  exact hp (h p hm)
theorem OnlyChanges.trans {l : List Part} {s t u : State} (h : OnlyChanges l s t) (k : OnlyChanges l t u) : OnlyChanges l s u :=
  fun p hp => p.same_trans s t u (h p hp) (k p hp)
theorem OnlyChanges.update {l : List Part} {s0 t : State} {a1 a2 a3 a4 a5 a6 a7 a8 a9 a10 a11 a12 a13 a14 a15 a16 a17 a18 a19 a20 a21 a22 a23 a24 a25 a26}
    (h : OnlyChanges l s0 t) (hk : ∀ p, p ∉ l → p.same t (State.mk a1 a2 a3 a4 a5 a6 a7 a8 a9 a10 a11 a12 a13 a14 a15 a16 a17 a18 a19 a20 a21 a22 a23 a24 a25 a26 t.pending)) :
    OnlyChanges l s0 (State.mk a1 a2 a3 a4 a5 a6 a7 a8 a9 a10 a11 a12 a13 a14 a15 a16 a17 a18 a19 a20 a21 a22 a23 a24 a25 a26 t.pending) :=
  h.trans hk
theorem State.each_only {α : Type} (xs : List α) (f : α → State → State) (s : State) {l : List Part} {s0 : State} (h : OnlyChanges l s0 s)
    (hf : ∀ x s1, OnlyChanges l s0 s1 → OnlyChanges l s0 (f x s1)) : OnlyChanges l s0 (State.each xs f s) := by
  unfold State.each
  induction xs generalizing s with
  | nil => exact h
  | cons a xs ih => exact ih _ (hf a s h)

theorem guarded_next {c : Bool} {f : State → State} {s t : State} (h : guarded c f s = .next t) : t = if c then f s else s := by
  unfold guarded at h; injection h with h; exact h.symm
theorem guarded_only (c : Bool) (f : State → State) (s : State) {ps : List Part} {s0_ : State} (hO : OnlyChanges ps s0_ s) (_hW : within [] ps = true)
    (h_f : ∀ s_, OnlyChanges ps s0_ s_ → OnlyChanges ps s0_ (f s_)) : ∀ t_, guarded c f s = .next t_ → OnlyChanges ps s0_ t_ := by
  intro t h
  rw [guarded_next h]
  split
  · exact h_f s hO
  · exact hO

theorem State.beat_update {s s0 : State} {ps : List Part} (h : OnlyChanges ps s0 s) (hW : within [.beat] ps = true) {x0} : OnlyChanges ps s0 { s with ep := { s.ep with beat := x0 } } :=
  h.trans (fun p hp => by cases p <;> first | exact (OnlyChanges.mem hW hp rfl).elim | exact rfl | (and_intros <;> exact rfl))
theorem State.epochs_update {s s0 : State} {ps : List Part} (h : OnlyChanges ps s0 s) (hW : within [.epochs] ps = true) {x0 x1} : OnlyChanges ps s0 { s with ep := { s.ep with epoch := x0, superseded := x1 } } :=
  h.trans (fun p hp => by cases p <;> first | exact (OnlyChanges.mem hW hp rfl).elim | exact rfl | (and_intros <;> exact rfl))
theorem State.inflight_update {s s0 : State} {ps : List Part} (h : OnlyChanges ps s0 s) (hW : within [.inflight] ps = true) {x0} : OnlyChanges ps s0 { s with ep := { s.ep with inflight := x0 } } :=
  h.trans (fun p hp => by cases p <;> first | exact (OnlyChanges.mem hW hp rfl).elim | exact rfl | (and_intros <;> exact rfl))
theorem State.commit_update {s s0 : State} {ps : List Part} (h : OnlyChanges ps s0 s) (hW : within [.commit] ps = true) {x0 x1 x2 x3 x4 x5 x6} : OnlyChanges ps s0 { s with ep := { s.ep with commit := x0, token := x1, due := x2, lastToken := x3, lastEpoch := x4, lastBeat := x5, deferrals := x6 } } :=
  h.trans (fun p hp => by cases p <;> first | exact (OnlyChanges.mem hW hp rfl).elim | exact rfl | (and_intros <;> exact rfl))
theorem State.tables_update {s s0 : State} {ps : List Part} (h : OnlyChanges ps s0 s) (hW : within [.tables] ps = true) {x0 x1} : OnlyChanges ps s0 { s with ep := { s.ep with live := x0, shadow := x1 } } :=
  h.trans (fun p hp => by cases p <;> first | exact (OnlyChanges.mem hW hp rfl).elim | exact rfl | (and_intros <;> exact rfl))
theorem State.groups_update {s s0 : State} {ps : List Part} (h : OnlyChanges ps s0 s) (hW : within [.groups] ps = true) {x0} : OnlyChanges ps s0 { s with groups := x0 } :=
  h.trans (fun p hp => by cases p <;> first | exact (OnlyChanges.mem hW hp rfl).elim | exact rfl | (and_intros <;> exact rfl))
theorem State.board_update {s s0 : State} {ps : List Part} (h : OnlyChanges ps s0 s) (hW : within [.board] ps = true) {x0} : OnlyChanges ps s0 { s with board := x0 } :=
  h.trans (fun p hp => by cases p <;> first | exact (OnlyChanges.mem hW hp rfl).elim | exact rfl | (and_intros <;> exact rfl))
theorem State.sup_update {s s0 : State} {ps : List Part} (h : OnlyChanges ps s0 s) (hW : within [.sup] ps = true) {x0} : OnlyChanges ps s0 { s with sup := x0 } :=
  h.trans (fun p hp => by cases p <;> first | exact (OnlyChanges.mem hW hp rfl).elim | exact rfl | (and_intros <;> exact rfl))
theorem State.start_update {s s0 : State} {ps : List Part} (h : OnlyChanges ps s0 s) (hW : within [.start] ps = true) {x0} : OnlyChanges ps s0 { s with start := x0 } :=
  h.trans (fun p hp => by cases p <;> first | exact (OnlyChanges.mem hW hp rfl).elim | exact rfl | (and_intros <;> exact rfl))
theorem State.lanes_update {s s0 : State} {ps : List Part} (h : OnlyChanges ps s0 s) (hW : within [.lanes] ps = true) {x0} : OnlyChanges ps s0 { s with lanes := x0 } :=
  h.trans (fun p hp => by cases p <;> first | exact (OnlyChanges.mem hW hp rfl).elim | exact rfl | (and_intros <;> exact rfl))
theorem State.ports_update {s s0 : State} {ps : List Part} (h : OnlyChanges ps s0 s) (hW : within [.ports] ps = true) {x0} : OnlyChanges ps s0 { s with ports := x0 } :=
  h.trans (fun p hp => by cases p <;> first | exact (OnlyChanges.mem hW hp rfl).elim | exact rfl | (and_intros <;> exact rfl))
theorem State.scans_update {s s0 : State} {ps : List Part} (h : OnlyChanges ps s0 s) (hW : within [.scans] ps = true) {x0} : OnlyChanges ps s0 { s with scans := x0 } :=
  h.trans (fun p hp => by cases p <;> first | exact (OnlyChanges.mem hW hp rfl).elim | exact rfl | (and_intros <;> exact rfl))
theorem State.frames_update {s s0 : State} {ps : List Part} (h : OnlyChanges ps s0 s) (hW : within [.frames] ps = true) {x0 x1 x2} : OnlyChanges ps s0 { s with core := { s.core with frames := x0, nextId := x1, nextBank := x2 } } :=
  h.trans (fun p hp => by cases p <;> first | exact (OnlyChanges.mem hW hp rfl).elim | exact rfl | (and_intros <;> exact rfl))
theorem State.units_update {s s0 : State} {ps : List Part} (h : OnlyChanges ps s0 s) (hW : within [.units] ps = true) {x0 x1 x2 x3} : OnlyChanges ps s0 { s with core := { s.core with bankState := x0, attachRetired := x1, attachPending := x2, internalAt := x3 } } :=
  h.trans (fun p hp => by cases p <;> first | exact (OnlyChanges.mem hW hp rfl).elim | exact rfl | (and_intros <;> exact rfl))
theorem State.matcher_update {s s0 : State} {ps : List Part} (h : OnlyChanges ps s0 s) (hW : within [.matcher] ps = true) {x0 x1 x2} : OnlyChanges ps s0 { s with core := { s.core with suspended := x0, pointers := x1, xmit := x2 } } :=
  h.trans (fun p hp => by cases p <;> first | exact (OnlyChanges.mem hW hp rfl).elim | exact rfl | (and_intros <;> exact rfl))
theorem State.paths_update {s s0 : State} {ps : List Part} (h : OnlyChanges ps s0 s) (hW : within [.paths] ps = true) {x0 x1} : OnlyChanges ps s0 { s with core := { s.core with buckets := x0, pathFailed := x1 } } :=
  h.trans (fun p hp => by cases p <;> first | exact (OnlyChanges.mem hW hp rfl).elim | exact rfl | (and_intros <;> exact rfl))
theorem State.hiers_update {s s0 : State} {ps : List Part} (h : OnlyChanges ps s0 s) (hW : within [.hiers] ps = true) {x0} : OnlyChanges ps s0 { s with fab := { s.fab with hiers := x0 } } :=
  h.trans (fun p hp => by cases p <;> first | exact (OnlyChanges.mem hW hp rfl).elim | exact rfl | (and_intros <;> exact rfl))
theorem State.bridges_update {s s0 : State} {ps : List Part} (h : OnlyChanges ps s0 s) (hW : within [.bridges] ps = true) {x0} : OnlyChanges ps s0 { s with fab := { s.fab with bridges := x0 } } :=
  h.trans (fun p hp => by cases p <;> first | exact (OnlyChanges.mem hW hp rfl).elim | exact rfl | (and_intros <;> exact rfl))
theorem State.slots_update {s s0 : State} {ps : List Part} (h : OnlyChanges ps s0 s) (hW : within [.slots] ps = true) {x0} : OnlyChanges ps s0 { s with fab := { s.fab with slots := x0 } } :=
  h.trans (fun p hp => by cases p <;> first | exact (OnlyChanges.mem hW hp rfl).elim | exact rfl | (and_intros <;> exact rfl))
theorem State.tracker_update {s s0 : State} {ps : List Part} (h : OnlyChanges ps s0 s) (hW : within [.tracker] ps = true) {x0 x1 x2 x3 x4} : OnlyChanges ps s0 { s with fab := { s.fab with track := x0, nextIndex := x1, waiting := x2, turn := x3, holds := x4 } } :=
  h.trans (fun p hp => by cases p <;> first | exact (OnlyChanges.mem hW hp rfl).elim | exact rfl | (and_intros <;> exact rfl))
theorem State.channels_update {s s0 : State} {ps : List Part} (h : OnlyChanges ps s0 s) (hW : within [.channels] ps = true) {x0} : OnlyChanges ps s0 { s with fab := { s.fab with channels := x0 } } :=
  h.trans (fun p hp => by cases p <;> first | exact (OnlyChanges.mem hW hp rfl).elim | exact rfl | (and_intros <;> exact rfl))
theorem State.pwf_update {s s0 : State} {ps : List Part} (h : OnlyChanges ps s0 s) (hW : within [.pwf] ps = true) {x0} : OnlyChanges ps s0 { s with fab := { s.fab with pwfRecent := x0 } } :=
  h.trans (fun p hp => by cases p <;> first | exact (OnlyChanges.mem hW hp rfl).elim | exact rfl | (and_intros <;> exact rfl))
theorem State.trunks_update {s s0 : State} {ps : List Part} (h : OnlyChanges ps s0 s) (hW : within [.trunks] ps = true) {x0} : OnlyChanges ps s0 { s with trunks := x0 } :=
  h.trans (fun p hp => by cases p <;> first | exact (OnlyChanges.mem hW hp rfl).elim | exact rfl | (and_intros <;> exact rfl))
theorem State.devices_update {s s0 : State} {ps : List Part} (h : OnlyChanges ps s0 s) (hW : within [.devices] ps = true) {x0} : OnlyChanges ps s0 { s with pool := { s.pool with devices := x0 } } :=
  h.trans (fun p hp => by cases p <;> first | exact (OnlyChanges.mem hW hp rfl).elim | exact rfl | (and_intros <;> exact rfl))
theorem State.extents_update {s s0 : State} {ps : List Part} (h : OnlyChanges ps s0 s) (hW : within [.extents] ps = true) {x0 x1} : OnlyChanges ps s0 { s with pool := { s.pool with extents := x0, hidden := x1 } } :=
  h.trans (fun p hp => by cases p <;> first | exact (OnlyChanges.mem hW hp rfl).elim | exact rfl | (and_intros <;> exact rfl))
theorem State.poolLines_update {s s0 : State} {ps : List Part} (h : OnlyChanges ps s0 s) (hW : within [.poolLines] ps = true) {x0} : OnlyChanges ps s0 { s with pool := { s.pool with lines := x0 } } :=
  h.trans (fun p hp => by cases p <;> first | exact (OnlyChanges.mem hW hp rfl).elim | exact rfl | (and_intros <;> exact rfl))
theorem State.poolEvents_update {s s0 : State} {ps : List Part} (h : OnlyChanges ps s0 s) (hW : within [.poolEvents] ps = true) {x0 x1 x2} : OnlyChanges ps s0 { s with pool := { s.pool with events := x0, nextHandle := x1, epCfg := x2 } } :=
  h.trans (fun p hp => by cases p <;> first | exact (OnlyChanges.mem hW hp rfl).elim | exact rfl | (and_intros <;> exact rfl))
theorem State.ledger_update {s s0 : State} {ps : List Part} (h : OnlyChanges ps s0 s) (hW : within [.ledger] ps = true) {x0 x1 x2} : OnlyChanges ps s0 { s with home := { s.home with entries := x0, bankState := x1, scrubAt := x2 } } :=
  h.trans (fun p hp => by cases p <;> first | exact (OnlyChanges.mem hW hp rfl).elim | exact rfl | (and_intros <;> exact rfl))
theorem State.homeSlots_update {s s0 : State} {ps : List Part} (h : OnlyChanges ps s0 s) (hW : within [.homeSlots] ps = true) {x0 x1 x2} : OnlyChanges ps s0 { s with home := { s.home with slots := x0, allocs := x1, ring := x2 } } :=
  h.trans (fun p hp => by cases p <;> first | exact (OnlyChanges.mem hW hp rfl).elim | exact rfl | (and_intros <;> exact rfl))
theorem State.departed_update {s s0 : State} {ps : List Part} (h : OnlyChanges ps s0 s) (hW : within [.departed] ps = true) {x0 x1} : OnlyChanges ps s0 { s with home := { s.home with departed := x0, timedOut := x1 } } :=
  h.trans (fun p hp => by cases p <;> first | exact (OnlyChanges.mem hW hp rfl).elim | exact rfl | (and_intros <;> exact rfl))
theorem State.qps_update {s s0 : State} {ps : List Part} (h : OnlyChanges ps s0 s) (hW : within [.qps] ps = true) {x0 x1 x2} : OnlyChanges ps s0 { s with beryl := { s.beryl with qps := x0, changed := x1, useClock := x2 } } :=
  h.trans (fun p hp => by cases p <;> first | exact (OnlyChanges.mem hW hp rfl).elim | exact rfl | (and_intros <;> exact rfl))
theorem State.cqs_update {s s0 : State} {ps : List Part} (h : OnlyChanges ps s0 s) (hW : within [.cqs] ps = true) {x0} : OnlyChanges ps s0 { s with beryl := { s.beryl with cqs := x0 } } :=
  h.trans (fun p hp => by cases p <;> first | exact (OnlyChanges.mem hW hp rfl).elim | exact rfl | (and_intros <;> exact rfl))
theorem State.regions_update {s s0 : State} {ps : List Part} (h : OnlyChanges ps s0 s) (hW : within [.regions] ps = true) {x0} : OnlyChanges ps s0 { s with beryl := { s.beryl with regions := x0 } } :=
  h.trans (fun p hp => by cases p <;> first | exact (OnlyChanges.mem hW hp rfl).elim | exact rfl | (and_intros <;> exact rfl))
theorem State.clusters_update {s s0 : State} {ps : List Part} (h : OnlyChanges ps s0 s) (hW : within [.clusters] ps = true) {x0 x1} : OnlyChanges ps s0 { s with beryl := { s.beryl with clusterRetired := x0, clusterPending := x1 } } :=
  h.trans (fun p hp => by cases p <;> first | exact (OnlyChanges.mem hW hp rfl).elim | exact rfl | (and_intros <;> exact rfl))
theorem State.funcs_update {s s0 : State} {ps : List Part} (h : OnlyChanges ps s0 s) (hW : within [.funcs] ps = true) {x0} : OnlyChanges ps s0 { s with host := { s.host with funcs := x0 } } :=
  h.trans (fun p hp => by cases p <;> first | exact (OnlyChanges.mem hW hp rfl).elim | exact rfl | (and_intros <;> exact rfl))
theorem State.vectors_update {s s0 : State} {ps : List Part} (h : OnlyChanges ps s0 s) (hW : within [.vectors] ps = true) {x0 x1} : OnlyChanges ps s0 { s with host := { s.host with fnVectors := x0, storeVectors := x1 } } :=
  h.trans (fun p hp => by cases p <;> first | exact (OnlyChanges.mem hW hp rfl).elim | exact rfl | (and_intros <;> exact rfl))
theorem State.instances_update {s s0 : State} {ps : List Part} (h : OnlyChanges ps s0 s) (hW : within [.instances] ps = true) {x0} : OnlyChanges ps s0 { s with host := { s.host with instances := x0 } } :=
  h.trans (fun p hp => by cases p <;> first | exact (OnlyChanges.mem hW hp rfl).elim | exact rfl | (and_intros <;> exact rfl))
theorem State.cmdOrder_update {s s0 : State} {ps : List Part} (h : OnlyChanges ps s0 s) (hW : within [.cmdOrder] ps = true) {x0} : OnlyChanges ps s0 { s with host := { s.host with cmdOrder := x0 } } :=
  h.trans (fun p hp => by cases p <;> first | exact (OnlyChanges.mem hW hp rfl).elim | exact rfl | (and_intros <;> exact rfl))
theorem State.contained_update {s s0 : State} {ps : List Part} (h : OnlyChanges ps s0 s) (hW : within [.contained] ps = true) {x0 x1} : OnlyChanges ps s0 { s with host := { s.host with contained := x0, containPending := x1 } } :=
  h.trans (fun p hp => by cases p <;> first | exact (OnlyChanges.mem hW hp rfl).elim | exact rfl | (and_intros <;> exact rfl))
theorem State.masterWait_update {s s0 : State} {ps : List Part} (h : OnlyChanges ps s0 s) (hW : within [.masterWait] ps = true) {x0} : OnlyChanges ps s0 { s with host := { s.host with masterWait := x0 } } :=
  h.trans (fun p hp => by cases p <;> first | exact (OnlyChanges.mem hW hp rfl).elim | exact rfl | (and_intros <;> exact rfl))
theorem State.irqPending_update {s s0 : State} {ps : List Part} (h : OnlyChanges ps s0 s) (hW : within [.irqPending] ps = true) {x0} : OnlyChanges ps s0 { s with irq := { s.irq with pending := x0 } } :=
  h.trans (fun p hp => by cases p <;> first | exact (OnlyChanges.mem hW hp rfl).elim | exact rfl | (and_intros <;> exact rfl))
theorem State.irqUnit_update {s s0 : State} {ps : List Part} (h : OnlyChanges ps s0 s) (hW : within [.irqUnit] ps = true) {x0 x1 x2 x3 x4 x5 x6} : OnlyChanges ps s0 { s with irq := { s.irq with inService := x0, enable := x1, coreRetired := x2, corePending := x3, tasks := x4, moving := x5, sproutAt := x6 } } :=
  h.trans (fun p hp => by cases p <;> first | exact (OnlyChanges.mem hW hp rfl).elim | exact rfl | (and_intros <;> exact rfl))
theorem State.sprout_update {s s0 : State} {ps : List Part} (h : OnlyChanges ps s0 s) (hW : within [.sprout] ps = true) {x0} : OnlyChanges ps s0 { s with sprout := x0 } :=
  h.trans (fun p hp => by cases p <;> first | exact (OnlyChanges.mem hW hp rfl).elim | exact rfl | (and_intros <;> exact rfl))
theorem State.sources_update {s s0 : State} {ps : List Part} (h : OnlyChanges ps s0 s) (hW : within [.sources] ps = true) {x0} : OnlyChanges ps s0 { s with col := { s.col with sources := x0 } } :=
  h.trans (fun p hp => by cases p <;> first | exact (OnlyChanges.mem hW hp rfl).elim | exact rfl | (and_intros <;> exact rfl))
theorem State.safeState_update {s s0 : State} {ps : List Part} (h : OnlyChanges ps s0 s) (hW : within [.safeState] ps = true) {x0 x1 x2 x3} : OnlyChanges ps s0 { s with col := { s.col with safe := x0, now := x1, prev := x2, retained := x3 } } :=
  h.trans (fun p hp => by cases p <;> first | exact (OnlyChanges.mem hW hp rfl).elim | exact rfl | (and_intros <;> exact rfl))
theorem State.collector_update {s s0 : State} {ps : List Part} (h : OnlyChanges ps s0 s) (hW : within [.collector] ps = true) {x0 x1 x2 x3} : OnlyChanges ps s0 { s with col := { s.col with injectOwed := x0, parityBad := x1, capacity := x2, portPending := x3 } } :=
  h.trans (fun p hp => by cases p <;> first | exact (OnlyChanges.mem hW hp rfl).elim | exact rfl | (and_intros <;> exact rfl))
theorem State.pairing_update {s s0 : State} {ps : List Part} (h : OnlyChanges ps s0 s) (hW : within [.pairing] ps = true) {x0 x1 x2 x3 x4 x5 x6 x7 x8 x9 x10 x11 x12 x13 x14 x15 x16 x17 x18 x19 x20 x21 x22 x23 x24 x25 x26 x27} : OnlyChanges ps s0 { s with twin := { s.twin with state := x0, twinState := x1, twinSide := x2, twinNode := x3, attachResult := x4, heartbeat := x5, heard := x6, missed := x7, fenceAt := x8, trigger := x9, edges := x10, delta := x11, store := x12, storeRecs := x13, lastDelta := x14, deltaRecs := x15, homes := x16, mismatch := x17, moving := x18, moveSent := x19, syncSent := x20, syncAcked := x21, syncGot := x22, attachAsked := x23, restartAt := x24, takeoverEdge := x25, served := x26, promoted := x27 } } :=
  h.trans (fun p hp => by cases p <;> first | exact (OnlyChanges.mem hW hp rfl).elim | exact rfl | (and_intros <;> exact rfl))
theorem State.mirror_update {s s0 : State} {ps : List Part} (h : OnlyChanges ps s0 s) (hW : within [.mirror] ps = true) {x0 x1 x2 x3 x4 x5} : OnlyChanges ps s0 { s with twin := { s.twin with opened := x0, queue := x1, unacked := x2, nextRecord := x3, acked := x4, held := x5 } } :=
  h.trans (fun p hp => by cases p <;> first | exact (OnlyChanges.mem hW hp rfl).elim | exact rfl | (and_intros <;> exact rfl))
theorem State.sessions_update {s s0 : State} {ps : List Part} (h : OnlyChanges ps s0 s) (hW : within [.sessions] ps = true) {x0 x1} : OnlyChanges ps s0 { s with adp := { s.adp with sessions := x0, nextSession := x1 } } :=
  h.trans (fun p hp => by cases p <;> first | exact (OnlyChanges.mem hW hp rfl).elim | exact rfl | (and_intros <;> exact rfl))
theorem State.segments_update {s s0 : State} {ps : List Part} (h : OnlyChanges ps s0 s) (hW : within [.segments] ps = true) {x0 x1 x2 x3} : OnlyChanges ps s0 { s with adp := { s.adp with upA := x0, upB := x1, conflictA := x2, conflictB := x3 } } :=
  h.trans (fun p hp => by cases p <;> first | exact (OnlyChanges.mem hW hp rfl).elim | exact rfl | (and_intros <;> exact rfl))
theorem State.anchors_update {s s0 : State} {ps : List Part} (h : OnlyChanges ps s0 s) (hW : within [.anchors] ps = true) {x0} : OnlyChanges ps s0 { s with adp := { s.adp with anchors := x0 } } :=
  h.trans (fun p hp => by cases p <;> first | exact (OnlyChanges.mem hW hp rfl).elim | exact rfl | (and_intros <;> exact rfl))
theorem State.settings_update {s s0 : State} {ps : List Part} (h : OnlyChanges ps s0 s) (hW : within [.settings] ps = true) {x0} : OnlyChanges ps s0 { s with settings := x0 } :=
  h.trans (fun p hp => by cases p <;> first | exact (OnlyChanges.mem hW hp rfl).elim | exact rfl | (and_intros <;> exact rfl))
theorem State.settingsNext_update {s s0 : State} {ps : List Part} (h : OnlyChanges ps s0 s) (hW : within [.settingsNext] ps = true) {x0} : OnlyChanges ps s0 { s with settingsNext := x0 } :=
  h.trans (fun p hp => by cases p <;> first | exact (OnlyChanges.mem hW hp rfl).elim | exact rfl | (and_intros <;> exact rfl))
theorem State.settingsStart_update {s s0 : State} {ps : List Part} (h : OnlyChanges ps s0 s) (hW : within [.settingsStart] ps = true) {x0} : OnlyChanges ps s0 { s with settingsStart := x0 } :=
  h.trans (fun p hp => by cases p <;> first | exact (OnlyChanges.mem hW hp rfl).elim | exact rfl | (and_intros <;> exact rfl))
theorem State.views_update {s s0 : State} {ps : List Part} (h : OnlyChanges ps s0 s) (hW : within [.views] ps = true) {x0} : OnlyChanges ps s0 { s with views := x0 } :=
  h.trans (fun p hp => by cases p <;> first | exact (OnlyChanges.mem hW hp rfl).elim | exact rfl | (and_intros <;> exact rfl))
theorem State.outputs_update {s s0 : State} {ps : List Part} (h : OnlyChanges ps s0 s) (hW : within [.outputs] ps = true) {x0} : OnlyChanges ps s0 { s with out := x0 } :=
  h.trans (fun p hp => by cases p <;> first | exact (OnlyChanges.mem hW hp rfl).elim | exact rfl | (and_intros <;> exact rfl))
theorem State.free_update {s s0 : State} {ps : List Part} (h : OnlyChanges ps s0 s) (hW : within [.free] ps = true) {x0} : OnlyChanges ps s0 { s with free := x0 } :=
  h.trans (fun p hp => by cases p <;> first | exact (OnlyChanges.mem hW hp rfl).elim | exact rfl | (and_intros <;> exact rfl))

end Sys2Proof.Machine
end

