-- ==== Sys2Proof/Laws/Frames.lean ====
section
/-!
SUPPORT. The frame of every operation and of every meaning: which parts of the state it changes at most. One lemma for each
definition of Sys2Proof/Machine that answers a state, in the order in which they call one another; a proof goes through the
lemmas of the operations that the definition calls and never looks inside them.
-/

namespace Sys2Proof.Machine

section

set_option maxRecDepth 4000
set_option linter.all false

theorem State.setTrunk_only (p : Nat) (f : Trunk → Trunk) (s : State) {ps : List Part} {s0_ : State} (hO : OnlyChanges ps s0_ s) (hW : within [.trunks] ps = true)  : OnlyChanges ps s0_ (State.setTrunk p f s) := by
  unfold State.setTrunk
  try dsimp only
  repeat' (first | with_reducible assumption | (exact within_trans rfl hW) | split | (with_reducible first | (apply State.trunks_update)) | ((with_reducible refine OnlyChanges.update ?_ ?_); (on_goal 2 => ((with_reducible intro p hp); (fail_if_success (with_reducible exact Part.same_refl _ _)); cases p <;> first | exact (OnlyChanges.mem hW hp rfl).elim | exact rfl | (and_intros <;> exact rfl)))) | (with_reducible intro _) )

theorem State.leaveEpoch_only (tag : Nat) (s : State) {ps : List Part} {s0_ : State} (hO : OnlyChanges ps s0_ s) (hW : within [.inflight] ps = true)  : OnlyChanges ps s0_ (State.leaveEpoch tag s) := by
  unfold State.leaveEpoch
  try dsimp only
  repeat' (first | with_reducible assumption | (exact within_trans rfl hW) | split | (with_reducible first | (apply State.inflight_update)) | ((with_reducible refine OnlyChanges.update ?_ ?_); (on_goal 2 => ((with_reducible intro p hp); (fail_if_success (with_reducible exact Part.same_refl _ _)); cases p <;> first | exact (OnlyChanges.mem hW hp rfl).elim | exact rfl | (and_intros <;> exact rfl)))) | (with_reducible intro _) )

theorem State.emit_only (o : Out) (s : State) {ps : List Part} {s0_ : State} (hO : OnlyChanges ps s0_ s) (hW : within [.outputs] ps = true)  : OnlyChanges ps s0_ (State.emit o s) := by
  unfold State.emit
  try dsimp only
  repeat' (first | with_reducible assumption | (exact within_trans rfl hW) | split | (with_reducible first | (apply State.outputs_update)) | ((with_reducible refine OnlyChanges.update ?_ ?_); (on_goal 2 => ((with_reducible intro p hp); (fail_if_success (with_reducible exact Part.same_refl _ _)); cases p <;> first | exact (OnlyChanges.mem hW hp rfl).elim | exact rfl | (and_intros <;> exact rfl)))) | (with_reducible intro _) )

theorem State.dropFrame_only (id : Nat) (s : State) {ps : List Part} {s0_ : State} (hO : OnlyChanges ps s0_ s) (hW : within [.inflight, .frames, .tracker, .outputs] ps = true)  : OnlyChanges ps s0_ (State.dropFrame id s) := by
  unfold State.dropFrame
  try dsimp only
  repeat' (first | with_reducible assumption | (with_reducible first | (apply State.leaveEpoch_only) | (apply State.emit_only)) | (exact within_trans rfl hW) | split | (with_reducible first | (apply State.frames_update) | (apply State.tracker_update)) | ((with_reducible refine OnlyChanges.update ?_ ?_); (on_goal 2 => ((with_reducible intro p hp); (fail_if_success (with_reducible exact Part.same_refl _ _)); cases p <;> first | exact (OnlyChanges.mem hW hp rfl).elim | exact rfl | (and_intros <;> exact rfl)))) | (with_reducible intro _) )

theorem State.raise_only (src : Nat) (s : State) {ps : List Part} {s0_ : State} (hO : OnlyChanges ps s0_ s) (hW : within [.sources] ps = true)  : OnlyChanges ps s0_ (State.raise src s) := by
  unfold State.raise
  try dsimp only
  repeat' (first | with_reducible assumption | (exact within_trans rfl hW) | split | (with_reducible first | (apply State.sources_update)) | ((with_reducible refine OnlyChanges.update ?_ ?_); (on_goal 2 => ((with_reducible intro p hp); (fail_if_success (with_reducible exact Part.same_refl _ _)); cases p <;> first | exact (OnlyChanges.mem hW hp rfl).elim | exact rfl | (and_intros <;> exact rfl)))) | (with_reducible intro _) )

theorem State.countBy_only (n : Nat) (i : Nat) (j : Nat) (s : State) {ps : List Part} {s0_ : State} (hO : OnlyChanges ps s0_ s) (hW : within [.views] ps = true)  : OnlyChanges ps s0_ (State.countBy n i j s) := by
  unfold State.countBy
  try dsimp only
  repeat' (first | with_reducible assumption | (exact within_trans rfl hW) | split | (with_reducible first | (apply State.views_update)) | ((with_reducible refine OnlyChanges.update ?_ ?_); (on_goal 2 => ((with_reducible intro p hp); (fail_if_success (with_reducible exact Part.same_refl _ _)); cases p <;> first | exact (OnlyChanges.mem hW hp rfl).elim | exact rfl | (and_intros <;> exact rfl)))) | (with_reducible intro _) )

theorem State.bump_only (i : Nat) (j : Nat) (s : State) {ps : List Part} {s0_ : State} (hO : OnlyChanges ps s0_ s) (hW : within [.views] ps = true)  : OnlyChanges ps s0_ (State.bump i j s) := by
  unfold State.bump
  try dsimp only
  repeat' (first | with_reducible assumption | (with_reducible first | (apply State.countBy_only)) | (exact within_trans rfl hW) | split | (with_reducible intro _) )

theorem State.setPort_only (p : Nat) (f : Port → Port) (s : State) {ps : List Part} {s0_ : State} (hO : OnlyChanges ps s0_ s) (hW : within [.ports] ps = true)  : OnlyChanges ps s0_ (State.setPort p f s) := by
  unfold State.setPort
  try dsimp only
  repeat' (first | with_reducible assumption | (exact within_trans rfl hW) | split | (with_reducible first | (apply State.ports_update)) | ((with_reducible refine OnlyChanges.update ?_ ?_); (on_goal 2 => ((with_reducible intro p hp); (fail_if_success (with_reducible exact Part.same_refl _ _)); cases p <;> first | exact (OnlyChanges.mem hW hp rfl).elim | exact rfl | (and_intros <;> exact rfl)))) | (with_reducible intro _) )

theorem State.terminate_only (f : Frame) (s : State) {ps : List Part} {s0_ : State} (hO : OnlyChanges ps s0_ s) (hW : within [.ports, .matcher, .trunks, .outputs] ps = true)  : OnlyChanges ps s0_ (State.terminate f s) := by
  unfold State.terminate
  try dsimp only
  repeat' (first | with_reducible assumption | (with_reducible first | (apply State.emit_only) | (apply State.setTrunk_only) | (apply State.setPort_only)) | (exact within_trans rfl hW) | split | (with_reducible first | (apply State.matcher_update)) | ((with_reducible refine OnlyChanges.update ?_ ?_); (on_goal 2 => ((with_reducible intro p hp); (fail_if_success (with_reducible exact Part.same_refl _ _)); cases p <;> first | exact (OnlyChanges.mem hW hp rfl).elim | exact rfl | (and_intros <;> exact rfl)))) | (with_reducible intro _) )

theorem State.frameBad_only (id : Nat) (s : State) {ps : List Part} {s0_ : State} (hO : OnlyChanges ps s0_ s) (hW : within [.inflight, .ports, .frames, .matcher, .tracker, .trunks, .sources, .views, .outputs] ps = true)  : OnlyChanges ps s0_ (State.frameBad id s) := by
  unfold State.frameBad
  try dsimp only
  repeat' (first | with_reducible assumption | (with_reducible first | (apply State.dropFrame_only) | (apply State.raise_only) | (apply State.bump_only) | (apply State.terminate_only)) | (exact within_trans rfl hW) | split | (with_reducible intro _) )

theorem State.linkCount_only (p : Nat) (j : Nat) (s : State) {ps : List Part} {s0_ : State} (hO : OnlyChanges ps s0_ s) (hW : within [.views] ps = true)  : OnlyChanges ps s0_ (State.linkCount p j s) := by
  unfold State.linkCount
  try dsimp only
  repeat' (first | with_reducible assumption | (with_reducible first | (apply State.bump_only)) | (exact within_trans rfl hW) | split | (with_reducible intro _) )

theorem State.askReplay_only (p : Nat) (now : Nat) (s : State) {ps : List Part} {s0_ : State} (hO : OnlyChanges ps s0_ s) (hW : within [.trunks, .views] ps = true)  : OnlyChanges ps s0_ (State.askReplay p now s) := by
  unfold State.askReplay
  try dsimp only
  repeat' (first | with_reducible assumption | (with_reducible first | (apply State.linkCount_only) | (apply State.setTrunk_only)) | (exact within_trans rfl hW) | split | (with_reducible intro _) )

theorem State.trunkBad_only (p : Nat) (now : Nat) (ask : Bool) (s : State) {ps : List Part} {s0_ : State} (hO : OnlyChanges ps s0_ s) (hW : within [.inflight, .ports, .frames, .matcher, .tracker, .trunks, .sources, .views, .outputs] ps = true)  : OnlyChanges ps s0_ (State.trunkBad p now ask s) := by
  unfold State.trunkBad
  try dsimp only
  repeat' (first | with_reducible assumption | (with_reducible first | (apply State.setTrunk_only) | (apply State.frameBad_only) | (apply State.askReplay_only)) | (exact within_trans rfl hW) | split | (with_reducible intro _) )

theorem State.rxNext_only (p : Nat) (m : RxMode) (s : State) {ps : List Part} {s0_ : State} (hO : OnlyChanges ps s0_ s) (hW : within [.trunks] ps = true)  : OnlyChanges ps s0_ (State.rxNext p m s) := by
  unfold State.rxNext
  try dsimp only
  repeat' (first | with_reducible assumption | (with_reducible first | (apply State.setTrunk_only)) | (exact within_trans rfl hW) | split | (with_reducible intro _) )

theorem State.abortIn_only (p : Nat) (now : Nat) (s : State) {ps : List Part} {s0_ : State} (hO : OnlyChanges ps s0_ s) (hW : within [.inflight, .ports, .frames, .matcher, .tracker, .trunks, .sources, .views, .outputs] ps = true)  : OnlyChanges ps s0_ (State.abortIn p now s) := by
  unfold State.abortIn
  try dsimp only
  repeat' (first | with_reducible assumption | (with_reducible first | (apply State.trunkBad_only) | (apply State.linkCount_only) | (apply State.rxNext_only)) | (exact within_trans rfl hW) | split | (with_reducible intro _) )

theorem State.accept_only (p : Nat) (s : State) {ps : List Part} {s0_ : State} (hO : OnlyChanges ps s0_ s) (hW : within [.trunks] ps = true)  : OnlyChanges ps s0_ (State.accept p s) := by
  unfold State.accept
  try dsimp only
  repeat' (first | with_reducible assumption | (with_reducible first | (apply State.setTrunk_only)) | (exact within_trans rfl hW) | split | (with_reducible intro _) )

theorem State.acceptWake_only (w : Nat) (s : State) {ps : List Part} {s0_ : State} (hO : OnlyChanges ps s0_ s) (hW : within [.sprout] ps = true)  : OnlyChanges ps s0_ (State.acceptWake w s) := by
  unfold State.acceptWake
  try dsimp only
  repeat' (first | with_reducible assumption | (exact within_trans rfl hW) | split | (with_reducible first | (apply State.sprout_update)) | ((with_reducible refine OnlyChanges.update ?_ ?_); (on_goal 2 => ((with_reducible intro p hp); (fail_if_success (with_reducible exact Part.same_refl _ _)); cases p <;> first | exact (OnlyChanges.mem hW hp rfl).elim | exact rfl | (and_intros <;> exact rfl)))) | (with_reducible intro _) )

theorem State.sendBeryl_only (q : Nat) (f : BFrame) (s : State) {ps : List Part} {s0_ : State} (hO : OnlyChanges ps s0_ s) (hW : within [.views, .outputs] ps = true)  : OnlyChanges ps s0_ (State.sendBeryl q f s) := by
  unfold State.sendBeryl
  try dsimp only
  repeat' (first | with_reducible assumption | (with_reducible first | (apply State.emit_only) | (apply State.bump_only)) | (exact within_trans rfl hW) | split | (with_reducible intro _) )

theorem State.answerBeryl_only (q : Nat) (syndrome : Nat) (psn : Nat) (time : Nat) (s : State) {ps : List Part} {s0_ : State} (hO : OnlyChanges ps s0_ s) (hW : within [.views, .outputs] ps = true)  : OnlyChanges ps s0_ (State.answerBeryl q syndrome psn time s) := by
  unfold State.answerBeryl
  try dsimp only
  repeat' (first | with_reducible assumption | (with_reducible first | (apply State.sendBeryl_only)) | (exact within_trans rfl hW) | split | (with_reducible intro _) )

theorem State.setQp_only (n : Nat) (f : Qp → Qp) (s : State) {ps : List Part} {s0_ : State} (hO : OnlyChanges ps s0_ s) (hW : within [.qps] ps = true)  : OnlyChanges ps s0_ (State.setQp n f s) := by
  unfold State.setQp
  try dsimp only
  repeat' (first | with_reducible assumption | (exact within_trans rfl hW) | split | (with_reducible first | (apply State.qps_update)) | ((with_reducible refine OnlyChanges.update ?_ ?_); (on_goal 2 => ((with_reducible intro p hp); (fail_if_success (with_reducible exact Part.same_refl _ _)); cases p <;> first | exact (OnlyChanges.mem hW hp rfl).elim | exact rfl | (and_intros <;> exact rfl)))) | (with_reducible intro _) )

theorem State.sendAck_only (q : Nat) (s : State) {ps : List Part} {s0_ : State} (hO : OnlyChanges ps s0_ s) (hW : within [.qps, .views, .outputs] ps = true)  : OnlyChanges ps s0_ (State.sendAck q s) := by
  unfold State.sendAck
  try dsimp only
  repeat' (first | with_reducible assumption | (with_reducible first | (apply State.answerBeryl_only) | (apply State.setQp_only)) | (exact within_trans rfl hW) | split | (with_reducible intro _) )

theorem State.ackAsked_only (f : BFrame) (e : Nat) (s : State) {ps : List Part} {s0_ : State} (hO : OnlyChanges ps s0_ s) (hW : within [.qps, .views, .outputs] ps = true)  : OnlyChanges ps s0_ (State.ackAsked f e s) := by
  unfold State.ackAsked
  try dsimp only
  repeat' (first | with_reducible assumption | (with_reducible first | (apply State.sendAck_only)) | (exact within_trans rfl hW) | split | (with_reducible intro _) )

theorem State.fresh_only (place : Nat) (s : State) {ps : List Part} {s0_ : State} (hO : OnlyChanges ps s0_ s) (hW : within [.free] ps = true)  : OnlyChanges ps s0_ (State.fresh place s).2 := by
  unfold State.fresh
  try dsimp only
  repeat' (first | with_reducible assumption | (exact within_trans rfl hW) | split | (with_reducible first | (apply State.free_update)) | ((with_reducible refine OnlyChanges.update ?_ ?_); (on_goal 2 => ((with_reducible intro p hp); (fail_if_success (with_reducible exact Part.same_refl _ _)); cases p <;> first | exact (OnlyChanges.mem hW hp rfl).elim | exact rfl | (and_intros <;> exact rfl)))) | (with_reducible intro _) )

theorem State.scanCheck_only (s : State) {ps : List Part} {s0_ : State} (hO : OnlyChanges ps s0_ s) (hW : within [.scans] ps = true)  : OnlyChanges ps s0_ (State.scanCheck s) := by
  unfold State.scanCheck
  try dsimp only
  repeat' (first | with_reducible assumption | (exact within_trans rfl hW) | split | (with_reducible first | (apply State.scans_update)) | ((with_reducible refine OnlyChanges.update ?_ ?_); (on_goal 2 => ((with_reducible intro p hp); (fail_if_success (with_reducible exact Part.same_refl _ _)); cases p <;> first | exact (OnlyChanges.mem hW hp rfl).elim | exact rfl | (and_intros <;> exact rfl)))) | (with_reducible intro _) )

theorem State.setGroup_only (n : Nat) (f : GroupSide → GroupSide) (s : State) {ps : List Part} {s0_ : State} (hO : OnlyChanges ps s0_ s) (hW : within [.groups] ps = true)  : OnlyChanges ps s0_ (State.setGroup n f s) := by
  unfold State.setGroup
  try dsimp only
  repeat' (first | with_reducible assumption | (exact within_trans rfl hW) | split | (with_reducible first | (apply State.groups_update)) | ((with_reducible refine OnlyChanges.update ?_ ?_); (on_goal 2 => ((with_reducible intro p hp); (fail_if_success (with_reducible exact Part.same_refl _ _)); cases p <;> first | exact (OnlyChanges.mem hW hp rfl).elim | exact rfl | (and_intros <;> exact rfl)))) | (with_reducible intro _) )

theorem State.clkreqCheck_only (p : Nat) (s : State) {ps : List Part} {s0_ : State} (hO : OnlyChanges ps s0_ s) (hW : within [.groups] ps = true)  : OnlyChanges ps s0_ (State.clkreqCheck p s) := by
  unfold State.clkreqCheck
  try dsimp only
  repeat' (first | with_reducible assumption | (with_reducible first | (apply State.each_only) | (apply State.setGroup_only)) | (exact within_trans rfl hW) | split | (with_reducible intro _) )

theorem State.setLane_only (l : Nat) (f : Lane → Lane) (s : State) {ps : List Part} {s0_ : State} (hO : OnlyChanges ps s0_ s) (hW : within [.lanes] ps = true)  : OnlyChanges ps s0_ (State.setLane l f s) := by
  unfold State.setLane
  try dsimp only
  repeat' (first | with_reducible assumption | (exact within_trans rfl hW) | split | (with_reducible first | (apply State.lanes_update)) | ((with_reducible refine OnlyChanges.update ?_ ?_); (on_goal 2 => ((with_reducible intro p hp); (fail_if_success (with_reducible exact Part.same_refl _ _)); cases p <;> first | exact (OnlyChanges.mem hW hp rfl).elim | exact rfl | (and_intros <;> exact rfl)))) | (with_reducible intro _) )

theorem State.setPower_only (p : Nat) (w : LinkPower) (s : State) {ps : List Part} {s0_ : State} (hO : OnlyChanges ps s0_ s) (hW : within [.groups, .lanes, .ports, .scans] ps = true)  : OnlyChanges ps s0_ (State.setPower p w s) := by
  unfold State.setPower
  try dsimp only
  repeat' (first | with_reducible assumption | (with_reducible first | (apply State.scanCheck_only) | (apply State.clkreqCheck_only) | (apply State.each_only) | (apply State.setLane_only) | (apply State.setPort_only)) | (exact within_trans rfl hW) | split | (with_reducible intro _) )

theorem State.l0sCheck_only (p : Nat) (s : State) {ps : List Part} {s0_ : State} (hO : OnlyChanges ps s0_ s) (hW : within [.ports] ps = true)  : OnlyChanges ps s0_ (State.l0sCheck p s) := by
  unfold State.l0sCheck
  try dsimp only
  repeat' (first | with_reducible assumption | (with_reducible first | (apply State.setPort_only)) | (exact within_trans rfl hW) | split | (with_reducible intro _) )

theorem State.wakeTx_only (p : Nat) (s : State) {ps : List Part} {s0_ : State} (hO : OnlyChanges ps s0_ s) (hW : within [.lanes, .ports] ps = true)  : OnlyChanges ps s0_ (State.wakeTx p s) := by
  unfold State.wakeTx
  try dsimp only
  repeat' (first | with_reducible assumption | (with_reducible first | (apply State.l0sCheck_only) | (apply State.each_only) | (apply State.setLane_only)) | (exact within_trans rfl hW) | split | (with_reducible intro _) )

theorem State.useLink_only (p : Nat) (s : State) {ps : List Part} {s0_ : State} (hO : OnlyChanges ps s0_ s) (hW : within [.groups, .lanes, .ports, .scans] ps = true)  : OnlyChanges ps s0_ (State.useLink p s) := by
  unfold State.useLink
  try dsimp only
  repeat' (first | with_reducible assumption | (with_reducible first | (apply State.setPort_only) | (apply State.setPower_only) | (apply State.wakeTx_only)) | (exact within_trans rfl hW) | split | (with_reducible intro _) )

theorem State.emitHeld_only (o : Out) (s : State) {ps : List Part} {s0_ : State} (hO : OnlyChanges ps s0_ s) (hW : within [.mirror, .outputs] ps = true)  : OnlyChanges ps s0_ (State.emitHeld o s) := by
  unfold State.emitHeld
  try dsimp only
  repeat' (first | with_reducible assumption | (with_reducible first | (apply State.emit_only)) | (exact within_trans rfl hW) | split | (with_reducible first | (apply State.mirror_update)) | ((with_reducible refine OnlyChanges.update ?_ ?_); (on_goal 2 => ((with_reducible intro p hp); (fail_if_success (with_reducible exact Part.same_refl _ _)); cases p <;> first | exact (OnlyChanges.mem hW hp rfl).elim | exact rfl | (and_intros <;> exact rfl)))) | (with_reducible intro _) )

theorem State.emitVh_only (vh : Nat) (o : Out) (s : State) {ps : List Part} {s0_ : State} (hO : OnlyChanges ps s0_ s) (hW : within [.groups, .lanes, .ports, .scans, .mirror, .outputs] ps = true)  : OnlyChanges ps s0_ (State.emitVh vh o s) := by
  unfold State.emitVh
  try dsimp only
  repeat' (first | with_reducible assumption | (with_reducible first | (apply State.useLink_only) | (apply State.emitHeld_only)) | (exact within_trans rfl hW) | split | (with_reducible intro _) )

theorem State.setFunc_only (v : Nat) (f : Func → Func) (s : State) {ps : List Part} {s0_ : State} (hO : OnlyChanges ps s0_ s) (hW : within [.funcs] ps = true)  : OnlyChanges ps s0_ (State.setFunc v f s) := by
  unfold State.setFunc
  try dsimp only
  repeat' (first | with_reducible assumption | (exact within_trans rfl hW) | split | (with_reducible first | (apply State.funcs_update)) | ((with_reducible refine OnlyChanges.update ?_ ?_); (on_goal 2 => ((with_reducible intro p hp); (fail_if_success (with_reducible exact Part.same_refl _ _)); cases p <;> first | exact (OnlyChanges.mem hW hp rfl).elim | exact rfl | (and_intros <;> exact rfl)))) | (with_reducible intro _) )

theorem State.emitHost_only (vh : Nat) (o : Out) (s : State) {ps : List Part} {s0_ : State} (hO : OnlyChanges ps s0_ s) (hW : within [.groups, .lanes, .ports, .scans, .funcs, .mirror, .outputs] ps = true)  : OnlyChanges ps s0_ (State.emitHost vh o s) := by
  unfold State.emitHost
  try dsimp only
  repeat' (first | with_reducible assumption | (with_reducible first | (apply State.emitVh_only) | (apply State.setFunc_only)) | (exact within_trans rfl hW) | split | (with_reducible intro _) )

theorem State.pump_only (q : Nat) (x1 : Nat) (x2 : List Nat) (x3 : State) {ps : List Part} {s0_ : State} (hO : OnlyChanges ps s0_ x3) (hW : within [.groups, .lanes, .ports, .scans, .qps, .funcs, .mirror, .views, .outputs, .free] ps = true)  : OnlyChanges ps s0_ (State.pump q x1 x2 x3) := by
  induction x1 generalizing q x2 x3 with
  | zero => unfold State.pump; exact hO
  | succ n ih =>
    unfold State.pump
    try dsimp only
    repeat' (first | with_reducible assumption | (with_reducible first | (apply ih) | (apply State.setQp_only) | (apply State.fresh_only) | (apply State.emitHost_only) | (apply State.sendBeryl_only)) | (exact within_trans rfl hW) | split | (with_reducible intro _) )

theorem State.gainCredit_only (q : Nat) (s : State) {ps : List Part} {s0_ : State} (hO : OnlyChanges ps s0_ s) (hW : within [.qps] ps = true)  : OnlyChanges ps s0_ (State.gainCredit q s) := by
  unfold State.gainCredit
  try dsimp only
  repeat' (first | with_reducible assumption | (with_reducible first | (apply State.setQp_only)) | (exact within_trans rfl hW) | split | (with_reducible intro _) )

theorem State.pumpAll_only (q : Nat) (data : List Nat) (s : State) {ps : List Part} {s0_ : State} (hO : OnlyChanges ps s0_ s) (hW : within [.groups, .lanes, .ports, .scans, .qps, .funcs, .mirror, .views, .outputs, .free] ps = true)  : OnlyChanges ps s0_ (State.pumpAll q data s) := by
  unfold State.pumpAll
  try dsimp only
  repeat' (first | with_reducible assumption | (with_reducible first | (apply State.pump_only) | (apply State.gainCredit_only)) | (exact within_trans rfl hW) | split | (with_reducible intro _) )

theorem State.mirror_only (kind : Nat) (fields : List Nat) (payload : List Nat) (s : State) {ps : List Part} {s0_ : State} (hO : OnlyChanges ps s0_ s) (hW : within [.mirror] ps = true)  : OnlyChanges ps s0_ (State.mirror kind fields payload s) := by
  unfold State.mirror
  try dsimp only
  repeat' (first | with_reducible assumption | (exact within_trans rfl hW) | split | (with_reducible first | (apply State.mirror_update)) | ((with_reducible refine OnlyChanges.update ?_ ?_); (on_goal 2 => ((with_reducible intro p hp); (fail_if_success (with_reducible exact Part.same_refl _ _)); cases p <;> first | exact (OnlyChanges.mem hW hp rfl).elim | exact rfl | (and_intros <;> exact rfl)))) | (with_reducible intro _) )

theorem State.setInst_only (n : Nat) (f : Instance → Instance) (s : State) {ps : List Part} {s0_ : State} (hO : OnlyChanges ps s0_ s) (hW : within [.instances] ps = true)  : OnlyChanges ps s0_ (State.setInst n f s) := by
  unfold State.setInst
  try dsimp only
  repeat' (first | with_reducible assumption | (exact within_trans rfl hW) | split | (with_reducible first | (apply State.instances_update)) | ((with_reducible refine OnlyChanges.update ?_ ?_); (on_goal 2 => ((with_reducible intro p hp); (fail_if_success (with_reducible exact Part.same_refl _ _)); cases p <;> first | exact (OnlyChanges.mem hW hp rfl).elim | exact rfl | (and_intros <;> exact rfl)))) | (with_reducible intro _) )

theorem State.logPage_only (i : Nat) (page : Nat) (x2 : Nat) (x3 : State) {ps : List Part} {s0_ : State} (hO : OnlyChanges ps s0_ x3) (hW : within [.groups, .lanes, .ports, .scans, .funcs, .instances, .sources, .mirror, .outputs, .free] ps = true)  : OnlyChanges ps s0_ (State.logPage i page x2 x3) := by
  induction x2 generalizing i page x3 with
  | zero => unfold State.logPage; exact hO
  | succ n ih =>
    unfold State.logPage
    try dsimp only
    repeat' (first | with_reducible assumption | (with_reducible first | (apply ih) | (apply State.raise_only) | (apply State.setInst_only) | (apply State.fresh_only) | (apply State.emitHost_only)) | (exact within_trans rfl hW) | split | (with_reducible intro _) )

theorem State.logRange_only (i : Nat) (addr : Nat) (len : Nat) (s : State) {ps : List Part} {s0_ : State} (hO : OnlyChanges ps s0_ s) (hW : within [.groups, .lanes, .ports, .scans, .funcs, .instances, .sources, .mirror, .outputs, .free] ps = true)  : OnlyChanges ps s0_ (State.logRange i addr len s) := by
  unfold State.logRange
  try dsimp only
  repeat' (first | with_reducible assumption | (with_reducible first | (apply State.each_only) | (apply State.logPage_only)) | (exact within_trans rfl hW) | split | (with_reducible intro _) )

theorem State.setRegion_only (n : Nat) (f : Region → Region) (s : State) {ps : List Part} {s0_ : State} (hO : OnlyChanges ps s0_ s) (hW : within [.regions] ps = true)  : OnlyChanges ps s0_ (State.setRegion n f s) := by
  unfold State.setRegion
  try dsimp only
  repeat' (first | with_reducible assumption | (exact within_trans rfl hW) | split | (with_reducible first | (apply State.regions_update)) | ((with_reducible refine OnlyChanges.update ?_ ?_); (on_goal 2 => ((with_reducible intro p hp); (fail_if_success (with_reducible exact Part.same_refl _ _)); cases p <;> first | exact (OnlyChanges.mem hW hp rfl).elim | exact rfl | (and_intros <;> exact rfl)))) | (with_reducible intro _) )

theorem State.instWrite_only (i : Nat) (addr : Nat) (len : Nat) (words : List Nat) (acked : Option Nat) (region : Option Nat) (s : State) {ps : List Part} {s0_ : State} (hO : OnlyChanges ps s0_ s) (hW : within [.groups, .lanes, .ports, .scans, .regions, .funcs, .instances, .sources, .mirror, .outputs, .free] ps = true)  : OnlyChanges ps s0_ (State.instWrite i addr len words acked region s) := by
  unfold State.instWrite
  try dsimp only
  repeat' (first | with_reducible assumption | (with_reducible first | (apply State.logRange_only) | (apply State.emitVh_only) | (apply State.setFunc_only) | (apply State.setRegion_only)) | (exact within_trans rfl hW) | split | (with_reducible intro _) )

theorem State.setCq_only (n : Nat) (f : Cq → Cq) (s : State) {ps : List Part} {s0_ : State} (hO : OnlyChanges ps s0_ s) (hW : within [.cqs] ps = true)  : OnlyChanges ps s0_ (State.setCq n f s) := by
  unfold State.setCq
  try dsimp only
  repeat' (first | with_reducible assumption | (exact within_trans rfl hW) | split | (with_reducible first | (apply State.cqs_update)) | ((with_reducible refine OnlyChanges.update ?_ ?_); (on_goal 2 => ((with_reducible intro p hp); (fail_if_success (with_reducible exact Part.same_refl _ _)); cases p <;> first | exact (OnlyChanges.mem hW hp rfl).elim | exact rfl | (and_intros <;> exact rfl)))) | (with_reducible intro _) )

theorem State.setVec_only (store : Bool) (k : Nat) (f : Vector → Vector) (s : State) {ps : List Part} {s0_ : State} (hO : OnlyChanges ps s0_ s) (hW : within [.vectors] ps = true)  : OnlyChanges ps s0_ (State.setVec store k f s) := by
  unfold State.setVec
  try dsimp only
  repeat' (first | with_reducible assumption | (exact within_trans rfl hW) | split | (with_reducible first | (apply State.vectors_update)) | ((with_reducible refine OnlyChanges.update ?_ ?_); (on_goal 2 => ((with_reducible intro p hp); (fail_if_success (with_reducible exact Part.same_refl _ _)); cases p <;> first | exact (OnlyChanges.mem hW hp rfl).elim | exact rfl | (and_intros <;> exact rfl)))) | (with_reducible intro _) )

theorem State.vecSend_only (store : Bool) (k : Nat) (s : State) {ps : List Part} {s0_ : State} (hO : OnlyChanges ps s0_ s) (hW : within [.groups, .lanes, .ports, .scans, .vectors, .instances, .mirror, .views, .outputs] ps = true)  : OnlyChanges ps s0_ (State.vecSend store k s) := by
  unfold State.vecSend
  try dsimp only
  repeat' (first | with_reducible assumption | (with_reducible first | (apply State.setVec_only) | (apply State.bump_only) | (apply State.emitVh_only) | (apply State.setInst_only)) | (exact within_trans rfl hW) | split | (with_reducible intro _) )

theorem State.vecEvent_only (store : Bool) (k : Nat) (s : State) {ps : List Part} {s0_ : State} (hO : OnlyChanges ps s0_ s) (hW : within [.groups, .lanes, .ports, .scans, .vectors, .instances, .mirror, .views, .outputs] ps = true)  : OnlyChanges ps s0_ (State.vecEvent store k s) := by
  unfold State.vecEvent
  try dsimp only
  repeat' (first | with_reducible assumption | (with_reducible first | (apply State.setVec_only) | (apply State.vecSend_only)) | (exact within_trans rfl hW) | split | (with_reducible intro _) )

theorem State.putCqe_only (i : Nat) (c : Nat) (e : Cqe) (s : State) {ps : List Part} {s0_ : State} (hO : OnlyChanges ps s0_ s) (hW : within [.groups, .lanes, .ports, .scans, .cqs, .regions, .funcs, .vectors, .instances, .sources, .mirror, .views, .outputs, .free] ps = true)  : OnlyChanges ps s0_ (State.putCqe i c e s) := by
  unfold State.putCqe
  try dsimp only
  repeat' (first | with_reducible assumption | (with_reducible first | (apply State.mirror_only) | (apply State.instWrite_only) | (apply State.setCq_only) | (apply State.vecEvent_only)) | (exact within_trans rfl hW) | split | (with_reducible intro _) )

theorem State.dropQp_only (q : Nat) (noFlush : Bool) (s : State) {ps : List Part} {s0_ : State} (hO : OnlyChanges ps s0_ s) (hW : within [.qps] ps = true)  : OnlyChanges ps s0_ (State.dropQp q noFlush s) := by
  unfold State.dropQp
  try dsimp only
  repeat' (first | with_reducible assumption | (with_reducible first | (apply State.setQp_only)) | (exact within_trans rfl hW) | split | (with_reducible intro _) )

theorem State.eventRecord_only (i : Nat) (words : List Nat) (s : State) {ps : List Part} {s0_ : State} (hO : OnlyChanges ps s0_ s) (hW : within [.groups, .lanes, .ports, .scans, .regions, .funcs, .vectors, .instances, .sources, .mirror, .views, .outputs, .free] ps = true)  : OnlyChanges ps s0_ (State.eventRecord i words s) := by
  unfold State.eventRecord
  try dsimp only
  repeat' (first | with_reducible assumption | (with_reducible first | (apply State.mirror_only) | (apply State.instWrite_only) | (apply State.setInst_only) | (apply State.vecEvent_only) | (apply State.raise_only)) | (exact within_trans rfl hW) | split | (with_reducible intro _) )

theorem State.overrunCq_only (i : Nat) (c : Nat) (s : State) {ps : List Part} {s0_ : State} (hO : OnlyChanges ps s0_ s) (hW : within [.groups, .lanes, .ports, .scans, .qps, .cqs, .regions, .funcs, .vectors, .instances, .sources, .mirror, .views, .outputs, .free] ps = true)  : OnlyChanges ps s0_ (State.overrunCq i c s) := by
  unfold State.overrunCq
  try dsimp only
  repeat' (first | with_reducible assumption | (with_reducible first | (apply State.setCq_only) | (apply State.each_only) | (apply State.dropQp_only) | (apply State.raise_only) | (apply State.eventRecord_only)) | (exact within_trans rfl hW) | split | (with_reducible intro _) )

theorem State.complete1_only (i : Nat) (c : Nat) (e : Cqe) (s : State) {ps : List Part} {s0_ : State} (hO : OnlyChanges ps s0_ s) (hW : within [.groups, .lanes, .ports, .scans, .qps, .cqs, .regions, .funcs, .vectors, .instances, .sources, .mirror, .views, .outputs, .free] ps = true)  : OnlyChanges ps s0_ (State.complete1 i c e s) := by
  unfold State.complete1
  try dsimp only
  repeat' (first | with_reducible assumption | (with_reducible first | (apply State.putCqe_only) | (apply State.overrunCq_only)) | (exact within_trans rfl hW) | split | (with_reducible intro _) )

theorem State.completeWr_only (q : Nat) (owner : Nat) (queue : Nat) (status : Nat) (bytes : Nat) (w : Wr) (s : State) {ps : List Part} {s0_ : State} (hO : OnlyChanges ps s0_ s) (hW : within [.groups, .lanes, .ports, .scans, .qps, .cqs, .regions, .funcs, .vectors, .instances, .sources, .mirror, .views, .outputs, .free] ps = true)  : OnlyChanges ps s0_ (State.completeWr q owner queue status bytes w s) := by
  unfold State.completeWr
  try dsimp only
  repeat' (first | with_reducible assumption | (with_reducible first | (apply State.complete1_only)) | (exact within_trans rfl hW) | split | (with_reducible intro _) )

theorem State.flushQp_only (q : Nat) (status : Nat) (s : State) {ps : List Part} {s0_ : State} (hO : OnlyChanges ps s0_ s) (hW : within [.groups, .lanes, .ports, .scans, .qps, .cqs, .regions, .funcs, .vectors, .instances, .sources, .mirror, .views, .outputs, .free] ps = true)  : OnlyChanges ps s0_ (State.flushQp q status s) := by
  unfold State.flushQp
  try dsimp only
  repeat' (first | with_reducible assumption | (with_reducible first | (apply State.dropQp_only) | (apply State.each_only) | (apply State.completeWr_only)) | (exact within_trans rfl hW) | split | (with_reducible intro _) )

theorem State.countForeign_only (foreign : Bool) (s : State) {ps : List Part} {s0_ : State} (hO : OnlyChanges ps s0_ s) (hW : within [.sources, .views] ps = true)  : OnlyChanges ps s0_ (State.countForeign foreign s) := by
  unfold State.countForeign
  try dsimp only
  repeat' (first | with_reducible assumption | (with_reducible first | (apply State.raise_only) | (apply State.bump_only)) | (exact within_trans rfl hW) | split | (with_reducible intro _) )

theorem State.fireHead_only (q : Nat) (w : Wr) (s : State) {ps : List Part} {s0_ : State} (hO : OnlyChanges ps s0_ s) (hW : within [.groups, .lanes, .ports, .scans, .qps, .cqs, .regions, .funcs, .vectors, .instances, .sources, .mirror, .views, .outputs, .free] ps = true)  : OnlyChanges ps s0_ (State.fireHead q w s) := by
  unfold State.fireHead
  try dsimp only
  repeat' (first | with_reducible assumption | (with_reducible first | (apply State.bump_only) | (apply State.setQp_only) | (apply State.flushQp_only) | (apply State.completeWr_only) | (apply State.countForeign_only)) | (exact within_trans rfl hW) | split | (with_reducible intro _) )

theorem State.fireTriggers_only (q : Nat) (tagNo : Nat) (x2 : Nat) (x3 : State) {ps : List Part} {s0_ : State} (hO : OnlyChanges ps s0_ x3) (hW : within [.groups, .lanes, .ports, .scans, .qps, .cqs, .regions, .funcs, .vectors, .instances, .sources, .mirror, .views, .outputs, .free] ps = true)  : OnlyChanges ps s0_ (State.fireTriggers q tagNo x2 x3) := by
  induction x2 generalizing q tagNo x3 with
  | zero => unfold State.fireTriggers; exact hO
  | succ n ih =>
    unfold State.fireTriggers
    try dsimp only
    repeat' (first | with_reducible assumption | (with_reducible first | (apply ih) | (apply State.fireHead_only)) | (exact within_trans rfl hW) | split | (with_reducible intro _) )

theorem State.testTriggers_only (q : Nat) (tagNo : Nat) (s : State) {ps : List Part} {s0_ : State} (hO : OnlyChanges ps s0_ s) (hW : within [.groups, .lanes, .ports, .scans, .qps, .cqs, .regions, .funcs, .vectors, .instances, .sources, .mirror, .views, .outputs, .free] ps = true)  : OnlyChanges ps s0_ (State.testTriggers q tagNo s) := by
  unfold State.testTriggers
  try dsimp only
  repeat' (first | with_reducible assumption | (with_reducible first | (apply State.fireTriggers_only)) | (exact within_trans rfl hW) | split | (with_reducible intro _) )

theorem State.countUp_only (q : Nat) (s : State) {ps : List Part} {s0_ : State} (hO : OnlyChanges ps s0_ s) (hW : within [.groups, .lanes, .ports, .scans, .qps, .cqs, .regions, .funcs, .vectors, .instances, .sources, .mirror, .views, .outputs, .free] ps = true)  : OnlyChanges ps s0_ (State.countUp q s) := by
  unfold State.countUp
  try dsimp only
  repeat' (first | with_reducible assumption | (with_reducible first | (apply State.testTriggers_only) | (apply State.setQp_only)) | (exact within_trans rfl hW) | split | (with_reducible intro _) )

theorem State.retireDone_only (q : Nat) (x1 : Nat) (x2 : State) {ps : List Part} {s0_ : State} (hO : OnlyChanges ps s0_ x2) (hW : within [.groups, .lanes, .ports, .scans, .qps, .cqs, .regions, .funcs, .vectors, .instances, .sources, .mirror, .views, .outputs, .free] ps = true)  : OnlyChanges ps s0_ (State.retireDone q x1 x2) := by
  induction x1 generalizing q x2 with
  | zero => unfold State.retireDone; exact hO
  | succ n ih =>
    unfold State.retireDone
    try dsimp only
    repeat' (first | with_reducible assumption | (with_reducible first | (apply ih) | (apply State.setQp_only) | (apply State.completeWr_only) | (apply State.countUp_only)) | (exact within_trans rfl hW) | split | (with_reducible intro _) )

theorem State.retireAll_only (q : Nat) (s : State) {ps : List Part} {s0_ : State} (hO : OnlyChanges ps s0_ s) (hW : within [.groups, .lanes, .ports, .scans, .qps, .cqs, .regions, .funcs, .vectors, .instances, .sources, .mirror, .views, .outputs, .free] ps = true)  : OnlyChanges ps s0_ (State.retireAll q s) := by
  unfold State.retireAll
  try dsimp only
  repeat' (first | with_reducible assumption | (with_reducible first | (apply State.retireDone_only)) | (exact within_trans rfl hW) | split | (with_reducible intro _) )

theorem State.ackTo_only (q : Nat) (p : Nat) (s : State) {ps : List Part} {s0_ : State} (hO : OnlyChanges ps s0_ s) (hW : within [.groups, .lanes, .ports, .scans, .qps, .cqs, .regions, .funcs, .vectors, .instances, .sources, .mirror, .views, .outputs, .free] ps = true)  : OnlyChanges ps s0_ (State.ackTo q p s) := by
  unfold State.ackTo
  try dsimp only
  repeat' (first | with_reducible assumption | (with_reducible first | (apply State.retireAll_only) | (apply State.setQp_only)) | (exact within_trans rfl hW) | split | (with_reducible intro _) )

theorem State.echoedMark_only (q : Nat) (s : State) {ps : List Part} {s0_ : State} (hO : OnlyChanges ps s0_ s) (hW : within [.qps, .views] ps = true)  : OnlyChanges ps s0_ (State.echoedMark q s) := by
  unfold State.echoedMark
  try dsimp only
  repeat' (first | with_reducible assumption | (with_reducible first | (apply State.bump_only) | (apply State.setQp_only) | (apply State.gainCredit_only)) | (exact within_trans rfl hW) | split | (with_reducible intro _) )

theorem State.ackFrame_only (f : BFrame) (data : List Nat) (s : State) {ps : List Part} {s0_ : State} (hO : OnlyChanges ps s0_ s) (hW : within [.groups, .lanes, .ports, .scans, .qps, .cqs, .regions, .funcs, .vectors, .instances, .sources, .mirror, .views, .outputs, .free] ps = true)  : OnlyChanges ps s0_ (State.ackFrame f data s) := by
  unfold State.ackFrame
  try dsimp only
  repeat' (first | with_reducible assumption | (with_reducible first | (apply State.pumpAll_only) | (apply State.ackTo_only) | (apply State.echoedMark_only)) | (exact within_trans rfl hW) | split | (with_reducible intro _) )

theorem State.ackPolicy_only (f : BFrame) (s : State) {ps : List Part} {s0_ : State} (hO : OnlyChanges ps s0_ s) (hW : within [.qps, .views, .outputs] ps = true)  : OnlyChanges ps s0_ (State.ackPolicy f s) := by
  unfold State.ackPolicy
  try dsimp only
  repeat' (first | with_reducible assumption | (with_reducible first | (apply State.setQp_only) | (apply State.sendAck_only)) | (exact within_trans rfl hW) | split | (with_reducible intro _) )

theorem State.setSlot12_only (r : Nat) (p : Nat) (l : Nat) (f : HomeSlot → HomeSlot) (s : State) {ps : List Part} {s0_ : State} (hO : OnlyChanges ps s0_ s) (hW : within [.homeSlots] ps = true)  : OnlyChanges ps s0_ (State.setSlot12 r p l f s) := by
  unfold State.setSlot12
  try dsimp only
  repeat' (first | with_reducible assumption | (exact within_trans rfl hW) | split | (with_reducible first | (apply State.homeSlots_update)) | ((with_reducible refine OnlyChanges.update ?_ ?_); (on_goal 2 => ((with_reducible intro p hp); (fail_if_success (with_reducible exact Part.same_refl _ _)); cases p <;> first | exact (OnlyChanges.mem hW hp rfl).elim | exact rfl | (and_intros <;> exact rfl)))) | (with_reducible intro _) )

theorem State.waitHome_only (r : Nat) (p : Nat) (l : Nat) (q : Request) (s : State) {ps : List Part} {s0_ : State} (hO : OnlyChanges ps s0_ s) (hW : within [.homeSlots] ps = true)  : OnlyChanges ps s0_ (State.waitHome r p l q s) := by
  unfold State.waitHome
  try dsimp only
  repeat' (first | with_reducible assumption | (exact within_trans rfl hW) | split | (with_reducible first | (apply State.homeSlots_update)) | ((with_reducible refine OnlyChanges.update ?_ ?_); (on_goal 2 => ((with_reducible intro p hp); (fail_if_success (with_reducible exact Part.same_refl _ _)); cases p <;> first | exact (OnlyChanges.mem hW hp rfl).elim | exact rfl | (and_intros <;> exact rfl)))) | (with_reducible intro _) )

theorem State.flagsMirror_only (r : Nat) (p : Nat) (s : State) {ps : List Part} {s0_ : State} (hO : OnlyChanges ps s0_ s) (hW : within [.mirror] ps = true)  : OnlyChanges ps s0_ (State.flagsMirror r p s) := by
  unfold State.flagsMirror
  try dsimp only
  repeat' (first | with_reducible assumption | (with_reducible first | (apply State.mirror_only)) | (exact within_trans rfl hW) | split | (with_reducible intro _) )

theorem State.setEntry_only (r : Nat) (p : Nat) (f : Entry → Entry) (s : State) {ps : List Part} {s0_ : State} (hO : OnlyChanges ps s0_ s) (hW : within [.ledger] ps = true)  : OnlyChanges ps s0_ (State.setEntry r p f s) := by
  unfold State.setEntry
  try dsimp only
  repeat' (first | with_reducible assumption | (exact within_trans rfl hW) | split | (with_reducible first | (apply State.ledger_update)) | ((with_reducible refine OnlyChanges.update ?_ ?_); (on_goal 2 => ((with_reducible intro p hp); (fail_if_success (with_reducible exact Part.same_refl _ _)); cases p <;> first | exact (OnlyChanges.mem hW hp rfl).elim | exact rfl | (and_intros <;> exact rfl)))) | (with_reducible intro _) )

theorem State.setLine_only (r : Nat) (p : Nat) (l : Nat) (st : Nat) (ow : Nat) (v : Nat) (chg : Nat) (s : State) {ps : List Part} {s0_ : State} (hO : OnlyChanges ps s0_ s) (hW : within [.ledger, .mirror] ps = true)  : OnlyChanges ps s0_ (State.setLine r p l st ow v chg s) := by
  unfold State.setLine
  try dsimp only
  repeat' (first | with_reducible assumption | (with_reducible first | (apply State.setEntry_only) | (apply State.mirror_only)) | (exact within_trans rfl hW) | split | (with_reducible intro _) )

theorem State.lineTo_only (r : Nat) (p : Nat) (l : Nat) (st : Nat) (ow : Nat) (s : State) {ps : List Part} {s0_ : State} (hO : OnlyChanges ps s0_ s) (hW : within [.ledger, .mirror] ps = true)  : OnlyChanges ps s0_ (State.lineTo r p l st ow s) := by
  unfold State.lineTo
  try dsimp only
  repeat' (first | with_reducible assumption | (with_reducible first | (apply State.setLine_only)) | (exact within_trans rfl hW) | split | (with_reducible intro _) )

theorem State.emitOn_only (p : Nat) (o : Out) (s : State) {ps : List Part} {s0_ : State} (hO : OnlyChanges ps s0_ s) (hW : within [.groups, .lanes, .ports, .scans, .outputs] ps = true)  : OnlyChanges ps s0_ (State.emitOn p o s) := by
  unfold State.emitOn
  try dsimp only
  repeat' (first | with_reducible assumption | (with_reducible first | (apply State.useLink_only) | (apply State.emit_only)) | (exact within_trans rfl hW) | split | (with_reducible intro _) )

theorem State.snoop_only (c : Nat) (r : Nat) (p : Nat) (l : Nat) (mask : List Nat) (s : State) {ps : List Part} {s0_ : State} (hO : OnlyChanges ps s0_ s) (hW : within [.groups, .lanes, .ports, .scans, .views, .outputs] ps = true)  : OnlyChanges ps s0_ (State.snoop c r p l mask s) := by
  unfold State.snoop
  try dsimp only
  repeat' (first | with_reducible assumption | (with_reducible first | (apply State.countBy_only) | (apply State.bump_only) | (apply State.each_only) | (apply State.emitOn_only)) | (exact within_trans rfl hW) | split | (with_reducible intro _) )

theorem State.openSlot_only (q : HomeSlot) (s : State) {ps : List Part} {s0_ : State} (hO : OnlyChanges ps s0_ s) (hW : within [.homeSlots] ps = true)  : OnlyChanges ps s0_ (State.openSlot q s) := by
  unfold State.openSlot
  try dsimp only
  repeat' (first | with_reducible assumption | (exact within_trans rfl hW) | split | (with_reducible first | (apply State.homeSlots_update)) | ((with_reducible refine OnlyChanges.update ?_ ?_); (on_goal 2 => ((with_reducible intro p hp); (fail_if_success (with_reducible exact Part.same_refl _ _)); cases p <;> first | exact (OnlyChanges.mem hW hp rfl).elim | exact rfl | (and_intros <;> exact rfl)))) | (with_reducible intro _) )

theorem State.openSn_only (r : Nat) (p : Nat) (l : Nat) (c : Nat) (mask : List Nat) (purpose : Purpose) (q : Option Request) (s : State) {ps : List Part} {s0_ : State} (hO : OnlyChanges ps s0_ s) (hW : within [.groups, .lanes, .ports, .scans, .homeSlots, .views, .outputs] ps = true)  : OnlyChanges ps s0_ (State.openSn r p l c mask purpose q s) := by
  unfold State.openSn
  try dsimp only
  repeat' (first | with_reducible assumption | (with_reducible first | (apply State.snoop_only) | (apply State.openSlot_only)) | (exact within_trans rfl hW) | split | (with_reducible intro _) )

theorem State.resetLine_only (r : Nat) (p : Nat) (l : Nat) (s : State) {ps : List Part} {s0_ : State} (hO : OnlyChanges ps s0_ s) (hW : within [.groups, .lanes, .ports, .scans, .ledger, .homeSlots, .mirror, .views, .outputs] ps = true)  : OnlyChanges ps s0_ (State.resetLine r p l s) := by
  unfold State.resetLine
  try dsimp only
  repeat' (first | with_reducible assumption | (with_reducible first | (apply State.setSlot12_only) | (apply State.setEntry_only) | (apply State.lineTo_only) | (apply State.openSn_only)) | (exact within_trans rfl hW) | split | (with_reducible intro _) )

theorem State.resetIfOwed_only (r : Nat) (p : Nat) (s : State) {ps : List Part} {s0_ : State} (hO : OnlyChanges ps s0_ s) (hW : within [.groups, .lanes, .ports, .scans, .ledger, .homeSlots, .mirror, .views, .outputs] ps = true)  : OnlyChanges ps s0_ (State.resetIfOwed r p s) := by
  unfold State.resetIfOwed
  try dsimp only
  repeat' (first | with_reducible assumption | (with_reducible first | (apply State.flagsMirror_only) | (apply State.setEntry_only) | (apply State.bump_only) | (apply State.each_only) | (apply State.resetLine_only)) | (exact within_trans rfl hW) | split | (with_reducible intro _) )

theorem State.tell_only (v : Nat) (c : Nat) (r : Nat) (p : Nat) (l : Nat) (data : Option Nat) (poison : Bool) (s : State) {ps : List Part} {s0_ : State} (hO : OnlyChanges ps s0_ s) (hW : within [.groups, .lanes, .ports, .scans, .mirror, .outputs] ps = true)  : OnlyChanges ps s0_ (State.tell v c r p l data poison s) := by
  unfold State.tell
  try dsimp only
  repeat' (first | with_reducible assumption | (with_reducible first | (apply State.emitVh_only)) | (exact within_trans rfl hW) | split | (with_reducible intro _) )

theorem State.freeTrack_only (i : Nat) (s : State) {ps : List Part} {s0_ : State} (hO : OnlyChanges ps s0_ s) (hW : within [.tracker] ps = true)  : OnlyChanges ps s0_ (State.freeTrack i s) := by
  unfold State.freeTrack
  try dsimp only
  repeat' (first | with_reducible assumption | (exact within_trans rfl hW) | split | (with_reducible first | (apply State.tracker_update)) | ((with_reducible refine OnlyChanges.update ?_ ?_); (on_goal 2 => ((with_reducible intro p hp); (fail_if_success (with_reducible exact Part.same_refl _ _)); cases p <;> first | exact (OnlyChanges.mem hW hp rfl).elim | exact rfl | (and_intros <;> exact rfl)))) | (with_reducible intro _) )

theorem State.owePageReset_only (r : Nat) (p : Nat) (s : State) {ps : List Part} {s0_ : State} (hO : OnlyChanges ps s0_ s) (hW : within [.ledger] ps = true)  : OnlyChanges ps s0_ (State.owePageReset r p s) := by
  unfold State.owePageReset
  try dsimp only
  repeat' (first | with_reducible assumption | (with_reducible first | (apply State.setEntry_only)) | (exact within_trans rfl hW) | split | (with_reducible intro _) )

theorem State.violate_only (r : Nat) (p : Nat) (l : Nat) (q : Request) (s : State) {ps : List Part} {s0_ : State} (hO : OnlyChanges ps s0_ s) (hW : within [.groups, .lanes, .ports, .scans, .tracker, .ledger, .sources, .mirror, .views, .outputs] ps = true)  : OnlyChanges ps s0_ (State.violate r p l q s) := by
  unfold State.violate
  try dsimp only
  repeat' (first | with_reducible assumption | (with_reducible first | (apply State.tell_only) | (apply State.freeTrack_only) | (apply State.owePageReset_only) | (apply State.raise_only) | (apply State.bump_only)) | (exact within_trans rfl hW) | split | (with_reducible intro _) )

theorem State.allocEntry_only (r : Nat) (p : Nat) (s : State) {ps : List Part} {s0_ : State} (hO : OnlyChanges ps s0_ s) (hW : within [.ledger, .mirror] ps = true)  : ∀ t_, (State.allocEntry r p s) = some t_ → OnlyChanges ps s0_ t_ := by
  unfold State.allocEntry
  dsimp only
  split
  · rintro _ ⟨⟩
  · split
    · intro t ht
      obtain rfl := Option.some.inj ht
      apply State.mirror_only _ _ _ _ _ (within_trans rfl hW)
      refine OnlyChanges.update hO ?_
      intro p hp; cases p <;> first | exact (OnlyChanges.mem hW hp rfl).elim | exact rfl | (and_intros <;> exact rfl)
    · rintro _ ⟨⟩

theorem State.readLine_only (r : Nat) (p : Nat) (l : Nat) (s : State) {ps : List Part} {s0_ : State} (hO : OnlyChanges ps s0_ s) (hW : within [.groups, .lanes, .ports, .scans, .sources, .views, .outputs] ps = true)  : OnlyChanges ps s0_ (State.readLine r p l s) := by
  unfold State.readLine
  try dsimp only
  repeat' (first | with_reducible assumption | (with_reducible first | (apply State.emitOn_only) | (apply State.raise_only) | (apply State.bump_only)) | (exact within_trans rfl hW) | split | (with_reducible intro _) )

theorem State.openRd_only (r : Nat) (p : Nat) (l : Nat) (q : Request) (s : State) {ps : List Part} {s0_ : State} (hO : OnlyChanges ps s0_ s) (hW : within [.groups, .lanes, .ports, .scans, .homeSlots, .sources, .views, .outputs] ps = true)  : OnlyChanges ps s0_ (State.openRd r p l q s) := by
  unfold State.openRd
  try dsimp only
  repeat' (first | with_reducible assumption | (with_reducible first | (apply State.readLine_only) | (apply State.openSlot_only)) | (exact within_trans rfl hW) | split | (with_reducible intro _) )

theorem State.grant_only (r : Nat) (p : Nat) (l : Nat) (q : Request) (dropped : Bool) (data : Option Nat) (poison : Bool) (s : State) {ps : List Part} {s0_ : State} (hO : OnlyChanges ps s0_ s) (hW : within [.groups, .lanes, .ports, .scans, .tracker, .ledger, .mirror, .outputs] ps = true)  : OnlyChanges ps s0_ (State.grant r p l q dropped data poison s) := by
  unfold State.grant
  try dsimp only
  repeat' (first | with_reducible assumption | (with_reducible first | (apply State.lineTo_only) | (apply State.tell_only) | (apply State.setLine_only) | (apply State.freeTrack_only)) | (exact within_trans rfl hW) | split | (with_reducible intro _) )

theorem State.allocTrack_only (t : Track) (s : State) {ps : List Part} {s0_ : State} (hO : OnlyChanges ps s0_ s) (hW : within [.tracker] ps = true)  : OnlyChanges ps s0_ (State.allocTrack t s) := by
  unfold State.allocTrack
  try dsimp only
  repeat' (first | with_reducible assumption | (exact within_trans rfl hW) | split | (with_reducible first | (apply State.tracker_update)) | ((with_reducible refine OnlyChanges.update ?_ ?_); (on_goal 2 => ((with_reducible intro p hp); (fail_if_success (with_reducible exact Part.same_refl _ _)); cases p <;> first | exact (OnlyChanges.mem hW hp rfl).elim | exact rfl | (and_intros <;> exact rfl)))) | (with_reducible intro _) )

theorem State.masterGo_only (m : Master) (s : State) {ps : List Part} {s0_ : State} (hO : OnlyChanges ps s0_ s) (hW : within [.groups, .lanes, .ports, .scans, .tracker, .funcs, .mirror, .outputs] ps = true)  : OnlyChanges ps s0_ (State.masterGo m s) := by
  unfold State.masterGo
  try dsimp only
  repeat' (first | with_reducible assumption | (with_reducible first | (apply State.allocTrack_only) | (apply State.emitHost_only) | (apply State.emitOn_only)) | (exact within_trans rfl hW) | split | (with_reducible intro _) )

theorem State.masterIssue_only (m : Master) (s : State) {ps : List Part} {s0_ : State} (hO : OnlyChanges ps s0_ s) (hW : within [.groups, .lanes, .ports, .scans, .tracker, .funcs, .masterWait, .mirror, .outputs] ps = true)  : OnlyChanges ps s0_ (State.masterIssue m s) := by
  unfold State.masterIssue
  try dsimp only
  repeat' (first | with_reducible assumption | (with_reducible first | (apply State.masterGo_only)) | (exact within_trans rfl hW) | split | (with_reducible first | (apply State.masterWait_update)) | ((with_reducible refine OnlyChanges.update ?_ ?_); (on_goal 2 => ((with_reducible intro p hp); (fail_if_success (with_reducible exact Part.same_refl _ _)); cases p <;> first | exact (OnlyChanges.mem hW hp rfl).elim | exact rfl | (and_intros <;> exact rfl)))) | (with_reducible intro _) )

theorem State.writeLine_only (r : Nat) (p : Nat) (l : Nat) (data : Nat) (mask : Nat) (poison : Bool) (s : State) {ps : List Part} {s0_ : State} (hO : OnlyChanges ps s0_ s) (hW : within [.groups, .lanes, .ports, .scans, .tracker, .funcs, .masterWait, .sources, .mirror, .views, .outputs] ps = true)  : OnlyChanges ps s0_ (State.writeLine r p l data mask poison s) := by
  unfold State.writeLine
  try dsimp only
  repeat' (first | with_reducible assumption | (with_reducible first | (apply State.masterIssue_only) | (apply State.raise_only) | (apply State.bump_only)) | (exact within_trans rfl hW) | split | (with_reducible intro _) )

theorem State.openWr_only (r : Nat) (p : Nat) (l : Nat) (target : Nat) (purpose : Purpose) (q : Request) (s : State) {ps : List Part} {s0_ : State} (hO : OnlyChanges ps s0_ s) (hW : within [.groups, .lanes, .ports, .scans, .tracker, .homeSlots, .funcs, .masterWait, .sources, .mirror, .views, .outputs] ps = true)  : OnlyChanges ps s0_ (State.openWr r p l target purpose q s) := by
  unfold State.openWr
  try dsimp only
  repeat' (first | with_reducible assumption | (with_reducible first | (apply State.writeLine_only) | (apply State.openSlot_only)) | (exact within_trans rfl hW) | split | (with_reducible intro _) )

theorem State.stable_only (r : Nat) (p : Nat) (l : Nat) (e : Entry) (q : Request) (s : State) {ps : List Part} {s0_ : State} (hO : OnlyChanges ps s0_ s) (hW : within [.groups, .lanes, .ports, .scans, .tracker, .ledger, .homeSlots, .funcs, .masterWait, .sources, .mirror, .views, .outputs] ps = true)  : OnlyChanges ps s0_ (State.stable r p l e q s) := by
  unfold State.stable
  try dsimp only
  repeat' (first | with_reducible assumption | (with_reducible first | (apply State.openRd_only) | (apply State.openSn_only) | (apply State.grant_only) | (apply State.violate_only) | (apply State.tell_only) | (apply State.setLine_only) | (apply State.openWr_only)) | (exact within_trans rfl hW) | split | (with_reducible intro _) )

theorem State.clearRecent_only (b : Nat) (t : Nat) (s : State) {ps : List Part} {s0_ : State} (hO : OnlyChanges ps s0_ s) (hW : within [.ledger] ps = true)  : OnlyChanges ps s0_ (State.clearRecent b t s) := by
  unfold State.clearRecent
  try dsimp only
  repeat' (first | with_reducible assumption | (exact within_trans rfl hW) | split | (with_reducible first | (apply State.ledger_update)) | ((with_reducible refine OnlyChanges.update ?_ ?_); (on_goal 2 => ((with_reducible intro p hp); (fail_if_success (with_reducible exact Part.same_refl _ _)); cases p <;> first | exact (OnlyChanges.mem hW hp rfl).elim | exact rfl | (and_intros <;> exact rfl)))) | (with_reducible intro _) )

theorem State.recallLine_only (r : Nat) (p : Nat) (l : Nat) (s : State) {ps : List Part} {s0_ : State} (hO : OnlyChanges ps s0_ s) (hW : within [.groups, .lanes, .ports, .scans, .ledger, .homeSlots, .mirror, .views, .outputs] ps = true)  : OnlyChanges ps s0_ (State.recallLine r p l s) := by
  unfold State.recallLine
  try dsimp only
  repeat' (first | with_reducible assumption | (with_reducible first | (apply State.lineTo_only) | (apply State.openSn_only) | (apply State.setSlot12_only)) | (exact within_trans rfl hW) | split | (with_reducible intro _) )

theorem State.recallPage_only (r : Nat) (p : Nat) (s : State) {ps : List Part} {s0_ : State} (hO : OnlyChanges ps s0_ s) (hW : within [.groups, .lanes, .ports, .scans, .ledger, .homeSlots, .sources, .mirror, .views, .outputs] ps = true)  : OnlyChanges ps s0_ (State.recallPage r p s) := by
  unfold State.recallPage
  try dsimp only
  repeat' (first | with_reducible assumption | (with_reducible first | (apply State.flagsMirror_only) | (apply State.setEntry_only) | (apply State.raise_only) | (apply State.bump_only) | (apply State.each_only) | (apply State.recallLine_only)) | (exact within_trans rfl hW) | split | (with_reducible intro _) )

theorem State.recallIn_only (b : Nat) (t : Nat) (instead : State → State) (s : State) {ps : List Part} {s0_ : State} (hO : OnlyChanges ps s0_ s) (hW : within [.groups, .lanes, .ports, .scans, .ledger, .homeSlots, .sources, .mirror, .views, .outputs] ps = true) (h_instead : ∀ s_, OnlyChanges ps s0_ s_ → OnlyChanges ps s0_ (instead s_)) : OnlyChanges ps s0_ (State.recallIn b t instead s) := by
  unfold State.recallIn
  try dsimp only
  repeat' (first | with_reducible assumption | (with_reducible first | (apply State.clearRecent_only) | (apply State.recallPage_only) | (apply h_instead)) | (exact within_trans rfl hW) | split | (with_reducible intro _) )

theorem State.ifDo_only (c : Bool) (f : State → State) (s : State) {ps : List Part} {s0_ : State} (hO : OnlyChanges ps s0_ s) (hW : within [] ps = true) (h_f : ∀ s_, OnlyChanges ps s0_ s_ → OnlyChanges ps s0_ (f s_)) : OnlyChanges ps s0_ (State.ifDo c f s) := by
  unfold State.ifDo
  try dsimp only
  repeat' (first | with_reducible assumption | (with_reducible first | (apply h_f)) | (exact within_trans rfl hW) | split | (with_reducible intro _) )

theorem State.garnetEmit_only (f : Garnet) (s : State) {ps : List Part} {s0_ : State} (hO : OnlyChanges ps s0_ s) (hW : within [.trunks] ps = true)  : OnlyChanges ps s0_ (State.garnetEmit f s) := by
  unfold State.garnetEmit
  try dsimp only
  repeat' (first | with_reducible assumption | (with_reducible first | (apply State.setTrunk_only)) | (exact within_trans rfl hW) | split | (with_reducible intro _) )

theorem State.garnetSend_only (kind : Nat) (info : Nat) (body : List Nat) (upto : Nat) (s : State) {ps : List Part} {s0_ : State} (hO : OnlyChanges ps s0_ s) (hW : within [.trunks, .mirror] ps = true)  : OnlyChanges ps s0_ (State.garnetSend kind info body upto s) := by
  unfold State.garnetSend
  try dsimp only
  repeat' (first | with_reducible assumption | (with_reducible first | (apply State.ifDo_only) | (apply State.garnetEmit_only) | (apply State.setTrunk_only)) | (exact within_trans rfl hW) | split | (with_reducible first | (apply State.mirror_update)) | ((with_reducible refine OnlyChanges.update ?_ ?_); (on_goal 2 => ((with_reducible intro p hp); (fail_if_success (with_reducible exact Part.same_refl _ _)); cases p <;> first | exact (OnlyChanges.mem hW hp rfl).elim | exact rfl | (and_intros <;> exact rfl)))) | (with_reducible intro _) )

theorem State.makeRoom_only (r : Nat) (p : Nat) (s : State) {ps : List Part} {s0_ : State} (hO : OnlyChanges ps s0_ s) (hW : within [.groups, .lanes, .ports, .scans, .trunks, .ledger, .homeSlots, .sources, .mirror, .views, .outputs] ps = true)  : OnlyChanges ps s0_ (State.makeRoom r p s) := by
  unfold State.makeRoom
  try dsimp only
  repeat' (first | with_reducible assumption | (with_reducible first | (apply State.recallIn_only) | (apply State.garnetSend_only)) | (exact within_trans rfl hW) | split | (with_reducible intro _) )

theorem State.arriveNew_only (r : Nat) (p : Nat) (l : Nat) (q : Request) (s : State) {ps : List Part} {s0_ : State} (hO : OnlyChanges ps s0_ s) (hW : within [.groups, .lanes, .ports, .scans, .tracker, .trunks, .ledger, .homeSlots, .funcs, .masterWait, .sources, .mirror, .views, .outputs] ps = true)  : OnlyChanges ps s0_ (State.arriveNew r p l q s) := by
  unfold State.arriveNew
  split
  · exact State.violate_only _ _ _ _ _ hO (within_trans rfl hW)
  · split
    · rename_i ha
      have h1 := State.allocEntry_only _ _ _ hO (within_trans rfl hW) _ ha
      split
      · exact State.stable_only _ _ _ _ _ _ h1 (within_trans rfl hW)
      · exact h1
    · exact State.makeRoom_only _ _ _ (State.waitHome_only _ _ _ _ _ hO (within_trans rfl hW)) (within_trans rfl hW)

theorem State.inSlot_only (r : Nat) (p : Nat) (l : Nat) (e : Entry) (k : HomeSlot) (q : Request) (s : State) {ps : List Part} {s0_ : State} (hO : OnlyChanges ps s0_ s) (hW : within [.groups, .lanes, .ports, .scans, .tracker, .ledger, .homeSlots, .sources, .mirror, .views, .outputs] ps = true)  : OnlyChanges ps s0_ (State.inSlot r p l e k q s) := by
  unfold State.inSlot
  try dsimp only
  repeat' (first | with_reducible assumption | (with_reducible first | (apply State.setSlot12_only) | (apply State.tell_only) | (apply State.setLine_only) | (apply State.violate_only)) | (exact within_trans rfl hW) | split | (with_reducible intro _) )

theorem State.arriveKnown_only (r : Nat) (p : Nat) (l : Nat) (q : Request) (e : Entry) (s : State) {ps : List Part} {s0_ : State} (hO : OnlyChanges ps s0_ s) (hW : within [.groups, .lanes, .ports, .scans, .tracker, .ledger, .homeSlots, .funcs, .masterWait, .sources, .mirror, .views, .outputs] ps = true)  : OnlyChanges ps s0_ (State.arriveKnown r p l q e s) := by
  unfold State.arriveKnown
  try dsimp only
  repeat' (first | with_reducible assumption | (with_reducible first | (apply State.resetIfOwed_only) | (apply State.inSlot_only) | (apply State.lineTo_only) | (apply State.stable_only)) | (exact within_trans rfl hW) | split | (with_reducible intro _) )

theorem State.arrive_only (r : Nat) (p : Nat) (l : Nat) (q : Request) (s : State) {ps : List Part} {s0_ : State} (hO : OnlyChanges ps s0_ s) (hW : within [.groups, .lanes, .ports, .scans, .tracker, .trunks, .ledger, .homeSlots, .funcs, .masterWait, .sources, .mirror, .views, .outputs] ps = true)  : OnlyChanges ps s0_ (State.arrive r p l q s) := by
  unfold State.arrive
  try dsimp only
  repeat' (first | with_reducible assumption | (with_reducible first | (apply State.waitHome_only) | (apply State.resetIfOwed_only) | (apply State.violate_only) | (apply State.arriveNew_only) | (apply State.arriveKnown_only)) | (exact within_trans rfl hW) | split | (with_reducible first | (apply State.homeSlots_update)) | ((with_reducible refine OnlyChanges.update ?_ ?_); (on_goal 2 => ((with_reducible intro p hp); (fail_if_success (with_reducible exact Part.same_refl _ _)); cases p <;> first | exact (OnlyChanges.mem hW hp rfl).elim | exact rfl | (and_intros <;> exact rfl)))) | (with_reducible intro _) )

theorem State.actHeld_only (r : Nat) (p : Nat) (l : Nat) (s : State) {ps : List Part} {s0_ : State} (hO : OnlyChanges ps s0_ s) (hW : within [.groups, .lanes, .ports, .scans, .tracker, .trunks, .ledger, .homeSlots, .funcs, .masterWait, .sources, .mirror, .views, .outputs] ps = true)  : OnlyChanges ps s0_ (State.actHeld r p l s) := by
  unfold State.actHeld
  try dsimp only
  repeat' (first | with_reducible assumption | (with_reducible first | (apply State.setSlot12_only) | (apply State.each_only) | (apply State.arrive_only)) | (exact within_trans rfl hW) | split | (with_reducible intro _) )

theorem State.endSession_only (n : Nat) (s : State) {ps : List Part} {s0_ : State} (hO : OnlyChanges ps s0_ s) (hW : within [.sessions] ps = true)  : OnlyChanges ps s0_ (State.endSession n s) := by
  unfold State.endSession
  try dsimp only
  repeat' (first | with_reducible assumption | (exact within_trans rfl hW) | split | (with_reducible first | (apply State.sessions_update)) | ((with_reducible refine OnlyChanges.update ?_ ?_); (on_goal 2 => ((with_reducible intro p hp); (fail_if_success (with_reducible exact Part.same_refl _ _)); cases p <;> first | exact (OnlyChanges.mem hW hp rfl).elim | exact rfl | (and_intros <;> exact rfl)))) | (with_reducible intro _) )

theorem State.setSession_only (n : Nat) (g : Session → Session) (s : State) {ps : List Part} {s0_ : State} (hO : OnlyChanges ps s0_ s) (hW : within [.sessions] ps = true)  : OnlyChanges ps s0_ (State.setSession n g s) := by
  unfold State.setSession
  try dsimp only
  repeat' (first | with_reducible assumption | (exact within_trans rfl hW) | split | (with_reducible first | (apply State.sessions_update)) | ((with_reducible refine OnlyChanges.update ?_ ?_); (on_goal 2 => ((with_reducible intro p hp); (fail_if_success (with_reducible exact Part.same_refl _ _)); cases p <;> first | exact (OnlyChanges.mem hW hp rfl).elim | exact rfl | (and_intros <;> exact rfl)))) | (with_reducible intro _) )

theorem State.mailboxPut_only (vh : Nat) (note : Bool) (len : Nat) (body : List Nat) (s : State) {ps : List Part} {s0_ : State} (hO : OnlyChanges ps s0_ s) (hW : within [.groups, .lanes, .ports, .scans, .funcs, .vectors, .instances, .mirror, .views, .outputs] ps = true)  : OnlyChanges ps s0_ (State.mailboxPut vh note len body s) := by
  unfold State.mailboxPut
  try dsimp only
  repeat' (first | with_reducible assumption | (with_reducible first | (apply State.vecEvent_only) | (apply State.setFunc_only)) | (exact within_trans rfl hW) | split | (with_reducible intro _) )

theorem State.sendAdp_only (p : AdpPath) (session : Nat) (kind : Nat) (op : Nat) (seq : Nat) (ref : Nat) (len : Nat) (body : List Nat) (s : State) {ps : List Part} {s0_ : State} (hO : OnlyChanges ps s0_ s) (hW : within [.groups, .lanes, .ports, .scans, .funcs, .vectors, .instances, .mirror, .views, .outputs] ps = true)  : OnlyChanges ps s0_ (State.sendAdp p session kind op seq ref len body s) := by
  unfold State.sendAdp
  try dsimp only
  repeat' (first | with_reducible assumption | (with_reducible first | (apply State.emit_only) | (apply State.mailboxPut_only)) | (exact within_trans rfl hW) | split | (with_reducible intro _) )

theorem State.adpMessage_only (h : AdpHead) (f : Session → State → State) (s : State) {ps : List Part} {s0_ : State} (hO : OnlyChanges ps s0_ s) (hW : within [.groups, .lanes, .ports, .scans, .funcs, .vectors, .instances, .sources, .mirror, .sessions, .views, .outputs] ps = true) (h_f : ∀ y0 s_, OnlyChanges ps s0_ s_ → OnlyChanges ps s0_ (f y0 s_)) : OnlyChanges ps s0_ (State.adpMessage h f s) := by
  unfold State.adpMessage
  try dsimp only
  repeat' (first | with_reducible assumption | (with_reducible first | (apply State.raise_only) | (apply State.bump_only) | (apply State.endSession_only) | (apply State.setSession_only) | (apply State.sendAdp_only) | (apply h_f)) | (exact within_trans rfl hW) | split | (with_reducible intro _) )

theorem State.advance_only (c : Cand) (s : State) {ps : List Part} {s0_ : State} (hO : OnlyChanges ps s0_ s) (hW : within [.matcher] ps = true)  : OnlyChanges ps s0_ (State.advance c s) := by
  unfold State.advance
  try dsimp only
  repeat' (first | with_reducible assumption | (exact within_trans rfl hW) | split | (with_reducible first | (apply State.matcher_update)) | ((with_reducible refine OnlyChanges.update ?_ ?_); (on_goal 2 => ((with_reducible intro p hp); (fail_if_success (with_reducible exact Part.same_refl _ _)); cases p <;> first | exact (OnlyChanges.mem hW hp rfl).elim | exact rfl | (and_intros <;> exact rfl)))) | (with_reducible intro _) )

theorem State.advancePsn_only (q : Nat) (n : Nat) (s : State) {ps : List Part} {s0_ : State} (hO : OnlyChanges ps s0_ s) (hW : within [.qps] ps = true)  : OnlyChanges ps s0_ (State.advancePsn q n s) := by
  unfold State.advancePsn
  try dsimp only
  repeat' (first | with_reducible assumption | (with_reducible first | (apply State.setQp_only)) | (exact within_trans rfl hW) | split | (with_reducible intro _) )

theorem State.advertise_only (p : Nat) (scaled : Bool) (s : State) {ps : List Part} {s0_ : State} (hO : OnlyChanges ps s0_ s) (hW : within [.outputs] ps = true)  : OnlyChanges ps s0_ (State.advertise p scaled s) := by
  unfold State.advertise
  try dsimp only
  repeat' (first | with_reducible assumption | (with_reducible first | (apply State.each_only) | (apply State.emit_only)) | (exact within_trans rfl hW) | split | (with_reducible intro _) )

theorem State.setBridge_only (v : Nat) (b : Nat) (f : Bridge → Bridge) (s : State) {ps : List Part} {s0_ : State} (hO : OnlyChanges ps s0_ s) (hW : within [.bridges] ps = true)  : OnlyChanges ps s0_ (State.setBridge v b f s) := by
  unfold State.setBridge
  try dsimp only
  repeat' (first | with_reducible assumption | (exact within_trans rfl hW) | split | (with_reducible first | (apply State.bridges_update)) | ((with_reducible refine OnlyChanges.update ?_ ?_); (on_goal 2 => ((with_reducible intro p hp); (fail_if_success (with_reducible exact Part.same_refl _ _)); cases p <;> first | exact (OnlyChanges.mem hW hp rfl).elim | exact rfl | (and_intros <;> exact rfl)))) | (with_reducible intro _) )

theorem State.setHier_only (v : Nat) (f : Hier → Hier) (s : State) {ps : List Part} {s0_ : State} (hO : OnlyChanges ps s0_ s) (hW : within [.hiers] ps = true)  : OnlyChanges ps s0_ (State.setHier v f s) := by
  unfold State.setHier
  try dsimp only
  repeat' (first | with_reducible assumption | (exact within_trans rfl hW) | split | (with_reducible first | (apply State.hiers_update)) | ((with_reducible refine OnlyChanges.update ?_ ?_); (on_goal 2 => ((with_reducible intro p hp); (fail_if_success (with_reducible exact Part.same_refl _ _)); cases p <;> first | exact (OnlyChanges.mem hW hp rfl).elim | exact rfl | (and_intros <;> exact rfl)))) | (with_reducible intro _) )

theorem State.aer_only (v : Nat) (b : Option Nat) (e : Nat) (s : State) {ps : List Part} {s0_ : State} (hO : OnlyChanges ps s0_ s) (hW : within [.hiers, .bridges] ps = true)  : OnlyChanges ps s0_ (State.aer v b e s) := by
  unfold State.aer
  try dsimp only
  repeat' (first | with_reducible assumption | (with_reducible first | (apply State.setBridge_only) | (apply State.setHier_only)) | (exact within_trans rfl hW) | split | (with_reducible intro _) )

theorem State.aerAt_only (f : Frame) (e : Nat) (s : State) {ps : List Part} {s0_ : State} (hO : OnlyChanges ps s0_ s) (hW : within [.hiers, .bridges] ps = true)  : OnlyChanges ps s0_ (State.aerAt f e s) := by
  unfold State.aerAt
  try dsimp only
  repeat' (first | with_reducible assumption | (with_reducible first | (apply State.aer_only)) | (exact within_trans rfl hW) | split | (with_reducible intro _) )

theorem State.aerCorrectable_only (v : Nat) (e : Nat) (s : State) {ps : List Part} {s0_ : State} (hO : OnlyChanges ps s0_ s) (hW : within [.hiers] ps = true)  : OnlyChanges ps s0_ (State.aerCorrectable v e s) := by
  unfold State.aerCorrectable
  try dsimp only
  repeat' (first | with_reducible assumption | (with_reducible first | (apply State.setHier_only)) | (exact within_trans rfl hW) | split | (with_reducible intro _) )

theorem State.answer_only (code : Nat) (s : State) {ps : List Part} {s0_ : State} (hO : OnlyChanges ps s0_ s) (hW : within [.outputs] ps = true)  : OnlyChanges ps s0_ (State.answer code s) := by
  unfold State.answer
  try dsimp only
  repeat' (first | with_reducible assumption | (with_reducible first | (apply State.emit_only)) | (exact within_trans rfl hW) | split | (with_reducible intro _) )

theorem State.applyAck_only (p : Nat) (a : Nat) (s : State) {ps : List Part} {s0_ : State} (hO : OnlyChanges ps s0_ s) (hW : within [.trunks] ps = true)  : OnlyChanges ps s0_ (State.applyAck p a s) := by
  unfold State.applyAck
  try dsimp only
  repeat' (first | with_reducible assumption | (with_reducible first | (apply State.setTrunk_only)) | (exact within_trans rfl hW) | split | (with_reducible intro _) )

theorem State.swapTables_only (s : State) {ps : List Part} {s0_ : State} (hO : OnlyChanges ps s0_ s) (hW : within [.epochs, .commit, .tables] ps = true)  : OnlyChanges ps s0_ (State.swapTables s) := by
  unfold State.swapTables
  try dsimp only
  repeat' (first | with_reducible assumption | (exact within_trans rfl hW) | split | (with_reducible first | (apply State.epochs_update) | (apply State.commit_update) | (apply State.tables_update)) | ((with_reducible refine OnlyChanges.update ?_ ?_); (on_goal 2 => ((with_reducible intro p hp); (fail_if_success (with_reducible exact Part.same_refl _ _)); cases p <;> first | exact (OnlyChanges.mem hW hp rfl).elim | exact rfl | (and_intros <;> exact rfl)))) | (with_reducible intro _) )

theorem State.interrupt_only (n : Nat) (s : State) {ps : List Part} {s0_ : State} (hO : OnlyChanges ps s0_ s) (hW : within [.irqPending] ps = true)  : OnlyChanges ps s0_ (State.interrupt n s) := by
  unfold State.interrupt
  try dsimp only
  repeat' (first | with_reducible assumption | (exact within_trans rfl hW) | split | (with_reducible first | (apply State.irqPending_update)) | ((with_reducible refine OnlyChanges.update ?_ ?_); (on_goal 2 => ((with_reducible intro p hp); (fail_if_success (with_reducible exact Part.same_refl _ _)); cases p <;> first | exact (OnlyChanges.mem hW hp rfl).elim | exact rfl | (and_intros <;> exact rfl)))) | (with_reducible intro _) )

theorem State.portDown_only (p : Nat) (cause : Nat) (s : State) {ps : List Part} {s0_ : State} (hO : OnlyChanges ps s0_ s) (hW : within [.groups, .lanes, .ports, .scans, .irqPending, .sources] ps = true)  : OnlyChanges ps s0_ (State.portDown p cause s) := by
  unfold State.portDown
  try dsimp only
  repeat' (first | with_reducible assumption | (with_reducible first | (apply State.setPort_only) | (apply State.scanCheck_only) | (apply State.clkreqCheck_only) | (apply State.each_only) | (apply State.setLane_only) | (apply State.interrupt_only) | (apply State.raise_only)) | (exact within_trans rfl hW) | split | (with_reducible intro _) )

theorem State.setBucket_only (m : Nat) (b : Nat) (f : Bucket → Bucket) (s : State) {ps : List Part} {s0_ : State} (hO : OnlyChanges ps s0_ s) (hW : within [.paths] ps = true)  : OnlyChanges ps s0_ (State.setBucket m b f s) := by
  unfold State.setBucket
  try dsimp only
  repeat' (first | with_reducible assumption | (exact within_trans rfl hW) | split | (with_reducible first | (apply State.paths_update)) | ((with_reducible refine OnlyChanges.update ?_ ?_); (on_goal 2 => ((with_reducible intro p hp); (fail_if_success (with_reducible exact Part.same_refl _ _)); cases p <;> first | exact (OnlyChanges.mem hW hp rfl).elim | exact rfl | (and_intros <;> exact rfl)))) | (with_reducible intro _) )

theorem State.stampBucket_only (p : Nat) (i : Nat) (s : State) {ps : List Part} {s0_ : State} (hO : OnlyChanges ps s0_ s) (hW : within [.paths] ps = true)  : OnlyChanges ps s0_ (State.stampBucket p i s) := by
  unfold State.stampBucket
  try dsimp only
  repeat' (first | with_reducible assumption | (with_reducible first | (apply State.setBucket_only)) | (exact within_trans rfl hW) | split | (with_reducible intro _) )

theorem State.fabricSend_only (src : Nat) (dst : Nat) (kind : Nat) (label : Nat) (o : Nat → Out) (s : State) {ps : List Part} {s0_ : State} (hO : OnlyChanges ps s0_ s) (hW : within [.paths, .outputs] ps = true)  : OnlyChanges ps s0_ (State.fabricSend src dst kind label o s) := by
  unfold State.fabricSend
  try dsimp only
  repeat' (first | with_reducible assumption | (with_reducible first | (apply State.emit_only) | (apply State.stampBucket_only)) | (exact within_trans rfl hW) | split | (with_reducible intro _) )

theorem State.complete_only (port : Nat) (edge : Nat) (t : Tlp) (s : State) {ps : List Part} {s0_ : State} (hO : OnlyChanges ps s0_ s) (hW : within [.groups, .lanes, .ports, .scans, .paths, .outputs] ps = true)  : OnlyChanges ps s0_ (State.complete port edge t s) := by
  unfold State.complete
  try dsimp only
  repeat' (first | with_reducible assumption | (with_reducible first | (apply State.fabricSend_only) | (apply State.emitOn_only)) | (exact within_trans rfl hW) | split | (with_reducible intro _) )

theorem State.causeEvent_only (vh : Nat) (b : Nat) (s : State) {ps : List Part} {s0_ : State} (hO : OnlyChanges ps s0_ s) (hW : within [.groups, .lanes, .ports, .scans, .funcs, .vectors, .instances, .mirror, .views, .outputs] ps = true)  : OnlyChanges ps s0_ (State.causeEvent vh b s) := by
  unfold State.causeEvent
  try dsimp only
  repeat' (first | with_reducible assumption | (with_reducible first | (apply State.vecEvent_only) | (apply State.setFunc_only)) | (exact within_trans rfl hW) | split | (with_reducible intro _) )

theorem State.errLost_only (d : Nat) (s : State) {ps : List Part} {s0_ : State} (hO : OnlyChanges ps s0_ s) (hW : within [.groups, .lanes, .ports, .scans, .funcs, .vectors, .instances, .sources, .mirror, .views, .outputs] ps = true)  : OnlyChanges ps s0_ (State.errLost d s) := by
  unfold State.errLost
  try dsimp only
  repeat' (first | with_reducible assumption | (with_reducible first | (apply State.raise_only) | (apply State.bump_only) | (apply State.causeEvent_only)) | (exact within_trans rfl hW) | split | (with_reducible intro _) )

theorem State.errRecord_only (d : Nat) (words : List Nat) (s : State) {ps : List Part} {s0_ : State} (hO : OnlyChanges ps s0_ s) (hW : within [.groups, .lanes, .ports, .scans, .funcs, .vectors, .instances, .sources, .mirror, .views, .outputs] ps = true)  : OnlyChanges ps s0_ (State.errRecord d words s) := by
  unfold State.errRecord
  try dsimp only
  repeat' (first | with_reducible assumption | (with_reducible first | (apply State.emitHost_only) | (apply State.setFunc_only) | (apply State.causeEvent_only) | (apply State.bump_only) | (apply State.errLost_only)) | (exact within_trans rfl hW) | split | (with_reducible intro _) )

theorem State.pwfLog_only (kind : Nat) (src : Nat) (far : Nat) (req : Nat) (cause : Nat) (addr : Nat) (farStamp : Nat) (s : State) {ps : List Part} {s0_ : State} (hO : OnlyChanges ps s0_ s) (hW : within [.groups, .lanes, .ports, .scans, .hiers, .funcs, .vectors, .instances, .sources, .mirror, .views, .outputs] ps = true)  : OnlyChanges ps s0_ (State.pwfLog kind src far req cause addr farStamp s) := by
  unfold State.pwfLog
  try dsimp only
  repeat' (first | with_reducible assumption | (with_reducible first | (apply State.raise_only) | (apply State.bump_only) | (apply State.errRecord_only) | (apply State.causeEvent_only) | (apply State.aerCorrectable_only)) | (exact within_trans rfl hW) | split | (with_reducible intro _) )

theorem State.pwfFail_only (t : Tbl Nat) (src : Nat) (label : Nat) (req : Nat) (addr : Nat) (cause : Nat) (s : State) {ps : List Part} {s0_ : State} (hO : OnlyChanges ps s0_ s) (hW : within [.groups, .lanes, .ports, .scans, .paths, .hiers, .pwf, .funcs, .vectors, .instances, .sources, .mirror, .views, .outputs] ps = true)  : OnlyChanges ps s0_ (State.pwfFail t src label req addr cause s) := by
  unfold State.pwfFail
  try dsimp only
  repeat' (first | with_reducible assumption | (with_reducible first | (apply State.bump_only) | (apply State.raise_only) | (apply State.pwfLog_only) | (apply State.fabricSend_only)) | (exact within_trans rfl hW) | split | (with_reducible first | (apply State.pwf_update)) | ((with_reducible refine OnlyChanges.update ?_ ?_); (on_goal 2 => ((with_reducible intro p hp); (fail_if_success (with_reducible exact Part.same_refl _ _)); cases p <;> first | exact (OnlyChanges.mem hW hp rfl).elim | exact rfl | (and_intros <;> exact rfl)))) | (with_reducible intro _) )

theorem State.pwfFrame_only (f : Frame) (addr : Nat) (cause : Nat) (s : State) {ps : List Part} {s0_ : State} (hO : OnlyChanges ps s0_ s) (hW : within [.groups, .lanes, .ports, .scans, .paths, .hiers, .pwf, .funcs, .vectors, .instances, .sources, .mirror, .views, .outputs] ps = true)  : OnlyChanges ps s0_ (State.pwfFrame f addr cause s) := by
  unfold State.pwfFrame
  try dsimp only
  repeat' (first | with_reducible assumption | (with_reducible first | (apply State.pwfFail_only)) | (exact within_trans rfl hW) | split | (with_reducible intro _) )

theorem State.discardQueued_only (p : Nat) (f : Frame) (s : State) {ps : List Part} {s0_ : State} (hO : OnlyChanges ps s0_ s) (hW : within [.inflight, .groups, .lanes, .ports, .scans, .frames, .paths, .hiers, .tracker, .pwf, .funcs, .vectors, .instances, .sources, .mirror, .views, .outputs] ps = true)  : OnlyChanges ps s0_ (State.discardQueued p f s) := by
  unfold State.discardQueued
  try dsimp only
  repeat' (first | with_reducible assumption | (with_reducible first | (apply State.dropFrame_only) | (apply State.bump_only) | (apply State.complete_only) | (apply State.pwfFrame_only)) | (exact within_trans rfl hW) | split | (with_reducible intro _) )

theorem State.framesDown_only (p : Nat) (ld : Option Nat) (s : State) {ps : List Part} {s0_ : State} (hO : OnlyChanges ps s0_ s) (hW : within [.inflight, .groups, .lanes, .ports, .scans, .frames, .matcher, .paths, .hiers, .tracker, .pwf, .trunks, .funcs, .vectors, .instances, .sources, .mirror, .views, .outputs] ps = true)  : OnlyChanges ps s0_ (State.framesDown p ld s) := by
  unfold State.framesDown
  try dsimp only
  repeat' (first | with_reducible assumption | (with_reducible first | (apply State.each_only) | (apply State.discardQueued_only) | (apply State.dropFrame_only) | (apply State.frameBad_only)) | (exact within_trans rfl hW) | split | (with_reducible first | (apply State.matcher_update)) | ((with_reducible refine OnlyChanges.update ?_ ?_); (on_goal 2 => ((with_reducible intro p hp); (fail_if_success (with_reducible exact Part.same_refl _ _)); cases p <;> first | exact (OnlyChanges.mem hW hp rfl).elim | exact rfl | (and_intros <;> exact rfl)))) | (with_reducible intro _) )

theorem State.waitingDown_only (p : Nat) (ld : Option Nat) (s : State) {ps : List Part} {s0_ : State} (hO : OnlyChanges ps s0_ s) (hW : within [.inflight, .groups, .lanes, .ports, .scans, .frames, .hiers, .bridges, .tracker, .views, .outputs] ps = true)  : OnlyChanges ps s0_ (State.waitingDown p ld s) := by
  unfold State.waitingDown
  try dsimp only
  repeat' (first | with_reducible assumption | (with_reducible first | (apply State.each_only) | (apply State.dropFrame_only) | (apply State.bump_only) | (apply State.emitOn_only) | (apply State.aer_only)) | (exact within_trans rfl hW) | split | (with_reducible first | (apply State.tracker_update)) | ((with_reducible refine OnlyChanges.update ?_ ?_); (on_goal 2 => ((with_reducible intro p hp); (fail_if_success (with_reducible exact Part.same_refl _ _)); cases p <;> first | exact (OnlyChanges.mem hW hp rfl).elim | exact rfl | (and_intros <;> exact rfl)))) | (with_reducible intro _) )

theorem State.qpEvent_only (type : Nat) (q : Nat) (s : State) {ps : List Part} {s0_ : State} (hO : OnlyChanges ps s0_ s) (hW : within [.groups, .lanes, .ports, .scans, .regions, .funcs, .vectors, .instances, .sources, .mirror, .views, .outputs, .free] ps = true)  : OnlyChanges ps s0_ (State.qpEvent type q s) := by
  unfold State.qpEvent
  try dsimp only
  repeat' (first | with_reducible assumption | (with_reducible first | (apply State.eventRecord_only)) | (exact within_trans rfl hW) | split | (with_reducible intro _) )

theorem State.fatalQp_only (q : Nat) (s : State) {ps : List Part} {s0_ : State} (hO : OnlyChanges ps s0_ s) (hW : within [.groups, .lanes, .ports, .scans, .qps, .regions, .funcs, .vectors, .instances, .sources, .mirror, .views, .outputs, .free] ps = true)  : OnlyChanges ps s0_ (State.fatalQp q s) := by
  unfold State.fatalQp
  try dsimp only
  repeat' (first | with_reducible assumption | (with_reducible first | (apply State.qpEvent_only) | (apply State.dropQp_only)) | (exact within_trans rfl hW) | split | (with_reducible intro _) )

theorem State.contextLost_only (q : Nat) (s : State) {ps : List Part} {s0_ : State} (hO : OnlyChanges ps s0_ s) (hW : within [.groups, .lanes, .ports, .scans, .qps, .regions, .funcs, .vectors, .instances, .sources, .mirror, .views, .outputs, .free] ps = true)  : OnlyChanges ps s0_ (State.contextLost q s) := by
  unfold State.contextLost
  try dsimp only
  repeat' (first | with_reducible assumption | (with_reducible first | (apply State.raise_only) | (apply State.fatalQp_only) | (apply State.setQp_only)) | (exact within_trans rfl hW) | split | (with_reducible intro _) )

theorem State.failHead_only (q : Nat) (owner : Nat) (trig : Bool) (w : Wr) (status : Nat) (s : State) {ps : List Part} {s0_ : State} (hO : OnlyChanges ps s0_ s) (hW : within [.groups, .lanes, .ports, .scans, .qps, .cqs, .regions, .funcs, .vectors, .instances, .sources, .mirror, .views, .outputs, .free] ps = true)  : OnlyChanges ps s0_ (State.failHead q owner trig w status s) := by
  unfold State.failHead
  try dsimp only
  repeat' (first | with_reducible assumption | (with_reducible first | (apply State.setQp_only) | (apply State.flushQp_only) | (apply State.completeWr_only)) | (exact within_trans rfl hW) | split | (with_reducible intro _) )

theorem State.failKeyWaiter_only (r : Nat) (q : Nat) (s : State) {ps : List Part} {s0_ : State} (hO : OnlyChanges ps s0_ s) (hW : within [.groups, .lanes, .ports, .scans, .qps, .cqs, .regions, .funcs, .vectors, .instances, .sources, .mirror, .views, .outputs, .free] ps = true)  : OnlyChanges ps s0_ (State.failKeyWaiter r q s) := by
  unfold State.failKeyWaiter
  try dsimp only
  repeat' (first | with_reducible assumption | (with_reducible first | (apply State.failHead_only)) | (exact within_trans rfl hW) | split | (with_reducible intro _) )

theorem State.nakKeyWaiters_only (r : Nat) (q : Nat) (s : State) {ps : List Part} {s0_ : State} (hO : OnlyChanges ps s0_ s) (hW : within [.qps, .views, .outputs] ps = true)  : OnlyChanges ps s0_ (State.nakKeyWaiters r q s) := by
  unfold State.nakKeyWaiters
  try dsimp only
  repeat' (first | with_reducible assumption | (with_reducible first | (apply State.setQp_only) | (apply State.each_only) | (apply State.answerBeryl_only)) | (exact within_trans rfl hW) | split | (with_reducible intro _) )

theorem State.wrongFrame_only (f : BFrame) (s : State) {ps : List Part} {s0_ : State} (hO : OnlyChanges ps s0_ s) (hW : within [.sources, .views] ps = true)  : OnlyChanges ps s0_ (State.wrongFrame f s) := by
  unfold State.wrongFrame
  try dsimp only
  repeat' (first | with_reducible assumption | (with_reducible first | (apply State.raise_only) | (apply State.bump_only)) | (exact within_trans rfl hW) | split | (with_reducible intro _) )

theorem State.awaitDelivery_only (f : BFrame) (recv : Option Wr) (len : Nat) (s : State) {ps : List Part} {s0_ : State} (hO : OnlyChanges ps s0_ s) (hW : within [.qps] ps = true)  : OnlyChanges ps s0_ (State.awaitDelivery f recv len s) := by
  unfold State.awaitDelivery
  try dsimp only
  repeat' (first | with_reducible assumption | (with_reducible first | (apply State.setQp_only)) | (exact within_trans rfl hW) | split | (with_reducible intro _) )

theorem State.doSend_only (f : BFrame) (w : Wr) (len : Nat) (s : State) {ps : List Part} {s0_ : State} (hO : OnlyChanges ps s0_ s) (hW : within [.groups, .lanes, .ports, .scans, .qps, .regions, .funcs, .instances, .sources, .mirror, .views, .outputs, .free] ps = true)  : OnlyChanges ps s0_ (State.doSend f w len s) := by
  unfold State.doSend
  try dsimp only
  repeat' (first | with_reducible assumption | (with_reducible first | (apply State.instWrite_only) | (apply State.setQp_only) | (apply State.advancePsn_only) | (apply State.awaitDelivery_only) | (apply State.ackPolicy_only)) | (exact within_trans rfl hW) | split | (with_reducible intro _) )

theorem State.rnrNak_only (q : Nat) (psn : Nat) (s : State) {ps : List Part} {s0_ : State} (hO : OnlyChanges ps s0_ s) (hW : within [.views, .outputs] ps = true)  : OnlyChanges ps s0_ (State.rnrNak q psn s) := by
  unfold State.rnrNak
  try dsimp only
  repeat' (first | with_reducible assumption | (with_reducible first | (apply State.bump_only) | (apply State.answerBeryl_only)) | (exact within_trans rfl hW) | split | (with_reducible intro _) )

theorem State.park_only (f : BFrame) (s : State) {ps : List Part} {s0_ : State} (hO : OnlyChanges ps s0_ s) (hW : within [.qps, .sources, .views, .outputs] ps = true)  : OnlyChanges ps s0_ (State.park f s) := by
  unfold State.park
  try dsimp only
  repeat' (first | with_reducible assumption | (with_reducible first | (apply State.raise_only) | (apply State.setQp_only) | (apply State.rnrNak_only)) | (exact within_trans rfl hW) | split | (with_reducible intro _) )

theorem State.readHost_only (v : Nat) (inst : Option Nat) (addr : Nat) (len : Nat) (s : State) {ps : List Part} {s0_ : State} (hO : OnlyChanges ps s0_ s) (hW : within [.groups, .lanes, .ports, .scans, .tracker, .funcs, .masterWait, .mirror, .outputs] ps = true)  : OnlyChanges ps s0_ (State.readHost v inst addr len s) := by
  unfold State.readHost
  try dsimp only
  repeat' (first | with_reducible assumption | (with_reducible first | (apply State.masterIssue_only)) | (exact within_trans rfl hW) | split | (with_reducible intro _) )

theorem State.fetchKey_only (i : Nat) (key : Nat) (s : State) {ps : List Part} {s0_ : State} (hO : OnlyChanges ps s0_ s) (hW : within [.groups, .lanes, .ports, .scans, .tracker, .regions, .funcs, .masterWait, .mirror, .outputs] ps = true)  : OnlyChanges ps s0_ (State.fetchKey i key s) := by
  unfold State.fetchKey
  try dsimp only
  repeat' (first | with_reducible assumption | (with_reducible first | (apply State.readHost_only) | (apply State.setRegion_only)) | (exact within_trans rfl hW) | split | (with_reducible intro _) )

theorem State.keyWait_only (f : BFrame) (key : Nat) (s : State) {ps : List Part} {s0_ : State} (hO : OnlyChanges ps s0_ s) (hW : within [.groups, .lanes, .ports, .scans, .tracker, .qps, .regions, .funcs, .masterWait, .sources, .mirror, .views, .outputs] ps = true)  : OnlyChanges ps s0_ (State.keyWait f key s) := by
  unfold State.keyWait
  try dsimp only
  repeat' (first | with_reducible assumption | (with_reducible first | (apply State.raise_only) | (apply State.answerBeryl_only) | (apply State.park_only) | (apply State.fetchKey_only)) | (exact within_trans rfl hW) | split | (with_reducible intro _) )

theorem State.failRecv_only (f : BFrame) (w : Wr) (status : Nat) (s : State) {ps : List Part} {s0_ : State} (hO : OnlyChanges ps s0_ s) (hW : within [.groups, .lanes, .ports, .scans, .qps, .cqs, .regions, .funcs, .vectors, .instances, .sources, .mirror, .views, .outputs, .free] ps = true)  : OnlyChanges ps s0_ (State.failRecv f w status s) := by
  unfold State.failRecv
  try dsimp only
  repeat' (first | with_reducible assumption | (with_reducible first | (apply State.setQp_only) | (apply State.answerBeryl_only) | (apply State.countForeign_only) | (apply State.flushQp_only) | (apply State.complete1_only)) | (exact within_trans rfl hW) | split | (with_reducible intro _) )

theorem State.berylViolation_only (f : BFrame) (step : Nat) (s : State) {ps : List Part} {s0_ : State} (hO : OnlyChanges ps s0_ s) (hW : within [.groups, .lanes, .ports, .scans, .regions, .funcs, .vectors, .instances, .sources, .mirror, .views, .outputs, .free] ps = true)  : OnlyChanges ps s0_ (State.berylViolation f step s) := by
  unfold State.berylViolation
  try dsimp only
  repeat' (first | with_reducible assumption | (with_reducible first | (apply State.eventRecord_only) | (apply State.answerBeryl_only) | (apply State.raise_only) | (apply State.bump_only)) | (exact within_trans rfl hW) | split | (with_reducible intro _) )

theorem State.doWrite_only (f : BFrame) (s : State) {ps : List Part} {s0_ : State} (hO : OnlyChanges ps s0_ s) (hW : within [.groups, .lanes, .ports, .scans, .qps, .regions, .funcs, .instances, .sources, .mirror, .views, .outputs, .free] ps = true)  : OnlyChanges ps s0_ (State.doWrite f s) := by
  unfold State.doWrite
  try dsimp only
  repeat' (first | with_reducible assumption | (with_reducible first | (apply State.instWrite_only) | (apply State.advancePsn_only) | (apply State.awaitDelivery_only) | (apply State.ackPolicy_only)) | (exact within_trans rfl hW) | split | (with_reducible intro _) )

theorem State.readResponses_only (f : BFrame) (data : Nat) (s : State) {ps : List Part} {s0_ : State} (hO : OnlyChanges ps s0_ s) (hW : within [.views, .outputs] ps = true)  : OnlyChanges ps s0_ (State.readResponses f data s) := by
  unfold State.readResponses
  try dsimp only
  repeat' (first | with_reducible assumption | (with_reducible first | (apply State.each_only) | (apply State.sendBeryl_only)) | (exact within_trans rfl hW) | split | (with_reducible intro _) )

theorem State.doRead_only (f : BFrame) (data : Nat) (ok : Bool) (again : Bool) (s : State) {ps : List Part} {s0_ : State} (hO : OnlyChanges ps s0_ s) (hW : within [.groups, .lanes, .ports, .scans, .qps, .funcs, .mirror, .views, .outputs] ps = true)  : OnlyChanges ps s0_ (State.doRead f data ok again s) := by
  unfold State.doRead
  try dsimp only
  repeat' (first | with_reducible assumption | (with_reducible first | (apply State.answerBeryl_only) | (apply State.emitHost_only) | (apply State.awaitDelivery_only) | (apply State.setQp_only) | (apply State.advancePsn_only) | (apply State.readResponses_only)) | (exact within_trans rfl hW) | split | (with_reducible intro _) )

theorem State.atomicResponse_only (q : Nat) (psn : Nat) (v : Nat) (s : State) {ps : List Part} {s0_ : State} (hO : OnlyChanges ps s0_ s) (hW : within [.views, .outputs] ps = true)  : OnlyChanges ps s0_ (State.atomicResponse q psn v s) := by
  unfold State.atomicResponse
  try dsimp only
  repeat' (first | with_reducible assumption | (with_reducible first | (apply State.sendBeryl_only)) | (exact within_trans rfl hW) | split | (with_reducible intro _) )

theorem State.doAtomic_only (f : BFrame) (orig : Nat) (ok : Bool) (s : State) {ps : List Part} {s0_ : State} (hO : OnlyChanges ps s0_ s) (hW : within [.groups, .lanes, .ports, .scans, .qps, .funcs, .instances, .sources, .mirror, .views, .outputs, .free] ps = true)  : OnlyChanges ps s0_ (State.doAtomic f orig ok s) := by
  unfold State.doAtomic
  try dsimp only
  repeat' (first | with_reducible assumption | (with_reducible first | (apply State.answerBeryl_only) | (apply State.emitHost_only) | (apply State.logRange_only) | (apply State.setQp_only) | (apply State.advancePsn_only) | (apply State.atomicResponse_only) | (apply State.awaitDelivery_only)) | (exact within_trans rfl hW) | split | (with_reducible intro _) )

theorem State.executeRequest_only (f : BFrame) (data : Nat) (ok : Bool) (again : Bool) (s : State) {ps : List Part} {s0_ : State} (hO : OnlyChanges ps s0_ s) (hW : within [.groups, .lanes, .ports, .scans, .tracker, .qps, .cqs, .regions, .funcs, .vectors, .instances, .masterWait, .sources, .mirror, .views, .outputs, .free] ps = true)  : OnlyChanges ps s0_ (State.executeRequest f data ok again s) := by
  unfold State.executeRequest
  try dsimp only
  repeat' (first | with_reducible assumption | (with_reducible first | (apply State.answerBeryl_only) | (apply State.doSend_only) | (apply State.rnrNak_only) | (apply State.keyWait_only) | (apply State.failRecv_only) | (apply State.setQp_only) | (apply State.berylViolation_only) | (apply State.doWrite_only) | (apply State.ackAsked_only) | (apply State.doRead_only) | (apply State.doAtomic_only)) | (exact within_trans rfl hW) | split | (with_reducible intro _) )

theorem State.classify_only (f : BFrame) (data : Nat) (ok : Bool) (s0 : State) {ps : List Part} {s0_ : State} (hO : OnlyChanges ps s0_ s0) (hW : within [.groups, .lanes, .ports, .scans, .tracker, .qps, .cqs, .regions, .funcs, .vectors, .instances, .masterWait, .sources, .mirror, .views, .outputs, .free] ps = true)  : OnlyChanges ps s0_ (State.classify f data ok s0) := by
  unfold State.classify
  try dsimp only
  repeat' (first | with_reducible assumption | (with_reducible first | (apply State.setQp_only) | (apply State.executeRequest_only) | (apply State.atomicResponse_only) | (apply State.answerBeryl_only) | (apply State.sendAck_only) | (apply State.bump_only)) | (exact within_trans rfl hW) | split | (with_reducible intro _) )

theorem State.responseData_only (f : BFrame) (data : List Nat) (s0 : State) {ps : List Part} {s0_ : State} (hO : OnlyChanges ps s0_ s0) (hW : within [.groups, .lanes, .ports, .scans, .qps, .cqs, .regions, .funcs, .vectors, .instances, .sources, .mirror, .views, .outputs, .free] ps = true)  : OnlyChanges ps s0_ (State.responseData f data s0) := by
  unfold State.responseData
  try dsimp only
  repeat' (first | with_reducible assumption | (with_reducible first | (apply State.echoedMark_only) | (apply State.instWrite_only) | (apply State.setQp_only) | (apply State.pumpAll_only) | (apply State.ackTo_only)) | (exact within_trans rfl hW) | split | (with_reducible intro _) )

theorem State.failActive_only (q : Nat) (status : Nat) (a : Active) (s : State) {ps : List Part} {s0_ : State} (hO : OnlyChanges ps s0_ s) (hW : within [.groups, .lanes, .ports, .scans, .qps, .cqs, .regions, .funcs, .vectors, .instances, .sources, .mirror, .views, .outputs, .free] ps = true)  : OnlyChanges ps s0_ (State.failActive q status a s) := by
  unfold State.failActive
  try dsimp only
  repeat' (first | with_reducible assumption | (with_reducible first | (apply State.completeWr_only) | (apply State.flushQp_only) | (apply State.setQp_only)) | (exact within_trans rfl hW) | split | (with_reducible intro _) )

theorem State.rnrNakFrame_only (f : BFrame) (s0 : State) {ps : List Part} {s0_ : State} (hO : OnlyChanges ps s0_ s0) (hW : within [.groups, .lanes, .ports, .scans, .qps, .cqs, .regions, .funcs, .vectors, .instances, .sources, .mirror, .views, .outputs, .free] ps = true)  : OnlyChanges ps s0_ (State.rnrNakFrame f s0) := by
  unfold State.rnrNakFrame
  try dsimp only
  repeat' (first | with_reducible assumption | (with_reducible first | (apply State.bump_only) | (apply State.raise_only) | (apply State.failActive_only) | (apply State.flushQp_only) | (apply State.setQp_only)) | (exact within_trans rfl hW) | split | (with_reducible intro _) )

theorem State.rewind_only (q : Nat) (p : Nat) (s : State) {ps : List Part} {s0_ : State} (hO : OnlyChanges ps s0_ s) (hW : within [.qps] ps = true)  : OnlyChanges ps s0_ (State.rewind q p s) := by
  unfold State.rewind
  try dsimp only
  repeat' (first | with_reducible assumption | (with_reducible first | (apply State.setQp_only)) | (exact within_trans rfl hW) | split | (with_reducible intro _) )

theorem State.seqNakFrame_only (f : BFrame) (data : List Nat) (s : State) {ps : List Part} {s0_ : State} (hO : OnlyChanges ps s0_ s) (hW : within [.groups, .lanes, .ports, .scans, .qps, .funcs, .mirror, .views, .outputs, .free] ps = true)  : OnlyChanges ps s0_ (State.seqNakFrame f data s) := by
  unfold State.seqNakFrame
  try dsimp only
  repeat' (first | with_reducible assumption | (with_reducible first | (apply State.pumpAll_only) | (apply State.setQp_only) | (apply State.rewind_only)) | (exact within_trans rfl hW) | split | (with_reducible intro _) )

theorem State.nakFrame_only (f : BFrame) (s : State) {ps : List Part} {s0_ : State} (hO : OnlyChanges ps s0_ s) (hW : within [.groups, .lanes, .ports, .scans, .qps, .cqs, .regions, .funcs, .vectors, .instances, .sources, .mirror, .views, .outputs, .free] ps = true)  : OnlyChanges ps s0_ (State.nakFrame f s) := by
  unfold State.nakFrame
  try dsimp only
  repeat' (first | with_reducible assumption | (with_reducible first | (apply State.failActive_only) | (apply State.flushQp_only)) | (exact within_trans rfl hW) | split | (with_reducible intro _) )

theorem State.responseFrame_only (f : BFrame) (data : List Nat) (s : State) {ps : List Part} {s0_ : State} (hO : OnlyChanges ps s0_ s) (hW : within [.groups, .lanes, .ports, .scans, .qps, .cqs, .regions, .funcs, .vectors, .instances, .sources, .mirror, .views, .outputs, .free] ps = true)  : OnlyChanges ps s0_ (State.responseFrame f data s) := by
  unfold State.responseFrame
  try dsimp only
  repeat' (first | with_reducible assumption | (with_reducible first | (apply State.responseData_only) | (apply State.ackFrame_only) | (apply State.rnrNakFrame_only) | (apply State.seqNakFrame_only) | (apply State.nakFrame_only)) | (exact within_trans rfl hW) | split | (with_reducible intro _) )

theorem State.unpark_only (q : Nat) (x1 : List BFrame) (x2 : List Nat) (x3 : State) {ps : List Part} {s0_ : State} (hO : OnlyChanges ps s0_ x3) (hW : within [.groups, .lanes, .ports, .scans, .tracker, .qps, .cqs, .regions, .funcs, .vectors, .instances, .masterWait, .sources, .mirror, .views, .outputs, .free] ps = true)  : OnlyChanges ps s0_ (State.unpark q x1 x2 x3) := by
  induction x1 generalizing q x2 x3 with
  | nil => unfold State.unpark; exact hO
  | cons f r ih =>
    unfold State.unpark
    try dsimp only
    repeat' (first | with_reducible assumption | (with_reducible first | (apply ih) | (apply State.setQp_only) | (apply State.wrongFrame_only) | (apply State.fresh_only) | (apply State.classify_only) | (apply State.responseFrame_only)) | (exact within_trans rfl hW) | split | (with_reducible intro _) )

theorem State.unparkAll_only (q : Nat) (data : List Nat) (s : State) {ps : List Part} {s0_ : State} (hO : OnlyChanges ps s0_ s) (hW : within [.groups, .lanes, .ports, .scans, .tracker, .qps, .cqs, .regions, .funcs, .vectors, .instances, .masterWait, .sources, .mirror, .views, .outputs, .free] ps = true)  : OnlyChanges ps s0_ (State.unparkAll q data s) := by
  unfold State.unparkAll
  try dsimp only
  repeat' (first | with_reducible assumption | (with_reducible first | (apply State.unpark_only) | (apply State.setQp_only)) | (exact within_trans rfl hW) | split | (with_reducible intro _) )

theorem State.keyLost_only (r : Nat) (data : List Nat) (s : State) {ps : List Part} {s0_ : State} (hO : OnlyChanges ps s0_ s) (hW : within [.groups, .lanes, .ports, .scans, .tracker, .qps, .cqs, .regions, .funcs, .vectors, .instances, .masterWait, .sources, .mirror, .views, .outputs, .free] ps = true)  : OnlyChanges ps s0_ (State.keyLost r data s) := by
  unfold State.keyLost
  try dsimp only
  repeat' (first | with_reducible assumption | (with_reducible first | (apply State.raise_only) | (apply State.setRegion_only) | (apply State.each_only) | (apply State.failKeyWaiter_only) | (apply State.nakKeyWaiters_only) | (apply State.unparkAll_only)) | (exact within_trans rfl hW) | split | (with_reducible intro _) )

theorem State.unitFails_only (t : Track) (s : State) {ps : List Part} {s0_ : State} (hO : OnlyChanges ps s0_ s) (hW : within [.groups, .lanes, .ports, .scans, .tracker, .qps, .cqs, .regions, .funcs, .vectors, .instances, .masterWait, .sources, .mirror, .views, .outputs, .free] ps = true)  : OnlyChanges ps s0_ (State.unitFails t s) := by
  unfold State.unitFails
  try dsimp only
  repeat' (first | with_reducible assumption | (with_reducible first | (apply State.contextLost_only) | (apply State.keyLost_only)) | (exact within_trans rfl hW) | split | (with_reducible intro _) )

theorem State.setTrack_only (i : Nat) (f : Track → Track) (s : State) {ps : List Part} {s0_ : State} (hO : OnlyChanges ps s0_ s) (hW : within [.tracker] ps = true)  : OnlyChanges ps s0_ (State.setTrack i f s) := by
  unfold State.setTrack
  try dsimp only
  repeat' (first | with_reducible assumption | (exact within_trans rfl hW) | split | (with_reducible first | (apply State.tracker_update)) | ((with_reducible refine OnlyChanges.update ?_ ?_); (on_goal 2 => ((with_reducible intro p hp); (fail_if_success (with_reducible exact Part.same_refl _ _)); cases p <;> first | exact (OnlyChanges.mem hW hp rfl).elim | exact rfl | (and_intros <;> exact rfl)))) | (with_reducible intro _) )

theorem State.expire_only (i : Nat) (s : State) {ps : List Part} {s0_ : State} (hO : OnlyChanges ps s0_ s) (hW : within [.tracker] ps = true)  : OnlyChanges ps s0_ (State.expire i s) := by
  unfold State.expire
  try dsimp only
  repeat' (first | with_reducible assumption | (with_reducible first | (apply State.setTrack_only)) | (exact within_trans rfl hW) | split | (with_reducible intro _) )

theorem State.reportAs_only (status : Nat) (t : Track) (s : State) {ps : List Part} {s0_ : State} (hO : OnlyChanges ps s0_ s) (hW : within [.groups, .lanes, .ports, .scans, .paths, .hiers, .bridges, .outputs] ps = true)  : OnlyChanges ps s0_ (State.reportAs status t s) := by
  unfold State.reportAs
  try dsimp only
  repeat' (first | with_reducible assumption | (with_reducible first | (apply State.emitOn_only) | (apply State.aer_only) | (apply State.complete_only)) | (exact within_trans rfl hW) | split | (with_reducible intro _) )

theorem State.entriesDown_only (p : Nat) (ld : Option Nat) (status : Nat) (s : State) {ps : List Part} {s0_ : State} (hO : OnlyChanges ps s0_ s) (hW : within [.groups, .lanes, .ports, .scans, .paths, .hiers, .bridges, .tracker, .qps, .cqs, .regions, .funcs, .vectors, .instances, .masterWait, .sources, .mirror, .views, .outputs, .free] ps = true)  : OnlyChanges ps s0_ (State.entriesDown p ld status s) := by
  unfold State.entriesDown
  try dsimp only
  repeat' (first | with_reducible assumption | (with_reducible first | (apply State.each_only) | (apply State.unitFails_only) | (apply State.ifDo_only) | (apply State.bump_only) | (apply State.expire_only) | (apply State.reportAs_only)) | (exact within_trans rfl hW) | split | (with_reducible intro _) )

theorem State.placeDown_only (p : Nat) (ld : Option Nat) (status : Nat) (s : State) {ps : List Part} {s0_ : State} (hO : OnlyChanges ps s0_ s) (hW : within [.inflight, .groups, .lanes, .ports, .scans, .frames, .matcher, .paths, .hiers, .bridges, .tracker, .pwf, .trunks, .qps, .cqs, .regions, .funcs, .vectors, .instances, .masterWait, .sources, .mirror, .views, .outputs, .free] ps = true)  : OnlyChanges ps s0_ (State.placeDown p ld status s) := by
  unfold State.placeDown
  try dsimp only
  repeat' (first | with_reducible assumption | (with_reducible first | (apply State.framesDown_only) | (apply State.waitingDown_only) | (apply State.entriesDown_only)) | (exact within_trans rfl hW) | split | (with_reducible intro _) )

theorem State.takeRing_only (s : State) {ps : List Part} {s0_ : State} (hO : OnlyChanges ps s0_ s) (hW : within [.groups, .lanes, .ports, .scans, .tracker, .trunks, .ledger, .homeSlots, .funcs, .masterWait, .sources, .mirror, .views, .outputs] ps = true)  : OnlyChanges ps s0_ (State.takeRing s) := by
  unfold State.takeRing
  try dsimp only
  repeat' (first | with_reducible assumption | (with_reducible first | (apply State.each_only) | (apply State.arrive_only)) | (exact within_trans rfl hW) | split | (with_reducible first | (apply State.homeSlots_update)) | ((with_reducible refine OnlyChanges.update ?_ ?_); (on_goal 2 => ((with_reducible intro p hp); (fail_if_success (with_reducible exact Part.same_refl _ _)); cases p <;> first | exact (OnlyChanges.mem hW hp rfl).elim | exact rfl | (and_intros <;> exact rfl)))) | (with_reducible intro _) )

theorem State.endSlot_only (k : HomeSlot) (s : State) {ps : List Part} {s0_ : State} (hO : OnlyChanges ps s0_ s) (hW : within [.groups, .lanes, .ports, .scans, .tracker, .trunks, .ledger, .homeSlots, .funcs, .masterWait, .sources, .mirror, .views, .outputs] ps = true)  : OnlyChanges ps s0_ (State.endSlot k s) := by
  unfold State.endSlot
  try dsimp only
  repeat' (first | with_reducible assumption | (with_reducible first | (apply State.recallLine_only) | (apply State.setEntry_only) | (apply State.resetLine_only) | (apply State.takeRing_only) | (apply State.resetIfOwed_only) | (apply State.each_only) | (apply State.arrive_only)) | (exact within_trans rfl hW) | split | (with_reducible first | (apply State.homeSlots_update)) | ((with_reducible refine OnlyChanges.update ?_ ?_); (on_goal 2 => ((with_reducible intro p hp); (fail_if_success (with_reducible exact Part.same_refl _ _)); cases p <;> first | exact (OnlyChanges.mem hW hp rfl).elim | exact rfl | (and_intros <;> exact rfl)))) | (with_reducible intro _) )

theorem State.servePurpose_only (k : HomeSlot) (s : State) {ps : List Part} {s0_ : State} (hO : OnlyChanges ps s0_ s) (hW : within [.groups, .lanes, .ports, .scans, .tracker, .trunks, .ledger, .homeSlots, .funcs, .masterWait, .sources, .mirror, .views, .outputs] ps = true)  : OnlyChanges ps s0_ (State.servePurpose k s) := by
  unfold State.servePurpose
  try dsimp only
  repeat' (first | with_reducible assumption | (with_reducible first | (apply State.readLine_only) | (apply State.setSlot12_only) | (apply State.lineTo_only) | (apply State.endSlot_only) | (apply State.grant_only) | (apply State.writeLine_only)) | (exact within_trans rfl hW) | split | (with_reducible intro _) )

theorem State.finishSn_only (r : Nat) (p : Nat) (l : Nat) (s : State) {ps : List Part} {s0_ : State} (hO : OnlyChanges ps s0_ s) (hW : within [.groups, .lanes, .ports, .scans, .tracker, .trunks, .ledger, .homeSlots, .funcs, .masterWait, .sources, .mirror, .views, .outputs] ps = true)  : OnlyChanges ps s0_ (State.finishSn r p l s) := by
  unfold State.finishSn
  try dsimp only
  repeat' (first | with_reducible assumption | (with_reducible first | (apply State.writeLine_only) | (apply State.setSlot12_only) | (apply State.raise_only) | (apply State.bump_only) | (apply State.servePurpose_only)) | (exact within_trans rfl hW) | split | (with_reducible intro _) )

theorem State.unpend_only (r : Nat) (p : Nat) (l : Nat) (v : Nat) (f : HomeSlot → HomeSlot) (s : State) {ps : List Part} {s0_ : State} (hO : OnlyChanges ps s0_ s) (hW : within [.groups, .lanes, .ports, .scans, .tracker, .trunks, .ledger, .homeSlots, .funcs, .masterWait, .sources, .mirror, .views, .outputs] ps = true)  : OnlyChanges ps s0_ (State.unpend r p l v f s) := by
  unfold State.unpend
  try dsimp only
  repeat' (first | with_reducible assumption | (with_reducible first | (apply State.finishSn_only) | (apply State.setSlot12_only)) | (exact within_trans rfl hW) | split | (with_reducible intro _) )

theorem State.departSlot_only (v : Nat) (k : HomeSlot) (s : State) {ps : List Part} {s0_ : State} (hO : OnlyChanges ps s0_ s) (hW : within [.groups, .lanes, .ports, .scans, .tracker, .trunks, .ledger, .homeSlots, .funcs, .masterWait, .sources, .mirror, .views, .outputs] ps = true)  : OnlyChanges ps s0_ (State.departSlot v k s) := by
  unfold State.departSlot
  try dsimp only
  repeat' (first | with_reducible assumption | (with_reducible first | (apply State.setSlot12_only) | (apply State.unpend_only)) | (exact within_trans rfl hW) | split | (with_reducible intro _) )

theorem State.depart_only (r : Nat) (v : Nat) (s : State) {ps : List Part} {s0_ : State} (hO : OnlyChanges ps s0_ s) (hW : within [.groups, .lanes, .ports, .scans, .tracker, .trunks, .ledger, .homeSlots, .departed, .funcs, .masterWait, .sources, .mirror, .views, .outputs] ps = true)  : OnlyChanges ps s0_ (State.depart r v s) := by
  unfold State.depart
  try dsimp only
  repeat' (first | with_reducible assumption | (with_reducible first | (apply State.mirror_only) | (apply State.each_only) | (apply State.departSlot_only)) | (exact within_trans rfl hW) | split | (with_reducible first | (apply State.ledger_update) | (apply State.homeSlots_update) | (apply State.departed_update)) | ((with_reducible refine OnlyChanges.update ?_ ?_); (on_goal 2 => ((with_reducible intro p hp); (fail_if_success (with_reducible exact Part.same_refl _ _)); cases p <;> first | exact (OnlyChanges.mem hW hp rfl).elim | exact rfl | (and_intros <;> exact rfl)))) | (with_reducible intro _) )

theorem State.departAll_only (v : Nat) (s : State) {ps : List Part} {s0_ : State} (hO : OnlyChanges ps s0_ s) (hW : within [.groups, .lanes, .ports, .scans, .tracker, .trunks, .ledger, .homeSlots, .departed, .funcs, .masterWait, .sources, .mirror, .views, .outputs] ps = true)  : OnlyChanges ps s0_ (State.departAll v s) := by
  unfold State.departAll
  try dsimp only
  repeat' (first | with_reducible assumption | (with_reducible first | (apply State.each_only) | (apply State.depart_only)) | (exact within_trans rfl hW) | split | (with_reducible intro _) )

theorem State.bridgeMsi_only (v : Nat) (b : Nat) (s : State) {ps : List Part} {s0_ : State} (hO : OnlyChanges ps s0_ s) (hW : within [.groups, .lanes, .ports, .scans, .mirror, .outputs] ps = true)  : OnlyChanges ps s0_ (State.bridgeMsi v b s) := by
  unfold State.bridgeMsi
  try dsimp only
  repeat' (first | with_reducible assumption | (with_reducible first | (apply State.emitVh_only)) | (exact within_trans rfl hW) | split | (with_reducible intro _) )

theorem State.hotplug_only (v : Nat) (b : Nat) (k : Nat) (s : State) {ps : List Part} {s0_ : State} (hO : OnlyChanges ps s0_ s) (hW : within [.groups, .lanes, .ports, .scans, .hiers, .mirror, .outputs] ps = true)  : OnlyChanges ps s0_ (State.hotplug v b k s) := by
  unfold State.hotplug
  try dsimp only
  repeat' (first | with_reducible assumption | (with_reducible first | (apply State.bridgeMsi_only) | (apply State.setHier_only)) | (exact within_trans rfl hW) | split | (with_reducible intro _) )

theorem State.bridgeLink_only (v : Nat) (b : Nat) (isOn : Bool) (s : State) {ps : List Part} {s0_ : State} (hO : OnlyChanges ps s0_ s) (hW : within [.groups, .lanes, .ports, .scans, .hiers, .bridges, .mirror, .outputs] ps = true)  : OnlyChanges ps s0_ (State.bridgeLink v b isOn s) := by
  unfold State.bridgeLink
  try dsimp only
  repeat' (first | with_reducible assumption | (with_reducible first | (apply State.hotplug_only) | (apply State.setBridge_only)) | (exact within_trans rfl hW) | split | (with_reducible intro _) )

theorem State.portDownFree_only (p : Nat) (s : State) {ps : List Part} {s0_ : State} (hO : OnlyChanges ps s0_ s) (hW : within [.groups, .lanes, .ports, .scans, .irqPending, .sources, .free] ps = true)  : OnlyChanges ps s0_ (State.portDownFree p s) := by
  unfold State.portDownFree
  try dsimp only
  repeat' (first | with_reducible assumption | (with_reducible first | (apply State.fresh_only) | (apply State.portDown_only)) | (exact within_trans rfl hW) | split | (with_reducible intro _) )

theorem State.enterStage1_only (p : Nat) (s : State) {ps : List Part} {s0_ : State} (hO : OnlyChanges ps s0_ s) (hW : within [.groups, .lanes, .ports] ps = true)  : OnlyChanges ps s0_ (State.enterStage1 p s) := by
  unfold State.enterStage1
  try dsimp only
  repeat' (first | with_reducible assumption | (with_reducible first | (apply State.setGroup_only) | (apply State.setPort_only) | (apply State.each_only) | (apply State.setLane_only) | (apply State.clkreqCheck_only)) | (exact within_trans rfl hW) | split | (with_reducible intro _) )

theorem State.startPort_only (p : Nat) (s : State) {ps : List Part} {s0_ : State} (hO : OnlyChanges ps s0_ s) (hW : within [.groups, .lanes, .ports] ps = true)  : OnlyChanges ps s0_ (State.startPort p s) := by
  unfold State.startPort
  try dsimp only
  repeat' (first | with_reducible assumption | (with_reducible first | (apply State.enterStage1_only)) | (exact within_trans rfl hW) | split | (with_reducible intro _) )

theorem State.setDevice_only (n : Nat) (f : Device → Device) (s : State) {ps : List Part} {s0_ : State} (hO : OnlyChanges ps s0_ s) (hW : within [.devices] ps = true)  : OnlyChanges ps s0_ (State.setDevice n f s) := by
  unfold State.setDevice
  try dsimp only
  repeat' (first | with_reducible assumption | (exact within_trans rfl hW) | split | (with_reducible first | (apply State.devices_update)) | ((with_reducible refine OnlyChanges.update ?_ ?_); (on_goal 2 => ((with_reducible intro p hp); (fail_if_success (with_reducible exact Part.same_refl _ _)); cases p <;> first | exact (OnlyChanges.mem hW hp rfl).elim | exact rfl | (and_intros <;> exact rfl)))) | (with_reducible intro _) )

theorem State.setExtent_only (n : Nat) (f : Extent → Extent) (s : State) {ps : List Part} {s0_ : State} (hO : OnlyChanges ps s0_ s) (hW : within [.extents] ps = true)  : OnlyChanges ps s0_ (State.setExtent n f s) := by
  unfold State.setExtent
  try dsimp only
  repeat' (first | with_reducible assumption | (exact within_trans rfl hW) | split | (with_reducible first | (apply State.extents_update)) | ((with_reducible refine OnlyChanges.update ?_ ?_); (on_goal 2 => ((with_reducible intro p hp); (fail_if_success (with_reducible exact Part.same_refl _ _)); cases p <;> first | exact (OnlyChanges.mem hW hp rfl).elim | exact rfl | (and_intros <;> exact rfl)))) | (with_reducible intro _) )

theorem State.setExtState_only (x : Nat) (st : Nat) (s : State) {ps : List Part} {s0_ : State} (hO : OnlyChanges ps s0_ s) (hW : within [.extents, .mirror] ps = true)  : OnlyChanges ps s0_ (State.setExtState x st s) := by
  unfold State.setExtState
  try dsimp only
  repeat' (first | with_reducible assumption | (with_reducible first | (apply State.mirror_only) | (apply State.setExtent_only)) | (exact within_trans rfl hW) | split | (with_reducible intro _) )

theorem State.discardLines_only (h : Lines) (s : State) {ps : List Part} {s0_ : State} (hO : OnlyChanges ps s0_ s) (hW : within [.poolLines, .sources, .views] ps = true)  : OnlyChanges ps s0_ (State.discardLines h s) := by
  unfold State.discardLines
  try dsimp only
  repeat' (first | with_reducible assumption | (with_reducible first | (apply State.raise_only) | (apply State.countBy_only)) | (exact within_trans rfl hW) | split | (with_reducible first | (apply State.poolLines_update)) | ((with_reducible refine OnlyChanges.update ?_ ?_); (on_goal 2 => ((with_reducible intro p hp); (fail_if_success (with_reducible exact Part.same_refl _ _)); cases p <;> first | exact (OnlyChanges.mem hW hp rfl).elim | exact rfl | (and_intros <;> exact rfl)))) | (with_reducible intro _) )

theorem State.dropLines_only (x : Nat) (s : State) {ps : List Part} {s0_ : State} (hO : OnlyChanges ps s0_ s) (hW : within [.poolLines, .sources, .views] ps = true)  : OnlyChanges ps s0_ (State.dropLines x s) := by
  unfold State.dropLines
  try dsimp only
  repeat' (first | with_reducible assumption | (with_reducible first | (apply State.each_only) | (apply State.discardLines_only)) | (exact within_trans rfl hW) | split | (with_reducible intro _) )

theorem State.refreshExtents_only (s : State) {ps : List Part} {s0_ : State} (hO : OnlyChanges ps s0_ s) (hW : within [.extents, .poolLines, .sources, .mirror, .views] ps = true)  : OnlyChanges ps s0_ (State.refreshExtents s) := by
  unfold State.refreshExtents
  try dsimp only
  repeat' (first | with_reducible assumption | (with_reducible first | (apply State.each_only) | (apply State.setExtent_only) | (apply State.setExtState_only) | (apply State.dropLines_only)) | (exact within_trans rfl hW) | split | (with_reducible intro _) )

theorem State.deviceLink_only (p : Nat) (up : Bool) (ld : Option Nat) (s : State) {ps : List Part} {s0_ : State} (hO : OnlyChanges ps s0_ s) (hW : within [.devices, .extents, .poolLines, .sources, .mirror, .views, .outputs] ps = true)  : OnlyChanges ps s0_ (State.deviceLink p up ld s) := by
  unfold State.deviceLink
  try dsimp only
  repeat' (first | with_reducible assumption | (with_reducible first | (apply State.each_only) | (apply State.emit_only) | (apply State.setDevice_only) | (apply State.raise_only) | (apply State.setExtent_only) | (apply State.setExtState_only) | (apply State.refreshExtents_only)) | (exact within_trans rfl hW) | split | (with_reducible intro _) )

theorem State.reportEntry_only (t : Track) (s : State) {ps : List Part} {s0_ : State} (hO : OnlyChanges ps s0_ s) (hW : within [.groups, .lanes, .ports, .scans, .paths, .hiers, .bridges, .outputs] ps = true)  : OnlyChanges ps s0_ (State.reportEntry t s) := by
  unfold State.reportEntry
  try dsimp only
  repeat' (first | with_reducible assumption | (with_reducible first | (apply State.reportAs_only)) | (exact within_trans rfl hW) | split | (with_reducible intro _) )

theorem State.endpointReset_only (v : Nat) (e : Nat) (s : State) {ps : List Part} {s0_ : State} (hO : OnlyChanges ps s0_ s) (hW : within [.groups, .lanes, .ports, .scans, .paths, .hiers, .bridges, .tracker, .trunks, .poolEvents, .ledger, .homeSlots, .departed, .funcs, .masterWait, .sources, .mirror, .views, .outputs] ps = true)  : OnlyChanges ps s0_ (State.endpointReset v e s) := by
  unfold State.endpointReset
  try dsimp only
  repeat' (first | with_reducible assumption | (with_reducible first | (apply State.each_only) | (apply State.ifDo_only) | (apply State.bump_only) | (apply State.expire_only) | (apply State.reportEntry_only) | (apply State.emit_only) | (apply State.depart_only)) | (exact within_trans rfl hW) | split | (with_reducible first | (apply State.poolEvents_update)) | ((with_reducible refine OnlyChanges.update ?_ ?_); (on_goal 2 => ((with_reducible intro p hp); (fail_if_success (with_reducible exact Part.same_refl _ _)); cases p <;> first | exact (OnlyChanges.mem hW hp rfl).elim | exact rfl | (and_intros <;> exact rfl)))) | (with_reducible intro _) )

theorem State.targetReset_only (v : Nat) (b : Nat) (entry : Nat) (s : State) {ps : List Part} {s0_ : State} (hO : OnlyChanges ps s0_ s) (hW : within [.inflight, .groups, .lanes, .ports, .scans, .frames, .matcher, .paths, .hiers, .bridges, .tracker, .pwf, .trunks, .devices, .extents, .poolLines, .poolEvents, .ledger, .homeSlots, .departed, .qps, .cqs, .regions, .funcs, .vectors, .instances, .masterWait, .irqPending, .sources, .mirror, .views, .outputs, .free] ps = true)  : OnlyChanges ps s0_ (State.targetReset v b entry s) := by
  unfold State.targetReset
  try dsimp only
  repeat' (first | with_reducible assumption | (with_reducible first | (apply State.bridgeLink_only) | (apply State.portDownFree_only) | (apply State.emit_only) | (apply State.startPort_only) | (apply State.placeDown_only) | (apply State.setPort_only) | (apply State.deviceLink_only) | (apply State.endpointReset_only)) | (exact within_trans rfl hW) | split | (with_reducible intro _) )

theorem State.setSlot_only (p : Nat) (f : Slot → Slot) (s : State) {ps : List Part} {s0_ : State} (hO : OnlyChanges ps s0_ s) (hW : within [.slots] ps = true)  : OnlyChanges ps s0_ (State.setSlot p f s) := by
  unfold State.setSlot
  try dsimp only
  repeat' (first | with_reducible assumption | (exact within_trans rfl hW) | split | (with_reducible first | (apply State.slots_update)) | ((with_reducible refine OnlyChanges.update ?_ ?_); (on_goal 2 => ((with_reducible intro p hp); (fail_if_success (with_reducible exact Part.same_refl _ _)); cases p <;> first | exact (OnlyChanges.mem hW hp rfl).elim | exact rfl | (and_intros <;> exact rfl)))) | (with_reducible intro _) )

theorem State.resetDone_only (i : Nat) (s : State) {ps : List Part} {s0_ : State} (hO : OnlyChanges ps s0_ s) (hW : within [.groups, .lanes, .ports, .scans, .funcs, .vectors, .instances, .mirror, .views, .outputs] ps = true)  : OnlyChanges ps s0_ (State.resetDone i s) := by
  unfold State.resetDone
  try dsimp only
  repeat' (first | with_reducible assumption | (with_reducible first | (apply State.bump_only) | (apply State.setInst_only) | (apply State.causeEvent_only)) | (exact within_trans rfl hW) | split | (with_reducible intro _) )

theorem State.askReset_only (i : Nat) (mode : Nat) (s : State) {ps : List Part} {s0_ : State} (hO : OnlyChanges ps s0_ s) (hW : within [.groups, .lanes, .ports, .scans, .funcs, .vectors, .instances, .mirror, .views, .outputs] ps = true)  : OnlyChanges ps s0_ (State.askReset i mode s) := by
  unfold State.askReset
  try dsimp only
  repeat' (first | with_reducible assumption | (with_reducible first | (apply State.resetDone_only) | (apply State.setInst_only)) | (exact within_trans rfl hW) | split | (with_reducible intro _) )

theorem State.functionReset_only (v : Nat) (s : State) {ps : List Part} {s0_ : State} (hO : OnlyChanges ps s0_ s) (hW : within [.groups, .lanes, .ports, .scans, .funcs, .vectors, .instances, .cmdOrder, .mirror, .sessions, .views, .outputs] ps = true)  : OnlyChanges ps s0_ (State.functionReset v s) := by
  unfold State.functionReset
  try dsimp only
  repeat' (first | with_reducible assumption | (with_reducible first | (apply State.setFunc_only) | (apply State.each_only) | (apply State.askReset_only)) | (exact within_trans rfl hW) | split | (with_reducible first | (apply State.vectors_update) | (apply State.cmdOrder_update) | (apply State.sessions_update)) | ((with_reducible refine OnlyChanges.update ?_ ?_); (on_goal 2 => ((with_reducible intro p hp); (fail_if_success (with_reducible exact Part.same_refl _ _)); cases p <;> first | exact (OnlyChanges.mem hW hp rfl).elim | exact rfl | (and_intros <;> exact rfl)))) | (with_reducible intro _) )

theorem State.peerEvent_only (v : Nat) (ringer : Bool) (s : State) {ps : List Part} {s0_ : State} (hO : OnlyChanges ps s0_ s) (hW : within [.channels] ps = true)  : OnlyChanges ps s0_ (State.peerEvent v ringer s) := by
  unfold State.peerEvent
  try dsimp only
  repeat' (first | with_reducible assumption | (with_reducible first | (apply State.each_only)) | (exact within_trans rfl hW) | split | (with_reducible first | (apply State.channels_update)) | ((with_reducible refine OnlyChanges.update ?_ ?_); (on_goal 2 => ((with_reducible intro p hp); (fail_if_success (with_reducible exact Part.same_refl _ _)); cases p <;> first | exact (OnlyChanges.mem hW hp rfl).elim | exact rfl | (and_intros <;> exact rfl)))) | (with_reducible intro _) )

theorem State.discardHold_only (h : Hold) (s : State) {ps : List Part} {s0_ : State} (hO : OnlyChanges ps s0_ s) (hW : within [.tracker, .sources, .views] ps = true)  : OnlyChanges ps s0_ (State.discardHold h s) := by
  unfold State.discardHold
  try dsimp only
  repeat' (first | with_reducible assumption | (with_reducible first | (apply State.raise_only) | (apply State.bump_only)) | (exact within_trans rfl hW) | split | (with_reducible first | (apply State.tracker_update)) | ((with_reducible refine OnlyChanges.update ?_ ?_); (on_goal 2 => ((with_reducible intro p hp); (fail_if_success (with_reducible exact Part.same_refl _ _)); cases p <;> first | exact (OnlyChanges.mem hW hp rfl).elim | exact rfl | (and_intros <;> exact rfl)))) | (with_reducible intro _) )

theorem State.hierReset_only (v : Nat) (s : State) {ps : List Part} {s0_ : State} (hO : OnlyChanges ps s0_ s) (hW : within [.inflight, .groups, .lanes, .ports, .scans, .frames, .matcher, .paths, .hiers, .bridges, .slots, .tracker, .channels, .pwf, .trunks, .devices, .extents, .poolLines, .poolEvents, .ledger, .homeSlots, .departed, .qps, .cqs, .regions, .funcs, .vectors, .instances, .cmdOrder, .masterWait, .irqPending, .sources, .mirror, .sessions, .views, .outputs, .free] ps = true)  : OnlyChanges ps s0_ (State.hierReset v s) := by
  unfold State.hierReset
  extract_lets -underBinder s1 mine s2 s3 freed s4 clean src s4b s5 owned s5b s6 s7 holds
  have h_s1 : OnlyChanges ps s0_ s1 := by
    simp only [s1]
    repeat' (first | with_reducible assumption | (with_reducible first | (apply State.placeDown_only) | (apply State.departAll_only) | (apply State.each_only) | (apply State.expire_only) | (apply State.targetReset_only) | (apply State.setPort_only) | (apply State.setSlot_only) | (apply State.setHier_only) | (apply State.setFunc_only) | (apply State.functionReset_only) | (apply State.peerEvent_only) | (apply State.discardHold_only)) | (exact within_trans rfl hW) | split | (with_reducible first | (apply State.bridges_update)) | ((with_reducible refine OnlyChanges.update ?_ ?_); (on_goal 2 => ((with_reducible intro p hp); (fail_if_success (with_reducible exact Part.same_refl _ _)); cases p <;> first | exact (OnlyChanges.mem hW hp rfl).elim | exact rfl | (and_intros <;> exact rfl)))) | (with_reducible intro _) )
  clear_value s1
  have h_s2 : OnlyChanges ps s0_ s2 := by
    simp only [s2]
    repeat' (first | with_reducible assumption | (with_reducible first | (apply State.placeDown_only) | (apply State.departAll_only) | (apply State.each_only) | (apply State.expire_only) | (apply State.targetReset_only) | (apply State.setPort_only) | (apply State.setSlot_only) | (apply State.setHier_only) | (apply State.setFunc_only) | (apply State.functionReset_only) | (apply State.peerEvent_only) | (apply State.discardHold_only)) | (exact within_trans rfl hW) | split | (with_reducible first | (apply State.bridges_update)) | ((with_reducible refine OnlyChanges.update ?_ ?_); (on_goal 2 => ((with_reducible intro p hp); (fail_if_success (with_reducible exact Part.same_refl _ _)); cases p <;> first | exact (OnlyChanges.mem hW hp rfl).elim | exact rfl | (and_intros <;> exact rfl)))) | (with_reducible intro _) )
  clear_value s2
  have h_s3 : OnlyChanges ps s0_ s3 := by
    simp only [s3]
    repeat' (first | with_reducible assumption | (with_reducible first | (apply State.placeDown_only) | (apply State.departAll_only) | (apply State.each_only) | (apply State.expire_only) | (apply State.targetReset_only) | (apply State.setPort_only) | (apply State.setSlot_only) | (apply State.setHier_only) | (apply State.setFunc_only) | (apply State.functionReset_only) | (apply State.peerEvent_only) | (apply State.discardHold_only)) | (exact within_trans rfl hW) | split | (with_reducible first | (apply State.bridges_update)) | ((with_reducible refine OnlyChanges.update ?_ ?_); (on_goal 2 => ((with_reducible intro p hp); (fail_if_success (with_reducible exact Part.same_refl _ _)); cases p <;> first | exact (OnlyChanges.mem hW hp rfl).elim | exact rfl | (and_intros <;> exact rfl)))) | (with_reducible intro _) )
  clear_value s3
  have h_s4 : OnlyChanges ps s0_ s4 := by
    simp only [s4]
    repeat' (first | with_reducible assumption | (with_reducible first | (apply State.placeDown_only) | (apply State.departAll_only) | (apply State.each_only) | (apply State.expire_only) | (apply State.targetReset_only) | (apply State.setPort_only) | (apply State.setSlot_only) | (apply State.setHier_only) | (apply State.setFunc_only) | (apply State.functionReset_only) | (apply State.peerEvent_only) | (apply State.discardHold_only)) | (exact within_trans rfl hW) | split | (with_reducible first | (apply State.bridges_update)) | ((with_reducible refine OnlyChanges.update ?_ ?_); (on_goal 2 => ((with_reducible intro p hp); (fail_if_success (with_reducible exact Part.same_refl _ _)); cases p <;> first | exact (OnlyChanges.mem hW hp rfl).elim | exact rfl | (and_intros <;> exact rfl)))) | (with_reducible intro _) )
  clear_value s4
  have h_s4b : OnlyChanges ps s0_ s4b := by
    simp only [s4b]
    repeat' (first | with_reducible assumption | (with_reducible first | (apply State.placeDown_only) | (apply State.departAll_only) | (apply State.each_only) | (apply State.expire_only) | (apply State.targetReset_only) | (apply State.setPort_only) | (apply State.setSlot_only) | (apply State.setHier_only) | (apply State.setFunc_only) | (apply State.functionReset_only) | (apply State.peerEvent_only) | (apply State.discardHold_only)) | (exact within_trans rfl hW) | split | (with_reducible first | (apply State.bridges_update)) | ((with_reducible refine OnlyChanges.update ?_ ?_); (on_goal 2 => ((with_reducible intro p hp); (fail_if_success (with_reducible exact Part.same_refl _ _)); cases p <;> first | exact (OnlyChanges.mem hW hp rfl).elim | exact rfl | (and_intros <;> exact rfl)))) | (with_reducible intro _) )
  clear_value s4b
  have h_s5 : OnlyChanges ps s0_ s5 := by
    simp only [s5]
    repeat' (first | with_reducible assumption | (with_reducible first | (apply State.placeDown_only) | (apply State.departAll_only) | (apply State.each_only) | (apply State.expire_only) | (apply State.targetReset_only) | (apply State.setPort_only) | (apply State.setSlot_only) | (apply State.setHier_only) | (apply State.setFunc_only) | (apply State.functionReset_only) | (apply State.peerEvent_only) | (apply State.discardHold_only)) | (exact within_trans rfl hW) | split | (with_reducible first | (apply State.bridges_update)) | ((with_reducible refine OnlyChanges.update ?_ ?_); (on_goal 2 => ((with_reducible intro p hp); (fail_if_success (with_reducible exact Part.same_refl _ _)); cases p <;> first | exact (OnlyChanges.mem hW hp rfl).elim | exact rfl | (and_intros <;> exact rfl)))) | (with_reducible intro _) )
  clear_value s5
  have h_s5b : OnlyChanges ps s0_ s5b := by
    simp only [s5b]
    repeat' (first | with_reducible assumption | (with_reducible first | (apply State.placeDown_only) | (apply State.departAll_only) | (apply State.each_only) | (apply State.expire_only) | (apply State.targetReset_only) | (apply State.setPort_only) | (apply State.setSlot_only) | (apply State.setHier_only) | (apply State.setFunc_only) | (apply State.functionReset_only) | (apply State.peerEvent_only) | (apply State.discardHold_only)) | (exact within_trans rfl hW) | split | (with_reducible first | (apply State.bridges_update)) | ((with_reducible refine OnlyChanges.update ?_ ?_); (on_goal 2 => ((with_reducible intro p hp); (fail_if_success (with_reducible exact Part.same_refl _ _)); cases p <;> first | exact (OnlyChanges.mem hW hp rfl).elim | exact rfl | (and_intros <;> exact rfl)))) | (with_reducible intro _) )
  clear_value s5b
  have h_s6 : OnlyChanges ps s0_ s6 := by
    simp only [s6]
    repeat' (first | with_reducible assumption | (with_reducible first | (apply State.placeDown_only) | (apply State.departAll_only) | (apply State.each_only) | (apply State.expire_only) | (apply State.targetReset_only) | (apply State.setPort_only) | (apply State.setSlot_only) | (apply State.setHier_only) | (apply State.setFunc_only) | (apply State.functionReset_only) | (apply State.peerEvent_only) | (apply State.discardHold_only)) | (exact within_trans rfl hW) | split | (with_reducible first | (apply State.bridges_update)) | ((with_reducible refine OnlyChanges.update ?_ ?_); (on_goal 2 => ((with_reducible intro p hp); (fail_if_success (with_reducible exact Part.same_refl _ _)); cases p <;> first | exact (OnlyChanges.mem hW hp rfl).elim | exact rfl | (and_intros <;> exact rfl)))) | (with_reducible intro _) )
  clear_value s6
  have h_s7 : OnlyChanges ps s0_ s7 := by
    simp only [s7]
    repeat' (first | with_reducible assumption | (with_reducible first | (apply State.placeDown_only) | (apply State.departAll_only) | (apply State.each_only) | (apply State.expire_only) | (apply State.targetReset_only) | (apply State.setPort_only) | (apply State.setSlot_only) | (apply State.setHier_only) | (apply State.setFunc_only) | (apply State.functionReset_only) | (apply State.peerEvent_only) | (apply State.discardHold_only)) | (exact within_trans rfl hW) | split | (with_reducible first | (apply State.bridges_update)) | ((with_reducible refine OnlyChanges.update ?_ ?_); (on_goal 2 => ((with_reducible intro p hp); (fail_if_success (with_reducible exact Part.same_refl _ _)); cases p <;> first | exact (OnlyChanges.mem hW hp rfl).elim | exact rfl | (and_intros <;> exact rfl)))) | (with_reducible intro _) )
  clear_value s7
  repeat' (first | with_reducible assumption | (with_reducible first | (apply State.placeDown_only) | (apply State.departAll_only) | (apply State.each_only) | (apply State.expire_only) | (apply State.targetReset_only) | (apply State.setPort_only) | (apply State.setSlot_only) | (apply State.setHier_only) | (apply State.setFunc_only) | (apply State.functionReset_only) | (apply State.peerEvent_only) | (apply State.discardHold_only)) | (exact within_trans rfl hW) | split | (with_reducible first | (apply State.bridges_update)) | ((with_reducible refine OnlyChanges.update ?_ ?_); (on_goal 2 => ((with_reducible intro p hp); (fail_if_success (with_reducible exact Part.same_refl _ _)); cases p <;> first | exact (OnlyChanges.mem hW hp rfl).elim | exact rfl | (and_intros <;> exact rfl)))) | (with_reducible intro _) )

theorem State.dropWaiting_only (p : Nat) (s : State) {ps : List Part} {s0_ : State} (hO : OnlyChanges ps s0_ s) (hW : within [.inflight, .frames, .tracker, .outputs] ps = true)  : OnlyChanges ps s0_ (State.dropWaiting p s) := by
  unfold State.dropWaiting
  try dsimp only
  repeat' (first | with_reducible assumption | (with_reducible first | (apply State.each_only) | (apply State.dropFrame_only)) | (exact within_trans rfl hW) | split | (with_reducible first | (apply State.tracker_update)) | ((with_reducible refine OnlyChanges.update ?_ ?_); (on_goal 2 => ((with_reducible intro p hp); (fail_if_success (with_reducible exact Part.same_refl _ _)); cases p <;> first | exact (OnlyChanges.mem hW hp rfl).elim | exact rfl | (and_intros <;> exact rfl)))) | (with_reducible intro _) )

theorem State.failEntries_only (p : Nat) (s : State) {ps : List Part} {s0_ : State} (hO : OnlyChanges ps s0_ s) (hW : within [.groups, .lanes, .ports, .scans, .paths, .hiers, .bridges, .tracker, .views, .outputs] ps = true)  : OnlyChanges ps s0_ (State.failEntries p s) := by
  unfold State.failEntries
  try dsimp only
  repeat' (first | with_reducible assumption | (with_reducible first | (apply State.each_only) | (apply State.ifDo_only) | (apply State.bump_only) | (apply State.expire_only) | (apply State.reportEntry_only)) | (exact within_trans rfl hW) | split | (with_reducible intro _) )

theorem State.failPath_only (p : Nat) (s : State) {ps : List Part} {s0_ : State} (hO : OnlyChanges ps s0_ s) (hW : within [.paths, .sources] ps = true)  : OnlyChanges ps s0_ (State.failPath p s) := by
  unfold State.failPath
  try dsimp only
  repeat' (first | with_reducible assumption | (with_reducible first | (apply State.ifDo_only) | (apply State.raise_only) | (apply State.each_only) | (apply State.setBucket_only)) | (exact within_trans rfl hW) | split | (with_reducible first | (apply State.paths_update)) | ((with_reducible refine OnlyChanges.update ?_ ?_); (on_goal 2 => ((with_reducible intro p hp); (fail_if_success (with_reducible exact Part.same_refl _ _)); cases p <;> first | exact (OnlyChanges.mem hW hp rfl).elim | exact rfl | (and_intros <;> exact rfl)))) | (with_reducible intro _) )

theorem State.pathDown_only (p : Nat) (s : State) {ps : List Part} {s0_ : State} (hO : OnlyChanges ps s0_ s) (hW : within [.inflight, .groups, .lanes, .ports, .scans, .frames, .paths, .hiers, .bridges, .tracker, .pwf, .funcs, .vectors, .instances, .sources, .mirror, .views, .outputs] ps = true)  : OnlyChanges ps s0_ (State.pathDown p s) := by
  unfold State.pathDown
  try dsimp only
  repeat' (first | with_reducible assumption | (with_reducible first | (apply State.dropWaiting_only) | (apply State.failEntries_only) | (apply State.failPath_only) | (apply State.each_only) | (apply State.discardQueued_only)) | (exact within_trans rfl hW) | split | (with_reducible intro _) )

theorem State.trunkDown_only (p : Nat) (s : State) {ps : List Part} {s0_ : State} (hO : OnlyChanges ps s0_ s) (hW : within [.inflight, .ports, .frames, .matcher, .tracker, .trunks, .sources, .mirror, .views, .outputs] ps = true)  : OnlyChanges ps s0_ (State.trunkDown p s) := by
  unfold State.trunkDown
  try dsimp only
  repeat' (first | with_reducible assumption | (with_reducible first | (apply State.frameBad_only) | (apply State.setTrunk_only)) | (exact within_trans rfl hW) | split | (with_reducible first | (apply State.mirror_update)) | ((with_reducible refine OnlyChanges.update ?_ ?_); (on_goal 2 => ((with_reducible intro p hp); (fail_if_success (with_reducible exact Part.same_refl _ _)); cases p <;> first | exact (OnlyChanges.mem hW hp rfl).elim | exact rfl | (and_intros <;> exact rfl)))) | (with_reducible intro _) )

theorem State.linkGone_only (p : Nat) (status : Nat) (s0 : State) {ps : List Part} {s0_ : State} (hO : OnlyChanges ps s0_ s0) (hW : within [.inflight, .groups, .lanes, .ports, .scans, .frames, .matcher, .paths, .hiers, .bridges, .slots, .tracker, .channels, .pwf, .trunks, .devices, .extents, .poolLines, .poolEvents, .ledger, .homeSlots, .departed, .qps, .cqs, .regions, .funcs, .vectors, .instances, .cmdOrder, .masterWait, .irqPending, .sources, .mirror, .sessions, .views, .outputs, .free] ps = true)  : OnlyChanges ps s0_ (State.linkGone p status s0) := by
  unfold State.linkGone
  extract_lets -underBinder s s1
  have h_s : OnlyChanges ps s0_ s := by
    simp only [s]
    repeat' (first | with_reducible assumption | (with_reducible first | (apply State.setPort_only) | (apply State.hierReset_only) | (apply State.placeDown_only) | (apply State.deviceLink_only) | (apply State.ifDo_only) | (apply State.aer_only) | (apply State.setBridge_only) | (apply State.bridgeLink_only) | (apply State.framesDown_only) | (apply State.pathDown_only) | (apply State.trunkDown_only) | (apply State.setSlot_only)) | (exact within_trans rfl hW) | split | (with_reducible intro _) )
  clear_value s
  have h_s1 : OnlyChanges ps s0_ s1 := by
    simp only [s1]
    repeat' (first | with_reducible assumption | (with_reducible first | (apply State.setPort_only) | (apply State.hierReset_only) | (apply State.placeDown_only) | (apply State.deviceLink_only) | (apply State.ifDo_only) | (apply State.aer_only) | (apply State.setBridge_only) | (apply State.bridgeLink_only) | (apply State.framesDown_only) | (apply State.pathDown_only) | (apply State.trunkDown_only) | (apply State.setSlot_only)) | (exact within_trans rfl hW) | split | (with_reducible intro _) )
  clear_value s1
  repeat' (first | with_reducible assumption | (with_reducible first | (apply State.setPort_only) | (apply State.hierReset_only) | (apply State.placeDown_only) | (apply State.deviceLink_only) | (apply State.ifDo_only) | (apply State.aer_only) | (apply State.setBridge_only) | (apply State.bridgeLink_only) | (apply State.framesDown_only) | (apply State.pathDown_only) | (apply State.trunkDown_only) | (apply State.setSlot_only)) | (exact within_trans rfl hW) | split | (with_reducible intro _) )

theorem State.commitPortsDown_only (u : Tbl Nat) (s : State) {ps : List Part} {s0_ : State} (hO : OnlyChanges ps s0_ s) (hW : within [.inflight, .groups, .lanes, .ports, .scans, .frames, .matcher, .paths, .hiers, .bridges, .slots, .tracker, .channels, .pwf, .trunks, .devices, .extents, .poolLines, .poolEvents, .ledger, .homeSlots, .departed, .qps, .cqs, .regions, .funcs, .vectors, .instances, .cmdOrder, .masterWait, .irqPending, .sources, .mirror, .sessions, .views, .outputs, .free] ps = true)  : OnlyChanges ps s0_ (State.commitPortsDown u s) := by
  unfold State.commitPortsDown
  try dsimp only
  repeat' (first | with_reducible assumption | (with_reducible first | (apply State.each_only) | (apply State.portDown_only) | (apply State.linkGone_only) | (apply State.setPort_only)) | (exact within_trans rfl hW) | split | (with_reducible intro _) )

theorem State.bridgePresence_only (v : Nat) (b : Nat) (isOn : Bool) (s : State) {ps : List Part} {s0_ : State} (hO : OnlyChanges ps s0_ s) (hW : within [.groups, .lanes, .ports, .scans, .hiers, .bridges, .mirror, .outputs] ps = true)  : OnlyChanges ps s0_ (State.bridgePresence v b isOn s) := by
  unfold State.bridgePresence
  try dsimp only
  repeat' (first | with_reducible assumption | (with_reducible first | (apply State.hotplug_only) | (apply State.setBridge_only)) | (exact within_trans rfl hW) | split | (with_reducible intro _) )

theorem State.commitUnbind_only (u : Tbl Nat) (s : State) {ps : List Part} {s0_ : State} (hO : OnlyChanges ps s0_ s) (hW : within [.inflight, .groups, .lanes, .ports, .scans, .frames, .matcher, .paths, .hiers, .bridges, .slots, .tracker, .pwf, .trunks, .devices, .extents, .poolLines, .poolEvents, .ledger, .homeSlots, .departed, .qps, .cqs, .regions, .funcs, .vectors, .instances, .masterWait, .irqPending, .sources, .mirror, .views, .outputs, .free] ps = true)  : OnlyChanges ps s0_ (State.commitUnbind u s) := by
  unfold State.commitUnbind
  try dsimp only
  repeat' (first | with_reducible assumption | (with_reducible first | (apply State.each_only) | (apply State.setBridge_only) | (apply State.bridgeLink_only) | (apply State.bridgePresence_only) | (apply State.setSlot_only) | (apply State.setPort_only) | (apply State.targetReset_only)) | (exact within_trans rfl hW) | split | (with_reducible intro _) )

theorem State.bucketCheck_only (old : Tbl Nat) (m : Nat) (b : Nat) (s : State) {ps : List Part} {s0_ : State} (hO : OnlyChanges ps s0_ s) (hW : within [.paths, .views] ps = true)  : OnlyChanges ps s0_ (State.bucketCheck old m b s) := by
  unfold State.bucketCheck
  try dsimp only
  repeat' (first | with_reducible assumption | (with_reducible first | (apply State.setBucket_only) | (apply State.bump_only)) | (exact within_trans rfl hW) | split | (with_reducible intro _) )

theorem State.bucketChecks_only (old : Tbl Nat) (s : State) {ps : List Part} {s0_ : State} (hO : OnlyChanges ps s0_ s) (hW : within [.paths, .views] ps = true)  : OnlyChanges ps s0_ (State.bucketChecks old s) := by
  unfold State.bucketChecks
  try dsimp only
  repeat' (first | with_reducible assumption | (with_reducible first | (apply State.each_only) | (apply State.bucketCheck_only)) | (exact within_trans rfl hW) | split | (with_reducible intro _) )

theorem State.enterRecovery_only (p : Nat) (s : State) {ps : List Part} {s0_ : State} (hO : OnlyChanges ps s0_ s) (hW : within [.lanes, .ports, .scans] ps = true)  : OnlyChanges ps s0_ (State.enterRecovery p s) := by
  unfold State.enterRecovery
  try dsimp only
  repeat' (first | with_reducible assumption | (with_reducible first | (apply State.setPort_only) | (apply State.scanCheck_only) | (apply State.each_only) | (apply State.setLane_only)) | (exact within_trans rfl hW) | split | (with_reducible intro _) )

theorem State.peerCheck_only (p : Nat) (s : State) {ps : List Part} {s0_ : State} (hO : OnlyChanges ps s0_ s) (hW : within [.inflight, .groups, .lanes, .ports, .scans, .frames, .paths, .hiers, .bridges, .tracker, .pwf, .trunks, .funcs, .vectors, .instances, .sources, .mirror, .views, .outputs] ps = true)  : OnlyChanges ps s0_ (State.peerCheck p s) := by
  unfold State.peerCheck
  try dsimp only
  repeat' (first | with_reducible assumption | (with_reducible first | (apply State.setTrunk_only) | (apply State.raise_only) | (apply State.pathDown_only)) | (exact within_trans rfl hW) | split | (with_reducible intro _) )

theorem State.commitPortsUp_only (t : Tbl Nat) (s : State) {ps : List Part} {s0_ : State} (hO : OnlyChanges ps s0_ s) (hW : within [.inflight, .groups, .lanes, .ports, .scans, .frames, .paths, .hiers, .bridges, .tracker, .pwf, .trunks, .funcs, .vectors, .instances, .sources, .mirror, .views, .outputs] ps = true)  : OnlyChanges ps s0_ (State.commitPortsUp t s) := by
  unfold State.commitPortsUp
  try dsimp only
  repeat' (first | with_reducible assumption | (with_reducible first | (apply State.each_only) | (apply State.setPort_only) | (apply State.startPort_only) | (apply State.enterRecovery_only) | (apply State.emit_only) | (apply State.peerCheck_only)) | (exact within_trans rfl hW) | split | (with_reducible intro _) )

theorem State.joinPerst_only (n : Nat) (s : State) {ps : List Part} {s0_ : State} (hO : OnlyChanges ps s0_ s) (hW : within [.groups] ps = true)  : OnlyChanges ps s0_ (State.joinPerst n s) := by
  unfold State.joinPerst
  try dsimp only
  repeat' (first | with_reducible assumption | (with_reducible first | (apply State.setGroup_only)) | (exact within_trans rfl hW) | split | (with_reducible intro _) )

theorem State.refreshOutputs_only (n : Nat) (s : State) {ps : List Part} {s0_ : State} (hO : OnlyChanges ps s0_ s) (hW : within [.groups] ps = true)  : OnlyChanges ps s0_ (State.refreshOutputs n s) := by
  unfold State.refreshOutputs
  try dsimp only
  repeat' (first | with_reducible assumption | (with_reducible first | (apply State.setGroup_only)) | (exact within_trans rfl hW) | split | (with_reducible intro _) )

theorem State.commitGroup_only (t : Tbl Nat) (n : Nat) (s : State) {ps : List Part} {s0_ : State} (hO : OnlyChanges ps s0_ s) (hW : within [.groups, .slots] ps = true)  : OnlyChanges ps s0_ (State.commitGroup t n s) := by
  unfold State.commitGroup
  try dsimp only
  repeat' (first | with_reducible assumption | (with_reducible first | (apply State.setGroup_only) | (apply State.refreshOutputs_only) | (apply State.each_only) | (apply State.setSlot_only)) | (exact within_trans rfl hW) | split | (with_reducible intro _) )

theorem State.setChannel_only (c : Nat) (f : Channel → Channel) (s : State) {ps : List Part} {s0_ : State} (hO : OnlyChanges ps s0_ s) (hW : within [.channels] ps = true)  : OnlyChanges ps s0_ (State.setChannel c f s) := by
  unfold State.setChannel
  try dsimp only
  repeat' (first | with_reducible assumption | (exact within_trans rfl hW) | split | (with_reducible first | (apply State.channels_update)) | ((with_reducible refine OnlyChanges.update ?_ ?_); (on_goal 2 => ((with_reducible intro p hp); (fail_if_success (with_reducible exact Part.same_refl _ _)); cases p <;> first | exact (OnlyChanges.mem hW hp rfl).elim | exact rfl | (and_intros <;> exact rfl)))) | (with_reducible intro _) )

theorem State.commitChannels_only (t : Tbl Nat) (s : State) {ps : List Part} {s0_ : State} (hO : OnlyChanges ps s0_ s) (hW : within [.channels] ps = true)  : OnlyChanges ps s0_ (State.commitChannels t s) := by
  unfold State.commitChannels
  try dsimp only
  repeat' (first | with_reducible assumption | (with_reducible first | (apply State.each_only) | (apply State.setChannel_only)) | (exact within_trans rfl hW) | split | (with_reducible intro _) )

theorem State.commitWindows_only (t : Tbl Nat) (s : State) {ps : List Part} {s0_ : State} (hO : OnlyChanges ps s0_ s) (hW : within [.tracker, .sources, .views] ps = true)  : OnlyChanges ps s0_ (State.commitWindows t s) := by
  unfold State.commitWindows
  try dsimp only
  repeat' (first | with_reducible assumption | (with_reducible first | (apply State.each_only) | (apply State.discardHold_only)) | (exact within_trans rfl hW) | split | (with_reducible intro _) )

theorem State.refreshEndpoint_only (v : Nat) (b : Nat) (e : Nat) (s : State) {ps : List Part} {s0_ : State} (hO : OnlyChanges ps s0_ s) (hW : within [.groups, .lanes, .ports, .scans, .hiers, .bridges, .mirror, .outputs] ps = true)  : OnlyChanges ps s0_ (State.refreshEndpoint v b e s) := by
  unfold State.refreshEndpoint
  try dsimp only
  repeat' (first | with_reducible assumption | (with_reducible first | (apply State.bridgeLink_only) | (apply State.bridgePresence_only)) | (exact within_trans rfl hW) | split | (with_reducible intro _) )

theorem State.hideCheck_only (v : Nat) (e : Nat) (s : State) {ps : List Part} {s0_ : State} (hO : OnlyChanges ps s0_ s) (hW : within [.extents, .sources] ps = true)  : OnlyChanges ps s0_ (State.hideCheck v e s) := by
  unfold State.hideCheck
  try dsimp only
  repeat' (first | with_reducible assumption | (with_reducible first | (apply State.raise_only)) | (exact within_trans rfl hW) | split | (with_reducible first | (apply State.extents_update)) | ((with_reducible refine OnlyChanges.update ?_ ?_); (on_goal 2 => ((with_reducible intro p hp); (fail_if_success (with_reducible exact Part.same_refl _ _)); cases p <;> first | exact (OnlyChanges.mem hW hp rfl).elim | exact rfl | (and_intros <;> exact rfl)))) | (with_reducible intro _) )

theorem State.commitBind_only (t : Tbl Nat) (s : State) {ps : List Part} {s0_ : State} (hO : OnlyChanges ps s0_ s) (hW : within [.groups, .lanes, .ports, .scans, .hiers, .bridges, .extents, .departed, .sources, .mirror, .outputs] ps = true)  : OnlyChanges ps s0_ (State.commitBind t s) := by
  unfold State.commitBind
  try dsimp only
  repeat' (first | with_reducible assumption | (with_reducible first | (apply State.each_only) | (apply State.bridgePresence_only) | (apply State.setBridge_only) | (apply State.bridgeLink_only) | (apply State.refreshEndpoint_only) | (apply State.hideCheck_only)) | (exact within_trans rfl hW) | split | (with_reducible first | (apply State.departed_update)) | ((with_reducible refine OnlyChanges.update ?_ ?_); (on_goal 2 => ((with_reducible intro p hp); (fail_if_success (with_reducible exact Part.same_refl _ _)); cases p <;> first | exact (OnlyChanges.mem hW hp rfl).elim | exact rfl | (and_intros <;> exact rfl)))) | (with_reducible intro _) )

theorem State.commitDevices_only (t : Tbl Nat) (s : State) {ps : List Part} {s0_ : State} (hO : OnlyChanges ps s0_ s) (hW : within [.devices, .outputs] ps = true)  : OnlyChanges ps s0_ (State.commitDevices t s) := by
  unfold State.commitDevices
  try dsimp only
  repeat' (first | with_reducible assumption | (with_reducible first | (apply State.each_only) | (apply State.ifDo_only) | (apply State.emit_only) | (apply State.setDevice_only)) | (exact within_trans rfl hW) | split | (with_reducible intro _) )

theorem State.setInstState_only (i : Nat) (c : Nat) (s : State) {ps : List Part} {s0_ : State} (hO : OnlyChanges ps s0_ s) (hW : within [.instances, .mirror] ps = true)  : OnlyChanges ps s0_ (State.setInstState i c s) := by
  unfold State.setInstState
  try dsimp only
  repeat' (first | with_reducible assumption | (with_reducible first | (apply State.mirror_only) | (apply State.setInst_only)) | (exact within_trans rfl hW) | split | (with_reducible intro _) )

theorem State.notifyOne_only (x : Session) (code : Nat) (body : List Nat) (s : State) {ps : List Part} {s0_ : State} (hO : OnlyChanges ps s0_ s) (hW : within [.groups, .lanes, .ports, .scans, .funcs, .vectors, .instances, .sources, .mirror, .sessions, .views, .outputs] ps = true)  : OnlyChanges ps s0_ (State.notifyOne x code body s) := by
  unfold State.notifyOne
  try dsimp only
  repeat' (first | with_reducible assumption | (with_reducible first | (apply State.endSession_only) | (apply State.setSession_only) | (apply State.raise_only) | (apply State.bump_only) | (apply State.mailboxPut_only) | (apply State.emit_only)) | (exact within_trans rfl hW) | split | (with_reducible intro _) )

theorem State.notify_only (code : Nat) (dom : Nat) (body : List Nat) (s : State) {ps : List Part} {s0_ : State} (hO : OnlyChanges ps s0_ s) (hW : within [.groups, .lanes, .ports, .scans, .funcs, .vectors, .instances, .sources, .mirror, .sessions, .views, .outputs] ps = true)  : OnlyChanges ps s0_ (State.notify code dom body s) := by
  unfold State.notify
  try dsimp only
  repeat' (first | with_reducible assumption | (with_reducible first | (apply State.each_only) | (apply State.notifyOne_only)) | (exact within_trans rfl hW) | split | (with_reducible intro _) )

theorem State.domainState_only (d : Nat) (c : Nat) (s : State) {ps : List Part} {s0_ : State} (hO : OnlyChanges ps s0_ s) (hW : within [.groups, .lanes, .ports, .scans, .funcs, .vectors, .instances, .sources, .mirror, .sessions, .views, .outputs] ps = true)  : OnlyChanges ps s0_ (State.domainState d c s) := by
  unfold State.domainState
  try dsimp only
  repeat' (first | with_reducible assumption | (with_reducible first | (apply State.notify_only) | (apply State.mirror_only)) | (exact within_trans rfl hW) | split | (with_reducible intro _) )

theorem State.commitTenants_only (t : Tbl Nat) (s : State) {ps : List Part} {s0_ : State} (hO : OnlyChanges ps s0_ s) (hW : within [.groups, .lanes, .ports, .scans, .funcs, .vectors, .instances, .sources, .mirror, .sessions, .views, .outputs] ps = true)  : OnlyChanges ps s0_ (State.commitTenants t s) := by
  unfold State.commitTenants
  try dsimp only
  repeat' (first | with_reducible assumption | (with_reducible first | (apply State.each_only) | (apply State.setInstState_only) | (apply State.setInst_only) | (apply State.domainState_only)) | (exact within_trans rfl hW) | split | (with_reducible intro _) )

theorem State.startScrub_only (x : Nat) (was : Nat) (s : State) {ps : List Part} {s0_ : State} (hO : OnlyChanges ps s0_ s) (hW : within [.extents, .poolLines, .sources, .mirror, .views] ps = true)  : OnlyChanges ps s0_ (State.startScrub x was s) := by
  unfold State.startScrub
  try dsimp only
  repeat' (first | with_reducible assumption | (with_reducible first | (apply State.setExtent_only) | (apply State.setExtState_only) | (apply State.dropLines_only)) | (exact within_trans rfl hW) | split | (with_reducible intro _) )

theorem State.postEvent_only (e : Nat) (kind : Nat) (dpa : Nat) (body : Nat) (s : State) {ps : List Part} {s0_ : State} (hO : OnlyChanges ps s0_ s) (hW : within [.poolEvents] ps = true)  : OnlyChanges ps s0_ (State.postEvent e kind dpa body s) := by
  unfold State.postEvent
  try dsimp only
  repeat' (first | with_reducible assumption | (exact within_trans rfl hW) | split | (with_reducible first | (apply State.poolEvents_update)) | ((with_reducible refine OnlyChanges.update ?_ ?_); (on_goal 2 => ((with_reducible intro p hp); (fail_if_success (with_reducible exact Part.same_refl _ _)); cases p <;> first | exact (OnlyChanges.mem hW hp rfl).elim | exact rfl | (and_intros <;> exact rfl)))) | (with_reducible intro _) )

theorem State.commitExtents_only (t : Tbl Nat) (s : State) {ps : List Part} {s0_ : State} (hO : OnlyChanges ps s0_ s) (hW : within [.extents, .poolLines, .poolEvents, .sources, .mirror, .views] ps = true)  : OnlyChanges ps s0_ (State.commitExtents t s) := by
  unfold State.commitExtents
  try dsimp only
  repeat' (first | with_reducible assumption | (with_reducible first | (apply State.refreshExtents_only) | (apply State.each_only) | (apply State.startScrub_only) | (apply State.postEvent_only) | (apply State.setExtent_only) | (apply State.setExtState_only) | (apply State.dropLines_only)) | (exact within_trans rfl hW) | split | (with_reducible intro _) )

theorem State.setView_only (i : Nat) (j : Nat) (v : Nat) (s : State) {ps : List Part} {s0_ : State} (hO : OnlyChanges ps s0_ s) (hW : within [.views] ps = true)  : OnlyChanges ps s0_ (State.setView i j v s) := by
  unfold State.setView
  try dsimp only
  repeat' (first | with_reducible assumption | (exact within_trans rfl hW) | split | (with_reducible first | (apply State.views_update)) | ((with_reducible refine OnlyChanges.update ?_ ?_); (on_goal 2 => ((with_reducible intro p hp); (fail_if_success (with_reducible exact Part.same_refl _ _)); cases p <;> first | exact (OnlyChanges.mem hW hp rfl).elim | exact rfl | (and_intros <;> exact rfl)))) | (with_reducible intro _) )

theorem State.writeChecks_only (cs : List (Nat × Nat)) (s : State) {ps : List Part} {s0_ : State} (hO : OnlyChanges ps s0_ s) (hW : within [.views] ps = true)  : OnlyChanges ps s0_ (State.writeChecks cs s) := by
  unfold State.writeChecks
  try dsimp only
  repeat' (first | with_reducible assumption | (with_reducible first | (apply State.each_only) | (apply State.setView_only)) | (exact within_trans rfl hW) | split | (with_reducible intro _) )

theorem State.setCommit_only (c : CommitState) (s : State) {ps : List Part} {s0_ : State} (hO : OnlyChanges ps s0_ s) (hW : within [.commit, .groups, .lanes, .ports, .scans, .funcs, .vectors, .instances, .irqPending, .sources, .mirror, .sessions, .views, .outputs] ps = true)  : OnlyChanges ps s0_ (State.setCommit c s) := by
  unfold State.setCommit
  try dsimp only
  repeat' (first | with_reducible assumption | (with_reducible first | (apply State.interrupt_only) | (apply State.notify_only)) | (exact within_trans rfl hW) | split | (with_reducible first | (apply State.commit_update)) | ((with_reducible refine OnlyChanges.update ?_ ?_); (on_goal 2 => ((with_reducible intro p hp); (fail_if_success (with_reducible exact Part.same_refl _ _)); cases p <;> first | exact (OnlyChanges.mem hW hp rfl).elim | exact rfl | (and_intros <;> exact rfl)))) | (with_reducible intro _) )

theorem State.refuseMem_only (host : Nat) (tag : Nat) (write : Bool) (s : State) {ps : List Part} {s0_ : State} (hO : OnlyChanges ps s0_ s) (hW : within [.groups, .lanes, .ports, .scans, .hiers, .bridges, .outputs] ps = true)  : OnlyChanges ps s0_ (State.refuseMem host tag write s) := by
  unfold State.refuseMem
  try dsimp only
  repeat' (first | with_reducible assumption | (with_reducible first | (apply State.ifDo_only) | (apply State.aer_only) | (apply State.emitOn_only)) | (exact within_trans rfl hW) | split | (with_reducible intro _) )

theorem State.refuseEntry_only (f : Frame) (s : State) {ps : List Part} {s0_ : State} (hO : OnlyChanges ps s0_ s) (hW : within [.inflight, .groups, .lanes, .ports, .scans, .frames, .paths, .hiers, .bridges, .tracker, .outputs] ps = true)  : OnlyChanges ps s0_ (State.refuseEntry f s) := by
  unfold State.refuseEntry
  try dsimp only
  repeat' (first | with_reducible assumption | (with_reducible first | (apply State.reportEntry_only) | (apply State.aer_only) | (apply State.dropFrame_only)) | (exact within_trans rfl hW) | split | (with_reducible intro _) )

theorem State.refuseWaiting_only (s : State) {ps : List Part} {s0_ : State} (hO : OnlyChanges ps s0_ s) (hW : within [.inflight, .groups, .lanes, .ports, .scans, .frames, .paths, .hiers, .bridges, .tracker, .masterWait, .outputs] ps = true)  : OnlyChanges ps s0_ (State.refuseWaiting s) := by
  unfold State.refuseWaiting
  try dsimp only
  repeat' (first | with_reducible assumption | (with_reducible first | (apply State.each_only) | (apply State.refuseMem_only) | (apply State.refuseEntry_only)) | (exact within_trans rfl hW) | split | (with_reducible first | (apply State.tracker_update) | (apply State.masterWait_update)) | ((with_reducible refine OnlyChanges.update ?_ ?_); (on_goal 2 => ((with_reducible intro p hp); (fail_if_success (with_reducible exact Part.same_refl _ _)); cases p <;> first | exact (OnlyChanges.mem hW hp rfl).elim | exact rfl | (and_intros <;> exact rfl)))) | (with_reducible intro _) )

theorem State.applyCommit_only (s : State) {ps : List Part} {s0_ : State} (hO : OnlyChanges ps s0_ s) (hW : within [.epochs, .inflight, .commit, .tables, .groups, .start, .lanes, .ports, .scans, .frames, .matcher, .paths, .hiers, .bridges, .slots, .tracker, .channels, .pwf, .trunks, .devices, .extents, .poolLines, .poolEvents, .ledger, .homeSlots, .departed, .qps, .cqs, .regions, .funcs, .vectors, .instances, .cmdOrder, .masterWait, .irqPending, .sources, .mirror, .sessions, .views, .outputs, .free] ps = true)  : OnlyChanges ps s0_ (State.applyCommit s) := by
  unfold State.applyCommit
  try dsimp only
  repeat' (first | with_reducible assumption | (with_reducible first | (apply State.swapTables_only) | (apply State.commitPortsDown_only) | (apply State.commitUnbind_only) | (apply State.bucketChecks_only) | (apply State.commitPortsUp_only) | (apply State.each_only) | (apply State.joinPerst_only) | (apply State.commitGroup_only) | (apply State.commitChannels_only) | (apply State.commitWindows_only) | (apply State.commitBind_only) | (apply State.commitDevices_only) | (apply State.commitTenants_only) | (apply State.commitExtents_only) | (apply State.writeChecks_only) | (apply State.mirror_only) | (apply State.setCommit_only) | (apply State.refuseWaiting_only)) | (exact within_trans rfl hW) | split | (with_reducible first | (apply State.start_update) | (apply State.ports_update) | (apply State.matcher_update)) | ((with_reducible refine OnlyChanges.update ?_ ?_); (on_goal 2 => ((with_reducible intro p hp); (fail_if_success (with_reducible exact Part.same_refl _ _)); cases p <;> first | exact (OnlyChanges.mem hW hp rfl).elim | exact rfl | (and_intros <;> exact rfl)))) | (with_reducible intro _) )

theorem State.applyEntry_only (i : Nat) (j : Nat) (v : Nat) (s : State) {ps : List Part} {s0_ : State} (hO : OnlyChanges ps s0_ s) (hW : within [.groups, .lanes, .ports, .scans, .extents, .ledger, .homeSlots, .sources, .pairing, .mirror, .views, .outputs] ps = true)  : OnlyChanges ps s0_ (State.applyEntry i j v s) := by
  unfold State.applyEntry
  try dsimp only
  repeat' (first | with_reducible assumption | (with_reducible first | (apply State.setExtState_only) | (apply State.setExtent_only) | (apply State.each_only) | (apply State.recallPage_only) | (apply State.raise_only)) | (exact within_trans rfl hW) | split | (with_reducible first | (apply State.pairing_update)) | ((with_reducible refine OnlyChanges.update ?_ ?_); (on_goal 2 => ((with_reducible intro p hp); (fail_if_success (with_reducible exact Part.same_refl _ _)); cases p <;> first | exact (OnlyChanges.mem hW hp rfl).elim | exact rfl | (and_intros <;> exact rfl)))) | (with_reducible intro _) )

theorem State.setShadow_only (b : Nat) (t : Nat) (w : Nat) (f : Entry → Entry) (s : State) {ps : List Part} {s0_ : State} (hO : OnlyChanges ps s0_ s) (hW : within [.ledger] ps = true)  : OnlyChanges ps s0_ (State.setShadow b t w f s) := by
  unfold State.setShadow
  try dsimp only
  repeat' (first | with_reducible assumption | (exact within_trans rfl hW) | split | (with_reducible first | (apply State.ledger_update)) | ((with_reducible refine OnlyChanges.update ?_ ?_); (on_goal 2 => ((with_reducible intro p hp); (fail_if_success (with_reducible exact Part.same_refl _ _)); cases p <;> first | exact (OnlyChanges.mem hW hp rfl).elim | exact rfl | (and_intros <;> exact rfl)))) | (with_reducible intro _) )

theorem State.retryAllocs_only (s : State) {ps : List Part} {s0_ : State} (hO : OnlyChanges ps s0_ s) (hW : within [.groups, .lanes, .ports, .scans, .tracker, .trunks, .ledger, .homeSlots, .funcs, .masterWait, .sources, .mirror, .views, .outputs] ps = true)  : OnlyChanges ps s0_ (State.retryAllocs s) := by
  unfold State.retryAllocs
  try dsimp only
  repeat' (first | with_reducible assumption | (with_reducible first | (apply State.each_only) | (apply State.arrive_only)) | (exact within_trans rfl hW) | split | (with_reducible first | (apply State.homeSlots_update)) | ((with_reducible refine OnlyChanges.update ?_ ?_); (on_goal 2 => ((with_reducible intro p hp); (fail_if_success (with_reducible exact Part.same_refl _ _)); cases p <;> first | exact (OnlyChanges.mem hW hp rfl).elim | exact rfl | (and_intros <;> exact rfl)))) | (with_reducible intro _) )

theorem State.applyRecord_only (r : Record) (s : State) {ps : List Part} {s0_ : State} (hO : OnlyChanges ps s0_ s) (hW : within [.groups, .lanes, .ports, .scans, .tracker, .trunks, .extents, .ledger, .homeSlots, .funcs, .masterWait, .sources, .pairing, .mirror, .views, .outputs] ps = true)  : OnlyChanges ps s0_ (State.applyRecord r s) := by
  unfold State.applyRecord
  try dsimp only
  repeat' (first | with_reducible assumption | (with_reducible first | (apply State.bump_only) | (apply State.setShadow_only) | (apply State.retryAllocs_only) | (apply State.applyEntry_only)) | (exact within_trans rfl hW) | split | (with_reducible first | (apply State.ledger_update) | (apply State.pairing_update)) | ((with_reducible refine OnlyChanges.update ?_ ?_); (on_goal 2 => ((with_reducible intro p hp); (fail_if_success (with_reducible exact Part.same_refl _ _)); cases p <;> first | exact (OnlyChanges.mem hW hp rfl).elim | exact rfl | (and_intros <;> exact rfl)))) | (with_reducible intro _) )

theorem State.arrived_only (p : AdpPath) (s : State) {ps : List Part} {s0_ : State} (hO : OnlyChanges ps s0_ s) (hW : within [.funcs, .irqPending] ps = true)  : OnlyChanges ps s0_ (State.arrived p s) := by
  unfold State.arrived
  try dsimp only
  repeat' (first | with_reducible assumption | (with_reducible first | (apply State.interrupt_only) | (apply State.setFunc_only)) | (exact within_trans rfl hW) | split | (with_reducible intro _) )

theorem State.asLinkDown_only (f : Frame) (s : State) {ps : List Part} {s0_ : State} (hO : OnlyChanges ps s0_ s) (hW : within [.groups, .lanes, .ports, .scans, .paths, .hiers, .pwf, .funcs, .vectors, .instances, .sources, .mirror, .views, .outputs] ps = true)  : OnlyChanges ps s0_ (State.asLinkDown f s) := by
  unfold State.asLinkDown
  try dsimp only
  repeat' (first | with_reducible assumption | (with_reducible first | (apply State.bump_only) | (apply State.complete_only) | (apply State.pwfFrame_only)) | (exact within_trans rfl hW) | split | (with_reducible intro _) )

theorem State.tellTwin_only (code : Nat) (body : List Nat) (s : State) {ps : List Part} {s0_ : State} (hO : OnlyChanges ps s0_ s) (hW : within [.trunks, .mirror] ps = true)  : OnlyChanges ps s0_ (State.tellTwin code body s) := by
  unfold State.tellTwin
  try dsimp only
  repeat' (first | with_reducible assumption | (with_reducible first | (apply State.garnetSend_only)) | (exact within_trans rfl hW) | split | (with_reducible intro _) )

theorem State.askRestart_only (s : State) {ps : List Part} {s0_ : State} (hO : OnlyChanges ps s0_ s) (hW : within [.trunks, .sources, .pairing, .mirror, .views] ps = true)  : OnlyChanges ps s0_ (State.askRestart s) := by
  unfold State.askRestart
  try dsimp only
  repeat' (first | with_reducible assumption | (with_reducible first | (apply State.raise_only) | (apply State.bump_only) | (apply State.tellTwin_only)) | (exact within_trans rfl hW) | split | (with_reducible first | (apply State.pairing_update)) | ((with_reducible refine OnlyChanges.update ?_ ?_); (on_goal 2 => ((with_reducible intro p hp); (fail_if_success (with_reducible exact Part.same_refl _ _)); cases p <;> first | exact (OnlyChanges.mem hW hp rfl).elim | exact rfl | (and_intros <;> exact rfl)))) | (with_reducible intro _) )

theorem State.assertSlot_only (p : Nat) (s : State) {ps : List Part} {s0_ : State} (hO : OnlyChanges ps s0_ s) (hW : within [.groups, .lanes, .ports, .scans, .slots, .irqPending, .sources, .free] ps = true)  : OnlyChanges ps s0_ (State.assertSlot p s) := by
  unfold State.assertSlot
  try dsimp only
  repeat' (first | with_reducible assumption | (with_reducible first | (apply State.setSlot_only) | (apply State.refreshOutputs_only) | (apply State.portDownFree_only)) | (exact within_trans rfl hW) | split | (with_reducible intro _) )

theorem State.setCmd_only (v : Nat) (k : Nat) (f : CmdSlot → CmdSlot) (s : State) {ps : List Part} {s0_ : State} (hO : OnlyChanges ps s0_ s) (hW : within [.funcs] ps = true)  : OnlyChanges ps s0_ (State.setCmd v k f s) := by
  unfold State.setCmd
  try dsimp only
  repeat' (first | with_reducible assumption | (with_reducible first | (apply State.setFunc_only)) | (exact within_trans rfl hW) | split | (with_reducible intro _) )

theorem State.endCommand_only (v : Nat) (k : Nat) (result : Nat) (value : Nat) (s : State) {ps : List Part} {s0_ : State} (hO : OnlyChanges ps s0_ s) (hW : within [.groups, .lanes, .ports, .scans, .funcs, .vectors, .instances, .cmdOrder, .mirror, .views, .outputs] ps = true)  : OnlyChanges ps s0_ (State.endCommand v k result value s) := by
  unfold State.endCommand
  try dsimp only
  repeat' (first | with_reducible assumption | (with_reducible first | (apply State.mirror_only) | (apply State.setCmd_only) | (apply State.causeEvent_only)) | (exact within_trans rfl hW) | split | (with_reducible first | (apply State.cmdOrder_update)) | ((with_reducible refine OnlyChanges.update ?_ ?_); (on_goal 2 => ((with_reducible intro p hp); (fail_if_success (with_reducible exact Part.same_refl _ _)); cases p <;> first | exact (OnlyChanges.mem hW hp rfl).elim | exact rfl | (and_intros <;> exact rfl)))) | (with_reducible intro _) )

theorem State.endWith_only (v : Nat) (k : Nat) (result : Nat) (s : State) {ps : List Part} {s0_ : State} (hO : OnlyChanges ps s0_ s) (hW : within [.groups, .lanes, .ports, .scans, .funcs, .vectors, .instances, .cmdOrder, .mirror, .views, .outputs] ps = true)  : OnlyChanges ps s0_ (State.endWith v k result s) := by
  unfold State.endWith
  try dsimp only
  repeat' (first | with_reducible assumption | (with_reducible first | (apply State.endCommand_only)) | (exact within_trans rfl hW) | split | (with_reducible intro _) )

theorem State.attached_only (c : CmdSlot) (s : State) {ps : List Part} {s0_ : State} (hO : OnlyChanges ps s0_ s) (hW : within [.instances, .mirror] ps = true)  : OnlyChanges ps s0_ (State.attached c s) := by
  unfold State.attached
  try dsimp only
  repeat' (first | with_reducible assumption | (with_reducible first | (apply State.setInstState_only) | (apply State.setInst_only)) | (exact within_trans rfl hW) | split | (with_reducible intro _) )

theorem State.attach_only (v : Nat) (k : Nat) (s : State) {ps : List Part} {s0_ : State} (hO : OnlyChanges ps s0_ s) (hW : within [.groups, .lanes, .ports, .scans, .funcs, .vectors, .instances, .cmdOrder, .mirror, .views, .outputs] ps = true)  : OnlyChanges ps s0_ (State.attach v k s) := by
  unfold State.attach
  try dsimp only
  repeat' (first | with_reducible assumption | (with_reducible first | (apply State.endWith_only) | (apply State.attached_only)) | (exact within_trans rfl hW) | split | (with_reducible intro _) )

theorem State.attachRefused_only (reason : Nat) (s : State) {ps : List Part} {s0_ : State} (hO : OnlyChanges ps s0_ s) (hW : within [.sources, .pairing] ps = true)  : OnlyChanges ps s0_ (State.attachRefused reason s) := by
  unfold State.attachRefused
  try dsimp only
  repeat' (first | with_reducible assumption | (with_reducible first | (apply State.raise_only)) | (exact within_trans rfl hW) | split | (with_reducible first | (apply State.pairing_update)) | ((with_reducible refine OnlyChanges.update ?_ ?_); (on_goal 2 => ((with_reducible intro p hp); (fail_if_success (with_reducible exact Part.same_refl _ _)); cases p <;> first | exact (OnlyChanges.mem hW hp rfl).elim | exact rfl | (and_intros <;> exact rfl)))) | (with_reducible intro _) )

theorem State.barDone_only (v : Nat) (status : Nat) (value : Nat) (f : Frame) (s : State) {ps : List Part} {s0_ : State} (hO : OnlyChanges ps s0_ s) (hW : within [.groups, .lanes, .ports, .scans, .paths, .outputs] ps = true)  : OnlyChanges ps s0_ (State.barDone v status value f s) := by
  unfold State.barDone
  try dsimp only
  repeat' (first | with_reducible assumption | (with_reducible first | (apply State.complete_only)) | (exact within_trans rfl hW) | split | (with_reducible intro _) )

theorem State.barAccess_only (v : Nat) (f : Frame) (s : State) {ps : List Part} {s0_ : State} (hO : OnlyChanges ps s0_ s) (hW : within [.groups, .lanes, .ports, .scans, .paths, .sources, .views, .outputs] ps = true)  : OnlyChanges ps s0_ (State.barAccess v f s) := by
  unfold State.barAccess
  try dsimp only
  repeat' (first | with_reducible assumption | (with_reducible first | (apply State.ifDo_only) | (apply State.barDone_only) | (apply State.raise_only) | (apply State.bump_only)) | (exact within_trans rfl hW) | split | (with_reducible intro _) )

theorem State.fixHomes_only (f : Nat → Nat → Nat) (s : State) {ps : List Part} {s0_ : State} (hO : OnlyChanges ps s0_ s) (hW : within [.pairing] ps = true)  : OnlyChanges ps s0_ (State.fixHomes f s) := by
  unfold State.fixHomes
  try dsimp only
  repeat' (first | with_reducible assumption | (with_reducible first | (apply State.each_only)) | (exact within_trans rfl hW) | split | (with_reducible first | (apply State.pairing_update)) | ((with_reducible refine OnlyChanges.update ?_ ?_); (on_goal 2 => ((with_reducible intro p hp); (fail_if_success (with_reducible exact Part.same_refl _ _)); cases p <;> first | exact (OnlyChanges.mem hW hp rfl).elim | exact rfl | (and_intros <;> exact rfl)))) | (with_reducible intro _) )

theorem State.releaseHeld_only (s : State) {ps : List Part} {s0_ : State} (hO : OnlyChanges ps s0_ s) (hW : within [.mirror, .outputs] ps = true)  : OnlyChanges ps s0_ (State.releaseHeld s) := by
  unfold State.releaseHeld
  try dsimp only
  repeat' (first | with_reducible assumption | (exact within_trans rfl hW) | split | (with_reducible first | (apply State.mirror_update) | (apply State.outputs_update)) | ((with_reducible refine OnlyChanges.update ?_ ?_); (on_goal 2 => ((with_reducible intro p hp); (fail_if_success (with_reducible exact Part.same_refl _ _)); cases p <;> first | exact (OnlyChanges.mem hW hp rfl).elim | exact rfl | (and_intros <;> exact rfl)))) | (with_reducible intro _) )

theorem State.setPair_only (c : PairState) (s : State) {ps : List Part} {s0_ : State} (hO : OnlyChanges ps s0_ s) (hW : within [.groups, .lanes, .ports, .scans, .funcs, .vectors, .instances, .sources, .pairing, .mirror, .sessions, .views, .outputs] ps = true)  : OnlyChanges ps s0_ (State.setPair c s) := by
  unfold State.setPair
  try dsimp only
  repeat' (first | with_reducible assumption | (with_reducible first | (apply State.notify_only)) | (exact within_trans rfl hW) | split | (with_reducible first | (apply State.pairing_update)) | ((with_reducible refine OnlyChanges.update ?_ ?_); (on_goal 2 => ((with_reducible intro p hp); (fail_if_success (with_reducible exact Part.same_refl _ _)); cases p <;> first | exact (OnlyChanges.mem hW hp rfl).elim | exact rfl | (and_intros <;> exact rfl)))) | (with_reducible intro _) )

theorem State.becomeSingle_only (s : State) {ps : List Part} {s0_ : State} (hO : OnlyChanges ps s0_ s) (hW : within [.groups, .lanes, .ports, .scans, .tracker, .trunks, .ledger, .homeSlots, .funcs, .vectors, .instances, .masterWait, .sources, .pairing, .mirror, .sessions, .views, .outputs] ps = true)  : OnlyChanges ps s0_ (State.becomeSingle s) := by
  unfold State.becomeSingle
  try dsimp only
  repeat' (first | with_reducible assumption | (with_reducible first | (apply State.fixHomes_only) | (apply State.retryAllocs_only) | (apply State.releaseHeld_only) | (apply State.setPair_only)) | (exact within_trans rfl hW) | split | (with_reducible first | (apply State.ledger_update) | (apply State.pairing_update) | (apply State.mirror_update)) | ((with_reducible refine OnlyChanges.update ?_ ?_); (on_goal 2 => ((with_reducible intro p hp); (fail_if_success (with_reducible exact Part.same_refl _ _)); cases p <;> first | exact (OnlyChanges.mem hW hp rfl).elim | exact rfl | (and_intros <;> exact rfl)))) | (with_reducible intro _) )

theorem State.squash_only (i : Nat) (s : State) {ps : List Part} {s0_ : State} (hO : OnlyChanges ps s0_ s) (hW : within [.inflight, .frames, .paths, .tracker, .regions, .funcs, .instances, .mirror, .outputs] ps = true)  : OnlyChanges ps s0_ (State.squash i s) := by
  unfold State.squash
  try dsimp only
  repeat' (first | with_reducible assumption | (with_reducible first | (apply State.setInst_only) | (apply State.setInstState_only) | (apply State.each_only) | (apply State.dropFrame_only) | (apply State.setFunc_only) | (apply State.setRegion_only) | (apply State.fabricSend_only)) | (exact within_trans rfl hW) | split | (with_reducible intro _) )

theorem State.resetTakes_only (i : Nat) (s : State) {ps : List Part} {s0_ : State} (hO : OnlyChanges ps s0_ s) (hW : within [.inflight, .frames, .paths, .tracker, .regions, .funcs, .instances, .mirror, .outputs] ps = true)  : OnlyChanges ps s0_ (State.resetTakes i s) := by
  unfold State.resetTakes
  try dsimp only
  repeat' (first | with_reducible assumption | (with_reducible first | (apply State.setInst_only) | (apply State.setInstState_only) | (apply State.squash_only)) | (exact within_trans rfl hW) | split | (with_reducible intro _) )

theorem State.logSwap_only (i : Nat) (s : State) {ps : List Part} {s0_ : State} (hO : OnlyChanges ps s0_ s) (hW : within [.instances] ps = true)  : OnlyChanges ps s0_ (State.logSwap i s) := by
  unfold State.logSwap
  try dsimp only
  repeat' (first | with_reducible assumption | (with_reducible first | (apply State.setInst_only)) | (exact within_trans rfl hW) | split | (with_reducible intro _) )

theorem State.errqTakes_only (v : Nat) (s : State) {ps : List Part} {s0_ : State} (hO : OnlyChanges ps s0_ s) (hW : within [.funcs] ps = true)  : OnlyChanges ps s0_ (State.errqTakes v s) := by
  unfold State.errqTakes
  try dsimp only
  repeat' (first | with_reducible assumption | (with_reducible first | (apply State.setFunc_only)) | (exact within_trans rfl hW) | split | (with_reducible intro _) )

theorem State.releaseExtent_only (x : Nat) (s : State) {ps : List Part} {s0_ : State} (hO : OnlyChanges ps s0_ s) (hW : within [.extents, .mirror] ps = true)  : OnlyChanges ps s0_ (State.releaseExtent x s) := by
  unfold State.releaseExtent
  try dsimp only
  repeat' (first | with_reducible assumption | (with_reducible first | (apply State.setExtent_only) | (apply State.setExtState_only)) | (exact within_trans rfl hW) | split | (with_reducible intro _) )

theorem State.takeRequests_only (s : State) {ps : List Part} {s0_ : State} (hO : OnlyChanges ps s0_ s) (hW : within [.inflight, .frames, .paths, .tracker, .extents, .regions, .funcs, .instances, .mirror, .outputs] ps = true)  : OnlyChanges ps s0_ (State.takeRequests s) := by
  unfold State.takeRequests
  try dsimp only
  repeat' (first | with_reducible assumption | (with_reducible first | (apply State.each_only) | (apply State.resetTakes_only) | (apply State.logSwap_only) | (apply State.setRegion_only) | (apply State.errqTakes_only) | (apply State.releaseExtent_only)) | (exact within_trans rfl hW) | split | (with_reducible intro _) )

theorem State.linkLost_only (p : Nat) (status : Nat) (s : State) {ps : List Part} {s0_ : State} (hO : OnlyChanges ps s0_ s) (hW : within [.inflight, .groups, .lanes, .ports, .scans, .frames, .matcher, .paths, .hiers, .bridges, .slots, .tracker, .channels, .pwf, .trunks, .devices, .extents, .poolLines, .poolEvents, .ledger, .homeSlots, .departed, .qps, .cqs, .regions, .funcs, .vectors, .instances, .cmdOrder, .masterWait, .irqPending, .sources, .mirror, .sessions, .views, .outputs, .free] ps = true)  : OnlyChanges ps s0_ (State.linkLost p status s) := by
  unfold State.linkLost
  try dsimp only
  repeat' (first | with_reducible assumption | (with_reducible first | (apply State.startPort_only) | (apply State.linkGone_only)) | (exact within_trans rfl hW) | split | (with_reducible intro _) )

theorem State.loseLinks_only (s : State) {ps : List Part} {s0_ : State} (hO : OnlyChanges ps s0_ s) (hW : within [.inflight, .groups, .lanes, .ports, .scans, .frames, .matcher, .paths, .hiers, .bridges, .slots, .tracker, .channels, .pwf, .trunks, .devices, .extents, .poolLines, .poolEvents, .ledger, .homeSlots, .departed, .qps, .cqs, .regions, .funcs, .vectors, .instances, .cmdOrder, .masterWait, .irqPending, .sources, .mirror, .sessions, .views, .outputs, .free] ps = true)  : OnlyChanges ps s0_ (State.loseLinks s) := by
  unfold State.loseLinks
  try dsimp only
  repeat' (first | with_reducible assumption | (with_reducible first | (apply State.each_only) | (apply State.linkLost_only)) | (exact within_trans rfl hW) | split | (with_reducible intro _) )

theorem State.retireCluster_only (c : Nat) (s : State) {ps : List Part} {s0_ : State} (hO : OnlyChanges ps s0_ s) (hW : within [.groups, .lanes, .ports, .scans, .qps, .regions, .clusters, .funcs, .vectors, .instances, .sources, .mirror, .views, .outputs, .free] ps = true)  : OnlyChanges ps s0_ (State.retireCluster c s) := by
  unfold State.retireCluster
  try dsimp only
  repeat' (first | with_reducible assumption | (with_reducible first | (apply State.each_only) | (apply State.fatalQp_only) | (apply State.raise_only)) | (exact within_trans rfl hW) | split | (with_reducible first | (apply State.qps_update) | (apply State.clusters_update)) | ((with_reducible refine OnlyChanges.update ?_ ?_); (on_goal 2 => ((with_reducible intro p hp); (fail_if_success (with_reducible exact Part.same_refl _ _)); cases p <;> first | exact (OnlyChanges.mem hW hp rfl).elim | exact rfl | (and_intros <;> exact rfl)))) | (with_reducible intro _) )

theorem State.retireAttachment_only (n : Nat) (s : State) {ps : List Part} {s0_ : State} (hO : OnlyChanges ps s0_ s) (hW : within [.groups, .lanes, .ports, .scans, .units, .irqPending, .sources] ps = true)  : OnlyChanges ps s0_ (State.retireAttachment n s) := by
  unfold State.retireAttachment
  try dsimp only
  repeat' (first | with_reducible assumption | (with_reducible first | (apply State.raise_only) | (apply State.each_only) | (apply State.portDown_only)) | (exact within_trans rfl hW) | split | (with_reducible first | (apply State.units_update)) | ((with_reducible refine OnlyChanges.update ?_ ?_); (on_goal 2 => ((with_reducible intro p hp); (fail_if_success (with_reducible exact Part.same_refl _ _)); cases p <;> first | exact (OnlyChanges.mem hW hp rfl).elim | exact rfl | (and_intros <;> exact rfl)))) | (with_reducible intro _) )

theorem State.retireUnits_only (s : State) {ps : List Part} {s0_ : State} (hO : OnlyChanges ps s0_ s) (hW : within [.groups, .lanes, .ports, .scans, .units, .qps, .regions, .clusters, .funcs, .vectors, .instances, .irqPending, .sources, .mirror, .views, .outputs, .free] ps = true)  : OnlyChanges ps s0_ (State.retireUnits s) := by
  unfold State.retireUnits
  try dsimp only
  repeat' (first | with_reducible assumption | (with_reducible first | (apply State.each_only) | (apply State.retireCluster_only) | (apply State.retireAttachment_only)) | (exact within_trans rfl hW) | split | (with_reducible intro _) )

theorem State.containDown_only (p : Nat) (s : State) {ps : List Part} {s0_ : State} (hO : OnlyChanges ps s0_ s) (hW : within [.groups, .lanes, .ports, .scans, .bridges, .irqPending, .sources, .mirror, .outputs] ps = true)  : OnlyChanges ps s0_ (State.containDown p s) := by
  unfold State.containDown
  try dsimp only
  repeat' (first | with_reducible assumption | (with_reducible first | (apply State.raise_only) | (apply State.ifDo_only) | (apply State.bridgeMsi_only) | (apply State.setBridge_only) | (apply State.portDown_only)) | (exact within_trans rfl hW) | split | (with_reducible intro _) )

theorem State.dpcTrigger_only (v : Nat) (b : Nat) (reason : Nat) (s : State) {ps : List Part} {s0_ : State} (hO : OnlyChanges ps s0_ s) (hW : within [.inflight, .groups, .lanes, .ports, .scans, .frames, .matcher, .paths, .hiers, .bridges, .slots, .tracker, .pwf, .trunks, .qps, .cqs, .regions, .funcs, .vectors, .instances, .masterWait, .irqPending, .sources, .mirror, .views, .outputs, .free] ps = true)  : OnlyChanges ps s0_ (State.dpcTrigger v b reason s) := by
  unfold State.dpcTrigger
  try dsimp only
  repeat' (first | with_reducible assumption | (with_reducible first | (apply State.raise_only) | (apply State.ifDo_only) | (apply State.bridgeMsi_only) | (apply State.setBridge_only) | (apply State.setPort_only) | (apply State.portDown_only) | (apply State.setSlot_only) | (apply State.placeDown_only)) | (exact within_trans rfl hW) | split | (with_reducible intro _) )

theorem State.containDomain_only (d : Nat) (s : State) {ps : List Part} {s0_ : State} (hO : OnlyChanges ps s0_ s) (hW : within [.inflight, .groups, .lanes, .ports, .scans, .frames, .matcher, .paths, .hiers, .bridges, .slots, .tracker, .pwf, .trunks, .qps, .cqs, .regions, .funcs, .vectors, .instances, .contained, .masterWait, .irqPending, .sources, .mirror, .sessions, .views, .outputs, .free] ps = true)  : OnlyChanges ps s0_ (State.containDomain d s) := by
  unfold State.containDomain
  try dsimp only
  repeat' (first | with_reducible assumption | (with_reducible first | (apply State.setPort_only) | (apply State.each_only) | (apply State.containDown_only) | (apply State.dpcTrigger_only) | (apply State.portDown_only) | (apply State.askReset_only) | (apply State.frameBad_only) | (apply State.raise_only) | (apply State.domainState_only)) | (exact within_trans rfl hW) | split | (with_reducible first | (apply State.contained_update)) | ((with_reducible refine OnlyChanges.update ?_ ?_); (on_goal 2 => ((with_reducible intro p hp); (fail_if_success (with_reducible exact Part.same_refl _ _)); cases p <;> first | exact (OnlyChanges.mem hW hp rfl).elim | exact rfl | (and_intros <;> exact rfl)))) | (with_reducible intro _) )

theorem State.containGroup_only (n : Nat) (s : State) {ps : List Part} {s0_ : State} (hO : OnlyChanges ps s0_ s) (hW : within [.groups, .lanes, .ports, .scans, .bridges, .irqPending, .sources, .collector, .mirror, .outputs] ps = true)  : OnlyChanges ps s0_ (State.containGroup n s) := by
  unfold State.containGroup
  try dsimp only
  repeat' (first | with_reducible assumption | (with_reducible first | (apply State.each_only) | (apply State.setPort_only) | (apply State.containDown_only) | (apply State.portDown_only)) | (exact within_trans rfl hW) | split | (with_reducible first | (apply State.collector_update)) | ((with_reducible refine OnlyChanges.update ?_ ?_); (on_goal 2 => ((with_reducible intro p hp); (fail_if_success (with_reducible exact Part.same_refl _ _)); cases p <;> first | exact (OnlyChanges.mem hW hp rfl).elim | exact rfl | (and_intros <;> exact rfl)))) | (with_reducible intro _) )

theorem State.containNow_only (s : State) {ps : List Part} {s0_ : State} (hO : OnlyChanges ps s0_ s) (hW : within [.inflight, .groups, .lanes, .ports, .scans, .frames, .matcher, .paths, .hiers, .bridges, .slots, .tracker, .pwf, .trunks, .qps, .cqs, .regions, .funcs, .vectors, .instances, .contained, .masterWait, .irqPending, .sources, .collector, .mirror, .sessions, .views, .outputs, .free] ps = true)  : OnlyChanges ps s0_ (State.containNow s) := by
  unfold State.containNow
  try dsimp only
  repeat' (first | with_reducible assumption | (with_reducible first | (apply State.each_only) | (apply State.containDomain_only) | (apply State.containGroup_only)) | (exact within_trans rfl hW) | split | (with_reducible intro _) )

theorem State.countWaits_only (s : State) {ps : List Part} {s0_ : State} (hO : OnlyChanges ps s0_ s) (hW : within [.sources, .views] ps = true)  : OnlyChanges ps s0_ (State.countWaits s) := by
  unfold State.countWaits
  try dsimp only
  repeat' (first | with_reducible assumption | (with_reducible first | (apply State.raise_only) | (apply State.countBy_only)) | (exact within_trans rfl hW) | split | (with_reducible intro _) )

theorem State.recordQps_only (s : State) {ps : List Part} {s0_ : State} (hO : OnlyChanges ps s0_ s) (hW : within [.qps, .mirror] ps = true)  : OnlyChanges ps s0_ (State.recordQps s) := by
  unfold State.recordQps
  try dsimp only
  repeat' (first | with_reducible assumption | (with_reducible first | (apply State.each_only) | (apply State.mirror_only)) | (exact within_trans rfl hW) | split | (with_reducible first | (apply State.qps_update)) | ((with_reducible refine OnlyChanges.update ?_ ?_); (on_goal 2 => ((with_reducible intro p hp); (fail_if_success (with_reducible exact Part.same_refl _ _)); cases p <;> first | exact (OnlyChanges.mem hW hp rfl).elim | exact rfl | (and_intros <;> exact rfl)))) | (with_reducible intro _) )

theorem State.sendRecords_only (bound : Nat) (x1 : Nat) (x2 : State) {ps : List Part} {s0_ : State} (hO : OnlyChanges ps s0_ x2) (hW : within [.trunks, .mirror, .views] ps = true)  : OnlyChanges ps s0_ (State.sendRecords bound x1 x2) := by
  induction x1 generalizing bound x2 with
  | zero => unfold State.sendRecords; exact hO
  | succ n ih =>
    unfold State.sendRecords
    try dsimp only
    repeat' (first | with_reducible assumption | (with_reducible first | (apply ih) | (apply State.countBy_only) | (apply State.garnetSend_only)) | (exact within_trans rfl hW) | split | (with_reducible first | (apply State.mirror_update)) | ((with_reducible refine OnlyChanges.update ?_ ?_); (on_goal 2 => ((with_reducible intro p hp); (fail_if_success (with_reducible exact Part.same_refl _ _)); cases p <;> first | exact (OnlyChanges.mem hW hp rfl).elim | exact rfl | (and_intros <;> exact rfl)))) | (with_reducible intro _) )

theorem State.closeDelta_only (s : State) {ps : List Part} {s0_ : State} (hO : OnlyChanges ps s0_ s) (hW : within [.trunks, .qps, .sources, .pairing, .mirror, .views] ps = true)  : OnlyChanges ps s0_ (State.closeDelta s) := by
  unfold State.closeDelta
  try dsimp only
  repeat' (first | with_reducible assumption | (with_reducible first | (apply State.countWaits_only) | (apply State.recordQps_only) | (apply State.sendRecords_only)) | (exact within_trans rfl hW) | split | (with_reducible first | (apply State.pairing_update) | (apply State.mirror_update)) | ((with_reducible refine OnlyChanges.update ?_ ?_); (on_goal 2 => ((with_reducible intro p hp); (fail_if_success (with_reducible exact Part.same_refl _ _)); cases p <;> first | exact (OnlyChanges.mem hW hp rfl).elim | exact rfl | (and_intros <;> exact rfl)))) | (with_reducible intro _) )

theorem State.beforeSteps_only (s : State) {ps : List Part} {s0_ : State} (hO : OnlyChanges ps s0_ s) (hW : within [.inflight, .groups, .lanes, .ports, .scans, .frames, .units, .matcher, .paths, .hiers, .bridges, .slots, .tracker, .channels, .pwf, .trunks, .devices, .extents, .poolLines, .poolEvents, .ledger, .homeSlots, .departed, .qps, .cqs, .regions, .clusters, .funcs, .vectors, .instances, .cmdOrder, .contained, .masterWait, .irqPending, .sources, .collector, .pairing, .mirror, .sessions, .views, .outputs, .free] ps = true)  : OnlyChanges ps s0_ (State.beforeSteps s) := by
  unfold State.beforeSteps
  try dsimp only
  repeat' (first | with_reducible assumption | (with_reducible first | (apply State.takeRequests_only) | (apply State.loseLinks_only) | (apply State.retireUnits_only) | (apply State.containNow_only) | (apply State.closeDelta_only)) | (exact within_trans rfl hW) | split | (with_reducible intro _) )

theorem State.setLedgerBank_only (b : Nat) (st : Nat) (s : State) {ps : List Part} {s0_ : State} (hO : OnlyChanges ps s0_ s) (hW : within [.ledger, .mirror] ps = true)  : OnlyChanges ps s0_ (State.setLedgerBank b st s) := by
  unfold State.setLedgerBank
  try dsimp only
  repeat' (first | with_reducible assumption | (with_reducible first | (apply State.mirror_only)) | (exact within_trans rfl hW) | split | (with_reducible first | (apply State.ledger_update)) | ((with_reducible refine OnlyChanges.update ?_ ?_); (on_goal 2 => ((with_reducible intro p hp); (fail_if_success (with_reducible exact Part.same_refl _ _)); cases p <;> first | exact (OnlyChanges.mem hW hp rfl).elim | exact rfl | (and_intros <;> exact rfl)))) | (with_reducible intro _) )

theorem State.coreRetire_only (k : Nat) (s : State) {ps : List Part} {s0_ : State} (hO : OnlyChanges ps s0_ s) (hW : within [.irqUnit] ps = true)  : OnlyChanges ps s0_ (State.coreRetire k s) := by
  unfold State.coreRetire
  try dsimp only
  repeat' (first | with_reducible assumption | (exact within_trans rfl hW) | split | (with_reducible first | (apply State.irqUnit_update)) | ((with_reducible refine OnlyChanges.update ?_ ?_); (on_goal 2 => ((with_reducible intro p hp); (fail_if_success (with_reducible exact Part.same_refl _ _)); cases p <;> first | exact (OnlyChanges.mem hW hp rfl).elim | exact rfl | (and_intros <;> exact rfl)))) | (with_reducible intro _) )

theorem State.bistRetire_only (u : BistUnit) (s : State) {ps : List Part} {s0_ : State} (hO : OnlyChanges ps s0_ s) (hW : within [.groups, .lanes, .ports, .scans, .units, .ledger, .clusters, .irqPending, .irqUnit, .sources, .mirror] ps = true)  : OnlyChanges ps s0_ (State.bistRetire u s) := by
  unfold State.bistRetire
  try dsimp only
  repeat' (first | with_reducible assumption | (with_reducible first | (apply State.raise_only) | (apply State.retireAttachment_only) | (apply State.setLedgerBank_only) | (apply State.coreRetire_only)) | (exact within_trans rfl hW) | split | (with_reducible first | (apply State.units_update) | (apply State.clusters_update)) | ((with_reducible refine OnlyChanges.update ?_ ?_); (on_goal 2 => ((with_reducible intro p hp); (fail_if_success (with_reducible exact Part.same_refl _ _)); cases p <;> first | exact (OnlyChanges.mem hW hp rfl).elim | exact rfl | (and_intros <;> exact rfl)))) | (with_reducible intro _) )

theorem State.failedStart_only (s : State) {ps : List Part} {s0_ : State} (hO : OnlyChanges ps s0_ s) (hW : within [.start, .sources] ps = true)  : OnlyChanges ps s0_ (State.failedStart s) := by
  unfold State.failedStart
  try dsimp only
  repeat' (first | with_reducible assumption | (with_reducible first | (apply State.raise_only)) | (exact within_trans rfl hW) | split | (with_reducible first | (apply State.start_update)) | ((with_reducible refine OnlyChanges.update ?_ ?_); (on_goal 2 => ((with_reducible intro p hp); (fail_if_success (with_reducible exact Part.same_refl _ _)); cases p <;> first | exact (OnlyChanges.mem hW hp rfl).elim | exact rfl | (and_intros <;> exact rfl)))) | (with_reducible intro _) )

theorem State.enterSafe_only (cause : Nat) (src : Nat) (s : State) {ps : List Part} {s0_ : State} (hO : OnlyChanges ps s0_ s) (hW : within [.inflight, .board, .sup, .start, .lanes, .frames, .matcher, .tracker, .sources, .safeState, .collector, .outputs] ps = true)  : OnlyChanges ps s0_ (State.enterSafe cause src s) := by
  unfold State.enterSafe
  try dsimp only
  repeat' (first | with_reducible assumption | (with_reducible first | (apply State.failedStart_only) | (apply State.each_only) | (apply State.dropFrame_only)) | (exact within_trans rfl hW) | split | ((with_reducible refine OnlyChanges.update ?_ ?_); (on_goal 2 => ((with_reducible intro p hp); (fail_if_success (with_reducible exact Part.same_refl _ _)); cases p <;> first | exact (OnlyChanges.mem hW hp rfl).elim | exact rfl | (and_intros <;> exact rfl)))) | (with_reducible intro _) )

theorem State.bistSafe_only (s : State) {ps : List Part} {s0_ : State} (hO : OnlyChanges ps s0_ s) (hW : within [.inflight, .board, .sup, .start, .lanes, .frames, .matcher, .tracker, .sources, .safeState, .collector, .outputs, .free] ps = true)  : OnlyChanges ps s0_ (State.bistSafe s) := by
  unfold State.bistSafe
  try dsimp only
  repeat' (first | with_reducible assumption | (with_reducible first | (apply State.fresh_only) | (apply State.enterSafe_only)) | (exact within_trans rfl hW) | split | (with_reducible first | (apply State.safeState_update)) | ((with_reducible refine OnlyChanges.update ?_ ?_); (on_goal 2 => ((with_reducible intro p hp); (fail_if_success (with_reducible exact Part.same_refl _ _)); cases p <;> first | exact (OnlyChanges.mem hW hp rfl).elim | exact rfl | (and_intros <;> exact rfl)))) | (with_reducible intro _) )

theorem State.blockResponse_only (r : Nat) (p : Nat) (s : State) {ps : List Part} {s0_ : State} (hO : OnlyChanges ps s0_ s) (hW : within [.groups, .lanes, .ports, .scans, .ledger, .homeSlots, .sources, .mirror, .views, .outputs] ps = true)  : OnlyChanges ps s0_ (State.blockResponse r p s) := by
  unfold State.blockResponse
  try dsimp only
  repeat' (first | with_reducible assumption | (with_reducible first | (apply State.resetIfOwed_only) | (apply State.owePageReset_only) | (apply State.raise_only) | (apply State.bump_only)) | (exact within_trans rfl hW) | split | (with_reducible intro _) )

theorem State.takeSettings_only (s : State) {ps : List Part} {s0_ : State} (hO : OnlyChanges ps s0_ s) (hW : within [.start, .collector, .settings, .settingsNext] ps = true)  : OnlyChanges ps s0_ (State.takeSettings s) := by
  unfold State.takeSettings
  try dsimp only
  repeat' (first | with_reducible assumption | (exact within_trans rfl hW) | split | (with_reducible first | (apply State.start_update) | (apply State.collector_update) | (apply State.settings_update) | (apply State.settingsNext_update)) | ((with_reducible refine OnlyChanges.update ?_ ?_); (on_goal 2 => ((with_reducible intro p hp); (fail_if_success (with_reducible exact Part.same_refl _ _)); cases p <;> first | exact (OnlyChanges.mem hW hp rfl).elim | exact rfl | (and_intros <;> exact rfl)))) | (with_reducible intro _) )

theorem State.countCapacity_only (s : State) {ps : List Part} {s0_ : State} (hO : OnlyChanges ps s0_ s) (hW : within [.collector, .views] ps = true)  : OnlyChanges ps s0_ (State.countCapacity s) := by
  unfold State.countCapacity
  try dsimp only
  repeat' (first | with_reducible assumption | (with_reducible first | (apply State.bump_only)) | (exact within_trans rfl hW) | split | (with_reducible first | (apply State.collector_update)) | ((with_reducible refine OnlyChanges.update ?_ ?_); (on_goal 2 => ((with_reducible intro p hp); (fail_if_success (with_reducible exact Part.same_refl _ _)); cases p <;> first | exact (OnlyChanges.mem hW hp rfl).elim | exact rfl | (and_intros <;> exact rfl)))) | (with_reducible intro _) )

theorem State.expireSessions_only (s : State) {ps : List Part} {s0_ : State} (hO : OnlyChanges ps s0_ s) (hW : within [.sessions] ps = true)  : OnlyChanges ps s0_ (State.expireSessions s) := by
  unfold State.expireSessions
  try dsimp only
  repeat' (first | with_reducible assumption | (exact within_trans rfl hW) | split | (with_reducible first | (apply State.sessions_update)) | ((with_reducible refine OnlyChanges.update ?_ ?_); (on_goal 2 => ((with_reducible intro p hp); (fail_if_success (with_reducible exact Part.same_refl _ _)); cases p <;> first | exact (OnlyChanges.mem hW hp rfl).elim | exact rfl | (and_intros <;> exact rfl)))) | (with_reducible intro _) )

theorem State.react_only (n : Nat) (code : Nat) (s : State) {ps : List Part} {s0_ : State} (hO : OnlyChanges ps s0_ s) (hW : within [.contained, .irqPending, .collector] ps = true)  : OnlyChanges ps s0_ (State.react n code s) := by
  unfold State.react
  try dsimp only
  repeat' (first | with_reducible assumption | (with_reducible first | (apply State.interrupt_only) | (apply State.each_only)) | (exact within_trans rfl hW) | split | (with_reducible first | (apply State.contained_update) | (apply State.collector_update)) | ((with_reducible refine OnlyChanges.update ?_ ?_); (on_goal 2 => ((with_reducible intro p hp); (fail_if_success (with_reducible exact Part.same_refl _ _)); cases p <;> first | exact (OnlyChanges.mem hW hp rfl).elim | exact rfl | (and_intros <;> exact rfl)))) | (with_reducible intro _) )

theorem State.collect_only (s : State) {ps : List Part} {s0_ : State} (hO : OnlyChanges ps s0_ s) (hW : within [.inflight, .board, .sup, .start, .lanes, .frames, .matcher, .tracker, .contained, .irqPending, .sources, .safeState, .collector, .outputs] ps = true)  : OnlyChanges ps s0_ (State.collect s) := by
  unfold State.collect
  try dsimp only
  repeat' (first | with_reducible assumption | (with_reducible first | (apply State.enterSafe_only) | (apply State.each_only) | (apply State.react_only)) | (exact within_trans rfl hW) | split | (with_reducible first | (apply State.sources_update) | (apply State.collector_update)) | ((with_reducible refine OnlyChanges.update ?_ ?_); (on_goal 2 => ((with_reducible intro p hp); (fail_if_success (with_reducible exact Part.same_refl _ _)); cases p <;> first | exact (OnlyChanges.mem hW hp rfl).elim | exact rfl | (and_intros <;> exact rfl)))) | (with_reducible intro _) )

theorem State.coreRetired_only (k : Nat) (s : State) {ps : List Part} {s0_ : State} (hO : OnlyChanges ps s0_ s) (hW : within [.irqUnit, .sources] ps = true)  : OnlyChanges ps s0_ (State.coreRetired k s) := by
  unfold State.coreRetired
  try dsimp only
  repeat' (first | with_reducible assumption | (with_reducible first | (apply State.raise_only) | (apply State.coreRetire_only)) | (exact within_trans rfl hW) | split | (with_reducible intro _) )

theorem State.retireCores_only (s : State) {ps : List Part} {s0_ : State} (hO : OnlyChanges ps s0_ s) (hW : within [.irqUnit, .sources] ps = true)  : OnlyChanges ps s0_ (State.retireCores s) := by
  unfold State.retireCores
  try dsimp only
  repeat' (first | with_reducible assumption | (with_reducible first | (apply State.each_only) | (apply State.coreRetired_only)) | (exact within_trans rfl hW) | split | (with_reducible intro _) )

theorem State.idleBoundary_only (s : State) {ps : List Part} {s0_ : State} (hO : OnlyChanges ps s0_ s) (hW : within [.inflight, .board, .sup, .start, .lanes, .frames, .matcher, .tracker, .contained, .irqPending, .irqUnit, .sources, .safeState, .collector, .sessions, .views, .outputs] ps = true)  : OnlyChanges ps s0_ (State.idleBoundary s) := by
  unfold State.idleBoundary
  try dsimp only
  repeat' (first | with_reducible assumption | (with_reducible first | (apply State.countCapacity_only) | (apply State.expireSessions_only) | (apply State.collect_only) | (apply State.retireCores_only)) | (exact within_trans rfl hW) | split | (with_reducible intro _) )

theorem State.timerTick_only (store : Bool) (k : Nat) (s : State) {ps : List Part} {s0_ : State} (hO : OnlyChanges ps s0_ s) (hW : within [.groups, .lanes, .ports, .scans, .vectors, .instances, .mirror, .views, .outputs] ps = true)  : OnlyChanges ps s0_ (State.timerTick store k s) := by
  unfold State.timerTick
  try dsimp only
  repeat' (first | with_reducible assumption | (with_reducible first | (apply State.vecSend_only) | (apply State.setVec_only)) | (exact within_trans rfl hW) | split | (with_reducible intro _) )

theorem State.vectorStep_only (store : Bool) (s : State) {ps : List Part} {s0_ : State} (hO : OnlyChanges ps s0_ s) (hW : within [.groups, .lanes, .ports, .scans, .vectors, .instances, .mirror, .views, .outputs] ps = true)  : OnlyChanges ps s0_ (State.vectorStep store s) := by
  unfold State.vectorStep
  try dsimp only
  repeat' (first | with_reducible assumption | (with_reducible first | (apply State.each_only) | (apply State.vecSend_only) | (apply State.timerTick_only)) | (exact within_trans rfl hW) | split | (with_reducible intro _) )

theorem State.reloadPort_only (p : Nat) (s : State) {ps : List Part} {s0_ : State} (hO : OnlyChanges ps s0_ s) (hW : within [.ports] ps = true)  : OnlyChanges ps s0_ (State.reloadPort p s) := by
  unfold State.reloadPort
  try dsimp only
  repeat' (first | with_reducible assumption | (with_reducible first | (apply State.setPort_only)) | (exact within_trans rfl hW) | split | (with_reducible intro _) )

theorem State.reloadWeights_only (s : State) {ps : List Part} {s0_ : State} (hO : OnlyChanges ps s0_ s) (hW : within [.ports] ps = true)  : OnlyChanges ps s0_ (State.reloadWeights s) := by
  unfold State.reloadWeights
  try dsimp only
  repeat' (first | with_reducible assumption | (with_reducible first | (apply State.each_only) | (apply State.reloadPort_only)) | (exact within_trans rfl hW) | split | (with_reducible intro _) )

theorem State.channelEval_only (c : Nat) (s : State) {ps : List Part} {s0_ : State} (hO : OnlyChanges ps s0_ s) (hW : within [.groups, .lanes, .ports, .scans, .channels, .vectors, .instances, .mirror, .views, .outputs] ps = true)  : OnlyChanges ps s0_ (State.channelEval c s) := by
  unfold State.channelEval
  try dsimp only
  repeat' (first | with_reducible assumption | (with_reducible first | (apply State.setChannel_only) | (apply State.vecEvent_only)) | (exact within_trans rfl hW) | split | (with_reducible intro _) )

theorem State.doorbellStep_only (s : State) {ps : List Part} {s0_ : State} (hO : OnlyChanges ps s0_ s) (hW : within [.groups, .lanes, .ports, .scans, .channels, .vectors, .instances, .mirror, .views, .outputs] ps = true)  : OnlyChanges ps s0_ (State.doorbellStep s) := by
  unfold State.doorbellStep
  try dsimp only
  repeat' (first | with_reducible assumption | (with_reducible first | (apply State.each_only) | (apply State.channelEval_only)) | (exact within_trans rfl hW) | split | (with_reducible intro _) )

theorem State.enterFence_only (trigger : Nat) (s : State) {ps : List Part} {s0_ : State} (hO : OnlyChanges ps s0_ s) (hW : within [.groups, .board, .lanes, .ports, .scans, .funcs, .vectors, .instances, .sources, .pairing, .mirror, .sessions, .views, .outputs] ps = true)  : OnlyChanges ps s0_ (State.enterFence trigger s) := by
  unfold State.enterFence
  try dsimp only
  repeat' (first | with_reducible assumption | (with_reducible first | (apply State.raise_only) | (apply State.setPair_only)) | (exact within_trans rfl hW) | split | (with_reducible first | (apply State.board_update) | (apply State.pairing_update)) | ((with_reducible refine OnlyChanges.update ?_ ?_); (on_goal 2 => ((with_reducible intro p hp); (fail_if_success (with_reducible exact Part.same_refl _ _)); cases p <;> first | exact (OnlyChanges.mem hW hp rfl).elim | exact rfl | (and_intros <;> exact rfl)))) | (with_reducible intro _) )

theorem State.missBeat_only (s : State) {ps : List Part} {s0_ : State} (hO : OnlyChanges ps s0_ s) (hW : within [.groups, .board, .lanes, .ports, .scans, .funcs, .vectors, .instances, .sources, .pairing, .mirror, .sessions, .views, .outputs] ps = true)  : OnlyChanges ps s0_ (State.missBeat s) := by
  unfold State.missBeat
  try dsimp only
  repeat' (first | with_reducible assumption | (with_reducible first | (apply State.raise_only) | (apply State.bump_only) | (apply State.enterFence_only)) | (exact within_trans rfl hW) | split | (with_reducible first | (apply State.pairing_update)) | ((with_reducible refine OnlyChanges.update ?_ ?_); (on_goal 2 => ((with_reducible intro p hp); (fail_if_success (with_reducible exact Part.same_refl _ _)); cases p <;> first | exact (OnlyChanges.mem hW hp rfl).elim | exact rfl | (and_intros <;> exact rfl)))) | (with_reducible intro _) )

theorem State.countHeartbeat_only (s : State) {ps : List Part} {s0_ : State} (hO : OnlyChanges ps s0_ s) (hW : within [.groups, .board, .lanes, .ports, .scans, .funcs, .vectors, .instances, .sources, .pairing, .mirror, .sessions, .views, .outputs] ps = true)  : OnlyChanges ps s0_ (State.countHeartbeat s) := by
  unfold State.countHeartbeat
  try dsimp only
  repeat' (first | with_reducible assumption | (with_reducible first | (apply State.missBeat_only)) | (exact within_trans rfl hW) | split | (with_reducible first | (apply State.pairing_update)) | ((with_reducible refine OnlyChanges.update ?_ ?_); (on_goal 2 => ((with_reducible intro p hp); (fail_if_success (with_reducible exact Part.same_refl _ _)); cases p <;> first | exact (OnlyChanges.mem hW hp rfl).elim | exact rfl | (and_intros <;> exact rfl)))) | (with_reducible intro _) )

theorem State.homeMove_only (s : State) {ps : List Part} {s0_ : State} (hO : OnlyChanges ps s0_ s) (hW : within [.trunks, .pairing, .mirror] ps = true)  : OnlyChanges ps s0_ (State.homeMove s) := by
  unfold State.homeMove
  try dsimp only
  repeat' (first | with_reducible assumption | (with_reducible first | (apply State.tellTwin_only)) | (exact within_trans rfl hW) | split | (with_reducible first | (apply State.pairing_update)) | ((with_reducible refine OnlyChanges.update ?_ ?_); (on_goal 2 => ((with_reducible intro p hp); (fail_if_success (with_reducible exact Part.same_refl _ _)); cases p <;> first | exact (OnlyChanges.mem hW hp rfl).elim | exact rfl | (and_intros <;> exact rfl)))) | (with_reducible intro _) )

theorem State.syncDone_only (s : State) {ps : List Part} {s0_ : State} (hO : OnlyChanges ps s0_ s) (hW : within [.trunks, .pairing, .mirror] ps = true)  : OnlyChanges ps s0_ (State.syncDone s) := by
  unfold State.syncDone
  try dsimp only
  repeat' (first | with_reducible assumption | (with_reducible first | (apply State.tellTwin_only)) | (exact within_trans rfl hW) | split | (with_reducible first | (apply State.pairing_update)) | ((with_reducible refine OnlyChanges.update ?_ ?_); (on_goal 2 => ((with_reducible intro p hp); (fail_if_success (with_reducible exact Part.same_refl _ _)); cases p <;> first | exact (OnlyChanges.mem hW hp rfl).elim | exact rfl | (and_intros <;> exact rfl)))) | (with_reducible intro _) )

theorem State.sendDeltas_only (x0 : Nat) (x1 : State) {ps : List Part} {s0_ : State} (hO : OnlyChanges ps s0_ x1) (hW : within [.trunks, .pairing, .mirror, .views] ps = true)  : OnlyChanges ps s0_ (State.sendDeltas x0 x1) := by
  induction x0 generalizing x1 with
  | zero => unfold State.sendDeltas; exact hO
  | succ n ih =>
    unfold State.sendDeltas
    try dsimp only
    repeat' (first | with_reducible assumption | (with_reducible first | (apply ih) | (apply State.sendRecords_only) | (apply State.garnetSend_only)) | (exact within_trans rfl hW) | split | (with_reducible first | (apply State.pairing_update)) | ((with_reducible refine OnlyChanges.update ?_ ?_); (on_goal 2 => ((with_reducible intro p hp); (fail_if_success (with_reducible exact Part.same_refl _ _)); cases p <;> first | exact (OnlyChanges.mem hW hp rfl).elim | exact rfl | (and_intros <;> exact rfl)))) | (with_reducible intro _) )

theorem State.mirrorStep_only (s : State) {ps : List Part} {s0_ : State} (hO : OnlyChanges ps s0_ s) (hW : within [.groups, .board, .lanes, .ports, .scans, .trunks, .funcs, .vectors, .instances, .sources, .pairing, .mirror, .sessions, .views, .outputs] ps = true)  : OnlyChanges ps s0_ (State.mirrorStep s) := by
  unfold State.mirrorStep
  try dsimp only
  repeat' (first | with_reducible assumption | (with_reducible first | (apply State.countHeartbeat_only) | (apply State.homeMove_only) | (apply State.syncDone_only) | (apply State.sendDeltas_only)) | (exact within_trans rfl hW) | split | (with_reducible intro _) )

theorem State.patternStep_only (s : State) {ps : List Part} {s0_ : State} (hO : OnlyChanges ps s0_ s) (hW : within [.board, .sup] ps = true)  : OnlyChanges ps s0_ (State.patternStep s) := by
  unfold State.patternStep
  try dsimp only
  repeat' (first | with_reducible assumption | (exact within_trans rfl hW) | split | (with_reducible first | (apply State.board_update) | (apply State.sup_update)) | ((with_reducible refine OnlyChanges.update ?_ ?_); (on_goal 2 => ((with_reducible intro p hp); (fail_if_success (with_reducible exact Part.same_refl _ _)); cases p <;> first | exact (OnlyChanges.mem hW hp rfl).elim | exact rfl | (and_intros <;> exact rfl)))) | (with_reducible intro _) )

theorem State.linksReady_only (s : State) {ps : List Part} {s0_ : State} (hO : OnlyChanges ps s0_ s) (hW : within [.start] ps = true)  : OnlyChanges ps s0_ (State.linksReady s) := by
  unfold State.linksReady
  try dsimp only
  repeat' (first | with_reducible assumption | (exact within_trans rfl hW) | split | (with_reducible first | (apply State.start_update)) | ((with_reducible refine OnlyChanges.update ?_ ?_); (on_goal 2 => ((with_reducible intro p hp); (fail_if_success (with_reducible exact Part.same_refl _ _)); cases p <;> first | exact (OnlyChanges.mem hW hp rfl).elim | exact rfl | (and_intros <;> exact rfl)))) | (with_reducible intro _) )

theorem State.gateUnits_only (s : State) {ps : List Part} {s0_ : State} (hO : OnlyChanges ps s0_ s) (hW : within [.sup] ps = true)  : OnlyChanges ps s0_ (State.gateUnits s) := by
  unfold State.gateUnits
  try dsimp only
  repeat' (first | with_reducible assumption | (exact within_trans rfl hW) | split | (with_reducible first | (apply State.sup_update)) | ((with_reducible refine OnlyChanges.update ?_ ?_); (on_goal 2 => ((with_reducible intro p hp); (fail_if_success (with_reducible exact Part.same_refl _ _)); cases p <;> first | exact (OnlyChanges.mem hW hp rfl).elim | exact rfl | (and_intros <;> exact rfl)))) | (with_reducible intro _) )

theorem State.sendBlock_only (p : Nat) (stage : Nat) (l : Nat) (s : State) {ps : List Part} {s0_ : State} (hO : OnlyChanges ps s0_ s) (hW : within [.lanes, .outputs] ps = true)  : OnlyChanges ps s0_ (State.sendBlock p stage l s) := by
  unfold State.sendBlock
  try dsimp only
  repeat' (first | with_reducible assumption | (with_reducible first | (apply State.setLane_only) | (apply State.emit_only)) | (exact within_trans rfl hW) | split | (with_reducible intro _) )

theorem State.sendBlocks_only (s : State) {ps : List Part} {s0_ : State} (hO : OnlyChanges ps s0_ s) (hW : within [.lanes, .outputs] ps = true)  : OnlyChanges ps s0_ (State.sendBlocks s) := by
  unfold State.sendBlocks
  try dsimp only
  repeat' (first | with_reducible assumption | (with_reducible first | (apply State.each_only) | (apply State.sendBlock_only)) | (exact within_trans rfl hW) | split | (with_reducible intro _) )

theorem State.startPorts_only (s : State) {ps : List Part} {s0_ : State} (hO : OnlyChanges ps s0_ s) (hW : within [.groups, .lanes, .ports] ps = true)  : OnlyChanges ps s0_ (State.startPorts s) := by
  unfold State.startPorts
  try dsimp only
  repeat' (first | with_reducible assumption | (with_reducible first | (apply State.each_only) | (apply State.startPort_only)) | (exact within_trans rfl hW) | split | (with_reducible intro _) )

theorem State.quietCheck_only (p : Nat) (s : State) {ps : List Part} {s0_ : State} (hO : OnlyChanges ps s0_ s) (hW : within [.trunks] ps = true)  : OnlyChanges ps s0_ (State.quietCheck p s) := by
  unfold State.quietCheck
  try dsimp only
  repeat' (first | with_reducible assumption | (with_reducible first | (apply State.setTrunk_only)) | (exact within_trans rfl hW) | split | (with_reducible intro _) )

theorem State.sendFlit_only (p : Nat) (s : State) {ps : List Part} {s0_ : State} (hO : OnlyChanges ps s0_ s) (hW : within [.trunks, .outputs] ps = true)  : OnlyChanges ps s0_ (State.sendFlit p s) := by
  unfold State.sendFlit
  try dsimp only
  repeat' (first | with_reducible assumption | (with_reducible first | (apply State.setTrunk_only) | (apply State.emit_only)) | (exact within_trans rfl hW) | split | (with_reducible intro _) )

theorem State.flushFlits_only (p : Nat) (s : State) {ps : List Part} {s0_ : State} (hO : OnlyChanges ps s0_ s) (hW : within [.trunks, .outputs] ps = true)  : OnlyChanges ps s0_ (State.flushFlits p s) := by
  unfold State.flushFlits
  try dsimp only
  repeat' (first | with_reducible assumption | (with_reducible first | (apply State.each_only) | (apply State.sendFlit_only)) | (exact within_trans rfl hW) | split | (with_reducible intro _) )

theorem State.linkFlits_only (s : State) {ps : List Part} {s0_ : State} (hO : OnlyChanges ps s0_ s) (hW : within [.trunks, .outputs] ps = true)  : OnlyChanges ps s0_ (State.linkFlits s) := by
  unfold State.linkFlits
  try dsimp only
  repeat' (first | with_reducible assumption | (with_reducible first | (apply State.each_only) | (apply State.quietCheck_only) | (apply State.flushFlits_only)) | (exact within_trans rfl hW) | split | (with_reducible intro _) )

theorem State.checkPaths_only (s : State) {ps : List Part} {s0_ : State} (hO : OnlyChanges ps s0_ s) (hW : within [.inflight, .groups, .lanes, .ports, .scans, .frames, .paths, .hiers, .bridges, .tracker, .pwf, .trunks, .funcs, .vectors, .instances, .sources, .mirror, .views, .outputs] ps = true)  : OnlyChanges ps s0_ (State.checkPaths s) := by
  unfold State.checkPaths
  try dsimp only
  repeat' (first | with_reducible assumption | (with_reducible first | (apply State.each_only) | (apply State.peerCheck_only) | (apply State.setTrunk_only)) | (exact within_trans rfl hW) | split | (with_reducible first | (apply State.paths_update)) | ((with_reducible refine OnlyChanges.update ?_ ?_); (on_goal 2 => ((with_reducible intro p hp); (fail_if_success (with_reducible exact Part.same_refl _ _)); cases p <;> first | exact (OnlyChanges.mem hW hp rfl).elim | exact rfl | (and_intros <;> exact rfl)))) | (with_reducible intro _) )

theorem State.serviceSteps_only (s : State) {ps : List Part} {s0_ : State} (hO : OnlyChanges ps s0_ s) (hW : within [.inflight, .groups, .board, .sup, .start, .lanes, .ports, .scans, .frames, .paths, .hiers, .bridges, .tracker, .channels, .pwf, .trunks, .funcs, .vectors, .instances, .sources, .pairing, .mirror, .sessions, .views, .outputs] ps = true)  : OnlyChanges ps s0_ (State.serviceSteps s) := by
  unfold State.serviceSteps
  try dsimp only
  repeat' (first | with_reducible assumption | (with_reducible first | (apply State.expireSessions_only) | (apply State.vectorStep_only) | (apply State.reloadWeights_only) | (apply State.doorbellStep_only) | (apply State.mirrorStep_only) | (apply State.patternStep_only) | (apply State.linksReady_only) | (apply State.gateUnits_only) | (apply State.scanCheck_only) | (apply State.sendBlocks_only) | (apply State.startPorts_only) | (apply State.linkFlits_only) | (apply State.checkPaths_only)) | (exact within_trans rfl hW) | split | (with_reducible intro _) )

theorem State.drainCheck_only (s : State) {ps : List Part} {s0_ : State} (hO : OnlyChanges ps s0_ s) (hW : within [.epochs, .sources] ps = true)  : OnlyChanges ps s0_ (State.drainCheck s) := by
  unfold State.drainCheck
  try dsimp only
  repeat' (first | with_reducible assumption | (with_reducible first | (apply State.each_only) | (apply State.raise_only)) | (exact within_trans rfl hW) | split | (with_reducible first | (apply State.epochs_update)) | ((with_reducible refine OnlyChanges.update ?_ ?_); (on_goal 2 => ((with_reducible intro p hp); (fail_if_success (with_reducible exact Part.same_refl _ _)); cases p <;> first | exact (OnlyChanges.mem hW hp rfl).elim | exact rfl | (and_intros <;> exact rfl)))) | (with_reducible intro _) )

theorem State.setPwren_only (p : Nat) (isOn : Bool) (s : State) {ps : List Part} {s0_ : State} (hO : OnlyChanges ps s0_ s) (hW : within [.groups, .lanes, .ports, .scans, .slots, .irqPending, .sources, .free] ps = true)  : OnlyChanges ps s0_ (State.setPwren p isOn s) := by
  unfold State.setPwren
  try dsimp only
  repeat' (first | with_reducible assumption | (with_reducible first | (apply State.setSlot_only) | (apply State.refreshOutputs_only) | (apply State.assertSlot_only)) | (exact within_trans rfl hW) | split | (with_reducible intro _) )

theorem State.wakeFrom_only (v : Nat) (p : Nat) (s : State) {ps : List Part} {s0_ : State} (hO : OnlyChanges ps s0_ s) (hW : within [.groups, .lanes, .ports] ps = true)  : OnlyChanges ps s0_ (State.wakeFrom v p s) := by
  unfold State.wakeFrom
  try dsimp only
  repeat' (first | with_reducible assumption | (with_reducible first | (apply State.setGroup_only) | (apply State.startPort_only)) | (exact within_trans rfl hW) | split | (with_reducible intro _) )

theorem State.slotConvert_only (p : Nat) (s : State) {ps : List Part} {s0_ : State} (hO : OnlyChanges ps s0_ s) (hW : within [.groups, .lanes, .ports, .scans, .hiers, .bridges, .slots, .irqPending, .sources, .mirror, .outputs, .free] ps = true)  : OnlyChanges ps s0_ (State.slotConvert p s) := by
  unfold State.slotConvert
  extract_lets -underBinder q chg isOn s1 reset s2
  have h_s1 : OnlyChanges ps s0_ s1 := by
    simp only [s1]
    repeat' (first | with_reducible assumption | (with_reducible first | (apply State.setSlot_only) | (apply State.bridgePresence_only) | (apply State.hotplug_only) | (apply State.setBridge_only) | (apply State.raise_only) | (apply State.setPwren_only) | (apply State.wakeFrom_only) | (apply State.assertSlot_only)) | (exact within_trans rfl hW) | split | (with_reducible intro _) )
  clear_value s1
  have h_s2 : OnlyChanges ps s0_ s2 := by
    simp only [s2]
    repeat' (first | with_reducible assumption | (with_reducible first | (apply State.setSlot_only) | (apply State.bridgePresence_only) | (apply State.hotplug_only) | (apply State.setBridge_only) | (apply State.raise_only) | (apply State.setPwren_only) | (apply State.wakeFrom_only) | (apply State.assertSlot_only)) | (exact within_trans rfl hW) | split | (with_reducible intro _) )
  clear_value s2
  repeat' (first | with_reducible assumption | (with_reducible first | (apply State.setSlot_only) | (apply State.bridgePresence_only) | (apply State.hotplug_only) | (apply State.setBridge_only) | (apply State.raise_only) | (apply State.setPwren_only) | (apply State.wakeFrom_only) | (apply State.assertSlot_only)) | (exact within_trans rfl hW) | split | (with_reducible intro _) )

theorem State.convertSlots_only (s : State) {ps : List Part} {s0_ : State} (hO : OnlyChanges ps s0_ s) (hW : within [.groups, .lanes, .ports, .scans, .hiers, .bridges, .slots, .irqPending, .sources, .mirror, .outputs, .free] ps = true)  : OnlyChanges ps s0_ (State.convertSlots s) := by
  unfold State.convertSlots
  try dsimp only
  repeat' (first | with_reducible assumption | (with_reducible first | (apply State.each_only) | (apply State.slotConvert_only)) | (exact within_trans rfl hW) | split | (with_reducible intro _) )

theorem State.deferCommit_only (full : Bool) (s : State) {ps : List Part} {s0_ : State} (hO : OnlyChanges ps s0_ s) (hW : within [.commit, .groups, .lanes, .ports, .scans, .funcs, .vectors, .instances, .irqPending, .sources, .mirror, .sessions, .views, .outputs] ps = true)  : OnlyChanges ps s0_ (State.deferCommit full s) := by
  unfold State.deferCommit
  try dsimp only
  repeat' (first | with_reducible assumption | (with_reducible first | (apply State.raise_only) | (apply State.bump_only) | (apply State.setCommit_only)) | (exact within_trans rfl hW) | split | (with_reducible first | (apply State.commit_update)) | ((with_reducible refine OnlyChanges.update ?_ ?_); (on_goal 2 => ((with_reducible intro p hp); (fail_if_success (with_reducible exact Part.same_refl _ _)); cases p <;> first | exact (OnlyChanges.mem hW hp rfl).elim | exact rfl | (and_intros <;> exact rfl)))) | (with_reducible intro _) )

theorem State.rejectCommit_only (cs : List (Nat × Nat)) (s : State) {ps : List Part} {s0_ : State} (hO : OnlyChanges ps s0_ s) (hW : within [.commit, .groups, .lanes, .ports, .scans, .funcs, .vectors, .instances, .irqPending, .sources, .mirror, .sessions, .views, .outputs] ps = true)  : OnlyChanges ps s0_ (State.rejectCommit cs s) := by
  unfold State.rejectCommit
  try dsimp only
  repeat' (first | with_reducible assumption | (with_reducible first | (apply State.setCommit_only) | (apply State.writeChecks_only)) | (exact within_trans rfl hW) | split | (with_reducible intro _) )

theorem State.tryCommit_only (s : State) {ps : List Part} {s0_ : State} (hO : OnlyChanges ps s0_ s) (hW : within [.epochs, .inflight, .commit, .tables, .groups, .start, .lanes, .ports, .scans, .frames, .matcher, .paths, .hiers, .bridges, .slots, .tracker, .channels, .pwf, .trunks, .devices, .extents, .poolLines, .poolEvents, .ledger, .homeSlots, .departed, .qps, .cqs, .regions, .funcs, .vectors, .instances, .cmdOrder, .masterWait, .irqPending, .sources, .mirror, .sessions, .views, .outputs, .free] ps = true)  : OnlyChanges ps s0_ (State.tryCommit s) := by
  unfold State.tryCommit
  try dsimp only
  repeat' (first | with_reducible assumption | (with_reducible first | (apply State.deferCommit_only) | (apply State.rejectCommit_only) | (apply State.applyCommit_only)) | (exact within_trans rfl hW) | split | (with_reducible intro _) )

theorem State.commitStep_only (s : State) {ps : List Part} {s0_ : State} (hO : OnlyChanges ps s0_ s) (hW : within [.epochs, .inflight, .commit, .tables, .groups, .start, .lanes, .ports, .scans, .frames, .matcher, .paths, .hiers, .bridges, .slots, .tracker, .channels, .pwf, .trunks, .devices, .extents, .poolLines, .poolEvents, .ledger, .homeSlots, .departed, .qps, .cqs, .regions, .funcs, .vectors, .instances, .cmdOrder, .masterWait, .irqPending, .sources, .mirror, .sessions, .views, .outputs, .free] ps = true)  : OnlyChanges ps s0_ (State.commitStep s) := by
  unfold State.commitStep
  try dsimp only
  repeat' (first | with_reducible assumption | (with_reducible first | (apply State.tryCommit_only)) | (exact within_trans rfl hW) | split | (with_reducible intro _) )

theorem State.releaseEpochs_only (s : State) {ps : List Part} {s0_ : State} (hO : OnlyChanges ps s0_ s) (hW : within [.epochs] ps = true)  : OnlyChanges ps s0_ (State.releaseEpochs s) := by
  unfold State.releaseEpochs
  try dsimp only
  repeat' (first | with_reducible assumption | (exact within_trans rfl hW) | split | (with_reducible first | (apply State.epochs_update)) | ((with_reducible refine OnlyChanges.update ?_ ?_); (on_goal 2 => ((with_reducible intro p hp); (fail_if_success (with_reducible exact Part.same_refl _ _)); cases p <;> first | exact (OnlyChanges.mem hW hp rfl).elim | exact rfl | (and_intros <;> exact rfl)))) | (with_reducible intro _) )

theorem State.epochSteps_only (s : State) {ps : List Part} {s0_ : State} (hO : OnlyChanges ps s0_ s) (hW : within [.epochs, .inflight, .commit, .tables, .groups, .board, .sup, .start, .lanes, .ports, .scans, .frames, .matcher, .paths, .hiers, .bridges, .slots, .tracker, .channels, .pwf, .trunks, .devices, .extents, .poolLines, .poolEvents, .ledger, .homeSlots, .departed, .qps, .cqs, .regions, .funcs, .vectors, .instances, .cmdOrder, .contained, .masterWait, .irqPending, .irqUnit, .sources, .safeState, .collector, .mirror, .sessions, .views, .outputs, .free] ps = true)  : OnlyChanges ps s0_ (State.epochSteps s) := by
  unfold State.epochSteps
  try dsimp only
  repeat' (first | with_reducible assumption | (with_reducible first | (apply State.retireCores_only) | (apply State.collect_only) | (apply State.drainCheck_only) | (apply State.convertSlots_only) | (apply State.commitStep_only) | (apply State.releaseEpochs_only)) | (exact within_trans rfl hW) | split | (with_reducible intro _) )

theorem State.clearDie_only (s : State) {ps : List Part} {s0_ : State} (hO : OnlyChanges ps s0_ s) (hW : within [.beat, .epochs, .inflight, .commit, .tables, .groups, .board, .sup, .start, .lanes, .ports, .scans, .frames, .units, .matcher, .paths, .hiers, .bridges, .slots, .tracker, .channels, .pwf, .trunks, .devices, .extents, .poolLines, .poolEvents, .ledger, .homeSlots, .departed, .qps, .cqs, .regions, .clusters, .funcs, .vectors, .instances, .cmdOrder, .contained, .masterWait, .irqPending, .irqUnit, .sprout, .sources, .safeState, .collector, .pairing, .mirror, .sessions, .segments, .settings, .settingsNext, .settingsStart, .views] ps = true)  : OnlyChanges ps s0_ (State.clearDie s) := by
  unfold State.clearDie
  try dsimp only
  repeat' (first | with_reducible assumption | (exact within_trans rfl hW) | split | ((with_reducible refine OnlyChanges.update ?_ ?_); (on_goal 2 => ((with_reducible intro p hp); (fail_if_success (with_reducible exact Part.same_refl _ _)); cases p <;> first | exact (OnlyChanges.mem hW hp rfl).elim | exact rfl | (and_intros <;> exact rfl)))) | (with_reducible intro _) )

theorem State.warmClear_only (s : State) {ps : List Part} {s0_ : State} (hO : OnlyChanges ps s0_ s) (hW : within [.beat, .epochs, .inflight, .commit, .tables, .groups, .board, .sup, .start, .lanes, .ports, .scans, .frames, .units, .matcher, .paths, .hiers, .bridges, .slots, .tracker, .channels, .pwf, .trunks, .devices, .extents, .poolLines, .poolEvents, .ledger, .homeSlots, .departed, .qps, .cqs, .regions, .clusters, .funcs, .vectors, .instances, .cmdOrder, .contained, .masterWait, .irqPending, .irqUnit, .sprout, .sources, .safeState, .collector, .pairing, .mirror, .sessions, .segments, .settings, .settingsNext, .settingsStart, .views] ps = true)  : OnlyChanges ps s0_ (State.warmClear s) := by
  unfold State.warmClear
  try dsimp only
  repeat' (first | with_reducible assumption | (with_reducible first | (apply State.clearDie_only)) | (exact within_trans rfl hW) | split | ((with_reducible refine OnlyChanges.update ?_ ?_); (on_goal 2 => ((with_reducible intro p hp); (fail_if_success (with_reducible exact Part.same_refl _ _)); cases p <;> first | exact (OnlyChanges.mem hW hp rfl).elim | exact rfl | (and_intros <;> exact rfl)))) | (with_reducible intro _) )

theorem State.takeRecord_only (old : Collector) (s : State) {ps : List Part} {s0_ : State} (hO : OnlyChanges ps s0_ s) (hW : within [.sources, .safeState] ps = true)  : OnlyChanges ps s0_ (State.takeRecord old s) := by
  unfold State.takeRecord
  try dsimp only
  repeat' (first | with_reducible assumption | (with_reducible first | (apply State.raise_only)) | (exact within_trans rfl hW) | split | (with_reducible first | (apply State.safeState_update)) | ((with_reducible refine OnlyChanges.update ?_ ?_); (on_goal 2 => ((with_reducible intro p hp); (fail_if_success (with_reducible exact Part.same_refl _ _)); cases p <;> first | exact (OnlyChanges.mem hW hp rfl).elim | exact rfl | (and_intros <;> exact rfl)))) | (with_reducible intro _) )

theorem State.warmStart_only (cause : Nat) (s : State) {ps : List Part} {s0_ : State} (hO : OnlyChanges ps s0_ s) (hW : within [.beat, .epochs, .inflight, .commit, .tables, .groups, .board, .sup, .start, .lanes, .ports, .scans, .frames, .units, .matcher, .paths, .hiers, .bridges, .slots, .tracker, .channels, .pwf, .trunks, .devices, .extents, .poolLines, .poolEvents, .ledger, .homeSlots, .departed, .qps, .cqs, .regions, .clusters, .funcs, .vectors, .instances, .cmdOrder, .contained, .masterWait, .irqPending, .irqUnit, .sprout, .sources, .safeState, .collector, .pairing, .mirror, .sessions, .segments, .settings, .settingsNext, .settingsStart, .views] ps = true)  : OnlyChanges ps s0_ (State.warmStart cause s) := by
  unfold State.warmStart
  try dsimp only
  repeat' (first | with_reducible assumption | (with_reducible first | (apply State.warmClear_only) | (apply State.takeRecord_only)) | (exact within_trans rfl hW) | split | (with_reducible first | (apply State.beat_update) | (apply State.epochs_update) | (apply State.inflight_update) | (apply State.commit_update) | (apply State.tables_update) | (apply State.start_update)) | ((with_reducible refine OnlyChanges.update ?_ ?_); (on_goal 2 => ((with_reducible intro p hp); (fail_if_success (with_reducible exact Part.same_refl _ _)); cases p <;> first | exact (OnlyChanges.mem hW hp rfl).elim | exact rfl | (and_intros <;> exact rfl)))) | (with_reducible intro _) )

theorem State.madeCq_only (c : CmdSlot) (s : State) {ps : List Part} {s0_ : State} (hO : OnlyChanges ps s0_ s) (hW : within [.cqs] ps = true)  : OnlyChanges ps s0_ (State.madeCq c s) := by
  unfold State.madeCq
  try dsimp only
  repeat' (first | with_reducible assumption | (with_reducible first | (apply State.setCq_only)) | (exact within_trans rfl hW) | split | (with_reducible intro _) )

theorem State.touch_only (q : Nat) (s : State) {ps : List Part} {s0_ : State} (hO : OnlyChanges ps s0_ s) (hW : within [.qps] ps = true)  : OnlyChanges ps s0_ (State.touch q s) := by
  unfold State.touch
  try dsimp only
  repeat' (first | with_reducible assumption | (with_reducible first | (apply State.setQp_only)) | (exact within_trans rfl hW) | split | (with_reducible first | (apply State.qps_update)) | ((with_reducible refine OnlyChanges.update ?_ ?_); (on_goal 2 => ((with_reducible intro p hp); (fail_if_success (with_reducible exact Part.same_refl _ _)); cases p <;> first | exact (OnlyChanges.mem hW hp rfl).elim | exact rfl | (and_intros <;> exact rfl)))) | (with_reducible intro _) )

theorem State.makePlace_only (q : Nat) (s : State) {ps : List Part} {s0_ : State} (hO : OnlyChanges ps s0_ s) (hW : within [.groups, .lanes, .ports, .scans, .qps, .regions, .funcs, .instances, .sources, .mirror, .views, .outputs, .free] ps = true)  : OnlyChanges ps s0_ (State.makePlace q s) := by
  unfold State.makePlace
  try dsimp only
  repeat' (first | with_reducible assumption | (with_reducible first | (apply State.instWrite_only) | (apply State.bump_only) | (apply State.setQp_only)) | (exact within_trans rfl hW) | split | (with_reducible intro _) )

theorem State.madeQp_only (c : CmdSlot) (s : State) {ps : List Part} {s0_ : State} (hO : OnlyChanges ps s0_ s) (hW : within [.groups, .lanes, .ports, .scans, .qps, .regions, .funcs, .instances, .sources, .mirror, .views, .outputs, .free] ps = true)  : OnlyChanges ps s0_ (State.madeQp c s) := by
  unfold State.madeQp
  try dsimp only
  repeat' (first | with_reducible assumption | (with_reducible first | (apply State.touch_only) | (apply State.setQp_only) | (apply State.makePlace_only)) | (exact within_trans rfl hW) | split | (with_reducible intro _) )

theorem State.qpReady_only (q : Nat) (c : CmdSlot) (s : State) {ps : List Part} {s0_ : State} (hO : OnlyChanges ps s0_ s) (hW : within [.groups, .lanes, .ports, .scans, .qps, .cqs, .regions, .funcs, .vectors, .instances, .sources, .mirror, .views, .outputs, .free] ps = true)  : OnlyChanges ps s0_ (State.qpReady q c s) := by
  unfold State.qpReady
  try dsimp only
  repeat' (first | with_reducible assumption | (with_reducible first | (apply State.setQp_only) | (apply State.testTriggers_only)) | (exact within_trans rfl hW) | split | (with_reducible intro _) )

theorem State.cacheKey_only (r : Nat) (s : State) {ps : List Part} {s0_ : State} (hO : OnlyChanges ps s0_ s) (hW : within [.regions] ps = true)  : OnlyChanges ps s0_ (State.cacheKey r s) := by
  unfold State.cacheKey
  try dsimp only
  repeat' (first | with_reducible assumption | (with_reducible first | (apply State.setRegion_only)) | (exact within_trans rfl hW) | split | (with_reducible intro _) )

theorem State.madeRegion_only (c : CmdSlot) (g : Nat) (s : State) {ps : List Part} {s0_ : State} (hO : OnlyChanges ps s0_ s) (hW : within [.regions] ps = true)  : OnlyChanges ps s0_ (State.madeRegion c g s) := by
  unfold State.madeRegion
  try dsimp only
  repeat' (first | with_reducible assumption | (with_reducible first | (apply State.cacheKey_only) | (apply State.setRegion_only)) | (exact within_trans rfl hW) | split | (with_reducible intro _) )

theorem State.redo_only (r : Record) (s : State) {ps : List Part} {s0_ : State} (hO : OnlyChanges ps s0_ s) (hW : within [.groups, .lanes, .ports, .scans, .qps, .cqs, .regions, .funcs, .vectors, .instances, .sources, .mirror, .views, .outputs, .free] ps = true)  : OnlyChanges ps s0_ (State.redo r s) := by
  unfold State.redo
  extract_lets -underBinder c q
  repeat' (first | with_reducible assumption | (with_reducible first | (apply State.madeCq_only) | (apply State.madeQp_only) | (apply State.setQp_only) | (apply State.qpReady_only) | (apply State.madeRegion_only) | (apply State.setRegion_only) | (apply State.attached_only)) | (exact within_trans rfl hW) | split | (with_reducible first | (apply State.qps_update) | (apply State.cqs_update)) | ((with_reducible refine OnlyChanges.update ?_ ?_); (on_goal 2 => ((with_reducible intro p hp); (fail_if_success (with_reducible exact Part.same_refl _ _)); cases p <;> first | exact (OnlyChanges.mem hW hp rfl).elim | exact rfl | (and_intros <;> exact rfl)))) | (with_reducible intro _) )

theorem State.mirroredEvents_only (i : Nat) (s : State) {ps : List Part} {s0_ : State} (hO : OnlyChanges ps s0_ s) (hW : within [.instances] ps = true)  : OnlyChanges ps s0_ (State.mirroredEvents i s) := by
  unfold State.mirroredEvents
  try dsimp only
  repeat' (first | with_reducible assumption | (with_reducible first | (apply State.setInst_only)) | (exact within_trans rfl hW) | split | (with_reducible intro _) )

theorem State.mirroredCq_only (c : Nat) (s : State) {ps : List Part} {s0_ : State} (hO : OnlyChanges ps s0_ s) (hW : within [.cqs] ps = true)  : OnlyChanges ps s0_ (State.mirroredCq c s) := by
  unfold State.mirroredCq
  try dsimp only
  repeat' (first | with_reducible assumption | (with_reducible first | (apply State.setCq_only)) | (exact within_trans rfl hW) | split | (with_reducible intro _) )

theorem State.rewrite_only (r : Record) (s : State) {ps : List Part} {s0_ : State} (hO : OnlyChanges ps s0_ s) (hW : within [.groups, .lanes, .ports, .scans, .regions, .funcs, .instances, .sources, .mirror, .outputs, .free] ps = true)  : OnlyChanges ps s0_ (State.rewrite r s) := by
  unfold State.rewrite
  try dsimp only
  repeat' (first | with_reducible assumption | (with_reducible first | (apply State.instWrite_only)) | (exact within_trans rfl hW) | split | (with_reducible intro _) )

theorem State.promoteInsts_only (s : State) {ps : List Part} {s0_ : State} (hO : OnlyChanges ps s0_ s) (hW : within [.groups, .lanes, .ports, .scans, .qps, .cqs, .regions, .funcs, .vectors, .instances, .sources, .pairing, .mirror, .views, .outputs, .free] ps = true)  : OnlyChanges ps s0_ (State.promoteInsts s) := by
  unfold State.promoteInsts
  try dsimp only
  repeat' (first | with_reducible assumption | (with_reducible first | (apply State.each_only) | (apply State.redo_only) | (apply State.mirroredEvents_only) | (apply State.setInstState_only) | (apply State.mirroredCq_only) | (apply State.setQp_only) | (apply State.rewrite_only) | (apply State.raise_only) | (apply State.qpEvent_only) | (apply State.flushQp_only)) | (exact within_trans rfl hW) | split | (with_reducible first | (apply State.pairing_update)) | ((with_reducible refine OnlyChanges.update ?_ ?_); (on_goal 2 => ((with_reducible intro p hp); (fail_if_success (with_reducible exact Part.same_refl _ _)); cases p <;> first | exact (OnlyChanges.mem hW hp rfl).elim | exact rfl | (and_intros <;> exact rfl)))) | (with_reducible intro _) )

theorem State.refreshShared_only (s : State) {ps : List Part} {s0_ : State} (hO : OnlyChanges ps s0_ s) (hW : within [.groups, .lanes, .ports, .scans, .hiers, .bridges, .mirror, .outputs] ps = true)  : OnlyChanges ps s0_ (State.refreshShared s) := by
  unfold State.refreshShared
  try dsimp only
  repeat' (first | with_reducible assumption | (with_reducible first | (apply State.each_only) | (apply State.refreshEndpoint_only)) | (exact within_trans rfl hW) | split | (with_reducible intro _) )

theorem State.duePageReset_only (r : Nat) (p : Nat) (s : State) {ps : List Part} {s0_ : State} (hO : OnlyChanges ps s0_ s) (hW : within [.ledger] ps = true)  : OnlyChanges ps s0_ (State.duePageReset r p s) := by
  unfold State.duePageReset
  try dsimp only
  repeat' (first | with_reducible assumption | (with_reducible first | (apply State.setEntry_only)) | (exact within_trans rfl hW) | split | (with_reducible intro _) )

theorem State.promoteLedger_only (s : State) {ps : List Part} {s0_ : State} (hO : OnlyChanges ps s0_ s) (hW : within [.groups, .lanes, .ports, .scans, .ledger, .homeSlots, .sources, .pairing, .mirror, .views, .outputs] ps = true)  : OnlyChanges ps s0_ (State.promoteLedger s) := by
  unfold State.promoteLedger
  try dsimp only
  repeat' (first | with_reducible assumption | (with_reducible first | (apply State.fixHomes_only) | (apply State.each_only) | (apply State.raise_only) | (apply State.bump_only) | (apply State.resetIfOwed_only) | (apply State.duePageReset_only)) | (exact within_trans rfl hW) | split | (with_reducible first | (apply State.ledger_update)) | ((with_reducible refine OnlyChanges.update ?_ ?_); (on_goal 2 => ((with_reducible intro p hp); (fail_if_success (with_reducible exact Part.same_refl _ _)); cases p <;> first | exact (OnlyChanges.mem hW hp rfl).elim | exact rfl | (and_intros <;> exact rfl)))) | (with_reducible intro _) )

theorem State.takeover_only (s : State) {ps : List Part} {s0_ : State} (hO : OnlyChanges ps s0_ s) (hW : within [.inflight, .groups, .board, .lanes, .ports, .scans, .frames, .matcher, .paths, .hiers, .bridges, .slots, .tracker, .pwf, .trunks, .ledger, .homeSlots, .qps, .cqs, .regions, .funcs, .vectors, .instances, .contained, .masterWait, .irqPending, .sources, .pairing, .mirror, .sessions, .views, .outputs, .free] ps = true)  : OnlyChanges ps s0_ (State.takeover s) := by
  unfold State.takeover
  try dsimp only
  repeat' (first | with_reducible assumption | (with_reducible first | (apply State.setPair_only) | (apply State.raise_only) | (apply State.setView_only) | (apply State.bump_only) | (apply State.releaseHeld_only) | (apply State.promoteInsts_only) | (apply State.refreshShared_only) | (apply State.promoteLedger_only) | (apply State.each_only) | (apply State.containDomain_only) | (apply State.retryAllocs_only)) | (exact within_trans rfl hW) | split | (with_reducible first | (apply State.board_update) | (apply State.pairing_update) | (apply State.mirror_update)) | ((with_reducible refine OnlyChanges.update ?_ ?_); (on_goal 2 => ((with_reducible intro p hp); (fail_if_success (with_reducible exact Part.same_refl _ _)); cases p <;> first | exact (OnlyChanges.mem hW hp rfl).elim | exact rfl | (and_intros <;> exact rfl)))) | (with_reducible intro _) )

theorem State.fenceStep_only (s : State) {ps : List Part} {s0_ : State} (hO : OnlyChanges ps s0_ s) (hW : within [.beat, .epochs, .inflight, .commit, .tables, .groups, .board, .sup, .start, .lanes, .ports, .scans, .frames, .units, .matcher, .paths, .hiers, .bridges, .slots, .tracker, .channels, .pwf, .trunks, .devices, .extents, .poolLines, .poolEvents, .ledger, .homeSlots, .departed, .qps, .cqs, .regions, .clusters, .funcs, .vectors, .instances, .cmdOrder, .contained, .masterWait, .irqPending, .irqUnit, .sprout, .sources, .safeState, .collector, .pairing, .mirror, .sessions, .segments, .settings, .settingsNext, .settingsStart, .views, .outputs, .free] ps = true)  : OnlyChanges ps s0_ (State.fenceStep s) := by
  unfold State.fenceStep
  try dsimp only
  repeat' (first | with_reducible assumption | (with_reducible first | (apply State.warmStart_only) | (apply State.takeover_only)) | (exact within_trans rfl hW) | split | (with_reducible first | (apply State.board_update)) | ((with_reducible refine OnlyChanges.update ?_ ?_); (on_goal 2 => ((with_reducible intro p hp); (fail_if_success (with_reducible exact Part.same_refl _ _)); cases p <;> first | exact (OnlyChanges.mem hW hp rfl).elim | exact rfl | (and_intros <;> exact rfl)))) | (with_reducible intro _) )

theorem State.boundary_only (s : State) {ps : List Part} {s0_ : State} (hO : OnlyChanges ps s0_ s) (hW : within [.beat, .epochs, .inflight, .commit, .tables, .groups, .board, .sup, .start, .lanes, .ports, .scans, .frames, .units, .matcher, .paths, .hiers, .bridges, .slots, .tracker, .channels, .pwf, .trunks, .devices, .extents, .poolLines, .poolEvents, .ledger, .homeSlots, .departed, .qps, .cqs, .regions, .clusters, .funcs, .vectors, .instances, .cmdOrder, .contained, .masterWait, .irqPending, .irqUnit, .sprout, .sources, .safeState, .collector, .pairing, .mirror, .sessions, .segments, .settings, .settingsNext, .settingsStart, .views, .outputs, .free] ps = true)  : OnlyChanges ps s0_ (State.boundary s) := by
  unfold State.boundary
  try dsimp only
  repeat' (first | with_reducible assumption | (with_reducible first | (apply State.takeSettings_only) | (apply State.idleBoundary_only) | (apply State.serviceSteps_only) | (apply State.epochSteps_only) | (apply State.beforeSteps_only) | (apply State.countCapacity_only) | (apply State.ifDo_only) | (apply State.fenceStep_only)) | (exact within_trans rfl hW) | split | (with_reducible first | (apply State.beat_update)) | ((with_reducible refine OnlyChanges.update ?_ ?_); (on_goal 2 => ((with_reducible intro p hp); (fail_if_success (with_reducible exact Part.same_refl _ _)); cases p <;> first | exact (OnlyChanges.mem hW hp rfl).elim | exact rfl | (and_intros <;> exact rfl)))) | (with_reducible intro _) )

theorem State.setSource_only (n : Nat) (f : Source → Source) (s : State) {ps : List Part} {s0_ : State} (hO : OnlyChanges ps s0_ s) (hW : within [.sources] ps = true)  : OnlyChanges ps s0_ (State.setSource n f s) := by
  unfold State.setSource
  try dsimp only
  repeat' (first | with_reducible assumption | (exact within_trans rfl hW) | split | (with_reducible first | (apply State.sources_update)) | ((with_reducible refine OnlyChanges.update ?_ ?_); (on_goal 2 => ((with_reducible intro p hp); (fail_if_success (with_reducible exact Part.same_refl _ _)); cases p <;> first | exact (OnlyChanges.mem hW hp rfl).elim | exact rfl | (and_intros <;> exact rfl)))) | (with_reducible intro _) )

theorem State.loadSource_only (k : Nat) (v : Nat) (s : State) {ps : List Part} {s0_ : State} (hO : OnlyChanges ps s0_ s) (hW : within [.sources] ps = true)  : OnlyChanges ps s0_ (State.loadSource k v s) := by
  unfold State.loadSource
  try dsimp only
  repeat' (first | with_reducible assumption | (with_reducible first | (apply State.setSource_only)) | (exact within_trans rfl hW) | split | (with_reducible intro _) )

theorem State.buildTables_only (raw : Tbl Nat) (s : State) {ps : List Part} {s0_ : State} (hO : OnlyChanges ps s0_ s) (hW : within [.beat, .epochs, .inflight, .commit, .tables, .groups, .lanes, .ports, .scans, .hiers, .devices, .funcs, .vectors, .instances, .sources, .mirror, .sessions, .settings, .settingsNext, .settingsStart, .views, .outputs] ps = true)  : OnlyChanges ps s0_ (State.buildTables raw s) := by
  unfold State.buildTables
  try dsimp only
  repeat' (first | with_reducible assumption | (with_reducible first | (apply State.each_only) | (apply State.loadSource_only) | (apply State.setFunc_only) | (apply State.setHier_only) | (apply State.commitTenants_only) | (apply State.commitDevices_only) | (apply State.writeChecks_only)) | (exact within_trans rfl hW) | split | ((with_reducible refine OnlyChanges.update ?_ ?_); (on_goal 2 => ((with_reducible intro p hp); (fail_if_success (with_reducible exact Part.same_refl _ _)); cases p <;> first | exact (OnlyChanges.mem hW hp rfl).elim | exact rfl | (and_intros <;> exact rfl)))) | (with_reducible intro _) )

theorem State.bulkDrop_only (f : Frame) (s : State) {ps : List Part} {s0_ : State} (hO : OnlyChanges ps s0_ s) (hW : within [.sources, .views] ps = true)  : OnlyChanges ps s0_ (State.bulkDrop f s) := by
  unfold State.bulkDrop
  try dsimp only
  repeat' (first | with_reducible assumption | (with_reducible first | (apply State.raise_only) | (apply State.bump_only)) | (exact within_trans rfl hW) | split | (with_reducible intro _) )

theorem State.cellWords_only (id : Nat) (s : State) {ps : List Part} {s0_ : State} (hO : OnlyChanges ps s0_ s) (hW : within [.trunks] ps = true)  : OnlyChanges ps s0_ (State.cellWords id s) := by
  unfold State.cellWords
  try dsimp only
  repeat' (first | with_reducible assumption | (with_reducible first | (apply State.setTrunk_only)) | (exact within_trans rfl hW) | split | (with_reducible intro _) )

theorem State.cfgDone_only (p : Nat) (id : Nat) (data : Nat) (x : Tlp) (s : State) {ps : List Part} {s0_ : State} (hO : OnlyChanges ps s0_ s) (hW : within [.groups, .lanes, .ports, .scans, .outputs] ps = true)  : OnlyChanges ps s0_ (State.cfgDone p id data x s) := by
  unfold State.cfgDone
  try dsimp only
  repeat' (first | with_reducible assumption | (with_reducible first | (apply State.emitOn_only)) | (exact within_trans rfl hW) | split | (with_reducible intro _) )

theorem State.cfgAnswer_only (p : Nat) (id : Nat) (v : Option Nat) (x : Tlp) (s : State) {ps : List Part} {s0_ : State} (hO : OnlyChanges ps s0_ s) (hW : within [.groups, .lanes, .ports, .scans, .outputs, .free] ps = true)  : OnlyChanges ps s0_ (State.cfgAnswer p id v x s) := by
  unfold State.cfgAnswer
  try dsimp only
  repeat' (first | with_reducible assumption | (with_reducible first | (apply State.cfgDone_only) | (apply State.emit_only) | (apply State.fresh_only)) | (exact within_trans rfl hW) | split | (with_reducible intro _) )

theorem State.pushOne_only (f : Frame) (s : State) {ps : List Part} {s0_ : State} (hO : OnlyChanges ps s0_ s) (hW : within [.inflight, .frames, .tracker, .views, .outputs] ps = true)  : OnlyChanges ps s0_ (State.pushOne f s) := by
  unfold State.pushOne
  try dsimp only
  repeat' (first | with_reducible assumption | (with_reducible first | (apply State.bump_only) | (apply State.dropFrame_only)) | (exact within_trans rfl hW) | split | (with_reducible intro _) )

theorem State.pushOut_only (k : Nat) (e : Nat) (n : Nat) (s : State) {ps : List Part} {s0_ : State} (hO : OnlyChanges ps s0_ s) (hW : within [.inflight, .frames, .tracker, .views, .outputs] ps = true)  : ∀ t_, (State.pushOut k e n s) = some t_ → OnlyChanges ps s0_ t_ := by
  unfold State.pushOut
  split
  · intro t ht
    obtain rfl := Option.some.inj ht
    exact State.each_only _ _ _ hO (fun x s1 h1 => State.pushOne_only _ _ h1 (within_trans rfl hW))
  · rintro _ ⟨⟩

theorem State.chargeLossless_only (f : Frame) (s : State) {ps : List Part} {s0_ : State} (hO : OnlyChanges ps s0_ s) (hW : within [.inflight, .frames, .tracker, .views, .outputs] ps = true)  : OnlyChanges ps s0_ (State.chargeLossless f s).2 := by
  unfold State.chargeLossless
  dsimp only
  split
  · exact hO
  · split
    · rename_i heq
      split at heq
      · exact State.pushOut_only _ _ _ _ hO (within_trans rfl hW) _ heq
      · cases heq
    · exact hO

theorem State.chargeBulk_only (f : Frame) (s : State) {ps : List Part} {s0_ : State} (hO : OnlyChanges ps s0_ s) (hW : within [.inflight, .frames, .tracker, .views, .outputs] ps = true)  : OnlyChanges ps s0_ (State.chargeBulk f s).2 := by
  unfold State.chargeBulk
  extract_lets cap minOk excess short
  clear_value cap minOk excess short
  split
  · exact hO
  · split
    · exact hO
    · split
      · exact State.pushOut_only _ _ _ _ hO (within_trans rfl hW) _ (by assumption)
      · exact hO

theorem State.enterEpoch_only (tag : Nat) (s : State) {ps : List Part} {s0_ : State} (hO : OnlyChanges ps s0_ s) (hW : within [.inflight] ps = true)  : OnlyChanges ps s0_ (State.enterEpoch tag s) := by
  unfold State.enterEpoch
  try dsimp only
  repeat' (first | with_reducible assumption | (exact within_trans rfl hW) | split | (with_reducible first | (apply State.inflight_update)) | ((with_reducible refine OnlyChanges.update ?_ ?_); (on_goal 2 => ((with_reducible intro p hp); (fail_if_success (with_reducible exact Part.same_refl _ _)); cases p <;> first | exact (OnlyChanges.mem hW hp rfl).elim | exact rfl | (and_intros <;> exact rfl)))) | (with_reducible intro _) )

theorem State.takeIn_only (f : Frame) (s : State) {ps : List Part} {s0_ : State} (hO : OnlyChanges ps s0_ s) (hW : within [.inflight, .groups, .lanes, .ports, .scans, .frames, .views, .outputs] ps = true)  : OnlyChanges ps s0_ (State.takeIn f s) := by
  unfold State.takeIn
  try dsimp only
  repeat' (first | with_reducible assumption | (with_reducible first | (apply State.bump_only) | (apply State.enterEpoch_only) | (apply State.useLink_only) | (apply State.emit_only)) | (exact within_trans rfl hW) | split | (with_reducible first | (apply State.frames_update)) | ((with_reducible refine OnlyChanges.update ?_ ?_); (on_goal 2 => ((with_reducible intro p hp); (fail_if_success (with_reducible exact Part.same_refl _ _)); cases p <;> first | exact (OnlyChanges.mem hW hp rfl).elim | exact rfl | (and_intros <;> exact rfl)))) | (with_reducible intro _) )

theorem State.violation_only (f : Frame) (s : State) {ps : List Part} {s0_ : State} (hO : OnlyChanges ps s0_ s) (hW : within [.hiers, .bridges, .sources, .views] ps = true)  : OnlyChanges ps s0_ (State.violation f s) := by
  unfold State.violation
  try dsimp only
  repeat' (first | with_reducible assumption | (with_reducible first | (apply State.raise_only) | (apply State.bump_only) | (apply State.aerAt_only)) | (exact within_trans rfl hW) | split | (with_reducible intro _) )

theorem State.headCell_only (ingress : Nat) (h : Head) (s : State) {ps : List Part} {s0_ : State} (hO : OnlyChanges ps s0_ s) (hW : within [.inflight, .groups, .lanes, .ports, .scans, .frames, .hiers, .bridges, .tracker, .sources, .views, .outputs] ps = true)  : OnlyChanges ps s0_ (State.headCell ingress h s).2 := by
  unfold State.headCell
  try dsimp only
  repeat' (first | with_reducible assumption | (with_reducible first | (apply State.chargeLossless_only) | (apply State.chargeBulk_only) | (apply State.bulkDrop_only) | (apply State.takeIn_only) | (apply State.violation_only)) | (exact within_trans rfl hW) | split | (with_reducible intro _) )

theorem State.ideFailure_only (p : Nat) (s : State) {ps : List Part} {s0_ : State} (hO : OnlyChanges ps s0_ s) (hW : within [.groups, .lanes, .ports, .scans, .hiers, .bridges, .funcs, .irqPending, .sources] ps = true)  : OnlyChanges ps s0_ (State.ideFailure p s) := by
  unfold State.ideFailure
  try dsimp only
  repeat' (first | with_reducible assumption | (with_reducible first | (apply State.raise_only) | (apply State.setPort_only) | (apply State.aer_only) | (apply State.setFunc_only) | (apply State.portDown_only)) | (exact within_trans rfl hW) | split | (with_reducible intro _) )

theorem State.setFrame_only (id : Nat) (g : Frame → Frame) (s : State) {ps : List Part} {s0_ : State} (hO : OnlyChanges ps s0_ s) (hW : within [.frames] ps = true)  : OnlyChanges ps s0_ (State.setFrame id g s) := by
  unfold State.setFrame
  try dsimp only
  repeat' (first | with_reducible assumption | (exact within_trans rfl hW) | split | (with_reducible first | (apply State.frames_update)) | ((with_reducible refine OnlyChanges.update ?_ ?_); (on_goal 2 => ((with_reducible intro p hp); (fail_if_success (with_reducible exact Part.same_refl _ _)); cases p <;> first | exact (OnlyChanges.mem hW hp rfl).elim | exact rfl | (and_intros <;> exact rfl)))) | (with_reducible intro _) )

theorem State.refuseFrame_only (f : Frame) (s : State) {ps : List Part} {s0_ : State} (hO : OnlyChanges ps s0_ s) (hW : within [.groups, .lanes, .ports, .scans, .paths, .hiers, .bridges, .pwf, .funcs, .vectors, .instances, .sources, .mirror, .views, .outputs] ps = true)  : OnlyChanges ps s0_ (State.refuseFrame f s) := by
  unfold State.refuseFrame
  try dsimp only
  repeat' (first | with_reducible assumption | (with_reducible first | (apply State.raise_only) | (apply State.bump_only) | (apply State.complete_only) | (apply State.aerAt_only) | (apply State.setFunc_only) | (apply State.pwfFrame_only) | (apply State.aerCorrectable_only) | (apply State.asLinkDown_only)) | (exact within_trans rfl hW) | split | (with_reducible intro _) )

theorem State.egressDown_only (f : Frame) (s : State) {ps : List Part} {s0_ : State} (hO : OnlyChanges ps s0_ s) (hW : within [.inflight, .groups, .lanes, .ports, .scans, .frames, .paths, .hiers, .tracker, .pwf, .funcs, .vectors, .instances, .sources, .mirror, .views, .outputs] ps = true)  : OnlyChanges ps s0_ (State.egressDown f s) := by
  unfold State.egressDown
  try dsimp only
  repeat' (first | with_reducible assumption | (with_reducible first | (apply State.dropFrame_only) | (apply State.pwfFrame_only) | (apply State.bump_only) | (apply State.discardQueued_only)) | (exact within_trans rfl hW) | split | (with_reducible intro _) )

theorem State.meetHolds_only (f : Frame) (s : State) {ps : List Part} {s0_ : State} (hO : OnlyChanges ps s0_ s) (hW : within [.inflight, .groups, .lanes, .ports, .scans, .frames, .paths, .tracker, .sources, .views, .outputs] ps = true)  : OnlyChanges ps s0_ (State.meetHolds f s).2 := by
  unfold State.meetHolds
  try dsimp only
  repeat' (first | with_reducible assumption | (with_reducible first | (apply State.dropFrame_only) | (apply State.bump_only) | (apply State.complete_only) | (apply State.discardHold_only)) | (exact within_trans rfl hW) | split | (with_reducible first | (apply State.tracker_update)) | ((with_reducible refine OnlyChanges.update ?_ ?_); (on_goal 2 => ((with_reducible intro p hp); (fail_if_success (with_reducible exact Part.same_refl _ _)); cases p <;> first | exact (OnlyChanges.mem hW hp rfl).elim | exact rfl | (and_intros <;> exact rfl)))) | (with_reducible intro _) )

theorem State.grantEntry_only (f : Frame) (b : Budget) (far : Option Nat) (s : State) {ps : List Part} {s0_ : State} (hO : OnlyChanges ps s0_ s) (hW : within [.frames, .tracker] ps = true)  : OnlyChanges ps s0_ (State.grantEntry f b far s) := by
  unfold State.grantEntry
  try dsimp only
  repeat' (first | with_reducible assumption | (with_reducible first | (apply State.allocTrack_only) | (apply State.setFrame_only)) | (exact within_trans rfl hW) | split | (with_reducible intro _) )

theorem State.seekEntry_only (f : Frame) (s : State) {ps : List Part} {s0_ : State} (hO : OnlyChanges ps s0_ s) (hW : within [.inflight, .groups, .lanes, .ports, .scans, .frames, .paths, .hiers, .bridges, .tracker, .views, .outputs] ps = true)  : OnlyChanges ps s0_ (State.seekEntry f s) := by
  unfold State.seekEntry
  try dsimp only
  repeat' (first | with_reducible assumption | (with_reducible first | (apply State.refuseEntry_only) | (apply State.bump_only) | (apply State.grantEntry_only)) | (exact within_trans rfl hW) | split | (with_reducible first | (apply State.tracker_update)) | ((with_reducible refine OnlyChanges.update ?_ ?_); (on_goal 2 => ((with_reducible intro p hp); (fail_if_success (with_reducible exact Part.same_refl _ _)); cases p <;> first | exact (OnlyChanges.mem hW hp rfl).elim | exact rfl | (and_intros <;> exact rfl)))) | (with_reducible intro _) )

theorem State.completionFrame_only (f : Frame) (s : State) {ps : List Part} {s0_ : State} (hO : OnlyChanges ps s0_ s) (hW : within [.inflight, .frames, .tracker, .outputs] ps = true)  : OnlyChanges ps s0_ (State.completionFrame f s) := by
  unfold State.completionFrame
  try dsimp only
  repeat' (first | with_reducible assumption | (with_reducible first | (apply State.dropFrame_only) | (apply State.setFrame_only) | (apply State.setTrack_only)) | (exact within_trans rfl hW) | split | (with_reducible intro _) )

theorem State.hostMessage_only (v : Nat) (x : Tlp) (s : State) {ps : List Part} {s0_ : State} (hO : OnlyChanges ps s0_ s) (hW : within [.groups, .lanes, .ports, .scans, .hiers, .outputs] ps = true)  : OnlyChanges ps s0_ (State.hostMessage v x s) := by
  unfold State.hostMessage
  try dsimp only
  repeat' (first | with_reducible assumption | (with_reducible first | (apply State.each_only) | (apply State.emitOn_only) | (apply State.setHier_only)) | (exact within_trans rfl hW) | split | (with_reducible intro _) )

theorem State.messageUp_only (v : Nat) (x : Tlp) (s : State) {ps : List Part} {s0_ : State} (hO : OnlyChanges ps s0_ s) (hW : within [.groups, .lanes, .ports, .scans, .outputs] ps = true)  : OnlyChanges ps s0_ (State.messageUp v x s) := by
  unfold State.messageUp
  try dsimp only
  repeat' (first | with_reducible assumption | (with_reducible first | (apply State.emitOn_only)) | (exact within_trans rfl hW) | split | (with_reducible intro _) )

theorem State.deviceMessage_only (v : Nat) (b : Nat) (p : Nat) (x : Tlp) (s : State) {ps : List Part} {s0_ : State} (hO : OnlyChanges ps s0_ s) (hW : within [.groups, .lanes, .ports, .scans, .hiers, .outputs] ps = true)  : OnlyChanges ps s0_ (State.deviceMessage v b p x s) := by
  unfold State.deviceMessage
  try dsimp only
  repeat' (first | with_reducible assumption | (with_reducible first | (apply State.messageUp_only) | (apply State.setHier_only)) | (exact within_trans rfl hW) | split | (with_reducible intro _) )

theorem State.localMessage_only (f : Frame) (s : State) {ps : List Part} {s0_ : State} (hO : OnlyChanges ps s0_ s) (hW : within [.groups, .lanes, .ports, .scans, .hiers, .outputs] ps = true)  : OnlyChanges ps s0_ (State.localMessage f s) := by
  unfold State.localMessage
  try dsimp only
  repeat' (first | with_reducible assumption | (with_reducible first | (apply State.hostMessage_only) | (apply State.deviceMessage_only)) | (exact within_trans rfl hW) | split | (with_reducible intro _) )

theorem State.frameDone_only (id : Nat) (c : Checks) (s : State) {ps : List Part} {s0_ : State} (hO : OnlyChanges ps s0_ s) (hW : within [.inflight, .groups, .lanes, .ports, .scans, .frames, .matcher, .paths, .hiers, .bridges, .tracker, .pwf, .trunks, .funcs, .vectors, .instances, .irqPending, .sources, .mirror, .views, .outputs] ps = true)  : OnlyChanges ps s0_ (State.frameDone id c s) := by
  unfold State.frameDone
  try dsimp only
  repeat' (first | with_reducible assumption | (with_reducible first | (apply State.ifDo_only) | (apply State.ideFailure_only) | (apply State.frameBad_only) | (apply State.setFrame_only) | (apply State.dropFrame_only) | (apply State.refuseFrame_only) | (apply State.egressDown_only) | (apply State.meetHolds_only) | (apply State.seekEntry_only) | (apply State.completionFrame_only) | (apply State.localMessage_only)) | (exact within_trans rfl hW) | split | (with_reducible intro _) )

theorem State.ownerControl_only (p : Nat) (f : CfgField) (s : State) {ps : List Part} {s0_ : State} (hO : OnlyChanges ps s0_ s) (hW : within [.ports] ps = true)  : OnlyChanges ps s0_ (State.ownerControl p f s) := by
  unfold State.ownerControl
  try dsimp only
  repeat' (first | with_reducible assumption | (with_reducible first | (apply State.setPort_only)) | (exact within_trans rfl hW) | split | (with_reducible intro _) )

theorem State.linkDisableEffect_only (v : Nat) (b : Nat) (was : Bool) (s : State) {ps : List Part} {s0_ : State} (hO : OnlyChanges ps s0_ s) (hW : within [.groups, .lanes, .ports, .scans, .irqPending, .sources, .free] ps = true)  : OnlyChanges ps s0_ (State.linkDisableEffect v b was s) := by
  unfold State.linkDisableEffect
  try dsimp only
  repeat' (first | with_reducible assumption | (with_reducible first | (apply State.portDownFree_only) | (apply State.startPort_only)) | (exact within_trans rfl hW) | split | (with_reducible intro _) )

theorem State.resumeMaster_only (v : Nat) (s : State) {ps : List Part} {s0_ : State} (hO : OnlyChanges ps s0_ s) (hW : within [.groups, .lanes, .ports, .scans, .regions, .funcs, .mirror, .outputs] ps = true)  : OnlyChanges ps s0_ (State.resumeMaster v s) := by
  unfold State.resumeMaster
  try dsimp only
  repeat' (first | with_reducible assumption | (with_reducible first | (apply State.each_only) | (apply State.emitVh_only) | (apply State.setRegion_only) | (apply State.setFunc_only)) | (exact within_trans rfl hW) | split | (with_reducible intro _) )

theorem State.cfgWrite_only (v : Nat) (p : Nat) (place : CfgPlace) (f : CfgField) (x : Tlp) (s0 : State) {ps : List Part} {s0_ : State} (hO : OnlyChanges ps s0_ s0) (hW : within [.groups, .lanes, .ports, .scans, .hiers, .bridges, .poolEvents, .regions, .funcs, .irqPending, .sources, .mirror, .outputs, .free] ps = true)  : OnlyChanges ps s0_ (State.cfgWrite v p place f x s0) := by
  unfold State.cfgWrite
  try dsimp only
  repeat' (first | with_reducible assumption | (with_reducible first | (apply State.setHier_only) | (apply State.ownerControl_only) | (apply State.setBridge_only) | (apply State.linkDisableEffect_only) | (apply State.resumeMaster_only) | (apply State.setFunc_only)) | (exact within_trans rfl hW) | split | (with_reducible first | (apply State.poolEvents_update)) | ((with_reducible refine OnlyChanges.update ?_ ?_); (on_goal 2 => ((with_reducible intro p hp); (fail_if_success (with_reducible exact Part.same_refl _ _)); cases p <;> first | exact (OnlyChanges.mem hW hp rfl).elim | exact rfl | (and_intros <;> exact rfl)))) | (with_reducible intro _) )

theorem State.cfgRequest_only (v : Nat) (field : CfgField) (x : Tlp) (s : State) {ps : List Part} {s0_ : State} (hO : OnlyChanges ps s0_ s) (hW : within [.inflight, .groups, .lanes, .ports, .scans, .frames, .matcher, .paths, .hiers, .bridges, .tracker, .pwf, .trunks, .poolEvents, .regions, .funcs, .vectors, .instances, .irqPending, .sources, .mirror, .views, .outputs, .free] ps = true)  : OnlyChanges ps s0_ (State.cfgRequest v field x s) := by
  unfold State.cfgRequest
  try dsimp only
  repeat' (first | with_reducible assumption | (with_reducible first | (apply State.emitOn_only) | (apply State.headCell_only) | (apply State.frameDone_only) | (apply State.cfgDone_only) | (apply State.cfgWrite_only) | (apply State.cfgAnswer_only)) | (exact within_trans rfl hW) | split | (with_reducible intro _) )

theorem State.clearSource_only (n : Nat) (s : State) {ps : List Part} {s0_ : State} (hO : OnlyChanges ps s0_ s) (hW : within [.sources] ps = true)  : OnlyChanges ps s0_ (State.clearSource n s) := by
  unfold State.clearSource
  try dsimp only
  repeat' (first | with_reducible assumption | (with_reducible first | (apply State.setSource_only)) | (exact within_trans rfl hW) | split | (with_reducible intro _) )

theorem State.cohRefused_only (q : Request) (s : State) {ps : List Part} {s0_ : State} (hO : OnlyChanges ps s0_ s) (hW : within [.groups, .lanes, .ports, .scans, .hiers, .bridges, .sources, .views, .outputs] ps = true)  : OnlyChanges ps s0_ (State.cohRefused q s) := by
  unfold State.cohRefused
  try dsimp only
  repeat' (first | with_reducible assumption | (with_reducible first | (apply State.raise_only) | (apply State.bump_only) | (apply State.emitOn_only) | (apply State.ifDo_only) | (apply State.aer_only)) | (exact within_trans rfl hW) | split | (with_reducible intro _) )

theorem State.coldStart_only (cause : Nat) (s : State) {ps : List Part} {s0_ : State} (hO : OnlyChanges ps s0_ s) (hW : within [.beat, .epochs, .inflight, .commit, .tables, .groups, .board, .sup, .start, .lanes, .ports, .scans, .frames, .units, .matcher, .paths, .hiers, .bridges, .slots, .tracker, .channels, .pwf, .trunks, .devices, .extents, .poolLines, .poolEvents, .ledger, .homeSlots, .departed, .qps, .cqs, .regions, .clusters, .funcs, .vectors, .instances, .cmdOrder, .contained, .masterWait, .irqPending, .irqUnit, .sprout, .sources, .safeState, .collector, .pairing, .mirror, .sessions, .segments, .settings, .settingsNext, .settingsStart, .views] ps = true)  : OnlyChanges ps s0_ (State.coldStart cause s) := by
  unfold State.coldStart
  try dsimp only
  repeat' (first | with_reducible assumption | (with_reducible first | (apply State.clearDie_only) | (apply State.takeRecord_only)) | (exact within_trans rfl hW) | split | (with_reducible first | (apply State.start_update)) | ((with_reducible refine OnlyChanges.update ?_ ?_); (on_goal 2 => ((with_reducible intro p hp); (fail_if_success (with_reducible exact Part.same_refl _ _)); cases p <;> first | exact (OnlyChanges.mem hW hp rfl).elim | exact rfl | (and_intros <;> exact rfl)))) | (with_reducible intro _) )

theorem execStickyClear_only (n : Fin 1024) (s : State) {ps : List Part} {s0_ : State} (hO : OnlyChanges ps s0_ s) (hW : within [.sources, .outputs] ps = true)  : ∀ t_, (execStickyClear n s) = .next t_ → OnlyChanges ps s0_ t_ := by
  unfold execStickyClear
  try dsimp only
  repeat' (first | with_reducible assumption | (with_reducible rintro _ ⟨⟩) | (with_reducible first | (refine guarded_only _ _ _ ?_ ?_ ?_) | (apply State.answer_only) | (apply State.clearSource_only)) | (exact within_trans rfl hW) | split | (with_reducible intro _) )

theorem commandWrite_only (f : State → State) (s : State) {ps : List Part} {s0_ : State} (hO : OnlyChanges ps s0_ s) (hW : within [.outputs] ps = true) (h_f : ∀ s_, OnlyChanges ps s0_ s_ → OnlyChanges ps s0_ (f s_)) : ∀ t_, (commandWrite f s) = .next t_ → OnlyChanges ps s0_ t_ := by
  unfold commandWrite
  try dsimp only
  repeat' (first | with_reducible assumption | (with_reducible rintro _ ⟨⟩) | (with_reducible first | (refine guarded_only _ _ _ ?_ ?_ ?_) | (apply State.answer_only) | (apply h_f)) | (exact within_trans rfl hW) | split | (with_reducible intro _) )

theorem execForce_only (n : Fin 1024) (s : State) {ps : List Part} {s0_ : State} (hO : OnlyChanges ps s0_ s) (hW : within [.sources, .outputs] ps = true)  : ∀ t_, (execForce n s) = .next t_ → OnlyChanges ps s0_ t_ := by
  unfold execForce
  try dsimp only
  repeat' (first | with_reducible assumption | (with_reducible rintro _ ⟨⟩) | (with_reducible first | (refine commandWrite_only _ _ ?_ ?_ ?_) | (apply State.answer_only) | (apply State.raise_only)) | (exact within_trans rfl hW) | split | (with_reducible intro _) )

theorem State.containRelease_only (d : Nat) (s : State) {ps : List Part} {s0_ : State} (hO : OnlyChanges ps s0_ s) (hW : within [.groups, .lanes, .ports, .scans, .bridges, .slots, .funcs, .vectors, .instances, .contained, .sources, .mirror, .sessions, .views, .outputs] ps = true)  : OnlyChanges ps s0_ (State.containRelease d s) := by
  unfold State.containRelease
  try dsimp only
  repeat' (first | with_reducible assumption | (with_reducible first | (apply State.each_only) | (apply State.setPort_only) | (apply State.setBridge_only) | (apply State.setSlot_only) | (apply State.domainState_only) | (apply State.startPort_only)) | (exact within_trans rfl hW) | split | (with_reducible first | (apply State.contained_update)) | ((with_reducible refine OnlyChanges.update ?_ ?_); (on_goal 2 => ((with_reducible intro p hp); (fail_if_success (with_reducible exact Part.same_refl _ _)); cases p <;> first | exact (OnlyChanges.mem hW hp rfl).elim | exact rfl | (and_intros <;> exact rfl)))) | (with_reducible intro _) )

theorem execContainRelease_only (d : Fin 4096) (s : State) {ps : List Part} {s0_ : State} (hO : OnlyChanges ps s0_ s) (hW : within [.groups, .lanes, .ports, .scans, .bridges, .slots, .funcs, .vectors, .instances, .contained, .sources, .mirror, .sessions, .views, .outputs] ps = true)  : ∀ t_, (execContainRelease d s) = .next t_ → OnlyChanges ps s0_ t_ := by
  unfold execContainRelease
  try dsimp only
  repeat' (first | with_reducible assumption | (with_reducible rintro _ ⟨⟩) | (with_reducible first | (refine commandWrite_only _ _ ?_ ?_ ?_) | (apply State.answer_only) | (apply State.containRelease_only)) | (exact within_trans rfl hW) | split | (with_reducible intro _) )

theorem State.releasePort_only (p : Nat) (s : State) {ps : List Part} {s0_ : State} (hO : OnlyChanges ps s0_ s) (hW : within [.ports, .bridges] ps = true)  : OnlyChanges ps s0_ (State.releasePort p s) := by
  unfold State.releasePort
  try dsimp only
  repeat' (first | with_reducible assumption | (with_reducible first | (apply State.setPort_only) | (apply State.setBridge_only)) | (exact within_trans rfl hW) | split | (with_reducible intro _) )

theorem execPortRelease_only (port : Fin 160) (value : Bool) (s : State) {ps : List Part} {s0_ : State} (hO : OnlyChanges ps s0_ s) (hW : within [.ports, .bridges, .outputs] ps = true)  : ∀ t_, (execPortRelease port value s) = .next t_ → OnlyChanges ps s0_ t_ := by
  unfold execPortRelease
  try dsimp only
  repeat' (first | with_reducible assumption | (with_reducible rintro _ ⟨⟩) | (with_reducible first | (refine commandWrite_only _ _ ?_ ?_ ?_) | (apply State.answer_only) | (apply State.releasePort_only)) | (exact within_trans rfl hW) | split | (with_reducible intro _) )

theorem State.writePwren_only (p : Nat) (v : Nat) (s : State) {ps : List Part} {s0_ : State} (hO : OnlyChanges ps s0_ s) (hW : within [.groups, .lanes, .ports, .scans, .slots, .irqPending, .sources, .outputs, .free] ps = true)  : OnlyChanges ps s0_ (State.writePwren p v s) := by
  unfold State.writePwren
  try dsimp only
  repeat' (first | with_reducible assumption | (with_reducible first | (apply State.answer_only) | (apply State.setPwren_only)) | (exact within_trans rfl hW) | split | (with_reducible intro _) )

theorem State.laneOut_only (l : Nat) (cause : Nat) (s : State) {ps : List Part} {s0_ : State} (hO : OnlyChanges ps s0_ s) (hW : within [.lanes, .sources] ps = true)  : OnlyChanges ps s0_ (State.laneOut l cause s) := by
  unfold State.laneOut
  try dsimp only
  repeat' (first | with_reducible assumption | (with_reducible first | (apply State.raise_only) | (apply State.setLane_only)) | (exact within_trans rfl hW) | split | (with_reducible intro _) )

theorem State.downNow_only (p : Nat) (cause : Nat) (s : State) {ps : List Part} {s0_ : State} (hO : OnlyChanges ps s0_ s) (hW : within [.inflight, .groups, .lanes, .ports, .scans, .frames, .matcher, .paths, .hiers, .bridges, .slots, .tracker, .channels, .pwf, .trunks, .devices, .extents, .poolLines, .poolEvents, .ledger, .homeSlots, .departed, .qps, .cqs, .regions, .funcs, .vectors, .instances, .cmdOrder, .masterWait, .irqPending, .sources, .mirror, .sessions, .views, .outputs, .free] ps = true)  : OnlyChanges ps s0_ (State.downNow p cause s) := by
  unfold State.downNow
  try dsimp only
  repeat' (first | with_reducible assumption | (with_reducible first | (apply State.portDown_only) | (apply State.linkLost_only) | (apply State.startPort_only)) | (exact within_trans rfl hW) | split | (with_reducible intro _) )

theorem State.takeRun_only (p : Nat) (stage : Nat) (run : List Nat) (rev : Bool) (s : State) {ps : List Part} {s0_ : State} (hO : OnlyChanges ps s0_ s) (hW : within [.lanes, .ports] ps = true)  : OnlyChanges ps s0_ (State.takeRun p stage run rev s) := by
  unfold State.takeRun
  try dsimp only
  repeat' (first | with_reducible assumption | (with_reducible first | (apply State.each_only) | (apply State.setLane_only) | (apply State.setPort_only)) | (exact within_trans rfl hW) | split | (with_reducible intro _) )

theorem State.trunkRetrain_only (p : Nat) (s : State) {ps : List Part} {s0_ : State} (hO : OnlyChanges ps s0_ s) (hW : within [.inflight, .ports, .frames, .matcher, .tracker, .trunks, .sources, .views, .outputs] ps = true)  : OnlyChanges ps s0_ (State.trunkRetrain p s) := by
  unfold State.trunkRetrain
  try dsimp only
  repeat' (first | with_reducible assumption | (with_reducible first | (apply State.setTrunk_only) | (apply State.frameBad_only) | (apply State.dropFrame_only) | (apply State.setFrame_only) | (apply State.emit_only)) | (exact within_trans rfl hW) | split | (with_reducible first | (apply State.matcher_update)) | ((with_reducible refine OnlyChanges.update ?_ ?_); (on_goal 2 => ((with_reducible intro p hp); (fail_if_success (with_reducible exact Part.same_refl _ _)); cases p <;> first | exact (OnlyChanges.mem hW hp rfl).elim | exact rfl | (and_intros <;> exact rfl)))) | (with_reducible intro _) )

theorem State.narrow_only (p : Nat) (s : State) {ps : List Part} {s0_ : State} (hO : OnlyChanges ps s0_ s) (hW : within [.inflight, .groups, .lanes, .ports, .scans, .frames, .matcher, .paths, .hiers, .bridges, .slots, .tracker, .channels, .pwf, .trunks, .devices, .extents, .poolLines, .poolEvents, .ledger, .homeSlots, .departed, .qps, .cqs, .regions, .funcs, .vectors, .instances, .cmdOrder, .masterWait, .irqPending, .sources, .mirror, .sessions, .views, .outputs, .free] ps = true)  : OnlyChanges ps s0_ (State.narrow p s) := by
  unfold State.narrow
  try dsimp only
  repeat' (first | with_reducible assumption | (with_reducible first | (apply State.downNow_only) | (apply State.takeRun_only) | (apply State.setPort_only) | (apply State.scanCheck_only) | (apply State.trunkRetrain_only)) | (exact within_trans rfl hW) | split | (with_reducible intro _) )

theorem State.failTraining_only (p : Nat) (s : State) {ps : List Part} {s0_ : State} (hO : OnlyChanges ps s0_ s) (hW : within [.inflight, .groups, .lanes, .ports, .scans, .frames, .matcher, .paths, .hiers, .bridges, .slots, .tracker, .channels, .pwf, .trunks, .devices, .extents, .poolLines, .poolEvents, .ledger, .homeSlots, .departed, .qps, .cqs, .regions, .funcs, .vectors, .instances, .cmdOrder, .masterWait, .irqPending, .sources, .mirror, .sessions, .views, .outputs, .free] ps = true)  : OnlyChanges ps s0_ (State.failTraining p s) := by
  unfold State.failTraining
  try dsimp only
  repeat' (first | with_reducible assumption | (with_reducible first | (apply State.downNow_only) | (apply State.setPort_only) | (apply State.each_only) | (apply State.setLane_only) | (apply State.interrupt_only) | (apply State.raise_only)) | (exact within_trans rfl hW) | split | (with_reducible intro _) )

theorem State.toStage_only (p : Nat) (n : Nat) (s : State) {ps : List Part} {s0_ : State} (hO : OnlyChanges ps s0_ s) (hW : within [.lanes, .ports] ps = true)  : OnlyChanges ps s0_ (State.toStage p n s) := by
  unfold State.toStage
  try dsimp only
  repeat' (first | with_reducible assumption | (with_reducible first | (apply State.each_only) | (apply State.setLane_only) | (apply State.setPort_only)) | (exact within_trans rfl hW) | split | (with_reducible intro _) )

theorem State.toTarget_only (p : Nat) (s : State) {ps : List Part} {s0_ : State} (hO : OnlyChanges ps s0_ s) (hW : within [.inflight, .groups, .lanes, .ports, .scans, .frames, .matcher, .paths, .hiers, .bridges, .slots, .tracker, .channels, .pwf, .trunks, .devices, .extents, .poolLines, .poolEvents, .ledger, .homeSlots, .departed, .qps, .cqs, .regions, .funcs, .vectors, .instances, .cmdOrder, .masterWait, .irqPending, .sources, .mirror, .sessions, .views, .outputs, .free] ps = true)  : OnlyChanges ps s0_ (State.toTarget p s) := by
  unfold State.toTarget
  try dsimp only
  repeat' (first | with_reducible assumption | (with_reducible first | (apply State.failTraining_only) | (apply State.toStage_only) | (apply State.setPort_only) | (apply State.each_only) | (apply State.setLane_only)) | (exact within_trans rfl hW) | split | (with_reducible intro _) )

theorem State.stageAdvance_only (p : Nat) (s : State) {ps : List Part} {s0_ : State} (hO : OnlyChanges ps s0_ s) (hW : within [.inflight, .groups, .lanes, .ports, .scans, .frames, .matcher, .paths, .hiers, .bridges, .slots, .tracker, .channels, .pwf, .trunks, .devices, .extents, .poolLines, .poolEvents, .ledger, .homeSlots, .departed, .qps, .cqs, .regions, .funcs, .vectors, .instances, .cmdOrder, .masterWait, .irqPending, .sources, .mirror, .sessions, .views, .outputs, .free] ps = true)  : OnlyChanges ps s0_ (State.stageAdvance p s) := by
  unfold State.stageAdvance
  try dsimp only
  repeat' (first | with_reducible assumption | (with_reducible first | (apply State.toStage_only) | (apply State.toTarget_only)) | (exact within_trans rfl hW) | split | (with_reducible intro _) )

theorem State.settle_only (p : Nat) (s : State) {ps : List Part} {s0_ : State} (hO : OnlyChanges ps s0_ s) (hW : within [.inflight, .groups, .lanes, .ports, .scans, .frames, .matcher, .paths, .hiers, .bridges, .slots, .tracker, .channels, .pwf, .trunks, .devices, .extents, .poolLines, .poolEvents, .ledger, .homeSlots, .departed, .qps, .cqs, .regions, .funcs, .vectors, .instances, .cmdOrder, .masterWait, .irqPending, .sources, .mirror, .sessions, .views, .outputs, .free] ps = true)  : OnlyChanges ps s0_ (State.settle p s) := by
  unfold State.settle
  try dsimp only
  repeat' (first | with_reducible assumption | (with_reducible first | (apply State.failTraining_only) | (apply State.each_only) | (apply State.setLane_only) | (apply State.stageAdvance_only) | (apply State.setPort_only) | (apply State.takeRun_only)) | (exact within_trans rfl hW) | split | (with_reducible intro _) )

theorem State.laneFail_only (l : Nat) (cause : Nat) (s : State) {ps : List Part} {s0_ : State} (hO : OnlyChanges ps s0_ s) (hW : within [.inflight, .groups, .lanes, .ports, .scans, .frames, .matcher, .paths, .hiers, .bridges, .slots, .tracker, .channels, .pwf, .trunks, .devices, .extents, .poolLines, .poolEvents, .ledger, .homeSlots, .departed, .qps, .cqs, .regions, .funcs, .vectors, .instances, .cmdOrder, .masterWait, .irqPending, .sources, .mirror, .sessions, .views, .outputs, .free] ps = true)  : OnlyChanges ps s0_ (State.laneFail l cause s) := by
  unfold State.laneFail
  try dsimp only
  repeat' (first | with_reducible assumption | (with_reducible first | (apply State.laneOut_only) | (apply State.narrow_only) | (apply State.settle_only)) | (exact within_trans rfl hW) | split | (with_reducible intro _) )

theorem execLaneExclude_only (lane : Fin 328) (exclude : Bool) (s : State) {ps : List Part} {s0_ : State} (hO : OnlyChanges ps s0_ s) (hW : within [.inflight, .groups, .lanes, .ports, .scans, .frames, .matcher, .paths, .hiers, .bridges, .slots, .tracker, .channels, .pwf, .trunks, .devices, .extents, .poolLines, .poolEvents, .ledger, .homeSlots, .departed, .qps, .cqs, .regions, .funcs, .vectors, .instances, .cmdOrder, .masterWait, .irqPending, .sources, .mirror, .sessions, .views, .outputs, .free] ps = true)  : ∀ t_, (execLaneExclude lane exclude s) = .next t_ → OnlyChanges ps s0_ t_ := by
  unfold execLaneExclude
  try dsimp only
  repeat' (first | with_reducible assumption | (with_reducible rintro _ ⟨⟩) | (with_reducible first | (refine commandWrite_only _ _ ?_ ?_ ?_) | (apply State.setLane_only) | (apply State.answer_only) | (apply State.laneFail_only)) | (exact within_trans rfl hW) | split | (with_reducible intro _) )

theorem State.setScan_only (n : Nat) (f : Scan → Scan) (s : State) {ps : List Part} {s0_ : State} (hO : OnlyChanges ps s0_ s) (hW : within [.scans] ps = true)  : OnlyChanges ps s0_ (State.setScan n f s) := by
  unfold State.setScan
  try dsimp only
  repeat' (first | with_reducible assumption | (exact within_trans rfl hW) | split | (with_reducible first | (apply State.scans_update)) | ((with_reducible refine OnlyChanges.update ?_ ?_); (on_goal 2 => ((with_reducible intro p hp); (fail_if_success (with_reducible exact Part.same_refl _ _)); cases p <;> first | exact (OnlyChanges.mem hW hp rfl).elim | exact rfl | (and_intros <;> exact rfl)))) | (with_reducible intro _) )

theorem execScanStart_only (slot : Fin 4) (fullScale : BitVec 16) (s : State) {ps : List Part} {s0_ : State} (hO : OnlyChanges ps s0_ s) (hW : within [.scans, .outputs] ps = true)  : ∀ t_, (execScanStart slot fullScale s) = .next t_ → OnlyChanges ps s0_ t_ := by
  unfold execScanStart
  try dsimp only
  repeat' (first | with_reducible assumption | (with_reducible rintro _ ⟨⟩) | (with_reducible first | (refine commandWrite_only _ _ ?_ ?_ ?_) | (apply State.answer_only) | (apply State.setScan_only)) | (exact within_trans rfl hW) | split | (with_reducible intro _) )

theorem execScanAbort_only (slot : Fin 4) (s : State) {ps : List Part} {s0_ : State} (hO : OnlyChanges ps s0_ s) (hW : within [.scans, .outputs] ps = true)  : ∀ t_, (execScanAbort slot s) = .next t_ → OnlyChanges ps s0_ t_ := by
  unfold execScanAbort
  try dsimp only
  repeat' (first | with_reducible assumption | (with_reducible rintro _ ⟨⟩) | (with_reducible first | (refine commandWrite_only _ _ ?_ ?_ ?_) | (apply State.answer_only) | (apply State.setScan_only)) | (exact within_trans rfl hW) | split | (with_reducible intro _) )

theorem State.commitRequest_only (token : Nat) (cycle : Nat) (s : State) {ps : List Part} {s0_ : State} (hO : OnlyChanges ps s0_ s) (hW : within [.commit, .groups, .lanes, .ports, .scans, .funcs, .vectors, .instances, .irqPending, .sources, .mirror, .sessions, .views, .outputs] ps = true)  : OnlyChanges ps s0_ (State.commitRequest token cycle s) := by
  unfold State.commitRequest
  try dsimp only
  repeat' (first | with_reducible assumption | (with_reducible first | (apply State.answer_only) | (apply State.setCommit_only)) | (exact within_trans rfl hW) | split | (with_reducible first | (apply State.commit_update)) | ((with_reducible refine OnlyChanges.update ?_ ?_); (on_goal 2 => ((with_reducible intro p hp); (fail_if_success (with_reducible exact Part.same_refl _ _)); cases p <;> first | exact (OnlyChanges.mem hW hp rfl).elim | exact rfl | (and_intros <;> exact rfl)))) | (with_reducible intro _) )

theorem execCommitRequest_only (token : BitVec 32) (cycle : Fin 256) (s : State) {ps : List Part} {s0_ : State} (hO : OnlyChanges ps s0_ s) (hW : within [.commit, .groups, .lanes, .ports, .scans, .funcs, .vectors, .instances, .irqPending, .sources, .mirror, .sessions, .views, .outputs] ps = true)  : ∀ t_, (execCommitRequest token cycle s) = .next t_ → OnlyChanges ps s0_ t_ := by
  unfold execCommitRequest
  try dsimp only
  repeat' (first | with_reducible assumption | (with_reducible rintro _ ⟨⟩) | (with_reducible first | (refine commandWrite_only _ _ ?_ ?_ ?_) | (apply State.commitRequest_only)) | (exact within_trans rfl hW) | split | (with_reducible intro _) )

theorem execShadowDiscard_only (one : Bool) (s : State) {ps : List Part} {s0_ : State} (hO : OnlyChanges ps s0_ s) (hW : within [.commit, .tables, .groups, .lanes, .ports, .scans, .funcs, .vectors, .instances, .irqPending, .sources, .mirror, .sessions, .views, .outputs] ps = true)  : ∀ t_, (execShadowDiscard one s) = .next t_ → OnlyChanges ps s0_ t_ := by
  unfold execShadowDiscard
  try dsimp only
  repeat' (first | with_reducible assumption | (with_reducible rintro _ ⟨⟩) | (with_reducible first | (refine guarded_only _ _ _ ?_ ?_ ?_) | (apply State.answer_only) | (refine commandWrite_only _ _ ?_ ?_ ?_) | (apply State.setCommit_only)) | (exact within_trans rfl hW) | split | (with_reducible first | (apply State.tables_update)) | ((with_reducible refine OnlyChanges.update ?_ ?_); (on_goal 2 => ((with_reducible intro p hp); (fail_if_success (with_reducible exact Part.same_refl _ _)); cases p <;> first | exact (OnlyChanges.mem hW hp rfl).elim | exact rfl | (and_intros <;> exact rfl)))) | (with_reducible intro _) )

theorem State.setSup_only (f : Supervisor → Supervisor) (s : State) {ps : List Part} {s0_ : State} (hO : OnlyChanges ps s0_ s) (hW : within [.sup] ps = true)  : OnlyChanges ps s0_ (State.setSup f s) := by
  unfold State.setSup
  try dsimp only
  repeat' (first | with_reducible assumption | (exact within_trans rfl hW) | split | (with_reducible first | (apply State.sup_update)) | ((with_reducible refine OnlyChanges.update ?_ ?_); (on_goal 2 => ((with_reducible intro p hp); (fail_if_success (with_reducible exact Part.same_refl _ _)); cases p <;> first | exact (OnlyChanges.mem hW hp rfl).elim | exact rfl | (and_intros <;> exact rfl)))) | (with_reducible intro _) )

theorem execLatchRecordClear_only (s : State) {ps : List Part} {s0_ : State} (hO : OnlyChanges ps s0_ s) (hW : within [.sup, .outputs] ps = true)  : ∀ t_, (execLatchRecordClear s) = .next t_ → OnlyChanges ps s0_ t_ := by
  unfold execLatchRecordClear
  try dsimp only
  repeat' (first | with_reducible assumption | (with_reducible rintro _ ⟨⟩) | (with_reducible first | (refine commandWrite_only _ _ ?_ ?_ ?_) | (apply State.answer_only) | (apply State.setSup_only)) | (exact within_trans rfl hW) | split | (with_reducible intro _) )

theorem execTwinRelease_only (s : State) {ps : List Part} {s0_ : State} (hO : OnlyChanges ps s0_ s) (hW : within [.sup, .outputs] ps = true)  : ∀ t_, (execTwinRelease s) = .next t_ → OnlyChanges ps s0_ t_ := by
  unfold execTwinRelease
  try dsimp only
  repeat' (first | with_reducible assumption | (with_reducible rintro _ ⟨⟩) | (with_reducible first | (refine commandWrite_only _ _ ?_ ?_ ?_) | (apply State.answer_only) | (apply State.setSup_only)) | (exact within_trans rfl hW) | split | (with_reducible intro _) )

theorem execStandbyRequest_only (s : State) {ps : List Part} {s0_ : State} (hO : OnlyChanges ps s0_ s) (hW : within [.beat, .epochs, .inflight, .commit, .tables, .groups, .board, .sup, .start, .lanes, .ports, .scans, .frames, .units, .matcher, .paths, .hiers, .bridges, .slots, .tracker, .channels, .pwf, .trunks, .devices, .extents, .poolLines, .poolEvents, .ledger, .homeSlots, .departed, .qps, .cqs, .regions, .clusters, .funcs, .vectors, .instances, .cmdOrder, .contained, .masterWait, .irqPending, .irqUnit, .sprout, .sources, .safeState, .collector, .pairing, .mirror, .sessions, .segments, .settings, .settingsNext, .settingsStart, .views, .outputs] ps = true)  : ∀ t_, (execStandbyRequest s) = .next t_ → OnlyChanges ps s0_ t_ := by
  unfold execStandbyRequest
  try dsimp only
  repeat' (first | with_reducible assumption | (with_reducible rintro _ ⟨⟩) | (with_reducible first | (refine commandWrite_only _ _ ?_ ?_ ?_) | (apply State.answer_only) | (apply State.warmClear_only)) | (exact within_trans rfl hW) | split | (with_reducible first | (apply State.sup_update) | (apply State.start_update) | (apply State.sprout_update)) | ((with_reducible refine OnlyChanges.update ?_ ?_); (on_goal 2 => ((with_reducible intro p hp); (fail_if_success (with_reducible exact Part.same_refl _ _)); cases p <;> first | exact (OnlyChanges.mem hW hp rfl).elim | exact rfl | (and_intros <;> exact rfl)))) | (with_reducible intro _) )

theorem State.setStartUnit_only (f : StartUnit → StartUnit) (s : State) {ps : List Part} {s0_ : State} (hO : OnlyChanges ps s0_ s) (hW : within [.start] ps = true)  : OnlyChanges ps s0_ (State.setStartUnit f s) := by
  unfold State.setStartUnit
  try dsimp only
  repeat' (first | with_reducible assumption | (exact within_trans rfl hW) | split | (with_reducible first | (apply State.start_update)) | ((with_reducible refine OnlyChanges.update ?_ ?_); (on_goal 2 => ((with_reducible intro p hp); (fail_if_success (with_reducible exact Part.same_refl _ _)); cases p <;> first | exact (OnlyChanges.mem hW hp rfl).elim | exact rfl | (and_intros <;> exact rfl)))) | (with_reducible intro _) )

theorem execWarmStartRequest_only (s : State) {ps : List Part} {s0_ : State} (hO : OnlyChanges ps s0_ s) (hW : within [.beat, .epochs, .inflight, .commit, .tables, .groups, .board, .sup, .start, .lanes, .ports, .scans, .frames, .units, .matcher, .paths, .hiers, .bridges, .slots, .tracker, .channels, .pwf, .trunks, .devices, .extents, .poolLines, .poolEvents, .ledger, .homeSlots, .departed, .qps, .cqs, .regions, .clusters, .funcs, .vectors, .instances, .cmdOrder, .contained, .masterWait, .irqPending, .irqUnit, .sprout, .sources, .safeState, .collector, .pairing, .mirror, .sessions, .segments, .settings, .settingsNext, .settingsStart, .views, .outputs] ps = true)  : ∀ t_, (execWarmStartRequest s) = .next t_ → OnlyChanges ps s0_ t_ := by
  unfold execWarmStartRequest
  try dsimp only
  repeat' (first | with_reducible assumption | (with_reducible rintro _ ⟨⟩) | (with_reducible first | (refine guarded_only _ _ _ ?_ ?_ ?_) | (apply State.answer_only) | (apply State.setStartUnit_only) | (apply State.warmStart_only)) | (exact within_trans rfl hW) | split | (with_reducible intro _) )

theorem execColdStartRequest_only (s : State) {ps : List Part} {s0_ : State} (hO : OnlyChanges ps s0_ s) (hW : within [.beat, .epochs, .inflight, .commit, .tables, .groups, .board, .sup, .start, .lanes, .ports, .scans, .frames, .units, .matcher, .paths, .hiers, .bridges, .slots, .tracker, .channels, .pwf, .trunks, .devices, .extents, .poolLines, .poolEvents, .ledger, .homeSlots, .departed, .qps, .cqs, .regions, .clusters, .funcs, .vectors, .instances, .cmdOrder, .contained, .masterWait, .irqPending, .irqUnit, .sprout, .sources, .safeState, .collector, .pairing, .mirror, .sessions, .segments, .settings, .settingsNext, .settingsStart, .views, .outputs] ps = true)  : ∀ t_, (execColdStartRequest s) = .next t_ → OnlyChanges ps s0_ t_ := by
  unfold execColdStartRequest
  try dsimp only
  repeat' (first | with_reducible assumption | (with_reducible rintro _ ⟨⟩) | (with_reducible first | (refine guarded_only _ _ _ ?_ ?_ ?_) | (apply State.answer_only) | (apply State.setStartUnit_only) | (apply State.coldStart_only)) | (exact within_trans rfl hW) | split | (with_reducible intro _) )

theorem execImageBlockWrite_only (slot : Fin 2) (block : BitVec 8192) (s : State) {ps : List Part} {s0_ : State} (hO : OnlyChanges ps s0_ s) (hW : within [.start, .outputs] ps = true)  : ∀ t_, (execImageBlockWrite slot block s) = .next t_ → OnlyChanges ps s0_ t_ := by
  unfold execImageBlockWrite
  try dsimp only
  repeat' (first | with_reducible assumption | (with_reducible rintro _ ⟨⟩) | (with_reducible first | (refine guarded_only _ _ _ ?_ ?_ ?_) | (apply State.answer_only) | (apply State.setStartUnit_only)) | (exact within_trans rfl hW) | split | (with_reducible intro _) )

theorem execImageVerify_only (slot : Fin 2) (s : State) {ps : List Part} {s0_ : State} (hO : OnlyChanges ps s0_ s) (hW : within [.start, .outputs] ps = true)  : ∀ t_, (execImageVerify slot s) = .next t_ → OnlyChanges ps s0_ t_ := by
  unfold execImageVerify
  try dsimp only
  repeat' (first | with_reducible assumption | (with_reducible rintro _ ⟨⟩) | (with_reducible first | (refine guarded_only _ _ _ ?_ ?_ ?_) | (apply State.answer_only) | (apply State.setStartUnit_only)) | (exact within_trans rfl hW) | split | (with_reducible intro _) )

theorem execStoreRequest_only (s : State) {ps : List Part} {s0_ : State} (hO : OnlyChanges ps s0_ s) (hW : within [.start, .outputs] ps = true)  : ∀ t_, (execStoreRequest s) = .next t_ → OnlyChanges ps s0_ t_ := by
  unfold execStoreRequest
  try dsimp only
  repeat' (first | with_reducible assumption | (with_reducible rintro _ ⟨⟩) | (with_reducible first | (refine commandWrite_only _ _ ?_ ?_ ?_) | (apply State.answer_only) | (apply State.setStartUnit_only)) | (exact within_trans rfl hW) | split | (with_reducible intro _) )

theorem State.groupReset_only (n : Nat) (s : State) {ps : List Part} {s0_ : State} (hO : OnlyChanges ps s0_ s) (hW : within [.groups, .start, .lanes, .ports, .scans, .slots, .irqPending, .sources, .free] ps = true)  : OnlyChanges ps s0_ (State.groupReset n s) := by
  unfold State.groupReset
  try dsimp only
  repeat' (first | with_reducible assumption | (with_reducible first | (apply State.setGroup_only) | (apply State.each_only) | (apply State.assertSlot_only)) | (exact within_trans rfl hW) | split | (with_reducible first | (apply State.start_update)) | ((with_reducible refine OnlyChanges.update ?_ ?_); (on_goal 2 => ((with_reducible intro p hp); (fail_if_success (with_reducible exact Part.same_refl _ _)); cases p <;> first | exact (OnlyChanges.mem hW hp rfl).elim | exact rfl | (and_intros <;> exact rfl)))) | (with_reducible intro _) )

theorem execGroupPerst_only (n : Fin 40) (s : State) {ps : List Part} {s0_ : State} (hO : OnlyChanges ps s0_ s) (hW : within [.groups, .start, .lanes, .ports, .scans, .slots, .irqPending, .sources, .outputs, .free] ps = true)  : ∀ t_, (execGroupPerst n s) = .next t_ → OnlyChanges ps s0_ t_ := by
  unfold execGroupPerst
  try dsimp only
  repeat' (first | with_reducible assumption | (with_reducible rintro _ ⟨⟩) | (with_reducible first | (refine commandWrite_only _ _ ?_ ?_ ?_) | (apply State.answer_only) | (apply State.groupReset_only)) | (exact within_trans rfl hW) | split | (with_reducible intro _) )

theorem State.poolCheck_only (s : State) {ps : List Part} {s0_ : State} (hO : OnlyChanges ps s0_ s) (hW : within [.matcher, .sources] ps = true)  : OnlyChanges ps s0_ (State.poolCheck s) := by
  unfold State.poolCheck
  try dsimp only
  repeat' (first | with_reducible assumption | (with_reducible first | (apply State.raise_only)) | (exact within_trans rfl hW) | split | (with_reducible first | (apply State.matcher_update)) | ((with_reducible refine OnlyChanges.update ?_ ?_); (on_goal 2 => ((with_reducible intro p hp); (fail_if_success (with_reducible exact Part.same_refl _ _)); cases p <;> first | exact (OnlyChanges.mem hW hp rfl).elim | exact rfl | (and_intros <;> exact rfl)))) | (with_reducible intro _) )

theorem State.retireBank_only (b : Nat) (s : State) {ps : List Part} {s0_ : State} (hO : OnlyChanges ps s0_ s) (hW : within [.frames, .units, .matcher, .sources] ps = true)  : OnlyChanges ps s0_ (State.retireBank b s) := by
  unfold State.retireBank
  try dsimp only
  repeat' (first | with_reducible assumption | (with_reducible first | (apply State.poolCheck_only)) | (exact within_trans rfl hW) | split | (with_reducible first | (apply State.frames_update) | (apply State.units_update)) | ((with_reducible refine OnlyChanges.update ?_ ?_); (on_goal 2 => ((with_reducible intro p hp); (fail_if_success (with_reducible exact Part.same_refl _ _)); cases p <;> first | exact (OnlyChanges.mem hW hp rfl).elim | exact rfl | (and_intros <;> exact rfl)))) | (with_reducible intro _) )

theorem State.struck_only (id : Nat) (head32 : Bool) (s : State) {ps : List Part} {s0_ : State} (hO : OnlyChanges ps s0_ s) (hW : within [.inflight, .groups, .lanes, .ports, .scans, .frames, .matcher, .paths, .hiers, .bridges, .tracker, .pwf, .trunks, .funcs, .vectors, .instances, .sources, .mirror, .views, .outputs] ps = true)  : OnlyChanges ps s0_ (State.struck id head32 s) := by
  unfold State.struck
  try dsimp only
  repeat' (first | with_reducible assumption | (with_reducible first | (apply State.raise_only) | (apply State.bump_only) | (apply State.setFrame_only) | (apply State.frameBad_only) | (apply State.aer_only) | (apply State.pwfFrame_only)) | (exact within_trans rfl hW) | split | (with_reducible intro _) )

theorem execBankRetire_only (bank : Fin 64) (strike : Option (Nat × Bool)) (s : State) {ps : List Part} {s0_ : State} (hO : OnlyChanges ps s0_ s) (hW : within [.inflight, .groups, .lanes, .ports, .scans, .frames, .units, .matcher, .paths, .hiers, .bridges, .tracker, .pwf, .trunks, .funcs, .vectors, .instances, .sources, .mirror, .views, .outputs] ps = true)  : ∀ t_, (execBankRetire bank strike s) = .next t_ → OnlyChanges ps s0_ t_ := by
  unfold execBankRetire
  try dsimp only
  repeat' (first | with_reducible assumption | (with_reducible rintro _ ⟨⟩) | (with_reducible first | (refine commandWrite_only _ _ ?_ ?_ ?_) | (apply State.answer_only) | (apply State.retireBank_only) | (refine guarded_only _ _ _ ?_ ?_ ?_) | (apply State.struck_only)) | (exact within_trans rfl hW) | split | (with_reducible intro _) )

theorem execAttachmentRetire_only (n : Fin 40) (strike : Option (Nat × Bool)) (s : State) {ps : List Part} {s0_ : State} (hO : OnlyChanges ps s0_ s) (hW : within [.inflight, .groups, .lanes, .ports, .scans, .frames, .units, .matcher, .paths, .hiers, .bridges, .tracker, .pwf, .trunks, .funcs, .vectors, .instances, .sources, .mirror, .views, .outputs] ps = true)  : ∀ t_, (execAttachmentRetire n strike s) = .next t_ → OnlyChanges ps s0_ t_ := by
  unfold execAttachmentRetire
  try dsimp only
  repeat' (first | with_reducible assumption | (with_reducible rintro _ ⟨⟩) | (with_reducible first | (refine commandWrite_only _ _ ?_ ?_ ?_) | (apply State.answer_only) | (refine guarded_only _ _ _ ?_ ?_ ?_) | (apply State.struck_only)) | (exact within_trans rfl hW) | split | (with_reducible first | (apply State.units_update)) | ((with_reducible refine OnlyChanges.update ?_ ?_); (on_goal 2 => ((with_reducible intro p hp); (fail_if_success (with_reducible exact Part.same_refl _ _)); cases p <;> first | exact (OnlyChanges.mem hW hp rfl).elim | exact rfl | (and_intros <;> exact rfl)))) | (with_reducible intro _) )

theorem execReleaseExtent_only (x : Fin 4096) (s : State) {ps : List Part} {s0_ : State} (hO : OnlyChanges ps s0_ s) (hW : within [.extents, .poolLines, .poolEvents, .sources, .mirror, .views, .outputs] ps = true)  : ∀ t_, (execReleaseExtent x s) = .next t_ → OnlyChanges ps s0_ t_ := by
  unfold execReleaseExtent
  try dsimp only
  repeat' (first | with_reducible assumption | (with_reducible rintro _ ⟨⟩) | (with_reducible first | (refine commandWrite_only _ _ ?_ ?_ ?_) | (apply State.setExtent_only) | (apply State.setExtState_only) | (apply State.dropLines_only) | (apply State.answer_only) | (apply State.postEvent_only)) | (exact within_trans rfl hW) | split | (with_reducible intro _) )

theorem execRescrubExtent_only (x : Fin 4096) (s : State) {ps : List Part} {s0_ : State} (hO : OnlyChanges ps s0_ s) (hW : within [.extents, .poolLines, .sources, .mirror, .views, .outputs] ps = true)  : ∀ t_, (execRescrubExtent x s) = .next t_ → OnlyChanges ps s0_ t_ := by
  unfold execRescrubExtent
  try dsimp only
  repeat' (first | with_reducible assumption | (with_reducible rintro _ ⟨⟩) | (with_reducible first | (refine commandWrite_only _ _ ?_ ?_ ?_) | (apply State.answer_only) | (apply State.startScrub_only)) | (exact within_trans rfl hW) | split | (with_reducible intro _) )

theorem State.retireLedgerBank_only (b : Nat) (s : State) {ps : List Part} {s0_ : State} (hO : OnlyChanges ps s0_ s) (hW : within [.groups, .lanes, .ports, .scans, .ledger, .homeSlots, .sources, .mirror, .views, .outputs] ps = true)  : OnlyChanges ps s0_ (State.retireLedgerBank b s) := by
  unfold State.retireLedgerBank
  try dsimp only
  repeat' (first | with_reducible assumption | (with_reducible first | (apply State.setLedgerBank_only) | (apply State.each_only) | (apply State.recallPage_only)) | (exact within_trans rfl hW) | split | (with_reducible intro _) )

theorem execLedgerBankRetire_only (b : Fin 16) (s : State) {ps : List Part} {s0_ : State} (hO : OnlyChanges ps s0_ s) (hW : within [.groups, .lanes, .ports, .scans, .ledger, .homeSlots, .sources, .mirror, .views, .outputs] ps = true)  : ∀ t_, (execLedgerBankRetire b s) = .next t_ → OnlyChanges ps s0_ t_ := by
  unfold execLedgerBankRetire
  try dsimp only
  repeat' (first | with_reducible assumption | (with_reducible rintro _ ⟨⟩) | (with_reducible first | (refine commandWrite_only _ _ ?_ ?_ ?_) | (apply State.answer_only) | (apply State.retireLedgerBank_only)) | (exact within_trans rfl hW) | split | (with_reducible intro _) )

theorem execClusterRetire_only (c : Fin 8) (context : Option (Fin 131072 × Bool)) (s : State) {ps : List Part} {s0_ : State} (hO : OnlyChanges ps s0_ s) (hW : within [.groups, .lanes, .ports, .scans, .qps, .regions, .clusters, .funcs, .vectors, .instances, .sources, .mirror, .views, .outputs, .free] ps = true)  : ∀ t_, (execClusterRetire c context s) = .next t_ → OnlyChanges ps s0_ t_ := by
  unfold execClusterRetire
  try dsimp only
  repeat' (first | with_reducible assumption | (with_reducible rintro _ ⟨⟩) | (with_reducible first | (refine commandWrite_only _ _ ?_ ?_ ?_) | (apply State.answer_only) | (refine guarded_only _ _ _ ?_ ?_ ?_) | (apply State.raise_only) | (apply State.fatalQp_only) | (apply State.bump_only)) | (exact within_trans rfl hW) | split | (with_reducible first | (apply State.clusters_update)) | ((with_reducible refine OnlyChanges.update ?_ ?_); (on_goal 2 => ((with_reducible intro p hp); (fail_if_success (with_reducible exact Part.same_refl _ _)); cases p <;> first | exact (OnlyChanges.mem hW hp rfl).elim | exact rfl | (and_intros <;> exact rfl)))) | (with_reducible intro _) )

theorem execInstanceResetDrain_only (i : Fin 4096) (s : State) {ps : List Part} {s0_ : State} (hO : OnlyChanges ps s0_ s) (hW : within [.groups, .lanes, .ports, .scans, .funcs, .vectors, .instances, .mirror, .views, .outputs] ps = true)  : ∀ t_, (execInstanceResetDrain i s) = .next t_ → OnlyChanges ps s0_ t_ := by
  unfold execInstanceResetDrain
  try dsimp only
  repeat' (first | with_reducible assumption | (with_reducible rintro _ ⟨⟩) | (with_reducible first | (refine commandWrite_only _ _ ?_ ?_ ?_) | (apply State.answer_only) | (apply State.askReset_only)) | (exact within_trans rfl hW) | split | (with_reducible intro _) )

theorem execInstanceResetSquash_only (i : Fin 4096) (s : State) {ps : List Part} {s0_ : State} (hO : OnlyChanges ps s0_ s) (hW : within [.groups, .lanes, .ports, .scans, .funcs, .vectors, .instances, .mirror, .views, .outputs] ps = true)  : ∀ t_, (execInstanceResetSquash i s) = .next t_ → OnlyChanges ps s0_ t_ := by
  unfold execInstanceResetSquash
  try dsimp only
  repeat' (first | with_reducible assumption | (with_reducible rintro _ ⟨⟩) | (with_reducible first | (refine commandWrite_only _ _ ?_ ?_ ?_) | (apply State.answer_only) | (apply State.askReset_only)) | (exact within_trans rfl hW) | split | (with_reducible intro _) )

theorem State.markCore_only (k : Nat) (s : State) {ps : List Part} {s0_ : State} (hO : OnlyChanges ps s0_ s) (hW : within [.irqUnit] ps = true)  : OnlyChanges ps s0_ (State.markCore k s) := by
  unfold State.markCore
  try dsimp only
  repeat' (first | with_reducible assumption | (exact within_trans rfl hW) | split | (with_reducible first | (apply State.irqUnit_update)) | ((with_reducible refine OnlyChanges.update ?_ ?_); (on_goal 2 => ((with_reducible intro p hp); (fail_if_success (with_reducible exact Part.same_refl _ _)); cases p <;> first | exact (OnlyChanges.mem hW hp rfl).elim | exact rfl | (and_intros <;> exact rfl)))) | (with_reducible intro _) )

theorem execCoreRetire_only (value : BitVec 8) (s : State) {ps : List Part} {s0_ : State} (hO : OnlyChanges ps s0_ s) (hW : within [.irqUnit, .outputs] ps = true)  : ∀ t_, (execCoreRetire value s) = .next t_ → OnlyChanges ps s0_ t_ := by
  unfold execCoreRetire
  try dsimp only
  repeat' (first | with_reducible assumption | (with_reducible rintro _ ⟨⟩) | (with_reducible first | (refine commandWrite_only _ _ ?_ ?_ ?_) | (apply State.answer_only) | (apply State.markCore_only)) | (exact within_trans rfl hW) | split | (with_reducible intro _) )

theorem execCollectorInject_only (s : State) {ps : List Part} {s0_ : State} (hO : OnlyChanges ps s0_ s) (hW : within [.collector, .outputs] ps = true)  : ∀ t_, (execCollectorInject s) = .next t_ → OnlyChanges ps s0_ t_ := by
  unfold execCollectorInject
  try dsimp only
  repeat' (first | with_reducible assumption | (with_reducible rintro _ ⟨⟩) | (with_reducible first | (refine commandWrite_only _ _ ?_ ?_ ?_) | (apply State.answer_only)) | (exact within_trans rfl hW) | split | (with_reducible first | (apply State.collector_update)) | ((with_reducible refine OnlyChanges.update ?_ ?_); (on_goal 2 => ((with_reducible intro p hp); (fail_if_success (with_reducible exact Part.same_refl _ _)); cases p <;> first | exact (OnlyChanges.mem hW hp rfl).elim | exact rfl | (and_intros <;> exact rfl)))) | (with_reducible intro _) )

theorem execClearAll_only (s : State) {ps : List Part} {s0_ : State} (hO : OnlyChanges ps s0_ s) (hW : within [.sources, .outputs] ps = true)  : ∀ t_, (execClearAll s) = .next t_ → OnlyChanges ps s0_ t_ := by
  unfold execClearAll
  try dsimp only
  repeat' (first | with_reducible assumption | (with_reducible rintro _ ⟨⟩) | (with_reducible first | (refine commandWrite_only _ _ ?_ ?_ ?_) | (apply State.answer_only) | (apply State.each_only) | (apply State.clearSource_only)) | (exact within_trans rfl hW) | split | (with_reducible intro _) )

theorem execAttachRequest_only (one : Bool) (s : State) {ps : List Part} {s0_ : State} (hO : OnlyChanges ps s0_ s) (hW : within [.trunks, .pairing, .mirror, .outputs] ps = true)  : ∀ t_, (execAttachRequest one s) = .next t_ → OnlyChanges ps s0_ t_ := by
  unfold execAttachRequest
  try dsimp only
  repeat' (first | with_reducible assumption | (with_reducible rintro _ ⟨⟩) | (with_reducible first | (refine guarded_only _ _ _ ?_ ?_ ?_) | (apply State.answer_only) | (refine commandWrite_only _ _ ?_ ?_ ?_) | (apply State.tellTwin_only)) | (exact within_trans rfl hW) | split | (with_reducible first | (apply State.pairing_update)) | ((with_reducible refine OnlyChanges.update ?_ ?_); (on_goal 2 => ((with_reducible intro p hp); (fail_if_success (with_reducible exact Part.same_refl _ _)); cases p <;> first | exact (OnlyChanges.mem hW hp rfl).elim | exact rfl | (and_intros <;> exact rfl)))) | (with_reducible intro _) )

theorem execDetachRequest_only (one : Bool) (s : State) {ps : List Part} {s0_ : State} (hO : OnlyChanges ps s0_ s) (hW : within [.trunks, .mirror, .outputs] ps = true)  : ∀ t_, (execDetachRequest one s) = .next t_ → OnlyChanges ps s0_ t_ := by
  unfold execDetachRequest
  try dsimp only
  repeat' (first | with_reducible assumption | (with_reducible rintro _ ⟨⟩) | (with_reducible first | (refine guarded_only _ _ _ ?_ ?_ ?_) | (apply State.answer_only) | (refine commandWrite_only _ _ ?_ ?_ ?_) | (apply State.tellTwin_only)) | (exact within_trans rfl hW) | split | (with_reducible intro _) )

theorem execServeAlone_only (one : Bool) (s : State) {ps : List Part} {s0_ : State} (hO : OnlyChanges ps s0_ s) (hW : within [.groups, .lanes, .ports, .scans, .hiers, .bridges, .funcs, .vectors, .instances, .sources, .pairing, .mirror, .sessions, .views, .outputs] ps = true)  : ∀ t_, (execServeAlone one s) = .next t_ → OnlyChanges ps s0_ t_ := by
  unfold execServeAlone
  try dsimp only
  repeat' (first | with_reducible assumption | (with_reducible rintro _ ⟨⟩) | (with_reducible first | (refine guarded_only _ _ _ ?_ ?_ ?_) | (apply State.answer_only) | (refine commandWrite_only _ _ ?_ ?_ ?_) | (apply State.refreshShared_only) | (apply State.setPair_only)) | (exact within_trans rfl hW) | split | (with_reducible intro _) )

theorem execHomeMove_only (region : BitVec 16) (s : State) {ps : List Part} {s0_ : State} (hO : OnlyChanges ps s0_ s) (hW : within [.groups, .lanes, .ports, .scans, .ledger, .homeSlots, .sources, .pairing, .mirror, .views, .outputs] ps = true)  : ∀ t_, (execHomeMove region s) = .next t_ → OnlyChanges ps s0_ t_ := by
  unfold execHomeMove
  try dsimp only
  repeat' (first | with_reducible assumption | (with_reducible rintro _ ⟨⟩) | (with_reducible first | (refine commandWrite_only _ _ ?_ ?_ ?_) | (apply State.answer_only) | (apply State.each_only) | (apply State.recallPage_only)) | (exact within_trans rfl hW) | split | (with_reducible first | (apply State.pairing_update)) | ((with_reducible refine OnlyChanges.update ?_ ?_); (on_goal 2 => ((with_reducible intro p hp); (fail_if_success (with_reducible exact Part.same_refl _ _)); cases p <;> first | exact (OnlyChanges.mem hW hp rfl).elim | exact rfl | (and_intros <;> exact rfl)))) | (with_reducible intro _) )

theorem State.commandItem_only (i : Nat) (j : Nat) (v : Nat) (cycle : Fin 256) (s : State) {ps : List Part} {s0_ : State} (hO : OnlyChanges ps s0_ s) (hW : within [.beat, .epochs, .inflight, .commit, .tables, .groups, .board, .sup, .start, .lanes, .ports, .scans, .frames, .units, .matcher, .paths, .hiers, .bridges, .slots, .tracker, .channels, .pwf, .trunks, .devices, .extents, .poolLines, .poolEvents, .ledger, .homeSlots, .departed, .qps, .cqs, .regions, .clusters, .funcs, .vectors, .instances, .cmdOrder, .contained, .masterWait, .irqPending, .irqUnit, .sprout, .sources, .safeState, .collector, .pairing, .mirror, .sessions, .segments, .settings, .settingsNext, .settingsStart, .views, .outputs, .free] ps = true)  : ∀ t_, (State.commandItem i j v cycle s) = .next t_ → OnlyChanges ps s0_ t_ := by
  unfold State.commandItem
  try dsimp only
  repeat' (first | with_reducible assumption | (with_reducible rintro _ ⟨⟩) | (with_reducible first | (refine execStickyClear_only _ _ ?_ ?_) | (refine execForce_only _ _ ?_ ?_) | (refine execContainRelease_only _ _ ?_ ?_) | (refine execPortRelease_only _ _ _ ?_ ?_) | (refine commandWrite_only _ _ ?_ ?_ ?_) | (apply State.writePwren_only) | (refine execLaneExclude_only _ _ _ ?_ ?_) | (apply State.fresh_only) | (refine execScanStart_only _ _ _ ?_ ?_) | (refine execScanAbort_only _ _ ?_ ?_) | (refine execCommitRequest_only _ _ _ ?_ ?_) | (refine execShadowDiscard_only _ _ ?_ ?_) | (refine execLatchRecordClear_only _ ?_ ?_) | (refine execTwinRelease_only _ ?_ ?_) | (refine execStandbyRequest_only _ ?_ ?_) | (refine execWarmStartRequest_only _ ?_ ?_) | (refine execColdStartRequest_only _ ?_ ?_) | (refine execImageBlockWrite_only _ _ _ ?_ ?_) | (refine execImageVerify_only _ _ ?_ ?_) | (refine execStoreRequest_only _ ?_ ?_) | (refine execGroupPerst_only _ _ ?_ ?_) | (refine execBankRetire_only _ _ _ ?_ ?_) | (refine execAttachmentRetire_only _ _ _ ?_ ?_) | (refine execReleaseExtent_only _ _ ?_ ?_) | (refine execRescrubExtent_only _ _ ?_ ?_) | (refine execLedgerBankRetire_only _ _ ?_ ?_) | (refine execClusterRetire_only _ _ _ ?_ ?_) | (refine execInstanceResetDrain_only _ _ ?_ ?_) | (refine execInstanceResetSquash_only _ _ ?_ ?_) | (refine execCoreRetire_only _ _ ?_ ?_) | (refine execCollectorInject_only _ ?_ ?_) | (refine execClearAll_only _ ?_ ?_) | (refine execAttachRequest_only _ _ ?_ ?_) | (refine execDetachRequest_only _ _ ?_ ?_) | (refine execServeAlone_only _ _ ?_ ?_) | (refine execHomeMove_only _ _ ?_ ?_) | (apply State.answer_only)) | (exact within_trans rfl hW) | split | (with_reducible intro _) )

theorem State.prefetchLost_only (t : Track) (s : State) {ps : List Part} {s0_ : State} (hO : OnlyChanges ps s0_ s) (hW : within [.tracker, .poolLines] ps = true)  : OnlyChanges ps s0_ (State.prefetchLost t s) := by
  unfold State.prefetchLost
  try dsimp only
  repeat' (first | with_reducible assumption | (exact within_trans rfl hW) | split | (with_reducible first | (apply State.tracker_update) | (apply State.poolLines_update)) | ((with_reducible refine OnlyChanges.update ?_ ?_); (on_goal 2 => ((with_reducible intro p hp); (fail_if_success (with_reducible exact Part.same_refl _ _)); cases p <;> first | exact (OnlyChanges.mem hW hp rfl).elim | exact rfl | (and_intros <;> exact rfl)))) | (with_reducible intro _) )

theorem State.prefetchHeld_only (t : Track) (s : State) {ps : List Part} {s0_ : State} (hO : OnlyChanges ps s0_ s) (hW : within [.tracker, .poolLines, .sources, .views] ps = true)  : OnlyChanges ps s0_ (State.prefetchHeld t s) := by
  unfold State.prefetchHeld
  try dsimp only
  repeat' (first | with_reducible assumption | (with_reducible first | (apply State.each_only) | (apply State.discardLines_only)) | (exact within_trans rfl hW) | split | (with_reducible first | (apply State.tracker_update) | (apply State.poolLines_update)) | ((with_reducible refine OnlyChanges.update ?_ ?_); (on_goal 2 => ((with_reducible intro p hp); (fail_if_success (with_reducible exact Part.same_refl _ _)); cases p <;> first | exact (OnlyChanges.mem hW hp rfl).elim | exact rfl | (and_intros <;> exact rfl)))) | (with_reducible intro _) )

theorem State.poolPrefetch_only (x : Nat) (a : Nat) (s : State) {ps : List Part} {s0_ : State} (hO : OnlyChanges ps s0_ s) (hW : within [.groups, .lanes, .ports, .scans, .tracker, .poolLines, .outputs] ps = true)  : OnlyChanges ps s0_ (State.poolPrefetch x a s) := by
  unfold State.poolPrefetch
  try dsimp only
  repeat' (first | with_reducible assumption | (with_reducible first | (apply State.emitOn_only) | (apply State.allocTrack_only)) | (exact within_trans rfl hW) | split | (with_reducible first | (apply State.poolLines_update)) | ((with_reducible refine OnlyChanges.update ?_ ?_); (on_goal 2 => ((with_reducible intro p hp); (fail_if_success (with_reducible exact Part.same_refl _ _)); cases p <;> first | exact (OnlyChanges.mem hW hp rfl).elim | exact rfl | (and_intros <;> exact rfl)))) | (with_reducible intro _) )

theorem State.takeIdent_only (p : Nat) (register : Nat) (data : Nat) (s : State) {ps : List Part} {s0_ : State} (hO : OnlyChanges ps s0_ s) (hW : within [.slots] ps = true)  : OnlyChanges ps s0_ (State.takeIdent p register data s) := by
  unfold State.takeIdent
  try dsimp only
  repeat' (first | with_reducible assumption | (with_reducible first | (apply State.setSlot_only)) | (exact within_trans rfl hW) | split | (with_reducible intro _) )

theorem State.windowPrefetch_only (e : Track) (s : State) {ps : List Part} {s0_ : State} (hO : OnlyChanges ps s0_ s) (hW : within [.groups, .lanes, .ports, .scans, .tracker, .views, .outputs] ps = true)  : OnlyChanges ps s0_ (State.windowPrefetch e s) := by
  unfold State.windowPrefetch
  try dsimp only
  repeat' (first | with_reducible assumption | (with_reducible first | (apply State.allocTrack_only) | (apply State.emitOn_only) | (apply State.bump_only)) | (exact within_trans rfl hW) | split | (with_reducible first | (apply State.tracker_update)) | ((with_reducible refine OnlyChanges.update ?_ ?_); (on_goal 2 => ((with_reducible intro p hp); (fail_if_success (with_reducible exact Part.same_refl _ _)); cases p <;> first | exact (OnlyChanges.mem hW hp rfl).elim | exact rfl | (and_intros <;> exact rfl)))) | (with_reducible intro _) )

theorem State.completion_only (t : Track) (x : Tlp) (poison : Bool) (s : State) {ps : List Part} {s0_ : State} (hO : OnlyChanges ps s0_ s) (hW : within [.groups, .lanes, .ports, .scans, .paths, .slots, .tracker, .poolLines, .sources, .views, .outputs] ps = true)  : OnlyChanges ps s0_ (State.completion t x poison s) := by
  unfold State.completion
  try dsimp only
  repeat' (first | with_reducible assumption | (with_reducible first | (apply State.prefetchLost_only) | (apply State.freeTrack_only) | (apply State.prefetchHeld_only) | (apply State.setTrack_only) | (apply State.emit_only) | (apply State.poolPrefetch_only) | (apply State.takeIdent_only) | (apply State.complete_only) | (apply State.windowPrefetch_only)) | (exact within_trans rfl hW) | split | (with_reducible intro _) )

theorem State.contentionPorts_only (n : Nat) (s : State) {ps : List Part} {s0_ : State} (hO : OnlyChanges ps s0_ s) (hW : within [.ports] ps = true)  : OnlyChanges ps s0_ (State.contentionPorts n s) := by
  unfold State.contentionPorts
  try dsimp only
  repeat' (first | with_reducible assumption | (with_reducible first | (apply State.each_only) | (apply State.setPort_only)) | (exact within_trans rfl hW) | split | (with_reducible intro _) )

theorem State.needContext_only (q : Nat) (s : State) {ps : List Part} {s0_ : State} (hO : OnlyChanges ps s0_ s) (hW : within [.groups, .lanes, .ports, .scans, .tracker, .qps, .regions, .funcs, .vectors, .instances, .masterWait, .sources, .mirror, .views, .outputs, .free] ps = true)  : OnlyChanges ps s0_ (State.needContext q s) := by
  unfold State.needContext
  try dsimp only
  repeat' (first | with_reducible assumption | (with_reducible first | (apply State.touch_only) | (apply State.raise_only) | (apply State.fatalQp_only) | (apply State.bump_only) | (apply State.setQp_only) | (apply State.makePlace_only) | (apply State.readHost_only)) | (exact within_trans rfl hW) | split | (with_reducible intro _) )

theorem State.contextWait_only (f : BFrame) (s : State) {ps : List Part} {s0_ : State} (hO : OnlyChanges ps s0_ s) (hW : within [.groups, .lanes, .ports, .scans, .tracker, .qps, .regions, .funcs, .vectors, .instances, .masterWait, .sources, .mirror, .views, .outputs, .free] ps = true)  : OnlyChanges ps s0_ (State.contextWait f s) := by
  unfold State.contextWait
  try dsimp only
  repeat' (first | with_reducible assumption | (with_reducible first | (apply State.needContext_only) | (apply State.park_only)) | (exact within_trans rfl hW) | split | (with_reducible intro _) )

theorem State.resend_only (p : Nat) (s : State) {ps : List Part} {s0_ : State} (hO : OnlyChanges ps s0_ s) (hW : within [.trunks] ps = true)  : OnlyChanges ps s0_ (State.resend p s) := by
  unfold State.resend
  try dsimp only
  repeat' (first | with_reducible assumption | (with_reducible first | (apply State.setTrunk_only)) | (exact within_trans rfl hW) | split | (with_reducible intro _) )

theorem State.replay_only (p : Nat) (now : Nat) (s : State) {ps : List Part} {s0_ : State} (hO : OnlyChanges ps s0_ s) (hW : within [.inflight, .lanes, .ports, .scans, .frames, .matcher, .tracker, .trunks, .sources, .views, .outputs] ps = true)  : OnlyChanges ps s0_ (State.replay p now s) := by
  unfold State.replay
  try dsimp only
  repeat' (first | with_reducible assumption | (with_reducible first | (apply State.setTrunk_only) | (apply State.raise_only) | (apply State.linkCount_only) | (apply State.trunkRetrain_only) | (apply State.scanCheck_only) | (apply State.each_only) | (apply State.setLane_only) | (apply State.setPort_only) | (apply State.resend_only)) | (exact within_trans rfl hW) | split | (with_reducible intro _) )

theorem State.measure_only (p : Nat) (ns : Nat) (s : State) {ps : List Part} {s0_ : State} (hO : OnlyChanges ps s0_ s) (hW : within [.inflight, .groups, .lanes, .ports, .scans, .frames, .paths, .hiers, .bridges, .tracker, .pwf, .trunks, .funcs, .vectors, .instances, .sources, .mirror, .views, .outputs] ps = true)  : OnlyChanges ps s0_ (State.measure p ns s) := by
  unfold State.measure
  try dsimp only
  repeat' (first | with_reducible assumption | (with_reducible first | (apply State.setTrunk_only) | (apply State.raise_only) | (apply State.pathDown_only)) | (exact within_trans rfl hW) | split | (with_reducible intro _) )

theorem State.controlWord_only (p : Nat) (now : Nat) (c : Control) (s : State) {ps : List Part} {s0_ : State} (hO : OnlyChanges ps s0_ s) (hW : within [.inflight, .groups, .lanes, .ports, .scans, .frames, .matcher, .paths, .hiers, .bridges, .tracker, .pwf, .trunks, .funcs, .vectors, .instances, .sources, .mirror, .views, .outputs] ps = true)  : OnlyChanges ps s0_ (State.controlWord p now c s) := by
  unfold State.controlWord
  try dsimp only
  repeat' (first | with_reducible assumption | (with_reducible first | (apply State.peerCheck_only) | (apply State.setTrunk_only) | (apply State.scanCheck_only) | (apply State.each_only) | (apply State.setLane_only) | (apply State.applyAck_only) | (apply State.replay_only) | (apply State.measure_only)) | (exact within_trans rfl hW) | split | (with_reducible intro _) )

theorem State.coreFail_only (k : Nat) (s : State) {ps : List Part} {s0_ : State} (hO : OnlyChanges ps s0_ s) (hW : within [.inflight, .board, .sup, .start, .lanes, .frames, .matcher, .tracker, .irqUnit, .sources, .safeState, .collector, .outputs] ps = true)  : OnlyChanges ps s0_ (State.coreFail k s) := by
  unfold State.coreFail
  try dsimp only
  repeat' (first | with_reducible assumption | (with_reducible first | (apply State.enterSafe_only) | (apply State.markCore_only)) | (exact within_trans rfl hW) | split | (with_reducible intro _) )

theorem State.outOfRange_only (v : Nat) (k : Nat) (s : State) {ps : List Part} {s0_ : State} (hO : OnlyChanges ps s0_ s) (hW : within [.groups, .lanes, .ports, .scans, .funcs, .vectors, .instances, .cmdOrder, .sources, .mirror, .views, .outputs] ps = true)  : OnlyChanges ps s0_ (State.outOfRange v k s) := by
  unfold State.outOfRange
  try dsimp only
  repeat' (first | with_reducible assumption | (with_reducible first | (apply State.endWith_only) | (apply State.raise_only) | (apply State.bump_only)) | (exact within_trans rfl hW) | split | (with_reducible intro _) )

theorem State.createCq_only (v : Nat) (k : Nat) (s : State) {ps : List Part} {s0_ : State} (hO : OnlyChanges ps s0_ s) (hW : within [.groups, .lanes, .ports, .scans, .cqs, .funcs, .vectors, .instances, .cmdOrder, .sources, .mirror, .views, .outputs] ps = true)  : OnlyChanges ps s0_ (State.createCq v k s) := by
  unfold State.createCq
  try dsimp only
  repeat' (first | with_reducible assumption | (with_reducible first | (apply State.outOfRange_only) | (apply State.endWith_only) | (apply State.madeCq_only)) | (exact within_trans rfl hW) | split | (with_reducible intro _) )

theorem State.createQp_only (v : Nat) (k : Nat) (s : State) {ps : List Part} {s0_ : State} (hO : OnlyChanges ps s0_ s) (hW : within [.groups, .lanes, .ports, .scans, .qps, .regions, .funcs, .vectors, .instances, .cmdOrder, .sources, .mirror, .views, .outputs, .free] ps = true)  : OnlyChanges ps s0_ (State.createQp v k s) := by
  unfold State.createQp
  try dsimp only
  repeat' (first | with_reducible assumption | (with_reducible first | (apply State.outOfRange_only) | (apply State.endWith_only) | (apply State.madeQp_only)) | (exact within_trans rfl hW) | split | (with_reducible intro _) )

theorem State.describeEntry_only (e : Entry) (s : State) {ps : List Part} {s0_ : State} (hO : OnlyChanges ps s0_ s) (hW : within [.mirror] ps = true)  : OnlyChanges ps s0_ (State.describeEntry e s) := by
  unfold State.describeEntry
  try dsimp only
  repeat' (first | with_reducible assumption | (with_reducible first | (apply State.mirror_only) | (apply State.each_only)) | (exact within_trans rfl hW) | split | (with_reducible intro _) )

theorem State.describeCommand_only (code : Nat) (i : Nat) (value : Nat) (words : List Nat) (s : State) {ps : List Part} {s0_ : State} (hO : OnlyChanges ps s0_ s) (hW : within [.mirror] ps = true)  : OnlyChanges ps s0_ (State.describeCommand code i value words s) := by
  unfold State.describeCommand
  try dsimp only
  repeat' (first | with_reducible assumption | (with_reducible first | (apply State.mirror_only)) | (exact within_trans rfl hW) | split | (with_reducible intro _) )

theorem State.describeInst_only (i : Nat) (s : State) {ps : List Part} {s0_ : State} (hO : OnlyChanges ps s0_ s) (hW : within [.mirror] ps = true)  : OnlyChanges ps s0_ (State.describeInst i s) := by
  unfold State.describeInst
  try dsimp only
  repeat' (first | with_reducible assumption | (with_reducible first | (apply State.describeCommand_only) | (apply State.each_only) | (apply State.mirror_only)) | (exact within_trans rfl hW) | split | (with_reducible intro _) )

theorem State.describe_only (s : State) {ps : List Part} {s0_ : State} (hO : OnlyChanges ps s0_ s) (hW : within [.mirror] ps = true)  : OnlyChanges ps s0_ (State.describe s) := by
  unfold State.describe
  try dsimp only
  repeat' (first | with_reducible assumption | (with_reducible first | (apply State.each_only) | (apply State.describeEntry_only) | (apply State.mirror_only) | (apply State.describeInst_only)) | (exact within_trans rfl hW) | split | (with_reducible intro _) )

theorem State.destroyCq_only (v : Nat) (k : Nat) (s : State) {ps : List Part} {s0_ : State} (hO : OnlyChanges ps s0_ s) (hW : within [.groups, .lanes, .ports, .scans, .cqs, .funcs, .vectors, .instances, .cmdOrder, .sources, .mirror, .views, .outputs] ps = true)  : OnlyChanges ps s0_ (State.destroyCq v k s) := by
  unfold State.destroyCq
  try dsimp only
  repeat' (first | with_reducible assumption | (with_reducible first | (apply State.outOfRange_only) | (apply State.endWith_only)) | (exact within_trans rfl hW) | split | (with_reducible first | (apply State.cqs_update)) | ((with_reducible refine OnlyChanges.update ?_ ?_); (on_goal 2 => ((with_reducible intro p hp); (fail_if_success (with_reducible exact Part.same_refl _ _)); cases p <;> first | exact (OnlyChanges.mem hW hp rfl).elim | exact rfl | (and_intros <;> exact rfl)))) | (with_reducible intro _) )

theorem State.destroyQp_only (v : Nat) (k : Nat) (s : State) {ps : List Part} {s0_ : State} (hO : OnlyChanges ps s0_ s) (hW : within [.groups, .lanes, .ports, .scans, .qps, .funcs, .vectors, .instances, .cmdOrder, .sources, .mirror, .views, .outputs] ps = true)  : OnlyChanges ps s0_ (State.destroyQp v k s) := by
  unfold State.destroyQp
  try dsimp only
  repeat' (first | with_reducible assumption | (with_reducible first | (apply State.outOfRange_only) | (apply State.endWith_only)) | (exact within_trans rfl hW) | split | (with_reducible first | (apply State.qps_update)) | ((with_reducible refine OnlyChanges.update ?_ ?_); (on_goal 2 => ((with_reducible intro p hp); (fail_if_success (with_reducible exact Part.same_refl _ _)); cases p <;> first | exact (OnlyChanges.mem hW hp rfl).elim | exact rfl | (and_intros <;> exact rfl)))) | (with_reducible intro _) )

theorem State.detach_only (v : Nat) (k : Nat) (s : State) {ps : List Part} {s0_ : State} (hO : OnlyChanges ps s0_ s) (hW : within [.groups, .lanes, .ports, .scans, .funcs, .vectors, .instances, .cmdOrder, .mirror, .views, .outputs] ps = true)  : OnlyChanges ps s0_ (State.detach v k s) := by
  unfold State.detach
  try dsimp only
  repeat' (first | with_reducible assumption | (with_reducible first | (apply State.endWith_only) | (apply State.setInst_only) | (apply State.askReset_only)) | (exact within_trans rfl hW) | split | (with_reducible intro _) )

theorem State.readIdent_only (p : Nat) (register : Nat) (s : State) {ps : List Part} {s0_ : State} (hO : OnlyChanges ps s0_ s) (hW : within [.groups, .lanes, .ports, .scans, .tracker, .funcs, .masterWait, .mirror, .outputs] ps = true)  : OnlyChanges ps s0_ (State.readIdent p register s) := by
  unfold State.readIdent
  try dsimp only
  repeat' (first | with_reducible assumption | (with_reducible first | (apply State.masterIssue_only)) | (exact within_trans rfl hW) | split | (with_reducible intro _) )

theorem State.deviceUp_only (p : Nat) (s : State) {ps : List Part} {s0_ : State} (hO : OnlyChanges ps s0_ s) (hW : within [.groups, .lanes, .ports, .scans, .hiers, .bridges, .slots, .tracker, .devices, .extents, .poolLines, .funcs, .masterWait, .sources, .mirror, .views, .outputs] ps = true)  : OnlyChanges ps s0_ (State.deviceUp p s) := by
  unfold State.deviceUp
  try dsimp only
  repeat' (first | with_reducible assumption | (with_reducible first | (apply State.setSlot_only) | (apply State.deviceLink_only) | (apply State.bridgeLink_only) | (apply State.readIdent_only)) | (exact within_trans rfl hW) | split | (with_reducible intro _) )

theorem State.drainStaging_only (i : Nat) (s : State) {ps : List Part} {s0_ : State} (hO : OnlyChanges ps s0_ s) (hW : within [.ports] ps = true)  : OnlyChanges ps s0_ (State.drainStaging i s) := by
  unfold State.drainStaging
  try dsimp only
  repeat' (first | with_reducible assumption | (exact within_trans rfl hW) | split | (with_reducible first | (apply State.ports_update)) | ((with_reducible refine OnlyChanges.update ?_ ?_); (on_goal 2 => ((with_reducible intro p hp); (fail_if_success (with_reducible exact Part.same_refl _ _)); cases p <;> first | exact (OnlyChanges.mem hW hp rfl).elim | exact rfl | (and_intros <;> exact rfl)))) | (with_reducible intro _) )

theorem State.eccCorrected_only (bank : Nat) (s : State) {ps : List Part} {s0_ : State} (hO : OnlyChanges ps s0_ s) (hW : within [.sources, .views] ps = true)  : OnlyChanges ps s0_ (State.eccCorrected bank s) := by
  unfold State.eccCorrected
  try dsimp only
  repeat' (first | with_reducible assumption | (with_reducible first | (apply State.raise_only) | (apply State.bump_only)) | (exact within_trans rfl hW) | split | (with_reducible intro _) )

theorem State.endThrough_only (slots : List Nat) (s : State) {ps : List Part} {s0_ : State} (hO : OnlyChanges ps s0_ s) (hW : within [.sessions] ps = true)  : OnlyChanges ps s0_ (State.endThrough slots s) := by
  unfold State.endThrough
  try dsimp only
  repeat' (first | with_reducible assumption | (with_reducible first | (apply State.each_only) | (apply State.endSession_only)) | (exact within_trans rfl hW) | split | (with_reducible intro _) )

theorem State.enterAttaching_only (s : State) {ps : List Part} {s0_ : State} (hO : OnlyChanges ps s0_ s) (hW : within [.groups, .lanes, .ports, .scans, .hiers, .bridges, .ledger, .funcs, .vectors, .instances, .sources, .pairing, .mirror, .sessions, .views, .outputs] ps = true)  : OnlyChanges ps s0_ (State.enterAttaching s) := by
  unfold State.enterAttaching
  try dsimp only
  repeat' (first | with_reducible assumption | (with_reducible first | (apply State.fixHomes_only) | (apply State.describe_only) | (apply State.refreshShared_only) | (apply State.setPair_only)) | (exact within_trans rfl hW) | split | (with_reducible first | (apply State.ledger_update) | (apply State.pairing_update) | (apply State.mirror_update)) | ((with_reducible refine OnlyChanges.update ?_ ?_); (on_goal 2 => ((with_reducible intro p hp); (fail_if_success (with_reducible exact Part.same_refl _ _)); cases p <;> first | exact (OnlyChanges.mem hW hp rfl).elim | exact rfl | (and_intros <;> exact rfl)))) | (with_reducible intro _) )

theorem State.setStart_only (c : StartState) (s : State) {ps : List Part} {s0_ : State} (hO : OnlyChanges ps s0_ s) (hW : within [.groups, .start, .lanes, .ports, .scans, .funcs, .vectors, .instances, .sources, .mirror, .sessions, .views, .outputs] ps = true)  : OnlyChanges ps s0_ (State.setStart c s) := by
  unfold State.setStart
  try dsimp only
  repeat' (first | with_reducible assumption | (with_reducible first | (apply State.notify_only)) | (exact within_trans rfl hW) | split | (with_reducible first | (apply State.start_update)) | ((with_reducible refine OnlyChanges.update ?_ ?_); (on_goal 2 => ((with_reducible intro p hp); (fail_if_success (with_reducible exact Part.same_refl _ _)); cases p <;> first | exact (OnlyChanges.mem hW hp rfl).elim | exact rfl | (and_intros <;> exact rfl)))) | (with_reducible intro _) )

theorem State.enterLimited_only (s : State) {ps : List Part} {s0_ : State} (hO : OnlyChanges ps s0_ s) (hW : within [.groups, .start, .lanes, .ports, .scans, .funcs, .vectors, .instances, .sources, .mirror, .sessions, .views, .outputs] ps = true)  : OnlyChanges ps s0_ (State.enterLimited s) := by
  unfold State.enterLimited
  try dsimp only
  repeat' (first | with_reducible assumption | (with_reducible first | (apply State.setStartUnit_only) | (apply State.setStart_only) | (apply State.raise_only)) | (exact within_trans rfl hW) | split | (with_reducible first | (apply State.groups_update)) | ((with_reducible refine OnlyChanges.update ?_ ?_); (on_goal 2 => ((with_reducible intro p hp); (fail_if_success (with_reducible exact Part.same_refl _ _)); cases p <;> first | exact (OnlyChanges.mem hW hp rfl).elim | exact rfl | (and_intros <;> exact rfl)))) | (with_reducible intro _) )

theorem State.equalizeLane_only (p : Nat) (eq : Option (Fin 16 × PcieEq)) (s : State) {ps : List Part} {s0_ : State} (hO : OnlyChanges ps s0_ s) (hW : within [.lanes] ps = true)  : OnlyChanges ps s0_ (State.equalizeLane p eq s) := by
  unfold State.equalizeLane
  try dsimp only
  repeat' (first | with_reducible assumption | (with_reducible first | (apply State.setLane_only)) | (exact within_trans rfl hW) | split | (with_reducible intro _) )

theorem State.fallBack_only (p : Nat) (missed : List Nat) (s : State) {ps : List Part} {s0_ : State} (hO : OnlyChanges ps s0_ s) (hW : within [.inflight, .groups, .lanes, .ports, .scans, .frames, .matcher, .paths, .hiers, .bridges, .slots, .tracker, .channels, .pwf, .trunks, .devices, .extents, .poolLines, .poolEvents, .ledger, .homeSlots, .departed, .qps, .cqs, .regions, .funcs, .vectors, .instances, .cmdOrder, .masterWait, .irqPending, .sources, .mirror, .sessions, .views, .outputs, .free] ps = true)  : OnlyChanges ps s0_ (State.fallBack p missed s) := by
  unfold State.fallBack
  try dsimp only
  repeat' (first | with_reducible assumption | (with_reducible first | (apply State.failTraining_only) | (apply State.each_only) | (apply State.setLane_only) | (apply State.toStage_only) | (apply State.setPort_only)) | (exact within_trans rfl hW) | split | (with_reducible intro _) )

theorem State.flit_only (p : Nat) (now : Nat) (wire : List Nat) (good : Control → List Nat → State → State) (s : State) {ps : List Part} {s0_ : State} (hO : OnlyChanges ps s0_ s) (hW : within [.inflight, .lanes, .ports, .frames, .matcher, .tracker, .trunks, .sources, .views, .outputs] ps = true) (h_good : ∀ y0 y1 s_, OnlyChanges ps s0_ s_ → OnlyChanges ps s0_ (good y0 y1 s_)) : OnlyChanges ps s0_ (State.flit p now wire good s) := by
  unfold State.flit
  try dsimp only
  repeat' (first | with_reducible assumption | (with_reducible first | (apply State.each_only) | (apply State.countBy_only) | (apply State.setLane_only) | (apply State.rxNext_only) | (apply State.trunkBad_only) | (apply State.raise_only) | (apply State.linkCount_only) | (apply State.sendFlit_only) | (apply h_good)) | (exact within_trans rfl hW) | split | (with_reducible intro _) )

theorem State.skipFrame_only (p : Nat) (len : Nat) (s : State) {ps : List Part} {s0_ : State} (hO : OnlyChanges ps s0_ s) (hW : within [.trunks] ps = true)  : OnlyChanges ps s0_ (State.skipFrame p len s) := by
  unfold State.skipFrame
  try dsimp only
  repeat' (first | with_reducible assumption | (with_reducible first | (apply State.rxNext_only) | (apply State.setTrunk_only)) | (exact within_trans rfl hW) | split | (with_reducible intro _) )

theorem State.headerIn_only (p : Nat) (now : Nat) (h : TrunkHead) (s : State) {ps : List Part} {s0_ : State} (hO : OnlyChanges ps s0_ s) (hW : within [.trunks, .views] ps = true)  : OnlyChanges ps s0_ (State.headerIn p now h s) := by
  unfold State.headerIn
  try dsimp only
  repeat' (first | with_reducible assumption | (with_reducible first | (apply State.rxNext_only) | (apply State.askReplay_only) | (apply State.linkCount_only) | (apply State.skipFrame_only) | (apply State.accept_only) | (apply State.setTrunk_only)) | (exact within_trans rfl hW) | split | (with_reducible intro _) )

theorem State.headIn_only (p : Nat) (now : Nat) (h : TrunkHead) (ws : List Nat) (s : State) {ps : List Part} {s0_ : State} (hO : OnlyChanges ps s0_ s) (hW : within [.inflight, .groups, .lanes, .ports, .scans, .frames, .hiers, .bridges, .tracker, .trunks, .sources, .views, .outputs] ps = true)  : OnlyChanges ps s0_ (State.headIn p now h ws s) := by
  unfold State.headIn
  try dsimp only
  repeat' (first | with_reducible assumption | (with_reducible first | (apply State.setTrunk_only) | (apply State.askReplay_only) | (apply State.linkCount_only) | (apply State.headCell_only)) | (exact within_trans rfl hW) | split | (with_reducible intro _) )

theorem State.wordsIn_only (p : Nat) (ws : List Nat) (s : State) {ps : List Part} {s0_ : State} (hO : OnlyChanges ps s0_ s) (hW : within [.frames] ps = true)  : OnlyChanges ps s0_ (State.wordsIn p ws s) := by
  unfold State.wordsIn
  try dsimp only
  repeat' (first | with_reducible assumption | (with_reducible first | (apply State.setFrame_only)) | (exact within_trans rfl hW) | split | (with_reducible intro _) )

theorem State.trunkEnd_only (p : Nat) (now : Nat) (ok : Bool) (s : State) {ps : List Part} {s0_ : State} (hO : OnlyChanges ps s0_ s) (hW : within [.inflight, .groups, .lanes, .ports, .scans, .frames, .matcher, .paths, .hiers, .bridges, .tracker, .pwf, .trunks, .funcs, .vectors, .instances, .irqPending, .sources, .mirror, .views, .outputs] ps = true)  : OnlyChanges ps s0_ (State.trunkEnd p now ok s) := by
  unfold State.trunkEnd
  try dsimp only
  repeat' (first | with_reducible assumption | (with_reducible first | (apply State.frameDone_only) | (apply State.accept_only) | (apply State.setTrunk_only) | (apply State.trunkBad_only) | (apply State.linkCount_only)) | (exact within_trans rfl hW) | split | (with_reducible intro _) )

theorem State.frameIn_only (p : Nat) (now : Nat) (h : TrunkHead) (ws : List Nat) (s : State) {ps : List Part} {s0_ : State} (hO : OnlyChanges ps s0_ s) (hW : within [.inflight, .groups, .lanes, .ports, .scans, .frames, .matcher, .paths, .hiers, .bridges, .tracker, .pwf, .trunks, .funcs, .vectors, .instances, .irqPending, .sources, .mirror, .views, .outputs] ps = true)  : OnlyChanges ps s0_ (State.frameIn p now h ws s) := by
  unfold State.frameIn
  try dsimp only
  repeat' (first | with_reducible assumption | (with_reducible first | (apply State.trunkEnd_only) | (apply State.setFrame_only) | (apply State.accept_only) | (apply State.askReplay_only) | (apply State.linkCount_only) | (apply State.rxNext_only)) | (exact within_trans rfl hW) | split | (with_reducible intro _) )

theorem State.wordIn_only (p : Nat) (now : Nat) (w : Nat) (s : State) {ps : List Part} {s0_ : State} (hO : OnlyChanges ps s0_ s) (hW : within [.inflight, .groups, .lanes, .ports, .scans, .frames, .matcher, .paths, .hiers, .bridges, .tracker, .pwf, .trunks, .funcs, .vectors, .instances, .irqPending, .sources, .mirror, .views, .outputs] ps = true)  : OnlyChanges ps s0_ (State.wordIn p now w s) := by
  unfold State.wordIn
  try dsimp only
  repeat' (first | with_reducible assumption | (with_reducible first | (apply State.setTrunk_only) | (apply State.headerIn_only) | (apply State.headIn_only) | (apply State.wordsIn_only) | (apply State.frameIn_only)) | (exact within_trans rfl hW) | split | (with_reducible intro _) )

theorem State.flitWord_only (p : Nat) (now : Nat) (c : Control) (j : Nat) (w : Nat) (s : State) {ps : List Part} {s0_ : State} (hO : OnlyChanges ps s0_ s) (hW : within [.inflight, .groups, .lanes, .ports, .scans, .frames, .matcher, .paths, .hiers, .bridges, .tracker, .pwf, .trunks, .funcs, .vectors, .instances, .irqPending, .sources, .mirror, .views, .outputs] ps = true)  : OnlyChanges ps s0_ (State.flitWord p now c j w s) := by
  unfold State.flitWord
  try dsimp only
  repeat' (first | with_reducible assumption | (with_reducible first | (apply State.abortIn_only) | (apply State.rxNext_only) | (apply State.trunkBad_only) | (apply State.linkCount_only) | (apply State.wordIn_only)) | (exact within_trans rfl hW) | split | (with_reducible intro _) )

theorem State.flushVh_only (v : Nat) (s : State) {ps : List Part} {s0_ : State} (hO : OnlyChanges ps s0_ s) (hW : within [.groups, .lanes, .ports, .scans, .vectors, .instances, .mirror, .views, .outputs] ps = true)  : OnlyChanges ps s0_ (State.flushVh v s) := by
  unfold State.flushVh
  try dsimp only
  repeat' (first | with_reducible assumption | (with_reducible first | (apply State.bump_only) | (apply State.each_only) | (apply State.vecSend_only) | (apply State.setPort_only)) | (exact within_trans rfl hW) | split | (with_reducible intro _) )

theorem State.formCell_only (id : Nat) (s : State) {ps : List Part} {s0_ : State} (hO : OnlyChanges ps s0_ s) (hW : within [.frames] ps = true)  : OnlyChanges ps s0_ (State.formCell id s) := by
  unfold State.formCell
  try dsimp only
  repeat' (first | with_reducible assumption | (with_reducible first | (apply State.setFrame_only)) | (exact within_trans rfl hW) | split | (with_reducible intro _) )

theorem State.toFunction_only (f : Frame) (s : State) {ps : List Part} {s0_ : State} (hO : OnlyChanges ps s0_ s) (hW : within [.groups, .lanes, .ports, .scans, .paths, .sources, .views, .outputs] ps = true)  : OnlyChanges ps s0_ (State.toFunction f s) := by
  unfold State.toFunction
  try dsimp only
  repeat' (first | with_reducible assumption | (with_reducible first | (apply State.barAccess_only) | (apply State.emit_only)) | (exact within_trans rfl hW) | split | (with_reducible intro _) )

theorem State.frameLeaves_only (f : Frame) (s : State) {ps : List Part} {s0_ : State} (hO : OnlyChanges ps s0_ s) (hW : within [.inflight, .groups, .sup, .lanes, .ports, .scans, .frames, .matcher, .paths, .tracker, .sources, .views, .outputs] ps = true)  : OnlyChanges ps s0_ (State.frameLeaves f s) := by
  unfold State.frameLeaves
  try dsimp only
  repeat' (first | with_reducible assumption | (with_reducible first | (apply State.stampBucket_only) | (apply State.toFunction_only) | (apply State.emit_only) | (apply State.setPort_only) | (apply State.dropFrame_only)) | (exact within_trans rfl hW) | split | (with_reducible first | (apply State.sup_update) | (apply State.matcher_update)) | ((with_reducible refine OnlyChanges.update ?_ ?_); (on_goal 2 => ((with_reducible intro p hp); (fail_if_success (with_reducible exact Part.same_refl _ _)); cases p <;> first | exact (OnlyChanges.mem hW hp rfl).elim | exact rfl | (and_intros <;> exact rfl)))) | (with_reducible intro _) )

theorem State.freeRegion_only (r : Nat) (s : State) {ps : List Part} {s0_ : State} (hO : OnlyChanges ps s0_ s) (hW : within [.groups, .lanes, .ports, .scans, .regions, .funcs, .instances, .sources, .mirror, .outputs, .free] ps = true)  : OnlyChanges ps s0_ (State.freeRegion r s) := by
  unfold State.freeRegion
  try dsimp only
  repeat' (first | with_reducible assumption | (with_reducible first | (apply State.setRegion_only) | (apply State.instWrite_only)) | (exact within_trans rfl hW) | split | (with_reducible intro _) )

theorem State.garnetAccept_only (h : GarnetHead) (kind : Nat) (code : Nat) (body : List Nat) (f : State → State) (s : State) {ps : List Part} {s0_ : State} (hO : OnlyChanges ps s0_ s) (hW : within [.trunks, .views] ps = true) (h_f : ∀ s_, OnlyChanges ps s0_ s_ → OnlyChanges ps s0_ (f s_)) : OnlyChanges ps s0_ (State.garnetAccept h kind code body f s) := by
  unfold State.garnetAccept
  try dsimp only
  repeat' (first | with_reducible assumption | (with_reducible first | (apply State.askReplay_only) | (apply State.setTrunk_only) | (apply h_f)) | (exact within_trans rfl hW) | split | (with_reducible intro _) )

theorem State.garnetAck_only (a : Nat) (s : State) {ps : List Part} {s0_ : State} (hO : OnlyChanges ps s0_ s) (hW : within [.trunks, .mirror, .outputs] ps = true)  : OnlyChanges ps s0_ (State.garnetAck a s) := by
  unfold State.garnetAck
  try dsimp only
  repeat' (first | with_reducible assumption | (with_reducible first | (apply State.setTrunk_only) | (apply State.releaseHeld_only) | (apply State.ifDo_only) | (apply State.each_only) | (apply State.garnetEmit_only)) | (exact within_trans rfl hW) | split | (with_reducible first | (apply State.mirror_update)) | ((with_reducible refine OnlyChanges.update ?_ ?_); (on_goal 2 => ((with_reducible intro p hp); (fail_if_success (with_reducible exact Part.same_refl _ _)); cases p <;> first | exact (OnlyChanges.mem hW hp rfl).elim | exact rfl | (and_intros <;> exact rfl)))) | (with_reducible intro _) )

theorem State.tryPaired_only (s : State) {ps : List Part} {s0_ : State} (hO : OnlyChanges ps s0_ s) (hW : within [.groups, .lanes, .ports, .scans, .funcs, .vectors, .instances, .sources, .pairing, .mirror, .sessions, .views, .outputs] ps = true)  : OnlyChanges ps s0_ (State.tryPaired s) := by
  unfold State.tryPaired
  try dsimp only
  repeat' (first | with_reducible assumption | (with_reducible first | (apply State.setPair_only)) | (exact within_trans rfl hW) | split | (with_reducible first | (apply State.pairing_update)) | ((with_reducible refine OnlyChanges.update ?_ ?_); (on_goal 2 => ((with_reducible intro p hp); (fail_if_success (with_reducible exact Part.same_refl _ _)); cases p <;> first | exact (OnlyChanges.mem hW hp rfl).elim | exact rfl | (and_intros <;> exact rfl)))) | (with_reducible intro _) )

theorem State.refuseShared_only (a : Alloc) (s : State) {ps : List Part} {s0_ : State} (hO : OnlyChanges ps s0_ s) (hW : within [.groups, .lanes, .ports, .scans, .tracker, .sources, .mirror, .views, .outputs] ps = true)  : OnlyChanges ps s0_ (State.refuseShared a s) := by
  unfold State.refuseShared
  try dsimp only
  repeat' (first | with_reducible assumption | (with_reducible first | (apply State.tell_only) | (apply State.freeTrack_only) | (apply State.raise_only) | (apply State.bump_only)) | (exact within_trans rfl hW) | split | (with_reducible intro _) )

theorem State.moveDone_only (s : State) {ps : List Part} {s0_ : State} (hO : OnlyChanges ps s0_ s) (hW : within [.groups, .lanes, .ports, .scans, .hiers, .bridges, .tracker, .homeSlots, .sources, .pairing, .mirror, .views, .outputs] ps = true)  : OnlyChanges ps s0_ (State.moveDone s) := by
  unfold State.moveDone
  try dsimp only
  repeat' (first | with_reducible assumption | (with_reducible first | (apply State.refreshShared_only) | (apply State.each_only) | (apply State.refuseShared_only)) | (exact within_trans rfl hW) | split | (with_reducible first | (apply State.homeSlots_update) | (apply State.pairing_update)) | ((with_reducible refine OnlyChanges.update ?_ ?_); (on_goal 2 => ((with_reducible intro p hp); (fail_if_success (with_reducible exact Part.same_refl _ _)); cases p <;> first | exact (OnlyChanges.mem hW hp rfl).elim | exact rfl | (and_intros <;> exact rfl)))) | (with_reducible intro _) )

theorem State.messageAcked_only (code : Nat) (s : State) {ps : List Part} {s0_ : State} (hO : OnlyChanges ps s0_ s) (hW : within [.groups, .lanes, .ports, .scans, .hiers, .bridges, .tracker, .trunks, .ledger, .homeSlots, .funcs, .vectors, .instances, .masterWait, .sources, .pairing, .mirror, .sessions, .views, .outputs] ps = true)  : OnlyChanges ps s0_ (State.messageAcked code s) := by
  unfold State.messageAcked
  try dsimp only
  repeat' (first | with_reducible assumption | (with_reducible first | (apply State.tryPaired_only) | (apply State.becomeSingle_only) | (apply State.moveDone_only)) | (exact within_trans rfl hW) | split | (with_reducible first | (apply State.pairing_update)) | ((with_reducible refine OnlyChanges.update ?_ ?_); (on_goal 2 => ((with_reducible intro p hp); (fail_if_success (with_reducible exact Part.same_refl _ _)); cases p <;> first | exact (OnlyChanges.mem hW hp rfl).elim | exact rfl | (and_intros <;> exact rfl)))) | (with_reducible intro _) )

theorem State.twinAck_only (a : Nat) (s : State) {ps : List Part} {s0_ : State} (hO : OnlyChanges ps s0_ s) (hW : within [.groups, .lanes, .ports, .scans, .hiers, .bridges, .tracker, .trunks, .ledger, .homeSlots, .funcs, .vectors, .instances, .masterWait, .sources, .pairing, .mirror, .sessions, .views, .outputs] ps = true)  : OnlyChanges ps s0_ (State.twinAck a s) := by
  unfold State.twinAck
  try dsimp only
  repeat' (first | with_reducible assumption | (with_reducible first | (apply State.each_only) | (apply State.messageAcked_only) | (apply State.garnetAck_only)) | (exact within_trans rfl hW) | split | (with_reducible intro _) )

theorem State.garnetWord_only (now : Nat) (c : Control) (s : State) {ps : List Part} {s0_ : State} (hO : OnlyChanges ps s0_ s) (hW : within [.inflight, .groups, .lanes, .ports, .scans, .frames, .matcher, .paths, .hiers, .bridges, .tracker, .pwf, .trunks, .ledger, .homeSlots, .funcs, .vectors, .instances, .masterWait, .sources, .pairing, .mirror, .sessions, .views, .outputs] ps = true)  : OnlyChanges ps s0_ (State.garnetWord now c s) := by
  unfold State.garnetWord
  extract_lets -underBinder t src s1 s1b s2 s3 s4
  have h_s1 : OnlyChanges ps s0_ s1 := by
    simp only [s1]
    repeat' (first | with_reducible assumption | (with_reducible first | (apply State.setTrunk_only) | (apply State.twinAck_only) | (apply State.replay_only) | (apply State.measure_only) | (apply State.askRestart_only)) | (exact within_trans rfl hW) | split | (with_reducible first | (apply State.pairing_update)) | ((with_reducible refine OnlyChanges.update ?_ ?_); (on_goal 2 => ((with_reducible intro p hp); (fail_if_success (with_reducible exact Part.same_refl _ _)); cases p <;> first | exact (OnlyChanges.mem hW hp rfl).elim | exact rfl | (and_intros <;> exact rfl)))) | (with_reducible intro _) )
  clear_value s1
  have h_s1b : OnlyChanges ps s0_ s1b := by
    simp only [s1b]
    repeat' (first | with_reducible assumption | (with_reducible first | (apply State.setTrunk_only) | (apply State.twinAck_only) | (apply State.replay_only) | (apply State.measure_only) | (apply State.askRestart_only)) | (exact within_trans rfl hW) | split | (with_reducible first | (apply State.pairing_update)) | ((with_reducible refine OnlyChanges.update ?_ ?_); (on_goal 2 => ((with_reducible intro p hp); (fail_if_success (with_reducible exact Part.same_refl _ _)); cases p <;> first | exact (OnlyChanges.mem hW hp rfl).elim | exact rfl | (and_intros <;> exact rfl)))) | (with_reducible intro _) )
  clear_value s1b
  have h_s2 : OnlyChanges ps s0_ s2 := by
    simp only [s2]
    repeat' (first | with_reducible assumption | (with_reducible first | (apply State.setTrunk_only) | (apply State.twinAck_only) | (apply State.replay_only) | (apply State.measure_only) | (apply State.askRestart_only)) | (exact within_trans rfl hW) | split | (with_reducible first | (apply State.pairing_update)) | ((with_reducible refine OnlyChanges.update ?_ ?_); (on_goal 2 => ((with_reducible intro p hp); (fail_if_success (with_reducible exact Part.same_refl _ _)); cases p <;> first | exact (OnlyChanges.mem hW hp rfl).elim | exact rfl | (and_intros <;> exact rfl)))) | (with_reducible intro _) )
  clear_value s2
  have h_s3 : OnlyChanges ps s0_ s3 := by
    simp only [s3]
    repeat' (first | with_reducible assumption | (with_reducible first | (apply State.setTrunk_only) | (apply State.twinAck_only) | (apply State.replay_only) | (apply State.measure_only) | (apply State.askRestart_only)) | (exact within_trans rfl hW) | split | (with_reducible first | (apply State.pairing_update)) | ((with_reducible refine OnlyChanges.update ?_ ?_); (on_goal 2 => ((with_reducible intro p hp); (fail_if_success (with_reducible exact Part.same_refl _ _)); cases p <;> first | exact (OnlyChanges.mem hW hp rfl).elim | exact rfl | (and_intros <;> exact rfl)))) | (with_reducible intro _) )
  clear_value s3
  have h_s4 : OnlyChanges ps s0_ s4 := by
    simp only [s4]
    repeat' (first | with_reducible assumption | (with_reducible first | (apply State.setTrunk_only) | (apply State.twinAck_only) | (apply State.replay_only) | (apply State.measure_only) | (apply State.askRestart_only)) | (exact within_trans rfl hW) | split | (with_reducible first | (apply State.pairing_update)) | ((with_reducible refine OnlyChanges.update ?_ ?_); (on_goal 2 => ((with_reducible intro p hp); (fail_if_success (with_reducible exact Part.same_refl _ _)); cases p <;> first | exact (OnlyChanges.mem hW hp rfl).elim | exact rfl | (and_intros <;> exact rfl)))) | (with_reducible intro _) )
  clear_value s4
  repeat' (first | with_reducible assumption | (with_reducible first | (apply State.setTrunk_only) | (apply State.twinAck_only) | (apply State.replay_only) | (apply State.measure_only) | (apply State.askRestart_only)) | (exact within_trans rfl hW) | split | (with_reducible first | (apply State.pairing_update)) | ((with_reducible refine OnlyChanges.update ?_ ?_); (on_goal 2 => ((with_reducible intro p hp); (fail_if_success (with_reducible exact Part.same_refl _ _)); cases p <;> first | exact (OnlyChanges.mem hW hp rfl).elim | exact rfl | (and_intros <;> exact rfl)))) | (with_reducible intro _) )

theorem State.gateOff_only (st : PowerState) (s : State) {ps : List Part} {s0_ : State} (hO : OnlyChanges ps s0_ s) (hW : within [.beat, .epochs, .inflight, .commit, .tables, .groups, .board, .sup, .start, .lanes, .ports, .scans, .frames, .units, .matcher, .paths, .hiers, .bridges, .slots, .tracker, .channels, .pwf, .trunks, .devices, .extents, .poolLines, .poolEvents, .ledger, .homeSlots, .departed, .qps, .cqs, .regions, .clusters, .funcs, .vectors, .instances, .cmdOrder, .contained, .masterWait, .irqPending, .irqUnit, .sprout, .sources, .safeState, .collector, .pairing, .mirror, .sessions, .segments, .settings, .settingsNext, .settingsStart, .views] ps = true)  : OnlyChanges ps s0_ (State.gateOff st s) := by
  unfold State.gateOff
  try dsimp only
  repeat' (first | with_reducible assumption | (with_reducible first | (apply State.clearDie_only)) | (exact within_trans rfl hW) | split | (with_reducible first | (apply State.board_update) | (apply State.sup_update) | (apply State.start_update) | (apply State.sprout_update) | (apply State.sessions_update) | (apply State.segments_update)) | ((with_reducible refine OnlyChanges.update ?_ ?_); (on_goal 2 => ((with_reducible intro p hp); (fail_if_success (with_reducible exact Part.same_refl _ _)); cases p <;> first | exact (OnlyChanges.mem hW hp rfl).elim | exact rfl | (and_intros <;> exact rfl)))) | (with_reducible intro _) )

theorem State.grantHead_only (c : Cand) (f : Frame) (s : State) {ps : List Part} {s0_ : State} (hO : OnlyChanges ps s0_ s) (hW : within [.ports, .frames, .matcher, .trunks, .views] ps = true)  : OnlyChanges ps s0_ (State.grantHead c f s) := by
  unfold State.grantHead
  extract_lets -underBinder m g s1 s2 s3 src s4
  have h_s1 : OnlyChanges ps s0_ s1 := by
    simp only [s1]
    repeat' (first | with_reducible assumption | (with_reducible first | (apply State.setFrame_only) | (apply State.bump_only) | (apply State.setPort_only) | (apply State.setTrunk_only)) | (exact within_trans rfl hW) | split | (with_reducible first | (apply State.matcher_update)) | ((with_reducible refine OnlyChanges.update ?_ ?_); (on_goal 2 => ((with_reducible intro p hp); (fail_if_success (with_reducible exact Part.same_refl _ _)); cases p <;> first | exact (OnlyChanges.mem hW hp rfl).elim | exact rfl | (and_intros <;> exact rfl)))) | (with_reducible intro _) )
  clear_value s1
  have h_s2 : OnlyChanges ps s0_ s2 := by
    simp only [s2]
    repeat' (first | with_reducible assumption | (with_reducible first | (apply State.setFrame_only) | (apply State.bump_only) | (apply State.setPort_only) | (apply State.setTrunk_only)) | (exact within_trans rfl hW) | split | (with_reducible first | (apply State.matcher_update)) | ((with_reducible refine OnlyChanges.update ?_ ?_); (on_goal 2 => ((with_reducible intro p hp); (fail_if_success (with_reducible exact Part.same_refl _ _)); cases p <;> first | exact (OnlyChanges.mem hW hp rfl).elim | exact rfl | (and_intros <;> exact rfl)))) | (with_reducible intro _) )
  clear_value s2
  have h_s3 : OnlyChanges ps s0_ s3 := by
    simp only [s3]
    repeat' (first | with_reducible assumption | (with_reducible first | (apply State.setFrame_only) | (apply State.bump_only) | (apply State.setPort_only) | (apply State.setTrunk_only)) | (exact within_trans rfl hW) | split | (with_reducible first | (apply State.matcher_update)) | ((with_reducible refine OnlyChanges.update ?_ ?_); (on_goal 2 => ((with_reducible intro p hp); (fail_if_success (with_reducible exact Part.same_refl _ _)); cases p <;> first | exact (OnlyChanges.mem hW hp rfl).elim | exact rfl | (and_intros <;> exact rfl)))) | (with_reducible intro _) )
  clear_value s3
  have h_s4 : OnlyChanges ps s0_ s4 := by
    simp only [s4]
    repeat' (first | with_reducible assumption | (with_reducible first | (apply State.setFrame_only) | (apply State.bump_only) | (apply State.setPort_only) | (apply State.setTrunk_only)) | (exact within_trans rfl hW) | split | (with_reducible first | (apply State.matcher_update)) | ((with_reducible refine OnlyChanges.update ?_ ?_); (on_goal 2 => ((with_reducible intro p hp); (fail_if_success (with_reducible exact Part.same_refl _ _)); cases p <;> first | exact (OnlyChanges.mem hW hp rfl).elim | exact rfl | (and_intros <;> exact rfl)))) | (with_reducible intro _) )
  clear_value s4
  repeat' (first | with_reducible assumption | (with_reducible first | (apply State.setFrame_only) | (apply State.bump_only) | (apply State.setPort_only) | (apply State.setTrunk_only)) | (exact within_trans rfl hW) | split | (with_reducible first | (apply State.matcher_update)) | ((with_reducible refine OnlyChanges.update ?_ ?_); (on_goal 2 => ((with_reducible intro p hp); (fail_if_success (with_reducible exact Part.same_refl _ _)); cases p <;> first | exact (OnlyChanges.mem hW hp rfl).elim | exact rfl | (and_intros <;> exact rfl)))) | (with_reducible intro _) )

theorem State.unwait_only (w : Waiting) (s : State) {ps : List Part} {s0_ : State} (hO : OnlyChanges ps s0_ s) (hW : within [.tracker] ps = true)  : OnlyChanges ps s0_ (State.unwait w s) := by
  unfold State.unwait
  try dsimp only
  repeat' (first | with_reducible assumption | (exact within_trans rfl hW) | split | (with_reducible first | (apply State.tracker_update)) | ((with_reducible refine OnlyChanges.update ?_ ?_); (on_goal 2 => ((with_reducible intro p hp); (fail_if_success (with_reducible exact Part.same_refl _ _)); cases p <;> first | exact (OnlyChanges.mem hW hp rfl).elim | exact rfl | (and_intros <;> exact rfl)))) | (with_reducible intro _) )

theorem State.memRefused_only (m : MemReq) (absent : Bool) (s : State) {ps : List Part} {s0_ : State} (hO : OnlyChanges ps s0_ s) (hW : within [.groups, .lanes, .ports, .scans, .hiers, .bridges, .sources, .views, .outputs] ps = true)  : OnlyChanges ps s0_ (State.memRefused m absent s) := by
  unfold State.memRefused
  try dsimp only
  repeat' (first | with_reducible assumption | (with_reducible first | (apply State.raise_only) | (apply State.bump_only) | (apply State.emitOn_only) | (apply State.aer_only)) | (exact within_trans rfl hW) | split | (with_reducible intro _) )

theorem State.memForward_only (m : MemReq) (s : State) {ps : List Part} {s0_ : State} (hO : OnlyChanges ps s0_ s) (hW : within [.groups, .lanes, .ports, .scans, .hiers, .bridges, .tracker, .sources, .views, .outputs] ps = true)  : OnlyChanges ps s0_ (State.memForward m s) := by
  unfold State.memForward
  try dsimp only
  repeat' (first | with_reducible assumption | (with_reducible first | (apply State.memRefused_only) | (apply State.allocTrack_only) | (apply State.emitOn_only)) | (exact within_trans rfl hW) | split | (with_reducible intro _) )

theorem State.grantWaiting_only (w : Waiting) (s0 : State) {ps : List Part} {s0_ : State} (hO : OnlyChanges ps s0_ s0) (hW : within [.groups, .lanes, .ports, .scans, .frames, .hiers, .bridges, .tracker, .trunks, .ledger, .homeSlots, .funcs, .masterWait, .sources, .mirror, .views, .outputs] ps = true)  : OnlyChanges ps s0_ (State.grantWaiting w s0) := by
  unfold State.grantWaiting
  try dsimp only
  repeat' (first | with_reducible assumption | (with_reducible first | (apply State.unwait_only) | (apply State.memForward_only) | (apply State.arrive_only) | (apply State.allocTrack_only) | (apply State.grantEntry_only)) | (exact within_trans rfl hW) | split | (with_reducible first | (apply State.tracker_update)) | ((with_reducible refine OnlyChanges.update ?_ ?_); (on_goal 2 => ((with_reducible intro p hp); (fail_if_success (with_reducible exact Part.same_refl _ _)); cases p <;> first | exact (OnlyChanges.mem hW hp rfl).elim | exact rfl | (and_intros <;> exact rfl)))) | (with_reducible intro _) )

theorem State.helloReply_only (p : AdpPath) (n : Nat) (s : State) {ps : List Part} {s0_ : State} (hO : OnlyChanges ps s0_ s) (hW : within [.groups, .lanes, .ports, .scans, .funcs, .vectors, .instances, .mirror, .views, .outputs, .free] ps = true)  : OnlyChanges ps s0_ (State.helloReply p n s) := by
  unfold State.helloReply
  try dsimp only
  repeat' (first | with_reducible assumption | (with_reducible first | (apply State.fresh_only) | (apply State.each_only) | (apply State.sendAdp_only)) | (exact within_trans rfl hW) | split | (with_reducible intro _) )

theorem State.stray_only (s : State) {ps : List Part} {s0_ : State} (hO : OnlyChanges ps s0_ s) (hW : within [.sources, .views] ps = true)  : OnlyChanges ps s0_ (State.stray s) := by
  unfold State.stray
  try dsimp only
  repeat' (first | with_reducible assumption | (with_reducible first | (apply State.raise_only) | (apply State.bump_only)) | (exact within_trans rfl hW) | split | (with_reducible intro _) )

theorem State.hitDrop_only (r : Nat) (p : Nat) (l : Nat) (v : Nat) (s : State) {ps : List Part} {s0_ : State} (hO : OnlyChanges ps s0_ s) (hW : within [.groups, .lanes, .ports, .scans, .tracker, .trunks, .ledger, .homeSlots, .funcs, .masterWait, .sources, .mirror, .views, .outputs] ps = true)  : OnlyChanges ps s0_ (State.hitDrop r p l v s) := by
  unfold State.hitDrop
  try dsimp only
  repeat' (first | with_reducible assumption | (with_reducible first | (apply State.setLine_only) | (apply State.resetIfOwed_only) | (apply State.unpend_only) | (apply State.stray_only)) | (exact within_trans rfl hW) | split | (with_reducible intro _) )

theorem State.hitKeep_only (r : Nat) (p : Nat) (l : Nat) (v : Nat) (excl : Bool) (s : State) {ps : List Part} {s0_ : State} (hO : OnlyChanges ps s0_ s) (hW : within [.groups, .lanes, .ports, .scans, .tracker, .trunks, .ledger, .homeSlots, .funcs, .masterWait, .sources, .mirror, .views, .outputs] ps = true)  : OnlyChanges ps s0_ (State.hitKeep r p l v excl s) := by
  unfold State.hitKeep
  try dsimp only
  repeat' (first | with_reducible assumption | (with_reducible first | (apply State.unpend_only) | (apply State.stray_only)) | (exact within_trans rfl hW) | split | (with_reducible intro _) )

theorem State.hostRelease_only (n : Nat) (s : State) {ps : List Part} {s0_ : State} (hO : OnlyChanges ps s0_ s) (hW : within [.groups, .lanes, .ports, .hiers] ps = true)  : OnlyChanges ps s0_ (State.hostRelease n s) := by
  unfold State.hostRelease
  try dsimp only
  repeat' (first | with_reducible assumption | (with_reducible first | (apply State.each_only) | (apply State.setHier_only) | (apply State.startPort_only)) | (exact within_trans rfl hW) | split | (with_reducible intro _) )

theorem State.hostReset_only (n : Nat) (s : State) {ps : List Part} {s0_ : State} (hO : OnlyChanges ps s0_ s) (hW : within [.inflight, .groups, .lanes, .ports, .scans, .frames, .matcher, .paths, .hiers, .bridges, .slots, .tracker, .channels, .pwf, .trunks, .devices, .extents, .poolLines, .poolEvents, .ledger, .homeSlots, .departed, .qps, .cqs, .regions, .funcs, .vectors, .instances, .cmdOrder, .masterWait, .irqPending, .sources, .mirror, .sessions, .views, .outputs, .free] ps = true)  : OnlyChanges ps s0_ (State.hostReset n s) := by
  unfold State.hostReset
  try dsimp only
  repeat' (first | with_reducible assumption | (with_reducible first | (apply State.each_only) | (apply State.setPort_only) | (apply State.portDownFree_only) | (apply State.setHier_only) | (apply State.hierReset_only)) | (exact within_trans rfl hW) | split | (with_reducible intro _) )

theorem State.hostUp_only (p : Nat) (s : State) {ps : List Part} {s0_ : State} (hO : OnlyChanges ps s0_ s) (hW : within [.groups, .lanes, .ports, .scans, .hiers, .bridges, .channels, .extents, .sources, .mirror, .outputs] ps = true)  : OnlyChanges ps s0_ (State.hostUp p s) := by
  unfold State.hostUp
  try dsimp only
  repeat' (first | with_reducible assumption | (with_reducible first | (apply State.peerEvent_only) | (apply State.each_only) | (apply State.refreshEndpoint_only) | (apply State.hideCheck_only)) | (exact within_trans rfl hW) | split | (with_reducible intro _) )

theorem State.i2cFailed_only (n : Nat) (s0 : State) {ps : List Part} {s0_ : State} (hO : OnlyChanges ps s0_ s0) (hW : within [.groups, .slots, .sources, .outputs] ps = true)  : OnlyChanges ps s0_ (State.i2cFailed n s0) := by
  unfold State.i2cFailed
  try dsimp only
  repeat' (first | with_reducible assumption | (with_reducible first | (apply State.emit_only) | (apply State.setGroup_only) | (apply State.each_only) | (apply State.setSlot_only) | (apply State.raise_only)) | (exact within_trans rfl hW) | split | (with_reducible intro _) )

theorem State.ideUp_only (p : Nat) (keyed : Bool) (s : State) {ps : List Part} {s0_ : State} (hO : OnlyChanges ps s0_ s) (hW : within [.ports] ps = true)  : OnlyChanges ps s0_ (State.ideUp p keyed s) := by
  unfold State.ideUp
  try dsimp only
  repeat' (first | with_reducible assumption | (with_reducible first | (apply State.setPort_only)) | (exact within_trans rfl hW) | split | (with_reducible intro _) )

theorem State.l0pWidth_only (p : Nat) (code : Nat) (receive : Bool) (s : State) {ps : List Part} {s0_ : State} (hO : OnlyChanges ps s0_ s) (hW : within [.lanes, .ports, .scans] ps = true)  : OnlyChanges ps s0_ (State.l0pWidth p code receive s) := by
  unfold State.l0pWidth
  try dsimp only
  repeat' (first | with_reducible assumption | (with_reducible first | (apply State.each_only) | (apply State.setLane_only) | (apply State.scanCheck_only) | (apply State.setPort_only)) | (exact within_trans rfl hW) | split | (with_reducible intro _) )

theorem State.lastBlocks_only (p : Nat) (s : State) {ps : List Part} {s0_ : State} (hO : OnlyChanges ps s0_ s) (hW : within [.lanes, .ports, .outputs] ps = true)  : OnlyChanges ps s0_ (State.lastBlocks p s) := by
  unfold State.lastBlocks
  try dsimp only
  repeat' (first | with_reducible assumption | (with_reducible first | (apply State.setPort_only) | (apply State.each_only) | (apply State.sendBlock_only)) | (exact within_trans rfl hW) | split | (with_reducible intro _) )

theorem State.masterDone_only (port : Nat) (addr : Nat) (write : Bool) (s : State) {ps : List Part} {s0_ : State} (hO : OnlyChanges ps s0_ s) (hW : within [.tracker] ps = true)  : OnlyChanges ps s0_ (State.masterDone port addr write s) := by
  unfold State.masterDone
  try dsimp only
  repeat' (first | with_reducible assumption | (with_reducible first | (apply State.freeTrack_only)) | (exact within_trans rfl hW) | split | (with_reducible intro _) )

theorem State.memSeek_only (m : MemReq) (s : State) {ps : List Part} {s0_ : State} (hO : OnlyChanges ps s0_ s) (hW : within [.groups, .lanes, .ports, .scans, .hiers, .bridges, .tracker, .sources, .views, .outputs] ps = true)  : OnlyChanges ps s0_ (State.memSeek m s) := by
  unfold State.memSeek
  try dsimp only
  repeat' (first | with_reducible assumption | (with_reducible first | (apply State.refuseMem_only) | (apply State.memRefused_only) | (apply State.memForward_only)) | (exact within_trans rfl hW) | split | (with_reducible first | (apply State.tracker_update)) | ((with_reducible refine OnlyChanges.update ?_ ?_); (on_goal 2 => ((with_reducible intro p hp); (fail_if_success (with_reducible exact Part.same_refl _ _)); cases p <;> first | exact (OnlyChanges.mem hW hp rfl).elim | exact rfl | (and_intros <;> exact rfl)))) | (with_reducible intro _) )

theorem State.memoryData_only (r : Nat) (p : Nat) (l : Nat) (data : Nat) (poison : Bool) (s : State) {ps : List Part} {s0_ : State} (hO : OnlyChanges ps s0_ s) (hW : within [.groups, .lanes, .ports, .scans, .tracker, .trunks, .ledger, .homeSlots, .funcs, .masterWait, .sources, .mirror, .views, .outputs] ps = true)  : OnlyChanges ps s0_ (State.memoryData r p l data poison s) := by
  unfold State.memoryData
  try dsimp only
  repeat' (first | with_reducible assumption | (with_reducible first | (apply State.endSlot_only) | (apply State.grant_only) | (apply State.stray_only)) | (exact within_trans rfl hW) | split | (with_reducible intro _) )

theorem State.message_only (h : GarnetHead) (code : Nat) (body : List Nat) (f : State → State) (s : State) {ps : List Part} {s0_ : State} (hO : OnlyChanges ps s0_ s) (hW : within [.trunks, .irqPending, .views] ps = true) (h_f : ∀ s_, OnlyChanges ps s0_ s_ → OnlyChanges ps s0_ (f s_)) : OnlyChanges ps s0_ (State.message h code body f s) := by
  unfold State.message
  try dsimp only
  repeat' (first | with_reducible assumption | (with_reducible first | (apply State.garnetAccept_only) | (apply State.interrupt_only) | (apply h_f)) | (exact within_trans rfl hW) | split | (with_reducible intro _) )

theorem State.missed_only (r : Nat) (p : Nat) (l : Nat) (v : Nat) (s : State) {ps : List Part} {s0_ : State} (hO : OnlyChanges ps s0_ s) (hW : within [.groups, .lanes, .ports, .scans, .tracker, .trunks, .ledger, .homeSlots, .funcs, .masterWait, .sources, .mirror, .views, .outputs] ps = true)  : OnlyChanges ps s0_ (State.missed r p l v s) := by
  unfold State.missed
  try dsimp only
  repeat' (first | with_reducible assumption | (with_reducible first | (apply State.unpend_only) | (apply State.stray_only)) | (exact within_trans rfl hW) | split | (with_reducible intro _) )

theorem State.modifyQp_only (v : Nat) (k : Nat) (s : State) {ps : List Part} {s0_ : State} (hO : OnlyChanges ps s0_ s) (hW : within [.groups, .lanes, .ports, .scans, .qps, .cqs, .regions, .funcs, .vectors, .instances, .cmdOrder, .sources, .mirror, .views, .outputs, .free] ps = true)  : OnlyChanges ps s0_ (State.modifyQp v k s) := by
  unfold State.modifyQp
  try dsimp only
  repeat' (first | with_reducible assumption | (with_reducible first | (apply State.outOfRange_only) | (apply State.endWith_only) | (apply State.setQp_only) | (apply State.qpReady_only) | (apply State.flushQp_only)) | (exact within_trans rfl hW) | split | (with_reducible intro _) )

theorem State.moveCell_only (c : Cand) (s : State) {ps : List Part} {s0_ : State} (hO : OnlyChanges ps s0_ s) (hW : within [.inflight, .groups, .sup, .lanes, .ports, .scans, .frames, .matcher, .paths, .tracker, .trunks, .sources, .views, .outputs] ps = true)  : OnlyChanges ps s0_ (State.moveCell c s) := by
  unfold State.moveCell
  try dsimp only
  repeat' (first | with_reducible assumption | (with_reducible first | (apply State.grantHead_only) | (apply State.setPort_only) | (apply State.setFrame_only) | (apply State.cellWords_only) | (apply State.frameLeaves_only)) | (exact within_trans rfl hW) | split | (with_reducible intro _) )

theorem State.onoffEval_only (p : Nat) (s : State) {ps : List Part} {s0_ : State} (hO : OnlyChanges ps s0_ s) (hW : within [.trunks] ps = true)  : OnlyChanges ps s0_ (State.onoffEval p s) := by
  unfold State.onoffEval
  try dsimp only
  repeat' (first | with_reducible assumption | (with_reducible first | (apply State.setTrunk_only)) | (exact within_trans rfl hW) | split | (with_reducible intro _) )

theorem State.owedReplay_only (now : Nat) (p : Nat) (s : State) {ps : List Part} {s0_ : State} (hO : OnlyChanges ps s0_ s) (hW : within [.inflight, .lanes, .ports, .scans, .frames, .matcher, .tracker, .trunks, .sources, .views, .outputs] ps = true)  : OnlyChanges ps s0_ (State.owedReplay now p s) := by
  unfold State.owedReplay
  try dsimp only
  repeat' (first | with_reducible assumption | (with_reducible first | (apply State.replay_only)) | (exact within_trans rfl hW) | split | (with_reducible intro _) )

theorem State.pageDiscard_only (s : State) {ps : List Part} {s0_ : State} (hO : OnlyChanges ps s0_ s) (hW : within [.sources, .views] ps = true)  : OnlyChanges ps s0_ (State.pageDiscard s) := by
  unfold State.pageDiscard
  try dsimp only
  repeat' (first | with_reducible assumption | (with_reducible first | (apply State.raise_only) | (apply State.bump_only)) | (exact within_trans rfl hW) | split | (with_reducible intro _) )

theorem State.parityCheck_only (s : State) {ps : List Part} {s0_ : State} (hO : OnlyChanges ps s0_ s) (hW : within [.inflight, .board, .sup, .start, .lanes, .frames, .matcher, .tracker, .sources, .safeState, .collector, .outputs] ps = true)  : OnlyChanges ps s0_ (State.parityCheck s) := by
  unfold State.parityCheck
  try dsimp only
  repeat' (first | with_reducible assumption | (with_reducible first | (apply State.enterSafe_only)) | (exact within_trans rfl hW) | split | (with_reducible intro _) )

theorem State.precodeUp_only (p : Nat) (rate : Nat) (tx : Bool) (s : State) {ps : List Part} {s0_ : State} (hO : OnlyChanges ps s0_ s) (hW : within [.lanes] ps = true)  : OnlyChanges ps s0_ (State.precodeUp p rate tx s) := by
  unfold State.precodeUp
  try dsimp only
  repeat' (first | with_reducible assumption | (with_reducible first | (apply State.each_only) | (apply State.setLane_only)) | (exact within_trans rfl hW) | split | (with_reducible intro _) )

theorem State.portUp_only (p : Nat) (width : Nat) (rate : Nat) (cxl : Nat) (protocols : Nat) (flit : Bool) (s : State) {ps : List Part} {s0_ : State} (hO : OnlyChanges ps s0_ s) (hW : within [.groups, .lanes, .ports, .irqPending] ps = true)  : OnlyChanges ps s0_ (State.portUp p width rate cxl protocols flit s) := by
  unfold State.portUp
  try dsimp only
  repeat' (first | with_reducible assumption | (with_reducible first | (apply State.setPort_only) | (apply State.ifDo_only) | (apply State.interrupt_only) | (apply State.clkreqCheck_only) | (apply State.each_only) | (apply State.setLane_only)) | (exact within_trans rfl hW) | split | (with_reducible intro _) )

theorem State.pcieBack_only (p : Nat) (rate : Nat) (tx : Bool) (s : State) {ps : List Part} {s0_ : State} (hO : OnlyChanges ps s0_ s) (hW : within [.groups, .lanes, .ports, .irqPending] ps = true)  : OnlyChanges ps s0_ (State.pcieBack p rate tx s) := by
  unfold State.pcieBack
  try dsimp only
  repeat' (first | with_reducible assumption | (with_reducible first | (apply State.precodeUp_only) | (apply State.portUp_only)) | (exact within_trans rfl hW) | split | (with_reducible intro _) )

theorem State.useWidth_only (p : Nat) (n : Nat) (rev : Bool) (s : State) {ps : List Part} {s0_ : State} (hO : OnlyChanges ps s0_ s) (hW : within [.lanes, .ports, .sources] ps = true)  : OnlyChanges ps s0_ (State.useWidth p n rev s) := by
  unfold State.useWidth
  try dsimp only
  repeat' (first | with_reducible assumption | (with_reducible first | (apply State.each_only) | (apply State.laneOut_only) | (apply State.setPort_only)) | (exact within_trans rfl hW) | split | (with_reducible intro _) )

theorem State.pcieUp_only (p : Nat) (rate : Nat) (width : Nat) (rev : Bool) (x : Partner) (clock : RefClock) (precode : Bool) (keyed : Bool) (s : State) {ps : List Part} {s0_ : State} (hO : OnlyChanges ps s0_ s) (hW : within [.inflight, .groups, .lanes, .ports, .scans, .frames, .matcher, .paths, .hiers, .bridges, .slots, .tracker, .channels, .pwf, .trunks, .devices, .extents, .poolLines, .poolEvents, .ledger, .homeSlots, .departed, .qps, .cqs, .regions, .funcs, .vectors, .instances, .cmdOrder, .masterWait, .irqPending, .sources, .mirror, .sessions, .views, .outputs, .free] ps = true)  : OnlyChanges ps s0_ (State.pcieUp p rate width rev x clock precode keyed s) := by
  unfold State.pcieUp
  try dsimp only
  repeat' (first | with_reducible assumption | (with_reducible first | (apply State.failTraining_only) | (apply State.setPort_only) | (apply State.portUp_only) | (apply State.useWidth_only) | (apply State.advertise_only) | (apply State.ideUp_only) | (apply State.precodeUp_only) | (apply State.hostUp_only) | (apply State.deviceUp_only)) | (exact within_trans rfl hW) | split | (with_reducible intro _) )

theorem State.pinLevel_only (k : Nat) (level : Bool) (s : State) {ps : List Part} {s0_ : State} (hO : OnlyChanges ps s0_ s) (hW : within [.groups, .board] ps = true)  : OnlyChanges ps s0_ (State.pinLevel k level s) := by
  unfold State.pinLevel
  try dsimp only
  repeat' (first | with_reducible assumption | (with_reducible first | (apply State.setGroup_only)) | (exact within_trans rfl hW) | split | (with_reducible first | (apply State.board_update)) | ((with_reducible refine OnlyChanges.update ?_ ?_); (on_goal 2 => ((with_reducible intro p hp); (fail_if_success (with_reducible exact Part.same_refl _ _)); cases p <;> first | exact (OnlyChanges.mem hW hp rfl).elim | exact rfl | (and_intros <;> exact rfl)))) | (with_reducible intro _) )

theorem State.portStop_only (r : Nat) (p : Nat) (l : Nat) (q : Request) (s : State) {ps : List Part} {s0_ : State} (hO : OnlyChanges ps s0_ s) (hW : within [.groups, .lanes, .ports, .scans, .hiers, .bridges, .tracker, .trunks, .ledger, .homeSlots, .funcs, .masterWait, .sources, .mirror, .views, .outputs] ps = true)  : OnlyChanges ps s0_ (State.portStop r p l q s) := by
  unfold State.portStop
  try dsimp only
  repeat' (first | with_reducible assumption | (with_reducible first | (apply State.refuseMem_only) | (apply State.arrive_only) | (apply State.allocTrack_only)) | (exact within_trans rfl hW) | split | (with_reducible first | (apply State.tracker_update)) | ((with_reducible refine OnlyChanges.update ?_ ?_); (on_goal 2 => ((with_reducible intro p hp); (fail_if_success (with_reducible exact Part.same_refl _ _)); cases p <;> first | exact (OnlyChanges.mem hW hp rfl).elim | exact rfl | (and_intros <;> exact rfl)))) | (with_reducible intro _) )

theorem State.pwfBeryl_only (far : Nat) (label : Nat) (cause : Nat) (addr : Nat) (farStamp : Nat) (s : State) {ps : List Part} {s0_ : State} (hO : OnlyChanges ps s0_ s) (hW : within [.groups, .lanes, .ports, .scans, .hiers, .qps, .cqs, .regions, .funcs, .vectors, .instances, .sources, .mirror, .views, .outputs, .free] ps = true)  : OnlyChanges ps s0_ (State.pwfBeryl far label cause addr farStamp s) := by
  unfold State.pwfBeryl
  try dsimp only
  repeat' (first | with_reducible assumption | (with_reducible first | (apply State.raise_only) | (apply State.bump_only) | (apply State.errRecord_only) | (apply State.causeEvent_only) | (apply State.aerCorrectable_only) | (apply State.flushQp_only)) | (exact within_trans rfl hW) | split | (with_reducible intro _) )

theorem State.pwrenDriven_only (e : Nat × SlotPins) (g : GroupSide) (s : State) {ps : List Part} {s0_ : State} (hO : OnlyChanges ps s0_ s) (hW : within [.slots] ps = true)  : OnlyChanges ps s0_ (State.pwrenDriven e g s) := by
  unfold State.pwrenDriven
  try dsimp only
  repeat' (first | with_reducible assumption | (with_reducible first | (apply State.setSlot_only)) | (exact within_trans rfl hW) | split | (with_reducible intro _) )

theorem State.ramp_only (s : State) {ps : List Part} {s0_ : State} (hO : OnlyChanges ps s0_ s) (hW : within [.sup] ps = true)  : OnlyChanges ps s0_ (State.ramp s) := by
  unfold State.ramp
  try dsimp only
  repeat' (first | with_reducible assumption | (with_reducible first | (apply State.setSup_only)) | (exact within_trans rfl hW) | split | (with_reducible intro _) )

theorem State.readRing_only (q : Nat) (base : Nat) (log2 : Nat) (prod : Nat) (n : Nat) (s : State) {ps : List Part} {s0_ : State} (hO : OnlyChanges ps s0_ s) (hW : within [.groups, .lanes, .ports, .scans, .funcs, .mirror, .outputs] ps = true)  : OnlyChanges ps s0_ (State.readRing q base log2 prod n s) := by
  unfold State.readRing
  try dsimp only
  repeat' (first | with_reducible assumption | (with_reducible first | (apply State.each_only) | (apply State.emitHost_only)) | (exact within_trans rfl hW) | split | (with_reducible intro _) )

theorem State.refuse_only (p : AdpPath) (n : Nat) (code : Nat) (s : State) {ps : List Part} {s0_ : State} (hO : OnlyChanges ps s0_ s) (hW : within [.groups, .lanes, .ports, .scans, .funcs, .vectors, .instances, .mirror, .sessions, .views, .outputs] ps = true)  : OnlyChanges ps s0_ (State.refuse p n code s) := by
  unfold State.refuse
  try dsimp only
  repeat' (first | with_reducible assumption | (with_reducible first | (apply State.sendAdp_only) | (apply State.endSession_only)) | (exact within_trans rfl hW) | split | (with_reducible intro _) )

theorem State.refuseCheck_only (p : AdpPath) (n : Nat) (code : Nat) (s : State) {ps : List Part} {s0_ : State} (hO : OnlyChanges ps s0_ s) (hW : within [.groups, .lanes, .ports, .scans, .funcs, .vectors, .instances, .sources, .mirror, .sessions, .views, .outputs] ps = true)  : OnlyChanges ps s0_ (State.refuseCheck p n code s) := by
  unfold State.refuseCheck
  try dsimp only
  repeat' (first | with_reducible assumption | (with_reducible first | (apply State.refuse_only) | (apply State.raise_only) | (apply State.bump_only)) | (exact within_trans rfl hW) | split | (with_reducible intro _) )

theorem State.refuseLimit_only (p : AdpPath) (n : Nat) (s : State) {ps : List Part} {s0_ : State} (hO : OnlyChanges ps s0_ s) (hW : within [.groups, .lanes, .ports, .scans, .funcs, .vectors, .instances, .sources, .mirror, .sessions, .views, .outputs] ps = true)  : OnlyChanges ps s0_ (State.refuseLimit p n s) := by
  unfold State.refuseLimit
  try dsimp only
  repeat' (first | with_reducible assumption | (with_reducible first | (apply State.refuse_only) | (apply State.raise_only)) | (exact within_trans rfl hW) | split | (with_reducible intro _) )

theorem State.registerRegion_only (v : Nat) (k : Nat) (s : State) {ps : List Part} {s0_ : State} (hO : OnlyChanges ps s0_ s) (hW : within [.groups, .lanes, .ports, .scans, .regions, .funcs, .vectors, .instances, .cmdOrder, .sources, .mirror, .views, .outputs] ps = true)  : OnlyChanges ps s0_ (State.registerRegion v k s) := by
  unfold State.registerRegion
  try dsimp only
  repeat' (first | with_reducible assumption | (with_reducible first | (apply State.outOfRange_only) | (apply State.endWith_only) | (apply State.endCommand_only) | (apply State.madeRegion_only)) | (exact within_trans rfl hW) | split | (with_reducible intro _) )

theorem State.writeSetting_only (i : Nat) (j : Nat) (v : Nat) (s : State) {ps : List Part} {s0_ : State} (hO : OnlyChanges ps s0_ s) (hW : within [.start, .sources, .anchors, .settingsNext, .settingsStart] ps = true)  : OnlyChanges ps s0_ (State.writeSetting i j v s) := by
  unfold State.writeSetting
  try dsimp only
  repeat' (first | with_reducible assumption | (with_reducible first | (apply State.setSource_only)) | (exact within_trans rfl hW) | split | (with_reducible first | (apply State.start_update) | (apply State.anchors_update) | (apply State.settingsNext_update) | (apply State.settingsStart_update)) | ((with_reducible refine OnlyChanges.update ?_ ?_); (on_goal 2 => ((with_reducible intro p hp); (fail_if_success (with_reducible exact Part.same_refl _ _)); cases p <;> first | exact (OnlyChanges.mem hW hp rfl).elim | exact rfl | (and_intros <;> exact rfl)))) | (with_reducible intro _) )

theorem State.writeStaged_only (i : Nat) (j : Nat) (v : Nat) (s : State) {ps : List Part} {s0_ : State} (hO : OnlyChanges ps s0_ s) (hW : within [.tables] ps = true)  : OnlyChanges ps s0_ (State.writeStaged i j v s) := by
  unfold State.writeStaged
  try dsimp only
  repeat' (first | with_reducible assumption | (exact within_trans rfl hW) | split | (with_reducible first | (apply State.tables_update)) | ((with_reducible refine OnlyChanges.update ?_ ?_); (on_goal 2 => ((with_reducible intro p hp); (fail_if_success (with_reducible exact Part.same_refl _ _)); cases p <;> first | exact (OnlyChanges.mem hW hp rfl).elim | exact rfl | (and_intros <;> exact rfl)))) | (with_reducible intro _) )

theorem State.writeSelector_only (i : Nat) (j : Nat) (v : Nat) (s : State) {ps : List Part} {s0_ : State} (hO : OnlyChanges ps s0_ s) (hW : within [.start, .views] ps = true)  : OnlyChanges ps s0_ (State.writeSelector i j v s) := by
  unfold State.writeSelector
  try dsimp only
  repeat' (first | with_reducible assumption | (with_reducible first | (apply State.setView_only)) | (exact within_trans rfl hW) | split | (with_reducible first | (apply State.start_update)) | ((with_reducible refine OnlyChanges.update ?_ ?_); (on_goal 2 => ((with_reducible intro p hp); (fail_if_success (with_reducible exact Part.same_refl _ _)); cases p <;> first | exact (OnlyChanges.mem hW hp rfl).elim | exact rfl | (and_intros <;> exact rfl)))) | (with_reducible intro _) )

theorem settled_only (s : State) (x1 : Res) {ps : List Part} {s0_ : State} (hO : OnlyChanges ps s0_ s) (hW : within [.outputs] ps = true) (h_r : ∀ t_, x1 = .next t_ → OnlyChanges ps s0_ t_) : OnlyChanges ps s0_ (settled s x1) := by
  cases x1 with
  | next t => exact (h_r t rfl).trans (fun p hp => by unfold settled; cases p <;> first | exact (OnlyChanges.mem hW hp rfl).elim | exact rfl | (and_intros <;> exact rfl))
  | fault _ => exact hO
  | refused _ => exact hO

theorem State.writeEntry_only (r : EntryRow) (i : Nat) (j : Nat) (v : Nat) (cycle : Fin 256) (s : State) {ps : List Part} {s0_ : State} (hO : OnlyChanges ps s0_ s) (hW : within [.beat, .epochs, .inflight, .commit, .tables, .groups, .board, .sup, .start, .lanes, .ports, .scans, .frames, .units, .matcher, .paths, .hiers, .bridges, .slots, .tracker, .channels, .pwf, .trunks, .devices, .extents, .poolLines, .poolEvents, .ledger, .homeSlots, .departed, .qps, .cqs, .regions, .clusters, .funcs, .vectors, .instances, .cmdOrder, .contained, .masterWait, .irqPending, .irqUnit, .sprout, .sources, .safeState, .collector, .pairing, .mirror, .sessions, .segments, .anchors, .settings, .settingsNext, .settingsStart, .views, .outputs, .free] ps = true)  : OnlyChanges ps s0_ (State.writeEntry r i j v cycle s) := by
  unfold State.writeEntry
  try dsimp only
  repeat' (first | with_reducible assumption | (with_reducible first | (apply State.writeSetting_only) | (apply State.writeStaged_only) | (apply State.writeSelector_only) | (apply settled_only) | (refine State.commandItem_only _ _ _ _ _ ?_ ?_)) | (exact within_trans rfl hW) | split | (with_reducible intro _) )

theorem State.writeHost_only (v : Nat) (reg : HostReg) (s : State) {ps : List Part} {s0_ : State} (hO : OnlyChanges ps s0_ s) (hW : within [.channels, .funcs, .vectors, .instances, .sources, .views] ps = true)  : OnlyChanges ps s0_ (State.writeHost v reg s) := by
  unfold State.writeHost
  try dsimp only
  repeat' (first | with_reducible assumption | (with_reducible first | (apply State.pageDiscard_only) | (apply State.setInst_only) | (apply State.setFunc_only) | (apply State.setVec_only) | (apply State.setChannel_only) | (apply State.raise_only) | (apply State.bump_only)) | (exact within_trans rfl hW) | split | (with_reducible intro _) )

theorem State.writeEnable_only (k : Nat) (word : Nat) (value : BitVec 32) (s : State) {ps : List Part} {s0_ : State} (hO : OnlyChanges ps s0_ s) (hW : within [.irqUnit] ps = true)  : OnlyChanges ps s0_ (State.writeEnable k word value s) := by
  unfold State.writeEnable
  try dsimp only
  repeat' (first | with_reducible assumption | (with_reducible first | (apply State.each_only)) | (exact within_trans rfl hW) | split | (with_reducible first | (apply State.irqUnit_update)) | ((with_reducible refine OnlyChanges.update ?_ ?_); (on_goal 2 => ((with_reducible intro p hp); (fail_if_success (with_reducible exact Part.same_refl _ _)); cases p <;> first | exact (OnlyChanges.mem hW hp rfl).elim | exact rfl | (and_intros <;> exact rfl)))) | (with_reducible intro _) )

theorem State.writeConfig_only (n : Nat) (v : Nat) (s : State) {ps : List Part} {s0_ : State} (hO : OnlyChanges ps s0_ s) (hW : within [.start, .sources] ps = true)  : OnlyChanges ps s0_ (State.writeConfig n v s) := by
  unfold State.writeConfig
  try dsimp only
  repeat' (first | with_reducible assumption | (with_reducible first | (apply State.setSource_only)) | (exact within_trans rfl hW) | split | (with_reducible first | (apply State.start_update)) | ((with_reducible refine OnlyChanges.update ?_ ?_); (on_goal 2 => ((with_reducible intro p hp); (fail_if_success (with_reducible exact Part.same_refl _ _)); cases p <;> first | exact (OnlyChanges.mem hW hp rfl).elim | exact rfl | (and_intros <;> exact rfl)))) | (with_reducible intro _) )

theorem State.registerWrite_only (w : RegWrite) (cycle : Fin 256) (s : State) {ps : List Part} {s0_ : State} (hO : OnlyChanges ps s0_ s) (hW : within [.beat, .epochs, .inflight, .commit, .tables, .groups, .board, .sup, .start, .lanes, .ports, .scans, .frames, .units, .matcher, .paths, .hiers, .bridges, .slots, .tracker, .channels, .pwf, .trunks, .devices, .extents, .poolLines, .poolEvents, .ledger, .homeSlots, .departed, .qps, .cqs, .regions, .clusters, .funcs, .vectors, .instances, .cmdOrder, .contained, .masterWait, .irqPending, .irqUnit, .sprout, .sources, .safeState, .collector, .pairing, .mirror, .sessions, .segments, .anchors, .settings, .settingsNext, .settingsStart, .views, .outputs, .free] ps = true)  : OnlyChanges ps s0_ (State.registerWrite w cycle s) := by
  unfold State.registerWrite
  try dsimp only
  repeat' (first | with_reducible assumption | (with_reducible first | (apply State.answer_only) | (apply State.writeEntry_only) | (apply State.ifDo_only) | (apply State.writeHost_only) | (apply State.writeEnable_only) | (apply State.writeConfig_only) | (apply State.clearSource_only) | (apply State.raise_only)) | (exact within_trans rfl hW) | split | (with_reducible intro _) )

theorem State.releaseInst_only (i : Nat) (s : State) {ps : List Part} {s0_ : State} (hO : OnlyChanges ps s0_ s) (hW : within [.groups, .lanes, .ports, .scans, .qps, .cqs, .regions, .funcs, .vectors, .instances, .cmdOrder, .sources, .mirror, .views, .outputs, .free] ps = true)  : OnlyChanges ps s0_ (State.releaseInst i s) := by
  unfold State.releaseInst
  try dsimp only
  repeat' (first | with_reducible assumption | (with_reducible first | (apply State.each_only) | (apply State.emitHost_only) | (apply State.freeRegion_only) | (apply State.endWith_only) | (apply State.setInst_only) | (apply State.resetDone_only) | (apply State.setInstState_only)) | (exact within_trans rfl hW) | split | (with_reducible first | (apply State.qps_update) | (apply State.cqs_update)) | ((with_reducible refine OnlyChanges.update ?_ ?_); (on_goal 2 => ((with_reducible intro p hp); (fail_if_success (with_reducible exact Part.same_refl _ _)); cases p <;> first | exact (OnlyChanges.mem hW hp rfl).elim | exact rfl | (and_intros <;> exact rfl)))) | (with_reducible intro _) )

theorem State.respond_only (h : AdpHead) (x : Session) (op : Nat) (len : Nat) (body : List Nat) (s : State) {ps : List Part} {s0_ : State} (hO : OnlyChanges ps s0_ s) (hW : within [.groups, .lanes, .ports, .scans, .funcs, .vectors, .instances, .mirror, .sessions, .views, .outputs] ps = true)  : OnlyChanges ps s0_ (State.respond h x op len body s) := by
  unfold State.respond
  try dsimp only
  repeat' (first | with_reducible assumption | (with_reducible first | (apply State.endSession_only) | (apply State.sendAdp_only) | (apply State.setSession_only)) | (exact within_trans rfl hW) | split | (with_reducible intro _) )

theorem State.request_only (h : AdpHead) (op : Nat) (level : Nat) (status : Session → State → Nat) (f : Session → State → State) (s : State) {ps : List Part} {s0_ : State} (hO : OnlyChanges ps s0_ s) (hW : within [.groups, .lanes, .ports, .scans, .funcs, .vectors, .instances, .sources, .mirror, .sessions, .views, .outputs] ps = true) (h_f : ∀ y0 s_, OnlyChanges ps s0_ s_ → OnlyChanges ps s0_ (f y0 s_)) : OnlyChanges ps s0_ (State.request h op level status f s) := by
  unfold State.request
  refine State.adpMessage_only _ _ _ hO (within_trans rfl hW) ?_
  intro x s1 h1
  extract_lets c s2
  have h2 : OnlyChanges ps s0_ s2 := State.respond_only _ _ _ _ _ _ h1 (within_trans rfl hW)
  clear_value s2 c
  split
  · exact h_f _ _ h2
  · exact h2

theorem State.requestFrame_only (f : BFrame) (data : Nat) (ok : Bool) (s0 : State) {ps : List Part} {s0_ : State} (hO : OnlyChanges ps s0_ s0) (hW : within [.groups, .lanes, .ports, .scans, .tracker, .qps, .cqs, .regions, .funcs, .vectors, .instances, .masterWait, .sources, .mirror, .views, .outputs, .free] ps = true)  : OnlyChanges ps s0_ (State.requestFrame f data ok s0) := by
  unfold State.requestFrame
  try dsimp only
  repeat' (first | with_reducible assumption | (with_reducible first | (apply State.bump_only) | (apply State.wrongFrame_only) | (apply State.contextWait_only) | (apply State.rnrNak_only) | (apply State.classify_only) | (apply State.touch_only)) | (exact within_trans rfl hW) | split | (with_reducible intro _) )

theorem State.resetControl_only (v : Nat) (k : Nat) (mode : Nat) (s : State) {ps : List Part} {s0_ : State} (hO : OnlyChanges ps s0_ s) (hW : within [.groups, .lanes, .ports, .scans, .funcs, .vectors, .instances, .sources, .mirror, .views, .outputs] ps = true)  : OnlyChanges ps s0_ (State.resetControl v k mode s) := by
  unfold State.resetControl
  try dsimp only
  repeat' (first | with_reducible assumption | (with_reducible first | (apply State.askReset_only) | (apply State.raise_only) | (apply State.bump_only)) | (exact within_trans rfl hW) | split | (with_reducible intro _) )

theorem State.responseElse_only (f : BFrame) (s : State) {ps : List Part} {s0_ : State} (hO : OnlyChanges ps s0_ s) (hW : within [.groups, .lanes, .ports, .scans, .tracker, .qps, .regions, .funcs, .vectors, .instances, .masterWait, .sources, .mirror, .views, .outputs, .free] ps = true)  : OnlyChanges ps s0_ (State.responseElse f s) := by
  unfold State.responseElse
  try dsimp only
  repeat' (first | with_reducible assumption | (with_reducible first | (apply State.wrongFrame_only) | (apply State.contextWait_only)) | (exact within_trans rfl hW) | split | (with_reducible intro _) )

theorem State.response_only (f : BFrame) (data : List Nat) (s0 : State) {ps : List Part} {s0_ : State} (hO : OnlyChanges ps s0_ s0) (hW : within [.groups, .lanes, .ports, .scans, .tracker, .qps, .cqs, .regions, .funcs, .vectors, .instances, .masterWait, .sources, .mirror, .views, .outputs, .free] ps = true)  : OnlyChanges ps s0_ (State.response f data s0) := by
  unfold State.response
  try dsimp only
  repeat' (first | with_reducible assumption | (with_reducible first | (apply State.bump_only) | (apply State.responseFrame_only) | (apply State.touch_only) | (apply State.responseElse_only)) | (exact within_trans rfl hW) | split | (with_reducible intro _) )

theorem State.revokeRegion_only (v : Nat) (k : Nat) (s : State) {ps : List Part} {s0_ : State} (hO : OnlyChanges ps s0_ s) (hW : within [.groups, .lanes, .ports, .scans, .regions, .funcs, .vectors, .instances, .cmdOrder, .sources, .mirror, .views, .outputs] ps = true)  : OnlyChanges ps s0_ (State.revokeRegion v k s) := by
  unfold State.revokeRegion
  try dsimp only
  repeat' (first | with_reducible assumption | (with_reducible first | (apply State.outOfRange_only) | (apply State.endWith_only) | (apply State.setRegion_only)) | (exact within_trans rfl hW) | split | (with_reducible intro _) )

theorem State.ringDoorbell_only (i : Nat) (q : Nat) (f : Qp → Qp) (post : State → State) (flush : State → State) (s : State) {ps : List Part} {s0_ : State} (hO : OnlyChanges ps s0_ s) (hW : within [.groups, .lanes, .ports, .scans, .tracker, .qps, .regions, .funcs, .vectors, .instances, .masterWait, .sources, .mirror, .views, .outputs, .free] ps = true) (h_post : ∀ s_, OnlyChanges ps s0_ s_ → OnlyChanges ps s0_ (post s_)) (h_flush : ∀ s_, OnlyChanges ps s0_ s_ → OnlyChanges ps s0_ (flush s_)) : OnlyChanges ps s0_ (State.ringDoorbell i q f post flush s) := by
  unfold State.ringDoorbell
  try dsimp only
  repeat' (first | with_reducible assumption | (with_reducible first | (apply State.pageDiscard_only) | (apply State.raise_only) | (apply State.bump_only) | (apply State.setQp_only) | (apply State.needContext_only) | (apply h_post) | (apply h_flush)) | (exact within_trans rfl hW) | split | (with_reducible intro _) )

theorem State.setCounter_only (v : Nat) (k : Nat) (s : State) {ps : List Part} {s0_ : State} (hO : OnlyChanges ps s0_ s) (hW : within [.groups, .lanes, .ports, .scans, .qps, .cqs, .regions, .funcs, .vectors, .instances, .cmdOrder, .sources, .mirror, .views, .outputs, .free] ps = true)  : OnlyChanges ps s0_ (State.setCounter v k s) := by
  unfold State.setCounter
  try dsimp only
  repeat' (first | with_reducible assumption | (with_reducible first | (apply State.outOfRange_only) | (apply State.endWith_only) | (apply State.testTriggers_only) | (apply State.setQp_only)) | (exact within_trans rfl hW) | split | (with_reducible intro _) )

theorem State.runCommand_only (v : Nat) (k : Nat) (s : State) {ps : List Part} {s0_ : State} (hO : OnlyChanges ps s0_ s) (hW : within [.groups, .lanes, .ports, .scans, .qps, .cqs, .regions, .funcs, .vectors, .instances, .cmdOrder, .sources, .mirror, .views, .outputs, .free] ps = true)  : OnlyChanges ps s0_ (State.runCommand v k s) := by
  unfold State.runCommand
  try dsimp only
  repeat' (first | with_reducible assumption | (with_reducible first | (apply State.endWith_only) | (apply State.attach_only) | (apply State.detach_only) | (apply State.createCq_only) | (apply State.destroyCq_only) | (apply State.createQp_only) | (apply State.modifyQp_only) | (apply State.destroyQp_only) | (apply State.registerRegion_only) | (apply State.revokeRegion_only) | (apply State.setCounter_only)) | (exact within_trans rfl hW) | split | (with_reducible intro _) )

theorem State.startHead_only (q : Nat) (owner : Nat) (trig : Bool) (w : Wr) (readOk : Bool) (s : State) {ps : List Part} {s0_ : State} (hO : OnlyChanges ps s0_ s) (hW : within [.groups, .lanes, .ports, .scans, .tracker, .qps, .cqs, .regions, .funcs, .vectors, .instances, .masterWait, .sources, .mirror, .views, .outputs, .free] ps = true)  : OnlyChanges ps s0_ (State.startHead q owner trig w readOk s) := by
  unfold State.startHead
  try dsimp only
  repeat' (first | with_reducible assumption | (with_reducible first | (apply State.raise_only) | (apply State.failHead_only) | (apply State.fetchKey_only) | (apply State.countForeign_only) | (apply State.setQp_only) | (apply State.bump_only)) | (exact within_trans rfl hW) | split | (with_reducible intro _) )

theorem State.runHead_only (q : Nat) (op : Nat) (data : List Nat) (readOk : Bool) (s0 : State) {ps : List Part} {s0_ : State} (hO : OnlyChanges ps s0_ s0) (hW : within [.groups, .lanes, .ports, .scans, .tracker, .qps, .cqs, .regions, .funcs, .vectors, .instances, .masterWait, .sources, .mirror, .views, .outputs, .free] ps = true)  : OnlyChanges ps s0_ (State.runHead q op data readOk s0) := by
  unfold State.runHead
  try dsimp only
  repeat' (first | with_reducible assumption | (with_reducible first | (apply State.gainCredit_only) | (apply State.pump_only) | (apply State.retireAll_only) | (apply State.startHead_only) | (apply State.needContext_only)) | (exact within_trans rfl hW) | split | (with_reducible intro _) )

theorem State.setFeed_only (k : Nat) (f : Feed → Feed) (s : State) {ps : List Part} {s0_ : State} (hO : OnlyChanges ps s0_ s) (hW : within [.sup] ps = true)  : OnlyChanges ps s0_ (State.setFeed k f s) := by
  unfold State.setFeed
  try dsimp only
  repeat' (first | with_reducible assumption | (exact within_trans rfl hW) | split | (with_reducible first | (apply State.sup_update)) | ((with_reducible refine OnlyChanges.update ?_ ?_); (on_goal 2 => ((with_reducible intro p hp); (fail_if_success (with_reducible exact Part.same_refl _ _)); cases p <;> first | exact (OnlyChanges.mem hW hp rfl).elim | exact rfl | (and_intros <;> exact rfl)))) | (with_reducible intro _) )

theorem State.setIdleImage_only (f : Image → Image) (s : State) {ps : List Part} {s0_ : State} (hO : OnlyChanges ps s0_ s) (hW : within [.start] ps = true)  : OnlyChanges ps s0_ (State.setIdleImage f s) := by
  unfold State.setIdleImage
  try dsimp only
  repeat' (first | with_reducible assumption | (with_reducible first | (apply State.setStartUnit_only)) | (exact within_trans rfl hW) | split | (with_reducible intro _) )

theorem State.signalPme_only (v : Nat) (s : State) {ps : List Part} {s0_ : State} (hO : OnlyChanges ps s0_ s) (hW : within [.groups, .funcs, .outputs] ps = true)  : OnlyChanges ps s0_ (State.signalPme v s) := by
  unfold State.signalPme
  try dsimp only
  repeat' (first | with_reducible assumption | (with_reducible first | (apply State.setFunc_only) | (apply State.setGroup_only) | (apply State.emit_only)) | (exact within_trans rfl hW) | split | (with_reducible intro _) )

theorem State.slotControl_only (v : Nat) (b : Nat) (p : Nat) (powerOff : Bool) (attn : Fin 4) (pwr : Fin 4) (s : State) {ps : List Part} {s0_ : State} (hO : OnlyChanges ps s0_ s) (hW : within [.groups, .lanes, .ports, .scans, .bridges, .slots, .irqPending, .sources, .free] ps = true)  : OnlyChanges ps s0_ (State.slotControl v b p powerOff attn pwr s) := by
  unfold State.slotControl
  try dsimp only
  repeat' (first | with_reducible assumption | (with_reducible first | (apply State.setBridge_only) | (apply State.setSlot_only) | (apply State.setPwren_only) | (apply State.setGroup_only) | (apply State.refreshOutputs_only)) | (exact within_trans rfl hW) | split | (with_reducible intro _) )

theorem State.sproutSeen_only (s : State) {ps : List Part} {s0_ : State} (hO : OnlyChanges ps s0_ s) (hW : within [.irqUnit] ps = true)  : OnlyChanges ps s0_ (State.sproutSeen s) := by
  unfold State.sproutSeen
  try dsimp only
  repeat' (first | with_reducible assumption | (exact within_trans rfl hW) | split | (with_reducible first | (apply State.irqUnit_update)) | ((with_reducible refine OnlyChanges.update ?_ ?_); (on_goal 2 => ((with_reducible intro p hp); (fail_if_success (with_reducible exact Part.same_refl _ _)); cases p <;> first | exact (OnlyChanges.mem hW hp rfl).elim | exact rfl | (and_intros <;> exact rfl)))) | (with_reducible intro _) )

theorem State.stallCheck_only (p : Nat) (s : State) {ps : List Part} {s0_ : State} (hO : OnlyChanges ps s0_ s) (hW : within [.trunks, .views] ps = true)  : OnlyChanges ps s0_ (State.stallCheck p s) := by
  unfold State.stallCheck
  try dsimp only
  repeat' (first | with_reducible assumption | (with_reducible first | (apply State.setTrunk_only) | (apply State.bump_only)) | (exact within_trans rfl hW) | split | (with_reducible intro _) )

theorem State.stallTerminate_only (f : Frame) (s : State) {ps : List Part} {s0_ : State} (hO : OnlyChanges ps s0_ s) (hW : within [.ports, .frames, .matcher, .trunks, .sources, .views, .outputs] ps = true)  : OnlyChanges ps s0_ (State.stallTerminate f s) := by
  unfold State.stallTerminate
  try dsimp only
  repeat' (first | with_reducible assumption | (with_reducible first | (apply State.setFrame_only) | (apply State.raise_only) | (apply State.bump_only) | (apply State.terminate_only) | (apply State.setPort_only)) | (exact within_trans rfl hW) | split | (with_reducible intro _) )

theorem State.stallStep_only (now : Nat) (p : Nat) (s : State) {ps : List Part} {s0_ : State} (hO : OnlyChanges ps s0_ s) (hW : within [.ports, .frames, .matcher, .trunks, .sources, .views, .outputs] ps = true)  : OnlyChanges ps s0_ (State.stallStep now p s) := by
  unfold State.stallStep
  try dsimp only
  repeat' (first | with_reducible assumption | (with_reducible first | (apply State.setPort_only) | (apply State.stallTerminate_only)) | (exact within_trans rfl hW) | split | (with_reducible intro _) )

theorem State.submit_only (v : Nat) (k : Nat) (words : List Nat) (s : State) {ps : List Part} {s0_ : State} (hO : OnlyChanges ps s0_ s) (hW : within [.groups, .lanes, .ports, .scans, .qps, .cqs, .regions, .funcs, .vectors, .instances, .cmdOrder, .irqPending, .sources, .mirror, .views, .outputs, .free] ps = true)  : OnlyChanges ps s0_ (State.submit v k words s) := by
  unfold State.submit
  try dsimp only
  repeat' (first | with_reducible assumption | (with_reducible first | (apply State.raise_only) | (apply State.interrupt_only) | (apply State.setCmd_only) | (apply State.endWith_only) | (apply State.runCommand_only)) | (exact within_trans rfl hW) | split | (with_reducible first | (apply State.cmdOrder_update)) | ((with_reducible refine OnlyChanges.update ?_ ?_); (on_goal 2 => ((with_reducible intro p hp); (fail_if_success (with_reducible exact Part.same_refl _ _)); cases p <;> first | exact (OnlyChanges.mem hW hp rfl).elim | exact rfl | (and_intros <;> exact rfl)))) | (with_reducible intro _) )

theorem State.supervisorSafe_only (s : State) {ps : List Part} {s0_ : State} (hO : OnlyChanges ps s0_ s) (hW : within [.inflight, .board, .sup, .start, .lanes, .frames, .matcher, .tracker, .sources, .safeState, .collector, .outputs] ps = true)  : OnlyChanges ps s0_ (State.supervisorSafe s) := by
  unfold State.supervisorSafe
  try dsimp only
  repeat' (first | with_reducible assumption | (with_reducible first | (apply State.ifDo_only) | (apply State.enterSafe_only)) | (exact within_trans rfl hW) | split | (with_reducible intro _) )

theorem State.sweepDone_only (r : Nat) (v : Nat) (s : State) {ps : List Part} {s0_ : State} (hO : OnlyChanges ps s0_ s) (hW : within [.groups, .lanes, .ports, .scans, .tracker, .trunks, .ledger, .homeSlots, .departed, .funcs, .masterWait, .sources, .mirror, .views, .outputs] ps = true)  : OnlyChanges ps s0_ (State.sweepDone r v s) := by
  unfold State.sweepDone
  try dsimp only
  repeat' (first | with_reducible assumption | (with_reducible first | (apply State.retryAllocs_only)) | (exact within_trans rfl hW) | split | (with_reducible first | (apply State.ledger_update) | (apply State.departed_update)) | ((with_reducible refine OnlyChanges.update ?_ ?_); (on_goal 2 => ((with_reducible intro p hp); (fail_if_success (with_reducible exact Part.same_refl _ _)); cases p <;> first | exact (OnlyChanges.mem hW hp rfl).elim | exact rfl | (and_intros <;> exact rfl)))) | (with_reducible intro _) )

theorem State.tellPartner_only (p : Nat) (code : Nat) (arg : Nat) (s : State) {ps : List Part} {s0_ : State} (hO : OnlyChanges ps s0_ s) (hW : within [.outputs] ps = true)  : OnlyChanges ps s0_ (State.tellPartner p code arg s) := by
  unfold State.tellPartner
  try dsimp only
  repeat' (first | with_reducible assumption | (with_reducible first | (apply State.emit_only)) | (exact within_trans rfl hW) | split | (with_reducible intro _) )

theorem State.trip_only (cause : Nat) (src : Nat) (s : State) {ps : List Part} {s0_ : State} (hO : OnlyChanges ps s0_ s) (hW : within [.inflight, .board, .sup, .start, .lanes, .frames, .matcher, .tracker, .sources, .safeState, .collector, .outputs] ps = true)  : OnlyChanges ps s0_ (State.trip cause src s) := by
  unfold State.trip
  try dsimp only
  repeat' (first | with_reducible assumption | (with_reducible first | (apply State.setSup_only) | (apply State.supervisorSafe_only)) | (exact within_trans rfl hW) | split | (with_reducible intro _) )

theorem State.tripEnd_only (s : State) {ps : List Part} {s0_ : State} (hO : OnlyChanges ps s0_ s) (hW : within [.beat, .epochs, .inflight, .commit, .tables, .groups, .board, .sup, .start, .lanes, .ports, .scans, .frames, .units, .matcher, .paths, .hiers, .bridges, .slots, .tracker, .channels, .pwf, .trunks, .devices, .extents, .poolLines, .poolEvents, .ledger, .homeSlots, .departed, .qps, .cqs, .regions, .clusters, .funcs, .vectors, .instances, .cmdOrder, .contained, .masterWait, .irqPending, .irqUnit, .sprout, .sources, .safeState, .collector, .pairing, .mirror, .sessions, .segments, .settings, .settingsNext, .settingsStart, .views] ps = true)  : OnlyChanges ps s0_ (State.tripEnd s) := by
  unfold State.tripEnd
  try dsimp only
  repeat' (first | with_reducible assumption | (with_reducible first | (apply State.setSup_only) | (apply State.gateOff_only)) | (exact within_trans rfl hW) | split | (with_reducible intro _) )

theorem State.trunkUp_only (p : Nat) (now : Nat) (s : State) {ps : List Part} {s0_ : State} (hO : OnlyChanges ps s0_ s) (hW : within [.inflight, .lanes, .ports, .scans, .frames, .matcher, .tracker, .trunks, .sources, .mirror, .views, .outputs] ps = true)  : OnlyChanges ps s0_ (State.trunkUp p now s) := by
  unfold State.trunkUp
  try dsimp only
  repeat' (first | with_reducible assumption | (with_reducible first | (apply State.sendFlit_only) | (apply State.setTrunk_only) | (apply State.replay_only)) | (exact within_trans rfl hW) | split | (with_reducible first | (apply State.mirror_update)) | ((with_reducible refine OnlyChanges.update ?_ ?_); (on_goal 2 => ((with_reducible intro p hp); (fail_if_success (with_reducible exact Part.same_refl _ _)); cases p <;> first | exact (OnlyChanges.mem hW hp rfl).elim | exact rfl | (and_intros <;> exact rfl)))) | (with_reducible intro _) )

theorem State.trunkWords_only (p : Nat) (now : Nat) (c : Control) (ws : List Nat) (s : State) {ps : List Part} {s0_ : State} (hO : OnlyChanges ps s0_ s) (hW : within [.inflight, .groups, .lanes, .ports, .scans, .frames, .matcher, .paths, .hiers, .bridges, .tracker, .pwf, .trunks, .funcs, .vectors, .instances, .irqPending, .sources, .mirror, .views, .outputs] ps = true)  : OnlyChanges ps s0_ (State.trunkWords p now c ws s) := by
  unfold State.trunkWords
  try dsimp only
  repeat' (first | with_reducible assumption | (with_reducible first | (apply State.each_only) | (apply State.flitWord_only) | (apply State.controlWord_only) | (apply State.abortIn_only)) | (exact within_trans rfl hW) | split | (with_reducible intro _) )

theorem State.watchdogExpire_only (s : State) {ps : List Part} {s0_ : State} (hO : OnlyChanges ps s0_ s) (hW : within [.beat, .epochs, .inflight, .commit, .tables, .groups, .board, .sup, .start, .lanes, .ports, .scans, .frames, .units, .matcher, .paths, .hiers, .bridges, .slots, .tracker, .channels, .pwf, .trunks, .devices, .extents, .poolLines, .poolEvents, .ledger, .homeSlots, .departed, .qps, .cqs, .regions, .clusters, .funcs, .vectors, .instances, .cmdOrder, .contained, .masterWait, .irqPending, .irqUnit, .sprout, .sources, .safeState, .collector, .pairing, .mirror, .sessions, .segments, .settings, .settingsNext, .settingsStart, .views] ps = true)  : OnlyChanges ps s0_ (State.watchdogExpire s) := by
  unfold State.watchdogExpire
  try dsimp only
  repeat' (first | with_reducible assumption | (with_reducible first | (apply State.setStartUnit_only) | (apply State.warmStart_only) | (apply State.raise_only)) | (exact within_trans rfl hW) | split | (with_reducible intro _) )

theorem State.writeFreed_only (r : Nat) (p : Nat) (l : Nat) (s : State) {ps : List Part} {s0_ : State} (hO : OnlyChanges ps s0_ s) (hW : within [.tracker] ps = true)  : OnlyChanges ps s0_ (State.writeFreed r p l s) := by
  unfold State.writeFreed
  try dsimp only
  repeat' (first | with_reducible assumption | (with_reducible first | (apply State.masterDone_only)) | (exact within_trans rfl hW) | split | (with_reducible intro _) )

theorem State.writeDone_only (r : Nat) (p : Nat) (l : Nat) (s : State) {ps : List Part} {s0_ : State} (hO : OnlyChanges ps s0_ s) (hW : within [.groups, .lanes, .ports, .scans, .tracker, .trunks, .ledger, .homeSlots, .funcs, .masterWait, .sources, .mirror, .views, .outputs] ps = true)  : OnlyChanges ps s0_ (State.writeDone r p l s) := by
  unfold State.writeDone
  try dsimp only
  repeat' (first | with_reducible assumption | (with_reducible first | (apply State.stray_only) | (apply State.writeFreed_only) | (apply State.each_only) | (apply State.tell_only) | (apply State.setSlot12_only) | (apply State.actHeld_only) | (apply State.servePurpose_only) | (apply State.endSlot_only) | (apply State.lineTo_only)) | (exact within_trans rfl hW) | split | (with_reducible intro _) )

theorem State.writeItem_only (x : Session) (cycle : Fin 256) (i : AdpItem) (s : State) {ps : List Part} {s0_ : State} (hO : OnlyChanges ps s0_ s) (hW : within [.beat, .epochs, .inflight, .commit, .tables, .groups, .board, .sup, .start, .lanes, .ports, .scans, .frames, .units, .matcher, .paths, .hiers, .bridges, .slots, .tracker, .channels, .pwf, .trunks, .devices, .extents, .poolLines, .poolEvents, .ledger, .homeSlots, .departed, .qps, .cqs, .regions, .clusters, .funcs, .vectors, .instances, .cmdOrder, .contained, .masterWait, .irqPending, .irqUnit, .sprout, .sources, .safeState, .collector, .pairing, .mirror, .sessions, .segments, .anchors, .settings, .settingsNext, .settingsStart, .views, .outputs, .free] ps = true)  : OnlyChanges ps s0_ (State.writeItem x cycle i s) := by
  unfold State.writeItem
  try dsimp only
  repeat' (first | with_reducible assumption | (with_reducible first | (apply State.setSession_only) | (apply State.writeEntry_only)) | (exact within_trans rfl hW) | split | (with_reducible intro _) )

theorem checked_only (wf : Bool) (c : Bool) (f : State → State) (s : State) {ps : List Part} {s0_ : State} (hO : OnlyChanges ps s0_ s) (hW : within [] ps = true) (h_f : ∀ s_, OnlyChanges ps s0_ s_ → OnlyChanges ps s0_ (f s_)) : ∀ t_, (checked wf c f s) = .next t_ → OnlyChanges ps s0_ t_ := by
  unfold checked
  try dsimp only
  repeat' (first | with_reducible assumption | (with_reducible rintro _ ⟨⟩) | (with_reducible first | (refine guarded_only _ _ _ ?_ ?_ ?_) | (apply h_f)) | (exact within_trans rfl hW) | split | (with_reducible intro _) )

theorem cohRequest_only (r : Nat) (p : Nat) (l : Nat) (q : Request) (f : State → State) (s : State) {ps : List Part} {s0_ : State} (hO : OnlyChanges ps s0_ s) (hW : within [.groups, .lanes, .ports, .scans, .hiers, .bridges, .sources, .views, .outputs] ps = true) (h_f : ∀ s_, OnlyChanges ps s0_ s_ → OnlyChanges ps s0_ (f s_)) : ∀ t_, (cohRequest r p l q f s) = .next t_ → OnlyChanges ps s0_ t_ := by
  unfold cohRequest
  try dsimp only
  repeat' (first | with_reducible assumption | (with_reducible rintro _ ⟨⟩) | (with_reducible first | (refine guarded_only _ _ _ ?_ ?_ ?_) | (apply State.cohRefused_only) | (apply h_f)) | (exact within_trans rfl hW) | split | (with_reducible intro _) )

theorem cohRead_only (op : CxlOp) (v : Fin 64) (r : Fin 256) (p : BitVec 34) (l : Fin 64) (tag : BitVec 16) (unlisted : Bool) (s : State) {ps : List Part} {s0_ : State} (hO : OnlyChanges ps s0_ s) (hW : within [.groups, .lanes, .ports, .scans, .hiers, .bridges, .tracker, .trunks, .ledger, .homeSlots, .funcs, .masterWait, .sources, .mirror, .views, .outputs] ps = true)  : ∀ t_, (cohRead op v r p l tag unlisted s) = .next t_ → OnlyChanges ps s0_ t_ := by
  unfold cohRead
  try dsimp only
  repeat' (first | with_reducible assumption | (with_reducible rintro _ ⟨⟩) | (with_reducible first | (refine cohRequest_only _ _ _ _ _ _ ?_ ?_ ?_) | (apply State.portStop_only)) | (exact within_trans rfl hW) | split | (with_reducible intro _) )

theorem cohWrite_only (op : CxlOp) (v : Fin 64) (r : Fin 256) (p : BitVec 34) (l : Fin 64) (data : Nat) (mask : Nat) (toShared : Bool) (unlisted : Bool) (s : State) {ps : List Part} {s0_ : State} (hO : OnlyChanges ps s0_ s) (hW : within [.groups, .lanes, .ports, .scans, .hiers, .bridges, .tracker, .trunks, .ledger, .homeSlots, .funcs, .masterWait, .sources, .mirror, .views, .outputs] ps = true)  : ∀ t_, (cohWrite op v r p l data mask toShared unlisted s) = .next t_ → OnlyChanges ps s0_ t_ := by
  unfold cohWrite
  try dsimp only
  repeat' (first | with_reducible assumption | (with_reducible rintro _ ⟨⟩) | (with_reducible first | (refine cohRequest_only _ _ _ _ _ _ ?_ ?_ ?_) | (apply State.arrive_only)) | (exact within_trans rfl hW) | split | (with_reducible intro _) )

theorem execBeatBoundary_only (s : State) {ps : List Part} {s0_ : State} (hO : OnlyChanges ps s0_ s) (hW : within [.beat, .epochs, .inflight, .commit, .tables, .groups, .board, .sup, .start, .lanes, .ports, .scans, .frames, .units, .matcher, .paths, .hiers, .bridges, .slots, .tracker, .channels, .pwf, .trunks, .devices, .extents, .poolLines, .poolEvents, .ledger, .homeSlots, .departed, .qps, .cqs, .regions, .clusters, .funcs, .vectors, .instances, .cmdOrder, .contained, .masterWait, .irqPending, .irqUnit, .sprout, .sources, .safeState, .collector, .pairing, .mirror, .sessions, .segments, .settings, .settingsNext, .settingsStart, .views, .outputs, .free] ps = true)  : ∀ t_, (execBeatBoundary s) = .next t_ → OnlyChanges ps s0_ t_ := by
  unfold execBeatBoundary
  try dsimp only
  repeat' (first | with_reducible assumption | (with_reducible rintro _ ⟨⟩) | (with_reducible first | (refine guarded_only _ _ _ ?_ ?_ ?_) | (apply State.boundary_only)) | (exact within_trans rfl hW) | split | (with_reducible intro _) )

theorem execEpochRelease_only (tag : Fin 4) (s : State) {ps : List Part} {s0_ : State} (hO : OnlyChanges ps s0_ s) (hW : within [.epochs] ps = true)  : ∀ t_, (execEpochRelease tag s) = .next t_ → OnlyChanges ps s0_ t_ := by
  unfold execEpochRelease
  try dsimp only
  repeat' (first | with_reducible assumption | (with_reducible rintro _ ⟨⟩) | (with_reducible first | (refine guarded_only _ _ _ ?_ ?_ ?_)) | (exact within_trans rfl hW) | split | (with_reducible first | (apply State.epochs_update)) | ((with_reducible refine OnlyChanges.update ?_ ?_); (on_goal 2 => ((with_reducible intro p hp); (fail_if_success (with_reducible exact Part.same_refl _ _)); cases p <;> first | exact (OnlyChanges.mem hW hp rfl).elim | exact rfl | (and_intros <;> exact rfl)))) | (with_reducible intro _) )

theorem execCommitDue_only (s : State) {ps : List Part} {s0_ : State} (hO : OnlyChanges ps s0_ s) (hW : within [.epochs, .inflight, .commit, .tables, .groups, .start, .lanes, .ports, .scans, .frames, .matcher, .paths, .hiers, .bridges, .slots, .tracker, .channels, .pwf, .trunks, .devices, .extents, .poolLines, .poolEvents, .ledger, .homeSlots, .departed, .qps, .cqs, .regions, .funcs, .vectors, .instances, .cmdOrder, .masterWait, .irqPending, .sources, .mirror, .sessions, .views, .outputs, .free] ps = true)  : ∀ t_, (execCommitDue s) = .next t_ → OnlyChanges ps s0_ t_ := by
  unfold execCommitDue
  try dsimp only
  repeat' (first | with_reducible assumption | (with_reducible rintro _ ⟨⟩) | (with_reducible first | (refine guarded_only _ _ _ ?_ ?_ ?_) | (apply State.tryCommit_only)) | (exact within_trans rfl hW) | split | (with_reducible intro _) )

theorem execDeferredCommitApplied_only (s : State) {ps : List Part} {s0_ : State} (hO : OnlyChanges ps s0_ s) (hW : within [.epochs, .inflight, .commit, .tables, .groups, .start, .lanes, .ports, .scans, .frames, .matcher, .paths, .hiers, .bridges, .slots, .tracker, .channels, .pwf, .trunks, .devices, .extents, .poolLines, .poolEvents, .ledger, .homeSlots, .departed, .qps, .cqs, .regions, .funcs, .vectors, .instances, .cmdOrder, .masterWait, .irqPending, .sources, .mirror, .sessions, .views, .outputs, .free] ps = true)  : ∀ t_, (execDeferredCommitApplied s) = .next t_ → OnlyChanges ps s0_ t_ := by
  unfold execDeferredCommitApplied
  try dsimp only
  repeat' (first | with_reducible assumption | (with_reducible rintro _ ⟨⟩) | (with_reducible first | (refine guarded_only _ _ _ ?_ ?_ ?_) | (apply State.tryCommit_only)) | (exact within_trans rfl hW) | split | (with_reducible intro _) )

theorem execDrainOverrun_only (s : State) {ps : List Part} {s0_ : State} (hO : OnlyChanges ps s0_ s) (hW : within [.epochs, .sources] ps = true)  : ∀ t_, (execDrainOverrun s) = .next t_ → OnlyChanges ps s0_ t_ := by
  unfold execDrainOverrun
  try dsimp only
  repeat' (first | with_reducible assumption | (with_reducible rintro _ ⟨⟩) | (with_reducible first | (refine guarded_only _ _ _ ?_ ?_ ?_) | (apply State.drainCheck_only)) | (exact within_trans rfl hW) | split | (with_reducible intro _) )

theorem execSidebandLevelAccepted_only (n : Fin 40) (signal : Sideband) (high : Bool) (s : State) {ps : List Part} {s0_ : State} (hO : OnlyChanges ps s0_ s) (hW : within [.beat, .epochs, .inflight, .commit, .tables, .groups, .board, .sup, .start, .lanes, .ports, .scans, .frames, .units, .matcher, .paths, .hiers, .bridges, .slots, .tracker, .channels, .pwf, .trunks, .devices, .extents, .poolLines, .poolEvents, .ledger, .homeSlots, .departed, .qps, .cqs, .regions, .clusters, .funcs, .vectors, .instances, .cmdOrder, .contained, .masterWait, .irqPending, .irqUnit, .sprout, .sources, .safeState, .collector, .pairing, .mirror, .sessions, .segments, .settings, .settingsNext, .settingsStart, .views, .outputs, .free] ps = true)  : ∀ t_, (execSidebandLevelAccepted n signal high s) = .next t_ → OnlyChanges ps s0_ t_ := by
  unfold execSidebandLevelAccepted
  try dsimp only
  repeat' (first | with_reducible assumption | (with_reducible rintro _ ⟨⟩) | (with_reducible first | (refine guarded_only _ _ _ ?_ ?_ ?_) | (apply State.setGroup_only) | (apply State.hostRelease_only) | (apply State.hostReset_only) | (apply State.each_only) | (apply State.portDown_only) | (apply State.startPort_only) | (apply State.wakeFrom_only) | (apply State.useLink_only) | (apply State.raise_only) | (apply State.warmStart_only)) | (exact within_trans rfl hW) | split | (with_reducible first | (apply State.board_update)) | ((with_reducible refine OnlyChanges.update ?_ ?_); (on_goal 2 => ((with_reducible intro p hp); (fail_if_success (with_reducible exact Part.same_refl _ _)); cases p <;> first | exact (OnlyChanges.mem hW hp rfl).elim | exact rfl | (and_intros <;> exact rfl)))) | (with_reducible intro _) )

theorem execPerstContentionCheck_only (n : Fin 40) (high : Bool) (s : State) {ps : List Part} {s0_ : State} (hO : OnlyChanges ps s0_ s) (hW : within [.groups, .ports, .sources] ps = true)  : ∀ t_, (execPerstContentionCheck n high s) = .next t_ → OnlyChanges ps s0_ t_ := by
  unfold execPerstContentionCheck
  try dsimp only
  repeat' (first | with_reducible assumption | (with_reducible rintro _ ⟨⟩) | (with_reducible first | (refine guarded_only _ _ _ ?_ ?_ ?_) | (apply State.contentionPorts_only) | (apply State.raise_only) | (apply State.setGroup_only)) | (exact within_trans rfl hW) | split | (with_reducible intro _) )

theorem execI2cPollSlot_only (n : Fin 40) (sdaLow : Bool) (s : State) {ps : List Part} {s0_ : State} (hO : OnlyChanges ps s0_ s) (hW : within [.groups, .slots, .sources, .outputs] ps = true)  : ∀ t_, (execI2cPollSlot n sdaLow s) = .next t_ → OnlyChanges ps s0_ t_ := by
  unfold execI2cPollSlot
  try dsimp only
  repeat' (first | with_reducible assumption | (with_reducible rintro _ ⟨⟩) | (with_reducible first | (refine guarded_only _ _ _ ?_ ?_ ?_) | (apply State.setGroup_only) | (apply State.each_only) | (apply State.setSlot_only) | (apply State.i2cFailed_only) | (apply State.emit_only)) | (exact within_trans rfl hW) | split | (with_reducible intro _) )

theorem execI2cPollDone_only (n : Fin 40) (inputs : BitVec 16) (s : State) {ps : List Part} {s0_ : State} (hO : OnlyChanges ps s0_ s) (hW : within [.groups, .slots, .irqPending] ps = true)  : ∀ t_, (execI2cPollDone n inputs s) = .next t_ → OnlyChanges ps s0_ t_ := by
  unfold execI2cPollDone
  try dsimp only
  repeat' (first | with_reducible assumption | (with_reducible rintro _ ⟨⟩) | (with_reducible first | (refine guarded_only _ _ _ ?_ ?_ ?_) | (apply State.setGroup_only) | (apply State.each_only) | (apply State.setSlot_only) | (apply State.interrupt_only)) | (exact within_trans rfl hW) | split | (with_reducible intro _) )

theorem execI2cWriteAcked_only (n : Fin 40) (s : State) {ps : List Part} {s0_ : State} (hO : OnlyChanges ps s0_ s) (hW : within [.groups, .lanes, .ports, .scans, .hiers, .bridges, .slots, .mirror, .outputs] ps = true)  : ∀ t_, (execI2cWriteAcked n s) = .next t_ → OnlyChanges ps s0_ t_ := by
  unfold execI2cWriteAcked
  try dsimp only
  repeat' (first | with_reducible assumption | (with_reducible rintro _ ⟨⟩) | (with_reducible first | (refine guarded_only _ _ _ ?_ ?_ ?_) | (apply State.setGroup_only) | (apply State.each_only) | (apply State.pwrenDriven_only) | (apply State.hotplug_only) | (apply State.setBridge_only) | (apply State.setSlot_only) | (apply State.startPort_only)) | (exact within_trans rfl hW) | split | (with_reducible intro _) )

theorem execI2cTransactionFailed_only (n : Fin 40) (s : State) {ps : List Part} {s0_ : State} (hO : OnlyChanges ps s0_ s) (hW : within [.groups, .slots, .sources, .outputs] ps = true)  : ∀ t_, (execI2cTransactionFailed n s) = .next t_ → OnlyChanges ps s0_ t_ := by
  unfold execI2cTransactionFailed
  try dsimp only
  repeat' (first | with_reducible assumption | (with_reducible rintro _ ⟨⟩) | (with_reducible first | (refine guarded_only _ _ _ ?_ ?_ ?_) | (apply State.i2cFailed_only)) | (exact within_trans rfl hW) | split | (with_reducible intro _) )

theorem execTwinAlertInAsserted_only (low : Bool) (s : State) {ps : List Part} {s0_ : State} (hO : OnlyChanges ps s0_ s) (hW : within [.groups, .board, .lanes, .ports, .scans, .funcs, .vectors, .instances, .sources, .pairing, .mirror, .sessions, .views, .outputs] ps = true)  : ∀ t_, (execTwinAlertInAsserted low s) = .next t_ → OnlyChanges ps s0_ t_ := by
  unfold execTwinAlertInAsserted
  try dsimp only
  repeat' (first | with_reducible assumption | (with_reducible rintro _ ⟨⟩) | (with_reducible first | (refine guarded_only _ _ _ ?_ ?_ ?_) | (apply State.enterFence_only)) | (exact within_trans rfl hW) | split | (with_reducible first | (apply State.board_update) | (apply State.pairing_update)) | ((with_reducible refine OnlyChanges.update ?_ ?_); (on_goal 2 => ((with_reducible intro p hp); (fail_if_success (with_reducible exact Part.same_refl _ _)); cases p <;> first | exact (OnlyChanges.mem hW hp rfl).elim | exact rfl | (and_intros <;> exact rfl)))) | (with_reducible intro _) )

theorem execModrstN_only (edge : ModrstEdge) (taken : Bool) (s : State) {ps : List Part} {s0_ : State} (hO : OnlyChanges ps s0_ s) (hW : within [.beat, .epochs, .inflight, .commit, .tables, .groups, .board, .sup, .start, .lanes, .ports, .scans, .frames, .units, .matcher, .paths, .hiers, .bridges, .slots, .tracker, .channels, .pwf, .trunks, .devices, .extents, .poolLines, .poolEvents, .ledger, .homeSlots, .departed, .qps, .cqs, .regions, .clusters, .funcs, .vectors, .instances, .cmdOrder, .contained, .masterWait, .irqPending, .irqUnit, .sprout, .sources, .safeState, .collector, .pairing, .mirror, .sessions, .segments, .settings, .settingsNext, .settingsStart, .views] ps = true)  : ∀ t_, (execModrstN edge taken s) = .next t_ → OnlyChanges ps s0_ t_ := by
  unfold execModrstN
  try dsimp only
  repeat' (first | with_reducible assumption | (with_reducible rintro _ ⟨⟩) | (with_reducible first | (refine guarded_only _ _ _ ?_ ?_ ?_) | (apply State.coldStart_only)) | (exact within_trans rfl hW) | split | (with_reducible first | (apply State.board_update)) | ((with_reducible refine OnlyChanges.update ?_ ?_); (on_goal 2 => ((with_reducible intro p hp); (fail_if_success (with_reducible exact Part.same_refl _ _)); cases p <;> first | exact (OnlyChanges.mem hW hp rfl).elim | exact rfl | (and_intros <;> exact rfl)))) | (with_reducible intro _) )

theorem execRefclkLoss_only (s : State) {ps : List Part} {s0_ : State} (hO : OnlyChanges ps s0_ s) (hW : within [.board, .sources] ps = true)  : ∀ t_, (execRefclkLoss s) = .next t_ → OnlyChanges ps s0_ t_ := by
  unfold execRefclkLoss
  try dsimp only
  repeat' (first | with_reducible assumption | (with_reducible rintro _ ⟨⟩) | (with_reducible first | (refine guarded_only _ _ _ ?_ ?_ ?_) | (apply State.raise_only)) | (exact within_trans rfl hW) | split | (with_reducible first | (apply State.board_update)) | ((with_reducible refine OnlyChanges.update ?_ ?_); (on_goal 2 => ((with_reducible intro p hp); (fail_if_success (with_reducible exact Part.same_refl _ _)); cases p <;> first | exact (OnlyChanges.mem hW hp rfl).elim | exact rfl | (and_intros <;> exact rfl)))) | (with_reducible intro _) )

theorem execSensorRead_only (readings : Readings) (s : State) {ps : List Part} {s0_ : State} (hO : OnlyChanges ps s0_ s) (hW : within [.board, .sources] ps = true)  : ∀ t_, (execSensorRead readings s) = .next t_ → OnlyChanges ps s0_ t_ := by
  unfold execSensorRead
  try dsimp only
  repeat' (first | with_reducible assumption | (with_reducible rintro _ ⟨⟩) | (with_reducible first | (refine guarded_only _ _ _ ?_ ?_ ?_) | (apply State.raise_only)) | (exact within_trans rfl hW) | split | (with_reducible first | (apply State.board_update)) | ((with_reducible refine OnlyChanges.update ?_ ?_); (on_goal 2 => ((with_reducible intro p hp); (fail_if_success (with_reducible exact Part.same_refl _ _)); cases p <;> first | exact (OnlyChanges.mem hW hp rfl).elim | exact rfl | (and_intros <;> exact rfl)))) | (with_reducible intro _) )

theorem execThrottleEvaluation_only (s : State) {ps : List Part} {s0_ : State} (hO : OnlyChanges ps s0_ s) (hW : within [.board, .sources] ps = true)  : ∀ t_, (execThrottleEvaluation s) = .next t_ → OnlyChanges ps s0_ t_ := by
  unfold execThrottleEvaluation
  try dsimp only
  repeat' (first | with_reducible assumption | (with_reducible rintro _ ⟨⟩) | (with_reducible first | (refine guarded_only _ _ _ ?_ ?_ ?_) | (apply State.raise_only)) | (exact within_trans rfl hW) | split | (with_reducible first | (apply State.board_update)) | ((with_reducible refine OnlyChanges.update ?_ ?_); (on_goal 2 => ((with_reducible intro p hp); (fail_if_success (with_reducible exact Part.same_refl _ _)); cases p <;> first | exact (OnlyChanges.mem hW hp rfl).elim | exact rfl | (and_intros <;> exact rfl)))) | (with_reducible intro _) )

theorem execFeedPresent_only (k : Fin 2) (s : State) {ps : List Part} {s0_ : State} (hO : OnlyChanges ps s0_ s) (hW : within [.sup] ps = true)  : ∀ t_, (execFeedPresent k s) = .next t_ → OnlyChanges ps s0_ t_ := by
  unfold execFeedPresent
  try dsimp only
  repeat' (first | with_reducible assumption | (with_reducible rintro _ ⟨⟩) | (with_reducible first | (refine guarded_only _ _ _ ?_ ?_ ?_) | (apply State.setSup_only) | (apply State.setFeed_only)) | (exact within_trans rfl hW) | split | (with_reducible intro _) )

theorem execFeedLost_only (k : Fin 2) (s : State) {ps : List Part} {s0_ : State} (hO : OnlyChanges ps s0_ s) (hW : within [.beat, .epochs, .inflight, .commit, .tables, .groups, .board, .sup, .start, .lanes, .ports, .scans, .frames, .units, .matcher, .paths, .hiers, .bridges, .slots, .tracker, .channels, .pwf, .trunks, .devices, .extents, .poolLines, .poolEvents, .ledger, .homeSlots, .departed, .qps, .cqs, .regions, .clusters, .funcs, .vectors, .instances, .cmdOrder, .contained, .masterWait, .irqPending, .irqUnit, .sprout, .sources, .safeState, .collector, .pairing, .mirror, .sessions, .segments, .settings, .settingsNext, .settingsStart, .views, .outputs] ps = true)  : ∀ t_, (execFeedLost k s) = .next t_ → OnlyChanges ps s0_ t_ := by
  unfold execFeedLost
  try dsimp only
  repeat' (first | with_reducible assumption | (with_reducible rintro _ ⟨⟩) | (with_reducible first | (refine guarded_only _ _ _ ?_ ?_ ?_) | (apply State.raise_only) | (apply State.setFeed_only) | (apply State.setSup_only) | (apply State.tripEnd_only) | (apply State.supervisorSafe_only)) | (exact within_trans rfl hW) | split | (with_reducible intro _) )

theorem execReverseCurrentOff_only (k : Fin 2) (s : State) {ps : List Part} {s0_ : State} (hO : OnlyChanges ps s0_ s) (hW : within [.sup] ps = true)  : ∀ t_, (execReverseCurrentOff k s) = .next t_ → OnlyChanges ps s0_ t_ := by
  unfold execReverseCurrentOff
  try dsimp only
  repeat' (first | with_reducible assumption | (with_reducible rintro _ ⟨⟩) | (with_reducible first | (refine guarded_only _ _ _ ?_ ?_ ?_) | (apply State.setFeed_only)) | (exact within_trans rfl hW) | split | (with_reducible intro _) )

theorem execFetConductsAgain_only (k : Fin 2) (s : State) {ps : List Part} {s0_ : State} (hO : OnlyChanges ps s0_ s) (hW : within [.sup] ps = true)  : ∀ t_, (execFetConductsAgain k s) = .next t_ → OnlyChanges ps s0_ t_ := by
  unfold execFetConductsAgain
  try dsimp only
  repeat' (first | with_reducible assumption | (with_reducible rintro _ ⟨⟩) | (with_reducible first | (refine guarded_only _ _ _ ?_ ?_ ?_) | (apply State.setFeed_only)) | (exact within_trans rfl hW) | split | (with_reducible intro _) )

theorem execBusShutdown_only (overVolt : Bool) (s : State) {ps : List Part} {s0_ : State} (hO : OnlyChanges ps s0_ s) (hW : within [.inflight, .board, .sup, .start, .lanes, .frames, .matcher, .tracker, .sources, .safeState, .collector, .outputs] ps = true)  : ∀ t_, (execBusShutdown overVolt s) = .next t_ → OnlyChanges ps s0_ t_ := by
  unfold execBusShutdown
  try dsimp only
  repeat' (first | with_reducible assumption | (with_reducible rintro _ ⟨⟩) | (with_reducible first | (refine guarded_only _ _ _ ?_ ?_ ?_) | (apply State.setSup_only) | (apply State.supervisorSafe_only)) | (exact within_trans rfl hW) | split | (with_reducible intro _) )

theorem execGateTurnOn_only (s : State) {ps : List Part} {s0_ : State} (hO : OnlyChanges ps s0_ s) (hW : within [.sup] ps = true)  : ∀ t_, (execGateTurnOn s) = .next t_ → OnlyChanges ps s0_ t_ := by
  unfold execGateTurnOn
  try dsimp only
  repeat' (first | with_reducible assumption | (with_reducible rintro _ ⟨⟩) | (with_reducible first | (refine guarded_only _ _ _ ?_ ?_ ?_) | (apply State.setSup_only) | (apply State.ramp_only)) | (exact within_trans rfl hW) | split | (with_reducible intro _) )

theorem execGateFullyOn_only (s : State) {ps : List Part} {s0_ : State} (hO : OnlyChanges ps s0_ s) (hW : within [.beat, .epochs, .inflight, .commit, .tables, .groups, .board, .sup, .start, .lanes, .ports, .scans, .frames, .units, .matcher, .paths, .hiers, .bridges, .slots, .tracker, .channels, .pwf, .trunks, .devices, .extents, .poolLines, .poolEvents, .ledger, .homeSlots, .departed, .qps, .cqs, .regions, .clusters, .funcs, .vectors, .instances, .cmdOrder, .contained, .masterWait, .irqPending, .irqUnit, .sprout, .sources, .safeState, .collector, .pairing, .mirror, .sessions, .segments, .settings, .settingsNext, .settingsStart, .views] ps = true)  : ∀ t_, (execGateFullyOn s) = .next t_ → OnlyChanges ps s0_ t_ := by
  unfold execGateFullyOn
  try dsimp only
  repeat' (first | with_reducible assumption | (with_reducible rintro _ ⟨⟩) | (with_reducible first | (refine guarded_only _ _ _ ?_ ?_ ?_) | (apply State.coldStart_only) | (apply State.setSup_only)) | (exact within_trans rfl hW) | split | (with_reducible intro _) )

theorem execInrushTrip_only (s : State) {ps : List Part} {s0_ : State} (hO : OnlyChanges ps s0_ s) (hW : within [.inflight, .board, .sup, .start, .lanes, .frames, .matcher, .tracker, .sources, .safeState, .collector, .outputs] ps = true)  : ∀ t_, (execInrushTrip s) = .next t_ → OnlyChanges ps s0_ t_ := by
  unfold execInrushTrip
  try dsimp only
  repeat' (first | with_reducible assumption | (with_reducible rintro _ ⟨⟩) | (with_reducible first | (refine guarded_only _ _ _ ?_ ?_ ?_) | (apply State.trip_only)) | (exact within_trans rfl hW) | split | (with_reducible intro _) )

theorem execFaultTimerStart_only (s : State) {ps : List Part} {s0_ : State} (hO : OnlyChanges ps s0_ s) (hW : within [.sup] ps = true)  : ∀ t_, (execFaultTimerStart s) = .next t_ → OnlyChanges ps s0_ t_ := by
  unfold execFaultTimerStart
  try dsimp only
  repeat' (first | with_reducible assumption | (with_reducible rintro _ ⟨⟩) | (with_reducible first | (refine guarded_only _ _ _ ?_ ?_ ?_) | (apply State.setSup_only)) | (exact within_trans rfl hW) | split | (with_reducible intro _) )

theorem execFaultTimerIdle_only (s : State) {ps : List Part} {s0_ : State} (hO : OnlyChanges ps s0_ s) (hW : within [.sup] ps = true)  : ∀ t_, (execFaultTimerIdle s) = .next t_ → OnlyChanges ps s0_ t_ := by
  unfold execFaultTimerIdle
  try dsimp only
  repeat' (first | with_reducible assumption | (with_reducible rintro _ ⟨⟩) | (with_reducible first | (refine guarded_only _ _ _ ?_ ?_ ?_) | (apply State.setSup_only)) | (exact within_trans rfl hW) | split | (with_reducible intro _) )

theorem execOvercurrentTrip_only (s : State) {ps : List Part} {s0_ : State} (hO : OnlyChanges ps s0_ s) (hW : within [.inflight, .board, .sup, .start, .lanes, .frames, .matcher, .tracker, .sources, .safeState, .collector, .outputs] ps = true)  : ∀ t_, (execOvercurrentTrip s) = .next t_ → OnlyChanges ps s0_ t_ := by
  unfold execOvercurrentTrip
  try dsimp only
  repeat' (first | with_reducible assumption | (with_reducible rintro _ ⟨⟩) | (with_reducible first | (refine guarded_only _ _ _ ?_ ?_ ?_) | (apply State.trip_only)) | (exact within_trans rfl hW) | split | (with_reducible intro _) )

theorem execHardShortTrip_only (s : State) {ps : List Part} {s0_ : State} (hO : OnlyChanges ps s0_ s) (hW : within [.beat, .epochs, .inflight, .commit, .tables, .groups, .board, .sup, .start, .lanes, .ports, .scans, .frames, .units, .matcher, .paths, .hiers, .bridges, .slots, .tracker, .channels, .pwf, .trunks, .devices, .extents, .poolLines, .poolEvents, .ledger, .homeSlots, .departed, .qps, .cqs, .regions, .clusters, .funcs, .vectors, .instances, .cmdOrder, .contained, .masterWait, .irqPending, .irqUnit, .sprout, .sources, .safeState, .collector, .pairing, .mirror, .sessions, .segments, .settings, .settingsNext, .settingsStart, .views, .outputs] ps = true)  : ∀ t_, (execHardShortTrip s) = .next t_ → OnlyChanges ps s0_ t_ := by
  unfold execHardShortTrip
  try dsimp only
  repeat' (first | with_reducible assumption | (with_reducible rintro _ ⟨⟩) | (with_reducible first | (refine guarded_only _ _ _ ?_ ?_ ?_) | (apply State.tripEnd_only) | (apply State.trip_only)) | (exact within_trans rfl hW) | split | (with_reducible intro _) )

theorem execPgOutRise_only (s : State) {ps : List Part} {s0_ : State} (hO : OnlyChanges ps s0_ s) (hW : within [.sup] ps = true)  : ∀ t_, (execPgOutRise s) = .next t_ → OnlyChanges ps s0_ t_ := by
  unfold execPgOutRise
  try dsimp only
  repeat' (first | with_reducible assumption | (with_reducible rintro _ ⟨⟩) | (with_reducible first | (refine guarded_only _ _ _ ?_ ?_ ?_) | (apply State.setSup_only)) | (exact within_trans rfl hW) | split | (with_reducible intro _) )

theorem execGateOffAfterTrip_only (s : State) {ps : List Part} {s0_ : State} (hO : OnlyChanges ps s0_ s) (hW : within [.beat, .epochs, .inflight, .commit, .tables, .groups, .board, .sup, .start, .lanes, .ports, .scans, .frames, .units, .matcher, .paths, .hiers, .bridges, .slots, .tracker, .channels, .pwf, .trunks, .devices, .extents, .poolLines, .poolEvents, .ledger, .homeSlots, .departed, .qps, .cqs, .regions, .clusters, .funcs, .vectors, .instances, .cmdOrder, .contained, .masterWait, .irqPending, .irqUnit, .sprout, .sources, .safeState, .collector, .pairing, .mirror, .sessions, .segments, .settings, .settingsNext, .settingsStart, .views] ps = true)  : ∀ t_, (execGateOffAfterTrip s) = .next t_ → OnlyChanges ps s0_ t_ := by
  unfold execGateOffAfterTrip
  try dsimp only
  repeat' (first | with_reducible assumption | (with_reducible rintro _ ⟨⟩) | (with_reducible first | (refine guarded_only _ _ _ ?_ ?_ ?_) | (apply State.tripEnd_only)) | (exact within_trans rfl hW) | split | (with_reducible intro _) )

theorem execAutomaticRetry_only (s : State) {ps : List Part} {s0_ : State} (hO : OnlyChanges ps s0_ s) (hW : within [.sup] ps = true)  : ∀ t_, (execAutomaticRetry s) = .next t_ → OnlyChanges ps s0_ t_ := by
  unfold execAutomaticRetry
  try dsimp only
  repeat' (first | with_reducible assumption | (with_reducible rintro _ ⟨⟩) | (with_reducible first | (refine guarded_only _ _ _ ?_ ?_ ?_) | (apply State.setSup_only) | (apply State.ramp_only)) | (exact within_trans rfl hW) | split | (with_reducible intro _) )

theorem execRetryCountClear_only (s : State) {ps : List Part} {s0_ : State} (hO : OnlyChanges ps s0_ s) (hW : within [.sup] ps = true)  : ∀ t_, (execRetryCountClear s) = .next t_ → OnlyChanges ps s0_ t_ := by
  unfold execRetryCountClear
  try dsimp only
  repeat' (first | with_reducible assumption | (with_reducible rintro _ ⟨⟩) | (with_reducible first | (refine guarded_only _ _ _ ?_ ?_ ?_) | (apply State.setSup_only)) | (exact within_trans rfl hW) | split | (with_reducible intro _) )

theorem execRetainedStateCleared_only (s : State) {ps : List Part} {s0_ : State} (hO : OnlyChanges ps s0_ s) (hW : within [.sup] ps = true)  : ∀ t_, (execRetainedStateCleared s) = .next t_ → OnlyChanges ps s0_ t_ := by
  unfold execRetainedStateCleared
  try dsimp only
  repeat' (first | with_reducible assumption | (with_reducible rintro _ ⟨⟩) | (with_reducible first | (refine guarded_only _ _ _ ?_ ?_ ?_) | (apply State.setSup_only)) | (exact within_trans rfl hW) | split | (with_reducible intro _) )

theorem execReleasePatternAccepted_only (s : State) {ps : List Part} {s0_ : State} (hO : OnlyChanges ps s0_ s) (hW : within [.sup] ps = true)  : ∀ t_, (execReleasePatternAccepted s) = .next t_ → OnlyChanges ps s0_ t_ := by
  unfold execReleasePatternAccepted
  try dsimp only
  repeat' (first | with_reducible assumption | (with_reducible rintro _ ⟨⟩) | (with_reducible first | (refine guarded_only _ _ _ ?_ ?_ ?_) | (apply State.setSup_only) | (apply State.ramp_only)) | (exact within_trans rfl hW) | split | (with_reducible intro _) )

theorem execWakeSourceSample_only (levels : BitVec 124) (s : State) {ps : List Part} {s0_ : State} (hO : OnlyChanges ps s0_ s) (hW : within [.groups, .board, .sprout] ps = true)  : ∀ t_, (execWakeSourceSample levels s) = .next t_ → OnlyChanges ps s0_ t_ := by
  unfold execWakeSourceSample
  try dsimp only
  repeat' (first | with_reducible assumption | (with_reducible rintro _ ⟨⟩) | (with_reducible first | (refine guarded_only _ _ _ ?_ ?_ ?_) | (apply State.each_only) | (apply State.ifDo_only) | (apply State.acceptWake_only) | (apply State.pinLevel_only)) | (exact within_trans rfl hW) | split | (with_reducible first | (apply State.sprout_update)) | ((with_reducible refine OnlyChanges.update ?_ ?_); (on_goal 2 => ((with_reducible intro p hp); (fail_if_success (with_reducible exact Part.same_refl _ _)); cases p <;> first | exact (OnlyChanges.mem hW hp rfl).elim | exact rfl | (and_intros <;> exact rfl)))) | (with_reducible intro _) )

theorem execWakeAlarm_only (s : State) {ps : List Part} {s0_ : State} (hO : OnlyChanges ps s0_ s) (hW : within [.sprout] ps = true)  : ∀ t_, (execWakeAlarm s) = .next t_ → OnlyChanges ps s0_ t_ := by
  unfold execWakeAlarm
  try dsimp only
  repeat' (first | with_reducible assumption | (with_reducible rintro _ ⟨⟩) | (with_reducible first | (refine guarded_only _ _ _ ?_ ?_ ?_) | (apply State.ifDo_only) | (apply State.acceptWake_only)) | (exact within_trans rfl hW) | split | (with_reducible first | (apply State.sprout_update)) | ((with_reducible refine OnlyChanges.update ?_ ?_); (on_goal 2 => ((with_reducible intro p hp); (fail_if_success (with_reducible exact Part.same_refl _ _)); cases p <;> first | exact (OnlyChanges.mem hW hp rfl).elim | exact rfl | (and_intros <;> exact rfl)))) | (with_reducible intro _) )

theorem execStandbyWake_only (frame : Fin 3) (s : State) {ps : List Part} {s0_ : State} (hO : OnlyChanges ps s0_ s) (hW : within [.beat, .epochs, .inflight, .commit, .tables, .groups, .board, .sup, .start, .lanes, .ports, .scans, .frames, .units, .matcher, .paths, .hiers, .bridges, .slots, .tracker, .channels, .pwf, .trunks, .devices, .extents, .poolLines, .poolEvents, .ledger, .homeSlots, .departed, .qps, .cqs, .regions, .clusters, .funcs, .vectors, .instances, .cmdOrder, .contained, .masterWait, .irqPending, .irqUnit, .sprout, .sources, .safeState, .collector, .pairing, .mirror, .sessions, .segments, .settings, .settingsNext, .settingsStart, .views] ps = true)  : ∀ t_, (execStandbyWake frame s) = .next t_ → OnlyChanges ps s0_ t_ := by
  unfold execStandbyWake
  try dsimp only
  repeat' (first | with_reducible assumption | (with_reducible rintro _ ⟨⟩) | (with_reducible first | (refine guarded_only _ _ _ ?_ ?_ ?_) | (apply State.warmStart_only)) | (exact within_trans rfl hW) | split | (with_reducible first | (apply State.sprout_update)) | ((with_reducible refine OnlyChanges.update ?_ ?_); (on_goal 2 => ((with_reducible intro p hp); (fail_if_success (with_reducible exact Part.same_refl _ _)); cases p <;> first | exact (OnlyChanges.mem hW hp rfl).elim | exact rfl | (and_intros <;> exact rfl)))) | (with_reducible intro _) )

theorem execWatchdogExpiry_only (s : State) {ps : List Part} {s0_ : State} (hO : OnlyChanges ps s0_ s) (hW : within [.beat, .epochs, .inflight, .commit, .tables, .groups, .board, .sup, .start, .lanes, .ports, .scans, .frames, .units, .matcher, .paths, .hiers, .bridges, .slots, .tracker, .channels, .pwf, .trunks, .devices, .extents, .poolLines, .poolEvents, .ledger, .homeSlots, .departed, .qps, .cqs, .regions, .clusters, .funcs, .vectors, .instances, .cmdOrder, .contained, .masterWait, .irqPending, .irqUnit, .sprout, .sources, .safeState, .collector, .pairing, .mirror, .sessions, .segments, .settings, .settingsNext, .settingsStart, .views] ps = true)  : ∀ t_, (execWatchdogExpiry s) = .next t_ → OnlyChanges ps s0_ t_ := by
  unfold execWatchdogExpiry
  try dsimp only
  repeat' (first | with_reducible assumption | (with_reducible rintro _ ⟨⟩) | (with_reducible first | (refine guarded_only _ _ _ ?_ ?_ ?_) | (apply State.watchdogExpire_only)) | (exact within_trans rfl hW) | split | (with_reducible intro _) )

theorem execColdStart_only (slotId : BitVec 4) (capOk : Bool) (refValid : Bool) (s : State) {ps : List Part} {s0_ : State} (hO : OnlyChanges ps s0_ s) (hW : within [.board, .sup, .start, .sources] ps = true)  : ∀ t_, (execColdStart slotId capOk refValid s) = .next t_ → OnlyChanges ps s0_ t_ := by
  unfold execColdStart
  try dsimp only
  repeat' (first | with_reducible assumption | (with_reducible rintro _ ⟨⟩) | (with_reducible first | (refine guarded_only _ _ _ ?_ ?_ ?_) | (apply State.each_only) | (apply State.raise_only)) | (exact within_trans rfl hW) | split | (with_reducible first | (apply State.board_update) | (apply State.sup_update) | (apply State.start_update)) | ((with_reducible refine OnlyChanges.update ?_ ?_); (on_goal 2 => ((with_reducible intro p hp); (fail_if_success (with_reducible exact Part.same_refl _ _)); cases p <;> first | exact (OnlyChanges.mem hW hp rfl).elim | exact rfl | (and_intros <;> exact rfl)))) | (with_reducible intro _) )

theorem execBistDone_only (attachments : List (Fin 40)) (banks : List (Fin 64)) (ledger : List (Fin 16)) (clusters : List (Fin 8)) (cores : List (Fin 4)) (other : Bool) (s : State) {ps : List Part} {s0_ : State} (hO : OnlyChanges ps s0_ s) (hW : within [.inflight, .groups, .board, .sup, .start, .lanes, .ports, .scans, .frames, .units, .matcher, .tracker, .ledger, .clusters, .funcs, .vectors, .instances, .irqPending, .irqUnit, .sources, .safeState, .collector, .mirror, .sessions, .views, .outputs, .free] ps = true)  : ∀ t_, (execBistDone attachments banks ledger clusters cores other s) = .next t_ → OnlyChanges ps s0_ t_ := by
  unfold execBistDone
  try dsimp only
  repeat' (first | with_reducible assumption | (with_reducible rintro _ ⟨⟩) | (with_reducible first | (refine guarded_only _ _ _ ?_ ?_ ?_) | (apply State.each_only) | (apply State.bistRetire_only) | (apply State.bistSafe_only) | (apply State.enterSafe_only) | (apply State.setStart_only) | (apply State.setStartUnit_only)) | (exact within_trans rfl hW) | split | (with_reducible first | (apply State.units_update) | (apply State.ledger_update) | (apply State.clusters_update) | (apply State.irqUnit_update)) | ((with_reducible refine OnlyChanges.update ?_ ?_); (on_goal 2 => ((with_reducible intro p hp); (fail_if_success (with_reducible exact Part.same_refl _ _)); cases p <;> first | exact (OnlyChanges.mem hW hp rfl).elim | exact rfl | (and_intros <;> exact rfl)))) | (with_reducible intro _) )

theorem execCalibrationDone_only (failed : List (Fin 328)) (s : State) {ps : List Part} {s0_ : State} (hO : OnlyChanges ps s0_ s) (hW : within [.groups, .start, .lanes, .ports, .scans, .funcs, .vectors, .instances, .sources, .mirror, .sessions, .views, .outputs] ps = true)  : ∀ t_, (execCalibrationDone failed s) = .next t_ → OnlyChanges ps s0_ t_ := by
  unfold execCalibrationDone
  try dsimp only
  repeat' (first | with_reducible assumption | (with_reducible rintro _ ⟨⟩) | (with_reducible first | (refine guarded_only _ _ _ ?_ ?_ ?_) | (apply State.each_only) | (apply State.setLane_only) | (apply State.raise_only) | (apply State.setStart_only) | (apply State.setStartUnit_only)) | (exact within_trans rfl hW) | split | (with_reducible intro _) )

theorem execFirmwareLoad_only (s : State) {ps : List Part} {s0_ : State} (hO : OnlyChanges ps s0_ s) (hW : within [.groups, .start, .lanes, .ports, .scans, .funcs, .vectors, .instances, .sources, .mirror, .sessions, .views, .outputs] ps = true)  : ∀ t_, (execFirmwareLoad s) = .next t_ → OnlyChanges ps s0_ t_ := by
  unfold execFirmwareLoad
  try dsimp only
  repeat' (first | with_reducible assumption | (with_reducible rintro _ ⟨⟩) | (with_reducible first | (refine guarded_only _ _ _ ?_ ?_ ?_) | (apply State.setStartUnit_only) | (apply State.enterLimited_only) | (apply State.raise_only) | (apply State.failedStart_only) | (apply State.setStart_only)) | (exact within_trans rfl hW) | split | (with_reducible intro _) )

theorem execConfigurationLoad_only (s : State) {ps : List Part} {s0_ : State} (hO : OnlyChanges ps s0_ s) (hW : within [.beat, .epochs, .inflight, .commit, .tables, .groups, .start, .lanes, .ports, .scans, .hiers, .devices, .funcs, .vectors, .instances, .sources, .mirror, .sessions, .settings, .settingsNext, .settingsStart, .views, .outputs] ps = true)  : ∀ t_, (execConfigurationLoad s) = .next t_ → OnlyChanges ps s0_ t_ := by
  unfold execConfigurationLoad
  try dsimp only
  repeat' (first | with_reducible assumption | (with_reducible rintro _ ⟨⟩) | (with_reducible first | (refine guarded_only _ _ _ ?_ ?_ ?_) | (apply State.setStartUnit_only) | (apply State.buildTables_only) | (apply State.raise_only)) | (exact within_trans rfl hW) | split | (with_reducible intro _) )

theorem execDataPathRelease_only (ms : BitVec 32) (s : State) {ps : List Part} {s0_ : State} (hO : OnlyChanges ps s0_ s) (hW : within [.beat, .epochs, .inflight, .groups, .sup, .start, .lanes, .ports, .scans, .hiers, .bridges, .extents, .departed, .funcs, .vectors, .instances, .sources, .pairing, .mirror, .sessions, .views, .outputs] ps = true)  : ∀ t_, (execDataPathRelease ms s) = .next t_ → OnlyChanges ps s0_ t_ := by
  unfold execDataPathRelease
  try dsimp only
  repeat' (first | with_reducible assumption | (with_reducible rintro _ ⟨⟩) | (with_reducible first | (refine guarded_only _ _ _ ?_ ?_ ?_) | (apply State.setStart_only) | (apply State.setPair_only) | (apply State.each_only) | (apply State.setGroup_only) | (apply State.startPort_only) | (apply State.commitBind_only)) | (exact within_trans rfl hW) | split | (with_reducible first | (apply State.beat_update) | (apply State.epochs_update) | (apply State.inflight_update) | (apply State.sup_update) | (apply State.start_update)) | ((with_reducible refine OnlyChanges.update ?_ ?_); (on_goal 2 => ((with_reducible intro p hp); (fail_if_success (with_reducible exact Part.same_refl _ _)); cases p <;> first | exact (OnlyChanges.mem hW hp rfl).elim | exact rfl | (and_intros <;> exact rfl)))) | (with_reducible intro _) )

theorem execWarmStart_only (recordOk : Bool) (sramError : Bool) (repaired : Bool) (s : State) {ps : List Part} {s0_ : State} (hO : OnlyChanges ps s0_ s) (hW : within [.beat, .epochs, .inflight, .commit, .tables, .groups, .start, .lanes, .ports, .scans, .funcs, .vectors, .instances, .sources, .mirror, .sessions, .settings, .settingsNext, .settingsStart, .views, .outputs] ps = true)  : ∀ t_, (execWarmStart recordOk sramError repaired s) = .next t_ → OnlyChanges ps s0_ t_ := by
  unfold execWarmStart
  try dsimp only
  repeat' (first | with_reducible assumption | (with_reducible rintro _ ⟨⟩) | (with_reducible first | (refine guarded_only _ _ _ ?_ ?_ ?_) | (apply State.raise_only) | (apply State.bump_only) | (apply State.setStart_only) | (apply State.setStartUnit_only)) | (exact within_trans rfl hW) | split | ((with_reducible refine OnlyChanges.update ?_ ?_); (on_goal 2 => ((with_reducible intro p hp); (fail_if_success (with_reducible exact Part.same_refl _ _)); cases p <;> first | exact (OnlyChanges.mem hW hp rfl).elim | exact rfl | (and_intros <;> exact rfl)))) | (with_reducible intro _) )

theorem execReadyTimeout_only (s : State) {ps : List Part} {s0_ : State} (hO : OnlyChanges ps s0_ s) (hW : within [.start, .sources] ps = true)  : ∀ t_, (execReadyTimeout s) = .next t_ → OnlyChanges ps s0_ t_ := by
  unfold execReadyTimeout
  try dsimp only
  repeat' (first | with_reducible assumption | (with_reducible rintro _ ⟨⟩) | (with_reducible first | (refine guarded_only _ _ _ ?_ ?_ ?_) | (apply State.setStartUnit_only) | (apply State.failedStart_only)) | (exact within_trans rfl hW) | split | (with_reducible intro _) )

theorem execStartConfirmed_only (s : State) {ps : List Part} {s0_ : State} (hO : OnlyChanges ps s0_ s) (hW : within [.groups, .start, .lanes, .ports, .scans, .funcs, .vectors, .instances, .sources, .mirror, .sessions, .settingsNext, .views, .outputs] ps = true)  : ∀ t_, (execStartConfirmed s) = .next t_ → OnlyChanges ps s0_ t_ := by
  unfold execStartConfirmed
  try dsimp only
  repeat' (first | with_reducible assumption | (with_reducible rintro _ ⟨⟩) | (with_reducible first | (refine guarded_only _ _ _ ?_ ?_ ?_) | (apply State.setStart_only) | (apply State.setStartUnit_only)) | (exact within_trans rfl hW) | split | (with_reducible first | (apply State.start_update) | (apply State.settingsNext_update)) | ((with_reducible refine OnlyChanges.update ?_ ?_); (on_goal 2 => ((with_reducible intro p hp); (fail_if_success (with_reducible exact Part.same_refl _ _)); cases p <;> first | exact (OnlyChanges.mem hW hp rfl).elim | exact rfl | (and_intros <;> exact rfl)))) | (with_reducible intro _) )

theorem execRetainedRecordWritten_only (s : State) {ps : List Part} {s0_ : State} (hO : OnlyChanges ps s0_ s) (hW : within [.start] ps = true)  : ∀ t_, (execRetainedRecordWritten s) = .next t_ → OnlyChanges ps s0_ t_ := by
  unfold execRetainedRecordWritten
  try dsimp only
  repeat' (first | with_reducible assumption | (with_reducible rintro _ ⟨⟩) | (with_reducible first | (refine guarded_only _ _ _ ?_ ?_ ?_) | (apply State.setStartUnit_only)) | (exact within_trans rfl hW) | split | (with_reducible intro _) )

theorem execHotReset_only (v : Fin 64) (s : State) {ps : List Part} {s0_ : State} (hO : OnlyChanges ps s0_ s) (hW : within [.inflight, .groups, .lanes, .ports, .scans, .frames, .matcher, .paths, .hiers, .bridges, .slots, .tracker, .channels, .pwf, .trunks, .devices, .extents, .poolLines, .poolEvents, .ledger, .homeSlots, .departed, .qps, .cqs, .regions, .funcs, .vectors, .instances, .cmdOrder, .masterWait, .irqPending, .sources, .mirror, .sessions, .views, .outputs, .free] ps = true)  : ∀ t_, (execHotReset v s) = .next t_ → OnlyChanges ps s0_ t_ := by
  unfold execHotReset
  try dsimp only
  repeat' (first | with_reducible assumption | (with_reducible rintro _ ⟨⟩) | (with_reducible first | (refine guarded_only _ _ _ ?_ ?_ ?_) | (apply State.setPort_only) | (apply State.portDownFree_only) | (apply State.startPort_only) | (apply State.hierReset_only)) | (exact within_trans rfl hW) | split | (with_reducible intro _) )

theorem execSecondaryBusReset_only (v : Fin 64) (b : Fin 256) (s : State) {ps : List Part} {s0_ : State} (hO : OnlyChanges ps s0_ s) (hW : within [.inflight, .groups, .lanes, .ports, .scans, .frames, .matcher, .paths, .hiers, .bridges, .tracker, .pwf, .trunks, .devices, .extents, .poolLines, .poolEvents, .ledger, .homeSlots, .departed, .qps, .cqs, .regions, .funcs, .vectors, .instances, .masterWait, .irqPending, .sources, .mirror, .views, .outputs, .free] ps = true)  : ∀ t_, (execSecondaryBusReset v b s) = .next t_ → OnlyChanges ps s0_ t_ := by
  unfold execSecondaryBusReset
  try dsimp only
  repeat' (first | with_reducible assumption | (with_reducible rintro _ ⟨⟩) | (with_reducible first | (refine guarded_only _ _ _ ?_ ?_ ?_) | (apply State.setBridge_only) | (apply State.targetReset_only)) | (exact within_trans rfl hW) | split | (with_reducible intro _) )

theorem execFunctionLevelReset_only (v : Fin 64) (s : State) {ps : List Part} {s0_ : State} (hO : OnlyChanges ps s0_ s) (hW : within [.groups, .lanes, .ports, .scans, .funcs, .vectors, .instances, .cmdOrder, .mirror, .sessions, .views, .outputs] ps = true)  : ∀ t_, (execFunctionLevelReset v s) = .next t_ → OnlyChanges ps s0_ t_ := by
  unfold execFunctionLevelReset
  try dsimp only
  repeat' (first | with_reducible assumption | (with_reducible rintro _ ⟨⟩) | (with_reducible first | (refine guarded_only _ _ _ ?_ ?_ ?_) | (apply State.functionReset_only)) | (exact within_trans rfl hW) | split | (with_reducible intro _) )

theorem execTrainingBlock_only (lane : Fin 328) (block : TrainBlock) (done : Bool) (inverted : Bool) (wish : LaneWish) (s : State) {ps : List Part} {s0_ : State} (hO : OnlyChanges ps s0_ s) (hW : within [.inflight, .groups, .lanes, .ports, .scans, .frames, .matcher, .paths, .hiers, .bridges, .slots, .tracker, .channels, .pwf, .trunks, .devices, .extents, .poolLines, .poolEvents, .ledger, .homeSlots, .departed, .qps, .cqs, .regions, .funcs, .vectors, .instances, .cmdOrder, .masterWait, .irqPending, .sources, .mirror, .sessions, .views, .outputs, .free] ps = true)  : ∀ t_, (execTrainingBlock lane block done inverted wish s) = .next t_ → OnlyChanges ps s0_ t_ := by
  unfold execTrainingBlock
  try dsimp only
  repeat' (first | with_reducible assumption | (with_reducible rintro _ ⟨⟩) | (with_reducible first | (refine guarded_only _ _ _ ?_ ?_ ?_) | (apply State.setLane_only) | (apply State.setPort_only) | (apply State.laneFail_only) | (apply State.stageAdvance_only)) | (exact within_trans rfl hW) | split | (with_reducible intro _) )

theorem execDetectTimer_only (port : Fin 161) (s : State) {ps : List Part} {s0_ : State} (hO : OnlyChanges ps s0_ s) (hW : within [.inflight, .groups, .lanes, .ports, .scans, .frames, .matcher, .paths, .hiers, .bridges, .slots, .tracker, .channels, .pwf, .trunks, .devices, .extents, .poolLines, .poolEvents, .ledger, .homeSlots, .departed, .qps, .cqs, .regions, .funcs, .vectors, .instances, .cmdOrder, .masterWait, .irqPending, .sources, .mirror, .sessions, .views, .outputs, .free] ps = true)  : ∀ t_, (execDetectTimer port s) = .next t_ → OnlyChanges ps s0_ t_ := by
  unfold execDetectTimer
  try dsimp only
  repeat' (first | with_reducible assumption | (with_reducible rintro _ ⟨⟩) | (with_reducible first | (refine guarded_only _ _ _ ?_ ?_ ?_) | (apply State.settle_only) | (apply State.each_only) | (apply State.laneOut_only) | (apply State.toStage_only)) | (exact within_trans rfl hW) | split | (with_reducible intro _) )

theorem execStageBoundReached_only (port : Fin 161) (s : State) {ps : List Part} {s0_ : State} (hO : OnlyChanges ps s0_ s) (hW : within [.inflight, .groups, .lanes, .ports, .scans, .frames, .matcher, .paths, .hiers, .bridges, .slots, .tracker, .channels, .pwf, .trunks, .devices, .extents, .poolLines, .poolEvents, .ledger, .homeSlots, .departed, .qps, .cqs, .regions, .funcs, .vectors, .instances, .cmdOrder, .masterWait, .irqPending, .sources, .mirror, .sessions, .views, .outputs, .free] ps = true)  : ∀ t_, (execStageBoundReached port s) = .next t_ → OnlyChanges ps s0_ t_ := by
  unfold execStageBoundReached
  try dsimp only
  repeat' (first | with_reducible assumption | (with_reducible rintro _ ⟨⟩) | (with_reducible first | (refine guarded_only _ _ _ ?_ ?_ ?_) | (apply State.each_only) | (apply State.laneOut_only) | (apply State.fallBack_only) | (apply State.settle_only)) | (exact within_trans rfl hW) | split | (with_reducible intro _) )

theorem execPortLinkUp_only (port : Fin 161) (now : Nat) (rate : Fin 8) (width : Fin 6) (reversed : Bool) (x : Partner) (clock : RefClock) (precode : Bool) (keyed : Bool) (s : State) {ps : List Part} {s0_ : State} (hO : OnlyChanges ps s0_ s) (hW : within [.inflight, .groups, .lanes, .ports, .scans, .frames, .matcher, .paths, .hiers, .bridges, .slots, .tracker, .channels, .pwf, .trunks, .devices, .extents, .poolLines, .poolEvents, .ledger, .homeSlots, .departed, .qps, .cqs, .regions, .funcs, .vectors, .instances, .cmdOrder, .masterWait, .irqPending, .sources, .mirror, .sessions, .views, .outputs, .free] ps = true)  : ∀ t_, (execPortLinkUp port now rate width reversed x clock precode keyed s) = .next t_ → OnlyChanges ps s0_ t_ := by
  unfold execPortLinkUp
  try dsimp only
  repeat' (first | with_reducible assumption | (with_reducible rintro _ ⟨⟩) | (with_reducible first | (refine guarded_only _ _ _ ?_ ?_ ?_) | (apply State.trunkUp_only) | (apply State.portUp_only) | (apply State.lastBlocks_only) | (apply State.pcieBack_only) | (apply State.pcieUp_only)) | (exact within_trans rfl hW) | split | (with_reducible intro _) )

theorem execAdaptationStep_only (lane : Fin 328) (part : EqStage) (tap : Fin 16) (up : Bool) (s : State) {ps : List Part} {s0_ : State} (hO : OnlyChanges ps s0_ s) (hW : within [.lanes] ps = true)  : ∀ t_, (execAdaptationStep lane part tap up s) = .next t_ → OnlyChanges ps s0_ t_ := by
  unfold execAdaptationStep
  try dsimp only
  repeat' (first | with_reducible assumption | (with_reducible rintro _ ⟨⟩) | (with_reducible first | (refine guarded_only _ _ _ ?_ ?_ ?_) | (apply State.setLane_only)) | (exact within_trans rfl hW) | split | (with_reducible intro _) )

theorem execErrorWindowEnd_only (lane : Fin 328) (more : BitVec 32) (s : State) {ps : List Part} {s0_ : State} (hO : OnlyChanges ps s0_ s) (hW : within [.lanes] ps = true)  : ∀ t_, (execErrorWindowEnd lane more s) = .next t_ → OnlyChanges ps s0_ t_ := by
  unfold execErrorWindowEnd
  try dsimp only
  repeat' (first | with_reducible assumption | (with_reducible rintro _ ⟨⟩) | (with_reducible first | (refine guarded_only _ _ _ ?_ ?_ ?_) | (apply State.setLane_only)) | (exact within_trans rfl hW) | split | (with_reducible intro _) )

theorem execLaneFailure_only (lane : Fin 328) (cause : Fin 6) (more : BitVec 32) (s : State) {ps : List Part} {s0_ : State} (hO : OnlyChanges ps s0_ s) (hW : within [.inflight, .groups, .lanes, .ports, .scans, .frames, .matcher, .paths, .hiers, .bridges, .slots, .tracker, .channels, .pwf, .trunks, .devices, .extents, .poolLines, .poolEvents, .ledger, .homeSlots, .departed, .qps, .cqs, .regions, .funcs, .vectors, .instances, .cmdOrder, .masterWait, .irqPending, .sources, .mirror, .sessions, .views, .outputs, .free] ps = true)  : ∀ t_, (execLaneFailure lane cause more s) = .next t_ → OnlyChanges ps s0_ t_ := by
  unfold execLaneFailure
  try dsimp only
  repeat' (first | with_reducible assumption | (with_reducible rintro _ ⟨⟩) | (with_reducible first | (refine guarded_only _ _ _ ?_ ?_ ?_) | (apply State.setLane_only) | (apply State.laneFail_only)) | (exact within_trans rfl hW) | split | (with_reducible intro _) )

theorem execRetrainLimit_only (port : Fin 161) (s : State) {ps : List Part} {s0_ : State} (hO : OnlyChanges ps s0_ s) (hW : within [.inflight, .groups, .lanes, .ports, .scans, .frames, .matcher, .paths, .hiers, .bridges, .slots, .tracker, .channels, .pwf, .trunks, .devices, .extents, .poolLines, .poolEvents, .ledger, .homeSlots, .departed, .qps, .cqs, .regions, .funcs, .vectors, .instances, .cmdOrder, .masterWait, .irqPending, .sources, .mirror, .sessions, .views, .outputs, .free] ps = true)  : ∀ t_, (execRetrainLimit port s) = .next t_ → OnlyChanges ps s0_ t_ := by
  unfold execRetrainLimit
  try dsimp only
  repeat' (first | with_reducible assumption | (with_reducible rintro _ ⟨⟩) | (with_reducible first | (refine guarded_only _ _ _ ?_ ?_ ?_) | (apply State.downNow_only)) | (exact within_trans rfl hW) | split | (with_reducible intro _) )

theorem execLaneDirectionChange_only (lane : Fin 328) (receiver : Bool) (d : LaneDir) (s : State) {ps : List Part} {s0_ : State} (hO : OnlyChanges ps s0_ s) (hW : within [.lanes, .ports, .scans] ps = true)  : ∀ t_, (execLaneDirectionChange lane receiver d s) = .next t_ → OnlyChanges ps s0_ t_ := by
  unfold execLaneDirectionChange
  try dsimp only
  repeat' (first | with_reducible assumption | (with_reducible rintro _ ⟨⟩) | (with_reducible first | (refine guarded_only _ _ _ ?_ ?_ ?_) | (apply State.setLane_only) | (apply State.scanCheck_only) | (apply State.l0sCheck_only)) | (exact within_trans rfl hW) | split | (with_reducible intro _) )

theorem execRxLockTimeout_only (lane : Fin 328) (s : State) {ps : List Part} {s0_ : State} (hO : OnlyChanges ps s0_ s) (hW : within [.inflight, .groups, .lanes, .ports, .scans, .frames, .matcher, .paths, .hiers, .bridges, .slots, .tracker, .channels, .pwf, .trunks, .devices, .extents, .poolLines, .poolEvents, .ledger, .homeSlots, .departed, .qps, .cqs, .regions, .funcs, .vectors, .instances, .cmdOrder, .masterWait, .irqPending, .sources, .mirror, .sessions, .views, .outputs, .free] ps = true)  : ∀ t_, (execRxLockTimeout lane s) = .next t_ → OnlyChanges ps s0_ t_ := by
  unfold execRxLockTimeout
  try dsimp only
  repeat' (first | with_reducible assumption | (with_reducible rintro _ ⟨⟩) | (with_reducible first | (refine guarded_only _ _ _ ?_ ?_ ?_) | (apply State.laneFail_only)) | (exact within_trans rfl hW) | split | (with_reducible intro _) )

theorem execScanPointDone_only (slot : Fin 4) (errors : BitVec 37) (s : State) {ps : List Part} {s0_ : State} (hO : OnlyChanges ps s0_ s) (hW : within [.scans] ps = true)  : ∀ t_, (execScanPointDone slot errors s) = .next t_ → OnlyChanges ps s0_ t_ := by
  unfold execScanPointDone
  try dsimp only
  repeat' (first | with_reducible assumption | (with_reducible rintro _ ⟨⟩) | (with_reducible first | (refine guarded_only _ _ _ ?_ ?_ ?_) | (apply State.scanCheck_only) | (apply State.setScan_only)) | (exact within_trans rfl hW) | split | (with_reducible intro _) )

theorem execL1EntryInitiate_only (port : Fin 160) (sub : Fin 3) (acked : Bool) (s : State) {ps : List Part} {s0_ : State} (hO : OnlyChanges ps s0_ s) (hW : within [.groups, .lanes, .ports, .scans, .vectors, .instances, .mirror, .views, .outputs] ps = true)  : ∀ t_, (execL1EntryInitiate port sub acked s) = .next t_ → OnlyChanges ps s0_ t_ := by
  unfold execL1EntryInitiate
  try dsimp only
  repeat' (first | with_reducible assumption | (with_reducible rintro _ ⟨⟩) | (with_reducible first | (refine guarded_only _ _ _ ?_ ?_ ?_) | (apply State.flushVh_only) | (apply State.setPower_only)) | (exact within_trans rfl hW) | split | (with_reducible intro _) )

theorem execPartnerL1Request_only (port : Fin 160) (sub : Fin 3) (s : State) {ps : List Part} {s0_ : State} (hO : OnlyChanges ps s0_ s) (hW : within [.groups, .lanes, .ports, .scans, .outputs] ps = true)  : ∀ t_, (execPartnerL1Request port sub s) = .next t_ → OnlyChanges ps s0_ t_ := by
  unfold execPartnerL1Request
  try dsimp only
  repeat' (first | with_reducible assumption | (with_reducible rintro _ ⟨⟩) | (with_reducible first | (refine guarded_only _ _ _ ?_ ?_ ?_) | (apply State.setPower_only) | (apply State.tellPartner_only)) | (exact within_trans rfl hW) | split | (with_reducible intro _) )

theorem execPciPmL1Request_only (port : Fin 160) (s : State) {ps : List Part} {s0_ : State} (hO : OnlyChanges ps s0_ s) (hW : within [.groups, .lanes, .ports, .scans, .vectors, .instances, .mirror, .views, .outputs] ps = true)  : ∀ t_, (execPciPmL1Request port s) = .next t_ → OnlyChanges ps s0_ t_ := by
  unfold execPciPmL1Request
  try dsimp only
  repeat' (first | with_reducible assumption | (with_reducible rintro _ ⟨⟩) | (with_reducible first | (refine guarded_only _ _ _ ?_ ?_ ?_) | (apply State.setPower_only) | (apply State.flushVh_only)) | (exact within_trans rfl hW) | split | (with_reducible intro _) )

theorem execPmeTurnOff_only (v : Fin 64) (s : State) {ps : List Part} {s0_ : State} (hO : OnlyChanges ps s0_ s) (hW : within [.groups, .lanes, .ports, .scans, .vectors, .instances, .mirror, .views, .outputs] ps = true)  : ∀ t_, (execPmeTurnOff v s) = .next t_ → OnlyChanges ps s0_ t_ := by
  unfold execPmeTurnOff
  try dsimp only
  repeat' (first | with_reducible assumption | (with_reducible rintro _ ⟨⟩) | (with_reducible first | (refine guarded_only _ _ _ ?_ ?_ ?_) | (apply State.each_only) | (apply State.setPower_only) | (apply State.tellPartner_only) | (apply State.emit_only) | (apply State.flushVh_only)) | (exact within_trans rfl hW) | split | (with_reducible intro _) )

theorem execL0pEvaluation_only (port : Fin 160) (used : BitVec 32) (s : State) {ps : List Part} {s0_ : State} (hO : OnlyChanges ps s0_ s) (hW : within [.lanes, .ports, .scans] ps = true)  : ∀ t_, (execL0pEvaluation port used s) = .next t_ → OnlyChanges ps s0_ t_ := by
  unfold execL0pEvaluation
  try dsimp only
  repeat' (first | with_reducible assumption | (with_reducible rintro _ ⟨⟩) | (with_reducible first | (refine guarded_only _ _ _ ?_ ?_ ?_) | (apply State.setPort_only) | (apply State.l0pWidth_only)) | (exact within_trans rfl hW) | split | (with_reducible intro _) )

theorem execL0pPartnerRequest_only (port : Fin 160) (width : Fin 6) (s : State) {ps : List Part} {s0_ : State} (hO : OnlyChanges ps s0_ s) (hW : within [.lanes, .ports, .scans] ps = true)  : ∀ t_, (execL0pPartnerRequest port width s) = .next t_ → OnlyChanges ps s0_ t_ := by
  unfold execL0pPartnerRequest
  try dsimp only
  repeat' (first | with_reducible assumption | (with_reducible rintro _ ⟨⟩) | (with_reducible first | (refine guarded_only _ _ _ ?_ ?_ ?_) | (apply State.l0pWidth_only)) | (exact within_trans rfl hW) | split | (with_reducible intro _) )

theorem execIdeKeyRefresh_only (port : Fin 160) (s : State) {ps : List Part} {s0_ : State} (hO : OnlyChanges ps s0_ s) (hW : within [.ports, .outputs] ps = true)  : ∀ t_, (execIdeKeyRefresh port s) = .next t_ → OnlyChanges ps s0_ t_ := by
  unfold execIdeKeyRefresh
  try dsimp only
  repeat' (first | with_reducible assumption | (with_reducible rintro _ ⟨⟩) | (with_reducible first | (refine guarded_only _ _ _ ?_ ?_ ?_) | (apply State.tellPartner_only) | (apply State.setPort_only)) | (exact within_trans rfl hW) | split | (with_reducible intro _) )

theorem execIdeIntegrityFailure_only (port : Fin 160) (s : State) {ps : List Part} {s0_ : State} (hO : OnlyChanges ps s0_ s) (hW : within [.groups, .lanes, .ports, .scans, .hiers, .bridges, .funcs, .irqPending, .sources] ps = true)  : ∀ t_, (execIdeIntegrityFailure port s) = .next t_ → OnlyChanges ps s0_ t_ := by
  unfold execIdeIntegrityFailure
  try dsimp only
  repeat' (first | with_reducible assumption | (with_reducible rintro _ ⟨⟩) | (with_reducible first | (refine guarded_only _ _ _ ?_ ?_ ?_) | (apply State.ideFailure_only)) | (exact within_trans rfl hW) | split | (with_reducible intro _) )

theorem execFrameStart_only (path : FramePath) (s : State) {ps : List Part} {s0_ : State} (hO : OnlyChanges ps s0_ s) (hW : within [.sup] ps = true)  : ∀ t_, (execFrameStart path s) = .next t_ → OnlyChanges ps s0_ t_ := by
  unfold execFrameStart
  try dsimp only
  repeat' (first | with_reducible assumption | (with_reducible rintro _ ⟨⟩) | (with_reducible first | (refine guarded_only _ _ _ ?_ ?_ ?_)) | (exact within_trans rfl hW) | split | (with_reducible first | (apply State.sup_update)) | ((with_reducible refine OnlyChanges.update ?_ ?_); (on_goal 2 => ((with_reducible intro p hp); (fail_if_success (with_reducible exact Part.same_refl _ _)); cases p <;> first | exact (OnlyChanges.mem hW hp rfl).elim | exact rfl | (and_intros <;> exact rfl)))) | (with_reducible intro _) )

theorem execFrameHeadCell_only (ingress : Fin 177) (h : Head) (s : State) {ps : List Part} {s0_ : State} (hO : OnlyChanges ps s0_ s) (hW : within [.inflight, .groups, .lanes, .ports, .scans, .frames, .hiers, .bridges, .tracker, .sources, .views, .outputs] ps = true)  : ∀ t_, (execFrameHeadCell ingress h s) = .next t_ → OnlyChanges ps s0_ t_ := by
  unfold execFrameHeadCell
  try dsimp only
  repeat' (first | with_reducible assumption | (with_reducible rintro _ ⟨⟩) | (with_reducible first | (refine checked_only _ _ _ _ ?_ ?_ ?_) | (apply State.headCell_only)) | (exact within_trans rfl hW) | split | (with_reducible intro _) )

theorem execFrameComplete_only (id : Nat) (c : Checks) (s : State) {ps : List Part} {s0_ : State} (hO : OnlyChanges ps s0_ s) (hW : within [.inflight, .groups, .lanes, .ports, .scans, .frames, .matcher, .paths, .hiers, .bridges, .tracker, .pwf, .trunks, .funcs, .vectors, .instances, .irqPending, .sources, .mirror, .views, .outputs] ps = true)  : ∀ t_, (execFrameComplete id c s) = .next t_ → OnlyChanges ps s0_ t_ := by
  unfold execFrameComplete
  try dsimp only
  repeat' (first | with_reducible assumption | (with_reducible rintro _ ⟨⟩) | (with_reducible first | (refine guarded_only _ _ _ ?_ ?_ ?_) | (apply State.frameDone_only)) | (exact within_trans rfl hW) | split | (with_reducible intro _) )

theorem execEngineChargeRetry_only (id : Nat) (s : State) {ps : List Part} {s0_ : State} (hO : OnlyChanges ps s0_ s) (hW : within [.inflight, .frames, .tracker, .views, .outputs] ps = true)  : ∀ t_, (execEngineChargeRetry id s) = .next t_ → OnlyChanges ps s0_ t_ := by
  unfold execEngineChargeRetry
  try dsimp only
  repeat' (first | with_reducible assumption | (with_reducible rintro _ ⟨⟩) | (with_reducible first | (refine guarded_only _ _ _ ?_ ?_ ?_) | (apply State.chargeLossless_only) | (apply State.setFrame_only)) | (exact within_trans rfl hW) | split | (with_reducible first | (apply State.frames_update)) | ((with_reducible refine OnlyChanges.update ?_ ?_); (on_goal 2 => ((with_reducible intro p hp); (fail_if_success (with_reducible exact Part.same_refl _ _)); cases p <;> first | exact (OnlyChanges.mem hW hp rfl).elim | exact rfl | (and_intros <;> exact rfl)))) | (with_reducible intro _) )

theorem execCellTimeMatch_only (i : Fin 128) (formed : List Nat) (ecc : CellErrors) (s : State) {ps : List Part} {s0_ : State} (hO : OnlyChanges ps s0_ s) (hW : within [.inflight, .groups, .sup, .lanes, .ports, .scans, .frames, .units, .matcher, .paths, .hiers, .bridges, .tracker, .pwf, .trunks, .funcs, .vectors, .instances, .sources, .mirror, .views, .outputs] ps = true)  : ∀ t_, (execCellTimeMatch i formed ecc s) = .next t_ → OnlyChanges ps s0_ t_ := by
  unfold execCellTimeMatch
  try dsimp only
  repeat' (first | with_reducible assumption | (with_reducible rintro _ ⟨⟩) | (with_reducible first | (refine guarded_only _ _ _ ?_ ?_ ?_) | (apply State.each_only) | (apply State.formCell_only) | (apply State.drainStaging_only) | (apply State.stallStep_only) | (apply State.stallCheck_only) | (apply State.onoffEval_only) | (apply State.eccCorrected_only) | (apply State.retireBank_only) | (apply State.struck_only) | (apply State.moveCell_only) | (apply State.advance_only) | (apply State.owedReplay_only)) | (exact within_trans rfl hW) | split | (with_reducible intro _) )

theorem execStallTermination_only (point : StallPoint) (s : State) {ps : List Part} {s0_ : State} (hO : OnlyChanges ps s0_ s) (hW : within [.ports, .frames, .matcher, .trunks, .sources, .views, .outputs] ps = true)  : ∀ t_, (execStallTermination point s) = .next t_ → OnlyChanges ps s0_ t_ := by
  unfold execStallTermination
  try dsimp only
  repeat' (first | with_reducible assumption | (with_reducible rintro _ ⟨⟩) | (with_reducible first | (refine guarded_only _ _ _ ?_ ?_ ?_) | (apply State.stallTerminate_only)) | (exact within_trans rfl hW) | split | (with_reducible intro _) )

theorem execPathFailed_only (port : Fin 160) (s : State) {ps : List Part} {s0_ : State} (hO : OnlyChanges ps s0_ s) (hW : within [.inflight, .groups, .lanes, .ports, .scans, .frames, .paths, .hiers, .bridges, .tracker, .pwf, .funcs, .vectors, .instances, .sources, .mirror, .views, .outputs] ps = true)  : ∀ t_, (execPathFailed port s) = .next t_ → OnlyChanges ps s0_ t_ := by
  unfold execPathFailed
  try dsimp only
  repeat' (first | with_reducible assumption | (with_reducible rintro _ ⟨⟩) | (with_reducible first | (refine guarded_only _ _ _ ?_ ?_ ?_) | (apply State.pathDown_only)) | (exact within_trans rfl hW) | split | (with_reducible intro _) )

theorem execBankRetired_only (bank : Fin 64) (s : State) {ps : List Part} {s0_ : State} (hO : OnlyChanges ps s0_ s) (hW : within [.units, .sources] ps = true)  : ∀ t_, (execBankRetired bank s) = .next t_ → OnlyChanges ps s0_ t_ := by
  unfold execBankRetired
  try dsimp only
  repeat' (first | with_reducible assumption | (with_reducible rintro _ ⟨⟩) | (with_reducible first | (refine guarded_only _ _ _ ?_ ?_ ?_) | (apply State.raise_only)) | (exact within_trans rfl hW) | split | (with_reducible first | (apply State.units_update)) | ((with_reducible refine OnlyChanges.update ?_ ?_); (on_goal 2 => ((with_reducible intro p hp); (fail_if_success (with_reducible exact Part.same_refl _ _)); cases p <;> first | exact (OnlyChanges.mem hW hp rfl).elim | exact rfl | (and_intros <;> exact rfl)))) | (with_reducible intro _) )

theorem execAttachmentRetirement_only (n : Fin 40) (s : State) {ps : List Part} {s0_ : State} (hO : OnlyChanges ps s0_ s) (hW : within [.groups, .lanes, .ports, .scans, .units, .irqPending, .sources] ps = true)  : ∀ t_, (execAttachmentRetirement n s) = .next t_ → OnlyChanges ps s0_ t_ := by
  unfold execAttachmentRetirement
  try dsimp only
  repeat' (first | with_reducible assumption | (with_reducible rintro _ ⟨⟩) | (with_reducible first | (refine guarded_only _ _ _ ?_ ?_ ?_) | (apply State.retireAttachment_only)) | (exact within_trans rfl hW) | split | (with_reducible intro _) )

theorem execSlotInputChange_only (p : Fin 160) (s : State) {ps : List Part} {s0_ : State} (hO : OnlyChanges ps s0_ s) (hW : within [.groups, .lanes, .ports, .scans, .hiers, .bridges, .slots, .irqPending, .sources, .mirror, .outputs, .free] ps = true)  : ∀ t_, (execSlotInputChange p s) = .next t_ → OnlyChanges ps s0_ t_ := by
  unfold execSlotInputChange
  try dsimp only
  repeat' (first | with_reducible assumption | (with_reducible rintro _ ⟨⟩) | (with_reducible first | (refine guarded_only _ _ _ ?_ ?_ ?_) | (apply State.slotConvert_only)) | (exact within_trans rfl hW) | split | (with_reducible intro _) )

theorem execSlotControlWrite_only (v : Fin 64) (b : Fin 256) (powerOff : Bool) (ind : Indicators) (enables : BitVec 16) (s : State) {ps : List Part} {s0_ : State} (hO : OnlyChanges ps s0_ s) (hW : within [.groups, .lanes, .ports, .scans, .bridges, .slots, .irqPending, .sources, .free] ps = true)  : ∀ t_, (execSlotControlWrite v b powerOff ind enables s) = .next t_ → OnlyChanges ps s0_ t_ := by
  unfold execSlotControlWrite
  try dsimp only
  repeat' (first | with_reducible assumption | (with_reducible rintro _ ⟨⟩) | (with_reducible first | (refine guarded_only _ _ _ ?_ ?_ ?_) | (apply State.setBridge_only) | (apply State.slotControl_only)) | (exact within_trans rfl hW) | split | (with_reducible intro _) )

theorem execIndicatorBlink_only (p : Fin 160) (s : State) {ps : List Part} {s0_ : State} (hO : OnlyChanges ps s0_ s) (hW : within [.groups, .slots] ps = true)  : ∀ t_, (execIndicatorBlink p s) = .next t_ → OnlyChanges ps s0_ t_ := by
  unfold execIndicatorBlink
  try dsimp only
  repeat' (first | with_reducible assumption | (with_reducible rintro _ ⟨⟩) | (with_reducible first | (refine guarded_only _ _ _ ?_ ?_ ?_) | (apply State.refreshOutputs_only) | (apply State.setSlot_only)) | (exact within_trans rfl hW) | split | (with_reducible intro _) )

theorem execSlotResetRelease_only (p : Fin 160) (s : State) {ps : List Part} {s0_ : State} (hO : OnlyChanges ps s0_ s) (hW : within [.groups, .start, .slots] ps = true)  : ∀ t_, (execSlotResetRelease p s) = .next t_ → OnlyChanges ps s0_ t_ := by
  unfold execSlotResetRelease
  try dsimp only
  repeat' (first | with_reducible assumption | (with_reducible rintro _ ⟨⟩) | (with_reducible first | (refine guarded_only _ _ _ ?_ ?_ ?_) | (apply State.setGroup_only) | (apply State.refreshOutputs_only) | (apply State.setSlot_only)) | (exact within_trans rfl hW) | split | (with_reducible first | (apply State.start_update)) | ((with_reducible refine OnlyChanges.update ?_ ?_); (on_goal 2 => ((with_reducible intro p hp); (fail_if_success (with_reducible exact Part.same_refl _ _)); cases p <;> first | exact (OnlyChanges.mem hW hp rfl).elim | exact rfl | (and_intros <;> exact rfl)))) | (with_reducible intro _) )

theorem execDpcTrigger_only (v : Fin 64) (b : Fin 256) (reason : Fin 4) (s : State) {ps : List Part} {s0_ : State} (hO : OnlyChanges ps s0_ s) (hW : within [.inflight, .groups, .lanes, .ports, .scans, .frames, .matcher, .paths, .hiers, .bridges, .slots, .tracker, .pwf, .trunks, .qps, .cqs, .regions, .funcs, .vectors, .instances, .masterWait, .irqPending, .sources, .mirror, .views, .outputs, .free] ps = true)  : ∀ t_, (execDpcTrigger v b reason s) = .next t_ → OnlyChanges ps s0_ t_ := by
  unfold execDpcTrigger
  try dsimp only
  repeat' (first | with_reducible assumption | (with_reducible rintro _ ⟨⟩) | (with_reducible first | (refine guarded_only _ _ _ ?_ ?_ ?_) | (apply State.dpcTrigger_only)) | (exact within_trans rfl hW) | split | (with_reducible intro _) )

theorem execDpcTriggerClear_only (v : Fin 64) (b : Fin 256) (s : State) {ps : List Part} {s0_ : State} (hO : OnlyChanges ps s0_ s) (hW : within [.groups, .lanes, .ports, .bridges, .slots] ps = true)  : ∀ t_, (execDpcTriggerClear v b s) = .next t_ → OnlyChanges ps s0_ t_ := by
  unfold execDpcTriggerClear
  try dsimp only
  repeat' (first | with_reducible assumption | (with_reducible rintro _ ⟨⟩) | (with_reducible first | (refine guarded_only _ _ _ ?_ ?_ ?_) | (apply State.setBridge_only) | (apply State.startPort_only) | (apply State.setPort_only) | (apply State.setSlot_only)) | (exact within_trans rfl hW) | split | (with_reducible intro _) )

theorem execConfigRequest_only (v : Fin 64) (x : Tlp) (field : CfgField) (write : Bool) (s : State) {ps : List Part} {s0_ : State} (hO : OnlyChanges ps s0_ s) (hW : within [.inflight, .groups, .lanes, .ports, .scans, .frames, .matcher, .paths, .hiers, .bridges, .tracker, .pwf, .trunks, .poolEvents, .regions, .funcs, .vectors, .instances, .irqPending, .sources, .mirror, .views, .outputs, .free] ps = true)  : ∀ t_, (execConfigRequest v x field write s) = .next t_ → OnlyChanges ps s0_ t_ := by
  unfold execConfigRequest
  try dsimp only
  repeat' (first | with_reducible assumption | (with_reducible rintro _ ⟨⟩) | (with_reducible first | (refine checked_only _ _ _ _ ?_ ?_ ?_) | (apply State.cfgRequest_only)) | (exact within_trans rfl hW) | split | (with_reducible intro _) )

theorem execTrackerAllocation_only (s : State) {ps : List Part} {s0_ : State} (hO : OnlyChanges ps s0_ s) (hW : within [.groups, .lanes, .ports, .scans, .frames, .hiers, .bridges, .tracker, .trunks, .ledger, .homeSlots, .funcs, .masterWait, .sources, .mirror, .views, .outputs] ps = true)  : ∀ t_, (execTrackerAllocation s) = .next t_ → OnlyChanges ps s0_ t_ := by
  unfold execTrackerAllocation
  try dsimp only
  repeat' (first | with_reducible assumption | (with_reducible rintro _ ⟨⟩) | (with_reducible first | (refine guarded_only _ _ _ ?_ ?_ ?_) | (apply State.masterGo_only) | (apply State.grantWaiting_only)) | (exact within_trans rfl hW) | split | (with_reducible first | (apply State.tracker_update) | (apply State.masterWait_update)) | ((with_reducible refine OnlyChanges.update ?_ ?_); (on_goal 2 => ((with_reducible intro p hp); (fail_if_success (with_reducible exact Part.same_refl _ _)); cases p <;> first | exact (OnlyChanges.mem hW hp rfl).elim | exact rfl | (and_intros <;> exact rfl)))) | (with_reducible intro _) )

theorem execCompletionArrives_only (ingress : Fin 177) (x : Tlp) (poison : Bool) (s : State) {ps : List Part} {s0_ : State} (hO : OnlyChanges ps s0_ s) (hW : within [.groups, .lanes, .ports, .scans, .paths, .slots, .tracker, .poolLines, .sources, .views, .outputs] ps = true)  : ∀ t_, (execCompletionArrives ingress x poison s) = .next t_ → OnlyChanges ps s0_ t_ := by
  unfold execCompletionArrives
  try dsimp only
  repeat' (first | with_reducible assumption | (with_reducible rintro _ ⟨⟩) | (with_reducible first | (refine checked_only _ _ _ _ ?_ ?_ ?_) | (apply State.raise_only) | (apply State.bump_only) | (apply State.emitOn_only) | (apply State.setTrack_only) | (apply State.completion_only)) | (exact within_trans rfl hW) | split | (with_reducible intro _) )

theorem execTrackerTimeout_only (i : Fin 262144) (s : State) {ps : List Part} {s0_ : State} (hO : OnlyChanges ps s0_ s) (hW : within [.groups, .lanes, .ports, .scans, .paths, .hiers, .bridges, .tracker, .poolLines, .sources, .views, .outputs] ps = true)  : ∀ t_, (execTrackerTimeout i s) = .next t_ → OnlyChanges ps s0_ t_ := by
  unfold execTrackerTimeout
  try dsimp only
  repeat' (first | with_reducible assumption | (with_reducible rintro _ ⟨⟩) | (with_reducible first | (refine guarded_only _ _ _ ?_ ?_ ?_) | (apply State.reportEntry_only) | (apply State.aer_only) | (apply State.ifDo_only) | (apply State.prefetchLost_only) | (apply State.expire_only) | (apply State.raise_only) | (apply State.bump_only)) | (exact within_trans rfl hW) | split | (with_reducible intro _) )

theorem execQuarantineEnd_only (i : Fin 262144) (s : State) {ps : List Part} {s0_ : State} (hO : OnlyChanges ps s0_ s) (hW : within [.tracker] ps = true)  : ∀ t_, (execQuarantineEnd i s) = .next t_ → OnlyChanges ps s0_ t_ := by
  unfold execQuarantineEnd
  try dsimp only
  repeat' (first | with_reducible assumption | (with_reducible rintro _ ⟨⟩) | (with_reducible first | (refine guarded_only _ _ _ ?_ ?_ ?_) | (apply State.freeTrack_only)) | (exact within_trans rfl hW) | split | (with_reducible intro _) )

theorem execLinkDown_only (p : Fin 160) (s : State) {ps : List Part} {s0_ : State} (hO : OnlyChanges ps s0_ s) (hW : within [.inflight, .groups, .lanes, .ports, .scans, .frames, .matcher, .paths, .hiers, .bridges, .slots, .tracker, .channels, .pwf, .trunks, .devices, .extents, .poolLines, .poolEvents, .ledger, .homeSlots, .departed, .qps, .cqs, .regions, .funcs, .vectors, .instances, .cmdOrder, .masterWait, .irqPending, .sources, .mirror, .sessions, .views, .outputs, .free] ps = true)  : ∀ t_, (execLinkDown p s) = .next t_ → OnlyChanges ps s0_ t_ := by
  unfold execLinkDown
  try dsimp only
  repeat' (first | with_reducible assumption | (with_reducible rintro _ ⟨⟩) | (with_reducible first | (refine guarded_only _ _ _ ?_ ?_ ?_) | (apply State.portDown_only) | (apply State.linkLost_only)) | (exact within_trans rfl hW) | split | (with_reducible intro _) )

theorem execFarTagAssigned_only (port : Fin 160) (s : State) {ps : List Part} {s0_ : State} (hO : OnlyChanges ps s0_ s) (hW : within [.frames, .tracker] ps = true)  : ∀ t_, (execFarTagAssigned port s) = .next t_ → OnlyChanges ps s0_ t_ := by
  unfold execFarTagAssigned
  try dsimp only
  repeat' (first | with_reducible assumption | (with_reducible rintro _ ⟨⟩) | (with_reducible first | (refine guarded_only _ _ _ ?_ ?_ ?_) | (apply State.grantEntry_only) | (apply State.unwait_only)) | (exact within_trans rfl hW) | split | (with_reducible intro _) )

theorem execPrefetchHoldExpiry_only (window : Fin 1024) (s : State) {ps : List Part} {s0_ : State} (hO : OnlyChanges ps s0_ s) (hW : within [.tracker, .sources, .views] ps = true)  : ∀ t_, (execPrefetchHoldExpiry window s) = .next t_ → OnlyChanges ps s0_ t_ := by
  unfold execPrefetchHoldExpiry
  try dsimp only
  repeat' (first | with_reducible assumption | (with_reducible rintro _ ⟨⟩) | (with_reducible first | (refine guarded_only _ _ _ ?_ ?_ ?_) | (apply State.discardHold_only)) | (exact within_trans rfl hW) | split | (with_reducible intro _) )

theorem execDoorbellRing_only (v : Fin 64) (c : Fin 1024) (set : BitVec 32) (s : State) {ps : List Part} {s0_ : State} (hO : OnlyChanges ps s0_ s) (hW : within [.channels] ps = true)  : ∀ t_, (execDoorbellRing v c set s) = .next t_ → OnlyChanges ps s0_ t_ := by
  unfold execDoorbellRing
  try dsimp only
  repeat' (first | with_reducible assumption | (with_reducible rintro _ ⟨⟩) | (with_reducible first | (refine guarded_only _ _ _ ?_ ?_ ?_) | (apply State.setChannel_only)) | (exact within_trans rfl hW) | split | (with_reducible intro _) )

theorem execDoorbellStatusClear_only (v : Fin 64) (c : Fin 1024) (clear : BitVec 32) (s : State) {ps : List Part} {s0_ : State} (hO : OnlyChanges ps s0_ s) (hW : within [.channels] ps = true)  : ∀ t_, (execDoorbellStatusClear v c clear s) = .next t_ → OnlyChanges ps s0_ t_ := by
  unfold execDoorbellStatusClear
  try dsimp only
  repeat' (first | with_reducible assumption | (with_reducible rintro _ ⟨⟩) | (with_reducible first | (refine guarded_only _ _ _ ?_ ?_ ?_) | (apply State.setChannel_only)) | (exact within_trans rfl hW) | split | (with_reducible intro _) )

theorem execPwfReceived_only (src : Fin 4096) (far : Fin 4096) (label : BitVec 32) (req : BitVec 16) (page : BitVec 52) (cause : BitVec 8) (farStamp : BitVec 64) (s : State) {ps : List Part} {s0_ : State} (hO : OnlyChanges ps s0_ s) (hW : within [.groups, .lanes, .ports, .scans, .hiers, .qps, .cqs, .regions, .funcs, .vectors, .instances, .sources, .mirror, .views, .outputs, .free] ps = true)  : ∀ t_, (execPwfReceived src far label req page cause farStamp s) = .next t_ → OnlyChanges ps s0_ t_ := by
  unfold execPwfReceived
  try dsimp only
  repeat' (first | with_reducible assumption | (with_reducible rintro _ ⟨⟩) | (with_reducible first | (refine guarded_only _ _ _ ?_ ?_ ?_) | (apply State.pwfBeryl_only) | (apply State.pwfLog_only)) | (exact within_trans rfl hW) | split | (with_reducible intro _) )

theorem execFlitReceived_only (port : Fin 161) (now : Nat) (wire : Wire) (s : State) {ps : List Part} {s0_ : State} (hO : OnlyChanges ps s0_ s) (hW : within [.inflight, .groups, .lanes, .ports, .scans, .frames, .matcher, .paths, .hiers, .bridges, .tracker, .pwf, .trunks, .ledger, .homeSlots, .funcs, .vectors, .instances, .masterWait, .irqPending, .sources, .pairing, .mirror, .sessions, .views, .outputs] ps = true)  : ∀ t_, (execFlitReceived port now wire s) = .next t_ → OnlyChanges ps s0_ t_ := by
  unfold execFlitReceived
  try dsimp only
  repeat' (first | with_reducible assumption | (with_reducible rintro _ ⟨⟩) | (with_reducible first | (refine guarded_only _ _ _ ?_ ?_ ?_) | (apply State.flit_only) | (apply State.garnetWord_only) | (apply State.trunkWords_only)) | (exact within_trans rfl hW) | split | (with_reducible intro _) )

theorem execReplayTimerExpiry_only (port : Fin 161) (now : Nat) (s : State) {ps : List Part} {s0_ : State} (hO : OnlyChanges ps s0_ s) (hW : within [.inflight, .lanes, .ports, .scans, .frames, .matcher, .tracker, .trunks, .sources, .views, .outputs] ps = true)  : ∀ t_, (execReplayTimerExpiry port now s) = .next t_ → OnlyChanges ps s0_ t_ := by
  unfold execReplayTimerExpiry
  try dsimp only
  repeat' (first | with_reducible assumption | (with_reducible rintro _ ⟨⟩) | (with_reducible first | (refine guarded_only _ _ _ ?_ ?_ ?_) | (apply State.replay_only)) | (exact within_trans rfl hW) | split | (with_reducible intro _) )

theorem execRttProbe_only (port : Fin 161) (now : Nat) (s : State) {ps : List Part} {s0_ : State} (hO : OnlyChanges ps s0_ s) (hW : within [.trunks, .outputs] ps = true)  : ∀ t_, (execRttProbe port now s) = .next t_ → OnlyChanges ps s0_ t_ := by
  unfold execRttProbe
  try dsimp only
  repeat' (first | with_reducible assumption | (with_reducible rintro _ ⟨⟩) | (with_reducible first | (refine guarded_only _ _ _ ?_ ?_ ?_) | (apply State.sendFlit_only) | (apply State.setTrunk_only)) | (exact within_trans rfl hW) | split | (with_reducible intro _) )

theorem execQuietEntry_only (port : Fin 160) (s : State) {ps : List Part} {s0_ : State} (hO : OnlyChanges ps s0_ s) (hW : within [.lanes, .trunks, .outputs] ps = true)  : ∀ t_, (execQuietEntry port s) = .next t_ → OnlyChanges ps s0_ t_ := by
  unfold execQuietEntry
  try dsimp only
  repeat' (first | with_reducible assumption | (with_reducible rintro _ ⟨⟩) | (with_reducible first | (refine guarded_only _ _ _ ?_ ?_ ?_) | (apply State.each_only) | (apply State.setLane_only) | (apply State.sendFlit_only) | (apply State.setTrunk_only)) | (exact within_trans rfl hW) | split | (with_reducible intro _) )

theorem execQuietExit_only (port : Fin 160) (s : State) {ps : List Part} {s0_ : State} (hO : OnlyChanges ps s0_ s) (hW : within [.lanes, .trunks, .outputs] ps = true)  : ∀ t_, (execQuietExit port s) = .next t_ → OnlyChanges ps s0_ t_ := by
  unfold execQuietExit
  try dsimp only
  repeat' (first | with_reducible assumption | (with_reducible rintro _ ⟨⟩) | (with_reducible first | (refine guarded_only _ _ _ ?_ ?_ ?_) | (apply State.emit_only) | (apply State.each_only) | (apply State.setLane_only) | (apply State.setTrunk_only)) | (exact within_trans rfl hW) | split | (with_reducible intro _) )

theorem execEnumerationDone_only (d : Fin 256) (ok : Bool) (capacity : BitVec 64) (serial : BitVec 64) (s : State) {ps : List Part} {s0_ : State} (hO : OnlyChanges ps s0_ s) (hW : within [.devices, .extents, .poolLines, .sources, .mirror, .views, .outputs] ps = true)  : ∀ t_, (execEnumerationDone d ok capacity serial s) = .next t_ → OnlyChanges ps s0_ t_ := by
  unfold execEnumerationDone
  try dsimp only
  repeat' (first | with_reducible assumption | (with_reducible rintro _ ⟨⟩) | (with_reducible first | (refine guarded_only _ _ _ ?_ ?_ ?_) | (apply State.raise_only) | (apply State.setDevice_only) | (apply State.refreshExtents_only) | (apply State.emit_only)) | (exact within_trans rfl hW) | split | (with_reducible intro _) )

theorem execScrubStart_only (x : Fin 4096) (m : Fin 256) (s : State) {ps : List Part} {s0_ : State} (hO : OnlyChanges ps s0_ s) (hW : within [.extents, .outputs] ps = true)  : ∀ t_, (execScrubStart x m s) = .next t_ → OnlyChanges ps s0_ t_ := by
  unfold execScrubStart
  try dsimp only
  repeat' (first | with_reducible assumption | (with_reducible rintro _ ⟨⟩) | (with_reducible first | (refine guarded_only _ _ _ ?_ ?_ ?_) | (apply State.emit_only) | (apply State.setExtent_only)) | (exact within_trans rfl hW) | split | (with_reducible intro _) )

theorem execScrubDone_only (x : Fin 4096) (m : Fin 256) (ok : Bool) (s : State) {ps : List Part} {s0_ : State} (hO : OnlyChanges ps s0_ s) (hW : within [.extents, .sources, .mirror] ps = true)  : ∀ t_, (execScrubDone x m ok s) = .next t_ → OnlyChanges ps s0_ t_ := by
  unfold execScrubDone
  try dsimp only
  repeat' (first | with_reducible assumption | (with_reducible rintro _ ⟨⟩) | (with_reducible first | (refine guarded_only _ _ _ ?_ ?_ ?_) | (apply State.setExtent_only) | (apply State.setExtState_only) | (apply State.raise_only)) | (exact within_trans rfl hW) | split | (with_reducible intro _) )

theorem execAddCapacityResponse_only (x : Fin 4096) (accept : Bool) (s : State) {ps : List Part} {s0_ : State} (hO : OnlyChanges ps s0_ s) (hW : within [.extents, .mirror] ps = true)  : ∀ t_, (execAddCapacityResponse x accept s) = .next t_ → OnlyChanges ps s0_ t_ := by
  unfold execAddCapacityResponse
  try dsimp only
  repeat' (first | with_reducible assumption | (with_reducible rintro _ ⟨⟩) | (with_reducible first | (refine guarded_only _ _ _ ?_ ?_ ?_) | (apply State.setExtent_only) | (apply State.setExtState_only)) | (exact within_trans rfl hW) | split | (with_reducible intro _) )

theorem execReleaseCapacityResponse_only (x : Fin 4096) (s : State) {ps : List Part} {s0_ : State} (hO : OnlyChanges ps s0_ s) (hW : within [.extents] ps = true)  : ∀ t_, (execReleaseCapacityResponse x s) = .next t_ → OnlyChanges ps s0_ t_ := by
  unfold execReleaseCapacityResponse
  try dsimp only
  repeat' (first | with_reducible assumption | (with_reducible rintro _ ⟨⟩) | (with_reducible first | (refine guarded_only _ _ _ ?_ ?_ ?_) | (apply State.setExtent_only)) | (exact within_trans rfl hW) | split | (with_reducible intro _) )

theorem execDcAnswerTimeout_only (x : Fin 4096) (s : State) {ps : List Part} {s0_ : State} (hO : OnlyChanges ps s0_ s) (hW : within [.extents, .sources] ps = true)  : ∀ t_, (execDcAnswerTimeout x s) = .next t_ → OnlyChanges ps s0_ t_ := by
  unfold execDcAnswerTimeout
  try dsimp only
  repeat' (first | with_reducible assumption | (with_reducible rintro _ ⟨⟩) | (with_reducible first | (refine guarded_only _ _ _ ?_ ?_ ?_) | (apply State.raise_only) | (apply State.setExtent_only)) | (exact within_trans rfl hW) | split | (with_reducible intro _) )

theorem execCxlMemRequest_only (v : Fin 64) (e : Fin 1024) (addr : BitVec 64) (write : Bool) (tag : BitVec 16) (line : LineData) (poison : Bool) (s : State) {ps : List Part} {s0_ : State} (hO : OnlyChanges ps s0_ s) (hW : within [.groups, .lanes, .ports, .scans, .hiers, .bridges, .tracker, .poolLines, .sources, .views, .outputs] ps = true)  : ∀ t_, (execCxlMemRequest v e addr write tag line poison s) = .next t_ → OnlyChanges ps s0_ t_ := by
  unfold execCxlMemRequest
  try dsimp only
  repeat' (first | with_reducible assumption | (with_reducible rintro _ ⟨⟩) | (with_reducible first | (refine guarded_only _ _ _ ?_ ?_ ?_) | (apply State.memSeek_only) | (apply State.discardLines_only) | (apply State.emitOn_only) | (apply State.bump_only)) | (exact within_trans rfl hW) | split | (with_reducible first | (apply State.poolLines_update)) | ((with_reducible refine OnlyChanges.update ?_ ?_); (on_goal 2 => ((with_reducible intro p hp); (fail_if_success (with_reducible exact Part.same_refl _ _)); cases p <;> first | exact (OnlyChanges.mem hW hp rfl).elim | exact rfl | (and_intros <;> exact rfl)))) | (with_reducible intro _) )

theorem execPoolPrefetchExpiry_only (x : Fin 4096) (granule : Nat) (s : State) {ps : List Part} {s0_ : State} (hO : OnlyChanges ps s0_ s) (hW : within [.poolLines, .sources, .views] ps = true)  : ∀ t_, (execPoolPrefetchExpiry x granule s) = .next t_ → OnlyChanges ps s0_ t_ := by
  unfold execPoolPrefetchExpiry
  try dsimp only
  repeat' (first | with_reducible assumption | (with_reducible rintro _ ⟨⟩) | (with_reducible first | (refine guarded_only _ _ _ ?_ ?_ ?_) | (apply State.discardLines_only)) | (exact within_trans rfl hW) | split | (with_reducible intro _) )

theorem execIdentifyMemoryDevice_only (e : Fin 1024) (s : State) {ps : List Part} {s0_ : State} (hO : OnlyChanges ps s0_ s) (hW : within [.outputs] ps = true)  : ∀ t_, (execIdentifyMemoryDevice e s) = .next t_ → OnlyChanges ps s0_ t_ := by
  unfold execIdentifyMemoryDevice
  try dsimp only
  repeat' (first | with_reducible assumption | (with_reducible rintro _ ⟨⟩) | (with_reducible first | (refine guarded_only _ _ _ ?_ ?_ ?_) | (apply State.emit_only)) | (exact within_trans rfl hW) | split | (with_reducible intro _) )

theorem execGetPartitionInfo_only (e : Fin 1024) (s : State) {ps : List Part} {s0_ : State} (hO : OnlyChanges ps s0_ s) (hW : within [.outputs] ps = true)  : ∀ t_, (execGetPartitionInfo e s) = .next t_ → OnlyChanges ps s0_ t_ := by
  unfold execGetPartitionInfo
  try dsimp only
  repeat' (first | with_reducible assumption | (with_reducible rintro _ ⟨⟩) | (with_reducible first | (refine guarded_only _ _ _ ?_ ?_ ?_) | (apply State.emit_only)) | (exact within_trans rfl hW) | split | (with_reducible intro _) )

theorem execGetEventRecords_only (e : Fin 1024) (s : State) {ps : List Part} {s0_ : State} (hO : OnlyChanges ps s0_ s) (hW : within [.outputs] ps = true)  : ∀ t_, (execGetEventRecords e s) = .next t_ → OnlyChanges ps s0_ t_ := by
  unfold execGetEventRecords
  try dsimp only
  repeat' (first | with_reducible assumption | (with_reducible rintro _ ⟨⟩) | (with_reducible first | (refine guarded_only _ _ _ ?_ ?_ ?_) | (apply State.emit_only)) | (exact within_trans rfl hW) | split | (with_reducible intro _) )

theorem execClearEventRecords_only (e : Fin 1024) (handles : List (BitVec 16)) (s : State) {ps : List Part} {s0_ : State} (hO : OnlyChanges ps s0_ s) (hW : within [.poolEvents, .outputs] ps = true)  : ∀ t_, (execClearEventRecords e handles s) = .next t_ → OnlyChanges ps s0_ t_ := by
  unfold execClearEventRecords
  try dsimp only
  repeat' (first | with_reducible assumption | (with_reducible rintro _ ⟨⟩) | (with_reducible first | (refine guarded_only _ _ _ ?_ ?_ ?_) | (apply State.emit_only)) | (exact within_trans rfl hW) | split | (with_reducible first | (apply State.poolEvents_update)) | ((with_reducible refine OnlyChanges.update ?_ ?_); (on_goal 2 => ((with_reducible intro p hp); (fail_if_success (with_reducible exact Part.same_refl _ _)); cases p <;> first | exact (OnlyChanges.mem hW hp rfl).elim | exact rfl | (and_intros <;> exact rfl)))) | (with_reducible intro _) )

theorem execRds_only (v : Fin 64) (r : Fin 256) (p : BitVec 34) (l : Fin 64) (tag : CohTag) (s : State) {ps : List Part} {s0_ : State} (hO : OnlyChanges ps s0_ s) (hW : within [.groups, .lanes, .ports, .scans, .hiers, .bridges, .tracker, .trunks, .ledger, .homeSlots, .funcs, .masterWait, .sources, .mirror, .views, .outputs] ps = true)  : ∀ t_, (execRds v r p l tag s) = .next t_ → OnlyChanges ps s0_ t_ := by
  unfold execRds
  try dsimp only
  repeat' (first | with_reducible assumption | (with_reducible rintro _ ⟨⟩) | (with_reducible first | (refine cohRead_only _ _ _ _ _ _ _ _ ?_ ?_)) | (exact within_trans rfl hW) | split | (with_reducible intro _) )

theorem execRdown_only (v : Fin 64) (r : Fin 256) (p : BitVec 34) (l : Fin 64) (tag : BitVec 16) (s : State) {ps : List Part} {s0_ : State} (hO : OnlyChanges ps s0_ s) (hW : within [.groups, .lanes, .ports, .scans, .hiers, .bridges, .tracker, .trunks, .ledger, .homeSlots, .funcs, .masterWait, .sources, .mirror, .views, .outputs] ps = true)  : ∀ t_, (execRdown v r p l tag s) = .next t_ → OnlyChanges ps s0_ t_ := by
  unfold execRdown
  try dsimp only
  repeat' (first | with_reducible assumption | (with_reducible rintro _ ⟨⟩) | (with_reducible first | (refine cohRead_only _ _ _ _ _ _ _ _ ?_ ?_)) | (exact within_trans rfl hW) | split | (with_reducible intro _) )

theorem execOwn_only (v : Fin 64) (r : Fin 256) (p : BitVec 34) (l : Fin 64) (tag : CohTag) (s : State) {ps : List Part} {s0_ : State} (hO : OnlyChanges ps s0_ s) (hW : within [.groups, .lanes, .ports, .scans, .hiers, .bridges, .tracker, .trunks, .ledger, .homeSlots, .funcs, .masterWait, .sources, .mirror, .views, .outputs] ps = true)  : ∀ t_, (execOwn v r p l tag s) = .next t_ → OnlyChanges ps s0_ t_ := by
  unfold execOwn
  try dsimp only
  repeat' (first | with_reducible assumption | (with_reducible rintro _ ⟨⟩) | (with_reducible first | (refine cohRead_only _ _ _ _ _ _ _ _ ?_ ?_)) | (exact within_trans rfl hW) | split | (with_reducible intro _) )

theorem execRdcur_only (v : Fin 64) (r : Fin 256) (p : BitVec 34) (l : Fin 64) (tag : BitVec 16) (s : State) {ps : List Part} {s0_ : State} (hO : OnlyChanges ps s0_ s) (hW : within [.groups, .lanes, .ports, .scans, .hiers, .bridges, .tracker, .trunks, .ledger, .homeSlots, .funcs, .masterWait, .sources, .mirror, .views, .outputs] ps = true)  : ∀ t_, (execRdcur v r p l tag s) = .next t_ → OnlyChanges ps s0_ t_ := by
  unfold execRdcur
  try dsimp only
  repeat' (first | with_reducible assumption | (with_reducible rintro _ ⟨⟩) | (with_reducible first | (refine cohRead_only _ _ _ _ _ _ _ _ ?_ ?_)) | (exact within_trans rfl hW) | split | (with_reducible intro _) )

theorem execMemspecrd_only (v : Fin 64) (r : Fin 256) (p : BitVec 34) (l : Fin 64) (s : State) {ps : List Part} {s0_ : State} (hO : OnlyChanges ps s0_ s) (hW : within [] ps = true)  : ∀ t_, (execMemspecrd v r p l s) = .next t_ → OnlyChanges ps s0_ t_ := by
  unfold execMemspecrd
  exact guarded_only _ _ _ hO rfl (fun _ h1 => h1)

theorem execEvc_only (v : Fin 64) (r : Fin 256) (p : BitVec 34) (l : Fin 64) (s : State) {ps : List Part} {s0_ : State} (hO : OnlyChanges ps s0_ s) (hW : within [.groups, .lanes, .ports, .scans, .hiers, .bridges, .tracker, .trunks, .ledger, .homeSlots, .funcs, .masterWait, .sources, .mirror, .views, .outputs] ps = true)  : ∀ t_, (execEvc v r p l s) = .next t_ → OnlyChanges ps s0_ t_ := by
  unfold execEvc
  try dsimp only
  repeat' (first | with_reducible assumption | (with_reducible rintro _ ⟨⟩) | (with_reducible first | (refine cohWrite_only _ _ _ _ _ _ _ _ _ _ ?_ ?_)) | (exact within_trans rfl hW) | split | (with_reducible intro _) )

theorem execEvd_only (v : Fin 64) (r : Fin 256) (p : BitVec 34) (l : Fin 64) (line : LineData) (s : State) {ps : List Part} {s0_ : State} (hO : OnlyChanges ps s0_ s) (hW : within [.groups, .lanes, .ports, .scans, .hiers, .bridges, .tracker, .trunks, .ledger, .homeSlots, .funcs, .masterWait, .sources, .mirror, .views, .outputs] ps = true)  : ∀ t_, (execEvd v r p l line s) = .next t_ → OnlyChanges ps s0_ t_ := by
  unfold execEvd
  try dsimp only
  repeat' (first | with_reducible assumption | (with_reducible rintro _ ⟨⟩) | (with_reducible first | (refine cohWrite_only _ _ _ _ _ _ _ _ _ _ ?_ ?_)) | (exact within_trans rfl hW) | split | (with_reducible intro _) )

theorem execWr_only (v : Fin 64) (r : Fin 256) (p : BitVec 34) (l : Fin 64) (w : LineWrite) (s : State) {ps : List Part} {s0_ : State} (hO : OnlyChanges ps s0_ s) (hW : within [.groups, .lanes, .ports, .scans, .hiers, .bridges, .tracker, .trunks, .ledger, .homeSlots, .funcs, .masterWait, .sources, .mirror, .views, .outputs] ps = true)  : ∀ t_, (execWr v r p l w s) = .next t_ → OnlyChanges ps s0_ t_ := by
  unfold execWr
  try dsimp only
  repeat' (first | with_reducible assumption | (with_reducible rintro _ ⟨⟩) | (with_reducible first | (refine cohWrite_only _ _ _ _ _ _ _ _ _ _ ?_ ?_)) | (exact within_trans rfl hW) | split | (with_reducible intro _) )

theorem execWbkeep_only (v : Fin 64) (r : Fin 256) (p : BitVec 34) (l : Fin 64) (line : LineData) (toShared : Bool) (s : State) {ps : List Part} {s0_ : State} (hO : OnlyChanges ps s0_ s) (hW : within [.groups, .lanes, .ports, .scans, .hiers, .bridges, .tracker, .trunks, .ledger, .homeSlots, .funcs, .masterWait, .sources, .mirror, .views, .outputs] ps = true)  : ∀ t_, (execWbkeep v r p l line toShared s) = .next t_ → OnlyChanges ps s0_ t_ := by
  unfold execWbkeep
  try dsimp only
  repeat' (first | with_reducible assumption | (with_reducible rintro _ ⟨⟩) | (with_reducible first | (refine cohWrite_only _ _ _ _ _ _ _ _ _ _ ?_ ?_)) | (exact within_trans rfl hW) | split | (with_reducible intro _) )

theorem execHitKeep_only (v : Fin 64) (r : Fin 256) (p : BitVec 34) (l : Fin 64) (excl : Bool) (block : Bool) (s : State) {ps : List Part} {s0_ : State} (hO : OnlyChanges ps s0_ s) (hW : within [.groups, .lanes, .ports, .scans, .tracker, .trunks, .ledger, .homeSlots, .funcs, .masterWait, .sources, .mirror, .views, .outputs] ps = true)  : ∀ t_, (execHitKeep v r p l excl block s) = .next t_ → OnlyChanges ps s0_ t_ := by
  unfold execHitKeep
  try dsimp only
  repeat' (first | with_reducible assumption | (with_reducible rintro _ ⟨⟩) | (with_reducible first | (refine guarded_only _ _ _ ?_ ?_ ?_) | (apply State.blockResponse_only) | (apply State.hitKeep_only)) | (exact within_trans rfl hW) | split | (with_reducible intro _) )

theorem execHitDrop_only (v : Fin 64) (r : Fin 256) (p : BitVec 34) (l : Fin 64) (block : Bool) (s : State) {ps : List Part} {s0_ : State} (hO : OnlyChanges ps s0_ s) (hW : within [.groups, .lanes, .ports, .scans, .tracker, .trunks, .ledger, .homeSlots, .funcs, .masterWait, .sources, .mirror, .views, .outputs] ps = true)  : ∀ t_, (execHitDrop v r p l block s) = .next t_ → OnlyChanges ps s0_ t_ := by
  unfold execHitDrop
  try dsimp only
  repeat' (first | with_reducible assumption | (with_reducible rintro _ ⟨⟩) | (with_reducible first | (refine guarded_only _ _ _ ?_ ?_ ?_) | (apply State.blockResponse_only) | (apply State.hitDrop_only)) | (exact within_trans rfl hW) | split | (with_reducible intro _) )

theorem execMiss_only (v : Fin 64) (r : Fin 256) (p : BitVec 34) (l : Fin 64) (s : State) {ps : List Part} {s0_ : State} (hO : OnlyChanges ps s0_ s) (hW : within [.groups, .lanes, .ports, .scans, .tracker, .trunks, .ledger, .homeSlots, .funcs, .masterWait, .sources, .mirror, .views, .outputs] ps = true)  : ∀ t_, (execMiss v r p l s) = .next t_ → OnlyChanges ps s0_ t_ := by
  unfold execMiss
  try dsimp only
  repeat' (first | with_reducible assumption | (with_reducible rintro _ ⟨⟩) | (with_reducible first | (refine guarded_only _ _ _ ?_ ?_ ?_) | (apply State.missed_only)) | (exact within_trans rfl hW) | split | (with_reducible intro _) )

theorem execBiconflict_only (v : Fin 64) (r : Fin 256) (p : BitVec 34) (l : Fin 64) (s : State) {ps : List Part} {s0_ : State} (hO : OnlyChanges ps s0_ s) (hW : within [.groups, .lanes, .ports, .scans, .views, .outputs] ps = true)  : ∀ t_, (execBiconflict v r p l s) = .next t_ → OnlyChanges ps s0_ t_ := by
  unfold execBiconflict
  try dsimp only
  repeat' (first | with_reducible assumption | (with_reducible rintro _ ⟨⟩) | (with_reducible first | (refine guarded_only _ _ _ ?_ ?_ ?_) | (apply State.bump_only) | (apply State.emitOn_only)) | (exact within_trans rfl hW) | split | (with_reducible intro _) )

theorem execMemoryData_only (r : Fin 256) (p : BitVec 34) (l : Fin 64) (data : BitVec 512) (poison : Bool) (s : State) {ps : List Part} {s0_ : State} (hO : OnlyChanges ps s0_ s) (hW : within [.groups, .lanes, .ports, .scans, .tracker, .trunks, .ledger, .homeSlots, .funcs, .masterWait, .sources, .mirror, .views, .outputs] ps = true)  : ∀ t_, (execMemoryData r p l data poison s) = .next t_ → OnlyChanges ps s0_ t_ := by
  unfold execMemoryData
  try dsimp only
  repeat' (first | with_reducible assumption | (with_reducible rintro _ ⟨⟩) | (with_reducible first | (refine guarded_only _ _ _ ?_ ?_ ?_) | (apply State.memoryData_only)) | (exact within_trans rfl hW) | split | (with_reducible intro _) )

theorem execWriteDone_only (r : Fin 256) (p : BitVec 34) (l : Fin 64) (s : State) {ps : List Part} {s0_ : State} (hO : OnlyChanges ps s0_ s) (hW : within [.groups, .lanes, .ports, .scans, .tracker, .trunks, .ledger, .homeSlots, .funcs, .masterWait, .sources, .mirror, .views, .outputs] ps = true)  : ∀ t_, (execWriteDone r p l s) = .next t_ → OnlyChanges ps s0_ t_ := by
  unfold execWriteDone
  try dsimp only
  repeat' (first | with_reducible assumption | (with_reducible rintro _ ⟨⟩) | (with_reducible first | (refine guarded_only _ _ _ ?_ ?_ ?_) | (apply State.writeDone_only)) | (exact within_trans rfl hW) | split | (with_reducible intro _) )

theorem execRecallDone_only (r : Fin 256) (p : BitVec 34) (s : State) {ps : List Part} {s0_ : State} (hO : OnlyChanges ps s0_ s) (hW : within [.groups, .lanes, .ports, .scans, .tracker, .trunks, .ledger, .homeSlots, .funcs, .masterWait, .sources, .mirror, .views, .outputs] ps = true)  : ∀ t_, (execRecallDone r p s) = .next t_ → OnlyChanges ps s0_ t_ := by
  unfold execRecallDone
  try dsimp only
  repeat' (first | with_reducible assumption | (with_reducible rintro _ ⟨⟩) | (with_reducible first | (refine guarded_only _ _ _ ?_ ?_ ?_) | (apply State.retryAllocs_only) | (apply State.mirror_only)) | (exact within_trans rfl hW) | split | (with_reducible first | (apply State.ledger_update)) | ((with_reducible refine OnlyChanges.update ?_ ?_); (on_goal 2 => ((with_reducible intro p hp); (fail_if_success (with_reducible exact Part.same_refl _ _)); cases p <;> first | exact (OnlyChanges.mem hW hp rfl).elim | exact rfl | (and_intros <;> exact rfl)))) | (with_reducible intro _) )

theorem execSnoopTimeout_only (r : Fin 256) (p : BitVec 34) (l : Fin 64) (v : Fin 64) (s : State) {ps : List Part} {s0_ : State} (hO : OnlyChanges ps s0_ s) (hW : within [.groups, .lanes, .ports, .scans, .hiers, .bridges, .tracker, .trunks, .ledger, .homeSlots, .departed, .funcs, .masterWait, .sources, .mirror, .views, .outputs] ps = true)  : ∀ t_, (execSnoopTimeout r p l v s) = .next t_ → OnlyChanges ps s0_ t_ := by
  unfold execSnoopTimeout
  try dsimp only
  repeat' (first | with_reducible assumption | (with_reducible rintro _ ⟨⟩) | (with_reducible first | (refine guarded_only _ _ _ ?_ ?_ ?_) | (apply State.depart_only) | (apply State.each_only) | (apply State.bridgeLink_only) | (apply State.bridgePresence_only) | (apply State.raise_only) | (apply State.bump_only)) | (exact within_trans rfl hW) | split | (with_reducible first | (apply State.departed_update)) | ((with_reducible refine OnlyChanges.update ?_ ?_); (on_goal 2 => ((with_reducible intro p hp); (fail_if_success (with_reducible exact Part.same_refl _ _)); cases p <;> first | exact (OnlyChanges.mem hW hp rfl).elim | exact rfl | (and_intros <;> exact rfl)))) | (with_reducible intro _) )

theorem execSweepDone_only (r : Fin 256) (v : Fin 64) (s : State) {ps : List Part} {s0_ : State} (hO : OnlyChanges ps s0_ s) (hW : within [.groups, .lanes, .ports, .scans, .tracker, .trunks, .ledger, .homeSlots, .departed, .funcs, .masterWait, .sources, .mirror, .views, .outputs] ps = true)  : ∀ t_, (execSweepDone r v s) = .next t_ → OnlyChanges ps s0_ t_ := by
  unfold execSweepDone
  try dsimp only
  repeat' (first | with_reducible assumption | (with_reducible rintro _ ⟨⟩) | (with_reducible first | (refine guarded_only _ _ _ ?_ ?_ ?_) | (apply State.sweepDone_only)) | (exact within_trans rfl hW) | split | (with_reducible intro _) )

theorem execLedgerScrubRead_only (error : Fin 4) (s : State) {ps : List Part} {s0_ : State} (hO : OnlyChanges ps s0_ s) (hW : within [.groups, .lanes, .ports, .scans, .ledger, .homeSlots, .sources, .mirror, .views, .outputs] ps = true)  : ∀ t_, (execLedgerScrubRead error s) = .next t_ → OnlyChanges ps s0_ t_ := by
  unfold execLedgerScrubRead
  try dsimp only
  repeat' (first | with_reducible assumption | (with_reducible rintro _ ⟨⟩) | (with_reducible first | (refine guarded_only _ _ _ ?_ ?_ ?_) | (apply State.raise_only) | (apply State.bump_only) | (apply State.resetIfOwed_only) | (apply State.duePageReset_only) | (apply State.retireLedgerBank_only)) | (exact within_trans rfl hW) | split | (with_reducible first | (apply State.ledger_update)) | ((with_reducible refine OnlyChanges.update ?_ ?_); (on_goal 2 => ((with_reducible intro p hp); (fail_if_success (with_reducible exact Part.same_refl _ _)); cases p <;> first | exact (OnlyChanges.mem hW hp rfl).elim | exact rfl | (and_intros <;> exact rfl)))) | (with_reducible intro _) )

theorem execLedgerBankRetired_only (b : Fin 16) (s : State) {ps : List Part} {s0_ : State} (hO : OnlyChanges ps s0_ s) (hW : within [.groups, .lanes, .ports, .scans, .tracker, .trunks, .ledger, .homeSlots, .funcs, .masterWait, .sources, .mirror, .views, .outputs] ps = true)  : ∀ t_, (execLedgerBankRetired b s) = .next t_ → OnlyChanges ps s0_ t_ := by
  unfold execLedgerBankRetired
  try dsimp only
  repeat' (first | with_reducible assumption | (with_reducible rintro _ ⟨⟩) | (with_reducible first | (refine guarded_only _ _ _ ?_ ?_ ?_) | (apply State.retryAllocs_only) | (apply State.raise_only) | (apply State.setLedgerBank_only)) | (exact within_trans rfl hW) | split | (with_reducible intro _) )

theorem execPageQuery_only (q : BitVec 64) (s : State) {ps : List Part} {s0_ : State} (hO : OnlyChanges ps s0_ s) (hW : within [.views, .outputs] ps = true)  : ∀ t_, (execPageQuery q s) = .next t_ → OnlyChanges ps s0_ t_ := by
  unfold execPageQuery
  try dsimp only
  repeat' (first | with_reducible assumption | (with_reducible rintro _ ⟨⟩) | (with_reducible first | (refine commandWrite_only _ _ ?_ ?_ ?_) | (apply State.answer_only) | (apply State.setView_only)) | (exact within_trans rfl hW) | split | (with_reducible intro _) )

theorem execCreateCq_only (v : Fin 64) (k : Fin 16) (i : Fin 4096) (low : BitVec 44) (ws : List (BitVec 64)) (s : State) {ps : List Part} {s0_ : State} (hO : OnlyChanges ps s0_ s) (hW : within [.groups, .lanes, .ports, .scans, .qps, .cqs, .regions, .funcs, .vectors, .instances, .cmdOrder, .irqPending, .sources, .mirror, .views, .outputs, .free] ps = true)  : ∀ t_, (execCreateCq v k i low ws s) = .next t_ → OnlyChanges ps s0_ t_ := by
  unfold execCreateCq
  try dsimp only
  repeat' (first | with_reducible assumption | (with_reducible rintro _ ⟨⟩) | (with_reducible first | (apply State.submit_only)) | (exact within_trans rfl hW) | split | (with_reducible intro _) )

theorem execDestroyCq_only (v : Fin 64) (k : Fin 16) (i : Fin 4096) (low : BitVec 44) (ws : List (BitVec 64)) (s : State) {ps : List Part} {s0_ : State} (hO : OnlyChanges ps s0_ s) (hW : within [.groups, .lanes, .ports, .scans, .qps, .cqs, .regions, .funcs, .vectors, .instances, .cmdOrder, .irqPending, .sources, .mirror, .views, .outputs, .free] ps = true)  : ∀ t_, (execDestroyCq v k i low ws s) = .next t_ → OnlyChanges ps s0_ t_ := by
  unfold execDestroyCq
  try dsimp only
  repeat' (first | with_reducible assumption | (with_reducible rintro _ ⟨⟩) | (with_reducible first | (apply State.submit_only)) | (exact within_trans rfl hW) | split | (with_reducible intro _) )

theorem execCreateQp_only (v : Fin 64) (k : Fin 16) (i : Fin 4096) (low : BitVec 44) (ws : List (BitVec 64)) (s : State) {ps : List Part} {s0_ : State} (hO : OnlyChanges ps s0_ s) (hW : within [.groups, .lanes, .ports, .scans, .qps, .cqs, .regions, .funcs, .vectors, .instances, .cmdOrder, .irqPending, .sources, .mirror, .views, .outputs, .free] ps = true)  : ∀ t_, (execCreateQp v k i low ws s) = .next t_ → OnlyChanges ps s0_ t_ := by
  unfold execCreateQp
  try dsimp only
  repeat' (first | with_reducible assumption | (with_reducible rintro _ ⟨⟩) | (with_reducible first | (apply State.submit_only)) | (exact within_trans rfl hW) | split | (with_reducible intro _) )

theorem execModifyQp_only (v : Fin 64) (k : Fin 16) (i : Fin 4096) (low : BitVec 44) (ws : List (BitVec 64)) (s : State) {ps : List Part} {s0_ : State} (hO : OnlyChanges ps s0_ s) (hW : within [.groups, .lanes, .ports, .scans, .qps, .cqs, .regions, .funcs, .vectors, .instances, .cmdOrder, .irqPending, .sources, .mirror, .views, .outputs, .free] ps = true)  : ∀ t_, (execModifyQp v k i low ws s) = .next t_ → OnlyChanges ps s0_ t_ := by
  unfold execModifyQp
  try dsimp only
  repeat' (first | with_reducible assumption | (with_reducible rintro _ ⟨⟩) | (with_reducible first | (apply State.submit_only)) | (exact within_trans rfl hW) | split | (with_reducible intro _) )

theorem execDestroyQp_only (v : Fin 64) (k : Fin 16) (i : Fin 4096) (low : BitVec 44) (ws : List (BitVec 64)) (s : State) {ps : List Part} {s0_ : State} (hO : OnlyChanges ps s0_ s) (hW : within [.groups, .lanes, .ports, .scans, .qps, .cqs, .regions, .funcs, .vectors, .instances, .cmdOrder, .irqPending, .sources, .mirror, .views, .outputs, .free] ps = true)  : ∀ t_, (execDestroyQp v k i low ws s) = .next t_ → OnlyChanges ps s0_ t_ := by
  unfold execDestroyQp
  try dsimp only
  repeat' (first | with_reducible assumption | (with_reducible rintro _ ⟨⟩) | (with_reducible first | (apply State.submit_only)) | (exact within_trans rfl hW) | split | (with_reducible intro _) )

theorem execRegisterRegion_only (v : Fin 64) (k : Fin 16) (i : Fin 4096) (low : BitVec 44) (ws : List (BitVec 64)) (s : State) {ps : List Part} {s0_ : State} (hO : OnlyChanges ps s0_ s) (hW : within [.groups, .lanes, .ports, .scans, .qps, .cqs, .regions, .funcs, .vectors, .instances, .cmdOrder, .irqPending, .sources, .mirror, .views, .outputs, .free] ps = true)  : ∀ t_, (execRegisterRegion v k i low ws s) = .next t_ → OnlyChanges ps s0_ t_ := by
  unfold execRegisterRegion
  try dsimp only
  repeat' (first | with_reducible assumption | (with_reducible rintro _ ⟨⟩) | (with_reducible first | (apply State.submit_only)) | (exact within_trans rfl hW) | split | (with_reducible intro _) )

theorem execRevokeRegion_only (v : Fin 64) (k : Fin 16) (i : Fin 4096) (low : BitVec 44) (ws : List (BitVec 64)) (s : State) {ps : List Part} {s0_ : State} (hO : OnlyChanges ps s0_ s) (hW : within [.groups, .lanes, .ports, .scans, .qps, .cqs, .regions, .funcs, .vectors, .instances, .cmdOrder, .irqPending, .sources, .mirror, .views, .outputs, .free] ps = true)  : ∀ t_, (execRevokeRegion v k i low ws s) = .next t_ → OnlyChanges ps s0_ t_ := by
  unfold execRevokeRegion
  try dsimp only
  repeat' (first | with_reducible assumption | (with_reducible rintro _ ⟨⟩) | (with_reducible first | (apply State.submit_only)) | (exact within_trans rfl hW) | split | (with_reducible intro _) )

theorem execSetCounter_only (v : Fin 64) (k : Fin 16) (i : Fin 4096) (low : BitVec 44) (ws : List (BitVec 64)) (s : State) {ps : List Part} {s0_ : State} (hO : OnlyChanges ps s0_ s) (hW : within [.groups, .lanes, .ports, .scans, .qps, .cqs, .regions, .funcs, .vectors, .instances, .cmdOrder, .irqPending, .sources, .mirror, .views, .outputs, .free] ps = true)  : ∀ t_, (execSetCounter v k i low ws s) = .next t_ → OnlyChanges ps s0_ t_ := by
  unfold execSetCounter
  try dsimp only
  repeat' (first | with_reducible assumption | (with_reducible rintro _ ⟨⟩) | (with_reducible first | (apply State.submit_only)) | (exact within_trans rfl hW) | split | (with_reducible intro _) )

theorem execAttach_only (v : Fin 64) (k : Fin 16) (i : Fin 4096) (low : BitVec 44) (ws : List (BitVec 64)) (s : State) {ps : List Part} {s0_ : State} (hO : OnlyChanges ps s0_ s) (hW : within [.groups, .lanes, .ports, .scans, .qps, .cqs, .regions, .funcs, .vectors, .instances, .cmdOrder, .irqPending, .sources, .mirror, .views, .outputs, .free] ps = true)  : ∀ t_, (execAttach v k i low ws s) = .next t_ → OnlyChanges ps s0_ t_ := by
  unfold execAttach
  try dsimp only
  repeat' (first | with_reducible assumption | (with_reducible rintro _ ⟨⟩) | (with_reducible first | (apply State.submit_only)) | (exact within_trans rfl hW) | split | (with_reducible intro _) )

theorem execDetach_only (v : Fin 64) (k : Fin 16) (i : Fin 4096) (low : BitVec 44) (ws : List (BitVec 64)) (s : State) {ps : List Part} {s0_ : State} (hO : OnlyChanges ps s0_ s) (hW : within [.groups, .lanes, .ports, .scans, .qps, .cqs, .regions, .funcs, .vectors, .instances, .cmdOrder, .irqPending, .sources, .mirror, .views, .outputs, .free] ps = true)  : ∀ t_, (execDetach v k i low ws s) = .next t_ → OnlyChanges ps s0_ t_ := by
  unfold execDetach
  try dsimp only
  repeat' (first | with_reducible assumption | (with_reducible rintro _ ⟨⟩) | (with_reducible first | (apply State.submit_only)) | (exact within_trans rfl hW) | split | (with_reducible intro _) )

theorem execCommandStart_only (v : Fin 64) (k : Fin 16) (s : State) {ps : List Part} {s0_ : State} (hO : OnlyChanges ps s0_ s) (hW : within [.groups, .lanes, .ports, .scans, .qps, .cqs, .regions, .funcs, .vectors, .instances, .cmdOrder, .sources, .mirror, .views, .outputs, .free] ps = true)  : ∀ t_, (execCommandStart v k s) = .next t_ → OnlyChanges ps s0_ t_ := by
  unfold execCommandStart
  try dsimp only
  repeat' (first | with_reducible assumption | (with_reducible rintro _ ⟨⟩) | (with_reducible first | (refine guarded_only _ _ _ ?_ ?_ ?_) | (apply State.runCommand_only) | (apply State.setCmd_only)) | (exact within_trans rfl hW) | split | (with_reducible intro _) )

theorem execSendQueueDoorbell_only (i : Fin 4096) (q : Fin 131072) (index : BitVec 16) (ws : List Wr) (s : State) {ps : List Part} {s0_ : State} (hO : OnlyChanges ps s0_ s) (hW : within [.groups, .lanes, .ports, .scans, .tracker, .qps, .cqs, .regions, .funcs, .vectors, .instances, .masterWait, .sources, .mirror, .views, .outputs, .free] ps = true)  : ∀ t_, (execSendQueueDoorbell i q index ws s) = .next t_ → OnlyChanges ps s0_ t_ := by
  unfold execSendQueueDoorbell
  try dsimp only
  repeat' (first | with_reducible assumption | (with_reducible rintro _ ⟨⟩) | (with_reducible first | (refine checked_only _ _ _ _ ?_ ?_ ?_) | (apply State.ringDoorbell_only) | (apply State.setQp_only) | (apply State.readRing_only) | (apply State.each_only) | (apply State.completeWr_only)) | (exact within_trans rfl hW) | split | (with_reducible intro _) )

theorem execReceiveQueueDoorbell_only (i : Fin 4096) (q : Fin 131072) (index : BitVec 16) (ws : List Wr) (s : State) {ps : List Part} {s0_ : State} (hO : OnlyChanges ps s0_ s) (hW : within [.groups, .lanes, .ports, .scans, .tracker, .qps, .cqs, .regions, .funcs, .vectors, .instances, .masterWait, .sources, .mirror, .views, .outputs, .free] ps = true)  : ∀ t_, (execReceiveQueueDoorbell i q index ws s) = .next t_ → OnlyChanges ps s0_ t_ := by
  unfold execReceiveQueueDoorbell
  try dsimp only
  repeat' (first | with_reducible assumption | (with_reducible rintro _ ⟨⟩) | (with_reducible first | (refine checked_only _ _ _ _ ?_ ?_ ?_) | (apply State.ringDoorbell_only) | (apply State.setQp_only) | (apply State.readRing_only) | (apply State.each_only) | (apply State.completeWr_only)) | (exact within_trans rfl hW) | split | (with_reducible intro _) )

theorem execTriggerListDoorbell_only (i : Fin 4096) (q : Fin 131072) (index : BitVec 16) (ws : List Wr) (s : State) {ps : List Part} {s0_ : State} (hO : OnlyChanges ps s0_ s) (hW : within [.groups, .lanes, .ports, .scans, .tracker, .qps, .cqs, .regions, .funcs, .vectors, .instances, .masterWait, .sources, .mirror, .views, .outputs, .free] ps = true)  : ∀ t_, (execTriggerListDoorbell i q index ws s) = .next t_ → OnlyChanges ps s0_ t_ := by
  unfold execTriggerListDoorbell
  try dsimp only
  repeat' (first | with_reducible assumption | (with_reducible rintro _ ⟨⟩) | (with_reducible first | (refine checked_only _ _ _ _ ?_ ?_ ?_) | (apply State.ringDoorbell_only) | (apply State.testTriggers_only) | (apply State.setQp_only) | (apply State.readRing_only) | (apply State.each_only) | (apply State.completeWr_only)) | (exact within_trans rfl hW) | split | (with_reducible intro _) )

theorem execCqConsumerDoorbell_only (i : Fin 4096) (c : Fin 16384) (index : BitVec 22) (s : State) {ps : List Part} {s0_ : State} (hO : OnlyChanges ps s0_ s) (hW : within [.cqs, .sources, .mirror, .views] ps = true)  : ∀ t_, (execCqConsumerDoorbell i c index s) = .next t_ → OnlyChanges ps s0_ t_ := by
  unfold execCqConsumerDoorbell
  try dsimp only
  repeat' (first | with_reducible assumption | (with_reducible rintro _ ⟨⟩) | (with_reducible first | (refine guarded_only _ _ _ ?_ ?_ ?_) | (apply State.pageDiscard_only) | (apply State.raise_only) | (apply State.bump_only) | (apply State.mirror_only) | (apply State.setCq_only)) | (exact within_trans rfl hW) | split | (with_reducible intro _) )

theorem execContextFetchDone_only (q : Fin 131072) (ok : Bool) (data : List Nat) (s : State) {ps : List Part} {s0_ : State} (hO : OnlyChanges ps s0_ s) (hW : within [.groups, .lanes, .ports, .scans, .tracker, .qps, .cqs, .regions, .funcs, .vectors, .instances, .masterWait, .sources, .mirror, .views, .outputs, .free] ps = true)  : ∀ t_, (execContextFetchDone q ok data s) = .next t_ → OnlyChanges ps s0_ t_ := by
  unfold execContextFetchDone
  try dsimp only
  repeat' (first | with_reducible assumption | (with_reducible rintro _ ⟨⟩) | (with_reducible first | (refine guarded_only _ _ _ ?_ ?_ ?_) | (apply State.masterDone_only) | (apply State.unparkAll_only) | (apply State.touch_only) | (apply State.setQp_only) | (apply State.contextLost_only)) | (exact within_trans rfl hW) | split | (with_reducible intro _) )

theorem execKeyFetchDone_only (r : Fin 1048576) (ok : Bool) (data : List Nat) (s : State) {ps : List Part} {s0_ : State} (hO : OnlyChanges ps s0_ s) (hW : within [.groups, .lanes, .ports, .scans, .tracker, .qps, .cqs, .regions, .funcs, .vectors, .instances, .masterWait, .sources, .mirror, .views, .outputs, .free] ps = true)  : ∀ t_, (execKeyFetchDone r ok data s) = .next t_ → OnlyChanges ps s0_ t_ := by
  unfold execKeyFetchDone
  try dsimp only
  repeat' (first | with_reducible assumption | (with_reducible rintro _ ⟨⟩) | (with_reducible first | (refine guarded_only _ _ _ ?_ ?_ ?_) | (apply State.masterDone_only) | (apply State.each_only) | (apply State.unparkAll_only) | (apply State.cacheKey_only) | (apply State.keyLost_only)) | (exact within_trans rfl hW) | split | (with_reducible intro _) )

theorem execWrWrite_only (q : Fin 131072) (data : List Nat) (readOk : Bool) (s : State) {ps : List Part} {s0_ : State} (hO : OnlyChanges ps s0_ s) (hW : within [.groups, .lanes, .ports, .scans, .tracker, .qps, .cqs, .regions, .funcs, .vectors, .instances, .masterWait, .sources, .mirror, .views, .outputs, .free] ps = true)  : ∀ t_, (execWrWrite q data readOk s) = .next t_ → OnlyChanges ps s0_ t_ := by
  unfold execWrWrite
  try dsimp only
  repeat' (first | with_reducible assumption | (with_reducible rintro _ ⟨⟩) | (with_reducible first | (refine guarded_only _ _ _ ?_ ?_ ?_) | (apply State.runHead_only)) | (exact within_trans rfl hW) | split | (with_reducible intro _) )

theorem execWrRead_only (q : Fin 131072) (s : State) {ps : List Part} {s0_ : State} (hO : OnlyChanges ps s0_ s) (hW : within [.groups, .lanes, .ports, .scans, .tracker, .qps, .cqs, .regions, .funcs, .vectors, .instances, .masterWait, .sources, .mirror, .views, .outputs, .free] ps = true)  : ∀ t_, (execWrRead q s) = .next t_ → OnlyChanges ps s0_ t_ := by
  unfold execWrRead
  try dsimp only
  repeat' (first | with_reducible assumption | (with_reducible rintro _ ⟨⟩) | (with_reducible first | (refine guarded_only _ _ _ ?_ ?_ ?_) | (apply State.runHead_only)) | (exact within_trans rfl hW) | split | (with_reducible intro _) )

theorem execWrSend_only (q : Fin 131072) (data : List Nat) (readOk : Bool) (s : State) {ps : List Part} {s0_ : State} (hO : OnlyChanges ps s0_ s) (hW : within [.groups, .lanes, .ports, .scans, .tracker, .qps, .cqs, .regions, .funcs, .vectors, .instances, .masterWait, .sources, .mirror, .views, .outputs, .free] ps = true)  : ∀ t_, (execWrSend q data readOk s) = .next t_ → OnlyChanges ps s0_ t_ := by
  unfold execWrSend
  try dsimp only
  repeat' (first | with_reducible assumption | (with_reducible rintro _ ⟨⟩) | (with_reducible first | (refine guarded_only _ _ _ ?_ ?_ ?_) | (apply State.runHead_only)) | (exact within_trans rfl hW) | split | (with_reducible intro _) )

theorem execWrFetchAdd_only (q : Fin 131072) (s : State) {ps : List Part} {s0_ : State} (hO : OnlyChanges ps s0_ s) (hW : within [.groups, .lanes, .ports, .scans, .tracker, .qps, .cqs, .regions, .funcs, .vectors, .instances, .masterWait, .sources, .mirror, .views, .outputs, .free] ps = true)  : ∀ t_, (execWrFetchAdd q s) = .next t_ → OnlyChanges ps s0_ t_ := by
  unfold execWrFetchAdd
  try dsimp only
  repeat' (first | with_reducible assumption | (with_reducible rintro _ ⟨⟩) | (with_reducible first | (refine guarded_only _ _ _ ?_ ?_ ?_) | (apply State.runHead_only)) | (exact within_trans rfl hW) | split | (with_reducible intro _) )

theorem execWrCmpSwap_only (q : Fin 131072) (s : State) {ps : List Part} {s0_ : State} (hO : OnlyChanges ps s0_ s) (hW : within [.groups, .lanes, .ports, .scans, .tracker, .qps, .cqs, .regions, .funcs, .vectors, .instances, .masterWait, .sources, .mirror, .views, .outputs, .free] ps = true)  : ∀ t_, (execWrCmpSwap q s) = .next t_ → OnlyChanges ps s0_ t_ := by
  unfold execWrCmpSwap
  try dsimp only
  repeat' (first | with_reducible assumption | (with_reducible rintro _ ⟨⟩) | (with_reducible first | (refine guarded_only _ _ _ ?_ ?_ ?_) | (apply State.runHead_only)) | (exact within_trans rfl hW) | split | (with_reducible intro _) )

theorem execWrNop_only (q : Fin 131072) (s : State) {ps : List Part} {s0_ : State} (hO : OnlyChanges ps s0_ s) (hW : within [.groups, .lanes, .ports, .scans, .tracker, .qps, .cqs, .regions, .funcs, .vectors, .instances, .masterWait, .sources, .mirror, .views, .outputs, .free] ps = true)  : ∀ t_, (execWrNop q s) = .next t_ → OnlyChanges ps s0_ t_ := by
  unfold execWrNop
  try dsimp only
  repeat' (first | with_reducible assumption | (with_reducible rintro _ ⟨⟩) | (with_reducible first | (refine guarded_only _ _ _ ?_ ?_ ?_) | (apply State.runHead_only)) | (exact within_trans rfl hW) | split | (with_reducible intro _) )

theorem execWriteSegment_only (f : BFrame) (s : State) {ps : List Part} {s0_ : State} (hO : OnlyChanges ps s0_ s) (hW : within [.groups, .lanes, .ports, .scans, .tracker, .qps, .cqs, .regions, .funcs, .vectors, .instances, .masterWait, .sources, .mirror, .views, .outputs, .free] ps = true)  : ∀ t_, (execWriteSegment f s) = .next t_ → OnlyChanges ps s0_ t_ := by
  unfold execWriteSegment
  try dsimp only
  repeat' (first | with_reducible assumption | (with_reducible rintro _ ⟨⟩) | (with_reducible first | (refine checked_only _ _ _ _ ?_ ?_ ?_) | (apply State.requestFrame_only)) | (exact within_trans rfl hW) | split | (with_reducible intro _) )

theorem execSendSegment_only (f : BFrame) (s : State) {ps : List Part} {s0_ : State} (hO : OnlyChanges ps s0_ s) (hW : within [.groups, .lanes, .ports, .scans, .tracker, .qps, .cqs, .regions, .funcs, .vectors, .instances, .masterWait, .sources, .mirror, .views, .outputs, .free] ps = true)  : ∀ t_, (execSendSegment f s) = .next t_ → OnlyChanges ps s0_ t_ := by
  unfold execSendSegment
  try dsimp only
  repeat' (first | with_reducible assumption | (with_reducible rintro _ ⟨⟩) | (with_reducible first | (refine checked_only _ _ _ _ ?_ ?_ ?_) | (apply State.requestFrame_only)) | (exact within_trans rfl hW) | split | (with_reducible intro _) )

theorem execReadReq_only (f : BFrame) (data : Nat) (readOk : Bool) (s : State) {ps : List Part} {s0_ : State} (hO : OnlyChanges ps s0_ s) (hW : within [.groups, .lanes, .ports, .scans, .tracker, .qps, .cqs, .regions, .funcs, .vectors, .instances, .masterWait, .sources, .mirror, .views, .outputs, .free] ps = true)  : ∀ t_, (execReadReq f data readOk s) = .next t_ → OnlyChanges ps s0_ t_ := by
  unfold execReadReq
  try dsimp only
  repeat' (first | with_reducible assumption | (with_reducible rintro _ ⟨⟩) | (with_reducible first | (refine checked_only _ _ _ _ ?_ ?_ ?_) | (apply State.requestFrame_only)) | (exact within_trans rfl hW) | split | (with_reducible intro _) )

theorem execFetchAddRequest_only (f : BFrame) (orig : BitVec 64) (ok : Bool) (s : State) {ps : List Part} {s0_ : State} (hO : OnlyChanges ps s0_ s) (hW : within [.groups, .lanes, .ports, .scans, .tracker, .qps, .cqs, .regions, .funcs, .vectors, .instances, .masterWait, .sources, .mirror, .views, .outputs, .free] ps = true)  : ∀ t_, (execFetchAddRequest f orig ok s) = .next t_ → OnlyChanges ps s0_ t_ := by
  unfold execFetchAddRequest
  try dsimp only
  repeat' (first | with_reducible assumption | (with_reducible rintro _ ⟨⟩) | (with_reducible first | (refine checked_only _ _ _ _ ?_ ?_ ?_) | (apply State.requestFrame_only)) | (exact within_trans rfl hW) | split | (with_reducible intro _) )

theorem execCmpSwapRequest_only (f : BFrame) (orig : BitVec 64) (ok : Bool) (s : State) {ps : List Part} {s0_ : State} (hO : OnlyChanges ps s0_ s) (hW : within [.groups, .lanes, .ports, .scans, .tracker, .qps, .cqs, .regions, .funcs, .vectors, .instances, .masterWait, .sources, .mirror, .views, .outputs, .free] ps = true)  : ∀ t_, (execCmpSwapRequest f orig ok s) = .next t_ → OnlyChanges ps s0_ t_ := by
  unfold execCmpSwapRequest
  try dsimp only
  repeat' (first | with_reducible assumption | (with_reducible rintro _ ⟨⟩) | (with_reducible first | (refine checked_only _ _ _ _ ?_ ?_ ?_) | (apply State.requestFrame_only)) | (exact within_trans rfl hW) | split | (with_reducible intro _) )

theorem execReadResp_only (f : BFrame) (data : List Nat) (s : State) {ps : List Part} {s0_ : State} (hO : OnlyChanges ps s0_ s) (hW : within [.groups, .lanes, .ports, .scans, .tracker, .qps, .cqs, .regions, .funcs, .vectors, .instances, .masterWait, .sources, .mirror, .views, .outputs, .free] ps = true)  : ∀ t_, (execReadResp f data s) = .next t_ → OnlyChanges ps s0_ t_ := by
  unfold execReadResp
  try dsimp only
  repeat' (first | with_reducible assumption | (with_reducible rintro _ ⟨⟩) | (with_reducible first | (refine checked_only _ _ _ _ ?_ ?_ ?_) | (apply State.response_only)) | (exact within_trans rfl hW) | split | (with_reducible intro _) )

theorem execAtomicResp_only (f : BFrame) (data : List Nat) (s : State) {ps : List Part} {s0_ : State} (hO : OnlyChanges ps s0_ s) (hW : within [.groups, .lanes, .ports, .scans, .tracker, .qps, .cqs, .regions, .funcs, .vectors, .instances, .masterWait, .sources, .mirror, .views, .outputs, .free] ps = true)  : ∀ t_, (execAtomicResp f data s) = .next t_ → OnlyChanges ps s0_ t_ := by
  unfold execAtomicResp
  try dsimp only
  repeat' (first | with_reducible assumption | (with_reducible rintro _ ⟨⟩) | (with_reducible first | (refine checked_only _ _ _ _ ?_ ?_ ?_) | (apply State.response_only)) | (exact within_trans rfl hW) | split | (with_reducible intro _) )

theorem execAck_only (f : BFrame) (data : List Nat) (s : State) {ps : List Part} {s0_ : State} (hO : OnlyChanges ps s0_ s) (hW : within [.groups, .lanes, .ports, .scans, .tracker, .qps, .cqs, .regions, .funcs, .vectors, .instances, .masterWait, .sources, .mirror, .views, .outputs, .free] ps = true)  : ∀ t_, (execAck f data s) = .next t_ → OnlyChanges ps s0_ t_ := by
  unfold execAck
  try dsimp only
  repeat' (first | with_reducible assumption | (with_reducible rintro _ ⟨⟩) | (with_reducible first | (refine checked_only _ _ _ _ ?_ ?_ ?_) | (apply State.response_only)) | (exact within_trans rfl hW) | split | (with_reducible intro _) )

theorem execSequenceNak_only (f : BFrame) (data : List Nat) (s : State) {ps : List Part} {s0_ : State} (hO : OnlyChanges ps s0_ s) (hW : within [.groups, .lanes, .ports, .scans, .tracker, .qps, .cqs, .regions, .funcs, .vectors, .instances, .masterWait, .sources, .mirror, .views, .outputs, .free] ps = true)  : ∀ t_, (execSequenceNak f data s) = .next t_ → OnlyChanges ps s0_ t_ := by
  unfold execSequenceNak
  try dsimp only
  repeat' (first | with_reducible assumption | (with_reducible rintro _ ⟨⟩) | (with_reducible first | (refine checked_only _ _ _ _ ?_ ?_ ?_) | (apply State.response_only)) | (exact within_trans rfl hW) | split | (with_reducible intro _) )

theorem execRnrNak_only (f : BFrame) (s : State) {ps : List Part} {s0_ : State} (hO : OnlyChanges ps s0_ s) (hW : within [.groups, .lanes, .ports, .scans, .tracker, .qps, .cqs, .regions, .funcs, .vectors, .instances, .masterWait, .sources, .mirror, .views, .outputs, .free] ps = true)  : ∀ t_, (execRnrNak f s) = .next t_ → OnlyChanges ps s0_ t_ := by
  unfold execRnrNak
  try dsimp only
  repeat' (first | with_reducible assumption | (with_reducible rintro _ ⟨⟩) | (with_reducible first | (refine checked_only _ _ _ _ ?_ ?_ ?_) | (apply State.response_only)) | (exact within_trans rfl hW) | split | (with_reducible intro _) )

theorem execNak_only (f : BFrame) (s : State) {ps : List Part} {s0_ : State} (hO : OnlyChanges ps s0_ s) (hW : within [.groups, .lanes, .ports, .scans, .tracker, .qps, .cqs, .regions, .funcs, .vectors, .instances, .masterWait, .sources, .mirror, .views, .outputs, .free] ps = true)  : ∀ t_, (execNak f s) = .next t_ → OnlyChanges ps s0_ t_ := by
  unfold execNak
  try dsimp only
  repeat' (first | with_reducible assumption | (with_reducible rintro _ ⟨⟩) | (with_reducible first | (refine checked_only _ _ _ _ ?_ ?_ ?_) | (apply State.response_only)) | (exact within_trans rfl hW) | split | (with_reducible intro _) )

theorem execRetransmitTimeout_only (q : Fin 131072) (data : List Nat) (s : State) {ps : List Part} {s0_ : State} (hO : OnlyChanges ps s0_ s) (hW : within [.groups, .lanes, .ports, .scans, .qps, .cqs, .regions, .funcs, .vectors, .instances, .sources, .mirror, .views, .outputs, .free] ps = true)  : ∀ t_, (execRetransmitTimeout q data s) = .next t_ → OnlyChanges ps s0_ t_ := by
  unfold execRetransmitTimeout
  try dsimp only
  repeat' (first | with_reducible assumption | (with_reducible rintro _ ⟨⟩) | (with_reducible first | (refine guarded_only _ _ _ ?_ ?_ ?_) | (apply State.raise_only) | (apply State.failActive_only) | (apply State.flushQp_only) | (apply State.bump_only) | (apply State.setQp_only) | (apply State.pumpAll_only) | (apply State.rewind_only)) | (exact within_trans rfl hW) | split | (with_reducible intro _) )

theorem execRnrWaitEnd_only (q : Fin 131072) (data : List Nat) (s : State) {ps : List Part} {s0_ : State} (hO : OnlyChanges ps s0_ s) (hW : within [.groups, .lanes, .ports, .scans, .qps, .funcs, .mirror, .views, .outputs, .free] ps = true)  : ∀ t_, (execRnrWaitEnd q data s) = .next t_ → OnlyChanges ps s0_ t_ := by
  unfold execRnrWaitEnd
  try dsimp only
  repeat' (first | with_reducible assumption | (with_reducible rintro _ ⟨⟩) | (with_reducible first | (refine guarded_only _ _ _ ?_ ?_ ?_) | (apply State.setQp_only) | (apply State.pumpAll_only) | (apply State.rewind_only)) | (exact within_trans rfl hW) | split | (with_reducible intro _) )

theorem execAckTimer_only (q : Fin 131072) (s : State) {ps : List Part} {s0_ : State} (hO : OnlyChanges ps s0_ s) (hW : within [.qps, .views, .outputs] ps = true)  : ∀ t_, (execAckTimer q s) = .next t_ → OnlyChanges ps s0_ t_ := by
  unfold execAckTimer
  try dsimp only
  repeat' (first | with_reducible assumption | (with_reducible rintro _ ⟨⟩) | (with_reducible first | (refine guarded_only _ _ _ ?_ ?_ ?_) | (apply State.sendAck_only)) | (exact within_trans rfl hW) | split | (with_reducible intro _) )

theorem execRateIncrease_only (q : Fin 131072) (s : State) {ps : List Part} {s0_ : State} (hO : OnlyChanges ps s0_ s) (hW : within [.qps] ps = true)  : ∀ t_, (execRateIncrease q s) = .next t_ → OnlyChanges ps s0_ t_ := by
  unfold execRateIncrease
  try dsimp only
  repeat' (first | with_reducible assumption | (with_reducible rintro _ ⟨⟩) | (with_reducible first | (refine guarded_only _ _ _ ?_ ?_ ?_) | (apply State.setQp_only) | (apply State.gainCredit_only)) | (exact within_trans rfl hW) | split | (with_reducible intro _) )

theorem execMessageDelivery_only (q : Fin 131072) (s : State) {ps : List Part} {s0_ : State} (hO : OnlyChanges ps s0_ s) (hW : within [.groups, .lanes, .ports, .scans, .qps, .cqs, .regions, .funcs, .vectors, .instances, .sources, .mirror, .views, .outputs, .free] ps = true)  : ∀ t_, (execMessageDelivery q s) = .next t_ → OnlyChanges ps s0_ t_ := by
  unfold execMessageDelivery
  try dsimp only
  repeat' (first | with_reducible assumption | (with_reducible rintro _ ⟨⟩) | (with_reducible first | (refine guarded_only _ _ _ ?_ ?_ ?_) | (apply State.setQp_only) | (apply State.complete1_only) | (apply State.countUp_only) | (apply State.testTriggers_only)) | (exact within_trans rfl hW) | split | (with_reducible intro _) )

theorem execRegionRevoking_only (r : Fin 1048576) (s : State) {ps : List Part} {s0_ : State} (hO : OnlyChanges ps s0_ s) (hW : within [.regions] ps = true)  : ∀ t_, (execRegionRevoking r s) = .next t_ → OnlyChanges ps s0_ t_ := by
  unfold execRegionRevoking
  try dsimp only
  repeat' (first | with_reducible assumption | (with_reducible rintro _ ⟨⟩) | (with_reducible first | (refine guarded_only _ _ _ ?_ ?_ ?_) | (apply State.setRegion_only)) | (exact within_trans rfl hW) | split | (with_reducible intro _) )

theorem execRevocationComplete_only (r : Fin 1048576) (s : State) {ps : List Part} {s0_ : State} (hO : OnlyChanges ps s0_ s) (hW : within [.groups, .lanes, .ports, .scans, .regions, .funcs, .vectors, .instances, .cmdOrder, .sources, .mirror, .views, .outputs, .free] ps = true)  : ∀ t_, (execRevocationComplete r s) = .next t_ → OnlyChanges ps s0_ t_ := by
  unfold execRevocationComplete
  try dsimp only
  repeat' (first | with_reducible assumption | (with_reducible rintro _ ⟨⟩) | (with_reducible first | (refine guarded_only _ _ _ ?_ ?_ ?_) | (apply State.freeRegion_only) | (apply State.eventRecord_only) | (apply State.endWith_only)) | (exact within_trans rfl hW) | split | (with_reducible intro _) )

theorem execClusterRetirement_only (c : Fin 8) (s : State) {ps : List Part} {s0_ : State} (hO : OnlyChanges ps s0_ s) (hW : within [.groups, .lanes, .ports, .scans, .qps, .regions, .clusters, .funcs, .vectors, .instances, .sources, .mirror, .views, .outputs, .free] ps = true)  : ∀ t_, (execClusterRetirement c s) = .next t_ → OnlyChanges ps s0_ t_ := by
  unfold execClusterRetirement
  try dsimp only
  repeat' (first | with_reducible assumption | (with_reducible rintro _ ⟨⟩) | (with_reducible first | (refine guarded_only _ _ _ ?_ ?_ ?_) | (apply State.retireCluster_only)) | (exact within_trans rfl hW) | split | (with_reducible intro _) )

theorem execQpQuery_only (q : Fin 131072) (s : State) {ps : List Part} {s0_ : State} (hO : OnlyChanges ps s0_ s) (hW : within [.views, .outputs] ps = true)  : ∀ t_, (execQpQuery q s) = .next t_ → OnlyChanges ps s0_ t_ := by
  unfold execQpQuery
  try dsimp only
  repeat' (first | with_reducible assumption | (with_reducible rintro _ ⟨⟩) | (with_reducible first | (refine commandWrite_only _ _ ?_ ?_ ?_) | (apply State.answer_only) | (apply State.setView_only)) | (exact within_trans rfl hW) | split | (with_reducible intro _) )

theorem execDomainContainment_only (d : Fin 4096) (s : State) {ps : List Part} {s0_ : State} (hO : OnlyChanges ps s0_ s) (hW : within [.inflight, .groups, .lanes, .ports, .scans, .frames, .matcher, .paths, .hiers, .bridges, .slots, .tracker, .pwf, .trunks, .qps, .cqs, .regions, .funcs, .vectors, .instances, .contained, .masterWait, .irqPending, .sources, .mirror, .sessions, .views, .outputs, .free] ps = true)  : ∀ t_, (execDomainContainment d s) = .next t_ → OnlyChanges ps s0_ t_ := by
  unfold execDomainContainment
  try dsimp only
  repeat' (first | with_reducible assumption | (with_reducible rintro _ ⟨⟩) | (with_reducible first | (refine guarded_only _ _ _ ?_ ?_ ?_) | (apply State.containDomain_only)) | (exact within_trans rfl hW) | split | (with_reducible intro _) )

theorem execResetControlDrain_only (v : Fin 64) (k : Fin 256) (s : State) {ps : List Part} {s0_ : State} (hO : OnlyChanges ps s0_ s) (hW : within [.groups, .lanes, .ports, .scans, .funcs, .vectors, .instances, .sources, .mirror, .views, .outputs] ps = true)  : ∀ t_, (execResetControlDrain v k s) = .next t_ → OnlyChanges ps s0_ t_ := by
  unfold execResetControlDrain
  try dsimp only
  repeat' (first | with_reducible assumption | (with_reducible rintro _ ⟨⟩) | (with_reducible first | (refine guarded_only _ _ _ ?_ ?_ ?_) | (apply State.resetControl_only)) | (exact within_trans rfl hW) | split | (with_reducible intro _) )

theorem execResetControlSquash_only (v : Fin 64) (k : Fin 256) (s : State) {ps : List Part} {s0_ : State} (hO : OnlyChanges ps s0_ s) (hW : within [.groups, .lanes, .ports, .scans, .funcs, .vectors, .instances, .sources, .mirror, .views, .outputs] ps = true)  : ∀ t_, (execResetControlSquash v k s) = .next t_ → OnlyChanges ps s0_ t_ := by
  unfold execResetControlSquash
  try dsimp only
  repeat' (first | with_reducible assumption | (with_reducible rintro _ ⟨⟩) | (with_reducible first | (refine guarded_only _ _ _ ?_ ?_ ?_) | (apply State.resetControl_only)) | (exact within_trans rfl hW) | split | (with_reducible intro _) )

theorem execInstanceResetTakesEffect_only (i : Fin 4096) (s : State) {ps : List Part} {s0_ : State} (hO : OnlyChanges ps s0_ s) (hW : within [.inflight, .frames, .paths, .tracker, .regions, .funcs, .instances, .mirror, .outputs] ps = true)  : ∀ t_, (execInstanceResetTakesEffect i s) = .next t_ → OnlyChanges ps s0_ t_ := by
  unfold execInstanceResetTakesEffect
  try dsimp only
  repeat' (first | with_reducible assumption | (with_reducible rintro _ ⟨⟩) | (with_reducible first | (refine guarded_only _ _ _ ?_ ?_ ?_) | (apply State.resetTakes_only)) | (exact within_trans rfl hW) | split | (with_reducible intro _) )

theorem execDrainLimitReached_only (i : Fin 4096) (s : State) {ps : List Part} {s0_ : State} (hO : OnlyChanges ps s0_ s) (hW : within [.inflight, .frames, .paths, .tracker, .regions, .funcs, .instances, .sources, .mirror, .outputs] ps = true)  : ∀ t_, (execDrainLimitReached i s) = .next t_ → OnlyChanges ps s0_ t_ := by
  unfold execDrainLimitReached
  try dsimp only
  repeat' (first | with_reducible assumption | (with_reducible rintro _ ⟨⟩) | (with_reducible first | (refine guarded_only _ _ _ ?_ ?_ ?_) | (apply State.squash_only) | (apply State.raise_only)) | (exact within_trans rfl hW) | split | (with_reducible intro _) )

theorem execInstanceResetEnd_only (i : Fin 4096) (s : State) {ps : List Part} {s0_ : State} (hO : OnlyChanges ps s0_ s) (hW : within [.groups, .lanes, .ports, .scans, .qps, .cqs, .regions, .funcs, .vectors, .instances, .cmdOrder, .sources, .mirror, .views, .outputs, .free] ps = true)  : ∀ t_, (execInstanceResetEnd i s) = .next t_ → OnlyChanges ps s0_ t_ := by
  unfold execInstanceResetEnd
  try dsimp only
  repeat' (first | with_reducible assumption | (with_reducible rintro _ ⟨⟩) | (with_reducible first | (refine guarded_only _ _ _ ?_ ?_ ?_) | (apply State.releaseInst_only)) | (exact within_trans rfl hW) | split | (with_reducible intro _) )

theorem execLogSwapRequest_only (v : Fin 64) (k : Fin 256) (s : State) {ps : List Part} {s0_ : State} (hO : OnlyChanges ps s0_ s) (hW : within [.instances, .sources, .views] ps = true)  : ∀ t_, (execLogSwapRequest v k s) = .next t_ → OnlyChanges ps s0_ t_ := by
  unfold execLogSwapRequest
  try dsimp only
  repeat' (first | with_reducible assumption | (with_reducible rintro _ ⟨⟩) | (with_reducible first | (refine guarded_only _ _ _ ?_ ?_ ?_) | (apply State.raise_only) | (apply State.bump_only) | (apply State.setInst_only)) | (exact within_trans rfl hW) | split | (with_reducible intro _) )

theorem execLogSwap_only (i : Fin 4096) (s : State) {ps : List Part} {s0_ : State} (hO : OnlyChanges ps s0_ s) (hW : within [.instances] ps = true)  : ∀ t_, (execLogSwap i s) = .next t_ → OnlyChanges ps s0_ t_ := by
  unfold execLogSwap
  try dsimp only
  repeat' (first | with_reducible assumption | (with_reducible rintro _ ⟨⟩) | (with_reducible first | (refine guarded_only _ _ _ ?_ ?_ ?_) | (apply State.logSwap_only)) | (exact within_trans rfl hW) | split | (with_reducible intro _) )

theorem execLogSwapComplete_only (i : Fin 4096) (ok : Bool) (s : State) {ps : List Part} {s0_ : State} (hO : OnlyChanges ps s0_ s) (hW : within [.instances, .sources] ps = true)  : ∀ t_, (execLogSwapComplete i ok s) = .next t_ → OnlyChanges ps s0_ t_ := by
  unfold execLogSwapComplete
  try dsimp only
  repeat' (first | with_reducible assumption | (with_reducible rintro _ ⟨⟩) | (with_reducible first | (refine guarded_only _ _ _ ?_ ?_ ?_) | (apply State.setInst_only) | (apply State.raise_only)) | (exact within_trans rfl hW) | split | (with_reducible intro _) )

theorem execMboxSubmit_only (v : Fin 64) (len : BitVec 13) (s : State) {ps : List Part} {s0_ : State} (hO : OnlyChanges ps s0_ s) (hW : within [.funcs, .irqPending, .sources] ps = true)  : ∀ t_, (execMboxSubmit v len s) = .next t_ → OnlyChanges ps s0_ t_ := by
  unfold execMboxSubmit
  try dsimp only
  repeat' (first | with_reducible assumption | (with_reducible rintro _ ⟨⟩) | (with_reducible first | (refine guarded_only _ _ _ ?_ ?_ ?_) | (apply State.setFunc_only) | (apply State.raise_only) | (apply State.interrupt_only)) | (exact within_trans rfl hW) | split | (with_reducible intro _) )

theorem execRespReadyClear_only (v : Fin 64) (s : State) {ps : List Part} {s0_ : State} (hO : OnlyChanges ps s0_ s) (hW : within [.groups, .lanes, .ports, .scans, .funcs, .vectors, .instances, .mirror, .views, .outputs] ps = true)  : ∀ t_, (execRespReadyClear v s) = .next t_ → OnlyChanges ps s0_ t_ := by
  unfold execRespReadyClear
  try dsimp only
  repeat' (first | with_reducible assumption | (with_reducible rintro _ ⟨⟩) | (with_reducible first | (refine guarded_only _ _ _ ?_ ?_ ?_) | (apply State.setFunc_only) | (apply State.vecEvent_only)) | (exact within_trans rfl hW) | split | (with_reducible intro _) )

theorem execErrorQueueSetup_only (v : Fin 64) (base : BitVec 64) (log2 : BitVec 32) (s : State) {ps : List Part} {s0_ : State} (hO : OnlyChanges ps s0_ s) (hW : within [.funcs] ps = true)  : ∀ t_, (execErrorQueueSetup v base log2 s) = .next t_ → OnlyChanges ps s0_ t_ := by
  unfold execErrorQueueSetup
  try dsimp only
  repeat' (first | with_reducible assumption | (with_reducible rintro _ ⟨⟩) | (with_reducible first | (refine guarded_only _ _ _ ?_ ?_ ?_) | (apply State.setFunc_only)) | (exact within_trans rfl hW) | split | (with_reducible intro _) )

theorem execModerationTimerExpiry_only (store : Bool) (k : Fin 8192) (s : State) {ps : List Part} {s0_ : State} (hO : OnlyChanges ps s0_ s) (hW : within [.groups, .lanes, .ports, .scans, .vectors, .instances, .mirror, .views, .outputs] ps = true)  : ∀ t_, (execModerationTimerExpiry store k s) = .next t_ → OnlyChanges ps s0_ t_ := by
  unfold execModerationTimerExpiry
  try dsimp only
  repeat' (first | with_reducible assumption | (with_reducible rintro _ ⟨⟩) | (with_reducible first | (refine guarded_only _ _ _ ?_ ?_ ?_) | (apply State.timerTick_only)) | (exact within_trans rfl hW) | split | (with_reducible intro _) )

theorem execVectorDeliverable_only (store : Bool) (k : Fin 8192) (s : State) {ps : List Part} {s0_ : State} (hO : OnlyChanges ps s0_ s) (hW : within [.groups, .lanes, .ports, .scans, .vectors, .instances, .mirror, .views, .outputs] ps = true)  : ∀ t_, (execVectorDeliverable store k s) = .next t_ → OnlyChanges ps s0_ t_ := by
  unfold execVectorDeliverable
  try dsimp only
  repeat' (first | with_reducible assumption | (with_reducible rintro _ ⟨⟩) | (with_reducible first | (refine guarded_only _ _ _ ?_ ?_ ?_) | (apply State.vecSend_only)) | (exact within_trans rfl hW) | split | (with_reducible intro _) )

theorem execPowerStateWrite_only (v : Fin 64) (d3 : Bool) (s : State) {ps : List Part} {s0_ : State} (hO : OnlyChanges ps s0_ s) (hW : within [.groups, .lanes, .ports, .scans, .regions, .funcs, .vectors, .mirror, .outputs] ps = true)  : ∀ t_, (execPowerStateWrite v d3 s) = .next t_ → OnlyChanges ps s0_ t_ := by
  unfold execPowerStateWrite
  try dsimp only
  repeat' (first | with_reducible assumption | (with_reducible rintro _ ⟨⟩) | (with_reducible first | (refine guarded_only _ _ _ ?_ ?_ ?_) | (apply State.setFunc_only) | (apply State.signalPme_only) | (apply State.resumeMaster_only) | (apply State.each_only) | (apply State.setVec_only)) | (exact within_trans rfl hW) | split | (with_reducible intro _) )

theorem execMasterTimeout_only (i : Fin 262144) (s : State) {ps : List Part} {s0_ : State} (hO : OnlyChanges ps s0_ s) (hW : within [.groups, .lanes, .ports, .scans, .tracker, .qps, .cqs, .regions, .funcs, .vectors, .instances, .masterWait, .sources, .mirror, .views, .outputs, .free] ps = true)  : ∀ t_, (execMasterTimeout i s) = .next t_ → OnlyChanges ps s0_ t_ := by
  unfold execMasterTimeout
  try dsimp only
  repeat' (first | with_reducible assumption | (with_reducible rintro _ ⟨⟩) | (with_reducible first | (refine guarded_only _ _ _ ?_ ?_ ?_) | (apply State.setFunc_only) | (apply State.unitFails_only) | (apply State.expire_only) | (apply State.raise_only) | (apply State.bump_only)) | (exact within_trans rfl hW) | split | (with_reducible intro _) )

theorem execDoeRequest_only (v : Fin 64) (type : Fin 3) (body : DoeBody) (keys : Bool) (s : State) {ps : List Part} {s0_ : State} (hO : OnlyChanges ps s0_ s) (hW : within [.ports, .funcs, .free] ps = true)  : ∀ t_, (execDoeRequest v type body keys s) = .next t_ → OnlyChanges ps s0_ t_ := by
  unfold execDoeRequest
  try dsimp only
  repeat' (first | with_reducible assumption | (with_reducible rintro _ ⟨⟩) | (with_reducible first | (refine guarded_only _ _ _ ?_ ?_ ?_) | (apply State.setFunc_only) | (apply State.fresh_only) | (apply State.setPort_only)) | (exact within_trans rfl hW) | split | (with_reducible intro _) )

theorem execCoreCheckinTimeout_only (k : Fin 4) (s : State) {ps : List Part} {s0_ : State} (hO : OnlyChanges ps s0_ s) (hW : within [.inflight, .board, .sup, .start, .lanes, .frames, .matcher, .tracker, .irqUnit, .sources, .safeState, .collector, .outputs] ps = true)  : ∀ t_, (execCoreCheckinTimeout k s) = .next t_ → OnlyChanges ps s0_ t_ := by
  unfold execCoreCheckinTimeout
  try dsimp only
  repeat' (first | with_reducible assumption | (with_reducible rintro _ ⟨⟩) | (with_reducible first | (refine guarded_only _ _ _ ?_ ?_ ?_) | (apply State.coreFail_only)) | (exact within_trans rfl hW) | split | (with_reducible intro _) )

theorem execTaskSetMoveDone_only (set : Fin 4) (s : State) {ps : List Part} {s0_ : State} (hO : OnlyChanges ps s0_ s) (hW : within [.irqUnit] ps = true)  : ∀ t_, (execTaskSetMoveDone set s) = .next t_ → OnlyChanges ps s0_ t_ := by
  unfold execTaskSetMoveDone
  try dsimp only
  repeat' (first | with_reducible assumption | (with_reducible rintro _ ⟨⟩) | (with_reducible first | (refine guarded_only _ _ _ ?_ ?_ ?_)) | (exact within_trans rfl hW) | split | (with_reducible first | (apply State.irqUnit_update)) | ((with_reducible refine OnlyChanges.update ?_ ?_); (on_goal 2 => ((with_reducible intro p hp); (fail_if_success (with_reducible exact Part.same_refl _ _)); cases p <;> first | exact (OnlyChanges.mem hW hp rfl).elim | exact rfl | (and_intros <;> exact rfl)))) | (with_reducible intro _) )

theorem execMgmtSramError_only (e : SramError) (s : State) {ps : List Part} {s0_ : State} (hO : OnlyChanges ps s0_ s) (hW : within [.beat, .epochs, .inflight, .commit, .tables, .groups, .board, .sup, .start, .lanes, .ports, .scans, .frames, .units, .matcher, .paths, .hiers, .bridges, .slots, .tracker, .channels, .pwf, .trunks, .devices, .extents, .poolLines, .poolEvents, .ledger, .homeSlots, .departed, .qps, .cqs, .regions, .clusters, .funcs, .vectors, .instances, .cmdOrder, .contained, .masterWait, .irqPending, .irqUnit, .sprout, .sources, .safeState, .collector, .pairing, .mirror, .sessions, .segments, .settings, .settingsNext, .settingsStart, .views, .outputs] ps = true)  : ∀ t_, (execMgmtSramError e s) = .next t_ → OnlyChanges ps s0_ t_ := by
  unfold execMgmtSramError
  try dsimp only
  repeat' (first | with_reducible assumption | (with_reducible rintro _ ⟨⟩) | (with_reducible first | (refine guarded_only _ _ _ ?_ ?_ ?_) | (apply State.raise_only) | (apply State.bump_only) | (apply State.watchdogExpire_only) | (apply State.coreFail_only)) | (exact within_trans rfl hW) | split | (with_reducible intro _) )

theorem execClaim_only (k : Fin 4) (s : State) {ps : List Part} {s0_ : State} (hO : OnlyChanges ps s0_ s) (hW : within [.irqPending, .irqUnit, .views, .outputs] ps = true)  : ∀ t_, (execClaim k s) = .next t_ → OnlyChanges ps s0_ t_ := by
  unfold execClaim
  try dsimp only
  repeat' (first | with_reducible assumption | (with_reducible rintro _ ⟨⟩) | (with_reducible first | (refine guarded_only _ _ _ ?_ ?_ ?_) | (apply State.emit_only) | (apply State.bump_only)) | (exact within_trans rfl hW) | split | (with_reducible first | (apply State.irqPending_update) | (apply State.irqUnit_update)) | ((with_reducible refine OnlyChanges.update ?_ ?_); (on_goal 2 => ((with_reducible intro p hp); (fail_if_success (with_reducible exact Part.same_refl _ _)); cases p <;> first | exact (OnlyChanges.mem hW hp rfl).elim | exact rfl | (and_intros <;> exact rfl)))) | (with_reducible intro _) )

theorem execComplete_only (k : Fin 4) (value : BitVec 32) (s : State) {ps : List Part} {s0_ : State} (hO : OnlyChanges ps s0_ s) (hW : within [.groups, .lanes, .ports, .scans, .funcs, .vectors, .instances, .irqUnit, .sources, .mirror, .sessions, .views, .outputs] ps = true)  : ∀ t_, (execComplete k value s) = .next t_ → OnlyChanges ps s0_ t_ := by
  unfold execComplete
  try dsimp only
  repeat' (first | with_reducible assumption | (with_reducible rintro _ ⟨⟩) | (with_reducible first | (refine guarded_only _ _ _ ?_ ?_ ?_) | (apply State.notify_only)) | (exact within_trans rfl hW) | split | (with_reducible first | (apply State.irqUnit_update)) | ((with_reducible refine OnlyChanges.update ?_ ?_); (on_goal 2 => ((with_reducible intro p hp); (fail_if_success (with_reducible exact Part.same_refl _ _)); cases p <;> first | exact (OnlyChanges.mem hW hp rfl).elim | exact rfl | (and_intros <;> exact rfl)))) | (with_reducible intro _) )

theorem execSoftRaise_only (value : BitVec 32) (s : State) {ps : List Part} {s0_ : State} (hO : OnlyChanges ps s0_ s) (hW : within [.irqPending] ps = true)  : ∀ t_, (execSoftRaise value s) = .next t_ → OnlyChanges ps s0_ t_ := by
  unfold execSoftRaise
  try dsimp only
  repeat' (first | with_reducible assumption | (with_reducible rintro _ ⟨⟩) | (with_reducible first | (refine guarded_only _ _ _ ?_ ?_ ?_) | (apply State.interrupt_only)) | (exact within_trans rfl hW) | split | (with_reducible intro _) )

theorem execFirmwareTick_only (s : State) {ps : List Part} {s0_ : State} (hO : OnlyChanges ps s0_ s) (hW : within [.irqPending] ps = true)  : ∀ t_, (execFirmwareTick s) = .next t_ → OnlyChanges ps s0_ t_ := by
  unfold execFirmwareTick
  try dsimp only
  repeat' (first | with_reducible assumption | (with_reducible rintro _ ⟨⟩) | (with_reducible first | (refine guarded_only _ _ _ ?_ ?_ ?_) | (apply State.interrupt_only)) | (exact within_trans rfl hW) | split | (with_reducible intro _) )

theorem execSupervisorRead_only (ok : Bool) (aMv : BitVec 32) (bMv : BitVec 32) (ma : BitVec 32) (mw : BitVec 32) (s : State) {ps : List Part} {s0_ : State} (hO : OnlyChanges ps s0_ s) (hW : within [.sup, .sprout, .sources] ps = true)  : ∀ t_, (execSupervisorRead ok aMv bMv ma mw s) = .next t_ → OnlyChanges ps s0_ t_ := by
  unfold execSupervisorRead
  try dsimp only
  repeat' (first | with_reducible assumption | (with_reducible rintro _ ⟨⟩) | (with_reducible first | (refine guarded_only _ _ _ ?_ ?_ ?_) | (apply State.raise_only)) | (exact within_trans rfl hW) | split | (with_reducible first | (apply State.sup_update) | (apply State.sprout_update)) | ((with_reducible refine OnlyChanges.update ?_ ?_); (on_goal 2 => ((with_reducible intro p hp); (fail_if_success (with_reducible exact Part.same_refl _ _)); cases p <;> first | exact (OnlyChanges.mem hW hp rfl).elim | exact rfl | (and_intros <;> exact rfl)))) | (with_reducible intro _) )

theorem execSproutCheckin_only (s : State) {ps : List Part} {s0_ : State} (hO : OnlyChanges ps s0_ s) (hW : within [.irqPending, .irqUnit] ps = true)  : ∀ t_, (execSproutCheckin s) = .next t_ → OnlyChanges ps s0_ t_ := by
  unfold execSproutCheckin
  try dsimp only
  repeat' (first | with_reducible assumption | (with_reducible rintro _ ⟨⟩) | (with_reducible first | (refine guarded_only _ _ _ ?_ ?_ ?_) | (apply State.interrupt_only) | (apply State.sproutSeen_only)) | (exact within_trans rfl hW) | split | (with_reducible intro _) )

theorem execSproutCheckinMissed_only (s : State) {ps : List Part} {s0_ : State} (hO : OnlyChanges ps s0_ s) (hW : within [.irqUnit, .sources] ps = true)  : ∀ t_, (execSproutCheckinMissed s) = .next t_ → OnlyChanges ps s0_ t_ := by
  unfold execSproutCheckinMissed
  try dsimp only
  repeat' (first | with_reducible assumption | (with_reducible rintro _ ⟨⟩) | (with_reducible first | (refine guarded_only _ _ _ ?_ ?_ ?_) | (apply State.raise_only) | (apply State.sproutSeen_only)) | (exact within_trans rfl hW) | split | (with_reducible intro _) )

theorem execPortContainment_only (n : Fin 40) (s : State) {ps : List Part} {s0_ : State} (hO : OnlyChanges ps s0_ s) (hW : within [.groups, .lanes, .ports, .scans, .bridges, .irqPending, .sources, .collector, .mirror, .outputs] ps = true)  : ∀ t_, (execPortContainment n s) = .next t_ → OnlyChanges ps s0_ t_ := by
  unfold execPortContainment
  try dsimp only
  repeat' (first | with_reducible assumption | (with_reducible rintro _ ⟨⟩) | (with_reducible first | (refine guarded_only _ _ _ ?_ ?_ ?_) | (apply State.containGroup_only)) | (exact within_trans rfl hW) | split | (with_reducible intro _) )

theorem execCollectorScan_only (s : State) {ps : List Part} {s0_ : State} (hO : OnlyChanges ps s0_ s) (hW : within [.inflight, .board, .sup, .start, .lanes, .frames, .matcher, .tracker, .sources, .safeState, .collector, .outputs] ps = true)  : ∀ t_, (execCollectorScan s) = .next t_ → OnlyChanges ps s0_ t_ := by
  unfold execCollectorScan
  try dsimp only
  repeat' (first | with_reducible assumption | (with_reducible rintro _ ⟨⟩) | (with_reducible first | (refine guarded_only _ _ _ ?_ ?_ ?_) | (apply State.parityCheck_only)) | (exact within_trans rfl hW) | split | (with_reducible intro _) )

theorem execBeatFrame_only (f : BeatFrame) (s : State) {ps : List Part} {s0_ : State} (hO : OnlyChanges ps s0_ s) (hW : within [.trunks, .pairing, .views] ps = true)  : ∀ t_, (execBeatFrame f s) = .next t_ → OnlyChanges ps s0_ t_ := by
  unfold execBeatFrame
  try dsimp only
  repeat' (first | with_reducible assumption | (with_reducible rintro _ ⟨⟩) | (with_reducible first | (refine guarded_only _ _ _ ?_ ?_ ?_) | (apply State.garnetAccept_only) | (apply State.bump_only)) | (exact within_trans rfl hW) | split | (with_reducible first | (apply State.pairing_update)) | ((with_reducible refine OnlyChanges.update ?_ ?_); (on_goal 2 => ((with_reducible intro p hp); (fail_if_success (with_reducible exact Part.same_refl _ _)); cases p <;> first | exact (OnlyChanges.mem hW hp rfl).elim | exact rfl | (and_intros <;> exact rfl)))) | (with_reducible intro _) )

theorem execRecordFrame_only (h : GarnetHead) (records : List Record) (s : State) {ps : List Part} {s0_ : State} (hO : OnlyChanges ps s0_ s) (hW : within [.groups, .lanes, .ports, .scans, .tracker, .trunks, .extents, .ledger, .homeSlots, .funcs, .masterWait, .sources, .pairing, .mirror, .views, .outputs] ps = true)  : ∀ t_, (execRecordFrame h records s) = .next t_ → OnlyChanges ps s0_ t_ := by
  unfold execRecordFrame
  try dsimp only
  repeat' (first | with_reducible assumption | (with_reducible rintro _ ⟨⟩) | (with_reducible first | (refine checked_only _ _ _ _ ?_ ?_ ?_) | (apply State.garnetAccept_only) | (apply State.each_only) | (apply State.applyRecord_only)) | (exact within_trans rfl hW) | split | (with_reducible intro _) )

theorem execMirrorAckRelease_only (ack : BitVec 12) (s : State) {ps : List Part} {s0_ : State} (hO : OnlyChanges ps s0_ s) (hW : within [.groups, .lanes, .ports, .scans, .hiers, .bridges, .tracker, .trunks, .ledger, .homeSlots, .funcs, .vectors, .instances, .masterWait, .sources, .pairing, .mirror, .sessions, .views, .outputs] ps = true)  : ∀ t_, (execMirrorAckRelease ack s) = .next t_ → OnlyChanges ps s0_ t_ := by
  unfold execMirrorAckRelease
  try dsimp only
  repeat' (first | with_reducible assumption | (with_reducible rintro _ ⟨⟩) | (with_reducible first | (refine guarded_only _ _ _ ?_ ?_ ?_) | (apply State.twinAck_only)) | (exact within_trans rfl hW) | split | (with_reducible intro _) )

theorem execMissedHeartbeat_only (s : State) {ps : List Part} {s0_ : State} (hO : OnlyChanges ps s0_ s) (hW : within [.groups, .board, .lanes, .ports, .scans, .funcs, .vectors, .instances, .sources, .pairing, .mirror, .sessions, .views, .outputs] ps = true)  : ∀ t_, (execMissedHeartbeat s) = .next t_ → OnlyChanges ps s0_ t_ := by
  unfold execMissedHeartbeat
  try dsimp only
  repeat' (first | with_reducible assumption | (with_reducible rintro _ ⟨⟩) | (with_reducible first | (refine guarded_only _ _ _ ?_ ?_ ?_) | (apply State.missBeat_only)) | (exact within_trans rfl hW) | split | (with_reducible intro _) )

theorem execTwinAlertPulsing_only (s : State) {ps : List Part} {s0_ : State} (hO : OnlyChanges ps s0_ s) (hW : within [.beat, .epochs, .inflight, .commit, .tables, .groups, .board, .sup, .start, .lanes, .ports, .scans, .frames, .units, .matcher, .paths, .hiers, .bridges, .slots, .tracker, .channels, .pwf, .trunks, .devices, .extents, .poolLines, .poolEvents, .ledger, .homeSlots, .departed, .qps, .cqs, .regions, .clusters, .funcs, .vectors, .instances, .cmdOrder, .contained, .masterWait, .irqPending, .irqUnit, .sprout, .sources, .safeState, .collector, .pairing, .mirror, .sessions, .segments, .settings, .settingsNext, .settingsStart, .views] ps = true)  : ∀ t_, (execTwinAlertPulsing s) = .next t_ → OnlyChanges ps s0_ t_ := by
  unfold execTwinAlertPulsing
  try dsimp only
  repeat' (first | with_reducible assumption | (with_reducible rintro _ ⟨⟩) | (with_reducible first | (refine guarded_only _ _ _ ?_ ?_ ?_) | (apply State.warmStart_only)) | (exact within_trans rfl hW) | split | (with_reducible intro _) )

theorem execTakeover_only (s : State) {ps : List Part} {s0_ : State} (hO : OnlyChanges ps s0_ s) (hW : within [.inflight, .groups, .board, .lanes, .ports, .scans, .frames, .matcher, .paths, .hiers, .bridges, .slots, .tracker, .pwf, .trunks, .ledger, .homeSlots, .qps, .cqs, .regions, .funcs, .vectors, .instances, .contained, .masterWait, .irqPending, .sources, .pairing, .mirror, .sessions, .views, .outputs, .free] ps = true)  : ∀ t_, (execTakeover s) = .next t_ → OnlyChanges ps s0_ t_ := by
  unfold execTakeover
  try dsimp only
  repeat' (first | with_reducible assumption | (with_reducible rintro _ ⟨⟩) | (with_reducible first | (refine guarded_only _ _ _ ?_ ?_ ?_) | (apply State.takeover_only)) | (exact within_trans rfl hW) | split | (with_reducible intro _) )

theorem execAttachRequestMessage_only (h : GarnetHead) (differs : Fin 8) (s : State) {ps : List Part} {s0_ : State} (hO : OnlyChanges ps s0_ s) (hW : within [.groups, .lanes, .ports, .scans, .hiers, .bridges, .trunks, .ledger, .funcs, .vectors, .instances, .irqPending, .sources, .pairing, .mirror, .sessions, .views, .outputs] ps = true)  : ∀ t_, (execAttachRequestMessage h differs s) = .next t_ → OnlyChanges ps s0_ t_ := by
  unfold execAttachRequestMessage
  try dsimp only
  repeat' (first | with_reducible assumption | (with_reducible rintro _ ⟨⟩) | (with_reducible first | (refine guarded_only _ _ _ ?_ ?_ ?_) | (apply State.message_only) | (apply State.enterAttaching_only) | (apply State.tellTwin_only) | (apply State.attachRefused_only)) | (exact within_trans rfl hW) | split | (with_reducible intro _) )

theorem execAttachAccept_only (h : GarnetHead) (s : State) {ps : List Part} {s0_ : State} (hO : OnlyChanges ps s0_ s) (hW : within [.groups, .lanes, .ports, .scans, .hiers, .bridges, .trunks, .ledger, .funcs, .vectors, .instances, .irqPending, .sources, .pairing, .mirror, .sessions, .views, .outputs] ps = true)  : ∀ t_, (execAttachAccept h s) = .next t_ → OnlyChanges ps s0_ t_ := by
  unfold execAttachAccept
  try dsimp only
  repeat' (first | with_reducible assumption | (with_reducible rintro _ ⟨⟩) | (with_reducible first | (refine guarded_only _ _ _ ?_ ?_ ?_) | (apply State.message_only) | (apply State.enterAttaching_only)) | (exact within_trans rfl hW) | split | (with_reducible intro _) )

theorem execAttachRefuse_only (h : GarnetHead) (reason : BitVec 8) (s : State) {ps : List Part} {s0_ : State} (hO : OnlyChanges ps s0_ s) (hW : within [.trunks, .irqPending, .sources, .pairing, .views] ps = true)  : ∀ t_, (execAttachRefuse h reason s) = .next t_ → OnlyChanges ps s0_ t_ := by
  unfold execAttachRefuse
  try dsimp only
  repeat' (first | with_reducible assumption | (with_reducible rintro _ ⟨⟩) | (with_reducible first | (refine guarded_only _ _ _ ?_ ?_ ?_) | (apply State.message_only) | (apply State.attachRefused_only)) | (exact within_trans rfl hW) | split | (with_reducible intro _) )

theorem execSyncDone_only (h : GarnetHead) (s : State) {ps : List Part} {s0_ : State} (hO : OnlyChanges ps s0_ s) (hW : within [.groups, .lanes, .ports, .scans, .trunks, .funcs, .vectors, .instances, .irqPending, .sources, .pairing, .mirror, .sessions, .views, .outputs] ps = true)  : ∀ t_, (execSyncDone h s) = .next t_ → OnlyChanges ps s0_ t_ := by
  unfold execSyncDone
  try dsimp only
  repeat' (first | with_reducible assumption | (with_reducible rintro _ ⟨⟩) | (with_reducible first | (refine guarded_only _ _ _ ?_ ?_ ?_) | (apply State.message_only) | (apply State.tryPaired_only)) | (exact within_trans rfl hW) | split | (with_reducible first | (apply State.pairing_update)) | ((with_reducible refine OnlyChanges.update ?_ ?_); (on_goal 2 => ((with_reducible intro p hp); (fail_if_success (with_reducible exact Part.same_refl _ _)); cases p <;> first | exact (OnlyChanges.mem hW hp rfl).elim | exact rfl | (and_intros <;> exact rfl)))) | (with_reducible intro _) )

theorem execDetachMessage_only (h : GarnetHead) (s : State) {ps : List Part} {s0_ : State} (hO : OnlyChanges ps s0_ s) (hW : within [.groups, .lanes, .ports, .scans, .tracker, .trunks, .ledger, .homeSlots, .funcs, .vectors, .instances, .masterWait, .irqPending, .sources, .pairing, .mirror, .sessions, .views, .outputs] ps = true)  : ∀ t_, (execDetachMessage h s) = .next t_ → OnlyChanges ps s0_ t_ := by
  unfold execDetachMessage
  try dsimp only
  repeat' (first | with_reducible assumption | (with_reducible rintro _ ⟨⟩) | (with_reducible first | (refine guarded_only _ _ _ ?_ ?_ ?_) | (apply State.message_only) | (apply State.becomeSingle_only)) | (exact within_trans rfl hW) | split | (with_reducible intro _) )

theorem execHomeMoveMessage_only (h : GarnetHead) (region : Fin 256) (s : State) {ps : List Part} {s0_ : State} (hO : OnlyChanges ps s0_ s) (hW : within [.groups, .lanes, .ports, .scans, .hiers, .bridges, .trunks, .irqPending, .pairing, .mirror, .views, .outputs] ps = true)  : ∀ t_, (execHomeMoveMessage h region s) = .next t_ → OnlyChanges ps s0_ t_ := by
  unfold execHomeMoveMessage
  try dsimp only
  repeat' (first | with_reducible assumption | (with_reducible rintro _ ⟨⟩) | (with_reducible first | (refine guarded_only _ _ _ ?_ ?_ ?_) | (apply State.message_only) | (apply State.refreshShared_only)) | (exact within_trans rfl hW) | split | (with_reducible first | (apply State.pairing_update)) | ((with_reducible refine OnlyChanges.update ?_ ?_); (on_goal 2 => ((with_reducible intro p hp); (fail_if_success (with_reducible exact Part.same_refl _ _)); cases p <;> first | exact (OnlyChanges.mem hW hp rfl).elim | exact rfl | (and_intros <;> exact rfl)))) | (with_reducible intro _) )

theorem execRecallRequest_only (h : GarnetHead) (bank : Fin 16) (set_ : BitVec 10) (s : State) {ps : List Part} {s0_ : State} (hO : OnlyChanges ps s0_ s) (hW : within [.groups, .lanes, .ports, .scans, .trunks, .ledger, .homeSlots, .irqPending, .sources, .mirror, .views, .outputs] ps = true)  : ∀ t_, (execRecallRequest h bank set_ s) = .next t_ → OnlyChanges ps s0_ t_ := by
  unfold execRecallRequest
  refine guarded_only _ _ _ hO rfl ?_
  intro s1 h1
  refine State.message_only _ _ _ _ _ h1 (within_trans rfl hW) ?_
  intro s2 h2
  split
  · exact State.recallIn_only _ _ _ _ h2 (within_trans rfl hW) (fun _ h3 => h3)
  · exact h2

theorem execRestartRequest_only (h : GarnetHead) (s : State) {ps : List Part} {s0_ : State} (hO : OnlyChanges ps s0_ s) (hW : within [.beat, .epochs, .inflight, .commit, .tables, .groups, .board, .sup, .start, .lanes, .ports, .scans, .frames, .units, .matcher, .paths, .hiers, .bridges, .slots, .tracker, .channels, .pwf, .trunks, .devices, .extents, .poolLines, .poolEvents, .ledger, .homeSlots, .departed, .qps, .cqs, .regions, .clusters, .funcs, .vectors, .instances, .cmdOrder, .contained, .masterWait, .irqPending, .irqUnit, .sprout, .sources, .safeState, .collector, .pairing, .mirror, .sessions, .segments, .settings, .settingsNext, .settingsStart, .views] ps = true)  : ∀ t_, (execRestartRequest h s) = .next t_ → OnlyChanges ps s0_ t_ := by
  unfold execRestartRequest
  try dsimp only
  repeat' (first | with_reducible assumption | (with_reducible rintro _ ⟨⟩) | (with_reducible first | (refine guarded_only _ _ _ ?_ ?_ ?_) | (apply State.message_only) | (apply State.warmStart_only)) | (exact within_trans rfl hW) | split | (with_reducible intro _) )

theorem execRestartRequestRepeat_only (s : State) {ps : List Part} {s0_ : State} (hO : OnlyChanges ps s0_ s) (hW : within [.trunks, .sources, .pairing, .mirror, .views] ps = true)  : ∀ t_, (execRestartRequestRepeat s) = .next t_ → OnlyChanges ps s0_ t_ := by
  unfold execRestartRequestRepeat
  try dsimp only
  repeat' (first | with_reducible assumption | (with_reducible rintro _ ⟨⟩) | (with_reducible first | (refine guarded_only _ _ _ ?_ ?_ ?_) | (apply State.askRestart_only)) | (exact within_trans rfl hW) | split | (with_reducible intro _) )

theorem execTwinQuery_only (q : BitVec 32) (s : State) {ps : List Part} {s0_ : State} (hO : OnlyChanges ps s0_ s) (hW : within [.views, .outputs] ps = true)  : ∀ t_, (execTwinQuery q s) = .next t_ → OnlyChanges ps s0_ t_ := by
  unfold execTwinQuery
  try dsimp only
  repeat' (first | with_reducible assumption | (with_reducible rintro _ ⟨⟩) | (with_reducible first | (refine commandWrite_only _ _ ?_ ?_ ?_) | (apply State.answer_only) | (apply State.setView_only)) | (exact within_trans rfl hW) | split | (with_reducible intro _) )

theorem received_only (p : AdpPath) (f : State → State) (s : State) {ps : List Part} {s0_ : State} (hO : OnlyChanges ps s0_ s) (hW : within [.funcs, .irqPending] ps = true) (h_f : ∀ s_, OnlyChanges ps s0_ s_ → OnlyChanges ps s0_ (f s_)) : ∀ t_, (received p f s) = .next t_ → OnlyChanges ps s0_ t_ := by
  unfold received
  try dsimp only
  repeat' (first | with_reducible assumption | (with_reducible rintro _ ⟨⟩) | (with_reducible first | (refine guarded_only _ _ _ ?_ ?_ ?_) | (apply State.arrived_only) | (apply h_f)) | (exact within_trans rfl hW) | split | (with_reducible intro _) )

theorem execHello_only (path : AdpPath) (version : BitVec 8) (level : BitVec 8) (chainLen : BitVec 16) (s : State) {ps : List Part} {s0_ : State} (hO : OnlyChanges ps s0_ s) (hW : within [.groups, .lanes, .ports, .scans, .funcs, .vectors, .instances, .irqPending, .sources, .mirror, .sessions, .views, .outputs, .free] ps = true)  : ∀ t_, (execHello path version level chainLen s) = .next t_ → OnlyChanges ps s0_ t_ := by
  unfold execHello
  try dsimp only
  repeat' (first | with_reducible assumption | (with_reducible rintro _ ⟨⟩) | (with_reducible first | (refine received_only _ _ _ ?_ ?_ ?_) | (apply State.refuse_only) | (apply State.refuseCheck_only) | (apply State.refuseLimit_only) | (apply State.helloReply_only)) | (exact within_trans rfl hW) | split | (with_reducible first | (apply State.sessions_update)) | ((with_reducible refine OnlyChanges.update ?_ ?_); (on_goal 2 => ((with_reducible intro p hp); (fail_if_success (with_reducible exact Part.same_refl _ _)); cases p <;> first | exact (OnlyChanges.mem hW hp rfl).elim | exact rfl | (and_intros <;> exact rfl)))) | (with_reducible intro _) )

theorem execChain_only (path : AdpPath) (session : BitVec 32) (offset : BitVec 16) (len : Fin 1025) (s : State) {ps : List Part} {s0_ : State} (hO : OnlyChanges ps s0_ s) (hW : within [.groups, .lanes, .ports, .scans, .funcs, .vectors, .instances, .irqPending, .sources, .mirror, .sessions, .views, .outputs] ps = true)  : ∀ t_, (execChain path session offset len s) = .next t_ → OnlyChanges ps s0_ t_ := by
  unfold execChain
  try dsimp only
  repeat' (first | with_reducible assumption | (with_reducible rintro _ ⟨⟩) | (with_reducible first | (refine received_only _ _ _ ?_ ?_ ?_) | (apply State.refuse_only) | (apply State.refuseCheck_only) | (apply State.setSession_only)) | (exact within_trans rfl hW) | split | (with_reducible intro _) )

theorem execFinish_only (path : AdpPath) (session : BitVec 32) (signatureOk : Bool) (chainOk : Bool) (anchor : Option (Fin 64)) (selfSigned : Bool) (s : State) {ps : List Part} {s0_ : State} (hO : OnlyChanges ps s0_ s) (hW : within [.groups, .lanes, .ports, .scans, .funcs, .vectors, .instances, .irqPending, .sources, .mirror, .sessions, .views, .outputs, .free] ps = true)  : ∀ t_, (execFinish path session signatureOk chainOk anchor selfSigned s) = .next t_ → OnlyChanges ps s0_ t_ := by
  unfold execFinish
  try dsimp only
  repeat' (first | with_reducible assumption | (with_reducible rintro _ ⟨⟩) | (with_reducible first | (refine received_only _ _ _ ?_ ?_ ?_) | (apply State.refuse_only) | (apply State.refuseCheck_only) | (apply State.refuseLimit_only) | (apply State.setSession_only) | (apply State.fresh_only) | (apply State.sendAdp_only)) | (exact within_trans rfl hW) | split | (with_reducible intro _) )

theorem execClose_only (h : AdpHead) (s : State) {ps : List Part} {s0_ : State} (hO : OnlyChanges ps s0_ s) (hW : within [.groups, .lanes, .ports, .scans, .funcs, .vectors, .instances, .irqPending, .sources, .mirror, .sessions, .views, .outputs] ps = true)  : ∀ t_, (execClose h s) = .next t_ → OnlyChanges ps s0_ t_ := by
  unfold execClose
  try dsimp only
  repeat' (first | with_reducible assumption | (with_reducible rintro _ ⟨⟩) | (with_reducible first | (refine received_only _ _ _ ?_ ?_ ?_) | (apply State.adpMessage_only) | (apply State.endSession_only)) | (exact within_trans rfl hW) | split | (with_reducible intro _) )

theorem execAdpRead_only (h : AdpHead) (items : List AdpItem) (s : State) {ps : List Part} {s0_ : State} (hO : OnlyChanges ps s0_ s) (hW : within [.inflight, .groups, .board, .sup, .start, .lanes, .ports, .scans, .frames, .matcher, .tracker, .funcs, .vectors, .instances, .irqPending, .sources, .safeState, .collector, .mirror, .sessions, .views, .outputs] ps = true)  : ∀ t_, (execAdpRead h items s) = .next t_ → OnlyChanges ps s0_ t_ := by
  unfold execAdpRead
  try dsimp only
  repeat' (first | with_reducible assumption | (with_reducible rintro _ ⟨⟩) | (with_reducible first | (refine received_only _ _ _ ?_ ?_ ?_) | (apply State.adpMessage_only) | (apply State.respond_only) | (apply State.ifDo_only) | (apply State.parityCheck_only)) | (exact within_trans rfl hW) | split | (with_reducible intro _) )

theorem execAdpWrite_only (h : AdpHead) (items : List AdpItem) (cycle : Fin 256) (s : State) {ps : List Part} {s0_ : State} (hO : OnlyChanges ps s0_ s) (hW : within [.beat, .epochs, .inflight, .commit, .tables, .groups, .board, .sup, .start, .lanes, .ports, .scans, .frames, .units, .matcher, .paths, .hiers, .bridges, .slots, .tracker, .channels, .pwf, .trunks, .devices, .extents, .poolLines, .poolEvents, .ledger, .homeSlots, .departed, .qps, .cqs, .regions, .clusters, .funcs, .vectors, .instances, .cmdOrder, .contained, .masterWait, .irqPending, .irqUnit, .sprout, .sources, .safeState, .collector, .pairing, .mirror, .sessions, .segments, .anchors, .settings, .settingsNext, .settingsStart, .views, .outputs, .free] ps = true)  : ∀ t_, (execAdpWrite h items cycle s) = .next t_ → OnlyChanges ps s0_ t_ := by
  unfold execAdpWrite
  try dsimp only
  repeat' (first | with_reducible assumption | (with_reducible rintro _ ⟨⟩) | (with_reducible first | (refine received_only _ _ _ ?_ ?_ ?_) | (apply State.adpMessage_only) | (apply State.respond_only) | (apply State.endThrough_only) | (apply State.each_only) | (apply State.writeItem_only)) | (exact within_trans rfl hW) | split | (with_reducible intro _) )

theorem execAdpCommit_only (h : AdpHead) (token : BitVec 32) (cycle : Fin 256) (s : State) {ps : List Part} {s0_ : State} (hO : OnlyChanges ps s0_ s) (hW : within [.commit, .groups, .lanes, .ports, .scans, .funcs, .vectors, .instances, .irqPending, .sources, .mirror, .sessions, .views, .outputs] ps = true)  : ∀ t_, (execAdpCommit h token cycle s) = .next t_ → OnlyChanges ps s0_ t_ := by
  unfold execAdpCommit
  try dsimp only
  repeat' (first | with_reducible assumption | (with_reducible rintro _ ⟨⟩) | (with_reducible first | (refine received_only _ _ _ ?_ ?_ ?_) | (apply State.request_only) | (refine execCommitRequest_only _ _ _ ?_ ?_) | (apply settled_only)) | (exact within_trans rfl hW) | split | (with_reducible intro _) )

theorem execSubscribe_only (h : AdpHead) (mask : BitVec 32) (s : State) {ps : List Part} {s0_ : State} (hO : OnlyChanges ps s0_ s) (hW : within [.groups, .lanes, .ports, .scans, .funcs, .vectors, .instances, .irqPending, .sources, .mirror, .sessions, .views, .outputs] ps = true)  : ∀ t_, (execSubscribe h mask s) = .next t_ → OnlyChanges ps s0_ t_ := by
  unfold execSubscribe
  try dsimp only
  repeat' (first | with_reducible assumption | (with_reducible rintro _ ⟨⟩) | (with_reducible first | (refine received_only _ _ _ ?_ ?_ ?_) | (apply State.request_only) | (apply State.setSession_only)) | (exact within_trans rfl hW) | split | (with_reducible intro _) )

theorem execNop_only (h : AdpHead) (s : State) {ps : List Part} {s0_ : State} (hO : OnlyChanges ps s0_ s) (hW : within [.groups, .lanes, .ports, .scans, .funcs, .vectors, .instances, .irqPending, .sources, .mirror, .sessions, .views, .outputs] ps = true)  : ∀ t_, (execNop h s) = .next t_ → OnlyChanges ps s0_ t_ := by
  unfold execNop
  try dsimp only
  repeat' (first | with_reducible assumption | (with_reducible rintro _ ⟨⟩) | (with_reducible first | (refine received_only _ _ _ ?_ ?_ ?_) | (apply State.request_only)) | (exact within_trans rfl hW) | split | (with_reducible intro _) )

theorem execHandshakeTimeout_only (session : BitVec 32) (s : State) {ps : List Part} {s0_ : State} (hO : OnlyChanges ps s0_ s) (hW : within [.sessions] ps = true)  : ∀ t_, (execHandshakeTimeout session s) = .next t_ → OnlyChanges ps s0_ t_ := by
  unfold execHandshakeTimeout
  try dsimp only
  repeat' (first | with_reducible assumption | (with_reducible rintro _ ⟨⟩) | (with_reducible first | (refine guarded_only _ _ _ ?_ ?_ ?_) | (apply State.endSession_only)) | (exact within_trans rfl hW) | split | (with_reducible intro _) )

theorem execIdleTimeout_only (session : BitVec 32) (s : State) {ps : List Part} {s0_ : State} (hO : OnlyChanges ps s0_ s) (hW : within [.sessions] ps = true)  : ∀ t_, (execIdleTimeout session s) = .next t_ → OnlyChanges ps s0_ t_ := by
  unfold execIdleTimeout
  try dsimp only
  repeat' (first | with_reducible assumption | (with_reducible rintro _ ⟨⟩) | (with_reducible first | (refine guarded_only _ _ _ ?_ ?_ ?_) | (apply State.endSession_only)) | (exact within_trans rfl hW) | split | (with_reducible intro _) )

theorem execAddressConflict_only (onB : Bool) (s : State) {ps : List Part} {s0_ : State} (hO : OnlyChanges ps s0_ s) (hW : within [.sources, .segments] ps = true)  : ∀ t_, (execAddressConflict onB s) = .next t_ → OnlyChanges ps s0_ t_ := by
  unfold execAddressConflict
  try dsimp only
  repeat' (first | with_reducible assumption | (with_reducible rintro _ ⟨⟩) | (with_reducible first | (refine guarded_only _ _ _ ?_ ?_ ?_) | (apply State.raise_only)) | (exact within_trans rfl hW) | split | (with_reducible first | (apply State.segments_update)) | ((with_reducible refine OnlyChanges.update ?_ ?_); (on_goal 2 => ((with_reducible intro p hp); (fail_if_success (with_reducible exact Part.same_refl _ _)); cases p <;> first | exact (OnlyChanges.mem hW hp rfl).elim | exact rfl | (and_intros <;> exact rfl)))) | (with_reducible intro _) )

theorem execSegmentDown_only (onB : Bool) (s : State) {ps : List Part} {s0_ : State} (hO : OnlyChanges ps s0_ s) (hW : within [.sources, .segments] ps = true)  : ∀ t_, (execSegmentDown onB s) = .next t_ → OnlyChanges ps s0_ t_ := by
  unfold execSegmentDown
  try dsimp only
  repeat' (first | with_reducible assumption | (with_reducible rintro _ ⟨⟩) | (with_reducible first | (refine guarded_only _ _ _ ?_ ?_ ?_) | (apply State.raise_only)) | (exact within_trans rfl hW) | split | (with_reducible first | (apply State.segments_update)) | ((with_reducible refine OnlyChanges.update ?_ ?_); (on_goal 2 => ((with_reducible intro p hp); (fail_if_success (with_reducible exact Part.same_refl _ _)); cases p <;> first | exact (OnlyChanges.mem hW hp rfl).elim | exact rfl | (and_intros <;> exact rfl)))) | (with_reducible intro _) )

theorem execTrustAnchorWrite_only (slot : Fin 64) (anchor : BitVec 800) (s : State) {ps : List Part} {s0_ : State} (hO : OnlyChanges ps s0_ s) (hW : within [.start, .sources, .sessions, .anchors, .settingsNext, .settingsStart, .outputs] ps = true)  : ∀ t_, (execTrustAnchorWrite slot anchor s) = .next t_ → OnlyChanges ps s0_ t_ := by
  unfold execTrustAnchorWrite
  try dsimp only
  repeat' (first | with_reducible assumption | (with_reducible rintro _ ⟨⟩) | (with_reducible first | (refine commandWrite_only _ _ ?_ ?_ ?_) | (apply State.endThrough_only) | (apply State.answer_only) | (apply State.writeSetting_only)) | (exact within_trans rfl hW) | split | (with_reducible intro _) )

theorem execRegisterWrite_only (w : RegWrite) (cycle : Fin 256) (s : State) {ps : List Part} {s0_ : State} (hO : OnlyChanges ps s0_ s) (hW : within [.beat, .epochs, .inflight, .commit, .tables, .groups, .board, .sup, .start, .lanes, .ports, .scans, .frames, .units, .matcher, .paths, .hiers, .bridges, .slots, .tracker, .channels, .pwf, .trunks, .devices, .extents, .poolLines, .poolEvents, .ledger, .homeSlots, .departed, .qps, .cqs, .regions, .clusters, .funcs, .vectors, .instances, .cmdOrder, .contained, .masterWait, .irqPending, .irqUnit, .sprout, .sources, .safeState, .collector, .pairing, .mirror, .sessions, .segments, .anchors, .settings, .settingsNext, .settingsStart, .views, .outputs, .free] ps = true)  : ∀ t_, (execRegisterWrite w cycle s) = .next t_ → OnlyChanges ps s0_ t_ := by
  unfold execRegisterWrite
  try dsimp only
  repeat' (first | with_reducible assumption | (with_reducible rintro _ ⟨⟩) | (with_reducible first | (refine guarded_only _ _ _ ?_ ?_ ?_) | (apply State.registerWrite_only)) | (exact within_trans rfl hW) | split | (with_reducible intro _) )

theorem execSegmentUp_only (onB : Bool) (s : State) {ps : List Part} {s0_ : State} (hO : OnlyChanges ps s0_ s) (hW : within [.segments] ps = true)  : ∀ t_, (execSegmentUp onB s) = .next t_ → OnlyChanges ps s0_ t_ := by
  unfold execSegmentUp
  try dsimp only
  repeat' (first | with_reducible assumption | (with_reducible rintro _ ⟨⟩) | (with_reducible first | (refine guarded_only _ _ _ ?_ ?_ ?_)) | (exact within_trans rfl hW) | split | (with_reducible first | (apply State.segments_update)) | ((with_reducible refine OnlyChanges.update ?_ ?_); (on_goal 2 => ((with_reducible intro p hp); (fail_if_success (with_reducible exact Part.same_refl _ _)); cases p <;> first | exact (OnlyChanges.mem hW hp rfl).elim | exact rfl | (and_intros <;> exact rfl)))) | (with_reducible intro _) )

theorem execPartnerCreditReturn_only (port : Fin 160) (cls : Fin 4) (credit : Credit) (s : State) {ps : List Part} {s0_ : State} (hO : OnlyChanges ps s0_ s) (hW : within [.ports] ps = true)  : ∀ t_, (execPartnerCreditReturn port cls credit s) = .next t_ → OnlyChanges ps s0_ t_ := by
  unfold execPartnerCreditReturn
  try dsimp only
  repeat' (first | with_reducible assumption | (with_reducible rintro _ ⟨⟩) | (with_reducible first | (refine guarded_only _ _ _ ?_ ?_ ?_) | (apply State.setPort_only)) | (exact within_trans rfl hW) | split | (with_reducible intro _) )

theorem execTrainingSetReceived_only (port : Fin 160) (stage : Fin 5) (unused : BitVec 16) (sets : TrainSets) (s : State) {ps : List Part} {s0_ : State} (hO : OnlyChanges ps s0_ s) (hW : within [.inflight, .groups, .lanes, .ports, .scans, .frames, .matcher, .paths, .hiers, .bridges, .slots, .tracker, .channels, .pwf, .trunks, .devices, .extents, .poolLines, .poolEvents, .ledger, .homeSlots, .departed, .qps, .cqs, .regions, .funcs, .vectors, .instances, .cmdOrder, .masterWait, .irqPending, .sources, .mirror, .sessions, .views, .outputs, .free] ps = true)  : ∀ t_, (execTrainingSetReceived port stage unused sets s) = .next t_ → OnlyChanges ps s0_ t_ := by
  unfold execTrainingSetReceived
  try dsimp only
  repeat' (first | with_reducible assumption | (with_reducible rintro _ ⟨⟩) | (with_reducible first | (refine guarded_only _ _ _ ?_ ?_ ?_) | (apply State.equalizeLane_only) | (apply State.portDown_only) | (apply State.toStage_only) | (apply State.enterRecovery_only) | (apply State.each_only) | (apply State.laneFail_only) | (apply State.setLane_only)) | (exact within_trans rfl hW) | split | (with_reducible intro _) )

theorem execL1Exit_only (port : Fin 160) (s : State) {ps : List Part} {s0_ : State} (hO : OnlyChanges ps s0_ s) (hW : within [.groups, .lanes, .ports, .scans] ps = true)  : ∀ t_, (execL1Exit port s) = .next t_ → OnlyChanges ps s0_ t_ := by
  unfold execL1Exit
  try dsimp only
  repeat' (first | with_reducible assumption | (with_reducible rintro _ ⟨⟩) | (with_reducible first | (refine guarded_only _ _ _ ?_ ?_ ?_) | (apply State.setPower_only) | (apply State.setPort_only)) | (exact within_trans rfl hW) | split | (with_reducible intro _) )

theorem execInvertedMarker_only (port : Fin 160) (s : State) {ps : List Part} {s0_ : State} (hO : OnlyChanges ps s0_ s) (hW : within [.lanes, .trunks] ps = true)  : ∀ t_, (execInvertedMarker port s) = .next t_ → OnlyChanges ps s0_ t_ := by
  unfold execInvertedMarker
  try dsimp only
  repeat' (first | with_reducible assumption | (with_reducible rintro _ ⟨⟩) | (with_reducible first | (refine guarded_only _ _ _ ?_ ?_ ?_) | (apply State.each_only) | (apply State.setLane_only) | (apply State.setTrunk_only)) | (exact within_trans rfl hW) | split | (with_reducible intro _) )

theorem execStoreSaveDone_only (ok : Bool) (s : State) {ps : List Part} {s0_ : State} (hO : OnlyChanges ps s0_ s) (hW : within [.start] ps = true)  : ∀ t_, (execStoreSaveDone ok s) = .next t_ → OnlyChanges ps s0_ t_ := by
  unfold execStoreSaveDone
  try dsimp only
  repeat' (first | with_reducible assumption | (with_reducible rintro _ ⟨⟩) | (with_reducible first | (refine guarded_only _ _ _ ?_ ?_ ?_) | (apply State.setStartUnit_only)) | (exact within_trans rfl hW) | split | (with_reducible intro _) )

theorem execDeviceEventRecord_only (d : Fin 256) (event : DeviceEvent) (s : State) {ps : List Part} {s0_ : State} (hO : OnlyChanges ps s0_ s) (hW : within [.poolEvents] ps = true)  : ∀ t_, (execDeviceEventRecord d event s) = .next t_ → OnlyChanges ps s0_ t_ := by
  unfold execDeviceEventRecord
  try dsimp only
  repeat' (first | with_reducible assumption | (with_reducible rintro _ ⟨⟩) | (with_reducible first | (refine guarded_only _ _ _ ?_ ?_ ?_) | (apply State.each_only) | (apply State.postEvent_only)) | (exact within_trans rfl hW) | split | (with_reducible intro _) )

end

end Sys2Proof.Machine
end

