-- ==== Sys2Proof/Laws/State.lean ====
section
/-!
SUPPORT. What the named updates of the state do: a value written to a table is read back and every other number keeps its
value; an update of one object changes that object, and leaves every other field of the state as it was. With these no later
proof unfolds a record update.
-/

namespace Sys2Proof

@[simp] theorem Tbl.look_put {α : Type} (t : Tbl α) (k j : Nat) (v d : α) : (t.put k v).look j d = if j = k then v else t.look j d := by
  by_cases h : j = k
  · subst h
    induction t with
    | nil => simp [Tbl.put, Tbl.look]
    | cons e r ih =>
      simp only [Tbl.put]
      split
      · simp [Tbl.look]
      · split
        · simp [Tbl.look]
        · rename_i h1 h2; simpa [Tbl.look, h1] using ih
  · have h' : ¬ k = j := fun e => h e.symm
    induction t with
    | nil => simp [Tbl.put, Tbl.look, h, h']
    | cons e r ih =>
      simp only [Tbl.put]
      split
      · rename_i h1; simp [Tbl.look, h', h1]
      · split
        · simp [Tbl.look, h']
        · simp only [Tbl.look, ih, h, if_false]

theorem Tbl.look_put_self {α : Type} (t : Tbl α) (k : Nat) (v d : α) : (t.put k v).look k d = v := by simp

theorem Tbl.look_put_other {α : Type} (t : Tbl α) {k j : Nat} (h : j ≠ k) (v d : α) : (t.put k v).look j d = t.look j d := by simp [h]

@[simp] theorem Tbl.look_del_other {α : Type} (t : Tbl α) {k j : Nat} (h : j ≠ k) (d : α) : (t.del k).look j d = t.look j d := by
  induction t with
  | nil => rfl
  | cons e r ih =>
    obtain ⟨i, w⟩ := e
    simp only [Tbl.del]
    split
    · subst_vars; simp [Tbl.look, Ne.symm h]
    · simp only [Tbl.look, ih]

/-- Changing every value of a table changes what each number holds, if the default stays. -/
theorem Tbl.look_map {α : Type} (t : Tbl α) (f : α → α) (k : Nat) (d : α) (h : f d = d) : (Tbl.look (t.map (fun e => (e.1, f e.2))) k d) = f (t.look k d) := by
  induction t with
  | nil => simp [Tbl.look, h]
  | cons e r ih =>
    obtain ⟨i, w⟩ := e
    simp only [List.map_cons, Tbl.look, ih]
    split <;> rfl

namespace Machine

/-! ### Outcome combinators -/

@[simp] theorem guarded_true (f : State → State) (s : State) : guarded true f s = .next (f s) := rfl
@[simp] theorem guarded_false (f : State → State) (s : State) : guarded false f s = .next s := rfl
theorem guarded_of {c : Bool} (h : c = true) (f : State → State) (s : State) : guarded c f s = .next (f s) := by simp [h]
@[simp] theorem checked_true (c : Bool) (f : State → State) (s : State) : checked true c f s = guarded c f s := rfl
@[simp] theorem checked_false (c : Bool) (f : State → State) (s : State) : checked false c f s = .next s := rfl
theorem checked_of {w c : Bool} (hw : w = true) (hc : c = true) (f : State → State) (s : State) : checked w c f s = .next (f s) := by
  simp [hw, hc]
theorem adpUp_of_adpOpen {s : State} (h : s.adpOpen = true) : s.adpUp = true := by
  simp only [State.adpOpen, Bool.and_eq_true] at h; exact h.1.1.1
theorem commandWrite_open {s : State} (h : s.adpOpen = true) (f : State → State) : commandWrite f s = .next (f s) := by
  simp [commandWrite, guarded, adpUp_of_adpOpen h, h]
theorem commandWrite_busy {s : State} (h : s.adpUp = true) (k : s.adpOpen = false) (f : State → State) : commandWrite f s = .next (s.answer 1) := by
  simp [commandWrite, guarded, h, k]
@[simp] theorem State.ifDo_true (f : State → State) (s : State) : State.ifDo true f s = f s := rfl
@[simp] theorem State.ifDo_false (f : State → State) (s : State) : State.ifDo false f s = s := rfl
@[simp] theorem State.each_nil {α : Type} (f : α → State → State) (s : State) : State.each [] f s = s := rfl
@[simp] theorem State.each_cons {α : Type} (x : α) (l : List α) (f : α → State → State) (s : State) : State.each (x :: l) f s = State.each l f (f x s) := rfl


/-! ### setLane -/

@[simp] theorem State.setLane_ep (s : State) (l : Nat) (f : Lane → Lane) : (s.setLane l f).ep = s.ep := rfl
@[simp] theorem State.setLane_groups (s : State) (l : Nat) (f : Lane → Lane) : (s.setLane l f).groups = s.groups := rfl
@[simp] theorem State.setLane_board (s : State) (l : Nat) (f : Lane → Lane) : (s.setLane l f).board = s.board := rfl
@[simp] theorem State.setLane_sup (s : State) (l : Nat) (f : Lane → Lane) : (s.setLane l f).sup = s.sup := rfl
@[simp] theorem State.setLane_start (s : State) (l : Nat) (f : Lane → Lane) : (s.setLane l f).start = s.start := rfl
@[simp] theorem State.setLane_ports (s : State) (l : Nat) (f : Lane → Lane) : (s.setLane l f).ports = s.ports := rfl
@[simp] theorem State.setLane_scans (s : State) (l : Nat) (f : Lane → Lane) : (s.setLane l f).scans = s.scans := rfl
@[simp] theorem State.setLane_core (s : State) (l : Nat) (f : Lane → Lane) : (s.setLane l f).core = s.core := rfl
@[simp] theorem State.setLane_fab (s : State) (l : Nat) (f : Lane → Lane) : (s.setLane l f).fab = s.fab := rfl
@[simp] theorem State.setLane_trunks (s : State) (l : Nat) (f : Lane → Lane) : (s.setLane l f).trunks = s.trunks := rfl
@[simp] theorem State.setLane_pool (s : State) (l : Nat) (f : Lane → Lane) : (s.setLane l f).pool = s.pool := rfl
@[simp] theorem State.setLane_home (s : State) (l : Nat) (f : Lane → Lane) : (s.setLane l f).home = s.home := rfl
@[simp] theorem State.setLane_beryl (s : State) (l : Nat) (f : Lane → Lane) : (s.setLane l f).beryl = s.beryl := rfl
@[simp] theorem State.setLane_host (s : State) (l : Nat) (f : Lane → Lane) : (s.setLane l f).host = s.host := rfl
@[simp] theorem State.setLane_irq (s : State) (l : Nat) (f : Lane → Lane) : (s.setLane l f).irq = s.irq := rfl
@[simp] theorem State.setLane_sprout (s : State) (l : Nat) (f : Lane → Lane) : (s.setLane l f).sprout = s.sprout := rfl
@[simp] theorem State.setLane_col (s : State) (l : Nat) (f : Lane → Lane) : (s.setLane l f).col = s.col := rfl
@[simp] theorem State.setLane_twin (s : State) (l : Nat) (f : Lane → Lane) : (s.setLane l f).twin = s.twin := rfl
@[simp] theorem State.setLane_adp (s : State) (l : Nat) (f : Lane → Lane) : (s.setLane l f).adp = s.adp := rfl
@[simp] theorem State.setLane_settings (s : State) (l : Nat) (f : Lane → Lane) : (s.setLane l f).settings = s.settings := rfl
@[simp] theorem State.setLane_settingsNext (s : State) (l : Nat) (f : Lane → Lane) : (s.setLane l f).settingsNext = s.settingsNext := rfl
@[simp] theorem State.setLane_settingsStart (s : State) (l : Nat) (f : Lane → Lane) : (s.setLane l f).settingsStart = s.settingsStart := rfl
@[simp] theorem State.setLane_views (s : State) (l : Nat) (f : Lane → Lane) : (s.setLane l f).views = s.views := rfl
@[simp] theorem State.setLane_out (s : State) (l : Nat) (f : Lane → Lane) : (s.setLane l f).out = s.out := rfl
@[simp] theorem State.setLane_free (s : State) (l : Nat) (f : Lane → Lane) : (s.setLane l f).free = s.free := rfl
@[simp] theorem State.setLane_pending (s : State) (l : Nat) (f : Lane → Lane) : (s.setLane l f).pending = s.pending := rfl
@[simp] theorem State.setLane_lane (s : State) (l : Nat) (f : Lane → Lane) (k : Nat) : (s.setLane l f).lane k = if k = l then f (s.lane k) else s.lane k := by
  simp only [State.setLane, State.lane, Tbl.look_put]; split <;> simp_all

/-! ### setPort -/

@[simp] theorem State.setPort_ep (s : State) (p : Nat) (f : Port → Port) : (s.setPort p f).ep = s.ep := rfl
@[simp] theorem State.setPort_groups (s : State) (p : Nat) (f : Port → Port) : (s.setPort p f).groups = s.groups := rfl
@[simp] theorem State.setPort_board (s : State) (p : Nat) (f : Port → Port) : (s.setPort p f).board = s.board := rfl
@[simp] theorem State.setPort_sup (s : State) (p : Nat) (f : Port → Port) : (s.setPort p f).sup = s.sup := rfl
@[simp] theorem State.setPort_start (s : State) (p : Nat) (f : Port → Port) : (s.setPort p f).start = s.start := rfl
@[simp] theorem State.setPort_lanes (s : State) (p : Nat) (f : Port → Port) : (s.setPort p f).lanes = s.lanes := rfl
@[simp] theorem State.setPort_scans (s : State) (p : Nat) (f : Port → Port) : (s.setPort p f).scans = s.scans := rfl
@[simp] theorem State.setPort_core (s : State) (p : Nat) (f : Port → Port) : (s.setPort p f).core = s.core := rfl
@[simp] theorem State.setPort_fab (s : State) (p : Nat) (f : Port → Port) : (s.setPort p f).fab = s.fab := rfl
@[simp] theorem State.setPort_trunks (s : State) (p : Nat) (f : Port → Port) : (s.setPort p f).trunks = s.trunks := rfl
@[simp] theorem State.setPort_pool (s : State) (p : Nat) (f : Port → Port) : (s.setPort p f).pool = s.pool := rfl
@[simp] theorem State.setPort_home (s : State) (p : Nat) (f : Port → Port) : (s.setPort p f).home = s.home := rfl
@[simp] theorem State.setPort_beryl (s : State) (p : Nat) (f : Port → Port) : (s.setPort p f).beryl = s.beryl := rfl
@[simp] theorem State.setPort_host (s : State) (p : Nat) (f : Port → Port) : (s.setPort p f).host = s.host := rfl
@[simp] theorem State.setPort_irq (s : State) (p : Nat) (f : Port → Port) : (s.setPort p f).irq = s.irq := rfl
@[simp] theorem State.setPort_sprout (s : State) (p : Nat) (f : Port → Port) : (s.setPort p f).sprout = s.sprout := rfl
@[simp] theorem State.setPort_col (s : State) (p : Nat) (f : Port → Port) : (s.setPort p f).col = s.col := rfl
@[simp] theorem State.setPort_twin (s : State) (p : Nat) (f : Port → Port) : (s.setPort p f).twin = s.twin := rfl
@[simp] theorem State.setPort_adp (s : State) (p : Nat) (f : Port → Port) : (s.setPort p f).adp = s.adp := rfl
@[simp] theorem State.setPort_settings (s : State) (p : Nat) (f : Port → Port) : (s.setPort p f).settings = s.settings := rfl
@[simp] theorem State.setPort_settingsNext (s : State) (p : Nat) (f : Port → Port) : (s.setPort p f).settingsNext = s.settingsNext := rfl
@[simp] theorem State.setPort_settingsStart (s : State) (p : Nat) (f : Port → Port) : (s.setPort p f).settingsStart = s.settingsStart := rfl
@[simp] theorem State.setPort_views (s : State) (p : Nat) (f : Port → Port) : (s.setPort p f).views = s.views := rfl
@[simp] theorem State.setPort_out (s : State) (p : Nat) (f : Port → Port) : (s.setPort p f).out = s.out := rfl
@[simp] theorem State.setPort_free (s : State) (p : Nat) (f : Port → Port) : (s.setPort p f).free = s.free := rfl
@[simp] theorem State.setPort_pending (s : State) (p : Nat) (f : Port → Port) : (s.setPort p f).pending = s.pending := rfl
@[simp] theorem State.setPort_port (s : State) (p : Nat) (f : Port → Port) (k : Nat) : (s.setPort p f).port k = if k = p then f (s.port k) else s.port k := by
  simp only [State.setPort, State.port, Tbl.look_put]; split <;> simp_all

/-! ### setGroup -/

@[simp] theorem State.setGroup_ep (s : State) (n : Nat) (f : GroupSide → GroupSide) : (s.setGroup n f).ep = s.ep := rfl
@[simp] theorem State.setGroup_board (s : State) (n : Nat) (f : GroupSide → GroupSide) : (s.setGroup n f).board = s.board := rfl
@[simp] theorem State.setGroup_sup (s : State) (n : Nat) (f : GroupSide → GroupSide) : (s.setGroup n f).sup = s.sup := rfl
@[simp] theorem State.setGroup_start (s : State) (n : Nat) (f : GroupSide → GroupSide) : (s.setGroup n f).start = s.start := rfl
@[simp] theorem State.setGroup_lanes (s : State) (n : Nat) (f : GroupSide → GroupSide) : (s.setGroup n f).lanes = s.lanes := rfl
@[simp] theorem State.setGroup_ports (s : State) (n : Nat) (f : GroupSide → GroupSide) : (s.setGroup n f).ports = s.ports := rfl
@[simp] theorem State.setGroup_scans (s : State) (n : Nat) (f : GroupSide → GroupSide) : (s.setGroup n f).scans = s.scans := rfl
@[simp] theorem State.setGroup_core (s : State) (n : Nat) (f : GroupSide → GroupSide) : (s.setGroup n f).core = s.core := rfl
@[simp] theorem State.setGroup_fab (s : State) (n : Nat) (f : GroupSide → GroupSide) : (s.setGroup n f).fab = s.fab := rfl
@[simp] theorem State.setGroup_trunks (s : State) (n : Nat) (f : GroupSide → GroupSide) : (s.setGroup n f).trunks = s.trunks := rfl
@[simp] theorem State.setGroup_pool (s : State) (n : Nat) (f : GroupSide → GroupSide) : (s.setGroup n f).pool = s.pool := rfl
@[simp] theorem State.setGroup_home (s : State) (n : Nat) (f : GroupSide → GroupSide) : (s.setGroup n f).home = s.home := rfl
@[simp] theorem State.setGroup_beryl (s : State) (n : Nat) (f : GroupSide → GroupSide) : (s.setGroup n f).beryl = s.beryl := rfl
@[simp] theorem State.setGroup_host (s : State) (n : Nat) (f : GroupSide → GroupSide) : (s.setGroup n f).host = s.host := rfl
@[simp] theorem State.setGroup_irq (s : State) (n : Nat) (f : GroupSide → GroupSide) : (s.setGroup n f).irq = s.irq := rfl
@[simp] theorem State.setGroup_sprout (s : State) (n : Nat) (f : GroupSide → GroupSide) : (s.setGroup n f).sprout = s.sprout := rfl
@[simp] theorem State.setGroup_col (s : State) (n : Nat) (f : GroupSide → GroupSide) : (s.setGroup n f).col = s.col := rfl
@[simp] theorem State.setGroup_twin (s : State) (n : Nat) (f : GroupSide → GroupSide) : (s.setGroup n f).twin = s.twin := rfl
@[simp] theorem State.setGroup_adp (s : State) (n : Nat) (f : GroupSide → GroupSide) : (s.setGroup n f).adp = s.adp := rfl
@[simp] theorem State.setGroup_settings (s : State) (n : Nat) (f : GroupSide → GroupSide) : (s.setGroup n f).settings = s.settings := rfl
@[simp] theorem State.setGroup_settingsNext (s : State) (n : Nat) (f : GroupSide → GroupSide) : (s.setGroup n f).settingsNext = s.settingsNext := rfl
@[simp] theorem State.setGroup_settingsStart (s : State) (n : Nat) (f : GroupSide → GroupSide) : (s.setGroup n f).settingsStart = s.settingsStart := rfl
@[simp] theorem State.setGroup_views (s : State) (n : Nat) (f : GroupSide → GroupSide) : (s.setGroup n f).views = s.views := rfl
@[simp] theorem State.setGroup_out (s : State) (n : Nat) (f : GroupSide → GroupSide) : (s.setGroup n f).out = s.out := rfl
@[simp] theorem State.setGroup_free (s : State) (n : Nat) (f : GroupSide → GroupSide) : (s.setGroup n f).free = s.free := rfl
@[simp] theorem State.setGroup_pending (s : State) (n : Nat) (f : GroupSide → GroupSide) : (s.setGroup n f).pending = s.pending := rfl
@[simp] theorem State.setGroup_group (s : State) (n : Nat) (f : GroupSide → GroupSide) (k : Nat) : (s.setGroup n f).group k = if k = n then f (s.group k) else s.group k := by
  simp only [State.setGroup, State.group, Tbl.look_put]; split <;> simp_all

/-! ### setTrunk -/

@[simp] theorem State.setTrunk_ep (s : State) (p : Nat) (f : Trunk → Trunk) : (s.setTrunk p f).ep = s.ep := rfl
@[simp] theorem State.setTrunk_groups (s : State) (p : Nat) (f : Trunk → Trunk) : (s.setTrunk p f).groups = s.groups := rfl
@[simp] theorem State.setTrunk_board (s : State) (p : Nat) (f : Trunk → Trunk) : (s.setTrunk p f).board = s.board := rfl
@[simp] theorem State.setTrunk_sup (s : State) (p : Nat) (f : Trunk → Trunk) : (s.setTrunk p f).sup = s.sup := rfl
@[simp] theorem State.setTrunk_start (s : State) (p : Nat) (f : Trunk → Trunk) : (s.setTrunk p f).start = s.start := rfl
@[simp] theorem State.setTrunk_lanes (s : State) (p : Nat) (f : Trunk → Trunk) : (s.setTrunk p f).lanes = s.lanes := rfl
@[simp] theorem State.setTrunk_ports (s : State) (p : Nat) (f : Trunk → Trunk) : (s.setTrunk p f).ports = s.ports := rfl
@[simp] theorem State.setTrunk_scans (s : State) (p : Nat) (f : Trunk → Trunk) : (s.setTrunk p f).scans = s.scans := rfl
@[simp] theorem State.setTrunk_core (s : State) (p : Nat) (f : Trunk → Trunk) : (s.setTrunk p f).core = s.core := rfl
@[simp] theorem State.setTrunk_fab (s : State) (p : Nat) (f : Trunk → Trunk) : (s.setTrunk p f).fab = s.fab := rfl
@[simp] theorem State.setTrunk_pool (s : State) (p : Nat) (f : Trunk → Trunk) : (s.setTrunk p f).pool = s.pool := rfl
@[simp] theorem State.setTrunk_home (s : State) (p : Nat) (f : Trunk → Trunk) : (s.setTrunk p f).home = s.home := rfl
@[simp] theorem State.setTrunk_beryl (s : State) (p : Nat) (f : Trunk → Trunk) : (s.setTrunk p f).beryl = s.beryl := rfl
@[simp] theorem State.setTrunk_host (s : State) (p : Nat) (f : Trunk → Trunk) : (s.setTrunk p f).host = s.host := rfl
@[simp] theorem State.setTrunk_irq (s : State) (p : Nat) (f : Trunk → Trunk) : (s.setTrunk p f).irq = s.irq := rfl
@[simp] theorem State.setTrunk_sprout (s : State) (p : Nat) (f : Trunk → Trunk) : (s.setTrunk p f).sprout = s.sprout := rfl
@[simp] theorem State.setTrunk_col (s : State) (p : Nat) (f : Trunk → Trunk) : (s.setTrunk p f).col = s.col := rfl
@[simp] theorem State.setTrunk_twin (s : State) (p : Nat) (f : Trunk → Trunk) : (s.setTrunk p f).twin = s.twin := rfl
@[simp] theorem State.setTrunk_adp (s : State) (p : Nat) (f : Trunk → Trunk) : (s.setTrunk p f).adp = s.adp := rfl
@[simp] theorem State.setTrunk_settings (s : State) (p : Nat) (f : Trunk → Trunk) : (s.setTrunk p f).settings = s.settings := rfl
@[simp] theorem State.setTrunk_settingsNext (s : State) (p : Nat) (f : Trunk → Trunk) : (s.setTrunk p f).settingsNext = s.settingsNext := rfl
@[simp] theorem State.setTrunk_settingsStart (s : State) (p : Nat) (f : Trunk → Trunk) : (s.setTrunk p f).settingsStart = s.settingsStart := rfl
@[simp] theorem State.setTrunk_views (s : State) (p : Nat) (f : Trunk → Trunk) : (s.setTrunk p f).views = s.views := rfl
@[simp] theorem State.setTrunk_out (s : State) (p : Nat) (f : Trunk → Trunk) : (s.setTrunk p f).out = s.out := rfl
@[simp] theorem State.setTrunk_free (s : State) (p : Nat) (f : Trunk → Trunk) : (s.setTrunk p f).free = s.free := rfl
@[simp] theorem State.setTrunk_pending (s : State) (p : Nat) (f : Trunk → Trunk) : (s.setTrunk p f).pending = s.pending := rfl
@[simp] theorem State.setTrunk_trunk (s : State) (p : Nat) (f : Trunk → Trunk) (k : Nat) : (s.setTrunk p f).trunk k = if k = p then f (s.trunk k) else s.trunk k := by
  simp only [State.setTrunk, State.trunk, Tbl.look_put]; split <;> simp_all

/-! ### setScan -/

@[simp] theorem State.setScan_ep (s : State) (n : Nat) (f : Scan → Scan) : (s.setScan n f).ep = s.ep := rfl
@[simp] theorem State.setScan_groups (s : State) (n : Nat) (f : Scan → Scan) : (s.setScan n f).groups = s.groups := rfl
@[simp] theorem State.setScan_board (s : State) (n : Nat) (f : Scan → Scan) : (s.setScan n f).board = s.board := rfl
@[simp] theorem State.setScan_sup (s : State) (n : Nat) (f : Scan → Scan) : (s.setScan n f).sup = s.sup := rfl
@[simp] theorem State.setScan_start (s : State) (n : Nat) (f : Scan → Scan) : (s.setScan n f).start = s.start := rfl
@[simp] theorem State.setScan_lanes (s : State) (n : Nat) (f : Scan → Scan) : (s.setScan n f).lanes = s.lanes := rfl
@[simp] theorem State.setScan_ports (s : State) (n : Nat) (f : Scan → Scan) : (s.setScan n f).ports = s.ports := rfl
@[simp] theorem State.setScan_core (s : State) (n : Nat) (f : Scan → Scan) : (s.setScan n f).core = s.core := rfl
@[simp] theorem State.setScan_fab (s : State) (n : Nat) (f : Scan → Scan) : (s.setScan n f).fab = s.fab := rfl
@[simp] theorem State.setScan_trunks (s : State) (n : Nat) (f : Scan → Scan) : (s.setScan n f).trunks = s.trunks := rfl
@[simp] theorem State.setScan_pool (s : State) (n : Nat) (f : Scan → Scan) : (s.setScan n f).pool = s.pool := rfl
@[simp] theorem State.setScan_home (s : State) (n : Nat) (f : Scan → Scan) : (s.setScan n f).home = s.home := rfl
@[simp] theorem State.setScan_beryl (s : State) (n : Nat) (f : Scan → Scan) : (s.setScan n f).beryl = s.beryl := rfl
@[simp] theorem State.setScan_host (s : State) (n : Nat) (f : Scan → Scan) : (s.setScan n f).host = s.host := rfl
@[simp] theorem State.setScan_irq (s : State) (n : Nat) (f : Scan → Scan) : (s.setScan n f).irq = s.irq := rfl
@[simp] theorem State.setScan_sprout (s : State) (n : Nat) (f : Scan → Scan) : (s.setScan n f).sprout = s.sprout := rfl
@[simp] theorem State.setScan_col (s : State) (n : Nat) (f : Scan → Scan) : (s.setScan n f).col = s.col := rfl
@[simp] theorem State.setScan_twin (s : State) (n : Nat) (f : Scan → Scan) : (s.setScan n f).twin = s.twin := rfl
@[simp] theorem State.setScan_adp (s : State) (n : Nat) (f : Scan → Scan) : (s.setScan n f).adp = s.adp := rfl
@[simp] theorem State.setScan_settings (s : State) (n : Nat) (f : Scan → Scan) : (s.setScan n f).settings = s.settings := rfl
@[simp] theorem State.setScan_settingsNext (s : State) (n : Nat) (f : Scan → Scan) : (s.setScan n f).settingsNext = s.settingsNext := rfl
@[simp] theorem State.setScan_settingsStart (s : State) (n : Nat) (f : Scan → Scan) : (s.setScan n f).settingsStart = s.settingsStart := rfl
@[simp] theorem State.setScan_views (s : State) (n : Nat) (f : Scan → Scan) : (s.setScan n f).views = s.views := rfl
@[simp] theorem State.setScan_out (s : State) (n : Nat) (f : Scan → Scan) : (s.setScan n f).out = s.out := rfl
@[simp] theorem State.setScan_free (s : State) (n : Nat) (f : Scan → Scan) : (s.setScan n f).free = s.free := rfl
@[simp] theorem State.setScan_pending (s : State) (n : Nat) (f : Scan → Scan) : (s.setScan n f).pending = s.pending := rfl

/-! ### setSource -/

@[simp] theorem State.setSource_ep (s : State) (n : Nat) (f : Source → Source) : (s.setSource n f).ep = s.ep := rfl
@[simp] theorem State.setSource_groups (s : State) (n : Nat) (f : Source → Source) : (s.setSource n f).groups = s.groups := rfl
@[simp] theorem State.setSource_board (s : State) (n : Nat) (f : Source → Source) : (s.setSource n f).board = s.board := rfl
@[simp] theorem State.setSource_sup (s : State) (n : Nat) (f : Source → Source) : (s.setSource n f).sup = s.sup := rfl
@[simp] theorem State.setSource_start (s : State) (n : Nat) (f : Source → Source) : (s.setSource n f).start = s.start := rfl
@[simp] theorem State.setSource_lanes (s : State) (n : Nat) (f : Source → Source) : (s.setSource n f).lanes = s.lanes := rfl
@[simp] theorem State.setSource_ports (s : State) (n : Nat) (f : Source → Source) : (s.setSource n f).ports = s.ports := rfl
@[simp] theorem State.setSource_scans (s : State) (n : Nat) (f : Source → Source) : (s.setSource n f).scans = s.scans := rfl
@[simp] theorem State.setSource_core (s : State) (n : Nat) (f : Source → Source) : (s.setSource n f).core = s.core := rfl
@[simp] theorem State.setSource_fab (s : State) (n : Nat) (f : Source → Source) : (s.setSource n f).fab = s.fab := rfl
@[simp] theorem State.setSource_trunks (s : State) (n : Nat) (f : Source → Source) : (s.setSource n f).trunks = s.trunks := rfl
@[simp] theorem State.setSource_pool (s : State) (n : Nat) (f : Source → Source) : (s.setSource n f).pool = s.pool := rfl
@[simp] theorem State.setSource_home (s : State) (n : Nat) (f : Source → Source) : (s.setSource n f).home = s.home := rfl
@[simp] theorem State.setSource_beryl (s : State) (n : Nat) (f : Source → Source) : (s.setSource n f).beryl = s.beryl := rfl
@[simp] theorem State.setSource_host (s : State) (n : Nat) (f : Source → Source) : (s.setSource n f).host = s.host := rfl
@[simp] theorem State.setSource_irq (s : State) (n : Nat) (f : Source → Source) : (s.setSource n f).irq = s.irq := rfl
@[simp] theorem State.setSource_sprout (s : State) (n : Nat) (f : Source → Source) : (s.setSource n f).sprout = s.sprout := rfl
@[simp] theorem State.setSource_twin (s : State) (n : Nat) (f : Source → Source) : (s.setSource n f).twin = s.twin := rfl
@[simp] theorem State.setSource_adp (s : State) (n : Nat) (f : Source → Source) : (s.setSource n f).adp = s.adp := rfl
@[simp] theorem State.setSource_settings (s : State) (n : Nat) (f : Source → Source) : (s.setSource n f).settings = s.settings := rfl
@[simp] theorem State.setSource_settingsNext (s : State) (n : Nat) (f : Source → Source) : (s.setSource n f).settingsNext = s.settingsNext := rfl
@[simp] theorem State.setSource_settingsStart (s : State) (n : Nat) (f : Source → Source) : (s.setSource n f).settingsStart = s.settingsStart := rfl
@[simp] theorem State.setSource_views (s : State) (n : Nat) (f : Source → Source) : (s.setSource n f).views = s.views := rfl
@[simp] theorem State.setSource_out (s : State) (n : Nat) (f : Source → Source) : (s.setSource n f).out = s.out := rfl
@[simp] theorem State.setSource_free (s : State) (n : Nat) (f : Source → Source) : (s.setSource n f).free = s.free := rfl
@[simp] theorem State.setSource_pending (s : State) (n : Nat) (f : Source → Source) : (s.setSource n f).pending = s.pending := rfl
@[simp] theorem State.setSource_col_safe (s : State) (n : Nat) (f : Source → Source) : (s.setSource n f).col.safe = s.col.safe := rfl
@[simp] theorem State.setSource_col_now (s : State) (n : Nat) (f : Source → Source) : (s.setSource n f).col.now = s.col.now := rfl
@[simp] theorem State.setSource_col_prev (s : State) (n : Nat) (f : Source → Source) : (s.setSource n f).col.prev = s.col.prev := rfl
@[simp] theorem State.setSource_col_retained (s : State) (n : Nat) (f : Source → Source) : (s.setSource n f).col.retained = s.col.retained := rfl
@[simp] theorem State.setSource_col_injectOwed (s : State) (n : Nat) (f : Source → Source) : (s.setSource n f).col.injectOwed = s.col.injectOwed := rfl
@[simp] theorem State.setSource_col_parityBad (s : State) (n : Nat) (f : Source → Source) : (s.setSource n f).col.parityBad = s.col.parityBad := rfl
@[simp] theorem State.setSource_col_capacity (s : State) (n : Nat) (f : Source → Source) : (s.setSource n f).col.capacity = s.col.capacity := rfl
@[simp] theorem State.setSource_col_portPending (s : State) (n : Nat) (f : Source → Source) : (s.setSource n f).col.portPending = s.col.portPending := rfl
@[simp] theorem State.setSource_source (s : State) (n : Nat) (f : Source → Source) (k : Nat) : (s.setSource n f).source k = if k = n then f (s.source k) else s.source k := by
  simp only [State.setSource, State.source, Tbl.look_put]; split <;> simp_all

/-! ### raise -/

@[simp] theorem State.raise_ep (s : State) (n : Nat) : (s.raise n).ep = s.ep := rfl
@[simp] theorem State.raise_groups (s : State) (n : Nat) : (s.raise n).groups = s.groups := rfl
@[simp] theorem State.raise_board (s : State) (n : Nat) : (s.raise n).board = s.board := rfl
@[simp] theorem State.raise_sup (s : State) (n : Nat) : (s.raise n).sup = s.sup := rfl
@[simp] theorem State.raise_start (s : State) (n : Nat) : (s.raise n).start = s.start := rfl
@[simp] theorem State.raise_lanes (s : State) (n : Nat) : (s.raise n).lanes = s.lanes := rfl
@[simp] theorem State.raise_ports (s : State) (n : Nat) : (s.raise n).ports = s.ports := rfl
@[simp] theorem State.raise_scans (s : State) (n : Nat) : (s.raise n).scans = s.scans := rfl
@[simp] theorem State.raise_core (s : State) (n : Nat) : (s.raise n).core = s.core := rfl
@[simp] theorem State.raise_fab (s : State) (n : Nat) : (s.raise n).fab = s.fab := rfl
@[simp] theorem State.raise_trunks (s : State) (n : Nat) : (s.raise n).trunks = s.trunks := rfl
@[simp] theorem State.raise_pool (s : State) (n : Nat) : (s.raise n).pool = s.pool := rfl
@[simp] theorem State.raise_home (s : State) (n : Nat) : (s.raise n).home = s.home := rfl
@[simp] theorem State.raise_beryl (s : State) (n : Nat) : (s.raise n).beryl = s.beryl := rfl
@[simp] theorem State.raise_host (s : State) (n : Nat) : (s.raise n).host = s.host := rfl
@[simp] theorem State.raise_irq (s : State) (n : Nat) : (s.raise n).irq = s.irq := rfl
@[simp] theorem State.raise_sprout (s : State) (n : Nat) : (s.raise n).sprout = s.sprout := rfl
@[simp] theorem State.raise_twin (s : State) (n : Nat) : (s.raise n).twin = s.twin := rfl
@[simp] theorem State.raise_adp (s : State) (n : Nat) : (s.raise n).adp = s.adp := rfl
@[simp] theorem State.raise_settings (s : State) (n : Nat) : (s.raise n).settings = s.settings := rfl
@[simp] theorem State.raise_settingsNext (s : State) (n : Nat) : (s.raise n).settingsNext = s.settingsNext := rfl
@[simp] theorem State.raise_settingsStart (s : State) (n : Nat) : (s.raise n).settingsStart = s.settingsStart := rfl
@[simp] theorem State.raise_views (s : State) (n : Nat) : (s.raise n).views = s.views := rfl
@[simp] theorem State.raise_out (s : State) (n : Nat) : (s.raise n).out = s.out := rfl
@[simp] theorem State.raise_free (s : State) (n : Nat) : (s.raise n).free = s.free := rfl
@[simp] theorem State.raise_pending (s : State) (n : Nat) : (s.raise n).pending = s.pending := rfl
@[simp] theorem State.raise_col_safe (s : State) (n : Nat) : (s.raise n).col.safe = s.col.safe := rfl
@[simp] theorem State.raise_col_now (s : State) (n : Nat) : (s.raise n).col.now = s.col.now := rfl
@[simp] theorem State.raise_col_prev (s : State) (n : Nat) : (s.raise n).col.prev = s.col.prev := rfl
@[simp] theorem State.raise_col_retained (s : State) (n : Nat) : (s.raise n).col.retained = s.col.retained := rfl
@[simp] theorem State.raise_col_injectOwed (s : State) (n : Nat) : (s.raise n).col.injectOwed = s.col.injectOwed := rfl
@[simp] theorem State.raise_col_parityBad (s : State) (n : Nat) : (s.raise n).col.parityBad = s.col.parityBad := rfl
@[simp] theorem State.raise_col_capacity (s : State) (n : Nat) : (s.raise n).col.capacity = s.col.capacity := rfl
@[simp] theorem State.raise_col_portPending (s : State) (n : Nat) : (s.raise n).col.portPending = s.col.portPending := rfl

/-! ### setHier -/

@[simp] theorem State.setHier_ep (s : State) (v : Nat) (f : Hier → Hier) : (s.setHier v f).ep = s.ep := rfl
@[simp] theorem State.setHier_groups (s : State) (v : Nat) (f : Hier → Hier) : (s.setHier v f).groups = s.groups := rfl
@[simp] theorem State.setHier_board (s : State) (v : Nat) (f : Hier → Hier) : (s.setHier v f).board = s.board := rfl
@[simp] theorem State.setHier_sup (s : State) (v : Nat) (f : Hier → Hier) : (s.setHier v f).sup = s.sup := rfl
@[simp] theorem State.setHier_start (s : State) (v : Nat) (f : Hier → Hier) : (s.setHier v f).start = s.start := rfl
@[simp] theorem State.setHier_lanes (s : State) (v : Nat) (f : Hier → Hier) : (s.setHier v f).lanes = s.lanes := rfl
@[simp] theorem State.setHier_ports (s : State) (v : Nat) (f : Hier → Hier) : (s.setHier v f).ports = s.ports := rfl
@[simp] theorem State.setHier_scans (s : State) (v : Nat) (f : Hier → Hier) : (s.setHier v f).scans = s.scans := rfl
@[simp] theorem State.setHier_core (s : State) (v : Nat) (f : Hier → Hier) : (s.setHier v f).core = s.core := rfl
@[simp] theorem State.setHier_trunks (s : State) (v : Nat) (f : Hier → Hier) : (s.setHier v f).trunks = s.trunks := rfl
@[simp] theorem State.setHier_pool (s : State) (v : Nat) (f : Hier → Hier) : (s.setHier v f).pool = s.pool := rfl
@[simp] theorem State.setHier_home (s : State) (v : Nat) (f : Hier → Hier) : (s.setHier v f).home = s.home := rfl
@[simp] theorem State.setHier_beryl (s : State) (v : Nat) (f : Hier → Hier) : (s.setHier v f).beryl = s.beryl := rfl
@[simp] theorem State.setHier_host (s : State) (v : Nat) (f : Hier → Hier) : (s.setHier v f).host = s.host := rfl
@[simp] theorem State.setHier_irq (s : State) (v : Nat) (f : Hier → Hier) : (s.setHier v f).irq = s.irq := rfl
@[simp] theorem State.setHier_sprout (s : State) (v : Nat) (f : Hier → Hier) : (s.setHier v f).sprout = s.sprout := rfl
@[simp] theorem State.setHier_col (s : State) (v : Nat) (f : Hier → Hier) : (s.setHier v f).col = s.col := rfl
@[simp] theorem State.setHier_twin (s : State) (v : Nat) (f : Hier → Hier) : (s.setHier v f).twin = s.twin := rfl
@[simp] theorem State.setHier_adp (s : State) (v : Nat) (f : Hier → Hier) : (s.setHier v f).adp = s.adp := rfl
@[simp] theorem State.setHier_settings (s : State) (v : Nat) (f : Hier → Hier) : (s.setHier v f).settings = s.settings := rfl
@[simp] theorem State.setHier_settingsNext (s : State) (v : Nat) (f : Hier → Hier) : (s.setHier v f).settingsNext = s.settingsNext := rfl
@[simp] theorem State.setHier_settingsStart (s : State) (v : Nat) (f : Hier → Hier) : (s.setHier v f).settingsStart = s.settingsStart := rfl
@[simp] theorem State.setHier_views (s : State) (v : Nat) (f : Hier → Hier) : (s.setHier v f).views = s.views := rfl
@[simp] theorem State.setHier_out (s : State) (v : Nat) (f : Hier → Hier) : (s.setHier v f).out = s.out := rfl
@[simp] theorem State.setHier_free (s : State) (v : Nat) (f : Hier → Hier) : (s.setHier v f).free = s.free := rfl
@[simp] theorem State.setHier_pending (s : State) (v : Nat) (f : Hier → Hier) : (s.setHier v f).pending = s.pending := rfl
@[simp] theorem State.setHier_fab_bridges (s : State) (v : Nat) (f : Hier → Hier) : (s.setHier v f).fab.bridges = s.fab.bridges := rfl
@[simp] theorem State.setHier_fab_slots (s : State) (v : Nat) (f : Hier → Hier) : (s.setHier v f).fab.slots = s.fab.slots := rfl
@[simp] theorem State.setHier_fab_track (s : State) (v : Nat) (f : Hier → Hier) : (s.setHier v f).fab.track = s.fab.track := rfl
@[simp] theorem State.setHier_fab_nextIndex (s : State) (v : Nat) (f : Hier → Hier) : (s.setHier v f).fab.nextIndex = s.fab.nextIndex := rfl
@[simp] theorem State.setHier_fab_waiting (s : State) (v : Nat) (f : Hier → Hier) : (s.setHier v f).fab.waiting = s.fab.waiting := rfl
@[simp] theorem State.setHier_fab_turn (s : State) (v : Nat) (f : Hier → Hier) : (s.setHier v f).fab.turn = s.fab.turn := rfl
@[simp] theorem State.setHier_fab_holds (s : State) (v : Nat) (f : Hier → Hier) : (s.setHier v f).fab.holds = s.fab.holds := rfl
@[simp] theorem State.setHier_fab_channels (s : State) (v : Nat) (f : Hier → Hier) : (s.setHier v f).fab.channels = s.fab.channels := rfl
@[simp] theorem State.setHier_fab_pwfRecent (s : State) (v : Nat) (f : Hier → Hier) : (s.setHier v f).fab.pwfRecent = s.fab.pwfRecent := rfl
@[simp] theorem State.setHier_hier (s : State) (v : Nat) (f : Hier → Hier) (k : Nat) : (s.setHier v f).hier k = if k = v then f (s.hier k) else s.hier k := by
  simp only [State.setHier, State.hier, Tbl.look_put]; split <;> simp_all

/-! ### setBridge -/

@[simp] theorem State.setBridge_ep (s : State) (v b : Nat) (f : Bridge → Bridge) : (s.setBridge v b f).ep = s.ep := rfl
@[simp] theorem State.setBridge_groups (s : State) (v b : Nat) (f : Bridge → Bridge) : (s.setBridge v b f).groups = s.groups := rfl
@[simp] theorem State.setBridge_board (s : State) (v b : Nat) (f : Bridge → Bridge) : (s.setBridge v b f).board = s.board := rfl
@[simp] theorem State.setBridge_sup (s : State) (v b : Nat) (f : Bridge → Bridge) : (s.setBridge v b f).sup = s.sup := rfl
@[simp] theorem State.setBridge_start (s : State) (v b : Nat) (f : Bridge → Bridge) : (s.setBridge v b f).start = s.start := rfl
@[simp] theorem State.setBridge_lanes (s : State) (v b : Nat) (f : Bridge → Bridge) : (s.setBridge v b f).lanes = s.lanes := rfl
@[simp] theorem State.setBridge_ports (s : State) (v b : Nat) (f : Bridge → Bridge) : (s.setBridge v b f).ports = s.ports := rfl
@[simp] theorem State.setBridge_scans (s : State) (v b : Nat) (f : Bridge → Bridge) : (s.setBridge v b f).scans = s.scans := rfl
@[simp] theorem State.setBridge_core (s : State) (v b : Nat) (f : Bridge → Bridge) : (s.setBridge v b f).core = s.core := rfl
@[simp] theorem State.setBridge_trunks (s : State) (v b : Nat) (f : Bridge → Bridge) : (s.setBridge v b f).trunks = s.trunks := rfl
@[simp] theorem State.setBridge_pool (s : State) (v b : Nat) (f : Bridge → Bridge) : (s.setBridge v b f).pool = s.pool := rfl
@[simp] theorem State.setBridge_home (s : State) (v b : Nat) (f : Bridge → Bridge) : (s.setBridge v b f).home = s.home := rfl
@[simp] theorem State.setBridge_beryl (s : State) (v b : Nat) (f : Bridge → Bridge) : (s.setBridge v b f).beryl = s.beryl := rfl
@[simp] theorem State.setBridge_host (s : State) (v b : Nat) (f : Bridge → Bridge) : (s.setBridge v b f).host = s.host := rfl
@[simp] theorem State.setBridge_irq (s : State) (v b : Nat) (f : Bridge → Bridge) : (s.setBridge v b f).irq = s.irq := rfl
@[simp] theorem State.setBridge_sprout (s : State) (v b : Nat) (f : Bridge → Bridge) : (s.setBridge v b f).sprout = s.sprout := rfl
@[simp] theorem State.setBridge_col (s : State) (v b : Nat) (f : Bridge → Bridge) : (s.setBridge v b f).col = s.col := rfl
@[simp] theorem State.setBridge_twin (s : State) (v b : Nat) (f : Bridge → Bridge) : (s.setBridge v b f).twin = s.twin := rfl
@[simp] theorem State.setBridge_adp (s : State) (v b : Nat) (f : Bridge → Bridge) : (s.setBridge v b f).adp = s.adp := rfl
@[simp] theorem State.setBridge_settings (s : State) (v b : Nat) (f : Bridge → Bridge) : (s.setBridge v b f).settings = s.settings := rfl
@[simp] theorem State.setBridge_settingsNext (s : State) (v b : Nat) (f : Bridge → Bridge) : (s.setBridge v b f).settingsNext = s.settingsNext := rfl
@[simp] theorem State.setBridge_settingsStart (s : State) (v b : Nat) (f : Bridge → Bridge) : (s.setBridge v b f).settingsStart = s.settingsStart := rfl
@[simp] theorem State.setBridge_views (s : State) (v b : Nat) (f : Bridge → Bridge) : (s.setBridge v b f).views = s.views := rfl
@[simp] theorem State.setBridge_out (s : State) (v b : Nat) (f : Bridge → Bridge) : (s.setBridge v b f).out = s.out := rfl
@[simp] theorem State.setBridge_free (s : State) (v b : Nat) (f : Bridge → Bridge) : (s.setBridge v b f).free = s.free := rfl
@[simp] theorem State.setBridge_pending (s : State) (v b : Nat) (f : Bridge → Bridge) : (s.setBridge v b f).pending = s.pending := rfl
@[simp] theorem State.setBridge_fab_hiers (s : State) (v b : Nat) (f : Bridge → Bridge) : (s.setBridge v b f).fab.hiers = s.fab.hiers := rfl
@[simp] theorem State.setBridge_fab_slots (s : State) (v b : Nat) (f : Bridge → Bridge) : (s.setBridge v b f).fab.slots = s.fab.slots := rfl
@[simp] theorem State.setBridge_fab_track (s : State) (v b : Nat) (f : Bridge → Bridge) : (s.setBridge v b f).fab.track = s.fab.track := rfl
@[simp] theorem State.setBridge_fab_nextIndex (s : State) (v b : Nat) (f : Bridge → Bridge) : (s.setBridge v b f).fab.nextIndex = s.fab.nextIndex := rfl
@[simp] theorem State.setBridge_fab_waiting (s : State) (v b : Nat) (f : Bridge → Bridge) : (s.setBridge v b f).fab.waiting = s.fab.waiting := rfl
@[simp] theorem State.setBridge_fab_turn (s : State) (v b : Nat) (f : Bridge → Bridge) : (s.setBridge v b f).fab.turn = s.fab.turn := rfl
@[simp] theorem State.setBridge_fab_holds (s : State) (v b : Nat) (f : Bridge → Bridge) : (s.setBridge v b f).fab.holds = s.fab.holds := rfl
@[simp] theorem State.setBridge_fab_channels (s : State) (v b : Nat) (f : Bridge → Bridge) : (s.setBridge v b f).fab.channels = s.fab.channels := rfl
@[simp] theorem State.setBridge_fab_pwfRecent (s : State) (v b : Nat) (f : Bridge → Bridge) : (s.setBridge v b f).fab.pwfRecent = s.fab.pwfRecent := rfl

/-! ### setSlot -/

@[simp] theorem State.setSlot_ep (s : State) (p : Nat) (f : Slot → Slot) : (s.setSlot p f).ep = s.ep := rfl
@[simp] theorem State.setSlot_groups (s : State) (p : Nat) (f : Slot → Slot) : (s.setSlot p f).groups = s.groups := rfl
@[simp] theorem State.setSlot_board (s : State) (p : Nat) (f : Slot → Slot) : (s.setSlot p f).board = s.board := rfl
@[simp] theorem State.setSlot_sup (s : State) (p : Nat) (f : Slot → Slot) : (s.setSlot p f).sup = s.sup := rfl
@[simp] theorem State.setSlot_start (s : State) (p : Nat) (f : Slot → Slot) : (s.setSlot p f).start = s.start := rfl
@[simp] theorem State.setSlot_lanes (s : State) (p : Nat) (f : Slot → Slot) : (s.setSlot p f).lanes = s.lanes := rfl
@[simp] theorem State.setSlot_ports (s : State) (p : Nat) (f : Slot → Slot) : (s.setSlot p f).ports = s.ports := rfl
@[simp] theorem State.setSlot_scans (s : State) (p : Nat) (f : Slot → Slot) : (s.setSlot p f).scans = s.scans := rfl
@[simp] theorem State.setSlot_core (s : State) (p : Nat) (f : Slot → Slot) : (s.setSlot p f).core = s.core := rfl
@[simp] theorem State.setSlot_trunks (s : State) (p : Nat) (f : Slot → Slot) : (s.setSlot p f).trunks = s.trunks := rfl
@[simp] theorem State.setSlot_pool (s : State) (p : Nat) (f : Slot → Slot) : (s.setSlot p f).pool = s.pool := rfl
@[simp] theorem State.setSlot_home (s : State) (p : Nat) (f : Slot → Slot) : (s.setSlot p f).home = s.home := rfl
@[simp] theorem State.setSlot_beryl (s : State) (p : Nat) (f : Slot → Slot) : (s.setSlot p f).beryl = s.beryl := rfl
@[simp] theorem State.setSlot_host (s : State) (p : Nat) (f : Slot → Slot) : (s.setSlot p f).host = s.host := rfl
@[simp] theorem State.setSlot_irq (s : State) (p : Nat) (f : Slot → Slot) : (s.setSlot p f).irq = s.irq := rfl
@[simp] theorem State.setSlot_sprout (s : State) (p : Nat) (f : Slot → Slot) : (s.setSlot p f).sprout = s.sprout := rfl
@[simp] theorem State.setSlot_col (s : State) (p : Nat) (f : Slot → Slot) : (s.setSlot p f).col = s.col := rfl
@[simp] theorem State.setSlot_twin (s : State) (p : Nat) (f : Slot → Slot) : (s.setSlot p f).twin = s.twin := rfl
@[simp] theorem State.setSlot_adp (s : State) (p : Nat) (f : Slot → Slot) : (s.setSlot p f).adp = s.adp := rfl
@[simp] theorem State.setSlot_settings (s : State) (p : Nat) (f : Slot → Slot) : (s.setSlot p f).settings = s.settings := rfl
@[simp] theorem State.setSlot_settingsNext (s : State) (p : Nat) (f : Slot → Slot) : (s.setSlot p f).settingsNext = s.settingsNext := rfl
@[simp] theorem State.setSlot_settingsStart (s : State) (p : Nat) (f : Slot → Slot) : (s.setSlot p f).settingsStart = s.settingsStart := rfl
@[simp] theorem State.setSlot_views (s : State) (p : Nat) (f : Slot → Slot) : (s.setSlot p f).views = s.views := rfl
@[simp] theorem State.setSlot_out (s : State) (p : Nat) (f : Slot → Slot) : (s.setSlot p f).out = s.out := rfl
@[simp] theorem State.setSlot_free (s : State) (p : Nat) (f : Slot → Slot) : (s.setSlot p f).free = s.free := rfl
@[simp] theorem State.setSlot_pending (s : State) (p : Nat) (f : Slot → Slot) : (s.setSlot p f).pending = s.pending := rfl
@[simp] theorem State.setSlot_fab_hiers (s : State) (p : Nat) (f : Slot → Slot) : (s.setSlot p f).fab.hiers = s.fab.hiers := rfl
@[simp] theorem State.setSlot_fab_bridges (s : State) (p : Nat) (f : Slot → Slot) : (s.setSlot p f).fab.bridges = s.fab.bridges := rfl
@[simp] theorem State.setSlot_fab_track (s : State) (p : Nat) (f : Slot → Slot) : (s.setSlot p f).fab.track = s.fab.track := rfl
@[simp] theorem State.setSlot_fab_nextIndex (s : State) (p : Nat) (f : Slot → Slot) : (s.setSlot p f).fab.nextIndex = s.fab.nextIndex := rfl
@[simp] theorem State.setSlot_fab_waiting (s : State) (p : Nat) (f : Slot → Slot) : (s.setSlot p f).fab.waiting = s.fab.waiting := rfl
@[simp] theorem State.setSlot_fab_turn (s : State) (p : Nat) (f : Slot → Slot) : (s.setSlot p f).fab.turn = s.fab.turn := rfl
@[simp] theorem State.setSlot_fab_holds (s : State) (p : Nat) (f : Slot → Slot) : (s.setSlot p f).fab.holds = s.fab.holds := rfl
@[simp] theorem State.setSlot_fab_channels (s : State) (p : Nat) (f : Slot → Slot) : (s.setSlot p f).fab.channels = s.fab.channels := rfl
@[simp] theorem State.setSlot_fab_pwfRecent (s : State) (p : Nat) (f : Slot → Slot) : (s.setSlot p f).fab.pwfRecent = s.fab.pwfRecent := rfl
@[simp] theorem State.setSlot_slot (s : State) (p : Nat) (f : Slot → Slot) (k : Nat) : (s.setSlot p f).slot k = if k = p then f (s.slot k) else s.slot k := by
  simp only [State.setSlot, State.slot, Tbl.look_put]; split <;> simp_all

/-! ### setChannel -/

@[simp] theorem State.setChannel_ep (s : State) (c : Nat) (f : Channel → Channel) : (s.setChannel c f).ep = s.ep := rfl
@[simp] theorem State.setChannel_groups (s : State) (c : Nat) (f : Channel → Channel) : (s.setChannel c f).groups = s.groups := rfl
@[simp] theorem State.setChannel_board (s : State) (c : Nat) (f : Channel → Channel) : (s.setChannel c f).board = s.board := rfl
@[simp] theorem State.setChannel_sup (s : State) (c : Nat) (f : Channel → Channel) : (s.setChannel c f).sup = s.sup := rfl
@[simp] theorem State.setChannel_start (s : State) (c : Nat) (f : Channel → Channel) : (s.setChannel c f).start = s.start := rfl
@[simp] theorem State.setChannel_lanes (s : State) (c : Nat) (f : Channel → Channel) : (s.setChannel c f).lanes = s.lanes := rfl
@[simp] theorem State.setChannel_ports (s : State) (c : Nat) (f : Channel → Channel) : (s.setChannel c f).ports = s.ports := rfl
@[simp] theorem State.setChannel_scans (s : State) (c : Nat) (f : Channel → Channel) : (s.setChannel c f).scans = s.scans := rfl
@[simp] theorem State.setChannel_core (s : State) (c : Nat) (f : Channel → Channel) : (s.setChannel c f).core = s.core := rfl
@[simp] theorem State.setChannel_trunks (s : State) (c : Nat) (f : Channel → Channel) : (s.setChannel c f).trunks = s.trunks := rfl
@[simp] theorem State.setChannel_pool (s : State) (c : Nat) (f : Channel → Channel) : (s.setChannel c f).pool = s.pool := rfl
@[simp] theorem State.setChannel_home (s : State) (c : Nat) (f : Channel → Channel) : (s.setChannel c f).home = s.home := rfl
@[simp] theorem State.setChannel_beryl (s : State) (c : Nat) (f : Channel → Channel) : (s.setChannel c f).beryl = s.beryl := rfl
@[simp] theorem State.setChannel_host (s : State) (c : Nat) (f : Channel → Channel) : (s.setChannel c f).host = s.host := rfl
@[simp] theorem State.setChannel_irq (s : State) (c : Nat) (f : Channel → Channel) : (s.setChannel c f).irq = s.irq := rfl
@[simp] theorem State.setChannel_sprout (s : State) (c : Nat) (f : Channel → Channel) : (s.setChannel c f).sprout = s.sprout := rfl
@[simp] theorem State.setChannel_col (s : State) (c : Nat) (f : Channel → Channel) : (s.setChannel c f).col = s.col := rfl
@[simp] theorem State.setChannel_twin (s : State) (c : Nat) (f : Channel → Channel) : (s.setChannel c f).twin = s.twin := rfl
@[simp] theorem State.setChannel_adp (s : State) (c : Nat) (f : Channel → Channel) : (s.setChannel c f).adp = s.adp := rfl
@[simp] theorem State.setChannel_settings (s : State) (c : Nat) (f : Channel → Channel) : (s.setChannel c f).settings = s.settings := rfl
@[simp] theorem State.setChannel_settingsNext (s : State) (c : Nat) (f : Channel → Channel) : (s.setChannel c f).settingsNext = s.settingsNext := rfl
@[simp] theorem State.setChannel_settingsStart (s : State) (c : Nat) (f : Channel → Channel) : (s.setChannel c f).settingsStart = s.settingsStart := rfl
@[simp] theorem State.setChannel_views (s : State) (c : Nat) (f : Channel → Channel) : (s.setChannel c f).views = s.views := rfl
@[simp] theorem State.setChannel_out (s : State) (c : Nat) (f : Channel → Channel) : (s.setChannel c f).out = s.out := rfl
@[simp] theorem State.setChannel_free (s : State) (c : Nat) (f : Channel → Channel) : (s.setChannel c f).free = s.free := rfl
@[simp] theorem State.setChannel_pending (s : State) (c : Nat) (f : Channel → Channel) : (s.setChannel c f).pending = s.pending := rfl
@[simp] theorem State.setChannel_fab_hiers (s : State) (c : Nat) (f : Channel → Channel) : (s.setChannel c f).fab.hiers = s.fab.hiers := rfl
@[simp] theorem State.setChannel_fab_bridges (s : State) (c : Nat) (f : Channel → Channel) : (s.setChannel c f).fab.bridges = s.fab.bridges := rfl
@[simp] theorem State.setChannel_fab_slots (s : State) (c : Nat) (f : Channel → Channel) : (s.setChannel c f).fab.slots = s.fab.slots := rfl
@[simp] theorem State.setChannel_fab_track (s : State) (c : Nat) (f : Channel → Channel) : (s.setChannel c f).fab.track = s.fab.track := rfl
@[simp] theorem State.setChannel_fab_nextIndex (s : State) (c : Nat) (f : Channel → Channel) : (s.setChannel c f).fab.nextIndex = s.fab.nextIndex := rfl
@[simp] theorem State.setChannel_fab_waiting (s : State) (c : Nat) (f : Channel → Channel) : (s.setChannel c f).fab.waiting = s.fab.waiting := rfl
@[simp] theorem State.setChannel_fab_turn (s : State) (c : Nat) (f : Channel → Channel) : (s.setChannel c f).fab.turn = s.fab.turn := rfl
@[simp] theorem State.setChannel_fab_holds (s : State) (c : Nat) (f : Channel → Channel) : (s.setChannel c f).fab.holds = s.fab.holds := rfl
@[simp] theorem State.setChannel_fab_pwfRecent (s : State) (c : Nat) (f : Channel → Channel) : (s.setChannel c f).fab.pwfRecent = s.fab.pwfRecent := rfl

/-! ### setTrack -/

@[simp] theorem State.setTrack_ep (s : State) (i : Nat) (f : Track → Track) : (s.setTrack i f).ep = s.ep := rfl
@[simp] theorem State.setTrack_groups (s : State) (i : Nat) (f : Track → Track) : (s.setTrack i f).groups = s.groups := rfl
@[simp] theorem State.setTrack_board (s : State) (i : Nat) (f : Track → Track) : (s.setTrack i f).board = s.board := rfl
@[simp] theorem State.setTrack_sup (s : State) (i : Nat) (f : Track → Track) : (s.setTrack i f).sup = s.sup := rfl
@[simp] theorem State.setTrack_start (s : State) (i : Nat) (f : Track → Track) : (s.setTrack i f).start = s.start := rfl
@[simp] theorem State.setTrack_lanes (s : State) (i : Nat) (f : Track → Track) : (s.setTrack i f).lanes = s.lanes := rfl
@[simp] theorem State.setTrack_ports (s : State) (i : Nat) (f : Track → Track) : (s.setTrack i f).ports = s.ports := rfl
@[simp] theorem State.setTrack_scans (s : State) (i : Nat) (f : Track → Track) : (s.setTrack i f).scans = s.scans := rfl
@[simp] theorem State.setTrack_core (s : State) (i : Nat) (f : Track → Track) : (s.setTrack i f).core = s.core := rfl
@[simp] theorem State.setTrack_trunks (s : State) (i : Nat) (f : Track → Track) : (s.setTrack i f).trunks = s.trunks := rfl
@[simp] theorem State.setTrack_pool (s : State) (i : Nat) (f : Track → Track) : (s.setTrack i f).pool = s.pool := rfl
@[simp] theorem State.setTrack_home (s : State) (i : Nat) (f : Track → Track) : (s.setTrack i f).home = s.home := rfl
@[simp] theorem State.setTrack_beryl (s : State) (i : Nat) (f : Track → Track) : (s.setTrack i f).beryl = s.beryl := rfl
@[simp] theorem State.setTrack_host (s : State) (i : Nat) (f : Track → Track) : (s.setTrack i f).host = s.host := rfl
@[simp] theorem State.setTrack_irq (s : State) (i : Nat) (f : Track → Track) : (s.setTrack i f).irq = s.irq := rfl
@[simp] theorem State.setTrack_sprout (s : State) (i : Nat) (f : Track → Track) : (s.setTrack i f).sprout = s.sprout := rfl
@[simp] theorem State.setTrack_col (s : State) (i : Nat) (f : Track → Track) : (s.setTrack i f).col = s.col := rfl
@[simp] theorem State.setTrack_twin (s : State) (i : Nat) (f : Track → Track) : (s.setTrack i f).twin = s.twin := rfl
@[simp] theorem State.setTrack_adp (s : State) (i : Nat) (f : Track → Track) : (s.setTrack i f).adp = s.adp := rfl
@[simp] theorem State.setTrack_settings (s : State) (i : Nat) (f : Track → Track) : (s.setTrack i f).settings = s.settings := rfl
@[simp] theorem State.setTrack_settingsNext (s : State) (i : Nat) (f : Track → Track) : (s.setTrack i f).settingsNext = s.settingsNext := rfl
@[simp] theorem State.setTrack_settingsStart (s : State) (i : Nat) (f : Track → Track) : (s.setTrack i f).settingsStart = s.settingsStart := rfl
@[simp] theorem State.setTrack_views (s : State) (i : Nat) (f : Track → Track) : (s.setTrack i f).views = s.views := rfl
@[simp] theorem State.setTrack_out (s : State) (i : Nat) (f : Track → Track) : (s.setTrack i f).out = s.out := rfl
@[simp] theorem State.setTrack_free (s : State) (i : Nat) (f : Track → Track) : (s.setTrack i f).free = s.free := rfl
@[simp] theorem State.setTrack_pending (s : State) (i : Nat) (f : Track → Track) : (s.setTrack i f).pending = s.pending := rfl
@[simp] theorem State.setTrack_fab_hiers (s : State) (i : Nat) (f : Track → Track) : (s.setTrack i f).fab.hiers = s.fab.hiers := rfl
@[simp] theorem State.setTrack_fab_bridges (s : State) (i : Nat) (f : Track → Track) : (s.setTrack i f).fab.bridges = s.fab.bridges := rfl
@[simp] theorem State.setTrack_fab_slots (s : State) (i : Nat) (f : Track → Track) : (s.setTrack i f).fab.slots = s.fab.slots := rfl
@[simp] theorem State.setTrack_fab_nextIndex (s : State) (i : Nat) (f : Track → Track) : (s.setTrack i f).fab.nextIndex = s.fab.nextIndex := rfl
@[simp] theorem State.setTrack_fab_waiting (s : State) (i : Nat) (f : Track → Track) : (s.setTrack i f).fab.waiting = s.fab.waiting := rfl
@[simp] theorem State.setTrack_fab_turn (s : State) (i : Nat) (f : Track → Track) : (s.setTrack i f).fab.turn = s.fab.turn := rfl
@[simp] theorem State.setTrack_fab_holds (s : State) (i : Nat) (f : Track → Track) : (s.setTrack i f).fab.holds = s.fab.holds := rfl
@[simp] theorem State.setTrack_fab_channels (s : State) (i : Nat) (f : Track → Track) : (s.setTrack i f).fab.channels = s.fab.channels := rfl
@[simp] theorem State.setTrack_fab_pwfRecent (s : State) (i : Nat) (f : Track → Track) : (s.setTrack i f).fab.pwfRecent = s.fab.pwfRecent := rfl

/-! ### setFunc -/

@[simp] theorem State.setFunc_ep (s : State) (v : Nat) (f : Func → Func) : (s.setFunc v f).ep = s.ep := rfl
@[simp] theorem State.setFunc_groups (s : State) (v : Nat) (f : Func → Func) : (s.setFunc v f).groups = s.groups := rfl
@[simp] theorem State.setFunc_board (s : State) (v : Nat) (f : Func → Func) : (s.setFunc v f).board = s.board := rfl
@[simp] theorem State.setFunc_sup (s : State) (v : Nat) (f : Func → Func) : (s.setFunc v f).sup = s.sup := rfl
@[simp] theorem State.setFunc_start (s : State) (v : Nat) (f : Func → Func) : (s.setFunc v f).start = s.start := rfl
@[simp] theorem State.setFunc_lanes (s : State) (v : Nat) (f : Func → Func) : (s.setFunc v f).lanes = s.lanes := rfl
@[simp] theorem State.setFunc_ports (s : State) (v : Nat) (f : Func → Func) : (s.setFunc v f).ports = s.ports := rfl
@[simp] theorem State.setFunc_scans (s : State) (v : Nat) (f : Func → Func) : (s.setFunc v f).scans = s.scans := rfl
@[simp] theorem State.setFunc_core (s : State) (v : Nat) (f : Func → Func) : (s.setFunc v f).core = s.core := rfl
@[simp] theorem State.setFunc_fab (s : State) (v : Nat) (f : Func → Func) : (s.setFunc v f).fab = s.fab := rfl
@[simp] theorem State.setFunc_trunks (s : State) (v : Nat) (f : Func → Func) : (s.setFunc v f).trunks = s.trunks := rfl
@[simp] theorem State.setFunc_pool (s : State) (v : Nat) (f : Func → Func) : (s.setFunc v f).pool = s.pool := rfl
@[simp] theorem State.setFunc_home (s : State) (v : Nat) (f : Func → Func) : (s.setFunc v f).home = s.home := rfl
@[simp] theorem State.setFunc_beryl (s : State) (v : Nat) (f : Func → Func) : (s.setFunc v f).beryl = s.beryl := rfl
@[simp] theorem State.setFunc_irq (s : State) (v : Nat) (f : Func → Func) : (s.setFunc v f).irq = s.irq := rfl
@[simp] theorem State.setFunc_sprout (s : State) (v : Nat) (f : Func → Func) : (s.setFunc v f).sprout = s.sprout := rfl
@[simp] theorem State.setFunc_col (s : State) (v : Nat) (f : Func → Func) : (s.setFunc v f).col = s.col := rfl
@[simp] theorem State.setFunc_twin (s : State) (v : Nat) (f : Func → Func) : (s.setFunc v f).twin = s.twin := rfl
@[simp] theorem State.setFunc_adp (s : State) (v : Nat) (f : Func → Func) : (s.setFunc v f).adp = s.adp := rfl
@[simp] theorem State.setFunc_settings (s : State) (v : Nat) (f : Func → Func) : (s.setFunc v f).settings = s.settings := rfl
@[simp] theorem State.setFunc_settingsNext (s : State) (v : Nat) (f : Func → Func) : (s.setFunc v f).settingsNext = s.settingsNext := rfl
@[simp] theorem State.setFunc_settingsStart (s : State) (v : Nat) (f : Func → Func) : (s.setFunc v f).settingsStart = s.settingsStart := rfl
@[simp] theorem State.setFunc_views (s : State) (v : Nat) (f : Func → Func) : (s.setFunc v f).views = s.views := rfl
@[simp] theorem State.setFunc_out (s : State) (v : Nat) (f : Func → Func) : (s.setFunc v f).out = s.out := rfl
@[simp] theorem State.setFunc_free (s : State) (v : Nat) (f : Func → Func) : (s.setFunc v f).free = s.free := rfl
@[simp] theorem State.setFunc_pending (s : State) (v : Nat) (f : Func → Func) : (s.setFunc v f).pending = s.pending := rfl
@[simp] theorem State.setFunc_host_fnVectors (s : State) (v : Nat) (f : Func → Func) : (s.setFunc v f).host.fnVectors = s.host.fnVectors := rfl
@[simp] theorem State.setFunc_host_storeVectors (s : State) (v : Nat) (f : Func → Func) : (s.setFunc v f).host.storeVectors = s.host.storeVectors := rfl
@[simp] theorem State.setFunc_host_instances (s : State) (v : Nat) (f : Func → Func) : (s.setFunc v f).host.instances = s.host.instances := rfl
@[simp] theorem State.setFunc_host_cmdOrder (s : State) (v : Nat) (f : Func → Func) : (s.setFunc v f).host.cmdOrder = s.host.cmdOrder := rfl
@[simp] theorem State.setFunc_host_contained (s : State) (v : Nat) (f : Func → Func) : (s.setFunc v f).host.contained = s.host.contained := rfl
@[simp] theorem State.setFunc_host_containPending (s : State) (v : Nat) (f : Func → Func) : (s.setFunc v f).host.containPending = s.host.containPending := rfl
@[simp] theorem State.setFunc_host_masterWait (s : State) (v : Nat) (f : Func → Func) : (s.setFunc v f).host.masterWait = s.host.masterWait := rfl
@[simp] theorem State.setFunc_func (s : State) (v : Nat) (f : Func → Func) (k : Nat) : (s.setFunc v f).func k = if k = v then f (s.func k) else s.func k := by
  simp only [State.setFunc, State.func, Tbl.look_put]; split <;> simp_all

/-! ### setInst -/

@[simp] theorem State.setInst_ep (s : State) (n : Nat) (f : Instance → Instance) : (s.setInst n f).ep = s.ep := rfl
@[simp] theorem State.setInst_groups (s : State) (n : Nat) (f : Instance → Instance) : (s.setInst n f).groups = s.groups := rfl
@[simp] theorem State.setInst_board (s : State) (n : Nat) (f : Instance → Instance) : (s.setInst n f).board = s.board := rfl
@[simp] theorem State.setInst_sup (s : State) (n : Nat) (f : Instance → Instance) : (s.setInst n f).sup = s.sup := rfl
@[simp] theorem State.setInst_start (s : State) (n : Nat) (f : Instance → Instance) : (s.setInst n f).start = s.start := rfl
@[simp] theorem State.setInst_lanes (s : State) (n : Nat) (f : Instance → Instance) : (s.setInst n f).lanes = s.lanes := rfl
@[simp] theorem State.setInst_ports (s : State) (n : Nat) (f : Instance → Instance) : (s.setInst n f).ports = s.ports := rfl
@[simp] theorem State.setInst_scans (s : State) (n : Nat) (f : Instance → Instance) : (s.setInst n f).scans = s.scans := rfl
@[simp] theorem State.setInst_core (s : State) (n : Nat) (f : Instance → Instance) : (s.setInst n f).core = s.core := rfl
@[simp] theorem State.setInst_fab (s : State) (n : Nat) (f : Instance → Instance) : (s.setInst n f).fab = s.fab := rfl
@[simp] theorem State.setInst_trunks (s : State) (n : Nat) (f : Instance → Instance) : (s.setInst n f).trunks = s.trunks := rfl
@[simp] theorem State.setInst_pool (s : State) (n : Nat) (f : Instance → Instance) : (s.setInst n f).pool = s.pool := rfl
@[simp] theorem State.setInst_home (s : State) (n : Nat) (f : Instance → Instance) : (s.setInst n f).home = s.home := rfl
@[simp] theorem State.setInst_beryl (s : State) (n : Nat) (f : Instance → Instance) : (s.setInst n f).beryl = s.beryl := rfl
@[simp] theorem State.setInst_irq (s : State) (n : Nat) (f : Instance → Instance) : (s.setInst n f).irq = s.irq := rfl
@[simp] theorem State.setInst_sprout (s : State) (n : Nat) (f : Instance → Instance) : (s.setInst n f).sprout = s.sprout := rfl
@[simp] theorem State.setInst_col (s : State) (n : Nat) (f : Instance → Instance) : (s.setInst n f).col = s.col := rfl
@[simp] theorem State.setInst_twin (s : State) (n : Nat) (f : Instance → Instance) : (s.setInst n f).twin = s.twin := rfl
@[simp] theorem State.setInst_adp (s : State) (n : Nat) (f : Instance → Instance) : (s.setInst n f).adp = s.adp := rfl
@[simp] theorem State.setInst_settings (s : State) (n : Nat) (f : Instance → Instance) : (s.setInst n f).settings = s.settings := rfl
@[simp] theorem State.setInst_settingsNext (s : State) (n : Nat) (f : Instance → Instance) : (s.setInst n f).settingsNext = s.settingsNext := rfl
@[simp] theorem State.setInst_settingsStart (s : State) (n : Nat) (f : Instance → Instance) : (s.setInst n f).settingsStart = s.settingsStart := rfl
@[simp] theorem State.setInst_views (s : State) (n : Nat) (f : Instance → Instance) : (s.setInst n f).views = s.views := rfl
@[simp] theorem State.setInst_out (s : State) (n : Nat) (f : Instance → Instance) : (s.setInst n f).out = s.out := rfl
@[simp] theorem State.setInst_free (s : State) (n : Nat) (f : Instance → Instance) : (s.setInst n f).free = s.free := rfl
@[simp] theorem State.setInst_pending (s : State) (n : Nat) (f : Instance → Instance) : (s.setInst n f).pending = s.pending := rfl
@[simp] theorem State.setInst_host_funcs (s : State) (n : Nat) (f : Instance → Instance) : (s.setInst n f).host.funcs = s.host.funcs := rfl
@[simp] theorem State.setInst_host_fnVectors (s : State) (n : Nat) (f : Instance → Instance) : (s.setInst n f).host.fnVectors = s.host.fnVectors := rfl
@[simp] theorem State.setInst_host_storeVectors (s : State) (n : Nat) (f : Instance → Instance) : (s.setInst n f).host.storeVectors = s.host.storeVectors := rfl
@[simp] theorem State.setInst_host_cmdOrder (s : State) (n : Nat) (f : Instance → Instance) : (s.setInst n f).host.cmdOrder = s.host.cmdOrder := rfl
@[simp] theorem State.setInst_host_contained (s : State) (n : Nat) (f : Instance → Instance) : (s.setInst n f).host.contained = s.host.contained := rfl
@[simp] theorem State.setInst_host_containPending (s : State) (n : Nat) (f : Instance → Instance) : (s.setInst n f).host.containPending = s.host.containPending := rfl
@[simp] theorem State.setInst_host_masterWait (s : State) (n : Nat) (f : Instance → Instance) : (s.setInst n f).host.masterWait = s.host.masterWait := rfl
@[simp] theorem State.setInst_inst (s : State) (n : Nat) (f : Instance → Instance) (k : Nat) : (s.setInst n f).inst k = if k = n then f (s.inst k) else s.inst k := by
  simp only [State.setInst, State.inst, Tbl.look_put]; split <;> simp_all

/-! ### setCmd -/

@[simp] theorem State.setCmd_ep (s : State) (v k : Nat) (f : CmdSlot → CmdSlot) : (s.setCmd v k f).ep = s.ep := rfl
@[simp] theorem State.setCmd_groups (s : State) (v k : Nat) (f : CmdSlot → CmdSlot) : (s.setCmd v k f).groups = s.groups := rfl
@[simp] theorem State.setCmd_board (s : State) (v k : Nat) (f : CmdSlot → CmdSlot) : (s.setCmd v k f).board = s.board := rfl
@[simp] theorem State.setCmd_sup (s : State) (v k : Nat) (f : CmdSlot → CmdSlot) : (s.setCmd v k f).sup = s.sup := rfl
@[simp] theorem State.setCmd_start (s : State) (v k : Nat) (f : CmdSlot → CmdSlot) : (s.setCmd v k f).start = s.start := rfl
@[simp] theorem State.setCmd_lanes (s : State) (v k : Nat) (f : CmdSlot → CmdSlot) : (s.setCmd v k f).lanes = s.lanes := rfl
@[simp] theorem State.setCmd_ports (s : State) (v k : Nat) (f : CmdSlot → CmdSlot) : (s.setCmd v k f).ports = s.ports := rfl
@[simp] theorem State.setCmd_scans (s : State) (v k : Nat) (f : CmdSlot → CmdSlot) : (s.setCmd v k f).scans = s.scans := rfl
@[simp] theorem State.setCmd_core (s : State) (v k : Nat) (f : CmdSlot → CmdSlot) : (s.setCmd v k f).core = s.core := rfl
@[simp] theorem State.setCmd_fab (s : State) (v k : Nat) (f : CmdSlot → CmdSlot) : (s.setCmd v k f).fab = s.fab := rfl
@[simp] theorem State.setCmd_trunks (s : State) (v k : Nat) (f : CmdSlot → CmdSlot) : (s.setCmd v k f).trunks = s.trunks := rfl
@[simp] theorem State.setCmd_pool (s : State) (v k : Nat) (f : CmdSlot → CmdSlot) : (s.setCmd v k f).pool = s.pool := rfl
@[simp] theorem State.setCmd_home (s : State) (v k : Nat) (f : CmdSlot → CmdSlot) : (s.setCmd v k f).home = s.home := rfl
@[simp] theorem State.setCmd_beryl (s : State) (v k : Nat) (f : CmdSlot → CmdSlot) : (s.setCmd v k f).beryl = s.beryl := rfl
@[simp] theorem State.setCmd_irq (s : State) (v k : Nat) (f : CmdSlot → CmdSlot) : (s.setCmd v k f).irq = s.irq := rfl
@[simp] theorem State.setCmd_sprout (s : State) (v k : Nat) (f : CmdSlot → CmdSlot) : (s.setCmd v k f).sprout = s.sprout := rfl
@[simp] theorem State.setCmd_col (s : State) (v k : Nat) (f : CmdSlot → CmdSlot) : (s.setCmd v k f).col = s.col := rfl
@[simp] theorem State.setCmd_twin (s : State) (v k : Nat) (f : CmdSlot → CmdSlot) : (s.setCmd v k f).twin = s.twin := rfl
@[simp] theorem State.setCmd_adp (s : State) (v k : Nat) (f : CmdSlot → CmdSlot) : (s.setCmd v k f).adp = s.adp := rfl
@[simp] theorem State.setCmd_settings (s : State) (v k : Nat) (f : CmdSlot → CmdSlot) : (s.setCmd v k f).settings = s.settings := rfl
@[simp] theorem State.setCmd_settingsNext (s : State) (v k : Nat) (f : CmdSlot → CmdSlot) : (s.setCmd v k f).settingsNext = s.settingsNext := rfl
@[simp] theorem State.setCmd_settingsStart (s : State) (v k : Nat) (f : CmdSlot → CmdSlot) : (s.setCmd v k f).settingsStart = s.settingsStart := rfl
@[simp] theorem State.setCmd_views (s : State) (v k : Nat) (f : CmdSlot → CmdSlot) : (s.setCmd v k f).views = s.views := rfl
@[simp] theorem State.setCmd_out (s : State) (v k : Nat) (f : CmdSlot → CmdSlot) : (s.setCmd v k f).out = s.out := rfl
@[simp] theorem State.setCmd_free (s : State) (v k : Nat) (f : CmdSlot → CmdSlot) : (s.setCmd v k f).free = s.free := rfl
@[simp] theorem State.setCmd_pending (s : State) (v k : Nat) (f : CmdSlot → CmdSlot) : (s.setCmd v k f).pending = s.pending := rfl
@[simp] theorem State.setCmd_host_fnVectors (s : State) (v k : Nat) (f : CmdSlot → CmdSlot) : (s.setCmd v k f).host.fnVectors = s.host.fnVectors := rfl
@[simp] theorem State.setCmd_host_storeVectors (s : State) (v k : Nat) (f : CmdSlot → CmdSlot) : (s.setCmd v k f).host.storeVectors = s.host.storeVectors := rfl
@[simp] theorem State.setCmd_host_instances (s : State) (v k : Nat) (f : CmdSlot → CmdSlot) : (s.setCmd v k f).host.instances = s.host.instances := rfl
@[simp] theorem State.setCmd_host_cmdOrder (s : State) (v k : Nat) (f : CmdSlot → CmdSlot) : (s.setCmd v k f).host.cmdOrder = s.host.cmdOrder := rfl
@[simp] theorem State.setCmd_host_contained (s : State) (v k : Nat) (f : CmdSlot → CmdSlot) : (s.setCmd v k f).host.contained = s.host.contained := rfl
@[simp] theorem State.setCmd_host_containPending (s : State) (v k : Nat) (f : CmdSlot → CmdSlot) : (s.setCmd v k f).host.containPending = s.host.containPending := rfl
@[simp] theorem State.setCmd_host_masterWait (s : State) (v k : Nat) (f : CmdSlot → CmdSlot) : (s.setCmd v k f).host.masterWait = s.host.masterWait := rfl

/-! ### setDevice -/

@[simp] theorem State.setDevice_ep (s : State) (n : Nat) (f : Device → Device) : (s.setDevice n f).ep = s.ep := rfl
@[simp] theorem State.setDevice_groups (s : State) (n : Nat) (f : Device → Device) : (s.setDevice n f).groups = s.groups := rfl
@[simp] theorem State.setDevice_board (s : State) (n : Nat) (f : Device → Device) : (s.setDevice n f).board = s.board := rfl
@[simp] theorem State.setDevice_sup (s : State) (n : Nat) (f : Device → Device) : (s.setDevice n f).sup = s.sup := rfl
@[simp] theorem State.setDevice_start (s : State) (n : Nat) (f : Device → Device) : (s.setDevice n f).start = s.start := rfl
@[simp] theorem State.setDevice_lanes (s : State) (n : Nat) (f : Device → Device) : (s.setDevice n f).lanes = s.lanes := rfl
@[simp] theorem State.setDevice_ports (s : State) (n : Nat) (f : Device → Device) : (s.setDevice n f).ports = s.ports := rfl
@[simp] theorem State.setDevice_scans (s : State) (n : Nat) (f : Device → Device) : (s.setDevice n f).scans = s.scans := rfl
@[simp] theorem State.setDevice_core (s : State) (n : Nat) (f : Device → Device) : (s.setDevice n f).core = s.core := rfl
@[simp] theorem State.setDevice_fab (s : State) (n : Nat) (f : Device → Device) : (s.setDevice n f).fab = s.fab := rfl
@[simp] theorem State.setDevice_trunks (s : State) (n : Nat) (f : Device → Device) : (s.setDevice n f).trunks = s.trunks := rfl
@[simp] theorem State.setDevice_home (s : State) (n : Nat) (f : Device → Device) : (s.setDevice n f).home = s.home := rfl
@[simp] theorem State.setDevice_beryl (s : State) (n : Nat) (f : Device → Device) : (s.setDevice n f).beryl = s.beryl := rfl
@[simp] theorem State.setDevice_host (s : State) (n : Nat) (f : Device → Device) : (s.setDevice n f).host = s.host := rfl
@[simp] theorem State.setDevice_irq (s : State) (n : Nat) (f : Device → Device) : (s.setDevice n f).irq = s.irq := rfl
@[simp] theorem State.setDevice_sprout (s : State) (n : Nat) (f : Device → Device) : (s.setDevice n f).sprout = s.sprout := rfl
@[simp] theorem State.setDevice_col (s : State) (n : Nat) (f : Device → Device) : (s.setDevice n f).col = s.col := rfl
@[simp] theorem State.setDevice_twin (s : State) (n : Nat) (f : Device → Device) : (s.setDevice n f).twin = s.twin := rfl
@[simp] theorem State.setDevice_adp (s : State) (n : Nat) (f : Device → Device) : (s.setDevice n f).adp = s.adp := rfl
@[simp] theorem State.setDevice_settings (s : State) (n : Nat) (f : Device → Device) : (s.setDevice n f).settings = s.settings := rfl
@[simp] theorem State.setDevice_settingsNext (s : State) (n : Nat) (f : Device → Device) : (s.setDevice n f).settingsNext = s.settingsNext := rfl
@[simp] theorem State.setDevice_settingsStart (s : State) (n : Nat) (f : Device → Device) : (s.setDevice n f).settingsStart = s.settingsStart := rfl
@[simp] theorem State.setDevice_views (s : State) (n : Nat) (f : Device → Device) : (s.setDevice n f).views = s.views := rfl
@[simp] theorem State.setDevice_out (s : State) (n : Nat) (f : Device → Device) : (s.setDevice n f).out = s.out := rfl
@[simp] theorem State.setDevice_free (s : State) (n : Nat) (f : Device → Device) : (s.setDevice n f).free = s.free := rfl
@[simp] theorem State.setDevice_pending (s : State) (n : Nat) (f : Device → Device) : (s.setDevice n f).pending = s.pending := rfl
@[simp] theorem State.setDevice_pool_epCfg (s : State) (n : Nat) (f : Device → Device) : (s.setDevice n f).pool.epCfg = s.pool.epCfg := rfl
@[simp] theorem State.setDevice_pool_extents (s : State) (n : Nat) (f : Device → Device) : (s.setDevice n f).pool.extents = s.pool.extents := rfl
@[simp] theorem State.setDevice_pool_lines (s : State) (n : Nat) (f : Device → Device) : (s.setDevice n f).pool.lines = s.pool.lines := rfl
@[simp] theorem State.setDevice_pool_events (s : State) (n : Nat) (f : Device → Device) : (s.setDevice n f).pool.events = s.pool.events := rfl
@[simp] theorem State.setDevice_pool_nextHandle (s : State) (n : Nat) (f : Device → Device) : (s.setDevice n f).pool.nextHandle = s.pool.nextHandle := rfl
@[simp] theorem State.setDevice_pool_hidden (s : State) (n : Nat) (f : Device → Device) : (s.setDevice n f).pool.hidden = s.pool.hidden := rfl
@[simp] theorem State.setDevice_device (s : State) (n : Nat) (f : Device → Device) (k : Nat) : (s.setDevice n f).device k = if k = n then f (s.device k) else s.device k := by
  simp only [State.setDevice, State.device, Tbl.look_put]; split <;> simp_all

/-! ### setExtent -/

@[simp] theorem State.setExtent_ep (s : State) (n : Nat) (f : Extent → Extent) : (s.setExtent n f).ep = s.ep := rfl
@[simp] theorem State.setExtent_groups (s : State) (n : Nat) (f : Extent → Extent) : (s.setExtent n f).groups = s.groups := rfl
@[simp] theorem State.setExtent_board (s : State) (n : Nat) (f : Extent → Extent) : (s.setExtent n f).board = s.board := rfl
@[simp] theorem State.setExtent_sup (s : State) (n : Nat) (f : Extent → Extent) : (s.setExtent n f).sup = s.sup := rfl
@[simp] theorem State.setExtent_start (s : State) (n : Nat) (f : Extent → Extent) : (s.setExtent n f).start = s.start := rfl
@[simp] theorem State.setExtent_lanes (s : State) (n : Nat) (f : Extent → Extent) : (s.setExtent n f).lanes = s.lanes := rfl
@[simp] theorem State.setExtent_ports (s : State) (n : Nat) (f : Extent → Extent) : (s.setExtent n f).ports = s.ports := rfl
@[simp] theorem State.setExtent_scans (s : State) (n : Nat) (f : Extent → Extent) : (s.setExtent n f).scans = s.scans := rfl
@[simp] theorem State.setExtent_core (s : State) (n : Nat) (f : Extent → Extent) : (s.setExtent n f).core = s.core := rfl
@[simp] theorem State.setExtent_fab (s : State) (n : Nat) (f : Extent → Extent) : (s.setExtent n f).fab = s.fab := rfl
@[simp] theorem State.setExtent_trunks (s : State) (n : Nat) (f : Extent → Extent) : (s.setExtent n f).trunks = s.trunks := rfl
@[simp] theorem State.setExtent_home (s : State) (n : Nat) (f : Extent → Extent) : (s.setExtent n f).home = s.home := rfl
@[simp] theorem State.setExtent_beryl (s : State) (n : Nat) (f : Extent → Extent) : (s.setExtent n f).beryl = s.beryl := rfl
@[simp] theorem State.setExtent_host (s : State) (n : Nat) (f : Extent → Extent) : (s.setExtent n f).host = s.host := rfl
@[simp] theorem State.setExtent_irq (s : State) (n : Nat) (f : Extent → Extent) : (s.setExtent n f).irq = s.irq := rfl
@[simp] theorem State.setExtent_sprout (s : State) (n : Nat) (f : Extent → Extent) : (s.setExtent n f).sprout = s.sprout := rfl
@[simp] theorem State.setExtent_col (s : State) (n : Nat) (f : Extent → Extent) : (s.setExtent n f).col = s.col := rfl
@[simp] theorem State.setExtent_twin (s : State) (n : Nat) (f : Extent → Extent) : (s.setExtent n f).twin = s.twin := rfl
@[simp] theorem State.setExtent_adp (s : State) (n : Nat) (f : Extent → Extent) : (s.setExtent n f).adp = s.adp := rfl
@[simp] theorem State.setExtent_settings (s : State) (n : Nat) (f : Extent → Extent) : (s.setExtent n f).settings = s.settings := rfl
@[simp] theorem State.setExtent_settingsNext (s : State) (n : Nat) (f : Extent → Extent) : (s.setExtent n f).settingsNext = s.settingsNext := rfl
@[simp] theorem State.setExtent_settingsStart (s : State) (n : Nat) (f : Extent → Extent) : (s.setExtent n f).settingsStart = s.settingsStart := rfl
@[simp] theorem State.setExtent_views (s : State) (n : Nat) (f : Extent → Extent) : (s.setExtent n f).views = s.views := rfl
@[simp] theorem State.setExtent_out (s : State) (n : Nat) (f : Extent → Extent) : (s.setExtent n f).out = s.out := rfl
@[simp] theorem State.setExtent_free (s : State) (n : Nat) (f : Extent → Extent) : (s.setExtent n f).free = s.free := rfl
@[simp] theorem State.setExtent_pending (s : State) (n : Nat) (f : Extent → Extent) : (s.setExtent n f).pending = s.pending := rfl
@[simp] theorem State.setExtent_pool_epCfg (s : State) (n : Nat) (f : Extent → Extent) : (s.setExtent n f).pool.epCfg = s.pool.epCfg := rfl
@[simp] theorem State.setExtent_pool_devices (s : State) (n : Nat) (f : Extent → Extent) : (s.setExtent n f).pool.devices = s.pool.devices := rfl
@[simp] theorem State.setExtent_pool_lines (s : State) (n : Nat) (f : Extent → Extent) : (s.setExtent n f).pool.lines = s.pool.lines := rfl
@[simp] theorem State.setExtent_pool_events (s : State) (n : Nat) (f : Extent → Extent) : (s.setExtent n f).pool.events = s.pool.events := rfl
@[simp] theorem State.setExtent_pool_nextHandle (s : State) (n : Nat) (f : Extent → Extent) : (s.setExtent n f).pool.nextHandle = s.pool.nextHandle := rfl
@[simp] theorem State.setExtent_pool_hidden (s : State) (n : Nat) (f : Extent → Extent) : (s.setExtent n f).pool.hidden = s.pool.hidden := rfl
@[simp] theorem State.setExtent_extent (s : State) (n : Nat) (f : Extent → Extent) (k : Nat) : (s.setExtent n f).extent k = if k = n then f (s.extent k) else s.extent k := by
  simp only [State.setExtent, State.extent, Tbl.look_put]; split <;> simp_all

/-! ### setQp -/

@[simp] theorem State.setQp_ep (s : State) (n : Nat) (f : Qp → Qp) : (s.setQp n f).ep = s.ep := rfl
@[simp] theorem State.setQp_groups (s : State) (n : Nat) (f : Qp → Qp) : (s.setQp n f).groups = s.groups := rfl
@[simp] theorem State.setQp_board (s : State) (n : Nat) (f : Qp → Qp) : (s.setQp n f).board = s.board := rfl
@[simp] theorem State.setQp_sup (s : State) (n : Nat) (f : Qp → Qp) : (s.setQp n f).sup = s.sup := rfl
@[simp] theorem State.setQp_start (s : State) (n : Nat) (f : Qp → Qp) : (s.setQp n f).start = s.start := rfl
@[simp] theorem State.setQp_lanes (s : State) (n : Nat) (f : Qp → Qp) : (s.setQp n f).lanes = s.lanes := rfl
@[simp] theorem State.setQp_ports (s : State) (n : Nat) (f : Qp → Qp) : (s.setQp n f).ports = s.ports := rfl
@[simp] theorem State.setQp_scans (s : State) (n : Nat) (f : Qp → Qp) : (s.setQp n f).scans = s.scans := rfl
@[simp] theorem State.setQp_core (s : State) (n : Nat) (f : Qp → Qp) : (s.setQp n f).core = s.core := rfl
@[simp] theorem State.setQp_fab (s : State) (n : Nat) (f : Qp → Qp) : (s.setQp n f).fab = s.fab := rfl
@[simp] theorem State.setQp_trunks (s : State) (n : Nat) (f : Qp → Qp) : (s.setQp n f).trunks = s.trunks := rfl
@[simp] theorem State.setQp_pool (s : State) (n : Nat) (f : Qp → Qp) : (s.setQp n f).pool = s.pool := rfl
@[simp] theorem State.setQp_home (s : State) (n : Nat) (f : Qp → Qp) : (s.setQp n f).home = s.home := rfl
@[simp] theorem State.setQp_host (s : State) (n : Nat) (f : Qp → Qp) : (s.setQp n f).host = s.host := rfl
@[simp] theorem State.setQp_irq (s : State) (n : Nat) (f : Qp → Qp) : (s.setQp n f).irq = s.irq := rfl
@[simp] theorem State.setQp_sprout (s : State) (n : Nat) (f : Qp → Qp) : (s.setQp n f).sprout = s.sprout := rfl
@[simp] theorem State.setQp_col (s : State) (n : Nat) (f : Qp → Qp) : (s.setQp n f).col = s.col := rfl
@[simp] theorem State.setQp_twin (s : State) (n : Nat) (f : Qp → Qp) : (s.setQp n f).twin = s.twin := rfl
@[simp] theorem State.setQp_adp (s : State) (n : Nat) (f : Qp → Qp) : (s.setQp n f).adp = s.adp := rfl
@[simp] theorem State.setQp_settings (s : State) (n : Nat) (f : Qp → Qp) : (s.setQp n f).settings = s.settings := rfl
@[simp] theorem State.setQp_settingsNext (s : State) (n : Nat) (f : Qp → Qp) : (s.setQp n f).settingsNext = s.settingsNext := rfl
@[simp] theorem State.setQp_settingsStart (s : State) (n : Nat) (f : Qp → Qp) : (s.setQp n f).settingsStart = s.settingsStart := rfl
@[simp] theorem State.setQp_views (s : State) (n : Nat) (f : Qp → Qp) : (s.setQp n f).views = s.views := rfl
@[simp] theorem State.setQp_out (s : State) (n : Nat) (f : Qp → Qp) : (s.setQp n f).out = s.out := rfl
@[simp] theorem State.setQp_free (s : State) (n : Nat) (f : Qp → Qp) : (s.setQp n f).free = s.free := rfl
@[simp] theorem State.setQp_pending (s : State) (n : Nat) (f : Qp → Qp) : (s.setQp n f).pending = s.pending := rfl
@[simp] theorem State.setQp_beryl_cqs (s : State) (n : Nat) (f : Qp → Qp) : (s.setQp n f).beryl.cqs = s.beryl.cqs := rfl
@[simp] theorem State.setQp_beryl_regions (s : State) (n : Nat) (f : Qp → Qp) : (s.setQp n f).beryl.regions = s.beryl.regions := rfl
@[simp] theorem State.setQp_beryl_clusterRetired (s : State) (n : Nat) (f : Qp → Qp) : (s.setQp n f).beryl.clusterRetired = s.beryl.clusterRetired := rfl
@[simp] theorem State.setQp_beryl_clusterPending (s : State) (n : Nat) (f : Qp → Qp) : (s.setQp n f).beryl.clusterPending = s.beryl.clusterPending := rfl
@[simp] theorem State.setQp_beryl_useClock (s : State) (n : Nat) (f : Qp → Qp) : (s.setQp n f).beryl.useClock = s.beryl.useClock := rfl
@[simp] theorem State.setQp_qp (s : State) (n : Nat) (f : Qp → Qp) (k : Nat) : (s.setQp n f).qp k = if k = n then f (s.qp k) else s.qp k := by
  simp only [State.setQp, State.qp, Tbl.look_put]; split <;> simp_all

/-! ### setCq -/

@[simp] theorem State.setCq_ep (s : State) (n : Nat) (f : Cq → Cq) : (s.setCq n f).ep = s.ep := rfl
@[simp] theorem State.setCq_groups (s : State) (n : Nat) (f : Cq → Cq) : (s.setCq n f).groups = s.groups := rfl
@[simp] theorem State.setCq_board (s : State) (n : Nat) (f : Cq → Cq) : (s.setCq n f).board = s.board := rfl
@[simp] theorem State.setCq_sup (s : State) (n : Nat) (f : Cq → Cq) : (s.setCq n f).sup = s.sup := rfl
@[simp] theorem State.setCq_start (s : State) (n : Nat) (f : Cq → Cq) : (s.setCq n f).start = s.start := rfl
@[simp] theorem State.setCq_lanes (s : State) (n : Nat) (f : Cq → Cq) : (s.setCq n f).lanes = s.lanes := rfl
@[simp] theorem State.setCq_ports (s : State) (n : Nat) (f : Cq → Cq) : (s.setCq n f).ports = s.ports := rfl
@[simp] theorem State.setCq_scans (s : State) (n : Nat) (f : Cq → Cq) : (s.setCq n f).scans = s.scans := rfl
@[simp] theorem State.setCq_core (s : State) (n : Nat) (f : Cq → Cq) : (s.setCq n f).core = s.core := rfl
@[simp] theorem State.setCq_fab (s : State) (n : Nat) (f : Cq → Cq) : (s.setCq n f).fab = s.fab := rfl
@[simp] theorem State.setCq_trunks (s : State) (n : Nat) (f : Cq → Cq) : (s.setCq n f).trunks = s.trunks := rfl
@[simp] theorem State.setCq_pool (s : State) (n : Nat) (f : Cq → Cq) : (s.setCq n f).pool = s.pool := rfl
@[simp] theorem State.setCq_home (s : State) (n : Nat) (f : Cq → Cq) : (s.setCq n f).home = s.home := rfl
@[simp] theorem State.setCq_host (s : State) (n : Nat) (f : Cq → Cq) : (s.setCq n f).host = s.host := rfl
@[simp] theorem State.setCq_irq (s : State) (n : Nat) (f : Cq → Cq) : (s.setCq n f).irq = s.irq := rfl
@[simp] theorem State.setCq_sprout (s : State) (n : Nat) (f : Cq → Cq) : (s.setCq n f).sprout = s.sprout := rfl
@[simp] theorem State.setCq_col (s : State) (n : Nat) (f : Cq → Cq) : (s.setCq n f).col = s.col := rfl
@[simp] theorem State.setCq_twin (s : State) (n : Nat) (f : Cq → Cq) : (s.setCq n f).twin = s.twin := rfl
@[simp] theorem State.setCq_adp (s : State) (n : Nat) (f : Cq → Cq) : (s.setCq n f).adp = s.adp := rfl
@[simp] theorem State.setCq_settings (s : State) (n : Nat) (f : Cq → Cq) : (s.setCq n f).settings = s.settings := rfl
@[simp] theorem State.setCq_settingsNext (s : State) (n : Nat) (f : Cq → Cq) : (s.setCq n f).settingsNext = s.settingsNext := rfl
@[simp] theorem State.setCq_settingsStart (s : State) (n : Nat) (f : Cq → Cq) : (s.setCq n f).settingsStart = s.settingsStart := rfl
@[simp] theorem State.setCq_views (s : State) (n : Nat) (f : Cq → Cq) : (s.setCq n f).views = s.views := rfl
@[simp] theorem State.setCq_out (s : State) (n : Nat) (f : Cq → Cq) : (s.setCq n f).out = s.out := rfl
@[simp] theorem State.setCq_free (s : State) (n : Nat) (f : Cq → Cq) : (s.setCq n f).free = s.free := rfl
@[simp] theorem State.setCq_pending (s : State) (n : Nat) (f : Cq → Cq) : (s.setCq n f).pending = s.pending := rfl
@[simp] theorem State.setCq_beryl_qps (s : State) (n : Nat) (f : Cq → Cq) : (s.setCq n f).beryl.qps = s.beryl.qps := rfl
@[simp] theorem State.setCq_beryl_regions (s : State) (n : Nat) (f : Cq → Cq) : (s.setCq n f).beryl.regions = s.beryl.regions := rfl
@[simp] theorem State.setCq_beryl_clusterRetired (s : State) (n : Nat) (f : Cq → Cq) : (s.setCq n f).beryl.clusterRetired = s.beryl.clusterRetired := rfl
@[simp] theorem State.setCq_beryl_clusterPending (s : State) (n : Nat) (f : Cq → Cq) : (s.setCq n f).beryl.clusterPending = s.beryl.clusterPending := rfl
@[simp] theorem State.setCq_beryl_changed (s : State) (n : Nat) (f : Cq → Cq) : (s.setCq n f).beryl.changed = s.beryl.changed := rfl
@[simp] theorem State.setCq_beryl_useClock (s : State) (n : Nat) (f : Cq → Cq) : (s.setCq n f).beryl.useClock = s.beryl.useClock := rfl
@[simp] theorem State.setCq_cq (s : State) (n : Nat) (f : Cq → Cq) (k : Nat) : (s.setCq n f).cq k = if k = n then f (s.cq k) else s.cq k := by
  simp only [State.setCq, State.cq, Tbl.look_put]; split <;> simp_all

/-! ### setRegion -/

@[simp] theorem State.setRegion_ep (s : State) (n : Nat) (f : Region → Region) : (s.setRegion n f).ep = s.ep := rfl
@[simp] theorem State.setRegion_groups (s : State) (n : Nat) (f : Region → Region) : (s.setRegion n f).groups = s.groups := rfl
@[simp] theorem State.setRegion_board (s : State) (n : Nat) (f : Region → Region) : (s.setRegion n f).board = s.board := rfl
@[simp] theorem State.setRegion_sup (s : State) (n : Nat) (f : Region → Region) : (s.setRegion n f).sup = s.sup := rfl
@[simp] theorem State.setRegion_start (s : State) (n : Nat) (f : Region → Region) : (s.setRegion n f).start = s.start := rfl
@[simp] theorem State.setRegion_lanes (s : State) (n : Nat) (f : Region → Region) : (s.setRegion n f).lanes = s.lanes := rfl
@[simp] theorem State.setRegion_ports (s : State) (n : Nat) (f : Region → Region) : (s.setRegion n f).ports = s.ports := rfl
@[simp] theorem State.setRegion_scans (s : State) (n : Nat) (f : Region → Region) : (s.setRegion n f).scans = s.scans := rfl
@[simp] theorem State.setRegion_core (s : State) (n : Nat) (f : Region → Region) : (s.setRegion n f).core = s.core := rfl
@[simp] theorem State.setRegion_fab (s : State) (n : Nat) (f : Region → Region) : (s.setRegion n f).fab = s.fab := rfl
@[simp] theorem State.setRegion_trunks (s : State) (n : Nat) (f : Region → Region) : (s.setRegion n f).trunks = s.trunks := rfl
@[simp] theorem State.setRegion_pool (s : State) (n : Nat) (f : Region → Region) : (s.setRegion n f).pool = s.pool := rfl
@[simp] theorem State.setRegion_home (s : State) (n : Nat) (f : Region → Region) : (s.setRegion n f).home = s.home := rfl
@[simp] theorem State.setRegion_host (s : State) (n : Nat) (f : Region → Region) : (s.setRegion n f).host = s.host := rfl
@[simp] theorem State.setRegion_irq (s : State) (n : Nat) (f : Region → Region) : (s.setRegion n f).irq = s.irq := rfl
@[simp] theorem State.setRegion_sprout (s : State) (n : Nat) (f : Region → Region) : (s.setRegion n f).sprout = s.sprout := rfl
@[simp] theorem State.setRegion_col (s : State) (n : Nat) (f : Region → Region) : (s.setRegion n f).col = s.col := rfl
@[simp] theorem State.setRegion_twin (s : State) (n : Nat) (f : Region → Region) : (s.setRegion n f).twin = s.twin := rfl
@[simp] theorem State.setRegion_adp (s : State) (n : Nat) (f : Region → Region) : (s.setRegion n f).adp = s.adp := rfl
@[simp] theorem State.setRegion_settings (s : State) (n : Nat) (f : Region → Region) : (s.setRegion n f).settings = s.settings := rfl
@[simp] theorem State.setRegion_settingsNext (s : State) (n : Nat) (f : Region → Region) : (s.setRegion n f).settingsNext = s.settingsNext := rfl
@[simp] theorem State.setRegion_settingsStart (s : State) (n : Nat) (f : Region → Region) : (s.setRegion n f).settingsStart = s.settingsStart := rfl
@[simp] theorem State.setRegion_views (s : State) (n : Nat) (f : Region → Region) : (s.setRegion n f).views = s.views := rfl
@[simp] theorem State.setRegion_out (s : State) (n : Nat) (f : Region → Region) : (s.setRegion n f).out = s.out := rfl
@[simp] theorem State.setRegion_free (s : State) (n : Nat) (f : Region → Region) : (s.setRegion n f).free = s.free := rfl
@[simp] theorem State.setRegion_pending (s : State) (n : Nat) (f : Region → Region) : (s.setRegion n f).pending = s.pending := rfl
@[simp] theorem State.setRegion_beryl_qps (s : State) (n : Nat) (f : Region → Region) : (s.setRegion n f).beryl.qps = s.beryl.qps := rfl
@[simp] theorem State.setRegion_beryl_cqs (s : State) (n : Nat) (f : Region → Region) : (s.setRegion n f).beryl.cqs = s.beryl.cqs := rfl
@[simp] theorem State.setRegion_beryl_clusterRetired (s : State) (n : Nat) (f : Region → Region) : (s.setRegion n f).beryl.clusterRetired = s.beryl.clusterRetired := rfl
@[simp] theorem State.setRegion_beryl_clusterPending (s : State) (n : Nat) (f : Region → Region) : (s.setRegion n f).beryl.clusterPending = s.beryl.clusterPending := rfl
@[simp] theorem State.setRegion_beryl_changed (s : State) (n : Nat) (f : Region → Region) : (s.setRegion n f).beryl.changed = s.beryl.changed := rfl
@[simp] theorem State.setRegion_beryl_useClock (s : State) (n : Nat) (f : Region → Region) : (s.setRegion n f).beryl.useClock = s.beryl.useClock := rfl
@[simp] theorem State.setRegion_region (s : State) (n : Nat) (f : Region → Region) (k : Nat) : (s.setRegion n f).region k = if k = n then f (s.region k) else s.region k := by
  simp only [State.setRegion, State.region, Tbl.look_put]; split <;> simp_all

/-! ### setFrame -/

@[simp] theorem State.setFrame_ep (s : State) (i : Nat) (f : Frame → Frame) : (s.setFrame i f).ep = s.ep := rfl
@[simp] theorem State.setFrame_groups (s : State) (i : Nat) (f : Frame → Frame) : (s.setFrame i f).groups = s.groups := rfl
@[simp] theorem State.setFrame_board (s : State) (i : Nat) (f : Frame → Frame) : (s.setFrame i f).board = s.board := rfl
@[simp] theorem State.setFrame_sup (s : State) (i : Nat) (f : Frame → Frame) : (s.setFrame i f).sup = s.sup := rfl
@[simp] theorem State.setFrame_start (s : State) (i : Nat) (f : Frame → Frame) : (s.setFrame i f).start = s.start := rfl
@[simp] theorem State.setFrame_lanes (s : State) (i : Nat) (f : Frame → Frame) : (s.setFrame i f).lanes = s.lanes := rfl
@[simp] theorem State.setFrame_ports (s : State) (i : Nat) (f : Frame → Frame) : (s.setFrame i f).ports = s.ports := rfl
@[simp] theorem State.setFrame_scans (s : State) (i : Nat) (f : Frame → Frame) : (s.setFrame i f).scans = s.scans := rfl
@[simp] theorem State.setFrame_fab (s : State) (i : Nat) (f : Frame → Frame) : (s.setFrame i f).fab = s.fab := rfl
@[simp] theorem State.setFrame_trunks (s : State) (i : Nat) (f : Frame → Frame) : (s.setFrame i f).trunks = s.trunks := rfl
@[simp] theorem State.setFrame_pool (s : State) (i : Nat) (f : Frame → Frame) : (s.setFrame i f).pool = s.pool := rfl
@[simp] theorem State.setFrame_home (s : State) (i : Nat) (f : Frame → Frame) : (s.setFrame i f).home = s.home := rfl
@[simp] theorem State.setFrame_beryl (s : State) (i : Nat) (f : Frame → Frame) : (s.setFrame i f).beryl = s.beryl := rfl
@[simp] theorem State.setFrame_host (s : State) (i : Nat) (f : Frame → Frame) : (s.setFrame i f).host = s.host := rfl
@[simp] theorem State.setFrame_irq (s : State) (i : Nat) (f : Frame → Frame) : (s.setFrame i f).irq = s.irq := rfl
@[simp] theorem State.setFrame_sprout (s : State) (i : Nat) (f : Frame → Frame) : (s.setFrame i f).sprout = s.sprout := rfl
@[simp] theorem State.setFrame_col (s : State) (i : Nat) (f : Frame → Frame) : (s.setFrame i f).col = s.col := rfl
@[simp] theorem State.setFrame_twin (s : State) (i : Nat) (f : Frame → Frame) : (s.setFrame i f).twin = s.twin := rfl
@[simp] theorem State.setFrame_adp (s : State) (i : Nat) (f : Frame → Frame) : (s.setFrame i f).adp = s.adp := rfl
@[simp] theorem State.setFrame_settings (s : State) (i : Nat) (f : Frame → Frame) : (s.setFrame i f).settings = s.settings := rfl
@[simp] theorem State.setFrame_settingsNext (s : State) (i : Nat) (f : Frame → Frame) : (s.setFrame i f).settingsNext = s.settingsNext := rfl
@[simp] theorem State.setFrame_settingsStart (s : State) (i : Nat) (f : Frame → Frame) : (s.setFrame i f).settingsStart = s.settingsStart := rfl
@[simp] theorem State.setFrame_views (s : State) (i : Nat) (f : Frame → Frame) : (s.setFrame i f).views = s.views := rfl
@[simp] theorem State.setFrame_out (s : State) (i : Nat) (f : Frame → Frame) : (s.setFrame i f).out = s.out := rfl
@[simp] theorem State.setFrame_free (s : State) (i : Nat) (f : Frame → Frame) : (s.setFrame i f).free = s.free := rfl
@[simp] theorem State.setFrame_pending (s : State) (i : Nat) (f : Frame → Frame) : (s.setFrame i f).pending = s.pending := rfl
@[simp] theorem State.setFrame_core_nextId (s : State) (i : Nat) (f : Frame → Frame) : (s.setFrame i f).core.nextId = s.core.nextId := rfl
@[simp] theorem State.setFrame_core_bankState (s : State) (i : Nat) (f : Frame → Frame) : (s.setFrame i f).core.bankState = s.core.bankState := rfl
@[simp] theorem State.setFrame_core_nextBank (s : State) (i : Nat) (f : Frame → Frame) : (s.setFrame i f).core.nextBank = s.core.nextBank := rfl
@[simp] theorem State.setFrame_core_attachRetired (s : State) (i : Nat) (f : Frame → Frame) : (s.setFrame i f).core.attachRetired = s.core.attachRetired := rfl
@[simp] theorem State.setFrame_core_attachPending (s : State) (i : Nat) (f : Frame → Frame) : (s.setFrame i f).core.attachPending = s.core.attachPending := rfl
@[simp] theorem State.setFrame_core_internalAt (s : State) (i : Nat) (f : Frame → Frame) : (s.setFrame i f).core.internalAt = s.core.internalAt := rfl
@[simp] theorem State.setFrame_core_suspended (s : State) (i : Nat) (f : Frame → Frame) : (s.setFrame i f).core.suspended = s.core.suspended := rfl
@[simp] theorem State.setFrame_core_pointers (s : State) (i : Nat) (f : Frame → Frame) : (s.setFrame i f).core.pointers = s.core.pointers := rfl
@[simp] theorem State.setFrame_core_xmit (s : State) (i : Nat) (f : Frame → Frame) : (s.setFrame i f).core.xmit = s.core.xmit := rfl
@[simp] theorem State.setFrame_core_buckets (s : State) (i : Nat) (f : Frame → Frame) : (s.setFrame i f).core.buckets = s.core.buckets := rfl
@[simp] theorem State.setFrame_core_pathFailed (s : State) (i : Nat) (f : Frame → Frame) : (s.setFrame i f).core.pathFailed = s.core.pathFailed := rfl

/-! ### enterEpoch -/

@[simp] theorem State.enterEpoch_groups (s : State) (t : Nat) : (s.enterEpoch t).groups = s.groups := rfl
@[simp] theorem State.enterEpoch_board (s : State) (t : Nat) : (s.enterEpoch t).board = s.board := rfl
@[simp] theorem State.enterEpoch_sup (s : State) (t : Nat) : (s.enterEpoch t).sup = s.sup := rfl
@[simp] theorem State.enterEpoch_start (s : State) (t : Nat) : (s.enterEpoch t).start = s.start := rfl
@[simp] theorem State.enterEpoch_lanes (s : State) (t : Nat) : (s.enterEpoch t).lanes = s.lanes := rfl
@[simp] theorem State.enterEpoch_ports (s : State) (t : Nat) : (s.enterEpoch t).ports = s.ports := rfl
@[simp] theorem State.enterEpoch_scans (s : State) (t : Nat) : (s.enterEpoch t).scans = s.scans := rfl
@[simp] theorem State.enterEpoch_core (s : State) (t : Nat) : (s.enterEpoch t).core = s.core := rfl
@[simp] theorem State.enterEpoch_fab (s : State) (t : Nat) : (s.enterEpoch t).fab = s.fab := rfl
@[simp] theorem State.enterEpoch_trunks (s : State) (t : Nat) : (s.enterEpoch t).trunks = s.trunks := rfl
@[simp] theorem State.enterEpoch_pool (s : State) (t : Nat) : (s.enterEpoch t).pool = s.pool := rfl
@[simp] theorem State.enterEpoch_home (s : State) (t : Nat) : (s.enterEpoch t).home = s.home := rfl
@[simp] theorem State.enterEpoch_beryl (s : State) (t : Nat) : (s.enterEpoch t).beryl = s.beryl := rfl
@[simp] theorem State.enterEpoch_host (s : State) (t : Nat) : (s.enterEpoch t).host = s.host := rfl
@[simp] theorem State.enterEpoch_irq (s : State) (t : Nat) : (s.enterEpoch t).irq = s.irq := rfl
@[simp] theorem State.enterEpoch_sprout (s : State) (t : Nat) : (s.enterEpoch t).sprout = s.sprout := rfl
@[simp] theorem State.enterEpoch_col (s : State) (t : Nat) : (s.enterEpoch t).col = s.col := rfl
@[simp] theorem State.enterEpoch_twin (s : State) (t : Nat) : (s.enterEpoch t).twin = s.twin := rfl
@[simp] theorem State.enterEpoch_adp (s : State) (t : Nat) : (s.enterEpoch t).adp = s.adp := rfl
@[simp] theorem State.enterEpoch_settings (s : State) (t : Nat) : (s.enterEpoch t).settings = s.settings := rfl
@[simp] theorem State.enterEpoch_settingsNext (s : State) (t : Nat) : (s.enterEpoch t).settingsNext = s.settingsNext := rfl
@[simp] theorem State.enterEpoch_settingsStart (s : State) (t : Nat) : (s.enterEpoch t).settingsStart = s.settingsStart := rfl
@[simp] theorem State.enterEpoch_views (s : State) (t : Nat) : (s.enterEpoch t).views = s.views := rfl
@[simp] theorem State.enterEpoch_out (s : State) (t : Nat) : (s.enterEpoch t).out = s.out := rfl
@[simp] theorem State.enterEpoch_free (s : State) (t : Nat) : (s.enterEpoch t).free = s.free := rfl
@[simp] theorem State.enterEpoch_pending (s : State) (t : Nat) : (s.enterEpoch t).pending = s.pending := rfl
@[simp] theorem State.enterEpoch_ep_beat (s : State) (t : Nat) : (s.enterEpoch t).ep.beat = s.ep.beat := rfl
@[simp] theorem State.enterEpoch_ep_epoch (s : State) (t : Nat) : (s.enterEpoch t).ep.epoch = s.ep.epoch := rfl
@[simp] theorem State.enterEpoch_ep_superseded (s : State) (t : Nat) : (s.enterEpoch t).ep.superseded = s.ep.superseded := rfl
@[simp] theorem State.enterEpoch_ep_commit (s : State) (t : Nat) : (s.enterEpoch t).ep.commit = s.ep.commit := rfl
@[simp] theorem State.enterEpoch_ep_token (s : State) (t : Nat) : (s.enterEpoch t).ep.token = s.ep.token := rfl
@[simp] theorem State.enterEpoch_ep_due (s : State) (t : Nat) : (s.enterEpoch t).ep.due = s.ep.due := rfl
@[simp] theorem State.enterEpoch_ep_lastToken (s : State) (t : Nat) : (s.enterEpoch t).ep.lastToken = s.ep.lastToken := rfl
@[simp] theorem State.enterEpoch_ep_lastEpoch (s : State) (t : Nat) : (s.enterEpoch t).ep.lastEpoch = s.ep.lastEpoch := rfl
@[simp] theorem State.enterEpoch_ep_lastBeat (s : State) (t : Nat) : (s.enterEpoch t).ep.lastBeat = s.ep.lastBeat := rfl
@[simp] theorem State.enterEpoch_ep_deferrals (s : State) (t : Nat) : (s.enterEpoch t).ep.deferrals = s.ep.deferrals := rfl
@[simp] theorem State.enterEpoch_ep_live (s : State) (t : Nat) : (s.enterEpoch t).ep.live = s.ep.live := rfl
@[simp] theorem State.enterEpoch_ep_shadow (s : State) (t : Nat) : (s.enterEpoch t).ep.shadow = s.ep.shadow := rfl

/-! ### leaveEpoch -/

@[simp] theorem State.leaveEpoch_groups (s : State) (t : Nat) : (s.leaveEpoch t).groups = s.groups := rfl
@[simp] theorem State.leaveEpoch_board (s : State) (t : Nat) : (s.leaveEpoch t).board = s.board := rfl
@[simp] theorem State.leaveEpoch_sup (s : State) (t : Nat) : (s.leaveEpoch t).sup = s.sup := rfl
@[simp] theorem State.leaveEpoch_start (s : State) (t : Nat) : (s.leaveEpoch t).start = s.start := rfl
@[simp] theorem State.leaveEpoch_lanes (s : State) (t : Nat) : (s.leaveEpoch t).lanes = s.lanes := rfl
@[simp] theorem State.leaveEpoch_ports (s : State) (t : Nat) : (s.leaveEpoch t).ports = s.ports := rfl
@[simp] theorem State.leaveEpoch_scans (s : State) (t : Nat) : (s.leaveEpoch t).scans = s.scans := rfl
@[simp] theorem State.leaveEpoch_core (s : State) (t : Nat) : (s.leaveEpoch t).core = s.core := rfl
@[simp] theorem State.leaveEpoch_fab (s : State) (t : Nat) : (s.leaveEpoch t).fab = s.fab := rfl
@[simp] theorem State.leaveEpoch_trunks (s : State) (t : Nat) : (s.leaveEpoch t).trunks = s.trunks := rfl
@[simp] theorem State.leaveEpoch_pool (s : State) (t : Nat) : (s.leaveEpoch t).pool = s.pool := rfl
@[simp] theorem State.leaveEpoch_home (s : State) (t : Nat) : (s.leaveEpoch t).home = s.home := rfl
@[simp] theorem State.leaveEpoch_beryl (s : State) (t : Nat) : (s.leaveEpoch t).beryl = s.beryl := rfl
@[simp] theorem State.leaveEpoch_host (s : State) (t : Nat) : (s.leaveEpoch t).host = s.host := rfl
@[simp] theorem State.leaveEpoch_irq (s : State) (t : Nat) : (s.leaveEpoch t).irq = s.irq := rfl
@[simp] theorem State.leaveEpoch_sprout (s : State) (t : Nat) : (s.leaveEpoch t).sprout = s.sprout := rfl
@[simp] theorem State.leaveEpoch_col (s : State) (t : Nat) : (s.leaveEpoch t).col = s.col := rfl
@[simp] theorem State.leaveEpoch_twin (s : State) (t : Nat) : (s.leaveEpoch t).twin = s.twin := rfl
@[simp] theorem State.leaveEpoch_adp (s : State) (t : Nat) : (s.leaveEpoch t).adp = s.adp := rfl
@[simp] theorem State.leaveEpoch_settings (s : State) (t : Nat) : (s.leaveEpoch t).settings = s.settings := rfl
@[simp] theorem State.leaveEpoch_settingsNext (s : State) (t : Nat) : (s.leaveEpoch t).settingsNext = s.settingsNext := rfl
@[simp] theorem State.leaveEpoch_settingsStart (s : State) (t : Nat) : (s.leaveEpoch t).settingsStart = s.settingsStart := rfl
@[simp] theorem State.leaveEpoch_views (s : State) (t : Nat) : (s.leaveEpoch t).views = s.views := rfl
@[simp] theorem State.leaveEpoch_out (s : State) (t : Nat) : (s.leaveEpoch t).out = s.out := rfl
@[simp] theorem State.leaveEpoch_free (s : State) (t : Nat) : (s.leaveEpoch t).free = s.free := rfl
@[simp] theorem State.leaveEpoch_pending (s : State) (t : Nat) : (s.leaveEpoch t).pending = s.pending := rfl
@[simp] theorem State.leaveEpoch_ep_beat (s : State) (t : Nat) : (s.leaveEpoch t).ep.beat = s.ep.beat := rfl
@[simp] theorem State.leaveEpoch_ep_epoch (s : State) (t : Nat) : (s.leaveEpoch t).ep.epoch = s.ep.epoch := rfl
@[simp] theorem State.leaveEpoch_ep_superseded (s : State) (t : Nat) : (s.leaveEpoch t).ep.superseded = s.ep.superseded := rfl
@[simp] theorem State.leaveEpoch_ep_commit (s : State) (t : Nat) : (s.leaveEpoch t).ep.commit = s.ep.commit := rfl
@[simp] theorem State.leaveEpoch_ep_token (s : State) (t : Nat) : (s.leaveEpoch t).ep.token = s.ep.token := rfl
@[simp] theorem State.leaveEpoch_ep_due (s : State) (t : Nat) : (s.leaveEpoch t).ep.due = s.ep.due := rfl
@[simp] theorem State.leaveEpoch_ep_lastToken (s : State) (t : Nat) : (s.leaveEpoch t).ep.lastToken = s.ep.lastToken := rfl
@[simp] theorem State.leaveEpoch_ep_lastEpoch (s : State) (t : Nat) : (s.leaveEpoch t).ep.lastEpoch = s.ep.lastEpoch := rfl
@[simp] theorem State.leaveEpoch_ep_lastBeat (s : State) (t : Nat) : (s.leaveEpoch t).ep.lastBeat = s.ep.lastBeat := rfl
@[simp] theorem State.leaveEpoch_ep_deferrals (s : State) (t : Nat) : (s.leaveEpoch t).ep.deferrals = s.ep.deferrals := rfl
@[simp] theorem State.leaveEpoch_ep_live (s : State) (t : Nat) : (s.leaveEpoch t).ep.live = s.ep.live := rfl
@[simp] theorem State.leaveEpoch_ep_shadow (s : State) (t : Nat) : (s.leaveEpoch t).ep.shadow = s.ep.shadow := rfl

/-! ### setSession -/

@[simp] theorem State.setSession_ep (s : State) (n : Nat) (f : Session → Session) : (s.setSession n f).ep = s.ep := rfl
@[simp] theorem State.setSession_groups (s : State) (n : Nat) (f : Session → Session) : (s.setSession n f).groups = s.groups := rfl
@[simp] theorem State.setSession_board (s : State) (n : Nat) (f : Session → Session) : (s.setSession n f).board = s.board := rfl
@[simp] theorem State.setSession_sup (s : State) (n : Nat) (f : Session → Session) : (s.setSession n f).sup = s.sup := rfl
@[simp] theorem State.setSession_start (s : State) (n : Nat) (f : Session → Session) : (s.setSession n f).start = s.start := rfl
@[simp] theorem State.setSession_lanes (s : State) (n : Nat) (f : Session → Session) : (s.setSession n f).lanes = s.lanes := rfl
@[simp] theorem State.setSession_ports (s : State) (n : Nat) (f : Session → Session) : (s.setSession n f).ports = s.ports := rfl
@[simp] theorem State.setSession_scans (s : State) (n : Nat) (f : Session → Session) : (s.setSession n f).scans = s.scans := rfl
@[simp] theorem State.setSession_core (s : State) (n : Nat) (f : Session → Session) : (s.setSession n f).core = s.core := rfl
@[simp] theorem State.setSession_fab (s : State) (n : Nat) (f : Session → Session) : (s.setSession n f).fab = s.fab := rfl
@[simp] theorem State.setSession_trunks (s : State) (n : Nat) (f : Session → Session) : (s.setSession n f).trunks = s.trunks := rfl
@[simp] theorem State.setSession_pool (s : State) (n : Nat) (f : Session → Session) : (s.setSession n f).pool = s.pool := rfl
@[simp] theorem State.setSession_home (s : State) (n : Nat) (f : Session → Session) : (s.setSession n f).home = s.home := rfl
@[simp] theorem State.setSession_beryl (s : State) (n : Nat) (f : Session → Session) : (s.setSession n f).beryl = s.beryl := rfl
@[simp] theorem State.setSession_host (s : State) (n : Nat) (f : Session → Session) : (s.setSession n f).host = s.host := rfl
@[simp] theorem State.setSession_irq (s : State) (n : Nat) (f : Session → Session) : (s.setSession n f).irq = s.irq := rfl
@[simp] theorem State.setSession_sprout (s : State) (n : Nat) (f : Session → Session) : (s.setSession n f).sprout = s.sprout := rfl
@[simp] theorem State.setSession_col (s : State) (n : Nat) (f : Session → Session) : (s.setSession n f).col = s.col := rfl
@[simp] theorem State.setSession_twin (s : State) (n : Nat) (f : Session → Session) : (s.setSession n f).twin = s.twin := rfl
@[simp] theorem State.setSession_settings (s : State) (n : Nat) (f : Session → Session) : (s.setSession n f).settings = s.settings := rfl
@[simp] theorem State.setSession_settingsNext (s : State) (n : Nat) (f : Session → Session) : (s.setSession n f).settingsNext = s.settingsNext := rfl
@[simp] theorem State.setSession_settingsStart (s : State) (n : Nat) (f : Session → Session) : (s.setSession n f).settingsStart = s.settingsStart := rfl
@[simp] theorem State.setSession_views (s : State) (n : Nat) (f : Session → Session) : (s.setSession n f).views = s.views := rfl
@[simp] theorem State.setSession_out (s : State) (n : Nat) (f : Session → Session) : (s.setSession n f).out = s.out := rfl
@[simp] theorem State.setSession_free (s : State) (n : Nat) (f : Session → Session) : (s.setSession n f).free = s.free := rfl
@[simp] theorem State.setSession_pending (s : State) (n : Nat) (f : Session → Session) : (s.setSession n f).pending = s.pending := rfl
@[simp] theorem State.setSession_adp_nextSession (s : State) (n : Nat) (f : Session → Session) : (s.setSession n f).adp.nextSession = s.adp.nextSession := rfl
@[simp] theorem State.setSession_adp_upA (s : State) (n : Nat) (f : Session → Session) : (s.setSession n f).adp.upA = s.adp.upA := rfl
@[simp] theorem State.setSession_adp_upB (s : State) (n : Nat) (f : Session → Session) : (s.setSession n f).adp.upB = s.adp.upB := rfl
@[simp] theorem State.setSession_adp_conflictA (s : State) (n : Nat) (f : Session → Session) : (s.setSession n f).adp.conflictA = s.adp.conflictA := rfl
@[simp] theorem State.setSession_adp_conflictB (s : State) (n : Nat) (f : Session → Session) : (s.setSession n f).adp.conflictB = s.adp.conflictB := rfl
@[simp] theorem State.setSession_adp_anchors (s : State) (n : Nat) (f : Session → Session) : (s.setSession n f).adp.anchors = s.adp.anchors := rfl

/-! ### endSession -/

@[simp] theorem State.endSession_ep (s : State) (n : Nat) : (s.endSession n).ep = s.ep := rfl
@[simp] theorem State.endSession_groups (s : State) (n : Nat) : (s.endSession n).groups = s.groups := rfl
@[simp] theorem State.endSession_board (s : State) (n : Nat) : (s.endSession n).board = s.board := rfl
@[simp] theorem State.endSession_sup (s : State) (n : Nat) : (s.endSession n).sup = s.sup := rfl
@[simp] theorem State.endSession_start (s : State) (n : Nat) : (s.endSession n).start = s.start := rfl
@[simp] theorem State.endSession_lanes (s : State) (n : Nat) : (s.endSession n).lanes = s.lanes := rfl
@[simp] theorem State.endSession_ports (s : State) (n : Nat) : (s.endSession n).ports = s.ports := rfl
@[simp] theorem State.endSession_scans (s : State) (n : Nat) : (s.endSession n).scans = s.scans := rfl
@[simp] theorem State.endSession_core (s : State) (n : Nat) : (s.endSession n).core = s.core := rfl
@[simp] theorem State.endSession_fab (s : State) (n : Nat) : (s.endSession n).fab = s.fab := rfl
@[simp] theorem State.endSession_trunks (s : State) (n : Nat) : (s.endSession n).trunks = s.trunks := rfl
@[simp] theorem State.endSession_pool (s : State) (n : Nat) : (s.endSession n).pool = s.pool := rfl
@[simp] theorem State.endSession_home (s : State) (n : Nat) : (s.endSession n).home = s.home := rfl
@[simp] theorem State.endSession_beryl (s : State) (n : Nat) : (s.endSession n).beryl = s.beryl := rfl
@[simp] theorem State.endSession_host (s : State) (n : Nat) : (s.endSession n).host = s.host := rfl
@[simp] theorem State.endSession_irq (s : State) (n : Nat) : (s.endSession n).irq = s.irq := rfl
@[simp] theorem State.endSession_sprout (s : State) (n : Nat) : (s.endSession n).sprout = s.sprout := rfl
@[simp] theorem State.endSession_col (s : State) (n : Nat) : (s.endSession n).col = s.col := rfl
@[simp] theorem State.endSession_twin (s : State) (n : Nat) : (s.endSession n).twin = s.twin := rfl
@[simp] theorem State.endSession_settings (s : State) (n : Nat) : (s.endSession n).settings = s.settings := rfl
@[simp] theorem State.endSession_settingsNext (s : State) (n : Nat) : (s.endSession n).settingsNext = s.settingsNext := rfl
@[simp] theorem State.endSession_settingsStart (s : State) (n : Nat) : (s.endSession n).settingsStart = s.settingsStart := rfl
@[simp] theorem State.endSession_views (s : State) (n : Nat) : (s.endSession n).views = s.views := rfl
@[simp] theorem State.endSession_out (s : State) (n : Nat) : (s.endSession n).out = s.out := rfl
@[simp] theorem State.endSession_free (s : State) (n : Nat) : (s.endSession n).free = s.free := rfl
@[simp] theorem State.endSession_pending (s : State) (n : Nat) : (s.endSession n).pending = s.pending := rfl
@[simp] theorem State.endSession_adp_nextSession (s : State) (n : Nat) : (s.endSession n).adp.nextSession = s.adp.nextSession := rfl
@[simp] theorem State.endSession_adp_upA (s : State) (n : Nat) : (s.endSession n).adp.upA = s.adp.upA := rfl
@[simp] theorem State.endSession_adp_upB (s : State) (n : Nat) : (s.endSession n).adp.upB = s.adp.upB := rfl
@[simp] theorem State.endSession_adp_conflictA (s : State) (n : Nat) : (s.endSession n).adp.conflictA = s.adp.conflictA := rfl
@[simp] theorem State.endSession_adp_conflictB (s : State) (n : Nat) : (s.endSession n).adp.conflictB = s.adp.conflictB := rfl
@[simp] theorem State.endSession_adp_anchors (s : State) (n : Nat) : (s.endSession n).adp.anchors = s.adp.anchors := rfl

/-! ### interrupt -/

@[simp] theorem State.interrupt_ep (s : State) (n : Nat) : (s.interrupt n).ep = s.ep := rfl
@[simp] theorem State.interrupt_groups (s : State) (n : Nat) : (s.interrupt n).groups = s.groups := rfl
@[simp] theorem State.interrupt_board (s : State) (n : Nat) : (s.interrupt n).board = s.board := rfl
@[simp] theorem State.interrupt_sup (s : State) (n : Nat) : (s.interrupt n).sup = s.sup := rfl
@[simp] theorem State.interrupt_start (s : State) (n : Nat) : (s.interrupt n).start = s.start := rfl
@[simp] theorem State.interrupt_lanes (s : State) (n : Nat) : (s.interrupt n).lanes = s.lanes := rfl
@[simp] theorem State.interrupt_ports (s : State) (n : Nat) : (s.interrupt n).ports = s.ports := rfl
@[simp] theorem State.interrupt_scans (s : State) (n : Nat) : (s.interrupt n).scans = s.scans := rfl
@[simp] theorem State.interrupt_core (s : State) (n : Nat) : (s.interrupt n).core = s.core := rfl
@[simp] theorem State.interrupt_fab (s : State) (n : Nat) : (s.interrupt n).fab = s.fab := rfl
@[simp] theorem State.interrupt_trunks (s : State) (n : Nat) : (s.interrupt n).trunks = s.trunks := rfl
@[simp] theorem State.interrupt_pool (s : State) (n : Nat) : (s.interrupt n).pool = s.pool := rfl
@[simp] theorem State.interrupt_home (s : State) (n : Nat) : (s.interrupt n).home = s.home := rfl
@[simp] theorem State.interrupt_beryl (s : State) (n : Nat) : (s.interrupt n).beryl = s.beryl := rfl
@[simp] theorem State.interrupt_host (s : State) (n : Nat) : (s.interrupt n).host = s.host := rfl
@[simp] theorem State.interrupt_sprout (s : State) (n : Nat) : (s.interrupt n).sprout = s.sprout := rfl
@[simp] theorem State.interrupt_col (s : State) (n : Nat) : (s.interrupt n).col = s.col := rfl
@[simp] theorem State.interrupt_twin (s : State) (n : Nat) : (s.interrupt n).twin = s.twin := rfl
@[simp] theorem State.interrupt_adp (s : State) (n : Nat) : (s.interrupt n).adp = s.adp := rfl
@[simp] theorem State.interrupt_settings (s : State) (n : Nat) : (s.interrupt n).settings = s.settings := rfl
@[simp] theorem State.interrupt_settingsNext (s : State) (n : Nat) : (s.interrupt n).settingsNext = s.settingsNext := rfl
@[simp] theorem State.interrupt_settingsStart (s : State) (n : Nat) : (s.interrupt n).settingsStart = s.settingsStart := rfl
@[simp] theorem State.interrupt_views (s : State) (n : Nat) : (s.interrupt n).views = s.views := rfl
@[simp] theorem State.interrupt_out (s : State) (n : Nat) : (s.interrupt n).out = s.out := rfl
@[simp] theorem State.interrupt_free (s : State) (n : Nat) : (s.interrupt n).free = s.free := rfl
@[simp] theorem State.interrupt_pending (s : State) (n : Nat) : (s.interrupt n).pending = s.pending := rfl
@[simp] theorem State.interrupt_irq_inService (s : State) (n : Nat) : (s.interrupt n).irq.inService = s.irq.inService := rfl
@[simp] theorem State.interrupt_irq_enable (s : State) (n : Nat) : (s.interrupt n).irq.enable = s.irq.enable := rfl
@[simp] theorem State.interrupt_irq_coreRetired (s : State) (n : Nat) : (s.interrupt n).irq.coreRetired = s.irq.coreRetired := rfl
@[simp] theorem State.interrupt_irq_corePending (s : State) (n : Nat) : (s.interrupt n).irq.corePending = s.irq.corePending := rfl
@[simp] theorem State.interrupt_irq_tasks (s : State) (n : Nat) : (s.interrupt n).irq.tasks = s.irq.tasks := rfl
@[simp] theorem State.interrupt_irq_moving (s : State) (n : Nat) : (s.interrupt n).irq.moving = s.irq.moving := rfl
@[simp] theorem State.interrupt_irq_sproutAt (s : State) (n : Nat) : (s.interrupt n).irq.sproutAt = s.irq.sproutAt := rfl

/-! ### setStartUnit -/

@[simp] theorem State.setStartUnit_ep (s : State) (f : StartUnit → StartUnit) : (s.setStartUnit f).ep = s.ep := rfl
@[simp] theorem State.setStartUnit_groups (s : State) (f : StartUnit → StartUnit) : (s.setStartUnit f).groups = s.groups := rfl
@[simp] theorem State.setStartUnit_board (s : State) (f : StartUnit → StartUnit) : (s.setStartUnit f).board = s.board := rfl
@[simp] theorem State.setStartUnit_sup (s : State) (f : StartUnit → StartUnit) : (s.setStartUnit f).sup = s.sup := rfl
@[simp] theorem State.setStartUnit_lanes (s : State) (f : StartUnit → StartUnit) : (s.setStartUnit f).lanes = s.lanes := rfl
@[simp] theorem State.setStartUnit_ports (s : State) (f : StartUnit → StartUnit) : (s.setStartUnit f).ports = s.ports := rfl
@[simp] theorem State.setStartUnit_scans (s : State) (f : StartUnit → StartUnit) : (s.setStartUnit f).scans = s.scans := rfl
@[simp] theorem State.setStartUnit_core (s : State) (f : StartUnit → StartUnit) : (s.setStartUnit f).core = s.core := rfl
@[simp] theorem State.setStartUnit_fab (s : State) (f : StartUnit → StartUnit) : (s.setStartUnit f).fab = s.fab := rfl
@[simp] theorem State.setStartUnit_trunks (s : State) (f : StartUnit → StartUnit) : (s.setStartUnit f).trunks = s.trunks := rfl
@[simp] theorem State.setStartUnit_pool (s : State) (f : StartUnit → StartUnit) : (s.setStartUnit f).pool = s.pool := rfl
@[simp] theorem State.setStartUnit_home (s : State) (f : StartUnit → StartUnit) : (s.setStartUnit f).home = s.home := rfl
@[simp] theorem State.setStartUnit_beryl (s : State) (f : StartUnit → StartUnit) : (s.setStartUnit f).beryl = s.beryl := rfl
@[simp] theorem State.setStartUnit_host (s : State) (f : StartUnit → StartUnit) : (s.setStartUnit f).host = s.host := rfl
@[simp] theorem State.setStartUnit_irq (s : State) (f : StartUnit → StartUnit) : (s.setStartUnit f).irq = s.irq := rfl
@[simp] theorem State.setStartUnit_sprout (s : State) (f : StartUnit → StartUnit) : (s.setStartUnit f).sprout = s.sprout := rfl
@[simp] theorem State.setStartUnit_col (s : State) (f : StartUnit → StartUnit) : (s.setStartUnit f).col = s.col := rfl
@[simp] theorem State.setStartUnit_twin (s : State) (f : StartUnit → StartUnit) : (s.setStartUnit f).twin = s.twin := rfl
@[simp] theorem State.setStartUnit_adp (s : State) (f : StartUnit → StartUnit) : (s.setStartUnit f).adp = s.adp := rfl
@[simp] theorem State.setStartUnit_settings (s : State) (f : StartUnit → StartUnit) : (s.setStartUnit f).settings = s.settings := rfl
@[simp] theorem State.setStartUnit_settingsNext (s : State) (f : StartUnit → StartUnit) : (s.setStartUnit f).settingsNext = s.settingsNext := rfl
@[simp] theorem State.setStartUnit_settingsStart (s : State) (f : StartUnit → StartUnit) : (s.setStartUnit f).settingsStart = s.settingsStart := rfl
@[simp] theorem State.setStartUnit_views (s : State) (f : StartUnit → StartUnit) : (s.setStartUnit f).views = s.views := rfl
@[simp] theorem State.setStartUnit_out (s : State) (f : StartUnit → StartUnit) : (s.setStartUnit f).out = s.out := rfl
@[simp] theorem State.setStartUnit_free (s : State) (f : StartUnit → StartUnit) : (s.setStartUnit f).free = s.free := rfl
@[simp] theorem State.setStartUnit_pending (s : State) (f : StartUnit → StartUnit) : (s.setStartUnit f).pending = s.pending := rfl

/-! ### setSup -/

@[simp] theorem State.setSup_ep (s : State) (f : Supervisor → Supervisor) : (s.setSup f).ep = s.ep := rfl
@[simp] theorem State.setSup_groups (s : State) (f : Supervisor → Supervisor) : (s.setSup f).groups = s.groups := rfl
@[simp] theorem State.setSup_board (s : State) (f : Supervisor → Supervisor) : (s.setSup f).board = s.board := rfl
@[simp] theorem State.setSup_start (s : State) (f : Supervisor → Supervisor) : (s.setSup f).start = s.start := rfl
@[simp] theorem State.setSup_lanes (s : State) (f : Supervisor → Supervisor) : (s.setSup f).lanes = s.lanes := rfl
@[simp] theorem State.setSup_ports (s : State) (f : Supervisor → Supervisor) : (s.setSup f).ports = s.ports := rfl
@[simp] theorem State.setSup_scans (s : State) (f : Supervisor → Supervisor) : (s.setSup f).scans = s.scans := rfl
@[simp] theorem State.setSup_core (s : State) (f : Supervisor → Supervisor) : (s.setSup f).core = s.core := rfl
@[simp] theorem State.setSup_fab (s : State) (f : Supervisor → Supervisor) : (s.setSup f).fab = s.fab := rfl
@[simp] theorem State.setSup_trunks (s : State) (f : Supervisor → Supervisor) : (s.setSup f).trunks = s.trunks := rfl
@[simp] theorem State.setSup_pool (s : State) (f : Supervisor → Supervisor) : (s.setSup f).pool = s.pool := rfl
@[simp] theorem State.setSup_home (s : State) (f : Supervisor → Supervisor) : (s.setSup f).home = s.home := rfl
@[simp] theorem State.setSup_beryl (s : State) (f : Supervisor → Supervisor) : (s.setSup f).beryl = s.beryl := rfl
@[simp] theorem State.setSup_host (s : State) (f : Supervisor → Supervisor) : (s.setSup f).host = s.host := rfl
@[simp] theorem State.setSup_irq (s : State) (f : Supervisor → Supervisor) : (s.setSup f).irq = s.irq := rfl
@[simp] theorem State.setSup_sprout (s : State) (f : Supervisor → Supervisor) : (s.setSup f).sprout = s.sprout := rfl
@[simp] theorem State.setSup_col (s : State) (f : Supervisor → Supervisor) : (s.setSup f).col = s.col := rfl
@[simp] theorem State.setSup_twin (s : State) (f : Supervisor → Supervisor) : (s.setSup f).twin = s.twin := rfl
@[simp] theorem State.setSup_adp (s : State) (f : Supervisor → Supervisor) : (s.setSup f).adp = s.adp := rfl
@[simp] theorem State.setSup_settings (s : State) (f : Supervisor → Supervisor) : (s.setSup f).settings = s.settings := rfl
@[simp] theorem State.setSup_settingsNext (s : State) (f : Supervisor → Supervisor) : (s.setSup f).settingsNext = s.settingsNext := rfl
@[simp] theorem State.setSup_settingsStart (s : State) (f : Supervisor → Supervisor) : (s.setSup f).settingsStart = s.settingsStart := rfl
@[simp] theorem State.setSup_views (s : State) (f : Supervisor → Supervisor) : (s.setSup f).views = s.views := rfl
@[simp] theorem State.setSup_out (s : State) (f : Supervisor → Supervisor) : (s.setSup f).out = s.out := rfl
@[simp] theorem State.setSup_free (s : State) (f : Supervisor → Supervisor) : (s.setSup f).free = s.free := rfl
@[simp] theorem State.setSup_pending (s : State) (f : Supervisor → Supervisor) : (s.setSup f).pending = s.pending := rfl

/-! ### setFeed -/

@[simp] theorem State.setFeed_ep (s : State) (k : Nat) (f : Feed → Feed) : (s.setFeed k f).ep = s.ep := by simp only [State.setFeed]; split <;> rfl
@[simp] theorem State.setFeed_groups (s : State) (k : Nat) (f : Feed → Feed) : (s.setFeed k f).groups = s.groups := by simp only [State.setFeed]; split <;> rfl
@[simp] theorem State.setFeed_board (s : State) (k : Nat) (f : Feed → Feed) : (s.setFeed k f).board = s.board := by simp only [State.setFeed]; split <;> rfl
@[simp] theorem State.setFeed_start (s : State) (k : Nat) (f : Feed → Feed) : (s.setFeed k f).start = s.start := by simp only [State.setFeed]; split <;> rfl
@[simp] theorem State.setFeed_lanes (s : State) (k : Nat) (f : Feed → Feed) : (s.setFeed k f).lanes = s.lanes := by simp only [State.setFeed]; split <;> rfl
@[simp] theorem State.setFeed_ports (s : State) (k : Nat) (f : Feed → Feed) : (s.setFeed k f).ports = s.ports := by simp only [State.setFeed]; split <;> rfl
@[simp] theorem State.setFeed_scans (s : State) (k : Nat) (f : Feed → Feed) : (s.setFeed k f).scans = s.scans := by simp only [State.setFeed]; split <;> rfl
@[simp] theorem State.setFeed_core (s : State) (k : Nat) (f : Feed → Feed) : (s.setFeed k f).core = s.core := by simp only [State.setFeed]; split <;> rfl
@[simp] theorem State.setFeed_fab (s : State) (k : Nat) (f : Feed → Feed) : (s.setFeed k f).fab = s.fab := by simp only [State.setFeed]; split <;> rfl
@[simp] theorem State.setFeed_trunks (s : State) (k : Nat) (f : Feed → Feed) : (s.setFeed k f).trunks = s.trunks := by simp only [State.setFeed]; split <;> rfl
@[simp] theorem State.setFeed_pool (s : State) (k : Nat) (f : Feed → Feed) : (s.setFeed k f).pool = s.pool := by simp only [State.setFeed]; split <;> rfl
@[simp] theorem State.setFeed_home (s : State) (k : Nat) (f : Feed → Feed) : (s.setFeed k f).home = s.home := by simp only [State.setFeed]; split <;> rfl
@[simp] theorem State.setFeed_beryl (s : State) (k : Nat) (f : Feed → Feed) : (s.setFeed k f).beryl = s.beryl := by simp only [State.setFeed]; split <;> rfl
@[simp] theorem State.setFeed_host (s : State) (k : Nat) (f : Feed → Feed) : (s.setFeed k f).host = s.host := by simp only [State.setFeed]; split <;> rfl
@[simp] theorem State.setFeed_irq (s : State) (k : Nat) (f : Feed → Feed) : (s.setFeed k f).irq = s.irq := by simp only [State.setFeed]; split <;> rfl
@[simp] theorem State.setFeed_sprout (s : State) (k : Nat) (f : Feed → Feed) : (s.setFeed k f).sprout = s.sprout := by simp only [State.setFeed]; split <;> rfl
@[simp] theorem State.setFeed_col (s : State) (k : Nat) (f : Feed → Feed) : (s.setFeed k f).col = s.col := by simp only [State.setFeed]; split <;> rfl
@[simp] theorem State.setFeed_twin (s : State) (k : Nat) (f : Feed → Feed) : (s.setFeed k f).twin = s.twin := by simp only [State.setFeed]; split <;> rfl
@[simp] theorem State.setFeed_adp (s : State) (k : Nat) (f : Feed → Feed) : (s.setFeed k f).adp = s.adp := by simp only [State.setFeed]; split <;> rfl
@[simp] theorem State.setFeed_settings (s : State) (k : Nat) (f : Feed → Feed) : (s.setFeed k f).settings = s.settings := by simp only [State.setFeed]; split <;> rfl
@[simp] theorem State.setFeed_settingsNext (s : State) (k : Nat) (f : Feed → Feed) : (s.setFeed k f).settingsNext = s.settingsNext := by simp only [State.setFeed]; split <;> rfl
@[simp] theorem State.setFeed_settingsStart (s : State) (k : Nat) (f : Feed → Feed) : (s.setFeed k f).settingsStart = s.settingsStart := by simp only [State.setFeed]; split <;> rfl
@[simp] theorem State.setFeed_views (s : State) (k : Nat) (f : Feed → Feed) : (s.setFeed k f).views = s.views := by simp only [State.setFeed]; split <;> rfl
@[simp] theorem State.setFeed_out (s : State) (k : Nat) (f : Feed → Feed) : (s.setFeed k f).out = s.out := by simp only [State.setFeed]; split <;> rfl
@[simp] theorem State.setFeed_free (s : State) (k : Nat) (f : Feed → Feed) : (s.setFeed k f).free = s.free := by simp only [State.setFeed]; split <;> rfl
@[simp] theorem State.setFeed_pending (s : State) (k : Nat) (f : Feed → Feed) : (s.setFeed k f).pending = s.pending := by simp only [State.setFeed]; split <;> rfl

/-! ### emit -/

@[simp] theorem State.emit_ep (s : State) (o : Out) : (s.emit o).ep = s.ep := rfl
@[simp] theorem State.emit_groups (s : State) (o : Out) : (s.emit o).groups = s.groups := rfl
@[simp] theorem State.emit_board (s : State) (o : Out) : (s.emit o).board = s.board := rfl
@[simp] theorem State.emit_sup (s : State) (o : Out) : (s.emit o).sup = s.sup := rfl
@[simp] theorem State.emit_start (s : State) (o : Out) : (s.emit o).start = s.start := rfl
@[simp] theorem State.emit_lanes (s : State) (o : Out) : (s.emit o).lanes = s.lanes := rfl
@[simp] theorem State.emit_ports (s : State) (o : Out) : (s.emit o).ports = s.ports := rfl
@[simp] theorem State.emit_scans (s : State) (o : Out) : (s.emit o).scans = s.scans := rfl
@[simp] theorem State.emit_core (s : State) (o : Out) : (s.emit o).core = s.core := rfl
@[simp] theorem State.emit_fab (s : State) (o : Out) : (s.emit o).fab = s.fab := rfl
@[simp] theorem State.emit_trunks (s : State) (o : Out) : (s.emit o).trunks = s.trunks := rfl
@[simp] theorem State.emit_pool (s : State) (o : Out) : (s.emit o).pool = s.pool := rfl
@[simp] theorem State.emit_home (s : State) (o : Out) : (s.emit o).home = s.home := rfl
@[simp] theorem State.emit_beryl (s : State) (o : Out) : (s.emit o).beryl = s.beryl := rfl
@[simp] theorem State.emit_host (s : State) (o : Out) : (s.emit o).host = s.host := rfl
@[simp] theorem State.emit_irq (s : State) (o : Out) : (s.emit o).irq = s.irq := rfl
@[simp] theorem State.emit_sprout (s : State) (o : Out) : (s.emit o).sprout = s.sprout := rfl
@[simp] theorem State.emit_col (s : State) (o : Out) : (s.emit o).col = s.col := rfl
@[simp] theorem State.emit_twin (s : State) (o : Out) : (s.emit o).twin = s.twin := rfl
@[simp] theorem State.emit_adp (s : State) (o : Out) : (s.emit o).adp = s.adp := rfl
@[simp] theorem State.emit_settings (s : State) (o : Out) : (s.emit o).settings = s.settings := rfl
@[simp] theorem State.emit_settingsNext (s : State) (o : Out) : (s.emit o).settingsNext = s.settingsNext := rfl
@[simp] theorem State.emit_settingsStart (s : State) (o : Out) : (s.emit o).settingsStart = s.settingsStart := rfl
@[simp] theorem State.emit_views (s : State) (o : Out) : (s.emit o).views = s.views := rfl
@[simp] theorem State.emit_free (s : State) (o : Out) : (s.emit o).free = s.free := rfl
@[simp] theorem State.emit_pending (s : State) (o : Out) : (s.emit o).pending = s.pending := rfl

/-! ### answer -/

@[simp] theorem State.answer_ep (s : State) (c : Nat) : (s.answer c).ep = s.ep := rfl
@[simp] theorem State.answer_groups (s : State) (c : Nat) : (s.answer c).groups = s.groups := rfl
@[simp] theorem State.answer_board (s : State) (c : Nat) : (s.answer c).board = s.board := rfl
@[simp] theorem State.answer_sup (s : State) (c : Nat) : (s.answer c).sup = s.sup := rfl
@[simp] theorem State.answer_start (s : State) (c : Nat) : (s.answer c).start = s.start := rfl
@[simp] theorem State.answer_lanes (s : State) (c : Nat) : (s.answer c).lanes = s.lanes := rfl
@[simp] theorem State.answer_ports (s : State) (c : Nat) : (s.answer c).ports = s.ports := rfl
@[simp] theorem State.answer_scans (s : State) (c : Nat) : (s.answer c).scans = s.scans := rfl
@[simp] theorem State.answer_core (s : State) (c : Nat) : (s.answer c).core = s.core := rfl
@[simp] theorem State.answer_fab (s : State) (c : Nat) : (s.answer c).fab = s.fab := rfl
@[simp] theorem State.answer_trunks (s : State) (c : Nat) : (s.answer c).trunks = s.trunks := rfl
@[simp] theorem State.answer_pool (s : State) (c : Nat) : (s.answer c).pool = s.pool := rfl
@[simp] theorem State.answer_home (s : State) (c : Nat) : (s.answer c).home = s.home := rfl
@[simp] theorem State.answer_beryl (s : State) (c : Nat) : (s.answer c).beryl = s.beryl := rfl
@[simp] theorem State.answer_host (s : State) (c : Nat) : (s.answer c).host = s.host := rfl
@[simp] theorem State.answer_irq (s : State) (c : Nat) : (s.answer c).irq = s.irq := rfl
@[simp] theorem State.answer_sprout (s : State) (c : Nat) : (s.answer c).sprout = s.sprout := rfl
@[simp] theorem State.answer_col (s : State) (c : Nat) : (s.answer c).col = s.col := rfl
@[simp] theorem State.answer_twin (s : State) (c : Nat) : (s.answer c).twin = s.twin := rfl
@[simp] theorem State.answer_adp (s : State) (c : Nat) : (s.answer c).adp = s.adp := rfl
@[simp] theorem State.answer_settings (s : State) (c : Nat) : (s.answer c).settings = s.settings := rfl
@[simp] theorem State.answer_settingsNext (s : State) (c : Nat) : (s.answer c).settingsNext = s.settingsNext := rfl
@[simp] theorem State.answer_settingsStart (s : State) (c : Nat) : (s.answer c).settingsStart = s.settingsStart := rfl
@[simp] theorem State.answer_views (s : State) (c : Nat) : (s.answer c).views = s.views := rfl
@[simp] theorem State.answer_free (s : State) (c : Nat) : (s.answer c).free = s.free := rfl
@[simp] theorem State.answer_pending (s : State) (c : Nat) : (s.answer c).pending = s.pending := rfl

/-! ### setView -/

@[simp] theorem State.setView_ep (s : State) (i j v : Nat) : (s.setView i j v).ep = s.ep := rfl
@[simp] theorem State.setView_groups (s : State) (i j v : Nat) : (s.setView i j v).groups = s.groups := rfl
@[simp] theorem State.setView_board (s : State) (i j v : Nat) : (s.setView i j v).board = s.board := rfl
@[simp] theorem State.setView_sup (s : State) (i j v : Nat) : (s.setView i j v).sup = s.sup := rfl
@[simp] theorem State.setView_start (s : State) (i j v : Nat) : (s.setView i j v).start = s.start := rfl
@[simp] theorem State.setView_lanes (s : State) (i j v : Nat) : (s.setView i j v).lanes = s.lanes := rfl
@[simp] theorem State.setView_ports (s : State) (i j v : Nat) : (s.setView i j v).ports = s.ports := rfl
@[simp] theorem State.setView_scans (s : State) (i j v : Nat) : (s.setView i j v).scans = s.scans := rfl
@[simp] theorem State.setView_core (s : State) (i j v : Nat) : (s.setView i j v).core = s.core := rfl
@[simp] theorem State.setView_fab (s : State) (i j v : Nat) : (s.setView i j v).fab = s.fab := rfl
@[simp] theorem State.setView_trunks (s : State) (i j v : Nat) : (s.setView i j v).trunks = s.trunks := rfl
@[simp] theorem State.setView_pool (s : State) (i j v : Nat) : (s.setView i j v).pool = s.pool := rfl
@[simp] theorem State.setView_home (s : State) (i j v : Nat) : (s.setView i j v).home = s.home := rfl
@[simp] theorem State.setView_beryl (s : State) (i j v : Nat) : (s.setView i j v).beryl = s.beryl := rfl
@[simp] theorem State.setView_host (s : State) (i j v : Nat) : (s.setView i j v).host = s.host := rfl
@[simp] theorem State.setView_irq (s : State) (i j v : Nat) : (s.setView i j v).irq = s.irq := rfl
@[simp] theorem State.setView_sprout (s : State) (i j v : Nat) : (s.setView i j v).sprout = s.sprout := rfl
@[simp] theorem State.setView_col (s : State) (i j v : Nat) : (s.setView i j v).col = s.col := rfl
@[simp] theorem State.setView_twin (s : State) (i j v : Nat) : (s.setView i j v).twin = s.twin := rfl
@[simp] theorem State.setView_adp (s : State) (i j v : Nat) : (s.setView i j v).adp = s.adp := rfl
@[simp] theorem State.setView_settings (s : State) (i j v : Nat) : (s.setView i j v).settings = s.settings := rfl
@[simp] theorem State.setView_settingsNext (s : State) (i j v : Nat) : (s.setView i j v).settingsNext = s.settingsNext := rfl
@[simp] theorem State.setView_settingsStart (s : State) (i j v : Nat) : (s.setView i j v).settingsStart = s.settingsStart := rfl
@[simp] theorem State.setView_out (s : State) (i j v : Nat) : (s.setView i j v).out = s.out := rfl
@[simp] theorem State.setView_free (s : State) (i j v : Nat) : (s.setView i j v).free = s.free := rfl
@[simp] theorem State.setView_pending (s : State) (i j v : Nat) : (s.setView i j v).pending = s.pending := rfl

/-! ### countBy -/

@[simp] theorem State.countBy_ep (s : State) (n i j : Nat) : (s.countBy n i j).ep = s.ep := rfl
@[simp] theorem State.countBy_groups (s : State) (n i j : Nat) : (s.countBy n i j).groups = s.groups := rfl
@[simp] theorem State.countBy_board (s : State) (n i j : Nat) : (s.countBy n i j).board = s.board := rfl
@[simp] theorem State.countBy_sup (s : State) (n i j : Nat) : (s.countBy n i j).sup = s.sup := rfl
@[simp] theorem State.countBy_start (s : State) (n i j : Nat) : (s.countBy n i j).start = s.start := rfl
@[simp] theorem State.countBy_lanes (s : State) (n i j : Nat) : (s.countBy n i j).lanes = s.lanes := rfl
@[simp] theorem State.countBy_ports (s : State) (n i j : Nat) : (s.countBy n i j).ports = s.ports := rfl
@[simp] theorem State.countBy_scans (s : State) (n i j : Nat) : (s.countBy n i j).scans = s.scans := rfl
@[simp] theorem State.countBy_core (s : State) (n i j : Nat) : (s.countBy n i j).core = s.core := rfl
@[simp] theorem State.countBy_fab (s : State) (n i j : Nat) : (s.countBy n i j).fab = s.fab := rfl
@[simp] theorem State.countBy_trunks (s : State) (n i j : Nat) : (s.countBy n i j).trunks = s.trunks := rfl
@[simp] theorem State.countBy_pool (s : State) (n i j : Nat) : (s.countBy n i j).pool = s.pool := rfl
@[simp] theorem State.countBy_home (s : State) (n i j : Nat) : (s.countBy n i j).home = s.home := rfl
@[simp] theorem State.countBy_beryl (s : State) (n i j : Nat) : (s.countBy n i j).beryl = s.beryl := rfl
@[simp] theorem State.countBy_host (s : State) (n i j : Nat) : (s.countBy n i j).host = s.host := rfl
@[simp] theorem State.countBy_irq (s : State) (n i j : Nat) : (s.countBy n i j).irq = s.irq := rfl
@[simp] theorem State.countBy_sprout (s : State) (n i j : Nat) : (s.countBy n i j).sprout = s.sprout := rfl
@[simp] theorem State.countBy_col (s : State) (n i j : Nat) : (s.countBy n i j).col = s.col := rfl
@[simp] theorem State.countBy_twin (s : State) (n i j : Nat) : (s.countBy n i j).twin = s.twin := rfl
@[simp] theorem State.countBy_adp (s : State) (n i j : Nat) : (s.countBy n i j).adp = s.adp := rfl
@[simp] theorem State.countBy_settings (s : State) (n i j : Nat) : (s.countBy n i j).settings = s.settings := rfl
@[simp] theorem State.countBy_settingsNext (s : State) (n i j : Nat) : (s.countBy n i j).settingsNext = s.settingsNext := rfl
@[simp] theorem State.countBy_settingsStart (s : State) (n i j : Nat) : (s.countBy n i j).settingsStart = s.settingsStart := rfl
@[simp] theorem State.countBy_out (s : State) (n i j : Nat) : (s.countBy n i j).out = s.out := rfl
@[simp] theorem State.countBy_free (s : State) (n i j : Nat) : (s.countBy n i j).free = s.free := rfl
@[simp] theorem State.countBy_pending (s : State) (n i j : Nat) : (s.countBy n i j).pending = s.pending := rfl

/-! ### bump -/

@[simp] theorem State.bump_ep (s : State) (i j : Nat) : (s.bump i j).ep = s.ep := rfl
@[simp] theorem State.bump_groups (s : State) (i j : Nat) : (s.bump i j).groups = s.groups := rfl
@[simp] theorem State.bump_board (s : State) (i j : Nat) : (s.bump i j).board = s.board := rfl
@[simp] theorem State.bump_sup (s : State) (i j : Nat) : (s.bump i j).sup = s.sup := rfl
@[simp] theorem State.bump_start (s : State) (i j : Nat) : (s.bump i j).start = s.start := rfl
@[simp] theorem State.bump_lanes (s : State) (i j : Nat) : (s.bump i j).lanes = s.lanes := rfl
@[simp] theorem State.bump_ports (s : State) (i j : Nat) : (s.bump i j).ports = s.ports := rfl
@[simp] theorem State.bump_scans (s : State) (i j : Nat) : (s.bump i j).scans = s.scans := rfl
@[simp] theorem State.bump_core (s : State) (i j : Nat) : (s.bump i j).core = s.core := rfl
@[simp] theorem State.bump_fab (s : State) (i j : Nat) : (s.bump i j).fab = s.fab := rfl
@[simp] theorem State.bump_trunks (s : State) (i j : Nat) : (s.bump i j).trunks = s.trunks := rfl
@[simp] theorem State.bump_pool (s : State) (i j : Nat) : (s.bump i j).pool = s.pool := rfl
@[simp] theorem State.bump_home (s : State) (i j : Nat) : (s.bump i j).home = s.home := rfl
@[simp] theorem State.bump_beryl (s : State) (i j : Nat) : (s.bump i j).beryl = s.beryl := rfl
@[simp] theorem State.bump_host (s : State) (i j : Nat) : (s.bump i j).host = s.host := rfl
@[simp] theorem State.bump_irq (s : State) (i j : Nat) : (s.bump i j).irq = s.irq := rfl
@[simp] theorem State.bump_sprout (s : State) (i j : Nat) : (s.bump i j).sprout = s.sprout := rfl
@[simp] theorem State.bump_col (s : State) (i j : Nat) : (s.bump i j).col = s.col := rfl
@[simp] theorem State.bump_twin (s : State) (i j : Nat) : (s.bump i j).twin = s.twin := rfl
@[simp] theorem State.bump_adp (s : State) (i j : Nat) : (s.bump i j).adp = s.adp := rfl
@[simp] theorem State.bump_settings (s : State) (i j : Nat) : (s.bump i j).settings = s.settings := rfl
@[simp] theorem State.bump_settingsNext (s : State) (i j : Nat) : (s.bump i j).settingsNext = s.settingsNext := rfl
@[simp] theorem State.bump_settingsStart (s : State) (i j : Nat) : (s.bump i j).settingsStart = s.settingsStart := rfl
@[simp] theorem State.bump_out (s : State) (i j : Nat) : (s.bump i j).out = s.out := rfl
@[simp] theorem State.bump_free (s : State) (i j : Nat) : (s.bump i j).free = s.free := rfl
@[simp] theorem State.bump_pending (s : State) (i j : Nat) : (s.bump i j).pending = s.pending := rfl

/-! ### The remaining objects read back -/

@[simp] theorem State.setScan_scan (s : State) (n k : Nat) (f : Scan → Scan) :
    (s.setScan n f).scans.look k {} = if k = n then f (s.scans.look k {}) else s.scans.look k {} := by
  simp only [State.setScan, Tbl.look_put]; split <;> simp_all
@[simp] theorem State.setBridge_same (s : State) (v b : Nat) (f : Bridge → Bridge) : (s.setBridge v b f).bridge v b = f (s.bridge v b) := by
  simp [State.setBridge, State.bridge]
theorem State.setBridge_other (s : State) (v b w c : Nat) (f : Bridge → Bridge) (h : w * 256 + c ≠ v * 256 + b) :
    (s.setBridge v b f).bridge w c = s.bridge w c := by
  simp [State.setBridge, State.bridge, h]
@[simp] theorem State.setChannel_channel (s : State) (n k : Nat) (f : Channel → Channel) :
    (s.setChannel n f).fab.channels.look k {} = if k = n then f (s.fab.channels.look k {}) else s.fab.channels.look k {} := by
  simp only [State.setChannel, Tbl.look_put]; split <;> simp_all
@[simp] theorem State.raise_source (s : State) (n k : Nat) :
    (s.raise n).source k = if k = n then { s.source k with newEvents := (s.source k).newEvents + 1 } else s.source k := by
  simp only [State.raise, State.source, Tbl.look_put]; split <;> simp_all
@[simp] theorem State.interrupt_look (s : State) (n k : Nat) (d : Bool) :
    (s.interrupt n).irq.pending.look k d = if k = n then true else s.irq.pending.look k d := by
  simp [State.interrupt]
@[simp] theorem State.emit_out (s : State) (o : Out) : (s.emit o).out = o :: s.out := rfl
@[simp] theorem State.answer_out (s : State) (c : Nat) : (s.answer c).out = .status c :: s.out := rfl
@[simp] theorem State.setSup_sup (s : State) (f : Supervisor → Supervisor) : (s.setSup f).sup = f s.sup := rfl
@[simp] theorem State.setStartUnit_start (s : State) (f : StartUnit → StartUnit) : (s.setStartUnit f).start = f s.start := rfl
@[simp] theorem State.setView_views (s : State) (i j v : Nat) : (s.setView i j v).views = s.views.put (key i j) v := rfl
@[simp] theorem State.bump_views (s : State) (i j : Nat) : (s.bump i j).views = s.views.put (key i j) (s.view i j + 1) := rfl
@[simp] theorem State.emitHeld_fresh (s : State) (p : Nat) : (s.fresh p).1 = Config.freeValue p s.free := rfl

end Machine

end Sys2Proof
end

