-- ==== Sys2Proof/Laws/Ops.lean ====
section
/-!
SUPPORT. What the frame of an operation says of a whole component of the state, what a loop over objects keeps and does, and
further laws of tables. The frame lemmas of Sys2Proof/Laws/Frames.lean hold for every list of parts that contains the ones that
an operation changes; but l, the list of every part outside l, makes them say that the parts of l are kept.
-/

namespace Sys2Proof.Machine

set_option linter.all false

/-! ### Frames -/

/-- Every part of the state. -/
def Part.all : List Part :=
  [.beat, .epochs, .inflight, .commit, .tables, .groups, .board, .sup, .start, .lanes, .ports, .scans, .frames, .units, .matcher,
   .paths, .hiers, .bridges, .slots, .tracker, .channels, .pwf, .trunks, .devices, .extents, .poolLines, .poolEvents, .ledger,
   .homeSlots, .departed, .qps, .cqs, .regions, .clusters, .funcs, .vectors, .instances, .cmdOrder, .contained, .masterWait,
   .irqPending, .irqUnit, .sprout, .sources, .safeState, .collector, .pairing, .mirror, .sessions, .segments, .anchors, .settings,
   .settingsNext, .settingsStart, .views, .outputs, .free, .queue]

/-- Every part of the state but those of a list. -/
def but (l : List Part) : List Part := Part.all.filter (fun p => !l.contains p)

theorem OnlyChanges.mono {a b : List Part} {s t : State} (h : OnlyChanges a s t) (w : within a b = true) : OnlyChanges b s t :=
  fun p hp => h p (fun hm => OnlyChanges.mem w hp (by simpa using hm))

theorem OnlyChanges.ep {s t : State} (h : OnlyChanges (but [.beat, .epochs, .inflight, .commit, .tables]) s t) : t.ep = s.ep := by
  have h1 := h .beat (by decide)
  have h2 := h .epochs (by decide)
  have h3 := h .inflight (by decide)
  have h4 := h .commit (by decide)
  have h5 := h .tables (by decide)
  simp only [Part.same] at h1 h2 h3 h4 h5
  cases e : t.ep; cases e' : s.ep; simp_all

theorem OnlyChanges.core {s t : State} (h : OnlyChanges (but [.frames, .units, .matcher, .paths]) s t) : t.core = s.core := by
  have h1 := h .frames (by decide)
  have h2 := h .units (by decide)
  have h3 := h .matcher (by decide)
  have h4 := h .paths (by decide)
  simp only [Part.same] at h1 h2 h3 h4
  cases e : t.core; cases e' : s.core; simp_all

theorem OnlyChanges.fab {s t : State} (h : OnlyChanges (but [.hiers, .bridges, .slots, .tracker, .channels, .pwf]) s t) : t.fab = s.fab := by
  have h1 := h .hiers (by decide)
  have h2 := h .bridges (by decide)
  have h3 := h .slots (by decide)
  have h4 := h .tracker (by decide)
  have h5 := h .channels (by decide)
  have h6 := h .pwf (by decide)
  simp only [Part.same] at h1 h2 h3 h4 h5 h6
  cases e : t.fab; cases e' : s.fab; simp_all

theorem OnlyChanges.home {s t : State} (h : OnlyChanges (but [.ledger, .homeSlots, .departed]) s t) : t.home = s.home := by
  have h1 := h .ledger (by decide)
  have h2 := h .homeSlots (by decide)
  have h3 := h .departed (by decide)
  simp only [Part.same] at h1 h2 h3
  cases e : t.home; cases e' : s.home; simp_all

theorem OnlyChanges.pool {s t : State} (h : OnlyChanges (but [.devices, .extents, .poolLines, .poolEvents]) s t) : t.pool = s.pool := by
  have h1 := h .devices (by decide)
  have h2 := h .extents (by decide)
  have h3 := h .poolLines (by decide)
  have h4 := h .poolEvents (by decide)
  simp only [Part.same] at h1 h2 h3 h4
  cases e : t.pool; cases e' : s.pool; simp_all

theorem OnlyChanges.beryl {s t : State} (h : OnlyChanges (but [.qps, .cqs, .regions, .clusters]) s t) : t.beryl = s.beryl := by
  have h1 := h .qps (by decide)
  have h2 := h .cqs (by decide)
  have h3 := h .regions (by decide)
  have h4 := h .clusters (by decide)
  simp only [Part.same] at h1 h2 h3 h4
  cases e : t.beryl; cases e' : s.beryl; simp_all

/-- Fields of the twin unit outside the mirror queue. -/
theorem pairing_fields {s t : State} (h : Part.pairing.same s t) :
    t.twin.state = s.twin.state ∧ t.twin.fenceAt = s.twin.fenceAt ∧ t.twin.trigger = s.twin.trigger ∧ t.twin.missed = s.twin.missed ∧
    t.twin.moving = s.twin.moving ∧ t.twin.moveSent = s.twin.moveSent ∧ t.twin.homes = s.twin.homes ∧
    t.twin.attachResult = s.twin.attachResult ∧ t.twin.syncGot = s.twin.syncGot ∧ t.twin.served = s.twin.served ∧
    t.twin.restartAt = s.twin.restartAt ∧ t.twin.heartbeat = s.twin.heartbeat := by
  simp only [Part.same] at h
  exact ⟨(congrArg Twin.state h :), (congrArg Twin.fenceAt h :), (congrArg Twin.trigger h :), (congrArg Twin.missed h :),
    (congrArg Twin.moving h :), (congrArg Twin.moveSent h :), (congrArg Twin.homes h :), (congrArg Twin.attachResult h :),
    (congrArg Twin.syncGot h :), (congrArg Twin.served h :), (congrArg Twin.restartAt h :), (congrArg Twin.heartbeat h :)⟩

/-! ### Answers of a command -/

/-- A claim about the next state of an operation follows from one about its frame. -/
theorem next_of_frame {t0 s : State} {ps : List Part} {P : State → Prop} (F : OnlyChanges ps t0 s)
    (h : ∀ t, OnlyChanges ps t0 t → P t) : ∃ t, (Host.Outcome.next s : Res) = .next t ∧ P t := ⟨s, rfl, h s F⟩

theorem next_intro {s : State} {P : State → Prop} (h : P s) : ∃ t, (Host.Outcome.next s : Res) = .next t ∧ P t := ⟨s, rfl, h⟩

theorem dieOn_of_running {s : State} (h : s.running = true) : s.dieOn = true := by
  revert h; simp only [State.running, State.dieOn]; cases s.sup.state <;> simp

theorem running_of_adpOpen {s : State} (h : s.adpOpen = true) : s.running = true := by
  revert h; simp only [State.adpOpen, Bool.and_eq_true]; tauto

/-! ### Tables -/

theorem Tbl.put_put {α : Type} (t : Tbl α) (k : Nat) (v w : α) : (t.put k v).put k w = t.put k w := by
  induction t with
  | nil => simp [Tbl.put]
  | cons e r ih =>
    obtain ⟨j, x⟩ := e
    simp only [Tbl.put]
    split
    · simp [Tbl.put]
    · split
      · simp [Tbl.put]
      · rename_i h1 h2; simp [Tbl.put, h1, h2, ih]

/-- Values written to the first n numbers of a table. -/
theorem look_foldl_put {α : Type} (f : Nat → α) (d : α) (n : Nat) (t : Tbl α) (i : Nat) :
    ((List.range n).foldl (fun t i => t.put i (f i)) t).look i d = if i < n then f i else t.look i d := by
  induction n with
  | zero => simp
  | succ n ih =>
    rw [List.range_succ, List.foldl_append]
    simp only [List.foldl_cons, List.foldl_nil, Tbl.look_put, ih]
    split <;> split <;> simp_all <;> omega

/-- What a change of every row of a table keeps. -/
theorem look_map_proj {α β : Type} (t : Tbl α) (f : Nat × α → α) (p : α → β) (hf : ∀ e, p (f e) = p e.2) (k : Nat) (d : α) :
    p (Tbl.look (t.map (fun e => (e.1, f e))) k d) = p (t.look k d) := by
  induction t with
  | nil => rfl
  | cons e r ih =>
    obtain ⟨j, x⟩ := e
    simp only [List.map_cons, Tbl.look]
    split
    · exact hf _
    · exact ih

/-- What a change of every row of a table makes the same in all of them. -/
theorem look_map_const {α β : Type} (t : Tbl α) (f : Nat × α → α) (p : α → β) (b : β) (d : α) (hd : p d = b) (hf : ∀ e, p (f e) = b)
    (k : Nat) : p (Tbl.look (t.map (fun e => (e.1, f e))) k d) = b := by
  induction t with
  | nil => exact hd
  | cons e r ih =>
    obtain ⟨j, x⟩ := e
    simp only [List.map_cons, Tbl.look]
    split
    · exact hf _
    · exact ih

/-! ### Updates of one object -/

theorem setGroup_setGroup (n : Nat) (f g : GroupSide → GroupSide) (s : State) :
    (s.setGroup n f).setGroup n g = s.setGroup n (fun x => g (f x)) := by
  simp [State.setGroup, State.group, Tbl.put_put]

theorem setGroup_congr {n : Nat} {f g : GroupSide → GroupSide} {s : State} (h : f (s.group n) = g (s.group n)) :
    s.setGroup n f = s.setGroup n g := by
  simp [State.setGroup, h]

theorem setStart_start (c : StartState) (s : State) : (s.setStart c).start = { s.start with state := c } := by
  unfold State.setStart
  have h := State.notify_only 2 0 [c.code] _ (OnlyChanges.refl (but [.start]) ({ s with start := { s.start with state := c } } : State)) rfl
  exact h .start (by decide)

theorem setStart_ep (c : StartState) (s : State) : (s.setStart c).ep = s.ep :=
  OnlyChanges.ep (State.setStart_only _ _ (OnlyChanges.refl _ _) rfl)

theorem takeRecord_eq (old : Collector) (x : State) :
    ∃ c : Collector, State.takeRecord old x = { x with col := c } ∧ c.safe = x.col.safe := by
  unfold State.takeRecord
  split
  · exact ⟨_, rfl, rfl⟩
  · exact ⟨_, rfl, rfl⟩

/-- What an entry into safe state does to the supervisor (R597, R599). -/
theorem enterSafe_sup (c k : Nat) (s : State) :
    (s.enterSafe c k).sup = (if s.col.safe then s.sup else { s.sup with state := .safe, patternFrom := none }) ∧
    (s.enterSafe c k).col.safe = true := by
  unfold State.enterSafe
  split
  · rename_i h; exact ⟨rfl, h⟩
  · refine ⟨?_, rfl⟩
    dsimp only
    have k : ∀ (l : List Frame) (z : State), OnlyChanges (but [.sup]) z (State.each l (fun f s => s.dropFrame f.id) z) := by
      intro l z; exact State.each_only _ _ _ (OnlyChanges.refl _ _) (fun x s1 h => State.dropFrame_only _ _ h rfl)
    rw [show ∀ z : State, (State.each (z.core.frames.filter (fun f => decide (f.formed < f.cells))) (fun f s => s.dropFrame f.id) z).sup = z.sup
      from fun z => k _ z .sup (by decide)]
    have e : s.failedStart.sup = s.sup := State.failedStart_only s (OnlyChanges.refl (but [.sup]) s) rfl .sup (by decide)
    split
    · rw [e]
    · rfl

/-! ### Loops -/

/-- A relation that every turn of a loop keeps, the whole loop keeps. -/
theorem each_inv {α : Type} (P : State → State → Prop) (hr : ∀ x, P x x) (ht : ∀ x y z, P x y → P y z → P x z) {l : List α}
    {f : α → State → State} {s : State} (hf : ∀ x, x ∈ l → ∀ z, P z (f x z)) : P s (State.each l f s) := by
  unfold State.each
  induction l generalizing s with
  | nil => exact hr _
  | cons a l ih => exact ht _ _ _ (hf a (by simp) s) (ih (fun x hx z => hf x (by simp [hx]) z))

/-- A loop whose every turn changes nothing but the lanes changes nothing but the lanes. -/
theorem each_lanes_eq {α : Type} (F : α → State → State) (hF : ∀ x z, ∃ t, F x z = { z with lanes := t }) (ls : List α) (y : State) :
    ∃ t, State.each ls F y = { y with lanes := t } := by
  induction ls generalizing y with
  | nil => exact ⟨y.lanes, rfl⟩
  | cons a ls ih =>
    obtain ⟨t1, h1⟩ := hF a y
    obtain ⟨t2, h2⟩ := ih (F a y)
    exact ⟨t2, by rw [State.each_cons, h2, h1]⟩

/-- A loop over lanes changes nothing but the lanes. -/
theorem each_setLane_eq (f : Nat → Lane → Lane) (ls : List Nat) (y : State) :
    ∃ t, State.each ls (fun l s => s.setLane l (f l)) y = { y with lanes := t } := by
  induction ls generalizing y with
  | nil => exact ⟨y.lanes, rfl⟩
  | cons a ls ih => obtain ⟨t, h⟩ := ih (y.setLane a (f a)); exact ⟨t, by rw [State.each_cons, h]; rfl⟩

/-- A lane that a loop over lanes does not name keeps its state. -/
theorem each_setLane_other (f : Nat → Lane → Lane) (ls : List Nat) (y : State) (l : Nat) (h : l ∉ ls) :
    (State.each ls (fun l s => s.setLane l (f l)) y).lane l = y.lane l := by
  induction ls generalizing y with
  | nil => rfl
  | cons a ls ih => simp at h; rw [State.each_cons, ih _ h.2]; simp [h.1]

/-- What every turn of a loop over lanes makes true of its lane, holds of each lane that the loop names. -/
theorem each_setLane_mem (f : Nat → Lane → Lane) (P : Lane → Prop) (hf : ∀ l x, P (f l x)) (ls : List Nat) (y : State) (l : Nat)
    (h : l ∈ ls) : P ((State.each ls (fun l s => s.setLane l (f l)) y).lane l) := by
  induction ls generalizing y with
  | nil => simp at h
  | cons a ls ih =>
    rw [State.each_cons]
    by_cases m : l ∈ ls
    · exact ih _ m
    · have e : l = a := by simpa [m] using h
      rw [each_setLane_other f ls _ l m, e]; simp [hf]

/-- What no turn of a loop over lanes changes in a lane, the loop keeps. -/
theorem each_setLane_keeps {β : Type} (f : Nat → Lane → Lane) (p : Lane → β) (hf : ∀ l x, p (f l x) = p x) (ls : List Nat) (y : State)
    (l : Nat) : p ((State.each ls (fun l s => s.setLane l (f l)) y).lane l) = p (y.lane l) := by
  induction ls generalizing y with
  | nil => rfl
  | cons a ls ih => rw [State.each_cons, ih]; simp only [State.setLane_lane]; split <;> simp [hf]

/-- Ending sessions one after another leaves those of other numbers. -/
theorem each_endSession (l : List Session) (s : State) :
    ∀ x ∈ (s.each l (fun x s => s.endSession x.number)).adp.sessions, x ∈ s.adp.sessions ∧ ∀ y ∈ l, x.number ≠ y.number := by
  unfold State.each
  induction l generalizing s with
  | nil => intro x hx; exact ⟨hx, by simp⟩
  | cons a l ih =>
    intro x hx
    obtain ⟨h1, h2⟩ := ih _ x hx
    simp only [State.endSession, List.mem_filter, decide_eq_true_iff] at h1
    exact ⟨h1.1, fun y hy => by rcases List.mem_cons.1 hy with rfl | hy; exact h1.2; exact h2 y hy⟩

end Sys2Proof.Machine
end

