-- ==== Sys2Proof/Tests/Slice0.lean ====
section
/-!
SUPPORT. Tests of the model: a check refuses an ill-formed term of each kind, small steps on small states, and, for the
statements of the certificates, states and operands that meet every hypothesis of every clause.
-/

namespace Sys2Proof.Tests

set_option Elab.async false

open Sys2Proof.Machine

/-- A running module whose ADP requests are performed. -/
def demo : State :=
  { State.reset with
    sup := { State.reset.sup with state := .active, gate := .on }
    adp := { State.reset.adp with upA := true } }

/-- The running module with given live tables. -/
def withLive (t : Tbl Nat) : State := { demo with ep := { demo.ep with live := t } }

/-- Live tables in which port 0 is the enabled host port of hierarchy 0. -/
def hostT : Tbl Nat := [(key 0x3000 0x90, 1), (key 0x3400 1, 1), (key 0x3400 6, 0)]

/-- Live tables in which port 0 is an enabled downstream port. -/
def downT : Tbl Nat := [(key 0x3000 0x90, 2), (key 0x3400 1, 1)]

/-- Live tables in which port 0 is an enabled trunk port. -/
def trunkT : Tbl Nat := [(key 0x3000 0x90, 3), (key 0x3400 1, 1)]

/-- Live tables in which port 0 is the host port of hierarchy 0, and bridge 0 of that hierarchy binds the whole port 4. -/
def boundT : Tbl Nat :=
  [(key 0x3000 0x90, 1), (key 0x3001 0x90, 2), (key 0x3400 1, 1), (key 0x3400 6, 0), (key 0x3404 1, 1),
   (key 0x4100 0, 0x10400000)]

/-- `boundT` with a second device behind bridge 1, and P2P Completion Redirect on at port 4. -/
def redirT : Tbl Nat :=
  boundT ++ [(key 0x3002 0x90, 2), (key 0x3404 0x23, 1), (key 0x3408 1, 1), (key 0x4100 1, 0x10800000)]

/-- A state on which a start waits for a phase. -/
def starting (p : StartPhase) : State :=
  { demo with sup := { demo.sup with state := .starting }, start := { demo.start with phase := p } }

/-- A module whose commit is due, with nothing staged. -/
def commitReady : State := { demo with ep := { commit := .pending } }

/-- No port has a domain other than 0 in empty tables. -/
theorem test_unset_port_domain : ∀ p ∈ List.range 160, commitReady.portIn [] p 0x30 = 0 := by decide +kernel

/-- No logical device has a domain other than 0 in empty tables. -/
theorem test_unset_slice_domains : ∀ p ∈ List.range 160, commitReady.portIn [] p 0x31 = 0 := by decide +kernel

/-- No port has a role in empty tables. -/
theorem test_unset_port_role : ∀ p ∈ List.range 160, commitReady.portRoleIn [] p = 0 := by decide +kernel

/-- No region is valid in empty tables. -/
theorem test_unset_region : ∀ r ∈ List.range 256, (commitReady.rgnIn [] r).valid = false := by decide +kernel

/-- The buffer checks of an empty shadow pass. -/
theorem test_empty_buffer_check : commitReady.bufferCheck [] = 0 := by decide +kernel

/-- The tracker checks of an empty shadow pass. -/
theorem test_empty_tracker_check : commitReady.trackerCheck [] = 0 := by decide +kernel

/-- The checks of instances and domains pass on tables that name none and assign nothing. -/
theorem tenantCheck_of_empty (s : State) (t : Tbl Nat) (hi : instNumbers t = []) (hd : domainNumbers t = []) (he : endpoints t = [])
    (hc : claimed t = []) (hl : s.ep.live = t) (h30 : ∀ p ∈ List.range 160, s.portIn t p 0x30 = 0)
    (h31 : ∀ p ∈ List.range 160, s.portIn t p 0x31 = 0) (hr : ∀ p ∈ List.range 160, s.portRoleIn t p = 0)
    (hg : ∀ r ∈ List.range 256, (s.rgnIn t r).valid = false) (hv : s.inTables t 0x7000 4 = 0) (hp : s.inTables t 0x7000 5 = 0xFF)
    (hk : s.inTables t 0x7000 3 = 0) : s.tenantCheck t = 0 := by
  have hs : ∀ p ∈ List.range 160, (List.range 16).map (s.sliceDomainIn t p) = List.replicate 16 0 := by
    intro p hp
    have h : s.sliceDomainIn t p = fun ld => bits 0 (12 * ld + 11) (12 * ld) :=
      funext fun ld => by rw [State.sliceDomainIn, h31 p hp]
    rw [h]; decide
  have e1 : (List.range 160).map (fun p => (s.portIn t p 0x30 ::
      (List.range 16).map (s.sliceDomainIn t p)).filter (fun d => !s.domainValidIn t d)) =
      (List.range 160).map (fun _ => []) := List.map_congr_left fun p hp => by
    rw [hs p hp, h30 p hp]
    simp [State.domainValidIn, List.replicate]
  have e2 : (List.range 256).filter (fun r => (s.rgnIn t r).valid) = [] := by
    rw [List.filter_eq_nil_iff]; intro r hr; simp [hg r hr]
  have e3 : (List.range 160).map (fun p => if s.portRoleIn t p = 3 then
      (s.portIn t p 0x30 :: (List.range 16).map (s.sliceDomainIn t p)).filter (· ≠ 0) else []) =
      (List.range 160).map (fun _ => []) := List.map_congr_left fun p hp => by
    rw [hr p hp]; rfl
  unfold State.tenantCheck
  dsimp only
  rw [e1, e2, e3]
  simp [hi, hd, he, hc, hl, hv, hp, hk, List.eraseDups, List.eraseDupsBy,
    List.eraseDupsBy.loop, firstFail]

/-- They pass on an empty shadow. -/
theorem test_empty_tenant_check : commitReady.tenantCheck [] = 0 :=
  tenantCheck_of_empty _ _ rfl rfl rfl rfl rfl test_unset_port_domain test_unset_slice_domains test_unset_port_role test_unset_region
    (by decide +kernel) (by decide +kernel) (by decide +kernel)

/-- The checks of every group pass on an empty shadow. -/
theorem test_empty_group_checks : (List.range 40).all (fun n => commitReady.groupCheck [] n == 0) = true := by decide +kernel

/-- The remaining checks pass on an empty shadow. -/
theorem test_empty_other_checks : commitReady.bindCheck [] = 0 ∧ commitReady.windowCheck [] = 0 ∧ commitReady.trunkCheck [] = 0 ∧
    commitReady.poolCheckIn [] = 0 := by decide +kernel

/-- The checks of an empty shadow all pass on that module. -/
theorem test_empty_shadow_passes : ∀ c ∈ commitReady.checkEntries [], c.2 = 0 := by
  intro c hc
  have h := (List.of_mem_zip hc).2
  rw [List.mem_append] at h
  obtain ⟨h4, h5, h6, h7⟩ := test_empty_other_checks
  rcases h with h | h
  · obtain ⟨n, hn, he⟩ := List.mem_map.mp h
    exact he ▸ eq_of_beq (List.all_eq_true.mp test_empty_group_checks n hn)
  · simpa [test_empty_buffer_check, test_empty_tracker_check, test_empty_tenant_check, h4, h5, h6, h7] using h

/-- The running module with given live tables and a given port 0. -/
def withPort (t : Tbl Nat) (q : Port) : State := { withLive t with ports := [(0, q)] }

/-- The running module with given live tables, a given port 0 and a given lane 0. -/
def withLane (t : Tbl Nat) (q : Port) (l : Lane) : State := { withPort t q with lanes := [(0, l)] }

/-- Live tables in which hierarchy 0 on port 0 has dynamic private endpoint 0 on bridge 0, with extent 0 of 256 MiB on pool
device 0. -/
def poolT : Tbl Nat :=
  [(key 0x3000 0x90, 1), (key 0x3400 1, 1), (key 0x3400 6, 0), (key 0x4100 0, 0x30000000),
   (key 0x5040 0, 2 ^ 62 + 2 ^ 61 + 2 ^ 39), (key 0x5080 0, 2 ^ 254 + 2 ^ 247 + 2 ^ 177)]

/-- Live tables in which hierarchy 0 on port 0 has an endpoint of coherent region 0, of 256 MiB, on bridge 0. -/
def regionT : Tbl Nat :=
  [(key 0x3000 0x90, 1), (key 0x3400 1, 1), (key 0x3400 6, 0), (key 0x4100 0, 0x30000000), (key 0x5030 0, 2 ^ 63 + 2 ^ 43),
   (key 0x5040 0, 2 ^ 63 + 2 ^ 39)]

/-- Live tables in which hierarchy 0 on port 0 has instance 0 in slot 0, with two of each object from number 0 on. -/
def instT : Tbl Nat :=
  [(key 0x3000 0x90, 1), (key 0x3400 1, 1), (key 0x3400 6, 0),
   (key 0x6080 0, 2 ^ 255 + 2 ^ 195 + 2 ^ 166 + 2 ^ 125 + 2 ^ 98)]

/-- A module with instance 0 in a given state and given objects of the Beryl engine. -/
def tenant (state : Nat) (b : Beryl) : State :=
  { withLive instT with host := { instances := [(0, { state := state })], funcs := [(0, { busMaster := true, pasidEn := true })] }, beryl := b }

/-- The running module with one ADP session. -/
def withSession (x : Session) : State := { demo with adp := { upA := true, sessions := [x] } }

/-- A module of a pair whose Garnet link is up. -/
def paired (p : PairState) : State :=
  { demo with ports := [(160, { stage := 5 })], trunks := [(160, { receiver := .inSync })], twin := { state := p } }

/-- A module in safe state. -/
def safeDemo : State := { demo with sup := { demo.sup with state := .safe }, col := { safe := true } }

/-! ### Wire flits -/

/-- A fold that evaluates its value at each element. -/
def forced (f : Nat → Nat → Nat) : List Nat → Nat → Nat
  | [], a => a
  | c :: l, a => if a = 0 then forced f l (f a c) else forced f l (f a c)

/-- The two folds agree. -/
theorem forced_eq (f : Nat → Nat → Nat) (l : List Nat) (a : Nat) : l.foldl f a = forced f l a := by
  induction l generalizing a with
  | nil => rfl
  | cons c l ih => simp [forced, ih]

/-- The syndrome at α^i, so evaluated. -/
def syndromeOf (l : List Nat) (i : Nat) : Nat := forced (fun r c => Nat.xor c (gfMul r (gfPow i))) l 0

/-- The syndromes of a word, evaluated symbol by symbol. -/
theorem rsSyndromes_forced (l : List Nat) : rsSyndromes l = (List.range 8).map (syndromeOf l) := by
  simp [rsSyndromes, polyAt, syndromeOf, ← forced_eq]

/-- A word without syndromes decodes to its message. -/
theorem rsDecode_of_code (cw : List Nat) (h : (List.range 8).map (syndromeOf cw) = List.replicate 8 0) :
    rsDecode cw = some ([], cw.take 128) := by
  simp only [rsDecode, rsSyndromes_forced, h]; rfl

/-- A word whose locator has more than four errors is uncorrectable. -/
theorem rsDecode_of_far (cw : List Nat) (syn : List Nat) (h : (List.range 8).map (syndromeOf cw) = syn) (n : syn.all (· == 0) = false)
    (k : 4 < ((List.range 8).foldl (Locator.step syn) {}).l) : rsDecode cw = none := by
  simp only [rsDecode, rsSyndromes_forced, h, n, Nat.not_le.2 k]; simp

/-- A wire flit of width code 0 with given bytes at given places and zeros elsewhere. -/
def wireWith (l : List (Nat × Nat)) : Wire := Vector.ofFn (fun i => BitVec.ofNat 8 (((l.find? (fun e => e.1 == i.val)).getD (0, 0)).2))

/-- The symbols of a codeword in it. -/
def codeword (w : Wire) (b : Bool) : List Nat := (codewordPlaces 0 b).map (fun i => (w.toList.map BitVec.toNat).getD i 0)

/-- A wire flit with an uncorrectable codeword: one whose first seven syndromes are zero and whose eighth is not. -/
def farWire : Wire := wireWith [(256, 1), (258, 127), (260, 122), (262, 154), (264, 164), (266, 11), (268, 68), (270, 117)]

/-- A wire flit whose bytes are all zero: its codewords are good, and the check of its control word is not. -/
def zeroWire : Wire := wireWith []

/-- A wire flit whose control word has every field zero and its CRC-16, 0xA96A, in its last two bytes. -/
def goodWire : Wire :=
  wireWith [(14, 169), (15, 106), (256, 247), (257, 158), (258, 207), (259, 170), (260, 153), (261, 61), (262, 250), (263, 164),
    (264, 251), (265, 66), (266, 146), (267, 105), (268, 248), (269, 117), (270, 99), (271, 153)]

/-- Two good codewords give the link flit. -/
theorem readWire_of (w : Wire) (a b : List Nat) (ha : rsDecode (codeword w false) = some ([], a))
    (hb : rsDecode (codeword w true) = some ([], b)) : readWire 0 (w.toList.map BitVec.toNat) = ([], some (interleave a b)) := by
  unfold codeword at ha hb
  simp only [readWire, ha, hb]; rfl

/-- An uncorrectable codeword gives none. -/
theorem readWire_far (w : Wire) (b : List Nat) (ha : rsDecode (codeword w false) = none)
    (hb : rsDecode (codeword w true) = some ([], b)) : readWire 0 (w.toList.map BitVec.toNat) = ([], none) := by
  unfold codeword at ha hb
  simp only [readWire, ha, hb]; rfl

/-- Its codeword of even bytes is uncorrectable. -/
theorem test_far_wire_even : rsDecode (codeword farWire false) = none :=
  rsDecode_of_far _ [0, 0, 0, 0, 0, 0, 0, 226] (by decide +kernel) (by decide) (by decide +kernel)

/-- Its codeword of odd bytes is good. -/
theorem test_far_wire_odd : (List.range 8).map (syndromeOf (codeword farWire true)) = List.replicate 8 0 := by decide +kernel

/-- The even bytes of zeros are a codeword. -/
theorem test_zero_wire_even : (List.range 8).map (syndromeOf (codeword zeroWire false)) = List.replicate 8 0 := by decide +kernel

/-- The odd bytes of zeros are a codeword. -/
theorem test_zero_wire_odd : (List.range 8).map (syndromeOf (codeword zeroWire true)) = List.replicate 8 0 := by decide +kernel

/-- The even bytes of the good flit are a codeword. -/
theorem test_good_wire_even : (List.range 8).map (syndromeOf (codeword goodWire false)) = List.replicate 8 0 := by decide +kernel

/-- The odd bytes of the good flit are a codeword. -/
theorem test_good_wire_odd : (List.range 8).map (syndromeOf (codeword goodWire true)) = List.replicate 8 0 := by decide +kernel

/-- The bytes of the link flit in a wire flit whose codewords are good. -/
def bytesIn (w : Wire) : List Nat := interleave ((codeword w false).take 128) ((codeword w true).take 128)

/-- The first of these wire flits is uncorrectable. -/
theorem test_far_wire : readWire 0 (farWire.toList.map BitVec.toNat) = ([], none) :=
  readWire_far _ _ test_far_wire_even (rsDecode_of_code _ test_far_wire_odd)

/-- The second is read as its bytes. -/
theorem test_zero_wire : readWire 0 (zeroWire.toList.map BitVec.toNat) = ([], some (bytesIn zeroWire)) :=
  readWire_of _ _ _ (rsDecode_of_code _ test_zero_wire_even) (rsDecode_of_code _ test_zero_wire_odd)

/-- So is the third. -/
theorem test_good_wire : readWire 0 (goodWire.toList.map BitVec.toNat) = ([], some (bytesIn goodWire)) :=
  readWire_of _ _ _ (rsDecode_of_code _ test_good_wire_even) (rsDecode_of_code _ test_good_wire_odd)

/-- The control word of the second fails its check. -/
theorem test_zero_wire_check : (readControl (numberOf ((bytesIn zeroWire).take 16))).crcOk = false := by decide +kernel

/-- That of the third passes it. -/
theorem test_good_wire_check : (readControl (numberOf ((bytesIn goodWire).take 16))).crcOk = true := by decide +kernel

/-- No head cell is taken where the answer is another. -/
theorem not_taken (r : Entry07) (h : (match r with | .taken _ => false | _ => true) = true) : ∀ id, r ≠ .taken id := by
  rintro id rfl; cases h

/-- Bus 2 lies behind bridge 0 of hierarchy 0, which binds the whole port 4. -/
def behindBridge : State :=
  { withLive boundT with
    fab := { hiers := [(0, { up := { secondary := 1, subordinate := 5 } })], bridges := [(0, { secondary := 2, subordinate := 2 })] } }

/-- The same with port 0 out of both its share of the buffer and its reservation. -/
def fullPort : State :=
  { behindBridge with
    core := { frames := [{ id := 1, cls := 1, cells := 10000000, charge := .shared },
      { id := 2, cls := 1, cells := 10000000, charge := .reservation }] } }

/-- Trunk port 0 in sync, its link in stage 5. -/
def inSync : State := { withPort trunkT { stage := 5 } with trunks := [(0, { receiver := .inSync })] }

/-- The Garnet port in sync, its link in stage 5. -/
def inSyncGarnet : State := { demo with ports := [(160, { stage := 5 })], trunks := [(160, { receiver := .inSync })] }

/-- The header and the check word of a Garnet frame: its kind, its sequence number, its code and its body. -/
def headFor (kind seq code : Nat) (body : List Nat) : GarnetHead :=
  { header := BitVec.ofNat 64 (garnetHeader kind seq body.length code), check := BitVec.ofNat 64 (garnetCheck body) }

/-- A module of a pair that expects the Garnet frame after a given number of frames. -/
def behindBy (n : Nat) : State := { demo with ports := [(160, { stage := 5 })], trunks := [(160, { receiver := .inSync, es := n })] }

/-! ### Ill-formed terms -/

/-- A TLP of more than 4,096 bytes is refused, and one of 4,096 is not. -/
theorem test_tlp_wf : Tlp.wf { len := 4097 } = false ∧ Tlp.wf { len := 4096 } = true := by decide +kernel

/-- A Beryl frame whose operation code needs more than 8 bits is refused. -/
theorem test_beryl_frame_wf : BFrame.wf { op := 256 } = false ∧ BFrame.wf { op := 1 } = true := by decide +kernel

/-- A work request that names queue pair 131,072 is refused. -/
theorem test_wr_wf : Wr.wf { execQp := 131072 } = false ∧ Wr.wf { execQp := 131071 } = true := by decide +kernel

/-- A frame without bytes is refused, and so is a bulk frame of more than 17 cells. -/
theorem test_head_wf : Head.wf { size := 0 } = false ∧ Head.wf { kind := 1, size := 4353 } = false ∧
    Head.wf { kind := 1, size := 4352 } = true := by decide +kernel

/-- An item whose value does not fit its length is refused. -/
theorem test_item_wf : AdpItem.wf { len := 1, value := 256 } = false ∧ AdpItem.wf { len := 1, value := 255 } = true := by
  decide +kernel

/-- A mirror record of no kind of R619 is refused. -/
theorem test_record_wf : recordWf { kind := 0 } = false ∧ recordWf { kind := 3, fields := [0, 0, 0] } = true := by decide +kernel

/-- A command with an ill-formed operand changes nothing. -/
theorem test_ill_formed_is_ignored : exec (.frameHeadCell 0 { size := 0 }) demo = .next demo := rfl

/-! ### Small steps, with the numbers of the spec's examples and tables -/

/-- The next state of a command, or the state itself where there is none. -/
def next (c : Instr) (s : State) : State :=
  match exec c s with
  | .next t => t
  | _ => s

/-- The example of chapter 01: accepted in beat 1,000 at cycle 100, due in beat 1,001; in beat 1,001 at cycle 240, due in 1,003. -/
theorem test_commit_due :
    (next (.commitRequest 1 100) { demo with ep := { beat := 1000 } }).ep.due = 1001 ∧
    (next (.commitRequest 1 240) { demo with ep := { beat := 1001 } }).ep.due = 1003 := by decide +kernel

/-- The queue is served first in, first out, and an empty queue idles. -/
theorem test_queue : (match step { demo with pending := [.segmentUp true, .wakeAlarm] } with | .next t => t.pending | _ => []) =
    [.wakeAlarm] := by decide +kernel

/-- The example of chapter 02: at 101 degrees the level steps from 100 to 75, at 98 it stays at 50, at 94 it steps to 75. -/
theorem test_throttle :
    (next .throttleEvaluation { demo with board := { temps := [(0, 1010)] } }).board.throttle = 75 ∧
    (next .throttleEvaluation { demo with board := { temps := [(0, 980)], throttle := 50 } }).board.throttle = 50 ∧
    (next .throttleEvaluation { demo with board := { temps := [(0, 940)], throttle := 50 } }).board.throttle = 75 := by
  decide +kernel

/-- The example of chapter 06: G06 with layout code 2 and G12 with layout code 5. -/
theorem test_port_lanes : ([24, 26, 27, 48].map (demo.portLanes [(key 0x3006 0x91, 2), (key 0x300C 0x91, 5)])) =
      [(48, 4), (52, 2), (54, 2), (96, 16)] ∧
    ([25, 49, 55].map (demo.portNamed [(key 0x3006 0x91, 2), (key 0x300C 0x91, 5)])) = [false, false, false] := by decide +kernel

/-- The trunk presets 0, 5 and 7 of R143. -/
theorem test_presets : [0, 5, 7].map presetOf = [some (0, 0, 0, 64), some (-2, -8, -4, 50), some (-4, -12, -12, 36)] := by
  decide +kernel

/-- The example of chapter 05: 81 points, and the ninth visited reads 0xF040_8000_0000_0503 with 1,283 errors. -/
theorem test_scan_point :
    let f := fun n => ([0, 0x20, 2, 2, 16, 4, 64, 16, 24] : List Nat).getD n 0
    scanPoints f = 81 ∧ scanRecord f 8 1283 = 0xF040800000000503 := by decide +kernel

/-- The example of chapter 09: the far request of window 17 under route entry 40. -/
theorem test_window_address :
    let w : Win := { winFields 0 with kind := 0, nearVh := 3, pages := 0x4000, nearBase := 0x1000000000, farBase := 0x8000000000 }
    let x := demo.throughWindow [] w 0x201000000000 (2 ^ 63 + 88 * 2 ^ 24 + 2 ^ 23 + 0x123) { addr := 0x201000012040, len := 512 }
    x.addr = 0x8000012040 ∧ x.pasid = some 0x123 := by decide +kernel

/-- The example of chapter 11: extent 12 of endpoint 5, with members 3, 7, 9 and 12. -/
theorem test_extent_decode :
    let e := extFields (2 ^ 254 + 4 * 2 ^ 247 + 2 * 2 ^ 244 + 5 * 2 ^ 232 + 16 * 2 ^ 214 + 8 * 2 ^ 196 + 4 * 2 ^ 177 + 0x0C090703)
    e.decode 0x100002C40 = (12, 0x80000840) ∧ e.decode 0x100003000 = (3, 0x80000C00) := by decide +kernel

/-- The example of R447: index 66, last issued with generation 6, returns key 0x0004_2007. -/
theorem test_region_key :
    let s : State := { withLive [(key 0x6080 0, 2 ^ 255 + 128 * 2 ^ 124)] with
      host := { instances := [(0, { state := 2 })] }, beryl := { regions := [(66, { generation := 6 })] } }
    ((next (.registerRegion 0 0 0 0 [66, 0, 4096]) s).slotOf 0 0).value = 0x42007 := by decide +kernel

/-- The example of chapter 13: the rate falls from 20,480 to 15,360, stays after 4 beats, and falls to 11,520 and 8,640. -/
theorem test_rate_after_marks :
    let s (rate last beat : Nat) : State :=
      { demo with
        beryl := { qps := [(0, { rate := rate, cap := 20480, decreased := decide (last ≠ 0), lastDecrease := last })] }
        ep := { beat := beat } }
    [(20480, 0, 100), (15360, 100, 104), (15360, 100, 110), (11520, 110, 200)].map
      (fun x => (((s x.1 x.2.1 x.2.2).echoedMark 0).qp 0).rate) = [15360, 15360, 11520, 8640] := by decide +kernel

/-- The example of chapter 15: with mod_timer 256 and mod_count 8 an event starts the timer, and the host being idle sends at once. -/
theorem test_moderation :
    let v : Vector := { masked := false, modTimer := 256, modCount := 8 }
    let s : State := { withLive hostT with host := { funcs := [(0, { busMaster := true, msixEn := true })], fnVectors := [(1, v)] } }
    ((s.vecEvent false 1).vec false 1).timer = 256 ∧ (s.vecEvent false 1).out = [] ∧
    ((State.vecEvent false 1 { s with ports := [(0, { power := .l1 })] }).vec false 1).pending = false := by decide +kernel

/-- The example of chapter 17: with N = 3 the third event of the window is severe. -/
theorem test_severe :
    let e : Source := { n := 3, w := 7813, severeR := 2, count := 2, windowStart := 8900, newEvents := 1 }
    (e.classify 9301).severe = true ∧ ({ e with count := 1 }.classify 9101).severe = false ∧
    ({ e with windowStart := 1000 }.classify 8813).count = 1 := by decide +kernel

/-- The example of chapter 19: the link-local address of a module in slot 5. -/
theorem test_link_local :
    ({ demo with board := { slotId := 5 } } : State).readEntry 1 ⟨0x1100, 1, 0x5, 1, 1, .ipv6, 128, 1, .report, 0, 0, 2 ^ 128 - 1⟩ 0x1100 5 % 2 ^ 128 =
      0xFE80000000000000080000FFFE000500 := by decide +kernel

/-- The example of chapter 20: buffer bank 5 retired, and the header of the answered item. -/
theorem test_retired_bank_reads :
    let s : State := { demo with core := { bankState := [(5, 2)] } }
    s.report 0x1010 4 = 258048 ∧ s.report 0x4000 7 = 0xFFFFFFFFFFFFFFDF ∧
    itemHeader { index := 0x1010, sub := 4 } 0 3 4 = 0x1010040003000004 := by decide +kernel

/-- R645 and R649: a HELLO of another version opens no session, and neither does one that asks for level 4. -/
theorem test_hello :
    (next (.hello .segmentA 2 1 100) demo).adp.sessions = [] ∧ (next (.hello .segmentA 1 4 100) demo).adp.sessions = [] := by
  decide +kernel

/-- R566: the highest-numbered pending and enabled source is claimed. -/
theorem test_claim :
    (next (.claim 1) { demo with irq := { pending := [(12, true), (300, true)], enable := [(524, true), (812, true)] } }).out =
      [.value 300] := by decide +kernel

/-- R78 and R82: the gate turns on only while the module is fed, and is fully on after its ramp. -/
theorem test_gate :
    (next .gateTurnOn { State.reset with sup := { feedA := { present := true, conducting := true } } }).sup.gate = .ramping ∧
    (next .gateTurnOn State.reset).sup.gate = .off := by decide +kernel

/-- R316: a ring sets the channel's status bits, and the peer's clear takes them away. -/
theorem test_doorbell :
    let s := withLive [(key 0x42C0 0, 2 ^ 63)]
    let t := next (.doorbellRing 0 0 5) s
    (t.fab.channels.look 0 {}).status = 5 ∧ ((next (.doorbellStatusClear 0 0 4) t).fab.channels.look 0 {}).status = 1 := by
  decide +kernel

/-- R27: the last frame of a superseded epoch releases it. -/
theorem test_epoch_release :
    (next (.epochRelease 1) { demo with ep := { epoch := 6, superseded := [{ count := 5 }], inflight := [(1, 1)] } }).ep.superseded.length = 1 ∧
    (next (.epochRelease 1) { demo with ep := { epoch := 6, superseded := [{ count := 5 }] } }).ep.superseded = [] := by
  decide +kernel

/-- The table of R139: the pairs of bits, their Gray symbols, and the amplitudes. -/
theorem test_gray : graySymbols [false, false, false, true, true, true, true, false] = [0, 1, 2, 3] ∧
    ([0, 1, 2, 3].map amplitude) = [-3, -1, 1, 3] := by decide +kernel

/-! ### Witnesses of the hypotheses -/

/-- Witnesses: every hypothesis of CommitRequestAndDiscard is met by a state and operands. -/
theorem test_CommitRequestAndDiscard_hypotheses :
    (∃ (token : BitVec 32) (s : State), s.adpOpen = true ∧ token ≠ 0#32 ∧ s.ep.commit ≠ .pending ∧ s.ep.commit ≠ .deferred) ∧
      (∃ (token : BitVec 32) (s : State), s.adpOpen = true ∧ (s.ep.commit = .pending ∨ s.ep.commit = .deferred ∨ token = 0#32)) ∧
      (∃ (token : BitVec 32) (s : State), s.adpOpen = true ∧ (s.ep.commit = .pending ∨ s.ep.commit = .deferred ∨ token = 0#32)) ∧
      (∃ (token : BitVec 32) (s : State), s.adpOpen = true ∧ (s.ep.commit = .pending ∨ s.ep.commit = .deferred ∨ token = 0#32)) ∧
      (∃ (s : State), s.adpOpen = true ∧ (s.ep.commit = .idle ∨ s.ep.commit = .rejected)) ∧
      (∃ (s : State), s.adpOpen = true ∧ (s.ep.commit = .pending ∨ s.ep.commit = .deferred)) ∧
      (∃ (s : State), s.adpUp = true) :=
  ⟨⟨1, demo, by decide +kernel⟩,
      ⟨0, { demo with ep := { commit := .pending } }, by decide +kernel⟩,
      ⟨1, { demo with ep := { commit := .deferred } }, by decide +kernel⟩,
      ⟨0, demo, by decide +kernel⟩,
      ⟨demo, by decide +kernel⟩,
      ⟨{ demo with ep := { commit := .deferred } }, by decide +kernel⟩,
      ⟨demo, by decide +kernel⟩⟩

/-- Witnesses: every hypothesis of CommitTakesEffect is met by a state and operands. -/
theorem test_CommitTakesEffect_hypotheses :
    (∃ (s : State), s.running = true ∧ (s.ep.commit = .pending ∧ s.ep.due ≤ s.ep.beat ∨ s.ep.commit = .deferred) ∧ s.ep.superseded.length < 2 ∧ s.commitWaits = false ∧ s.stagedCount ≤ 16384 ∧ ((∀ c ∈ s.checkEntries s.ep.shadow, c.2 = 0))) ∧
      (∃ (s : State), s.running = true ∧ (s.ep.commit = .pending ∧ s.ep.due ≤ s.ep.beat ∨ s.ep.commit = .deferred) ∧ s.ep.superseded.length < 2 ∧ s.commitWaits = false ∧ (16384 < s.stagedCount ∨ (∃ c ∈ s.checkEntries s.ep.shadow, c.2 ≠ 0))) ∧
      (∃ (s : State), s.running = true ∧ s.ep.commit = .pending ∧ s.ep.due ≤ s.ep.beat ∧ 2 ≤ s.ep.superseded.length) :=
  ⟨⟨commitReady, by refine ⟨?_, ?_, ?_, ?_, ?_, test_empty_shadow_passes⟩ <;> decide +kernel⟩,
      ⟨{ demo with ep := { commit := .pending, shadow := [(key 0x3001 0x91, 5)] } }, by decide +kernel⟩,
      ⟨{ demo with ep := { commit := .pending, superseded := [{}, {}] } }, by decide +kernel⟩⟩

/-- Witnesses: every hypothesis of DrainOfEpochs is met by a state and operands. -/
theorem test_DrainOfEpochs_hypotheses :
    (∃ (tag : Fin 4) (s : State), s.running = true ∧ s.inFlight tag.val = 0) ∧
      (∃ (s : State), s.running = true) :=
  ⟨⟨3, demo, by decide +kernel⟩,
      ⟨demo, by decide +kernel⟩⟩

/-- Witnesses: every hypothesis of SidebandLevelIsAccepted is met by a state and operands. -/
theorem test_SidebandLevelIsAccepted_hypotheses :
    (∃ (n : Fin 40) (high : Bool) (s : State), s.dieOn = true ∧ s.roleIn s.ep.live n = 1 ∧ s.ruling s.ep.live n = n ∧ (s.group n).perst ≠ high) ∧
      (∃ (n : Fin 40) (high : Bool) (s : State), s.dieOn = true ∧ (s.group n).prsnt ≠ high) ∧
      (∃ (n : Fin 40) (high : Bool) (v : Nat) (b : Nat) (s : State), s.dieOn = true ∧ s.roleIn s.ep.live n = 2 ∧ (s.group n).wake ≠ high ∧ s.bridgeOfPort (4 * s.ruling s.ep.live n) = some (v, b)) ∧
      (∃ (n : Fin 40) (high : Bool) (s : State), s.dieOn = true ∧ s.roleIn s.ep.live n = 2 ∧ (s.group n).wake ≠ high ∧ s.bridgeOfPort (4 * s.ruling s.ep.live n) = none) ∧
      (∃ (s : State), s.dieOn = true) ∧
      (∃ (s : State), s.running = true) ∧
      (∃ (s : State), s.running = true) ∧
      (∃ (s : State), s.dieOn = true ∧ s.running = false) ∧
      (∃ (n : Fin 40) (signal : Sideband) (high : Bool) (s : State), s.dieOn = true ∧ (signal = .perst ∧ (s.roleIn s.ep.live n ≠ 1 ∨ s.ruling s.ep.live n ≠ n ∨ (s.group n).perst = high) ∨ signal = .prsnt ∧ (s.group n).prsnt = high ∨ signal = .wake ∧ (s.roleIn s.ep.live n ≠ 2 ∨ (s.group n).wake = high))) ∧
      (∃ (n : Fin 40) (signal : Sideband) (high : Bool) (s : State), s.dieOn = true ∧ (signal = .perst ∧ (s.roleIn s.ep.live n ≠ 1 ∨ s.ruling s.ep.live n ≠ n ∨ (s.group n).perst = high) ∨ signal = .prsnt ∧ (s.group n).prsnt = high ∨ signal = .wake ∧ (s.roleIn s.ep.live n ≠ 2 ∨ (s.group n).wake = high))) ∧
      (∃ (n : Fin 40) (signal : Sideband) (high : Bool) (s : State), s.dieOn = true ∧ (signal = .perst ∧ (s.roleIn s.ep.live n ≠ 1 ∨ s.ruling s.ep.live n ≠ n ∨ (s.group n).perst = high) ∨ signal = .prsnt ∧ (s.group n).prsnt = high ∨ signal = .wake ∧ (s.roleIn s.ep.live n ≠ 2 ∨ (s.group n).wake = high))) :=
  ⟨⟨0, true, withLive hostT, by decide +kernel⟩,
      ⟨39, false, demo, by decide +kernel⟩,
      ⟨1, false, 0, 0, withLive boundT, by decide +kernel⟩,
      ⟨0, false, withLive downT, by decide +kernel⟩,
      ⟨demo, by decide +kernel⟩,
      ⟨demo, by decide +kernel⟩,
      ⟨{ demo with twin := { state := .paired } }, by decide +kernel⟩,
      ⟨starting .firmware, by decide +kernel⟩,
      ⟨0, .prsnt, true, demo, by decide +kernel⟩,
      ⟨39, .perst, false, demo, by decide +kernel⟩,
      ⟨0, .wake, true, demo, by decide +kernel⟩⟩

/-- Witnesses: every hypothesis of PerstIsCheckedBeforeItIsDriven is met by a state and operands. -/
theorem test_PerstIsCheckedBeforeItIsDriven_hypotheses :
    (∃ (n : Fin 40) (d : Nat) (s : State), s.running = true ∧ (s.group n).checkDue = some d ∧ d ≤ s.ep.beat) ∧
      (∃ (n : Fin 40) (d : Nat) (s : State), s.running = true ∧ (s.group n).checkDue = some d ∧ d ≤ s.ep.beat) ∧
      (∃ (n : Fin 40) (d : Nat) (s : State), (s.group n).checkDue = some d ∧ s.ep.beat < d) :=
  ⟨⟨0, 0, demo.setGroup 0 (fun g => { g with checkDue := some 0 }), by decide +kernel⟩,
      ⟨0, 0, demo.setGroup 0 (fun g => { g with checkDue := some 0 }), by decide +kernel⟩,
      ⟨0, 1, demo.setGroup 0 (fun g => { g with checkDue := some 1 }), by decide +kernel⟩⟩

/-- Witnesses: every hypothesis of I2cTransactions is met by a state and operands. -/
theorem test_I2cTransactions_hypotheses :
    (∃ (n : Fin 40) (s : State), s.running = true ∧ (s.group n).slot = .idle ∧ s.ep.beat % 1024 = 0 ∧ (s.group n).slotBeat ≠ some s.ep.beat ∧ ((s.group n).lastWasWrite = true ∨ (s.group n).repoll = true ∨ s.slotsOfGroup n = [] ∨ (s.group n).writePending = false ∧ (s.group n).configSteps = 0)) ∧
      (∃ (n : Fin 40) (s : State), s.running = true ∧ (s.group n).slot = .idle ∧ s.ep.beat % 1024 = 0 ∧ (s.group n).slotBeat ≠ some s.ep.beat ∧ (s.group n).lastWasWrite = false ∧ (s.group n).repoll = false ∧ s.slotsOfGroup n ≠ [] ∧ (s.group n).configSteps = 1) ∧
      (∃ (n : Fin 40) (s : State), s.running = true ∧ (s.group n).slot = .idle ∧ s.ep.beat % 1024 = 0 ∧ (s.group n).slotBeat ≠ some s.ep.beat ∧ (s.group n).lastWasWrite = false ∧ (s.group n).repoll = false ∧ s.slotsOfGroup n ≠ [] ∧ (s.group n).configSteps ≠ 1 ∧ ((s.group n).writePending = true ∨ 1 < (s.group n).configSteps)) ∧
      (∃ (n : Fin 40) (s : State), s.running = true ∧ (s.group n).slot = .idle ∧ s.ep.beat % 1024 = 0 ∧ (s.group n).slotBeat ≠ some s.ep.beat) ∧
      (∃ (n : Fin 40) (s : State), s.running = true ∧ (s.group n).slot = .poll) ∧
      (∃ (n : Fin 40) (s : State), s.running = true ∧ (s.group n).slot = .config) ∧
      (∃ (n : Fin 40) (s : State), s.running = true ∧ (s.group n).slot = .write) ∧
      (∃ (n : Fin 40) (s : State), s.running = true ∧ (s.group n).slot = .write ∧ s.slotsOfGroup n = []) ∧
      (∃ (n : Fin 40) (s : State), s.running = true ∧ (s.group n).slot ≠ .idle) :=
  ⟨⟨0, demo, by decide +kernel⟩,
      ⟨0, (withLive downT).setGroup 0 (fun g => { g with configSteps := 1 }), by decide +kernel⟩,
      ⟨0, (withLive downT).setGroup 0 (fun g => { g with writePending := true }), by decide +kernel⟩,
      ⟨39, demo, by decide +kernel⟩,
      ⟨0, demo.setGroup 0 (fun g => { g with slot := .poll }), by decide +kernel⟩,
      ⟨0, demo.setGroup 0 (fun g => { g with slot := .config }), by decide +kernel⟩,
      ⟨0, demo.setGroup 0 (fun g => { g with slot := .write }), by decide +kernel⟩,
      ⟨0, demo.setGroup 0 (fun g => { g with slot := .write }), by decide +kernel⟩,
      ⟨0, demo.setGroup 0 (fun g => { g with slot := .write }), by decide +kernel⟩⟩

/-- Witnesses: every hypothesis of BoardPinsAndSensors is met by a state and operands. -/
theorem test_BoardPinsAndSensors_hypotheses_1 :
    (∃ (s : State), s.dieOn = true ∧ s.board.alertInLow = true) ∧
      (∃ (s : State), s.dieOn = true ∧ s.board.alertInLow = false ∧ (s.running = false ∨ s.twin.state ≠ .paired ∧ s.twin.state ≠ .fencing)) ∧
      (∃ (s : State), s.running = true ∧ s.board.alertInLow = false ∧ s.twin.state = .paired) ∧
      (∃ (s : State), s.running = true ∧ s.board.alertInLow = false ∧ s.twin.state = .fencing) ∧
      (∃ (s : State), s.board.modrst = true) ∧
      (∃ (s : State), s.board.modrst = false) ∧
      (∃ (s : State), s.board.modrst = false) ∧
      (∃ (s : State), s.dieOn = true ∧ s.board.refExternal = true) ∧
      (∃ (s : State), s.dieOn = true ∧ s.ep.beat % 64 = 0) ∧
      (∃ (s : State), s.dieOn = true ∧ s.ep.beat % 8192 = 0 ∧ 10 * (s.setting 0x2101 1 : Int) ≤ s.temperature ∧ 25 < s.board.throttle) ∧
      (∃ (s : State), s.dieOn = true ∧ s.ep.beat % 8192 = 0 ∧ 10 * (s.setting 0x2101 1 : Int) ≤ s.temperature ∧ s.board.throttle ≤ 25) ∧
      (∃ (s : State), s.dieOn = true ∧ s.ep.beat % 8192 = 0 ∧ s.temperature ≤ 10 * (s.setting 0x2101 1 : Int) - 50) :=
  ⟨⟨{ demo with board := { alertInLow := true } }, by decide +kernel⟩,
      ⟨demo, by decide +kernel⟩,
      ⟨{ demo with twin := { state := .paired } }, by decide +kernel⟩,
      ⟨{ demo with twin := { state := .fencing } }, by decide +kernel⟩,
      ⟨demo, by decide +kernel⟩,
      ⟨{ demo with board := { modrst := false } }, by decide +kernel⟩,
      ⟨{ demo with board := { modrst := false } }, by decide +kernel⟩,
      ⟨{ demo with board := { refExternal := true } }, by decide +kernel⟩,
      ⟨demo, by decide +kernel⟩,
      ⟨{ demo with board := { temps := [(0, 1000)] } }, by decide +kernel⟩,
      ⟨{ demo with board := { temps := [(0, 1000)], throttle := 25 } }, by decide +kernel⟩,
      ⟨{ demo with board := { temps := [(0, 950)] } }, by decide +kernel⟩⟩

/-- Witnesses: every hypothesis of BoardPinsAndSensors is met by a state and operands. -/
theorem test_BoardPinsAndSensors_hypotheses_2 :
    (∃ (s : State), s.dieOn = true ∧ s.ep.beat % 8192 = 0 ∧ s.temperature < 10 * (s.setting 0x2101 1 : Int) ∧ 10 * (s.setting 0x2101 1 : Int) - 50 < s.temperature) ∧
      (∃ (s : State), s.dieOn = true ∧ s.ep.beat % 8192 = 0 ∧ s.temperature < 10 * (s.setting 0x2101 1 : Int) ∧ 10 * (s.setting 0x2101 1 : Int) - 50 < s.temperature) :=
  ⟨⟨{ demo with board := { temps := [(0, 999)] } }, by decide +kernel⟩,
      ⟨{ demo with board := { temps := [(0, 951)] } }, by decide +kernel⟩⟩

/-- Witnesses: every hypothesis of FeedsAndTheirFets is met by a state and operands. -/
theorem test_FeedsAndTheirFets_hypotheses :
    (∃ (k : Fin 2) (s : State), (s.feed k).present = false) ∧
      (∃ (k : Fin 2) (s : State), (s.feed k).present = true ∧ (s.feed (1 - k)).present = true) ∧
      (∃ (k : Fin 2) (s : State), (s.feed k).present = true ∧ (s.feed (1 - k)).present = false ∧ s.sup.gate = .off) ∧
      (∃ (k : Fin 2) (s : State), (s.feed k).present = true ∧ (s.feed (1 - k)).present = false ∧ s.sup.gate ≠ .off) ∧
      (∃ (k : Fin 2) (s : State), (s.feed k).conducting = true) ∧
      (∃ (k : Fin 2) (s : State), (s.feed k).conducting = false) :=
  ⟨⟨0, demo, by decide +kernel⟩,
      ⟨1, demo.setSup (fun u => { u with feedA := { present := true }, feedB := { present := true } }), by decide +kernel⟩,
      ⟨0, { State.reset with sup := { feedA := { present := true } } }, by decide +kernel⟩,
      ⟨0, demo.setSup (fun u => { u with feedA := { present := true } }), by decide +kernel⟩,
      ⟨0, demo.setFeed 0 (fun f => { f with conducting := true }), by decide +kernel⟩,
      ⟨0, demo, by decide +kernel⟩⟩

/-- Witnesses: every hypothesis of GateRampTripsAndShutdown is met by a state and operands. -/
theorem test_GateRampTripsAndShutdown_hypotheses :
    (∃ (s : State), s.sup.gate = .off ∧ s.sup.fed = true ∧ s.sup.latched = false ∧ s.sup.coolDown = false) ∧
      (∃ (s : State), s.sup.gate = .off ∧ s.sup.fed = true ∧ (s.sup.latched = true ∨ s.sup.coolDown = true)) ∧
      (∃ (s : State), s.sup.gate = .ramping ∧ s.sup.gateOffOwed = false) ∧
      (∃ (s : State), s.sup.gate = .on ∧ s.sup.timer = false ∧ s.sup.gateOffOwed = false) ∧
      (∃ (s : State), s.sup.timer = true) ∧
      (∃ (s : State), s.sup.gate = .on ∧ s.sup.timer = false ∧ s.sup.pgOut = false ∧ s.sup.gateOffOwed = false) ∧
      (∃ (s : State), s.sup.gate = .on ∧ s.sup.timer = true ∧ s.sup.gateOffOwed = false) ∧
      (∃ (s : State), s.sup.gate ≠ .off) ∧
      (∃ (s : State), s.sup.gateOffOwed = true) ∧
      (∃ (s : State), s.sup.retained = true ∧ s.sup.shutdown = false) :=
  ⟨⟨{ State.reset with sup := { feedA := { present := true, conducting := true } } }, by decide +kernel⟩,
      ⟨{ State.reset with sup := { feedA := { present := true, conducting := true }, coolDown := true } }, by decide +kernel⟩,
      ⟨{ State.reset with sup := { gate := .ramping } }, by decide +kernel⟩,
      ⟨demo, by decide +kernel⟩,
      ⟨demo.setSup (fun u => { u with timer := true }), by decide +kernel⟩,
      ⟨demo, by decide +kernel⟩,
      ⟨demo.setSup (fun u => { u with timer := true }), by decide +kernel⟩,
      ⟨demo, by decide +kernel⟩,
      ⟨{ State.reset with sup := { gateOffOwed := true } }, by decide +kernel⟩,
      ⟨{ State.reset with sup := { retained := true } }, by decide +kernel⟩⟩

/-- Witnesses: every hypothesis of RetryLatchAndRelease is met by a state and operands. -/
theorem test_RetryLatchAndRelease_hypotheses :
    (∃ (s : State), s.sup.coolDown = true ∧ s.sup.fedLong = true) ∧
      (∃ (s : State), s.sup.coolDown = true ∧ s.sup.fedLong = false) ∧
      (∃ (s : State), s.sup.pgOut = true) ∧
      (∃ (s : State), s.sup.fed = false ∧ s.sup.retained = true ∧ s.sup.gate = .off) ∧
      (∃ (s : State), s.adpOpen = true ∧ s.heartbeats = false ∧ s.board.garnetPrsnt = false) ∧
      (∃ (s : State), s.adpOpen = true ∧ (s.heartbeats = true ∨ s.board.garnetPrsnt = true)) ∧
      (∃ (s : State), s.sup.latched = true ∧ s.sup.gate = .off ∧ s.sup.fed = true ∧ s.sup.fedLong = true) ∧
      (∃ (s : State), s.sup.latched = true ∧ s.sup.gate = .off ∧ s.sup.fed = true ∧ s.sup.fedLong = false) ∧
      (∃ (s : State), s.adpOpen = true) :=
  ⟨⟨{ State.reset with sup := { coolDown := true, fedLong := true } }, by decide +kernel⟩,
      ⟨{ State.reset with sup := { feedA := { present := true, conducting := true }, coolDown := true } }, by decide +kernel⟩,
      ⟨demo.setSup (fun u => { u with pgOut := true }), by decide +kernel⟩,
      ⟨{ State.reset with sup := { retained := true } }, by decide +kernel⟩,
      ⟨{ demo with board := { garnetPrsnt := false } }, by decide +kernel⟩,
      ⟨demo, by decide +kernel⟩,
      ⟨{ State.reset with sup := { feedA := { present := true, conducting := true }, latched := true, fedLong := true } }, by decide +kernel⟩,
      ⟨{ State.reset with sup := { feedA := { present := true, conducting := true }, latched := true } }, by decide +kernel⟩,
      ⟨demo, by decide +kernel⟩⟩

/-- Witnesses: every hypothesis of StandbyAndItsWake is met by a state and operands. -/
theorem test_StandbyAndItsWake_hypotheses :
    (∃ (s : State), s.adpOpen = true ∧ (s.twin.state = .holding ∨ s.twin.state = .single ∨ s.twin.state = .takenOver) ∧ ((∀ p : Nat, p < 160 → s.enabled p = true → s.portRole p = 1 ∧ (s.group (p / 4)).perst = false))) ∧
      (∃ (s : State), s.adpOpen = true ∧ s.twin.state ≠ .holding ∧ s.twin.state ≠ .single ∧ s.twin.state ≠ .takenOver) ∧
      (∃ (s : State), (s.sup.state = .standby ∨ s.starting = true ∧ s.start.cause = 6)) ∧
      (∃ (s : State), s.sup.state = .standby ∧ s.sprout.alarm = true) ∧
      (∃ (frame : Fin 3) (s : State), s.sup.state = .standby ∧ (frame ≠ 0 ∨ s.sprout.accepted ≠ 0)) ∧
      (∃ (frame : Fin 3) (s : State), s.sup.state = .standby ∧ (frame ≠ 0 ∨ s.sprout.accepted ≠ 0)) :=
  ⟨⟨demo, by decide +kernel⟩,
      ⟨{ demo with twin := { state := .paired } }, by decide +kernel⟩,
      ⟨{ State.reset with sup := { state := .standby } }, by decide +kernel⟩,
      ⟨{ State.reset with sup := { state := .standby }, sprout := { alarm := true } }, by decide +kernel⟩,
      ⟨1, { State.reset with sup := { state := .standby } }, by decide +kernel⟩,
      ⟨0, { State.reset with sup := { state := .standby }, sprout := { accepted := 1 } }, by decide +kernel⟩⟩

/-- Witnesses: every hypothesis of StartRequestsAndWatchdog is met by a state and operands. -/
theorem test_StartRequestsAndWatchdog_hypotheses :
    (∃ (s : State), s.adpUp = true ∧ s.col.safe = false ∧ s.starting = false) ∧
      (∃ (s : State), s.adpUp = true ∧ (s.col.safe = true ∨ s.starting = true)) ∧
      (∃ (s : State), s.adpUp = true ∧ s.starting = false) ∧
      (∃ (s : State), s.adpUp = true ∧ s.starting = true) ∧
      (∃ (s : State), s.dieOn = true ∧ s.start.watchdog = true ∧ s.col.safe = false) ∧
      (∃ (s : State), s.dieOn = true ∧ s.starting = true) ∧
      (∃ (s : State), s.running = true ∧ s.start.state = .ready ∧ 468750000 ≤ s.ep.beat) :=
  ⟨⟨demo, by decide +kernel⟩,
      ⟨starting .firmware, by decide +kernel⟩,
      ⟨demo, by decide +kernel⟩,
      ⟨starting .firmware, by decide +kernel⟩,
      ⟨{ demo with start := { watchdog := true } }, by decide +kernel⟩,
      ⟨starting .firmware, by decide +kernel⟩,
      ⟨{ demo with start := { state := .ready }, ep := { beat := 468750000 } }, by decide +kernel⟩⟩

/-- Witnesses: every hypothesis of StartPhasesFollow is met by a state and operands. -/
theorem test_StartPhasesFollow_hypotheses :
    (∃ (s : State), s.inPhase .cold = true) ∧
      (∃ (s : State), s.inPhase .bist = true) ∧
      (∃ (s : State), s.inPhase .calibration = true) ∧
      (∀ b : Tbl Nat, ({ blocks := b } : Image).verified = true → ∃ s : State, s.inPhase .firmware = true ∧ s.start.failed ≠ 3 ∧ (s.start.slotA.checked.valid = true ∨ s.start.slotB.checked.valid = true)) ∧
      (∃ (s : State), s.inPhase .firmware = true ∧ (s.start.failed = 3 ∨ s.start.slotA.checked.valid = false ∧ s.start.slotB.checked.valid = false)) ∧
      (∃ (s : State), s.inPhase .configuration = true) ∧
      (∃ (s : State), s.inPhase .release = true) ∧
      (∃ (s : State), s.inPhase .warm = true ∧ s.start.recWriting = false) :=
  ⟨⟨starting .cold, by decide +kernel⟩,
      ⟨starting .bist, by decide +kernel⟩,
      ⟨starting .calibration, by decide +kernel⟩,
      fun b h => ⟨{ starting .firmware with start := { phase := .firmware, slotA := { blocks := b } } }, rfl, by show (0 : Nat) ≠ 3; decide, Or.inl (by show (Image.checked { blocks := b }).valid = true; unfold Image.checked; rw [if_pos h])⟩,
      ⟨{ starting .firmware with start := { phase := .firmware, failed := 3 } }, by decide +kernel⟩,
      ⟨starting .configuration, by decide +kernel⟩,
      ⟨starting .release, by decide +kernel⟩,
      ⟨starting .warm, by decide +kernel⟩⟩

/-- Witnesses: every hypothesis of RecordStoreAndImages is met by a state and operands. -/
theorem test_RecordStoreAndImages_hypotheses :
    (∃ (s : State), s.dieOn = true ∧ s.start.recWriting = true) ∧
      (∃ (s : State), s.adpOpen = true ∧ s.start.storeStatus ≠ 1) ∧
      (∃ (s : State), s.adpOpen = true ∧ s.start.storeStatus = 1) ∧
      (∃ (slot : Fin 2) (s : State), s.adpUp = true ∧ s.updatesOpen = true ∧ s.start.running ≠ slot.val) ∧
      (∃ (slot : Fin 2) (s : State), s.adpUp = true ∧ s.updatesOpen = true ∧ s.start.running ≠ slot.val) ∧
      (∃ (slot : Fin 2) (s : State), s.adpUp = true ∧ (s.updatesOpen = false ∨ s.start.running = slot.val)) :=
  ⟨⟨{ demo with start := { recWriting := true } }, by decide +kernel⟩,
      ⟨demo, by decide +kernel⟩,
      ⟨{ demo with start := { storeStatus := 1 } }, by decide +kernel⟩,
      ⟨1, demo, by decide +kernel⟩,
      ⟨1, demo, by decide +kernel⟩,
      ⟨1, { demo with start := { running := 1 } }, by decide +kernel⟩⟩

/-- Witnesses: every hypothesis of ResetsBelowAStart is met by a state and operands. -/
theorem test_ResetsBelowAStart_hypotheses :
    (∃ (n : Fin 40) (s : State), s.adpOpen = true ∧ s.roleIn s.ep.live n = 2) ∧
      (∃ (n : Fin 40) (s : State), s.adpOpen = true ∧ s.roleIn s.ep.live n ≠ 2) ∧
      (∃ (v : Fin 64) (p : Nat) (s : State), s.running = true ∧ s.portOfVh v = some p ∧ s.linkActive p = true) ∧
      (∃ (v : Fin 64) (b : Fin 256) (s : State), s.running = true ∧ s.bridgeInUse v b = true) ∧
      (∃ (s : State), s.running = true) :=
  ⟨⟨0, withLive downT, by decide +kernel⟩,
      ⟨39, demo, by decide +kernel⟩,
      ⟨0, 0, withPort hostT { stage := 5 }, by decide +kernel⟩,
      ⟨0, 15, demo, by decide +kernel⟩,
      ⟨demo, by decide +kernel⟩⟩

/-- Witnesses: every hypothesis of TrunkTraining is met by a state and operands. -/
theorem test_TrunkTraining_hypotheses :
    (∃ (lane : Fin 328) (p : Nat) (word : BitVec 64) (s : State), s.running = true ∧ s.portOfLane lane = some p ∧ s.portRole p = 3 ∧ lane.val ∈ s.trainees p ∧ (trainWord word.toNat).crcOk = false) ∧
      (∃ (lane : Fin 328) (p : Nat) (word : BitVec 64) (s : State), s.running = true ∧ s.portOfLane lane = some p ∧ s.portRole p = 3 ∧ lane.val ∈ s.trainees p ∧ (trainWord word.toNat).crcOk = true ∧ (trainWord word.toNat).excluded = true) ∧
      (∃ (lane : Fin 328) (p : Nat) (word : BitVec 64) (s : State), s.running = true ∧ s.portOfLane lane = some p ∧ s.portRole p = 3 ∧ lane.val ∈ s.trainees p ∧ (trainWord word.toNat).crcOk = true ∧ (trainWord word.toNat).excluded = false) ∧
      (∃ (port : Fin 161) (b : Nat) (s : State), s.running = true ∧ s.portRole port = 3 ∧ (s.port port).stage = 1 ∧ (s.port port).firstDetect = some b ∧ b + 64 ≤ s.ep.beat) ∧
      (∃ (port : Fin 161) (b : Nat) (s : State), s.running = true ∧ s.portRole port = 3 ∧ stageBound (s.port port).stage = some b ∧ (s.port port).stageSince + b ≤ s.ep.beat ∧ (s.trainees port).filter (fun l => if (s.port port).stage = 4 then !(s.lane l).errOk else !(s.lane l).leaves) = [] ∧ s.trainees port ≠ []) ∧
      (∃ (port : Fin 161) (b : Nat) (s : State) (l : Nat) (ls : List Nat), s.running = true ∧ s.portRole port = 3 ∧ stageBound (s.port port).stage = some b ∧ (s.port port).stageSince + b ≤ s.ep.beat ∧ (s.trainees port).filter (fun l => if (s.port port).stage = 4 then !(s.lane l).errOk else !(s.lane l).leaves) = l :: ls) ∧
      (∃ (port : Fin 161) (b : Nat) (s : State) (l : Nat) (ls : List Nat), s.running = true ∧ s.portRole port = 3 ∧ stageBound (s.port port).stage = some b ∧ (s.port port).stageSince + b ≤ s.ep.beat ∧ (s.trainees port).filter (fun l => if (s.port port).stage = 4 then !(s.lane l).errOk else !(s.lane l).leaves) = l :: ls) ∧
      (∃ (port : Fin 161) (s : State), s.running = true ∧ s.portRole port = 3 ∧ ((s.port port).stage = 4 ∨ (s.port port).stage = 3 ∧ (s.port port).narrowSince ≠ none) ∧ s.trainees port ≠ [] ∧ ((∀ l ∈ s.trainees port, (s.lane l).leaves = true))) ∧
      (∃ (port : Fin 161) (width : Fin 6) (reversed : Bool) (s : State), s.running = true ∧ (s.portRole port = 1 ∨ s.portRole port = 2) ∧ 3 ≤ (s.port port).stage ∧ (s.port port).stage ≤ 4 ∧ (s.port port).retrains = false ∧ s.runFits port (widthLanes width) reversed = true) ∧
      (∃ (port : Fin 161) (s : State), s.running = true ∧ s.portRole port ≠ 3 ∧ 3 ≤ (s.port port).stage ∧ (s.port port).stage ≤ 4 ∧ (s.port port).retrains = true ∧ s.trainees port ≠ []) ∧
      (∃ (port : Fin 161) (s : State), s.running = true ∧ s.portRole port ≠ 3 ∧ 3 ≤ (s.port port).stage ∧ (s.port port).stage ≤ 4 ∧ (s.port port).retrains = true ∧ s.trainees port ≠ []) :=
  ⟨⟨0, 0, 1, withLane trunkT { stage := 2 } { state := 2 }, by decide +kernel⟩,
      ⟨0, 0, 1152921521786767444, withLane trunkT { stage := 2 } { state := 2 }, by decide +kernel⟩,
      ⟨0, 0, 1152921504606852244, withLane trunkT { stage := 2 } { state := 2 }, by decide +kernel⟩,
      ⟨0, 0, { withPort trunkT { stage := 1, firstDetect := some 0 } with ep := { live := trunkT, beat := 64 } }, by decide +kernel⟩,
      ⟨0, 390625, { withLane trunkT { stage := 4 } { state := 4, errOk := true } with ep := { live := trunkT, beat := 390625 } }, by decide +kernel⟩,
      ⟨0, 7813, { withLane trunkT { stage := 2 } { state := 2 } with ep := { live := trunkT, beat := 7813 } }, 0, [], by decide +kernel⟩,
      ⟨0, 3907, { withLane trunkT { stage := 3 } { state := 3 } with ep := { live := trunkT, beat := 3907 } }, 0, [], by decide +kernel⟩,
      ⟨0, withLane trunkT { stage := 4 } { state := 4, ready := true, goodWords := 8 }, by decide +kernel⟩,
      ⟨0, 1, false, withLane hostT { stage := 3 } { state := 3, detected := true }, by decide +kernel⟩,
      ⟨0, withLane hostT { stage := 3, narrowSince := some 0 } { state := 3 }, by decide +kernel⟩,
      ⟨0, withLane hostT { stage := 4, recovery := true } { state := 4 }, by decide +kernel⟩⟩

/-- Witnesses: every hypothesis of LanesInService is met by a state and operands. -/
theorem test_LanesInService_hypotheses :
    (∃ (lane : Fin 328) (part : EqStage) (tap : Fin 16) (param : Nat) (s : State), paramNo part tap = param ∧ s.running = true ∧ (s.lane lane).state = 5 ∧ (s.lane lane).rx = .on ∧ hasParam (s.lane lane).mode param = true ∧ s.setting (if lane.val < 320 then 0x3000 + lane.val / 8 else 0x9008) 0x83 = 0 ∧ ((∀ e ∈ (s.lane lane).adaptAt, e.1 = param → e.2 + 64 ≤ s.ep.beat))) ∧
      (∃ (lane : Fin 328) (s : State), s.running = true ∧ (s.lane lane).state = 5 ∧ (s.lane lane).windowSince + s.setting (laneIndex lane) 0x81 ≤ s.ep.beat) ∧
      (∃ (lane : Fin 328) (cause : Fin 6) (p : Nat) (s : State), s.running = true ∧ s.portOfLane lane = some p ∧ s.linkActive p = true ∧ ((3 ≤ (s.lane lane).state ∧ (s.lane lane).state ≤ 5 ∧ ((s.lane lane).rx = .on ∨ 4 ≤ cause.val)) ∨ ((s.lane lane).state = 8 ∧ (s.port p).stageSince = s.ep.beat)) ∧ cause.val ≠ 0 ∧ cause.val ≠ 3) ∧
      (∃ (lane : Fin 328) (cause : Fin 6) (p : Nat) (s : State), s.running = true ∧ s.portOfLane lane = some p ∧ s.linkActive p = true ∧ ((3 ≤ (s.lane lane).state ∧ (s.lane lane).state ≤ 5 ∧ ((s.lane lane).rx = .on ∨ 4 ≤ cause.val)) ∨ ((s.lane lane).state = 8 ∧ (s.port p).stageSince = s.ep.beat)) ∧ cause.val ≠ 0 ∧ cause.val ≠ 3) ∧
      (∃ (lane : Fin 328) (more : BitVec 32) (p : Nat) (s : State), s.running = true ∧ s.portOfLane lane = some p ∧ s.linkActive p = true ∧ ((3 ≤ (s.lane lane).state ∧ (s.lane lane).state ≤ 5 ∧ (s.lane lane).rx = .on) ∨ ((s.lane lane).state = 8 ∧ (s.port p).stageSince = s.ep.beat)) ∧ s.setting (laneIndex lane) 0x80 ≠ 0 ∧ s.setting (laneIndex lane) 0x80 < (s.lane lane).window + more.toNat) ∧
      (∃ (port : Fin 161) (b : Nat) (s : State), s.running = true ∧ (s.port port).narrowSince = some b ∧ b + s.setting (limitIndex port) 0x82 ≤ s.ep.beat) ∧
      (∃ (s : State), s.adpOpen = true) ∧
      (∃ (lane : Fin 328) (s : State), s.adpOpen = true ∧ (s.lane lane).state ≠ 6) ∧
      (∃ (lane : Fin 328) (s : State), s.adpOpen = true ∧ (s.lane lane).state = 6) ∧
      (∃ (lane : Fin 328) (d : LaneDir) (s : State), s.running = true ∧ (s.lane lane).state = 5 ∧ s.asksFor lane false d = true) ∧
      (∃ (lane : Fin 328) (d : LaneDir) (s : State), s.running = true ∧ (s.lane lane).state = 5 ∧ s.asksFor lane true d = true) ∧
      (∃ (lane : Fin 328) (b : Nat) (s : State), s.running = true ∧ (s.lane lane).rxExit = some b ∧ b ≤ s.ep.beat) :=
  ⟨⟨0, .peaking, 0, 0, withLane trunkT {} { state := 5, rx := .on }, by decide +kernel⟩,
      ⟨0, { withLane trunkT {} { state := 5 } with ep := { beat := 7813 } }, by decide +kernel⟩,
      ⟨0, 1, 0, withLane trunkT { stage := 5 } { state := 5, rx := .on }, by decide +kernel⟩,
      ⟨0, 5, 0, withLane trunkT { stage := 5 } { state := 5, rx := .on }, by decide +kernel⟩,
      ⟨0, 4097, 0, withLane trunkT { stage := 5 } { state := 5, rx := .on }, by decide +kernel⟩,
      ⟨0, 0, { withPort trunkT { narrowSince := some 0 } with ep := { live := trunkT, beat := 15625 } }, by decide +kernel⟩,
      ⟨demo, by decide +kernel⟩,
      ⟨0, demo, by decide +kernel⟩,
      ⟨0, withLane trunkT {} { state := 6 }, by decide +kernel⟩,
      ⟨0, .off, withLane trunkT {} { state := 5 }, by decide +kernel⟩,
      ⟨0, .deepIdle, withLane trunkT {} { state := 5 }, by decide +kernel⟩,
      ⟨0, 0, withLane trunkT {} { rxExit := some 0 }, by decide +kernel⟩⟩

/-- Witnesses: every hypothesis of EyeScans is met by a state and operands. -/
theorem test_EyeScans_hypotheses :
    (∃ (slot : Fin 4) (s : State), s.adpOpen = true ∧ s.scanRefused slot (fun j => s.selector (0xA020 + slot.val) j) = true) ∧
      (∃ (slot : Fin 4) (s : State), s.adpOpen = true ∧ s.scanRefused slot (fun j => s.selector (0xA020 + slot.val) j) = false) ∧
      (∃ (slot : Fin 4) (errors : BitVec 37) (s : State), s.running = true ∧ (s.scans.look slot {}).status = 1 ∧ errors.toNat ≤ 2 ^ (s.scans.look slot {}).params.look 8 0 ∧ (s.scanCheck.scans.look slot {}).status = 1) ∧
      (∃ (slot : Fin 4) (errors : BitVec 37) (s : State), s.running = true ∧ (s.scans.look slot {}).status = 1 ∧ errors.toNat ≤ 2 ^ (s.scans.look slot {}).params.look 8 0 ∧ (s.scanCheck.scans.look slot {}).status ≠ 1) ∧
      (∃ (s : State), s.adpOpen = true) :=
  ⟨⟨0, demo, by decide +kernel⟩,
      ⟨3, withLane trunkT {} { state := 5, rx := .on }, by decide +kernel⟩,
      ⟨0, 1048576, { withLane trunkT {} { state := 5, rx := .on } with scans := [(0, { status := 1, params := [(1, 0), (2, 0), (8, 20)] })] }, by decide +kernel⟩,
      ⟨0, 0, { demo with scans := [(0, { status := 1, params := [(8, 20)] })] }, by decide +kernel⟩,
      ⟨demo, by decide +kernel⟩⟩

/-- Witnesses: every hypothesis of LinkPowerAndIde is met by a state and operands. -/
theorem test_LinkPowerAndIde_hypotheses :
    (∃ (port : Fin 160) (sub : Fin 3) (v : Nat) (s : State), s.running = true ∧ s.vhOfPort port = some v ∧ (s.port port).stage = 5 ∧ ((s.port port).power = .l0 ∨ (s.port port).power = .l0s ∨ (s.port port).power = .l0p) ∧ bit (s.aspmAllowed port) 1 = true ∧ (sub = 0 ∨ bit (s.aspmAllowed port) (1 + sub) = true) ∧ (s.port port).idleSince + s.portIn s.ep.live port 0xB ≤ s.ep.beat ∧ s.hierBusy v port = false ∧ ((∀ b ∈ s.portsUnder v, (s.port b).deep = true))) ∧
      (∃ (port : Fin 160) (s : State), s.running = true ∧ s.portRole port = 2 ∧ (s.port port).stage = 5 ∧ (s.port port).deep = false) ∧
      (∃ (port : Fin 160) (v : Nat) (s : State), s.running = true ∧ s.vhOfPort port = some v ∧ (s.port port).stage = 5 ∧ (s.port port).deep = false) ∧
      (∃ (v : Fin 64) (p : Nat) (s : State), s.running = true ∧ s.portOfVh v = some p ∧ (s.port p).stage = 5 ∧ (s.port p).power ≠ .l2) ∧
      (∃ (port : Fin 160) (used : BitVec 32) (s : State), s.l0pOpen port = true ∧ s.portIn s.ep.live port 8 = 1 ∧ s.ep.beat % 64 = 0 ∧ (80 * (64 * s.bytesPerBeat port) < 100 * used.toNat ∨ 64 < s.queuedAt port) ∧ (s.port port).txWidth < (s.port port).width) ∧
      (∃ (port : Fin 160) (used : BitVec 32) (s : State), s.l0pOpen port = true ∧ s.portIn s.ep.live port 8 = 1 ∧ s.ep.beat % 64 = 0 ∧ (80 * (64 * s.bytesPerBeat port) < 100 * used.toNat ∨ 64 < s.queuedAt port) ∧ (s.port port).width ≤ (s.port port).txWidth) ∧
      (∃ (port : Fin 160) (used : BitVec 32) (s : State), s.l0pOpen port = true ∧ s.portIn s.ep.live port 8 = 1 ∧ s.ep.beat % 64 = 0 ∧ 100 * used.toNat < 35 * (64 * s.bytesPerBeat port) ∧ s.queuedAt port ≤ 64 ∧ 2 < (s.port port).txWidth ∧ (s.port port).widening = false) ∧
      (∃ (port : Fin 160) (used : BitVec 32) (s : State), s.l0pOpen port = true ∧ s.portIn s.ep.live port 8 = 1 ∧ s.ep.beat % 64 = 0 ∧ 100 * used.toNat ≤ 80 * (64 * s.bytesPerBeat port) ∧ s.queuedAt port ≤ 64 ∧ (35 * (64 * s.bytesPerBeat port) ≤ 100 * used.toNat ∨ (s.port port).txWidth ≤ 2 ∨ (s.port port).widening = true)) ∧
      (∃ (port : Fin 160) (width : Fin 6) (s : State), s.l0pOpen port = true ∧ 1 ≤ width.val ∧ width.val ≤ (s.port port).width) ∧
      (∃ (port : Fin 160) (width : Fin 6) (s : State), s.l0pOpen port = true ∧ 1 ≤ width.val ∧ width.val ≤ (s.port port).width) ∧
      (∃ (port : Fin 160) (s : State), s.running = true ∧ s.portRole port = 2 ∧ ((s.port port).ide = 2 ∧ (s.port port).ideRefresh + 2 ^ 28 ≤ s.ep.beat ∨ ((s.port port).ide = 1 ∨ (s.port port).ide = 3) ∧ (s.port port).stage = 5)) ∧
      (∃ (port : Fin 160) (s : State), s.running = true ∧ (s.port port).ide = 2 ∧ s.linkActive port = true) :=
  ⟨⟨0, 0, 0, { withPort hostT { stage := 5, power := .l0, ownerAspm := 15 } with ep := { live := hostT, beat := 78 } }, by decide +kernel⟩,
      ⟨0, withPort ([(key 0x3000 0x90, 2), (key 0x3400 1, 1), (key 0x3400 7, 0)]) { stage := 5 }, by decide +kernel⟩,
      ⟨0, 0, withPort hostT { stage := 5 }, by decide +kernel⟩,
      ⟨0, 0, withPort hostT { stage := 5 }, by decide +kernel⟩,
      ⟨0, 4294967295, { withPort hostT { stage := 5, l0p := true, rate := 10, width := 4, txWidth := 1 } with ep := { live := hostT, beat := 64 } }, by decide +kernel⟩,
      ⟨0, 4294967295, { withPort hostT { stage := 5, l0p := true, rate := 10, width := 4, txWidth := 4 } with ep := { live := hostT, beat := 64 } }, by decide +kernel⟩,
      ⟨0, 0, { withPort hostT { stage := 5, l0p := true, rate := 10, width := 4, txWidth := 4 } with ep := { live := hostT, beat := 64 } }, by decide +kernel⟩,
      ⟨0, 0, { withPort hostT { stage := 5, l0p := true, rate := 10, width := 4, txWidth := 2 } with ep := { live := hostT, beat := 64 } }, by decide +kernel⟩,
      ⟨0, 5, withPort hostT { stage := 5, l0p := true, width := 5 }, by decide +kernel⟩,
      ⟨0, 1, withPort hostT { stage := 5, l0p := true, width := 5 }, by decide +kernel⟩,
      ⟨0, { withPort downT { ide := 2 } with ep := { live := downT, beat := 268435456 } }, by decide +kernel⟩,
      ⟨0, withPort downT { ide := 2, stage := 5 }, by decide +kernel⟩⟩

/-- Witnesses: every hypothesis of FramesThroughTheSwitch is met by a state and operands. -/
theorem test_FramesThroughTheSwitch_hypotheses :
    (∃ (s : State), s.running = true) ∧
      (∃ (ingress : Fin 177) (h : Head) (s : State), s.running = true ∧ h.wf = true ∧ s.crossesTrunk ingress h = false ∧ (ingress.val < 160 ∨ s.engineHeld ingress h = false)) ∧
      (∃ (ingress : Fin 177) (h : Head) (s : State), s.running = true ∧ h.wf = true ∧ s.crossesTrunk ingress h = false ∧ (ingress.val < 160 ∨ s.engineHeld ingress h = false)) ∧
      (∃ (id : Nat) (f : Frame) (s : State), s.running = true ∧ s.frame id = some f ∧ f.charge ≠ .waiting ∧ (f.formed < f.cells ∨ f.checked = false)) ∧
      (∃ (id : Nat) (f : Frame) (s : State), s.running = true ∧ s.frame id = some f ∧ f.charge = .waiting ∧ f.cls < 4 ∧ (s.chargeLossless f).1 = .waiting) ∧
      (∃ (id : Nat) (f : Frame) (s : State) (c : Charge) (u : State) (banks : List Nat) (next : Nat), s.running = true ∧ s.frame id = some f ∧ f.charge = .waiting ∧ f.cls < 4 ∧ s.chargeLossless f = (c, u) ∧ c ≠ .waiting ∧ u.takeBanks f.cells u.core.nextBank [] = (banks, next)) ∧
      (∃ (s : State), s.running = true) ∧
      (∃ (egress : Fin 160) (i : Fin 128) (b : Nat) (f : Frame) (s : State), s.running = true ∧ s.trunkPort egress = true ∧ (s.port egress).stallSince = some b ∧ b + s.setting 0x4001 2 ≤ 128 * s.ep.beat + i ∧ s.stalledAt egress = some f) ∧
      (∃ (port : Fin 160) (s : State), s.running = true ∧ s.portRole port = 3 ∧ s.core.pathFailed.look port false = false ∧ (s.linkActive port = false ∨ (s.trunk port).mismatch = true ∨ (s.trunk port).exceeds = true)) :=
  ⟨⟨demo, by decide +kernel⟩,
      ⟨0, { size := 64 }, demo, by decide +kernel⟩,
      ⟨176, { size := 64 }, demo, by decide +kernel⟩,
      ⟨0, { charge := .reservation }, { demo with core := { frames := [{ charge := .reservation }] } }, by decide +kernel⟩,
      ⟨0, { cells := 10000000 }, { demo with core := { frames := [{ cells := 10000000 }] } }, by decide +kernel⟩,
      ⟨0, {}, { demo with core := { frames := [{}] } }, .shared, { demo with core := { frames := [{}] } }, [0], 1, by decide +kernel⟩,
      ⟨demo, by decide +kernel⟩,
      ⟨0, 0, 0, { cells := 2, formed := 1, sent := 1, cutThrough := true }, { withPort trunkT { stallSince := some 0 } with core := { frames := [{ cells := 2, formed := 1, sent := 1, cutThrough := true }], xmit := [(0, 1)] }, ep := { live := trunkT, beat := 1000000 } }, by decide +kernel⟩,
      ⟨0, withLive trunkT, by decide +kernel⟩⟩

/-- Witnesses: every hypothesis of BanksAndAttachmentsRetire is met by a state and operands. -/
theorem test_BanksAndAttachmentsRetire_hypotheses :
    (∃ (s : State), s.adpOpen = true) ∧
      (∃ (s : State), s.running = true) ∧
      (∃ (bank : Fin 64) (s : State), s.running = true ∧ s.core.bankState.look bank 0 = 1 ∧ ((∀ f ∈ s.core.frames, f.charge ≠ .waiting → bank.val ∉ f.banks))) ∧
      (∃ (bank : Fin 64) (f : Frame) (s : State), f ∈ s.core.frames ∧ f.charge ≠ .waiting ∧ bank.val ∈ f.banks) ∧
      (∃ (n : Fin 40) (s : State), s.adpOpen = true ∧ s.core.attachRetired.look n false = false) ∧
      (∃ (n : Fin 40) (id : Nat) (control : Bool) (s : State), s.running = true ∧ (s.struck id control).core.attachRetired.look n false = false) ∧
      (∃ (n : Fin 40) (s : State), s.running = true ∧ s.core.attachPending.look n false = true) :=
  ⟨⟨demo, by decide +kernel⟩,
      ⟨demo, by decide +kernel⟩,
      ⟨63, { demo with core := { bankState := [(63, 1)] } }, by decide +kernel⟩,
      ⟨1, { charge := .reservation, banks := [1] }, { demo with core := { frames := [{ charge := .reservation, banks := [1] }] } }, by decide +kernel⟩,
      ⟨0, demo, by decide +kernel⟩,
      ⟨39, 0, false, demo, by decide +kernel⟩,
      ⟨0, { demo with core := { attachPending := [(0, true)] } }, by decide +kernel⟩⟩

/-- Witnesses: every hypothesis of SlotsAndDpc is met by a state and operands. -/
theorem test_SlotsAndDpc_hypotheses :
    (∃ (p : Fin 160) (s : State), s.running = true ∧ (s.slot p).pending ≠ 0 ∧ (s.group (p / 4)).polledAt < s.ep.beat) ∧
      (∃ (v : Fin 64) (b : Fin 256) (s : State), s.running = true ∧ s.bridgeInUse v b = true ∧ bindKind (s.bindingIn s.ep.live v b) = 1) ∧
      (∃ (v : Fin 64) (b : Fin 256) (s : State), s.running = true ∧ s.bridgeInUse v b = true ∧ bindKind (s.bindingIn s.ep.live v b) ≠ 1) ∧
      (∃ (p : Fin 160) (s : State), s.running = true ∧ ((s.slot p).attnLed = 2 ∨ (s.slot p).pwrLed = 2) ∧ (s.slot p).blinkAt + 2500000 ≤ s.ep.beat) ∧
      (∃ (p : Fin 160) (s : State), s.running = true ∧ s.portRole p = 2 ∧ s.groupReleasable (p.val / 4) = true) ∧
      (∃ (v : Fin 64) (b : Fin 256) (s : State), s.running = true ∧ (s.bridge v b).dpcEnable = true ∧ (s.bridge v b).dpcTriggered = false ∧ bindKind (s.bindingIn s.ep.live v b) ≠ 0) ∧
      (∃ (v : Fin 64) (b : Fin 256) (s : State), s.running = true ∧ (s.bridge v b).dpcTriggered = true ∧ bindKind (s.bindingIn s.ep.live v b) = 1) ∧
      (∃ (v : Fin 64) (b : Fin 256) (s : State), s.running = true ∧ (s.bridge v b).dpcTriggered = true ∧ bindKind (s.bindingIn s.ep.live v b) = 2 ∧ s.isContained (s.domainOfVh v) = false) ∧
      (∃ (v : Fin 64) (b : Fin 256) (s : State), s.running = true ∧ (s.bridge v b).dpcTriggered = true ∧ bindKind (s.bindingIn s.ep.live v b) = 2 ∧ s.isContained (s.domainOfVh v) = true) ∧
      (∃ (v : Fin 64) (b : Fin 256) (s : State), s.running = true ∧ (s.bridge v b).dpcTriggered = true ∧ bindKind (s.bindingIn s.ep.live v b) ≠ 1 ∧ bindKind (s.bindingIn s.ep.live v b) ≠ 2) :=
  ⟨⟨0, { demo with fab := { slots := [(0, { pending := 1 })] }, ep := { beat := 1 } }, by decide +kernel⟩,
      ⟨0, 0, withLive boundT, by decide +kernel⟩,
      ⟨0, 0, demo, by decide +kernel⟩,
      ⟨0, { demo with fab := { slots := [(0, { attnLed := 2 })] }, ep := { beat := 2500000 } }, by decide +kernel⟩,
      ⟨0, (withLive downT).setGroup 0 (fun g => { g with prsnt := false, driven := some false }), by decide +kernel⟩,
      ⟨0, 0, { withLive boundT with fab := { bridges := [(0, { dpcEnable := true })] } }, by decide +kernel⟩,
      ⟨0, 0, { withLive boundT with fab := { bridges := [(0, { dpcTriggered := true })] } }, by decide +kernel⟩,
      ⟨0, 0, { withLive [(key 0x4100 0, 0x20400000)] with fab := { bridges := [(0, { dpcTriggered := true })] } }, by decide +kernel⟩,
      ⟨0, 0, { withLive [(key 0x4100 0, 0x20400000)] with fab := { bridges := [(0, { dpcTriggered := true })] }, host := { contained := [(0, true)] } }, by decide +kernel⟩,
      ⟨0, 0, { demo with fab := { bridges := [(0, { dpcTriggered := true })] } }, by decide +kernel⟩⟩

/-- Witnesses: every hypothesis of ConfigurationRequests is met by a state and operands. -/
theorem test_ConfigurationRequests_hypotheses :
    (∃ (x : Tlp), x.cfg0 = true) ∧
      (∃ (v : Fin 64) (x : Tlp) (s : State), x.cfg0 = false ∧ busOf x = (s.hier v).up.secondary) ∧
      (∃ (v : Fin 64) (x : Tlp) (b : Nat) (e : Nat) (s : State), x.cfg0 = false ∧ (s.hier v).up.secondary < busOf x ∧ busOf x ≤ (s.hier v).up.subordinate ∧ s.bridgeByBus s.ep.live v (busOf x) = some (b, e) ∧ bindKind e ≠ 3) ∧
      (∃ (v : Fin 64) (x : Tlp) (s : State), x.cfg0 = false ∧ (s.hier v).up.secondary ≠ busOf x ∧ s.bridgeByBus s.ep.live v (busOf x) = none) ∧
      (∃ (v : Fin 64) (x : Tlp) (p : Nat) (s : State), x.wf = true ∧ x.op = .config ∧ s.running = true ∧ s.portOfVh v = some p ∧ (s.hier v).reset = false ∧ s.cfgPlace v x = none) ∧
      (∃ (v : Fin 64) (x : Tlp) (p : Nat) (s : State) (place : CfgPlace), x.wf = true ∧ x.op = .config ∧ s.running = true ∧ s.portOfVh v = some p ∧ (s.hier v).reset = false ∧ s.cfgPlace v x = some place ∧ place ≠ .below ∧ x.write = true) ∧
      (∃ (v : Fin 64) (x : Tlp) (field : CfgField) (p : Nat) (s : State) (place : CfgPlace) (n : Nat), x.wf = true ∧ x.op = .config ∧ s.running = true ∧ s.portOfVh v = some p ∧ (s.hier v).reset = false ∧ s.cfgPlace v x = some place ∧ place ≠ .below ∧ x.write = false ∧ s.cfgRead v place field = some n) ∧
      (∃ (v : Fin 64) (x : Tlp) (field : CfgField) (p : Nat) (s : State) (place : CfgPlace), x.wf = true ∧ x.op = .config ∧ s.running = true ∧ s.portOfVh v = some p ∧ (s.hier v).reset = false ∧ s.cfgPlace v x = some place ∧ place ≠ .below ∧ x.write = false ∧ s.cfgRead v place field = none) ∧
      (∃ (v : Fin 64) (x : Tlp) (p : Nat) (s : State) (id : Nat), x.wf = true ∧ x.op = .config ∧ s.running = true ∧ s.portOfVh v = some p ∧ (s.hier v).reset = false ∧ s.cfgPlace v x = some .below ∧ (s.headCell p { size := 1, tlp := x }).1 = .taken id) ∧
      (∃ (v : Fin 64) (x : Tlp) (p : Nat) (s : State), x.wf = true ∧ x.op = .config ∧ s.running = true ∧ s.portOfVh v = some p ∧ (s.hier v).reset = false ∧ s.cfgPlace v x = some .below ∧ ((∀ id, (s.headCell p { size := 1, tlp := x }).1 ≠ .taken id))) :=
  ⟨⟨{ cfg0 := true }, by decide +kernel⟩,
      ⟨0, {}, demo, by decide +kernel⟩,
      ⟨0, { addr := 0x2000000 }, 0, 0x10400000, behindBridge, by decide +kernel⟩,
      ⟨0, { addr := 0x1000000 }, demo, by decide +kernel⟩,
      ⟨0, { op := .config, cfg0 := true, addr := 0x20000 }, 0, withLive hostT, by decide +kernel⟩,
      ⟨0, { op := .config, cfg0 := true, write := true }, 0, withLive hostT, .upstream, by decide +kernel⟩,
      ⟨0, { op := .config, cfg0 := true }, .identity, 0, withLive hostT, .upstream, identityOf 0x0321 0x060400, by refine ⟨?_, ?_, ?_, ?_, ?_, ?_, ?_, ?_, rfl⟩ <;> decide +kernel⟩,
      ⟨0, { op := .config, cfg0 := true }, .slotCapabilities, 0, withLive hostT, .upstream, by decide +kernel⟩,
      ⟨0, { op := .config, addr := 0x2000000 }, 0, behindBridge, 0, by decide +kernel⟩,
      ⟨0, { op := .config, addr := 0x2000000 }, 0, fullPort, by refine ⟨?_, ?_, ?_, ?_, ?_, ?_, (not_taken _ (by decide +kernel))⟩ <;> decide +kernel⟩⟩

/-- Witnesses: every hypothesis of TrackerWindowsAndChannels is met by a state and operands. -/
theorem test_TrackerWindowsAndChannels_hypotheses_1 :
    (∃ (b : Budget) (w : Waiting) (s : State), s.running = true ∧ s.budgetTurn = some b ∧ b ≠ .master ∧ State.headOfBudget { s with fab := { s.fab with turn := (b.number + 1) % 66 } } b = some w) ∧
      (∃ (m : Master) (s : State), s.running = true ∧ s.budgetTurn = some .master ∧ State.masterHead { s with fab := { s.fab with turn := (Budget.number .master + 1) % 66 } } = some m) ∧
      (∃ (ingress : Fin 177) (x : Tlp) (s : State) (t : Track), s.running = true ∧ x.wf = true ∧ x.op = .completion ∧ s.entryFor ingress x = some t ∧ t.expired = false ∧ s.cplRedirect s.ep.live ingress t x = none) ∧
      (∃ (ingress : Fin 177) (x : Tlp) (s : State) (t : Track) (q : Nat), s.running = true ∧ x.wf = true ∧ x.op = .completion ∧ s.entryFor ingress x = some t ∧ t.expired = false ∧ s.cplRedirect s.ep.live ingress t x = some q) ∧
      (∃ (ingress : Fin 177) (x : Tlp) (s : State) (t : Track), s.running = true ∧ x.wf = true ∧ x.op = .completion ∧ s.entryFor ingress x = some t ∧ t.expired = true) ∧
      (∃ (ingress : Fin 177) (x : Tlp) (s : State), s.running = true ∧ x.wf = true ∧ x.op = .completion ∧ s.entryFor ingress x = none ∧ s.trunkPort ingress = true) ∧
      (∃ (ingress : Fin 177) (x : Tlp) (s : State), s.running = true ∧ x.wf = true ∧ x.op = .completion ∧ s.entryFor ingress x = none ∧ s.trunkPort ingress = false) ∧
      (∃ (i : Fin 262144) (t : Track) (s : State), s.running = true ∧ s.track i = some t ∧ t.budget ≠ .master ∧ t.deadline ≤ s.ep.beat ∧ t.expired = false) ∧
      (∃ (i : Fin 262144) (t : Track) (s : State), s.running = true ∧ s.track i = some t ∧ t.expired = true ∧ t.freeAt ≤ s.ep.beat) ∧
      (∃ (p : Fin 160) (s : State), s.running = true ∧ (s.port p).downOwed = true) ∧
      (∃ (p : Fin 160) (s : State), s.running = true ∧ (s.port p).downOwed = false ∧ s.linkActive p = true) ∧
      (∃ (port : Fin 160) (k : Nat) (w : Waiting) (f : Frame) (s : State), s.running = true ∧ s.farTagFree port = some k ∧ s.fab.waiting.find? (fun w => w.farTag && (s.frame w.frame).any (fun f => decide (f.egress = port.val))) = some w ∧ s.budgetOpenIn (s.waitTables w) w.budget = true ∧ s.frame w.frame = some f) :=
  ⟨⟨.trunk, {}, { demo with fab := { waiting := [{}] }, core := { frames := [{}] } }, by decide +kernel⟩,
      ⟨{}, { demo with host := { masterWait := [{}] } }, by decide +kernel⟩,
      ⟨4, { op := .completion }, { demo with fab := { track := [{ cplPort := 4 }] } }, { cplPort := 4 }, by decide +kernel⟩,
      ⟨4, { op := .completion }, { withLive redirT with fab := { track := [{ cplPort := 4, reqPort := 8 }] } }, { cplPort := 4, reqPort := 8 }, 0, by decide +kernel⟩,
      ⟨4, { op := .completion }, { demo with fab := { track := [{ cplPort := 4, expired := true }] } }, { cplPort := 4, expired := true }, by decide +kernel⟩,
      ⟨0, { op := .completion }, withLive trunkT, by decide +kernel⟩,
      ⟨176, { op := .completion }, demo, by decide +kernel⟩,
      ⟨0, {}, { demo with fab := { track := [{}] } }, by decide +kernel⟩,
      ⟨0, { expired := true }, { demo with fab := { track := [{ expired := true }] } }, by decide +kernel⟩,
      ⟨0, { demo with ports := [(0, { downOwed := true })] }, by decide +kernel⟩,
      ⟨0, withPort hostT { stage := 5 }, by decide +kernel⟩,
      ⟨0, 0, { farTag := true }, {}, { demo with fab := { waiting := [{ farTag := true }] }, core := { frames := [{}] } }, by decide +kernel⟩⟩

/-- Witnesses: every hypothesis of TrackerWindowsAndChannels is met by a state and operands. -/
theorem test_TrackerWindowsAndChannels_hypotheses_2 :
    (∃ (window : Fin 1024) (h : Hold) (s : State), s.running = true ∧ s.fab.holds.find? (fun h => decide (h.window = window.val) && h.ready && decide (h.since + s.setting 0x4200 4 ≤ s.ep.beat)) = some h) ∧
      (∃ (v : Fin 64) (c : Fin 1024) (s : State), s.running = true ∧ bit (s.channelIn s.ep.live c) 63 = true ∧ bits (s.channelIn s.ep.live c) 62 57 = v) ∧
      (∃ (v : Fin 64) (c : Fin 1024) (s : State), s.running = true ∧ bit (s.channelIn s.ep.live c) 63 = true ∧ bits (s.channelIn s.ep.live c) 56 51 = v) ∧
      (∃ (v : Fin 64) (c : Fin 1024) (s : State), s.running = true ∧ bit (s.channelIn s.ep.live c) 63 = true ∧ bits (s.channelIn s.ep.live c) 62 57 ≠ v) ∧
      (∃ (src : Fin 4096) (cause : BitVec 8) (s : State), s.running = true ∧ (cause.toNat < 7 ∨ src.val ≠ s.moduleEdgeIn s.ep.live)) ∧
      (∃ (src : Fin 4096) (cause : BitVec 8) (s : State), s.running = true ∧ 7 ≤ cause.toNat ∧ src.val = s.moduleEdgeIn s.ep.live) :=
  ⟨⟨0, { ready := true }, { demo with fab := { holds := [{ ready := true }] }, ep := { beat := 1000000000 } }, by decide +kernel⟩,
      ⟨0, 0, withLive [(key 0x42C0 0, 2 ^ 63)], by decide +kernel⟩,
      ⟨0, 0, withLive [(key 0x42C0 0, 2 ^ 63)], by decide +kernel⟩,
      ⟨1, 0, withLive [(key 0x42C0 0, 2 ^ 63)], by decide +kernel⟩,
      ⟨0, 0, demo, by decide +kernel⟩,
      ⟨0, 7, demo, by decide +kernel⟩⟩

/-- Witnesses: every hypothesis of TrunkLinkLayer is met by a state and operands. -/
theorem test_TrunkLinkLayer_hypotheses :
    (∃ (port : Fin 161) (wire : Wire) (fixed : List Nat) (fix : Nat → State → State) (s : State), s.running = true ∧ s.portRole port = 3 ∧ (s.trunk port).receiver ≠ .down ∧ (s.port port).stage = 5 ∧ (s.trunk port).quietRx = false ∧ fix = (fun k u => match (s.lanesInUse port)[k]? with | some l => State.setLane l (fun x => { x with errors := x.errors + 1, window := x.window + 1 }) (if port.val < 160 then u.countBy 1 (0x3400 + port) 0x4F else u) | none => if port.val < 160 then u.countBy 1 (0x3400 + port) 0x4F else u) ∧ readWire (widthLanes (s.port port).width) (wire.toList.map BitVec.toNat) = (fixed, none)) ∧
      (∃ (port : Fin 161) (wire : Wire) (fixed : List Nat) (fix : Nat → State → State) (s : State) (bytes : List Nat) (c : Control), s.running = true ∧ s.portRole port = 3 ∧ (s.trunk port).receiver ≠ .down ∧ (s.port port).stage = 5 ∧ (s.trunk port).quietRx = false ∧ fix = (fun k u => match (s.lanesInUse port)[k]? with | some l => State.setLane l (fun x => { x with errors := x.errors + 1, window := x.window + 1 }) (if port.val < 160 then u.countBy 1 (0x3400 + port) 0x4F else u) | none => if port.val < 160 then u.countBy 1 (0x3400 + port) 0x4F else u) ∧ readWire (widthLanes (s.port port).width) (wire.toList.map BitVec.toNat) = (fixed, some bytes) ∧ c = readControl (numberOf (bytes.take 16)) ∧ c.crcOk = false) ∧
      (∃ (port : Fin 161) (wire : Wire) (fixed : List Nat) (fix : Nat → State → State) (s : State) (bytes : List Nat) (c : Control), s.running = true ∧ s.portRole port = 3 ∧ (s.trunk port).receiver ≠ .down ∧ (s.port port).stage = 5 ∧ (s.trunk port).quietRx = false ∧ fix = (fun k u => match (s.lanesInUse port)[k]? with | some l => State.setLane l (fun x => { x with errors := x.errors + 1, window := x.window + 1 }) (if port.val < 160 then u.countBy 1 (0x3400 + port) 0x4F else u) | none => if port.val < 160 then u.countBy 1 (0x3400 + port) 0x4F else u) ∧ readWire (widthLanes (s.port port).width) (wire.toList.map BitVec.toNat) = (fixed, some bytes) ∧ c = readControl (numberOf (bytes.take 16)) ∧ c.crcOk = true ∧ port.val < 160) ∧
      (∃ (port : Fin 161) (wire : Wire) (fixed : List Nat) (fix : Nat → State → State) (s : State) (bytes : List Nat) (c : Control), s.running = true ∧ s.portRole port = 3 ∧ (s.trunk port).receiver ≠ .down ∧ (s.port port).stage = 5 ∧ (s.trunk port).quietRx = false ∧ fix = (fun k u => match (s.lanesInUse port)[k]? with | some l => State.setLane l (fun x => { x with errors := x.errors + 1, window := x.window + 1 }) (if port.val < 160 then u.countBy 1 (0x3400 + port) 0x4F else u) | none => if port.val < 160 then u.countBy 1 (0x3400 + port) 0x4F else u) ∧ readWire (widthLanes (s.port port).width) (wire.toList.map BitVec.toNat) = (fixed, some bytes) ∧ c = readControl (numberOf (bytes.take 16)) ∧ c.crcOk = true ∧ port.val = 160) ∧
      (∃ (port : Fin 161) (s : State), s.running = true ∧ (s.trunk port).timerOn = true ∧ s.nothingOut port = false ∧ ((s.trunk port).sender = .sending ∨ (s.trunk port).sender = .replaying)) ∧
      (∃ (port : Fin 161) (s : State), s.running = true ∧ (s.trunk port).timerOn = true ∧ s.nothingOut port = false ∧ ((s.trunk port).sender = .sending ∨ (s.trunk port).sender = .replaying)) ∧
      (∃ (port : Fin 161) (s : State), s.running = true ∧ s.portRole port = 3 ∧ (s.port port).stage = 5 ∧ (s.trunk port).quietTx = false) ∧
      (∃ (port : Fin 160) (s : State), s.running = true ∧ s.portRole port = 3 ∧ (s.port port).stage = 5 ∧ (s.trunk port).quietTx = false ∧ s.setting 0x4400 7 ≠ 0 ∧ s.trunkIdle port = true ∧ s.setting 0x4400 7 ≤ s.ep.beat - (s.trunk port).idleSince) ∧
      (∃ (port : Fin 160) (s : State), s.running = true ∧ (s.trunk port).quietTx = true ∧ (s.trunkIdle port = false ∨ s.quietWord port ≠ (s.trunk port).lastWord)) ∧
      (∃ (port : Fin 160) (s : State), s.running = true ∧ s.portRole port = 3 ∧ (s.trunk port).quietRx = true) :=
  ⟨⟨0, farWire, [], _, inSync, by refine ⟨?_, ?_, ?_, ?_, ?_, rfl, test_far_wire⟩ <;> decide +kernel⟩,
      ⟨0, zeroWire, [], _, inSync, bytesIn zeroWire, _, by refine ⟨?_, ?_, ?_, ?_, ?_, rfl, test_zero_wire, rfl, test_zero_wire_check⟩ <;> decide +kernel⟩,
      ⟨0, goodWire, [], _, inSync, bytesIn goodWire, _, by refine ⟨?_, ?_, ?_, ?_, ?_, rfl, test_good_wire, rfl, test_good_wire_check, ?_⟩ <;> decide +kernel⟩,
      ⟨160, goodWire, [], _, inSyncGarnet, bytesIn goodWire, _, by refine ⟨?_, ?_, ?_, ?_, ?_, rfl, test_good_wire, rfl, test_good_wire_check, ?_⟩ <;> decide +kernel⟩,
      ⟨0, { demo with trunks := [(0, { timerOn := true, buffer := [{}], sender := .sending })] }, by decide +kernel⟩,
      ⟨0, { demo with trunks := [(0, { timerOn := true, buffer := [{}], sender := .replaying })] }, by decide +kernel⟩,
      ⟨0, withPort trunkT { stage := 5 }, by decide +kernel⟩,
      ⟨0, { withPort trunkT { stage := 5 } with settings := [(key 0x4400 7, 1)], ep := { live := trunkT, beat := 1 } }, by decide +kernel⟩,
      ⟨0, { demo with trunks := [(0, { quietTx := true, lastWord := 1 })] }, by decide +kernel⟩,
      ⟨0, { withPort trunkT { stage := 5 } with trunks := [(0, { receiver := .inSync, quietRx := true })] }, by decide +kernel⟩⟩

/-- Witnesses: every hypothesis of PoolDevicesAndExtents is met by a state and operands. -/
theorem test_PoolDevicesAndExtents_hypotheses_1 :
    (∃ (d : Fin 256) (ok : Bool) (s : State), s.running = true ∧ (s.device d).state = 2 ∧ ok = false) ∧
      (∃ (d : Fin 256) (ok : Bool) (serial : BitVec 64) (s : State), s.running = true ∧ (s.device d).state = 2 ∧ ok = true ∧ (s.device d).recorded = true ∧ (s.device d).serial ≠ serial.toNat) ∧
      (∃ (d : Fin 256) (ok : Bool) (serial : BitVec 64) (s : State), s.running = true ∧ (s.device d).state = 2 ∧ ok = true ∧ ((s.device d).recorded = false ∨ (s.device d).serial = serial.toNat)) ∧
      (∃ (d : Fin 256) (ok : Bool) (serial : BitVec 64) (s : State), s.running = true ∧ (s.device d).state = 2 ∧ ok = true ∧ ((s.device d).recorded = false ∨ (s.device d).serial = serial.toNat)) ∧
      (∃ (x : Fin 4096) (m : Fin 256) (s : State), s.running = true ∧ (s.extent x).state = 1 ∧ m.val ∈ (s.extent x).scrubLeft ∧ m.val ∉ (s.extent x).scrubbing ∧ s.scrubHeld (s.extent x).was = false ∧ s.masterOpen none none = true ∧ ((∀ t ∈ s.fab.track, t.expired = false → t.extent = some x.val → t.cplPort ≠ s.devPort m))) ∧
      (∃ (x : Fin 4096) (m : Fin 256) (s : State), s.running = true ∧ (s.extent x).state = 1 ∧ m.val ∈ (s.extent x).scrubbing ∧ s.scrubTime x m = true ∧ ((∀ k ∈ (s.extent x).scrubLeft, k = m.val))) ∧
      (∃ (x : Fin 4096) (m : Fin 256) (s : State) (k : Nat), k ∈ (s.extent x).scrubLeft ∧ s.running = true ∧ (s.extent x).state = 1 ∧ m.val ∈ (s.extent x).scrubbing ∧ s.scrubTime x m = true ∧ k ≠ m.val) ∧
      (∃ (x : Fin 4096) (m : Fin 256) (s : State), s.running = true ∧ (s.extent x).state = 1 ∧ m.val ∈ (s.extent x).scrubbing) ∧
      (∃ (x : Fin 4096) (s : State), s.adpOpen = true ∧ (s.extent x).state = 7) ∧
      (∃ (x : Fin 4096) (s : State), s.adpOpen = true ∧ (s.extent x).state ≠ 7) ∧
      (∃ (x : Fin 4096) (s : State), s.adpOpen = true ∧ (s.extent x).state = 2 ∧ s.ofDynamic x = true) ∧
      (∃ (x : Fin 4096) (s : State), s.adpOpen = true ∧ ((s.extent x).state ≠ 2 ∨ s.ofDynamic x = false)) :=
  ⟨⟨0, false, { demo with pool := { devices := [(0, { state := 2 })] } }, by decide +kernel⟩,
      ⟨0, true, 0, { demo with pool := { devices := [(0, { state := 2, recorded := true, serial := 1 })] } }, by decide +kernel⟩,
      ⟨0, true, 1, { demo with pool := { devices := [(0, { state := 2, recorded := true, serial := 1 })] } }, by decide +kernel⟩,
      ⟨255, true, 0, { demo with pool := { devices := [(255, { state := 2 })] } }, by decide +kernel⟩,
      ⟨0, 0, { demo with pool := { extents := [(0, { state := 1, scrubLeft := [0] })] } }, by decide +kernel⟩,
      ⟨0, 0, { demo with pool := { extents := [(0, { state := 1, scrubLeft := [0], scrubbing := [0] })] } }, by decide +kernel⟩,
      ⟨0, 0, { demo with pool := { extents := [(0, { state := 1, scrubLeft := [1], scrubbing := [0], scrubSince := [(0, 0)] })] }, ep := { beat := 1000000000 } }, 1, by decide +kernel⟩,
      ⟨0, 0, { demo with pool := { extents := [(0, { state := 1, scrubbing := [0] })] } }, by decide +kernel⟩,
      ⟨4095, { demo with pool := { extents := [(4095, { state := 7 })] } }, by decide +kernel⟩,
      ⟨0, demo, by decide +kernel⟩,
      ⟨0, { withLive poolT with pool := { extents := [(0, { state := 2 })] } }, by decide +kernel⟩,
      ⟨0, demo, by decide +kernel⟩⟩

/-- Witnesses: every hypothesis of PoolDevicesAndExtents is met by a state and operands. -/
theorem test_PoolDevicesAndExtents_hypotheses_2 :
    (∃ (x : Fin 4096) (s : State), s.running = true ∧ s.ofDynamic x = true ∧ (s.extent x).state = 3) ∧
      (∃ (x : Fin 4096) (s : State), s.running = true ∧ s.ofDynamic x = true ∧ (s.extent x).state = 6 ∧ (s.extent x).before = 3) ∧
      (∃ (x : Fin 4096) (s : State), s.running = true ∧ s.ofDynamic x = true ∧ ((s.extent x).state = 4 ∨ ((s.extent x).state = 6 ∧ (s.extent x).before = 4))) ∧
      (∃ (x : Fin 4096) (s : State), s.running = true ∧ s.ofDynamic x = true ∧ ((s.extent x).state = 4 ∨ ((s.extent x).state = 6 ∧ (s.extent x).before = 4))) ∧
      (∃ (x : Fin 4096) (b : Nat) (s : State), s.running = true ∧ (s.extent x).postedAt = some b ∧ b + s.setting 0x5000 9 ≤ s.ep.beat) :=
  ⟨⟨0, { withLive poolT with pool := { extents := [(0, { state := 3 })] } }, by decide +kernel⟩,
      ⟨0, { withLive poolT with pool := { extents := [(0, { state := 6, before := 3 })] } }, by decide +kernel⟩,
      ⟨0, { withLive poolT with pool := { extents := [(0, { state := 4 })] } }, by decide +kernel⟩,
      ⟨0, { withLive poolT with pool := { extents := [(0, { state := 6, before := 4 })] } }, by decide +kernel⟩,
      ⟨0, 0, { demo with pool := { extents := [(0, { postedAt := some 0 })] }, ep := { beat := 78125000 } }, by decide +kernel⟩⟩

/-- Witnesses: every hypothesis of PoolEndpoints is met by a state and operands. -/
theorem test_PoolEndpoints_hypotheses :
    (∃ (v : Fin 64) (e : Fin 1024) (addr : BitVec 64) (tag : BitVec 16) (data : BitVec 512) (mask : BitVec 64) (poison : Bool) (p : Nat) (a : Nat) (hit : Option (Nat × Nat × Nat)) (m : Bool → MemReq) (covers : Lines → Bool) (s : State), s.running = true ∧ s.portOfVh v = some p ∧ (s.endpIn s.ep.live e).kind = 1 ∧ a = addr.toNat / 64 * 64 ∧ (hit = (if s.endpointOf v e = true ∧ a < (s.endpIn s.ep.live e).size * unitBytes then ownerDecode s.ep.live 1 e a else none)) ∧ m = (fun write => { host := v, extent := hit.map (·.1), dev := (hit.map (·.2.1)).getD 0, dpa := (hit.map (·.2.2)).getD 0, addr := a, write := write, tagNo := tag.toNat, data := data.toNat, mask := mask.toNat, poison := poison, tag := s.ep.epoch % 4 }) ∧ (covers = (fun h => decide (hit.map (·.1) = some h.extent ∧ h.start ≤ a ∧ a < h.start + h.len))) ∧ ((∀ h ∈ s.pool.lines, covers h = true → h.ready = false))) ∧
      (∃ (v : Fin 64) (e : Fin 1024) (addr : BitVec 64) (tag : BitVec 16) (data : BitVec 512) (mask : BitVec 64) (poison : Bool) (p : Nat) (a : Nat) (hit : Option (Nat × Nat × Nat)) (m : Bool → MemReq) (covers : Lines → Bool) (s : State) (h : Lines), s.running = true ∧ s.portOfVh v = some p ∧ (s.endpIn s.ep.live e).kind = 1 ∧ a = addr.toNat / 64 * 64 ∧ (hit = (if s.endpointOf v e = true ∧ a < (s.endpIn s.ep.live e).size * unitBytes then ownerDecode s.ep.live 1 e a else none)) ∧ m = (fun write => { host := v, extent := hit.map (·.1), dev := (hit.map (·.2.1)).getD 0, dpa := (hit.map (·.2.2)).getD 0, addr := a, write := write, tagNo := tag.toNat, data := data.toNat, mask := mask.toNat, poison := poison, tag := s.ep.epoch % 4 }) ∧ (covers = (fun h => decide (hit.map (·.1) = some h.extent ∧ h.start ≤ a ∧ a < h.start + h.len))) ∧ s.pool.lines.find? (fun h => h.ready && covers h) = some h) ∧
      (∃ (x : Fin 4096) (g : Nat) (h : Lines) (s : State), s.running = true ∧ (s.pool.lines.find? (fun h => decide (h.extent = x.val ∧ h.granule = g) && h.ready && decide (h.since + s.setting 0x5000 8 ≤ s.ep.beat)) = some h)) ∧
      (∃ (e : Fin 1024) (s : State), s.endpointUp e = true) ∧
      (∃ (e : Fin 1024) (s : State), s.endpointUp e = true) :=
  ⟨⟨0, 0, 0, 0, 0, 0, false, 0, 0, _, _, _, withLive poolT, by refine ⟨?_, ?_, ?_, ?_, rfl, rfl, rfl, ?_⟩ <;> decide +kernel⟩,
      ⟨0, 0, 0, 0, 0, 0, false, 0, 0, _, _, _, { withLive poolT with pool := { lines := [{ len := 64, ready := true }] } }, { len := 64, ready := true }, by refine ⟨?_, ?_, ?_, ?_, rfl, rfl, rfl, ?_⟩ <;> decide +kernel⟩,
      ⟨0, 0, { ready := true }, { demo with pool := { lines := [{ ready := true }] }, ep := { beat := 1000000000 } }, by decide +kernel⟩,
      ⟨0, { withLive poolT with fab := { bridges := [(0, { presence := true })] } }, by decide +kernel⟩,
      ⟨0, { withLive poolT with fab := { bridges := [(0, { presence := true })] } }, by decide +kernel⟩⟩

/-- Witnesses: every hypothesis of CoherenceRequests is met by a state and operands. -/
theorem test_CoherenceRequests_hypotheses :
    (∃ (v : Fin 64) (r : Fin 256) (p : BitVec 34) (l : Fin 64) (s : State), s.reachesHome r v = true ∧ s.serves r v = true ∧ lineAddr p.toNat l < (s.rgnIn s.ep.live r).size * unitBytes) ∧
      (∃ (v : Fin 64) (r : Fin 256) (p : BitVec 34) (l : Fin 64) (s : State), s.reachesHome r v = true ∧ s.serves r v = true ∧ lineAddr p.toNat l < (s.rgnIn s.ep.live r).size * unitBytes) ∧
      (∃ (v : Fin 64) (r : Fin 256) (p : BitVec 34) (l : Fin 64) (s : State), s.reachesHome r v = true ∧ (s.serves r v = false ∨ (s.rgnIn s.ep.live r).size * unitBytes ≤ lineAddr p.toNat l)) ∧
      (∃ (v : Fin 64) (r : Fin 256) (p : BitVec 34) (l : Fin 64) (s : State), s.reachesHome r v = true ∧ (s.serves r v = false ∨ (s.rgnIn s.ep.live r).size * unitBytes ≤ lineAddr p.toNat l)) ∧
      (∃ (v : Fin 64) (r : Fin 256) (p : BitVec 34) (l : Fin 64) (s : State), s.reachesHome r v = true ∧ (s.serves r v = false ∨ (s.rgnIn s.ep.live r).size * unitBytes ≤ lineAddr p.toNat l)) :=
  ⟨⟨0, 0, 65535, 63, withLive regionT, by decide +kernel⟩,
      ⟨0, 0, 65535, 63, withLive regionT, by decide +kernel⟩,
      ⟨0, 0, 65536, 0, withLive regionT, by decide +kernel⟩,
      ⟨0, 0, 65536, 0, withLive regionT, by decide +kernel⟩,
      ⟨0, 0, 65536, 0, withLive regionT, by decide +kernel⟩⟩

/-- Witnesses: every hypothesis of CoherenceAnswers is met by a state and operands. -/
theorem test_CoherenceAnswers_hypotheses :
    (∃ (v : Fin 64) (r : Fin 256) (s : State), s.serves r v = true ∧ s.hasDeparted r v = false) ∧
      (∃ (v : Fin 64) (r : Fin 256) (s : State), s.serves r v = true ∧ s.hasDeparted r v = false) ∧
      (∃ (v : Fin 64) (r : Fin 256) (s : State), s.serves r v = true ∧ s.hasDeparted r v = false) ∧
      (∃ (v : Fin 64) (r : Fin 256) (s : State), s.hasDeparted r v = true) ∧
      (∃ (s : State), s.running = true) ∧
      (∃ (r : Fin 256) (p : BitVec 34) (e : Entry) (s : State), s.running = true ∧ s.entry r p.toNat = some e ∧ s.pageClear e = true) ∧
      (∃ (r : Fin 256) (p : BitVec 34) (l : Fin 64) (v : Fin 64) (k : HomeSlot) (s : State), s.running = true ∧ s.pendingSlot r p.toNat l v = some k ∧ k.since + s.setting 0x5100 9 ≤ s.ep.beat) ∧
      (∃ (r : Fin 256) (v : Fin 64) (s : State), s.running = true ∧ s.hasDeparted r v = true) :=
  ⟨⟨0, 0, withLive regionT, by decide +kernel⟩,
      ⟨0, 0, withLive regionT, by decide +kernel⟩,
      ⟨0, 0, withLive regionT, by decide +kernel⟩,
      ⟨0, 0, { demo with home := { departed := [{}] } }, by decide +kernel⟩,
      ⟨demo, by decide +kernel⟩,
      ⟨0, 0, { recalling := true }, { demo with home := { entries := [{ recalling := true }] } }, by decide +kernel⟩,
      ⟨0, 0, 0, 63, { state := .sn, pendingSet := [63] }, { demo with home := { slots := [{ state := .sn, pendingSet := [63] }] }, ep := { beat := 7813 } }, by decide +kernel⟩,
      ⟨0, 0, { demo with home := { departed := [{}] } }, by decide +kernel⟩⟩

/-- Witnesses: every hypothesis of LedgerUpkeep is met by a state and operands. -/
theorem test_LedgerUpkeep_hypotheses :
    (∃ (error : Fin 4) (s : State), s.running = true ∧ (s.home.bankState.look (s.home.scrubAt / 16384) 0 = 2 ∨ error = 0)) ∧
      (∃ (error : Fin 4) (s : State), s.running = true ∧ (s.home.bankState.look (s.home.scrubAt / 16384) 0 = 2 ∨ error = 0)) ∧
      (∃ (s : State), s.running = true ∧ s.home.bankState.look (s.home.scrubAt / 16384) 0 ≠ 2) ∧
      (∃ (s : State) (e : Option Entry), s.running = true ∧ s.home.bankState.look (s.home.scrubAt / 16384) 0 ≠ 2 ∧ (s.home.entries.find? (fun e => decide (e.bank = s.home.scrubAt / 16384 ∧ e.set = s.home.scrubAt / 16 % 1024 ∧ e.way = s.home.scrubAt % 16)) = e)) ∧
      (∃ (s : State), s.adpOpen = true) ∧
      (∃ (b : Fin 16) (s : State), s.running = true ∧ s.home.bankState.look b 0 = 1 ∧ ((∀ e ∈ s.home.entries, e.bank ≠ b.val))) ∧
      (∃ (q : BitVec 64) (s : State), s.adpOpen = true ∧ bits q.toNat 55 34 = 0) ∧
      (∃ (q : BitVec 64) (s : State), s.adpOpen = true ∧ bits q.toNat 55 34 ≠ 0) :=
  ⟨⟨0, demo, by decide +kernel⟩,
      ⟨3, { demo with home := { bankState := [(0, 2)] } }, by decide +kernel⟩,
      ⟨demo, by decide +kernel⟩,
      ⟨demo, none, by decide +kernel⟩,
      ⟨demo, by decide +kernel⟩,
      ⟨15, { demo with home := { bankState := [(15, 1)] } }, by decide +kernel⟩,
      ⟨4294967296, demo, by decide +kernel⟩,
      ⟨17179869184, demo, by decide +kernel⟩⟩

/-- Witnesses: every hypothesis of SlotCommandsTakeEffect is met by a state and operands. -/
theorem test_SlotCommandsTakeEffect_hypotheses_1 :
    (∃ (v : Fin 64) (k : Fin 16) (i : Fin 4096) (low : BitVec 44) (ws : List (BitVec 64)) (s : State) (u : State) (x : CmdSlot) (code : Nat), u = s.submitted v k (cmdWords code i low ws) ∧ x = u.slotOf v k ∧ s.commandStarts v k (cmdWords code i low ws) ∧ code = 0x01 ∧ (u.inst x.inst).state = 2 ∧ u.cqInRange x.inst (bits (x.w 2) 13 0) = true ∧ u.vecInRange x.inst (bits (x.w 2) 44 32) = true ∧ u.beryl.cqs.has (bits (x.w 2) 13 0) = false ∧ 6 ≤ bits (x.w 2) 20 16 ∧ bits (x.w 2) 20 16 ≤ 22) ∧
      (∃ (v : Fin 64) (k : Fin 16) (i : Fin 4096) (low : BitVec 44) (ws : List (BitVec 64)) (s : State) (u : State) (x : CmdSlot) (code : Nat), u = s.submitted v k (cmdWords code i low ws) ∧ x = u.slotOf v k ∧ s.commandStarts v k (cmdWords code i low ws) ∧ code = 0x01 ∧ (u.inst x.inst).state = 2 ∧ u.cqInRange x.inst (bits (x.w 2) 13 0) = true ∧ u.vecInRange x.inst (bits (x.w 2) 44 32) = true ∧ u.beryl.cqs.has (bits (x.w 2) 13 0) = false ∧ 6 ≤ bits (x.w 2) 20 16 ∧ bits (x.w 2) 20 16 ≤ 22) ∧
      (∃ (v : Fin 64) (k : Fin 16) (i : Fin 4096) (low : BitVec 44) (ws : List (BitVec 64)) (s : State) (u : State) (x : CmdSlot) (code : Nat), u = s.submitted v k (cmdWords code i low ws) ∧ x = u.slotOf v k ∧ s.commandStarts v k (cmdWords code i low ws) ∧ code = 0x02 ∧ (u.inst x.inst).state = 2 ∧ u.cqInRange x.inst (bits (x.w 1) 13 0) = true ∧ u.beryl.cqs.has (bits (x.w 1) 13 0) = true ∧ ((∀ e ∈ u.beryl.qps, e.2.sendCq ≠ bits (x.w 1) 13 0 ∧ e.2.recvCq ≠ bits (x.w 1) 13 0))) ∧
      (∃ (v : Fin 64) (k : Fin 16) (i : Fin 4096) (low : BitVec 44) (ws : List (BitVec 64)) (s : State) (u : State) (x : CmdSlot) (code : Nat), u = s.submitted v k (cmdWords code i low ws) ∧ x = u.slotOf v k ∧ s.commandStarts v k (cmdWords code i low ws) ∧ code = 0x03 ∧ (u.inst x.inst).state = 2 ∧ u.qpInRange x.inst (bits (x.w 1) 16 0) = true ∧ u.cqInRange x.inst (bits (x.w 1) 45 32) = true ∧ u.cqInRange x.inst (bits (x.w 2) 13 0) = true ∧ u.qpExists (bits (x.w 1) 16 0) = false ∧ u.beryl.cqs.has (bits (x.w 1) 45 32) = true ∧ u.beryl.cqs.has (bits (x.w 2) 13 0) = true ∧ 4 ≤ bits (x.w 2) 20 16 ∧ bits (x.w 2) 20 16 ≤ 16 ∧ 4 ≤ bits (x.w 2) 28 24 ∧ bits (x.w 2) 28 24 ≤ 16 ∧ 4 ≤ bits (x.w 2) 36 32 ∧ bits (x.w 2) 36 32 ≤ 12) ∧
      (∃ (v : Fin 64) (k : Fin 16) (i : Fin 4096) (low : BitVec 44) (ws : List (BitVec 64)) (s : State) (u : State) (x : CmdSlot) (code : Nat), u = s.submitted v k (cmdWords code i low ws) ∧ x = u.slotOf v k ∧ s.commandStarts v k (cmdWords code i low ws) ∧ code = 0x03 ∧ (u.inst x.inst).state = 2 ∧ u.qpInRange x.inst (bits (x.w 1) 16 0) = true ∧ u.cqInRange x.inst (bits (x.w 1) 45 32) = true ∧ u.cqInRange x.inst (bits (x.w 2) 13 0) = true ∧ u.qpExists (bits (x.w 1) 16 0) = false ∧ u.beryl.cqs.has (bits (x.w 1) 45 32) = true ∧ u.beryl.cqs.has (bits (x.w 2) 13 0) = true ∧ 4 ≤ bits (x.w 2) 20 16 ∧ bits (x.w 2) 20 16 ≤ 16 ∧ 4 ≤ bits (x.w 2) 28 24 ∧ bits (x.w 2) 28 24 ≤ 16 ∧ 4 ≤ bits (x.w 2) 36 32 ∧ bits (x.w 2) 36 32 ≤ 12) ∧
      (∃ (v : Fin 64) (k : Fin 16) (i : Fin 4096) (low : BitVec 44) (ws : List (BitVec 64)) (s : State) (u : State) (x : CmdSlot) (code : Nat), u = s.submitted v k (cmdWords code i low ws) ∧ x = u.slotOf v k ∧ s.commandStarts v k (cmdWords code i low ws) ∧ code = 0x04 ∧ (u.inst x.inst).state = 2 ∧ u.qpInRange x.inst (bits (x.w 1) 16 0) = true ∧ u.qpExists (bits (x.w 1) 16 0) = true ∧ (u.qp (bits (x.w 1) 16 0)).state = .reset ∧ bits (x.w 1) 33 32 = 1) ∧
      (∃ (v : Fin 64) (k : Fin 16) (i : Fin 4096) (low : BitVec 44) (ws : List (BitVec 64)) (s : State) (u : State) (x : CmdSlot) (code : Nat), u = s.submitted v k (cmdWords code i low ws) ∧ x = u.slotOf v k ∧ s.commandStarts v k (cmdWords code i low ws) ∧ code = 0x04 ∧ (u.inst x.inst).state = 2 ∧ u.qpInRange x.inst (bits (x.w 1) 16 0) = true ∧ u.qpExists (bits (x.w 1) 16 0) = true ∧ (u.qp (bits (x.w 1) 16 0)).state = .init ∧ bits (x.w 1) 33 32 = 2 ∧ bits (x.w 2) 48 32 % 8 = bits (x.w 1) 16 0 % 8) ∧
      (∃ (v : Fin 64) (k : Fin 16) (i : Fin 4096) (low : BitVec 44) (ws : List (BitVec 64)) (s : State) (u : State) (x : CmdSlot) (code : Nat), u = s.submitted v k (cmdWords code i low ws) ∧ x = u.slotOf v k ∧ s.commandStarts v k (cmdWords code i low ws) ∧ code = 0x04 ∧ (u.inst x.inst).state = 2 ∧ u.qpInRange x.inst (bits (x.w 1) 16 0) = true ∧ u.qpExists (bits (x.w 1) 16 0) = true ∧ (u.qp (bits (x.w 1) 16 0)).state = .ready ∧ bits (x.w 1) 33 32 = 3) ∧
      (∃ (v : Fin 64) (k : Fin 16) (i : Fin 4096) (low : BitVec 44) (ws : List (BitVec 64)) (s : State) (u : State) (x : CmdSlot) (code : Nat), u = s.submitted v k (cmdWords code i low ws) ∧ x = u.slotOf v k ∧ s.commandStarts v k (cmdWords code i low ws) ∧ code = 0x05 ∧ (u.inst x.inst).state = 2 ∧ u.qpInRange x.inst (bits (x.w 1) 16 0) = true ∧ u.qpExists (bits (x.w 1) 16 0) = true ∧ (u.qp (bits (x.w 1) 16 0)).state ≠ .ready) ∧
      (∃ (v : Fin 64) (k : Fin 16) (i : Fin 4096) (low : BitVec 44) (ws : List (BitVec 64)) (s : State) (u : State) (x : CmdSlot) (code : Nat), u = s.submitted v k (cmdWords code i low ws) ∧ x = u.slotOf v k ∧ s.commandStarts v k (cmdWords code i low ws) ∧ code = 0x06 ∧ (u.inst x.inst).state = 2 ∧ u.regInRange x.inst (bits (x.w 1) 19 0) = true ∧ (u.region (bits (x.w 1) 19 0)).state = .free ∧ x.w 3 ≠ 0 ∧ x.w 3 ≤ 2 ^ 48 ∧ x.w 2 + x.w 3 ≤ 2 ^ 64 ∧ (bits (x.w 1) 35 32).testBit 2 = false ∧ (bits (x.w 1) 35 32).testBit 3 = false) ∧
      (∃ (v : Fin 64) (k : Fin 16) (i : Fin 4096) (low : BitVec 44) (ws : List (BitVec 64)) (s : State) (u : State) (x : CmdSlot) (code : Nat), u = s.submitted v k (cmdWords code i low ws) ∧ x = u.slotOf v k ∧ s.commandStarts v k (cmdWords code i low ws) ∧ code = 0x06 ∧ (u.inst x.inst).state = 2 ∧ u.regInRange x.inst (bits (x.w 1) 19 0) = true ∧ (u.region (bits (x.w 1) 19 0)).state = .free ∧ x.w 3 ≠ 0 ∧ x.w 3 ≤ 2 ^ 48 ∧ x.w 2 + x.w 3 ≤ 2 ^ 64 ∧ (bits (x.w 1) 35 32).testBit 2 = false ∧ (bits (x.w 1) 35 32).testBit 3 = false) ∧
      (∃ (v : Fin 64) (k : Fin 16) (i : Fin 4096) (low : BitVec 44) (ws : List (BitVec 64)) (s : State) (u : State) (x : CmdSlot) (code : Nat), u = s.submitted v k (cmdWords code i low ws) ∧ x = u.slotOf v k ∧ s.commandStarts v k (cmdWords code i low ws) ∧ code = 0x07 ∧ (u.inst x.inst).state = 2 ∧ bits (x.w 1) 31 0 ≠ 0 ∧ u.regInRange x.inst (bits (x.w 1) 31 0 / 4096) = true ∧ (u.region (bits (x.w 1) 31 0 / 4096)).state = .valid ∧ (u.region (bits (x.w 1) 31 0 / 4096)).generation = bits (x.w 1) 31 0 % 4096) :=
  ⟨⟨0, 0, 0, 0, [0, 393216], tenant 2 {}, (tenant 2 {}).submitted 0 0 (cmdWords 0x01 0 0 [0, 393216]), ((tenant 2 {}).submitted 0 0 (cmdWords 0x01 0 0 [0, 393216])).slotOf 0 0, 0x01, rfl, rfl, by refine ⟨?_, ?_, ?_, ?_, ?_, ?_, ?_⟩ <;> decide +kernel, by decide +kernel⟩,
      ⟨0, 0, 0, 0, [0, 1441793], tenant 2 {}, (tenant 2 {}).submitted 0 0 (cmdWords 0x01 0 0 [0, 1441793]), ((tenant 2 {}).submitted 0 0 (cmdWords 0x01 0 0 [0, 1441793])).slotOf 0 0, 0x01, rfl, rfl, by refine ⟨?_, ?_, ?_, ?_, ?_, ?_, ?_⟩ <;> decide +kernel, by decide +kernel⟩,
      ⟨0, 0, 0, 0, [0], tenant 2 { cqs := [(0, {})] }, (tenant 2 { cqs := [(0, {})] }).submitted 0 0 (cmdWords 0x02 0 0 [0]), ((tenant 2 { cqs := [(0, {})] }).submitted 0 0 (cmdWords 0x02 0 0 [0])).slotOf 0 0, 0x02, rfl, rfl, by refine ⟨?_, ?_, ?_, ?_, ?_, ?_, ?_⟩ <;> decide +kernel, by decide +kernel⟩,
      ⟨0, 0, 0, 0, [0, 17247240192], tenant 2 { cqs := [(0, {})] }, (tenant 2 { cqs := [(0, {})] }).submitted 0 0 (cmdWords 0x03 0 0 [0, 17247240192]), ((tenant 2 { cqs := [(0, {})] }).submitted 0 0 (cmdWords 0x03 0 0 [0, 17247240192])).slotOf 0 0, 0x03, rfl, rfl, by refine ⟨?_, ?_, ?_, ?_, ?_, ?_, ?_⟩ <;> decide +kernel, by decide +kernel⟩,
      ⟨0, 0, 0, 0, [1, 51809091584], tenant 2 { cqs := [(0, {})] }, (tenant 2 { cqs := [(0, {})] }).submitted 0 0 (cmdWords 0x03 0 0 [1, 51809091584]), ((tenant 2 { cqs := [(0, {})] }).submitted 0 0 (cmdWords 0x03 0 0 [1, 51809091584])).slotOf 0 0, 0x03, rfl, rfl, by refine ⟨?_, ?_, ?_, ?_, ?_, ?_, ?_⟩ <;> decide +kernel, by decide +kernel⟩,
      ⟨0, 0, 0, 0, [4294967296], tenant 2 { qps := [(0, {})] }, (tenant 2 { qps := [(0, {})] }).submitted 0 0 (cmdWords 0x04 0 0 [4294967296]), ((tenant 2 { qps := [(0, {})] }).submitted 0 0 (cmdWords 0x04 0 0 [4294967296])).slotOf 0 0, 0x04, rfl, rfl, by refine ⟨?_, ?_, ?_, ?_, ?_, ?_, ?_⟩ <;> decide +kernel, by decide +kernel⟩,
      ⟨0, 0, 0, 0, [8589934592], tenant 2 { qps := [(0, { state := .init })] }, (tenant 2 { qps := [(0, { state := .init })] }).submitted 0 0 (cmdWords 0x04 0 0 [8589934592]), ((tenant 2 { qps := [(0, { state := .init })] }).submitted 0 0 (cmdWords 0x04 0 0 [8589934592])).slotOf 0 0, 0x04, rfl, rfl, by refine ⟨?_, ?_, ?_, ?_, ?_, ?_, ?_⟩ <;> decide +kernel, by decide +kernel⟩,
      ⟨0, 0, 0, 0, [12884901888], tenant 2 { qps := [(0, { state := .ready })] }, (tenant 2 { qps := [(0, { state := .ready })] }).submitted 0 0 (cmdWords 0x04 0 0 [12884901888]), ((tenant 2 { qps := [(0, { state := .ready })] }).submitted 0 0 (cmdWords 0x04 0 0 [12884901888])).slotOf 0 0, 0x04, rfl, rfl, by refine ⟨?_, ?_, ?_, ?_, ?_, ?_, ?_⟩ <;> decide +kernel, by decide +kernel⟩,
      ⟨0, 0, 0, 0, [0], tenant 2 { qps := [(0, {})] }, (tenant 2 { qps := [(0, {})] }).submitted 0 0 (cmdWords 0x05 0 0 [0]), ((tenant 2 { qps := [(0, {})] }).submitted 0 0 (cmdWords 0x05 0 0 [0])).slotOf 0 0, 0x05, rfl, rfl, by refine ⟨?_, ?_, ?_, ?_, ?_, ?_, ?_⟩ <;> decide +kernel, by decide +kernel⟩,
      ⟨0, 0, 0, 0, [0, 0, 1], tenant 2 {}, (tenant 2 {}).submitted 0 0 (cmdWords 0x06 0 0 [0, 0, 1]), ((tenant 2 {}).submitted 0 0 (cmdWords 0x06 0 0 [0, 0, 1])).slotOf 0 0, 0x06, rfl, rfl, by refine ⟨?_, ?_, ?_, ?_, ?_, ?_, ?_⟩ <;> decide +kernel, by decide +kernel⟩,
      ⟨0, 0, 0, 0, [12884901889, 18446462598732840960, 281474976710656], tenant 2 {}, (tenant 2 {}).submitted 0 0 (cmdWords 0x06 0 0 [12884901889, 18446462598732840960, 281474976710656]), ((tenant 2 {}).submitted 0 0 (cmdWords 0x06 0 0 [12884901889, 18446462598732840960, 281474976710656])).slotOf 0 0, 0x06, rfl, rfl, by refine ⟨?_, ?_, ?_, ?_, ?_, ?_, ?_⟩ <;> decide +kernel, by decide +kernel⟩,
      ⟨0, 0, 0, 0, [1], tenant 2 { regions := [(0, { state := .valid, generation := 1 })] }, (tenant 2 { regions := [(0, { state := .valid, generation := 1 })] }).submitted 0 0 (cmdWords 0x07 0 0 [1]), ((tenant 2 { regions := [(0, { state := .valid, generation := 1 })] }).submitted 0 0 (cmdWords 0x07 0 0 [1])).slotOf 0 0, 0x07, rfl, rfl, by refine ⟨?_, ?_, ?_, ?_, ?_, ?_, ?_⟩ <;> decide +kernel, by decide +kernel⟩⟩

/-- Witnesses: every hypothesis of SlotCommandsTakeEffect is met by a state and operands. -/
theorem test_SlotCommandsTakeEffect_hypotheses_2 :
    (∃ (v : Fin 64) (k : Fin 16) (i : Fin 4096) (low : BitVec 44) (ws : List (BitVec 64)) (s : State) (u : State) (x : CmdSlot) (code : Nat), u = s.submitted v k (cmdWords code i low ws) ∧ x = u.slotOf v k ∧ s.commandStarts v k (cmdWords code i low ws) ∧ code = 0x08 ∧ (u.inst x.inst).state = 2 ∧ u.qpInRange x.inst (bits (x.w 1) 16 0) = true ∧ u.qpExists (bits (x.w 1) 16 0) = true) ∧
      (∃ (v : Fin 64) (k : Fin 16) (i : Fin 4096) (low : BitVec 44) (ws : List (BitVec 64)) (s : State) (u : State) (x : CmdSlot) (code : Nat), u = s.submitted v k (cmdWords code i low ws) ∧ x = u.slotOf v k ∧ s.commandStarts v k (cmdWords code i low ws) ∧ code = 0x20 ∧ (u.inst x.inst).state = 1 ∧ u.twin.served.contains x.inst = false ∧ (u.func v).pasidEn = true ∧ x.w 2 % 4096 = 0 ∧ x.w 3 % 4096 = 0 ∧ x.w 4 % 4096 = 0 ∧ 6 ≤ bits (x.w 1) 28 24 ∧ bits (x.w 1) 28 24 ≤ 16 ∧ bits (x.w 1) 63 32 = 0) ∧
      (∃ (v : Fin 64) (k : Fin 16) (i : Fin 4096) (low : BitVec 44) (ws : List (BitVec 64)) (s : State) (u : State) (x : CmdSlot) (code : Nat), u = s.submitted v k (cmdWords code i low ws) ∧ x = u.slotOf v k ∧ s.commandStarts v k (cmdWords code i low ws) ∧ code = 0x20 ∧ (u.inst x.inst).state = 1 ∧ u.twin.served.contains x.inst = false ∧ (u.func v).pasidEn = true ∧ x.w 2 % 4096 = 0 ∧ x.w 3 % 4096 = 0 ∧ x.w 4 % 4096 = 0 ∧ 6 ≤ bits (x.w 1) 28 24 ∧ bits (x.w 1) 28 24 ≤ 16 ∧ bits (x.w 1) 63 32 = 0) ∧
      (∃ (v : Fin 64) (k : Fin 16) (i : Fin 4096) (low : BitVec 44) (ws : List (BitVec 64)) (s : State) (u : State) (x : CmdSlot) (code : Nat), u = s.submitted v k (cmdWords code i low ws) ∧ x = u.slotOf v k ∧ s.commandStarts v k (cmdWords code i low ws) ∧ code = 0x21 ∧ (u.inst x.inst).state = 2) :=
  ⟨⟨0, 0, 0, 0, [0], tenant 2 { qps := [(0, {})] }, (tenant 2 { qps := [(0, {})] }).submitted 0 0 (cmdWords 0x08 0 0 [0]), ((tenant 2 { qps := [(0, {})] }).submitted 0 0 (cmdWords 0x08 0 0 [0])).slotOf 0 0, 0x08, rfl, rfl, by refine ⟨?_, ?_, ?_, ?_, ?_, ?_, ?_⟩ <;> decide +kernel, by decide +kernel⟩,
      ⟨0, 0, 0, 0, [100663296, 0, 0, 0], tenant 1 {}, (tenant 1 {}).submitted 0 0 (cmdWords 0x20 0 0 [100663296, 0, 0, 0]), ((tenant 1 {}).submitted 0 0 (cmdWords 0x20 0 0 [100663296, 0, 0, 0])).slotOf 0 0, 0x20, rfl, rfl, by refine ⟨?_, ?_, ?_, ?_, ?_, ?_, ?_⟩ <;> decide +kernel, by decide +kernel⟩,
      ⟨0, 0, 0, 0, [268435456, 4096, 8192, 12288], tenant 1 {}, (tenant 1 {}).submitted 0 0 (cmdWords 0x20 0 0 [268435456, 4096, 8192, 12288]), ((tenant 1 {}).submitted 0 0 (cmdWords 0x20 0 0 [268435456, 4096, 8192, 12288])).slotOf 0 0, 0x20, rfl, rfl, by refine ⟨?_, ?_, ?_, ?_, ?_, ?_, ?_⟩ <;> decide +kernel, by decide +kernel⟩,
      ⟨0, 0, 0, 0, [], tenant 2 {}, (tenant 2 {}).submitted 0 0 (cmdWords 0x21 0 0 []), ((tenant 2 {}).submitted 0 0 (cmdWords 0x21 0 0 [])).slotOf 0 0, 0x21, rfl, rfl, by refine ⟨?_, ?_, ?_, ?_, ?_, ?_, ?_⟩ <;> decide +kernel, by decide +kernel⟩⟩

/-- Witnesses: every hypothesis of SlotCommandsWaitOrEnd is met by a state and operands. -/
theorem test_SlotCommandsWaitOrEnd_hypotheses :
    (∃ (v : Fin 64) (k : Fin 16) (i : Fin 4096) (low : BitVec 44) (ws : List (BitVec 64)) (s : State) (c : Instr), c ∈ [Instr.createCq v k i low ws, .destroyCq v k i low ws, .createQp v k i low ws, .modifyQp v k i low ws, .destroyQp v k i low ws, .registerRegion v k i low ws, .revokeRegion v k i low ws, .setCounter v k i low ws, .attach v k i low ws, .detach v k i low ws] ∧ s.running = true ∧ (s.slotOf v k).busy = true) ∧
      (∃ (v : Fin 64) (k : Fin 16) (i : Fin 4096) (low : BitVec 44) (ws : List (BitVec 64)) (code : Nat) (c : Instr) (s : State), (code, c) ∈ [(0x01, Instr.createCq v k i low ws), (0x02, .destroyCq v k i low ws), (0x03, .createQp v k i low ws), (0x04, .modifyQp v k i low ws), (0x05, .destroyQp v k i low ws), (0x06, .registerRegion v k i low ws), (0x07, .revokeRegion v k i low ws), (0x08, .setCounter v k i low ws), (0x20, .attach v k i low ws), (0x21, .detach v k i low ws)] ∧ s.running = true ∧ (s.slotOf v k).busy = false ∧ s.irq.moving.contains 2 = false ∧ (s.submitted v k (cmdWords code i low ws)).conflicts v k = true) ∧
      (∃ (v : Fin 64) (k : Fin 16) (i : Fin 4096) (low : BitVec 44) (ws : List (BitVec 64)) (code : Nat) (c : Instr) (s : State), (code, c) ∈ [(0x01, Instr.createCq v k i low ws), (0x02, .destroyCq v k i low ws), (0x03, .createQp v k i low ws), (0x04, .modifyQp v k i low ws), (0x05, .destroyQp v k i low ws), (0x06, .registerRegion v k i low ws), (0x07, .revokeRegion v k i low ws), (0x08, .setCounter v k i low ws), (0x20, .attach v k i low ws), (0x21, .detach v k i low ws)] ∧ s.running = true ∧ (s.slotOf v k).busy = false ∧ s.irq.moving.contains 2 = false ∧ (s.submitted v k (cmdWords code i low ws)).conflicts v k = true) ∧
      (∃ (v : Fin 64) (k : Fin 16) (s : State), s.running = true ∧ (s.slotOf v k).waiting = true ∧ s.conflicts v k = false) :=
  ⟨⟨0, 0, 0, 0, [], tenant 2 {} |> State.setCmd 0 0 (fun x => { x with busy := true }), Instr.detach 0 0 0 0 [], by decide +kernel⟩,
      ⟨0, 0, 0, 0, [], 0x21, Instr.detach 0 0 0 0 [], { demo with host := { instances := [(0, { state := 2, resetSlot := some 1 })] } }, by decide +kernel⟩,
      ⟨0, 0, 0, 0, [], 0x01, Instr.createCq 0 0 0 0 [], { demo with host := { instances := [(0, { state := 2, resetSlot := some 1 })] } }, by decide +kernel⟩,
      ⟨0, 0, State.setCmd 0 0 (fun x => { x with waiting := true }) demo, by decide +kernel⟩⟩

/-- Witnesses: every hypothesis of Doorbells is met by a state and operands. -/
theorem test_Doorbells_hypotheses :
    (∃ (i : Fin 4096) (q : Fin 131072) (ws : List Wr) (s : State), s.running = true ∧ ((∀ w ∈ ws, w.wf = true)) ∧ (s.inst i).state = 2 ∧ s.qpInRange i q = true ∧ s.qpExists q = true ∧ ((s.qp q).state = .init ∨ (s.qp q).state = .ready)) ∧
      (∃ (i : Fin 4096) (q : Fin 131072) (ws : List Wr) (s : State), s.running = true ∧ ((∀ w ∈ ws, w.wf = true)) ∧ (s.inst i).state = 2 ∧ s.qpInRange i q = true ∧ s.qpExists q = true ∧ ((s.qp q).state = .init ∨ (s.qp q).state = .ready)) ∧
      (∃ (i : Fin 4096) (q : Fin 131072) (ws : List Wr) (s : State), s.running = true ∧ ((∀ w ∈ ws, w.wf = true)) ∧ (s.inst i).state = 2 ∧ s.qpInRange i q = true ∧ s.qpExists q = true ∧ (s.qp q).state = .reset) ∧
      (∃ (i : Fin 4096) (ws : List Wr) (s : State), s.running = true ∧ ((∀ w ∈ ws, w.wf = true)) ∧ (s.inst i).state ≠ 2) ∧
      (∃ (i : Fin 4096) (c : Fin 16384) (s : State), s.running = true ∧ (s.inst i).state = 2 ∧ s.cqInRange i c = false) ∧
      (∃ (i : Fin 4096) (c : Fin 16384) (s : State), s.running = true ∧ (s.inst i).state = 2 ∧ s.cqInRange i c = true ∧ s.beryl.cqs.has c = true) :=
  ⟨⟨0, 1, [], tenant 2 { qps := [(1, { state := .init })] }, by decide +kernel⟩,
      ⟨0, 0, [{}], tenant 2 { qps := [(0, { state := .ready })] }, by decide +kernel⟩,
      ⟨0, 0, [], tenant 2 { qps := [(0, {})] }, by decide +kernel⟩,
      ⟨4095, [], tenant 1 {}, by decide +kernel⟩,
      ⟨0, 2, tenant 2 {}, by decide +kernel⟩,
      ⟨0, 1, tenant 2 { cqs := [(1, {})] }, by decide +kernel⟩⟩

/-- Witnesses: every hypothesis of WorkRequestsAtTheHead is met by a state and operands. -/
theorem test_WorkRequestsAtTheHead_hypotheses :
    (∃ (s : State), s.running = true) :=
  ⟨demo, by decide +kernel⟩

/-- Witnesses: every hypothesis of FramesAtTheQueuePair is met by a state and operands. -/
theorem test_FramesAtTheQueuePair_hypotheses_1 :
    (∃ (f : BFrame) (s : State) (u : State) (t : Nat → Bool → State), s.running = true ∧ f.wf = true ∧ u = s.bump 0x6010 2 ∧ (t = (fun d b => if u.berylContained f = true then u else if u.knownFrame f = false then u.wrongFrame f else if u.mustPark f.dstQp = true then u.contextWait f else if u.rightSource f = false then u.wrongFrame f else if (u.qp f.dstQp).state = .ready ∧ u.canMaster (u.instD (u.qp f.dstQp).inst).vh = false then u.rnrNak f.dstQp f.psn else (u.touch f.dstQp).classify f d b)) ∧ f.op = 1) ∧
      (∃ (f : BFrame) (s : State) (u : State) (t : Nat → Bool → State), s.running = true ∧ f.wf = true ∧ u = s.bump 0x6010 2 ∧ (t = (fun d b => if u.berylContained f = true then u else if u.knownFrame f = false then u.wrongFrame f else if u.mustPark f.dstQp = true then u.contextWait f else if u.rightSource f = false then u.wrongFrame f else if (u.qp f.dstQp).state = .ready ∧ u.canMaster (u.instD (u.qp f.dstQp).inst).vh = false then u.rnrNak f.dstQp f.psn else (u.touch f.dstQp).classify f d b)) ∧ f.op = 1) ∧
      (∃ (f : BFrame) (s : State) (u : State) (t : Nat → Bool → State), s.running = true ∧ f.wf = true ∧ u = s.bump 0x6010 2 ∧ (t = (fun d b => if u.berylContained f = true then u else if u.knownFrame f = false then u.wrongFrame f else if u.mustPark f.dstQp = true then u.contextWait f else if u.rightSource f = false then u.wrongFrame f else if (u.qp f.dstQp).state = .ready ∧ u.canMaster (u.instD (u.qp f.dstQp).inst).vh = false then u.rnrNak f.dstQp f.psn else (u.touch f.dstQp).classify f d b)) ∧ f.op = 2) ∧
      (∃ (f : BFrame) (s : State) (u : State) (t : Nat → Bool → State), s.running = true ∧ f.wf = true ∧ u = s.bump 0x6010 2 ∧ (t = (fun d b => if u.berylContained f = true then u else if u.knownFrame f = false then u.wrongFrame f else if u.mustPark f.dstQp = true then u.contextWait f else if u.rightSource f = false then u.wrongFrame f else if (u.qp f.dstQp).state = .ready ∧ u.canMaster (u.instD (u.qp f.dstQp).inst).vh = false then u.rnrNak f.dstQp f.psn else (u.touch f.dstQp).classify f d b)) ∧ f.op = 3) ∧
      (∃ (f : BFrame) (s : State) (u : State) (t : Nat → Bool → State), s.running = true ∧ f.wf = true ∧ u = s.bump 0x6010 2 ∧ (t = (fun d b => if u.berylContained f = true then u else if u.knownFrame f = false then u.wrongFrame f else if u.mustPark f.dstQp = true then u.contextWait f else if u.rightSource f = false then u.wrongFrame f else if (u.qp f.dstQp).state = .ready ∧ u.canMaster (u.instD (u.qp f.dstQp).inst).vh = false then u.rnrNak f.dstQp f.psn else (u.touch f.dstQp).classify f d b)) ∧ f.op = 4) ∧
      (∃ (f : BFrame) (s : State) (u : State) (t : Nat → Bool → State), s.running = true ∧ f.wf = true ∧ u = s.bump 0x6010 2 ∧ (t = (fun d b => if u.berylContained f = true then u else if u.knownFrame f = false then u.wrongFrame f else if u.mustPark f.dstQp = true then u.contextWait f else if u.rightSource f = false then u.wrongFrame f else if (u.qp f.dstQp).state = .ready ∧ u.canMaster (u.instD (u.qp f.dstQp).inst).vh = false then u.rnrNak f.dstQp f.psn else (u.touch f.dstQp).classify f d b)) ∧ f.op = 5) ∧
      (∃ (f : BFrame) (s : State) (u : State) (t : List Nat → State), s.running = true ∧ f.wf = true ∧ u = s.bump 0x6010 2 ∧ t = (fun d => if u.responseReady f = true then (u.touch f.dstQp).responseFrame f d else u.responseElse f) ∧ f.op = 0x81) ∧
      (∃ (f : BFrame) (s : State) (u : State) (t : List Nat → State), s.running = true ∧ f.wf = true ∧ u = s.bump 0x6010 2 ∧ t = (fun d => if u.responseReady f = true then (u.touch f.dstQp).responseFrame f d else u.responseElse f) ∧ f.op = 0x82) ∧
      (∃ (f : BFrame) (s : State) (u : State) (t : List Nat → State), s.running = true ∧ f.wf = true ∧ u = s.bump 0x6010 2 ∧ t = (fun d => if u.responseReady f = true then (u.touch f.dstQp).responseFrame f d else u.responseElse f) ∧ f.op = 0x83 ∧ f.syndrome = 0) ∧
      (∃ (f : BFrame) (s : State) (u : State) (t : List Nat → State), s.running = true ∧ f.wf = true ∧ u = s.bump 0x6010 2 ∧ t = (fun d => if u.responseReady f = true then (u.touch f.dstQp).responseFrame f d else u.responseElse f) ∧ f.op = 0x83 ∧ f.syndrome = 2) ∧
      (∃ (f : BFrame) (s : State) (u : State) (t : List Nat → State), s.running = true ∧ f.wf = true ∧ u = s.bump 0x6010 2 ∧ t = (fun d => if u.responseReady f = true then (u.touch f.dstQp).responseFrame f d else u.responseElse f) ∧ f.op = 0x83 ∧ f.syndrome = 1) ∧
      (∃ (f : BFrame) (s : State) (u : State) (t : List Nat → State), s.running = true ∧ f.wf = true ∧ u = s.bump 0x6010 2 ∧ t = (fun d => if u.responseReady f = true then (u.touch f.dstQp).responseFrame f d else u.responseElse f) ∧ f.op = 0x83 ∧ 3 ≤ f.syndrome ∧ f.syndrome ≤ 5) :=
  ⟨⟨{ op := 1 }, tenant 2 { qps := [(0, { resident := true, state := .ready })] }, (tenant 2 { qps := [(0, { resident := true, state := .ready })] }).bump 0x6010 2, _, by refine ⟨?_, ?_, rfl, rfl, ?_⟩ <;> decide +kernel⟩,
      ⟨{ op := 1 }, tenant 2 { qps := [(0, { resident := true })] }, (tenant 2 { qps := [(0, { resident := true })] }).bump 0x6010 2, _, by refine ⟨?_, ?_, rfl, rfl, ?_⟩ <;> decide +kernel⟩,
      ⟨{ op := 2 }, tenant 2 { qps := [(0, { resident := true, state := .ready })] }, (tenant 2 { qps := [(0, { resident := true, state := .ready })] }).bump 0x6010 2, _, by refine ⟨?_, ?_, rfl, rfl, ?_⟩ <;> decide +kernel⟩,
      ⟨{ op := 3 }, tenant 2 { qps := [(0, { resident := true, state := .ready })] }, (tenant 2 { qps := [(0, { resident := true, state := .ready })] }).bump 0x6010 2, _, by refine ⟨?_, ?_, rfl, rfl, ?_⟩ <;> decide +kernel⟩,
      ⟨{ op := 4 }, tenant 2 { qps := [(0, { resident := true, state := .ready })] }, (tenant 2 { qps := [(0, { resident := true, state := .ready })] }).bump 0x6010 2, _, by refine ⟨?_, ?_, rfl, rfl, ?_⟩ <;> decide +kernel⟩,
      ⟨{ op := 5 }, tenant 2 { qps := [(0, { resident := true, state := .ready })] }, (tenant 2 { qps := [(0, { resident := true, state := .ready })] }).bump 0x6010 2, _, by refine ⟨?_, ?_, rfl, rfl, ?_⟩ <;> decide +kernel⟩,
      ⟨{ op := 0x81 }, tenant 2 { qps := [(0, { resident := true, state := .ready })] }, (tenant 2 { qps := [(0, { resident := true, state := .ready })] }).bump 0x6010 2, _, by refine ⟨?_, ?_, rfl, rfl, ?_⟩ <;> decide +kernel⟩,
      ⟨{ op := 0x82 }, tenant 2 { qps := [(0, { resident := true, state := .ready })] }, (tenant 2 { qps := [(0, { resident := true, state := .ready })] }).bump 0x6010 2, _, by refine ⟨?_, ?_, rfl, rfl, ?_⟩ <;> decide +kernel⟩,
      ⟨{ op := 0x83 }, tenant 2 { qps := [(0, { resident := true, state := .ready })] }, (tenant 2 { qps := [(0, { resident := true, state := .ready })] }).bump 0x6010 2, _, by refine ⟨?_, ?_, rfl, rfl, ?_, ?_⟩ <;> decide +kernel⟩,
      ⟨{ op := 0x83, syndrome := 2 }, tenant 2 { qps := [(0, { resident := true, state := .ready })] }, (tenant 2 { qps := [(0, { resident := true, state := .ready })] }).bump 0x6010 2, _, by refine ⟨?_, ?_, rfl, rfl, ?_, ?_⟩ <;> decide +kernel⟩,
      ⟨{ op := 0x83, syndrome := 1 }, tenant 2 { qps := [(0, { resident := true, state := .ready })] }, (tenant 2 { qps := [(0, { resident := true, state := .ready })] }).bump 0x6010 2, _, by refine ⟨?_, ?_, rfl, rfl, ?_, ?_⟩ <;> decide +kernel⟩,
      ⟨{ op := 0x83, syndrome := 3 }, tenant 2 { qps := [(0, { resident := true, state := .ready })] }, (tenant 2 { qps := [(0, { resident := true, state := .ready })] }).bump 0x6010 2, _, by refine ⟨?_, ?_, rfl, rfl, ?_, ?_, ?_⟩ <;> decide +kernel⟩⟩

/-- Witnesses: every hypothesis of FramesAtTheQueuePair is met by a state and operands. -/
theorem test_FramesAtTheQueuePair_hypotheses_2 :
    (∃ (f : BFrame) (s : State) (u : State) (t : List Nat → State), s.running = true ∧ f.wf = true ∧ u = s.bump 0x6010 2 ∧ t = (fun d => if u.responseReady f = true then (u.touch f.dstQp).responseFrame f d else u.responseElse f) ∧ f.op = 0x83 ∧ 3 ≤ f.syndrome ∧ f.syndrome ≤ 5) ∧
      (∃ (f : BFrame), f.wf = false) ∧
      (∃ (f : BFrame), f.wf = true ∧ f.op = 1) :=
  ⟨⟨{ op := 0x83, syndrome := 5 }, tenant 2 { qps := [(0, { resident := true, state := .ready })] }, (tenant 2 { qps := [(0, { resident := true, state := .ready })] }).bump 0x6010 2, _, by refine ⟨?_, ?_, rfl, rfl, ?_, ?_, ?_⟩ <;> decide +kernel⟩,
      ⟨{ op := 256 }, by decide +kernel⟩,
      ⟨{ op := 1 }, by decide +kernel⟩⟩

/-- Witnesses: every hypothesis of FetchesTimersAndDelivery is met by a state and operands. -/
theorem test_FetchesTimersAndDelivery_hypotheses :
    (∃ (q : Fin 131072) (s : State) (u : State), s.running = true ∧ s.qpExists q = true ∧ (s.qp q).fetching = true ∧ u = s.masterDone (s.hostPortOf q) (s.qpSlot q) false) ∧
      (∃ (r : Fin 1048576) (s : State) (u : State), s.running = true ∧ (s.region r).fetching = true ∧ u = s.masterDone ((s.portOfVh (s.instD (s.region r).inst).vh).getD 176) (s.regionSlot r) false) ∧
      (∃ (q : Fin 131072) (s : State), s.running = true ∧ (s.qp q).state = .ready ∧ (s.qp q).unacked ≠ (s.qp q).sentPsn ∧ (s.qp q).timerAt + s.setting 0x6001 1 ≤ s.ep.beat ∧ (s.qp q).rnrUntil = none ∧ (s.qp q).retries < s.setting 0x6001 2) ∧
      (∃ (q : Fin 131072) (s : State) (a : Active), s.running = true ∧ (s.qp q).state = .ready ∧ (s.qp q).unacked ≠ (s.qp q).sentPsn ∧ (s.qp q).timerAt + s.setting 0x6001 1 ≤ s.ep.beat ∧ (s.qp q).rnrUntil = none ∧ s.setting 0x6001 2 ≤ (s.qp q).retries ∧ s.ownerOfPsn q (s.qp q).unacked = some a) ∧
      (∃ (q : Fin 131072) (s : State), s.running = true ∧ (s.qp q).state = .ready ∧ (s.qp q).unacked ≠ (s.qp q).sentPsn ∧ (s.qp q).timerAt + s.setting 0x6001 1 ≤ s.ep.beat ∧ (s.qp q).rnrUntil = none ∧ s.setting 0x6001 2 ≤ (s.qp q).retries ∧ s.ownerOfPsn q (s.qp q).unacked = none) ∧
      (∃ (q : Fin 131072) (b : Nat) (s : State), s.running = true ∧ (s.qp q).state = .ready ∧ (s.qp q).rnrUntil = some b ∧ b ≤ s.ep.beat) ∧
      (∃ (q : Fin 131072) (b : Nat) (s : State), s.running = true ∧ (s.qp q).state = .ready ∧ (s.qp q).ackOwed = some b ∧ b < s.ep.beat) ∧
      (∃ (q : Fin 131072) (s : State), s.running = true ∧ (s.qp q).state = .ready ∧ (s.qp q).decreased = true ∧ (s.qp q).rate < (s.qp q).cap ∧ (s.qp q).raisedAt + s.setting 0x6001 0xA ≤ s.ep.beat ∧ (s.ep.beat - (s.qp q).lastDecrease) % s.setting 0x6001 0xA = 0) ∧
      (∃ (q : Fin 131072) (m : Delivery) (r : List Delivery) (s : State) (u : State), s.running = true ∧ (s.qp q).deliver = m :: r ∧ u = (match m.recv with | none => s.setQp q (fun x => { x with deliver := r }) | some w => (s.setQp q (fun x => { x with deliver := r })).complete1 ((s.setQp q (fun x => { x with deliver := r })).qp q).inst ((s.setQp q (fun x => { x with deliver := r })).qp q).recvCq { op := w.op, qp := q, srcQp := m.srcQp, srcEdge := m.srcEdge, tagNo := m.tagNo, queue := 1, bytes := m.length, wrId := w.wrId })) :=
  ⟨⟨0, tenant 2 { qps := [(0, { fetching := true })] }, _, by refine ⟨?_, ?_, ?_, rfl⟩ <;> decide +kernel⟩,
      ⟨0, tenant 2 { regions := [(0, { fetching := true })] }, _, by refine ⟨?_, ?_, rfl⟩ <;> decide +kernel⟩,
      ⟨0, { tenant 2 { qps := [(0, { state := .ready, psn := 1, sentPsn := 1 })] } with ep := { live := instT, beat := 1024 } }, by decide +kernel⟩,
      ⟨0, { tenant 2 { qps := [(0, { state := .ready, psn := 1, sentPsn := 1, retries := 7, active := [{}] })] } with ep := { live := instT, beat := 1024 } }, {}, by decide +kernel⟩,
      ⟨0, { tenant 2 { qps := [(0, { state := .ready, psn := 1, sentPsn := 1, retries := 7 })] } with ep := { live := instT, beat := 1024 } }, by decide +kernel⟩,
      ⟨0, 0, tenant 2 { qps := [(0, { state := .ready, rnrUntil := some 0 })] }, by decide +kernel⟩,
      ⟨0, 0, { tenant 2 { qps := [(0, { state := .ready, ackOwed := some 0 })] } with ep := { live := instT, beat := 1 } }, by decide +kernel⟩,
      ⟨0, { tenant 2 { qps := [(0, { state := .ready, decreased := true, cap := 1 })] } with ep := { live := instT, beat := 64 } }, by decide +kernel⟩,
      ⟨0, {}, [], tenant 2 { qps := [(0, { deliver := [{}] })] }, _, by refine ⟨?_, ?_, rfl⟩ <;> decide +kernel⟩⟩

/-- Witnesses: every hypothesis of RevocationClustersAndDomains is met by a state and operands. -/
theorem test_RevocationClustersAndDomains_hypotheses :
    (∃ (r : Fin 1048576) (s : State), s.running = true ∧ (s.region r).state = .asked) ∧
      (∃ (r : Fin 1048576) (s : State), s.running = true ∧ (s.region r).state = .revoking ∧ s.regionBusy r = false) ∧
      (∃ (c : Fin 8) (s : State), s.adpOpen = true ∧ s.beryl.clusterRetired.look c false = false) ∧
      (∃ (c : Fin 8) (s : State), s.adpOpen = true ∧ s.beryl.clusterRetired.look c false = true) ∧
      (∃ (c : Fin 8) (q : Fin 131072) (s : State), s.running = true ∧ s.qpExists q = true ∧ (s.qp q).resident = true ∧ s.clusterOf q = c) ∧
      (∃ (c : Fin 8) (s : State), s.running = true ∧ s.beryl.clusterPending.look c false = true) ∧
      (∃ (s : State), s.adpOpen = true) ∧
      (∃ (d : Fin 4096) (s : State), s.running = true ∧ s.host.containPending.look d false = true) ∧
      (∃ (s : State), s.adpOpen = true) :=
  ⟨⟨0, tenant 2 { regions := [(0, { state := .asked })] }, by decide +kernel⟩,
      ⟨1048575, tenant 2 { regions := [(1048575, { state := .revoking })] }, by decide +kernel⟩,
      ⟨7, demo, by decide +kernel⟩,
      ⟨7, { demo with beryl := { clusterRetired := [(7, true)] } }, by decide +kernel⟩,
      ⟨7, 7, tenant 2 { qps := [(7, { resident := true })] }, by decide +kernel⟩,
      ⟨7, { demo with beryl := { clusterPending := [(7, true)] } }, by decide +kernel⟩,
      ⟨demo, by decide +kernel⟩,
      ⟨4095, { demo with host := { containPending := [(4095, true)] } }, by decide +kernel⟩,
      ⟨demo, by decide +kernel⟩⟩

/-- Witnesses: every hypothesis of InstanceResetsAndLogSwaps is met by a state and operands. -/
theorem test_InstanceResetsAndLogSwaps_hypotheses :
    (∃ (s : State), s.running = true) ∧
      (∃ (s : State), s.adpOpen = true) ∧
      (∃ (i : Fin 4096) (s : State), s.running = true ∧ (s.inst i).resetAsked ≠ 0) ∧
      (∃ (i : Fin 4096) (s : State), s.running = true ∧ (s.inst i).state = 3 ∧ (s.inst i).resetAt + s.setting 0x60A0 2 ≤ s.ep.beat ∧ s.drained i = false) ∧
      (∃ (i : Fin 4096) (s : State), s.running = true ∧ ((s.inst i).state = 3 ∧ s.drained i = true ∨ (s.inst i).state = 4 ∧ s.squashed i = true)) ∧
      (∃ (i : Fin 4096) (s : State), s.running = true ∧ ((s.inst i).state = 3 ∧ s.drained i = true ∨ (s.inst i).state = 4 ∧ s.squashed i = true)) ∧
      (∃ (v : Fin 64) (k : Fin 256) (i : Nat) (s : State), s.running = true ∧ s.instAt v k = some i ∧ (s.inst i).state = 2 ∧ (s.inst i).logging = true) ∧
      (∃ (v : Fin 64) (k : Fin 256) (i : Nat) (s : State), s.running = true ∧ s.instAt v k = some i ∧ (s.inst i).state = 2 ∧ (s.inst i).logging = false) ∧
      (∃ (v : Fin 64) (k : Fin 256) (i : Nat) (s : State), s.running = true ∧ s.instAt v k = some i ∧ (s.inst i).state ≠ 2) ∧
      (∃ (v : Fin 64) (k : Fin 256) (s : State), s.running = true ∧ s.instAt v k = none) ∧
      (∃ (i : Fin 4096) (s : State), s.running = true ∧ (s.inst i).swapAsked = true) ∧
      (∃ (i : Fin 4096) (s : State), s.running = true ∧ (s.inst i).swapping = true) :=
  ⟨⟨demo, by decide +kernel⟩,
      ⟨demo, by decide +kernel⟩,
      ⟨0, { demo with host := { instances := [(0, { resetAsked := 1 })] } }, by decide +kernel⟩,
      ⟨0, { demo with host := { instances := [(0, { state := 3 })] }, beryl := { qps := [(0, { active := [{}] })] }, ep := { beat := 78125 } }, by decide +kernel⟩,
      ⟨0, tenant 3 {}, by decide +kernel⟩,
      ⟨0, tenant 4 {}, by decide +kernel⟩,
      ⟨0, 0, 0, { tenant 2 {} with host := { instances := [(0, { state := 2, logging := true })] } }, by decide +kernel⟩,
      ⟨0, 0, 0, tenant 2 {}, by decide +kernel⟩,
      ⟨0, 0, 0, tenant 1 {}, by decide +kernel⟩,
      ⟨0, 0, demo, by decide +kernel⟩,
      ⟨0, { demo with host := { instances := [(0, { swapAsked := true })] } }, by decide +kernel⟩,
      ⟨4095, { demo with host := { instances := [(4095, { swapping := true })] } }, by decide +kernel⟩⟩

/-- Witnesses: every hypothesis of ManagementFunctions is met by a state and operands. -/
theorem test_ManagementFunctions_hypotheses_1 :
    (∃ (v : Fin 64) (len : BitVec 13) (s : State) (u : State), s.running = true ∧ u = s.setFunc v (fun f => { f with reqLen := len.toNat }) ∧ (s.func v).mboxBusy = false ∧ (s.func v).respReady = false ∧ len.toNat ≠ 0 ∧ len.toNat ≤ 4096) ∧
      (∃ (v : Fin 64) (len : BitVec 13) (s : State) (u : State), s.running = true ∧ u = s.setFunc v (fun f => { f with reqLen := len.toNat }) ∧ (s.func v).mboxBusy = false ∧ (s.func v).respReady = false ∧ len.toNat ≠ 0 ∧ len.toNat ≤ 4096) ∧
      (∃ (v : Fin 64) (len : BitVec 13) (s : State) (u : State), s.running = true ∧ u = s.setFunc v (fun f => { f with reqLen := len.toNat }) ∧ ((s.func v).mboxBusy = true ∨ (s.func v).respReady = true ∨ len.toNat = 0 ∨ 4096 < len.toNat)) ∧
      (∃ (v : Fin 64) (len : BitVec 13) (s : State) (u : State), s.running = true ∧ u = s.setFunc v (fun f => { f with reqLen := len.toNat }) ∧ ((s.func v).mboxBusy = true ∨ (s.func v).respReady = true ∨ len.toNat = 0 ∨ 4096 < len.toNat)) ∧
      (∃ (v : Fin 64) (s : State), s.running = true ∧ (s.func v).respReady = true ∧ (s.func v).respQueue = []) ∧
      (∃ (v : Fin 64) (s : State) (m : Bool × Nat × List Nat) (r : List (Bool × Nat × List Nat)), s.running = true ∧ (s.func v).respReady = true ∧ (s.func v).respQueue = m :: r) ∧
      (∃ (s : State), s.running = true) ∧
      (∃ (store : Bool) (k : Fin 8192) (s : State), s.running = true ∧ (s.vec store k).timer = 1) ∧
      (∃ (store : Bool) (k : Fin 8192) (s : State), s.running = true ∧ (s.vec store k).pending = true ∧ (s.vec store k).asked = true ∧ s.deliverable store k = true) ∧
      (∃ (v : Fin 64) (s : State), s.running = true ∧ ((s.func v).pmeEn = false ∨ s.pendingVecs v = [])) ∧
      (∃ (v : Fin 64) (s : State), s.running = true ∧ (s.func v).pmeEn = true ∧ s.pendingVecs v ≠ []) ∧
      (∃ (v : Fin 64) (s : State), s.running = true ∧ (s.func v).d3 = false) :=
  ⟨⟨0, 4096, demo, _, by refine ⟨?_, rfl, ?_, ?_, ?_, ?_⟩ <;> decide +kernel⟩,
      ⟨0, 1, demo, _, by refine ⟨?_, rfl, ?_, ?_, ?_, ?_⟩ <;> decide +kernel⟩,
      ⟨0, 4097, demo, _, by refine ⟨?_, rfl, ?_⟩ <;> decide +kernel⟩,
      ⟨0, 0, demo, _, by refine ⟨?_, rfl, ?_⟩ <;> decide +kernel⟩,
      ⟨0, { demo with host := { funcs := [(0, { respReady := true })] } }, by decide +kernel⟩,
      ⟨0, { demo with host := { funcs := [(0, { respReady := true, respQueue := [(false, 1, [1])] })] } }, (false, 1, [1]), [], by decide +kernel⟩,
      ⟨demo, by decide +kernel⟩,
      ⟨true, 8191, { demo with host := { storeVectors := [(8191, { timer := 1 })] } }, by decide +kernel⟩,
      ⟨false, 0, { demo with host := { funcs := [(0, { busMaster := true, msixEn := true })], fnVectors := [(0, { pending := true, asked := true, masked := false })] } }, by decide +kernel⟩,
      ⟨0, demo, by decide +kernel⟩,
      ⟨0, { demo with host := { funcs := [(0, { pmeEn := true })], fnVectors := [(0, { pending := true })] } }, by decide +kernel⟩,
      ⟨0, demo, by decide +kernel⟩⟩

/-- Witnesses: every hypothesis of ManagementFunctions is met by a state and operands. -/
theorem test_ManagementFunctions_hypotheses_2 :
    (∃ (v : Fin 64) (s : State), s.running = true ∧ (s.func v).d3 = true) ∧
      (∃ (i : Fin 262144) (t : Track) (s : State) (u : State), s.running = true ∧ s.track i = some t ∧ t.budget = .master ∧ t.deadline ≤ s.ep.beat ∧ t.expired = false ∧ u = (match t.mvh with | some v => s.setFunc v (fun f => { f with aerUnc := f.aerUnc ||| 2 ^ aerAbort }) | none => s)) ∧
      (∃ (v : Fin 64) (p : Nat) (s : State), s.running = true ∧ s.portOfVh v = some p) ∧
      (∃ (v : Fin 64) (p : Nat) (spdm : Spdm) (keys : Bool) (s : State) (u : State), s.running = true ∧ s.portOfVh v = some p ∧ u = State.setFunc v (fun f => { f with doe := [(spdmAnswer spdm).getD (Config.freeValue 6 s.free)], ideKeys := f.ideKeys || keys }) { s with free := s.free + 1 } ∧ keys = true ∧ ((s.port p).ide = 1 ∨ (s.port p).ide = 3) ∧ (s.port p).stage = 5) ∧
      (∃ (v : Fin 64) (p : Nat) (spdm : Spdm) (keys : Bool) (s : State) (u : State), s.running = true ∧ s.portOfVh v = some p ∧ u = State.setFunc v (fun f => { f with doe := [(spdmAnswer spdm).getD (Config.freeValue 6 s.free)], ideKeys := f.ideKeys || keys }) { s with free := s.free + 1 } ∧ (keys = false ∨ (s.port p).ide ≠ 1 ∧ (s.port p).ide ≠ 3 ∨ (s.port p).stage ≠ 5)) :=
  ⟨⟨0, { demo with host := { funcs := [(0, { d3 := true })] } }, by decide +kernel⟩,
      ⟨0, { budget := .master }, { demo with fab := { track := [{ budget := .master }] } }, _, by refine ⟨?_, ?_, ?_, ?_, ?_, rfl⟩ <;> decide +kernel⟩,
      ⟨0, 0, withLive hostT, by decide +kernel⟩,
      ⟨0, 0, .version, true, withPort hostT { ide := 1, stage := 5 }, _, by refine ⟨?_, ?_, rfl, ?_, ?_, ?_⟩ <;> decide +kernel⟩,
      ⟨0, 0, .other, false, withPort hostT { ide := 1, stage := 5 }, _, by refine ⟨?_, ?_, rfl, ?_⟩ <;> decide +kernel⟩⟩

/-- Witnesses: every hypothesis of CoresInterruptsAndSprout is met by a state and operands. -/
theorem test_CoresInterruptsAndSprout_hypotheses_1 :
    (∃ (value : BitVec 8) (s : State), s.adpOpen = true ∧ 3 < value.toNat) ∧
      (∃ (value : BitVec 8) (s : State), s.adpOpen = true ∧ value.toNat ≤ 3 ∧ ((∀ c ∈ s.stayingCores, c = value.toNat))) ∧
      (∃ (value : BitVec 8) (s : State), s.adpOpen = true ∧ value.toNat ≤ 3 ∧ ((∃ c ∈ s.stayingCores, c ≠ value.toNat)) ∧ s.usableCores.contains value.toNat = true) ∧
      (∃ (value : BitVec 8) (s : State), s.adpOpen = true ∧ value.toNat ≤ 3 ∧ ((∃ c ∈ s.stayingCores, c ≠ value.toNat)) ∧ s.usableCores.contains value.toNat = false) ∧
      (∃ (k : Fin 4) (s : State), s.dieOn = true ∧ s.stayingCores.contains k = true) ∧
      (∃ (set : Fin 4) (s : State), s.dieOn = true ∧ s.irq.moving.contains set.val = true) ∧
      (∃ (s : State), s.dieOn = true) ∧
      (∃ (s : State), s.dieOn = true ∧ s.col.safe = false) ∧
      (∃ (s : State), s.dieOn = true ∧ s.col.safe = true) ∧
      (∃ (k : Fin 4) (s : State), s.dieOn = true ∧ s.usableCores.contains k.val = true ∧ s.claimable k = 0) ∧
      (∃ (k : Fin 4) (s : State), s.dieOn = true ∧ s.usableCores.contains k.val = true ∧ s.claimable k ≠ 0) ∧
      (∃ (k : Fin 4) (value : BitVec 32) (s : State) (u : State), s.dieOn = true ∧ s.usableCores.contains k.val = true ∧ s.irq.inService.look (value.toNat % 512) 0 = k + 1 ∧ u = { s with irq := { s.irq with inService := s.irq.inService.del (value.toNat % 512) } }) :=
  ⟨⟨4, demo, by decide +kernel⟩,
      ⟨3, { demo with irq := { coreRetired := [(0, true), (1, true), (2, true)] } }, by decide +kernel⟩,
      ⟨3, demo, by decide +kernel⟩,
      ⟨3, { demo with irq := { coreRetired := [(3, true)] } }, by decide +kernel⟩,
      ⟨0, demo, by decide +kernel⟩,
      ⟨3, { demo with irq := { moving := [3] } }, by decide +kernel⟩,
      ⟨demo, by decide +kernel⟩,
      ⟨demo, by decide +kernel⟩,
      ⟨{ demo with sup := { state := .safe }, col := { safe := true } }, by decide +kernel⟩,
      ⟨0, demo, by decide +kernel⟩,
      ⟨0, { demo with irq := { pending := [(511, true)], enable := [(511, true)] } }, by decide +kernel⟩,
      ⟨0, 511, { demo with irq := { inService := [(511, 1)] } }, { demo with irq := { inService := [] } }, by refine ⟨?_, ?_, ?_, rfl⟩ <;> decide +kernel⟩⟩

/-- Witnesses: every hypothesis of CoresInterruptsAndSprout is met by a state and operands. -/
theorem test_CoresInterruptsAndSprout_hypotheses_2 :
    (∃ (value : BitVec 32) (s : State), s.dieOn = true ∧ value.toNat < 4) ∧
      (∃ (s : State), s.dieOn = true ∧ s.ep.beat % 781 = 0) ∧
      (∃ (s : State), s.sup.gate = .on) ∧
      (∃ (s : State), s.sup.gate = .on ∧ s.sprout.readFails ≠ 9) ∧
      (∃ (s : State), s.sup.gate = .on ∧ s.sprout.readFails = 9) ∧
      (∃ (s : State), s.dieOn = true ∧ s.irq.sproutAt + 78125 ≤ s.ep.beat) :=
  ⟨⟨3, demo, by decide +kernel⟩,
      ⟨{ demo with ep := { beat := 781 } }, by decide +kernel⟩,
      ⟨demo, by decide +kernel⟩,
      ⟨demo, by decide +kernel⟩,
      ⟨{ demo with sprout := { readFails := 9 } }, by decide +kernel⟩,
      ⟨{ demo with ep := { beat := 78125 } }, by decide +kernel⟩⟩

/-- Witnesses: every hypothesis of FaultCollectorCommands is met by a state and operands. -/
theorem test_FaultCollectorCommands_hypotheses :
    (∃ (n : Fin 40) (s : State), s.running = true ∧ s.col.portPending.contains n.val = true) ∧
      (∃ (port : Fin 160) (s : State), s.adpOpen = true ∧ s.portNamed s.ep.live port = true) ∧
      (∃ (port : Fin 160) (s : State), s.adpOpen = true ∧ s.portNamed s.ep.live port = false) ∧
      (∃ (s : State), s.adpUp = true ∧ s.clearOpen = true) ∧
      (∃ (s : State), s.adpUp = true ∧ s.clearOpen = false) ∧
      (∃ (s : State), s.adpOpen = true) ∧
      (∃ (s : State), s.adpOpen = true) ∧
      (∃ (s : State), s.dieOn = true ∧ s.ep.beat % 16 = 0) :=
  ⟨⟨39, { demo with col := { portPending := [39] } }, by decide +kernel⟩,
      ⟨0, demo, by decide +kernel⟩,
      ⟨1, withLive [(key 0x3001 0x91, 0)], by decide +kernel⟩,
      ⟨demo, by decide +kernel⟩,
      ⟨starting .firmware, by decide +kernel⟩,
      ⟨demo, by decide +kernel⟩,
      ⟨demo, by decide +kernel⟩,
      ⟨{ demo with ep := { beat := 16 } }, by decide +kernel⟩⟩

/-- Witnesses: every hypothesis of TwinFramesAndRecords is met by a state and operands. -/
theorem test_TwinFramesAndRecords_hypotheses_1 :
    (∃ (h : GarnetHead) (stamp : BitVec 64) (n : BitVec 32) (s : State), s.garnetNext h 1 0 [stamp.toNat, n.toNat * 2 ^ 32]) ∧
      (∃ (h : GarnetHead) (records : List Record) (s : State), s.garnetNext h 2 0 (records.map recordWords).flatten ∧ ((∀ r ∈ records, recordWf r = true)) ∧ (records.map (fun r => r.payload.length + 1)).sum ≤ 27 ∧ s.mirroring = true) ∧
      (∃ (h : GarnetHead) (records : List Record) (s : State), s.garnetNext h 2 0 (records.map recordWords).flatten ∧ ((∀ r ∈ records, recordWf r = true)) ∧ (records.map (fun r => r.payload.length + 1)).sum ≤ 27 ∧ s.mirroring = false) ∧
      (∃ (h : GarnetHead) (stamp : BitVec 64) (n : BitVec 32) (s : State), s.garnetUp = true ∧ garnetSpells h 1 0 [stamp.toNat, n.toNat * 2 ^ 32] = true ∧ garnetOk h [stamp.toNat, n.toNat * 2 ^ 32] = false) ∧
      (∃ (h : GarnetHead) (s : State), s.garnetUp = true ∧ garnetSpells h 2 0 [] = true ∧ garnetOk h [] = false) ∧
      (∃ (h : GarnetHead) (s : State), s.garnetUp = true ∧ garnetSpells h 3 4 [] = true ∧ garnetOk h [] = false) ∧
      (∃ (h : GarnetHead) (stamp : BitVec 64) (n : BitVec 32) (s : State), s.garnetUp = true ∧ garnetSpells h 1 0 [stamp.toNat, n.toNat * 2 ^ 32] = false) ∧
      (∃ (h : GarnetHead) (s : State), s.garnetUp = true ∧ garnetOk h [] = true ∧ garnetSeq h ≠ (s.trunk 160).es ∧ ((s.trunk 160).es + 4096 - garnetSeq h) % 4096 ≤ 2048 ∧ garnetSpells h 2 0 [] = true) ∧
      (∃ (h : GarnetHead) (s : State), s.garnetUp = true ∧ garnetOk h [] = true ∧ garnetSeq h ≠ (s.trunk 160).es ∧ ((s.trunk 160).es + 4096 - garnetSeq h) % 4096 ≤ 2048 ∧ garnetSpells h 2 0 [] = true) ∧
      (∃ (h : GarnetHead) (s : State), s.garnetUp = true ∧ garnetOk h [] = true ∧ garnetSeq h ≠ (s.trunk 160).es ∧ ((s.trunk 160).es + 4096 - garnetSeq h) % 4096 ≤ 2048 ∧ garnetSpells h 3 5 [] = true) ∧
      (∃ (h : GarnetHead) (s : State), s.garnetUp = true ∧ garnetOk h [] = true ∧ garnetSeq h ≠ (s.trunk 160).es ∧ 2048 < ((s.trunk 160).es + 4096 - garnetSeq h) % 4096 ∧ garnetSpells h 2 0 [] = true) ∧
      (∃ (h : GarnetHead) (s : State), s.garnetUp = true ∧ garnetOk h [] = true ∧ garnetSeq h ≠ (s.trunk 160).es ∧ 2048 < ((s.trunk 160).es + 4096 - garnetSeq h) % 4096 ∧ garnetSpells h 2 0 [] = true) :=
  ⟨⟨headFor 1 0 0 [0, 0], 0, 0, paired .paired, by refine ⟨?_, ?_, ?_, ?_⟩ <;> decide +kernel⟩,
      ⟨headFor 2 0 0 [3 * 2 ^ 59], [{ kind := 3, fields := [0, 0, 0] }], paired .paired, by refine ⟨?_, ?_, ?_, ?_⟩ <;> decide +kernel, by decide +kernel⟩,
      ⟨headFor 2 0 0 [], [], paired .single, by refine ⟨?_, ?_, ?_, ?_⟩ <;> decide +kernel, by decide +kernel⟩,
      ⟨{}, 0, 0, paired .paired, by decide +kernel⟩,
      ⟨{}, paired .paired, by decide +kernel⟩,
      ⟨{}, paired .paired, by decide +kernel⟩,
      ⟨headFor 2 0 0 [], 0, 0, paired .paired, by decide +kernel⟩,
      ⟨headFor 2 0 0 [], behindBy 1, by decide +kernel⟩,
      ⟨headFor 2 0 0 [], behindBy 2048, by decide +kernel⟩,
      ⟨headFor 3 0 5 [], behindBy 1, by decide +kernel⟩,
      ⟨headFor 2 1 0 [], paired .paired, by decide +kernel⟩,
      ⟨headFor 2 2047 0 [], paired .paired, by decide +kernel⟩⟩

/-- Witnesses: every hypothesis of TwinFramesAndRecords is met by a state and operands. -/
theorem test_TwinFramesAndRecords_hypotheses_2 :
    (∃ (h : GarnetHead) (s : State), s.garnetUp = true ∧ garnetOk h [] = true ∧ garnetSeq h ≠ (s.trunk 160).es ∧ 2048 < ((s.trunk 160).es + 4096 - garnetSeq h) % 4096 ∧ garnetSpells h 3 5 [] = true) ∧
      (∃ (s : State), s.garnetUp = true) ∧
      (∃ (h : GarnetHead) (bank : Fin 16) (set_ : BitVec 10) (s : State), s.garnetNext h 3 7 [bank + 16 * set_.toNat] ∧ s.mirroring = true) ∧
      (∃ (h : GarnetHead) (bank : Fin 16) (set_ : BitVec 10) (s : State), s.garnetNext h 3 7 [bank + 16 * set_.toNat] ∧ s.mirroring = false) :=
  ⟨⟨headFor 3 1 5 [], paired .paired, by decide +kernel⟩,
      ⟨paired .paired, by decide +kernel⟩,
      ⟨headFor 3 0 7 [0], 0, 0, paired .paired, by refine ⟨?_, ?_, ?_, ?_⟩ <;> decide +kernel, by decide +kernel⟩,
      ⟨headFor 3 0 7 [0], 0, 0, paired .single, by refine ⟨?_, ?_, ?_, ?_⟩ <;> decide +kernel, by decide +kernel⟩⟩

/-- Witnesses: every hypothesis of TheTwinIsLost is met by a state and operands. -/
theorem test_TheTwinIsLost_hypotheses :
    (∃ (s : State), s.running = true ∧ s.mirroring = true ∧ s.twin.heartbeat = false ∧ (s.port 160).narrowSince ≠ none) ∧
      (∃ (s : State), s.running = true ∧ s.mirroring = true ∧ s.twin.heartbeat = false ∧ (s.port 160).narrowSince = none ∧ s.twin.state = .paired ∧ 3 ≤ s.twin.missed) ∧
      (∃ (s : State), s.running = true ∧ s.mirroring = true ∧ s.twin.heartbeat = false ∧ (s.port 160).narrowSince = none ∧ (s.twin.state ≠ .paired ∨ s.twin.missed < 3)) ∧
      (∃ (s : State), s.running = true ∧ s.mirroring = true ∧ s.twin.heartbeat = false ∧ (s.port 160).narrowSince = none ∧ (s.twin.state ≠ .paired ∨ s.twin.missed < 3)) ∧
      (∃ (s : State), s.running = true ∧ s.twin.state = .fencing ∧ s.setting 0x9000 2 = 1 ∧ s.pulsing = true) ∧
      (∃ (s : State), s.running = true ∧ s.takeoverDue = true) ∧
      (∃ (h : GarnetHead) (s : State), s.garnetNext h 3 6 [] ∧ s.starting = true) ∧
      (∃ (h : GarnetHead) (s : State), s.garnetNext h 3 6 [] ∧ s.starting = false) ∧
      (∃ (b : Nat) (s : State), s.garnetUp = true ∧ s.twin.state = .takenOver ∧ s.twin.twinState ≠ 0 ∧ s.twin.restartAt = some b ∧ b + 7813 ≤ s.ep.beat) ∧
      (∃ (b : Nat) (s : State), s.garnetUp = true ∧ s.twin.state = .takenOver ∧ s.twin.twinState ≠ 0 ∧ s.twin.restartAt = some b ∧ s.ep.beat < b + 7813) :=
  ⟨⟨{ demo with ports := [(160, { narrowSince := some 0 })], twin := { state := .paired } }, by decide +kernel⟩,
      ⟨{ demo with twin := { state := .paired, missed := 3 } }, by decide +kernel⟩,
      ⟨{ demo with twin := { state := .paired, missed := 2 } }, by decide +kernel⟩,
      ⟨{ demo with twin := { state := .attaching, missed := 3 } }, by decide +kernel⟩,
      ⟨{ demo with settings := [(key 0x9000 2, 1)], twin := { state := .fencing, edges := [0, 0] } }, by decide +kernel⟩,
      ⟨{ demo with twin := { state := .fencing }, ep := { beat := 2048 } }, by decide +kernel⟩,
      ⟨headFor 3 0 6 [], { paired .paired with start := { phase := .firmware } }, by refine ⟨?_, ?_, ?_, ?_⟩ <;> decide +kernel, by decide +kernel⟩,
      ⟨headFor 3 0 6 [], paired .paired, by refine ⟨?_, ?_, ?_, ?_⟩ <;> decide +kernel, by decide +kernel⟩,
      ⟨0, { paired .takenOver with twin := { state := .takenOver, restartAt := some 0 }, ep := { beat := 7813 } }, by decide +kernel⟩,
      ⟨0, { paired .takenOver with twin := { state := .takenOver, restartAt := some 0 }, ep := { beat := 7812 } }, by decide +kernel⟩⟩

/-- Witnesses: every hypothesis of TwinPairing is met by a state and operands. -/
theorem test_TwinPairing_hypotheses_1 :
    (∃ (s : State), s.adpOpen = true ∧ s.setting 0x9000 1 = 1 ∧ (s.port 160).stage = 5 ∧ attachable s.twin.state.code = true ∧ attachable s.twin.twinState = true ∧ (¬ (s.twin.state = .takenOver ∧ s.twin.twinState = 5))) ∧
      (∃ (s : State), s.adpOpen = true ∧ (s.setting 0x9000 1 ≠ 1 ∨ (s.port 160).stage ≠ 5 ∨ attachable s.twin.state.code = false ∨ attachable s.twin.twinState = false ∨ s.twin.state = .takenOver ∧ s.twin.twinState = 5)) ∧
      (∃ (s : State), s.adpOpen = true ∧ (s.setting 0x9000 1 ≠ 1 ∨ (s.port 160).stage ≠ 5 ∨ attachable s.twin.state.code = false ∨ attachable s.twin.twinState = false ∨ s.twin.state = .takenOver ∧ s.twin.twinState = 5)) ∧
      (∃ (s : State), s.adpOpen = true ∧ s.twin.state = .paired) ∧
      (∃ (s : State), s.adpOpen = true ∧ s.twin.state ≠ .paired) ∧
      (∃ (s : State), s.adpOpen = true ∧ s.twin.state = .holding) ∧
      (∃ (s : State), s.adpOpen = true ∧ s.twin.state ≠ .holding) ∧
      (∃ (h : GarnetHead) (s : State), s.garnetNext h 3 1 [] ∧ (s.setting 0x9000 1 = 0 ∨ attachable s.twin.state.code = false)) ∧
      (∃ (h : GarnetHead) (s : State), s.garnetNext h 3 1 [] ∧ (s.setting 0x9000 1 = 0 ∨ attachable s.twin.state.code = false)) ∧
      (∃ (h : GarnetHead) (differs : Fin 8) (s : State), s.garnetNext h 3 1 [] ∧ s.setting 0x9000 1 ≠ 0 ∧ attachable s.twin.state.code = true ∧ s.attachReason differs = 0) ∧
      (∃ (h : GarnetHead) (differs : Fin 8) (s : State), s.garnetNext h 3 1 [] ∧ s.setting 0x9000 1 ≠ 0 ∧ attachable s.twin.state.code = true ∧ s.attachReason differs ≠ 0) ∧
      (∃ (h : GarnetHead) (s : State), s.garnetNext h 3 2 [] ∧ s.twin.attachAsked = true ∧ attachable s.twin.state.code = true) :=
  ⟨⟨{ demo with ports := [(160, { stage := 5 })], settings := [(key 0x9000 1, 1)], twin := { state := .single, twinState := 0 } }, by decide +kernel⟩,
      ⟨demo, by decide +kernel⟩,
      ⟨{ demo with ports := [(160, { stage := 5 })], settings := [(key 0x9000 1, 1)], twin := { state := .takenOver, twinState := 5 } }, by decide +kernel⟩,
      ⟨paired .paired, by decide +kernel⟩,
      ⟨demo, by decide +kernel⟩,
      ⟨paired .holding, by decide +kernel⟩,
      ⟨demo, by decide +kernel⟩,
      ⟨headFor 3 0 1 [], paired .single, by refine ⟨?_, ?_, ?_, ?_⟩ <;> decide +kernel, by decide +kernel⟩,
      ⟨headFor 3 0 1 [], { paired .paired with settings := [(key 0x9000 1, 1)] }, by refine ⟨?_, ?_, ?_, ?_⟩ <;> decide +kernel, by decide +kernel⟩,
      ⟨headFor 3 0 1 [], 0, { paired .holding with settings := [(key 0x9000 1, 1)], twin := { state := .holding, twinSide := 1 } }, by refine ⟨?_, ?_, ?_, ?_⟩ <;> decide +kernel, by decide +kernel⟩,
      ⟨headFor 3 0 1 [], 7, { paired .holding with settings := [(key 0x9000 1, 1)] }, by refine ⟨?_, ?_, ?_, ?_⟩ <;> decide +kernel, by decide +kernel⟩,
      ⟨headFor 3 0 2 [], { paired .holding with twin := { state := .holding, attachAsked := true } }, by refine ⟨?_, ?_, ?_, ?_⟩ <;> decide +kernel, by decide +kernel⟩⟩

/-- Witnesses: every hypothesis of TwinPairing is met by a state and operands. -/
theorem test_TwinPairing_hypotheses_2 :
    (∃ (h : GarnetHead) (s : State), s.garnetNext h 3 2 [] ∧ (s.twin.attachAsked = false ∨ attachable s.twin.state.code = false)) ∧
      (∃ (h : GarnetHead) (reason : BitVec 8) (s : State), s.garnetNext h 3 3 [reason.toNat]) ∧
      (∃ (h : GarnetHead) (reason : BitVec 8) (s : State), s.garnetNext h 3 3 [reason.toNat]) ∧
      (∃ (h : GarnetHead) (s : State), s.garnetNext h 3 4 [] ∧ s.twin.state = .attaching ∧ s.twin.syncAcked = true) ∧
      (∃ (h : GarnetHead) (s : State), s.garnetNext h 3 4 [] ∧ s.twin.state = .attaching ∧ s.twin.syncAcked = false) ∧
      (∃ (h : GarnetHead) (s : State), s.garnetNext h 3 4 [] ∧ s.twin.state ≠ .attaching) ∧
      (∃ (h : GarnetHead) (s : State), s.garnetNext h 3 5 [] ∧ s.twin.state = .paired) ∧
      (∃ (h : GarnetHead) (s : State), s.garnetNext h 3 5 [] ∧ s.twin.state ≠ .paired) ∧
      (∃ (region : BitVec 16) (s : State), s.adpOpen = true ∧ 255 < region.toNat) ∧
      (∃ (region : BitVec 16) (s : State), s.adpOpen = true ∧ region.toNat ≤ 255 ∧ s.twin.state = .paired ∧ (s.rgnIn s.ep.live region.toNat).valid = true ∧ s.homeOf region.toNat = 0 ∧ s.twin.moving = none) ∧
      (∃ (region : BitVec 16) (s : State), s.adpOpen = true ∧ region.toNat ≤ 255 ∧ (s.twin.state ≠ .paired ∨ (s.rgnIn s.ep.live region.toNat).valid = false ∨ s.homeOf region.toNat ≠ 0 ∨ s.twin.moving ≠ none)) ∧
      (∃ (h : GarnetHead) (region : Fin 256) (s : State), s.garnetNext h 3 8 [region] ∧ s.twin.state = .paired) :=
  ⟨⟨headFor 3 0 2 [], paired .holding, by refine ⟨?_, ?_, ?_, ?_⟩ <;> decide +kernel, by decide +kernel⟩,
      ⟨headFor 3 0 3 [0], 0, paired .holding, by refine ⟨?_, ?_, ?_, ?_⟩ <;> decide +kernel⟩,
      ⟨headFor 3 0 3 [255], 255, paired .holding, by refine ⟨?_, ?_, ?_, ?_⟩ <;> decide +kernel⟩,
      ⟨headFor 3 0 4 [], { paired .attaching with twin := { state := .attaching, syncAcked := true } }, by refine ⟨?_, ?_, ?_, ?_⟩ <;> decide +kernel, by decide +kernel⟩,
      ⟨headFor 3 0 4 [], paired .attaching, by refine ⟨?_, ?_, ?_, ?_⟩ <;> decide +kernel, by decide +kernel⟩,
      ⟨headFor 3 0 4 [], paired .single, by refine ⟨?_, ?_, ?_, ?_⟩ <;> decide +kernel, by decide +kernel⟩,
      ⟨headFor 3 0 5 [], paired .paired, by refine ⟨?_, ?_, ?_, ?_⟩ <;> decide +kernel, by decide +kernel⟩,
      ⟨headFor 3 0 5 [], paired .single, by refine ⟨?_, ?_, ?_, ?_⟩ <;> decide +kernel, by decide +kernel⟩,
      ⟨256, demo, by decide +kernel⟩,
      ⟨255, { withLive [(key 0x5030 255, 2 ^ 63 + 2 ^ 43)] with twin := { state := .paired } }, by decide +kernel⟩,
      ⟨255, demo, by decide +kernel⟩,
      ⟨headFor 3 0 8 [255], 255, paired .paired, by refine ⟨?_, ?_, ?_, ?_⟩ <;> decide +kernel, by decide +kernel⟩⟩

/-- Witnesses: every hypothesis of TwinPairing is met by a state and operands. -/
theorem test_TwinPairing_hypotheses_3 :
    (∃ (h : GarnetHead) (region : Fin 256) (s : State), s.garnetNext h 3 8 [region] ∧ s.twin.state ≠ .paired) ∧
      (∃ (s : State), s.adpUp = true) ∧
      (∃ (s : State), s.adpOpen = true) :=
  ⟨⟨headFor 3 0 8 [0], 0, paired .single, by refine ⟨?_, ?_, ?_, ?_⟩ <;> decide +kernel, by decide +kernel⟩,
      ⟨demo, by decide +kernel⟩,
      ⟨demo, by decide +kernel⟩⟩

/-- Witnesses: every hypothesis of AdpHandshakes is met by a state and operands. -/
theorem test_AdpHandshakes_hypotheses_1 :
    (∃ (path : AdpPath) (version : BitVec 8) (s : State), s.adpListens path ∧ version ≠ 1#8) ∧
      (∃ (path : AdpPath) (version : BitVec 8) (s : State), s.adpListens path ∧ version = 1#8 ∧ s.irq.moving.contains 0 = true) ∧
      (∃ (path : AdpPath) (version : BitVec 8) (s : State), s.adpListens path ∧ version = 1#8 ∧ s.irq.moving.contains 0 = false ∧ s.anchorsValid = [] ∧ mailboxOf path ≠ none) ∧
      (∃ (path : AdpPath) (version : BitVec 8) (level : BitVec 8) (chainLen : BitVec 16) (s : State), s.adpListens path ∧ version = 1#8 ∧ s.irq.moving.contains 0 = false ∧ ((s.anchorsValid ≠ [] ∨ mailboxOf path = none)) ∧ (level.toNat = 0 ∨ 3 < level.toNat ∨ chainLen.toNat = 0 ∨ 8192 < chainLen.toNat)) ∧
      (∃ (path : AdpPath) (version : BitVec 8) (level : BitVec 8) (chainLen : BitVec 16) (s : State), s.adpListens path ∧ version = 1#8 ∧ s.irq.moving.contains 0 = false ∧ ((s.anchorsValid ≠ [] ∨ mailboxOf path = none)) ∧ (level.toNat = 0 ∨ 3 < level.toNat ∨ chainLen.toNat = 0 ∨ 8192 < chainLen.toNat)) ∧
      (∃ (path : AdpPath) (version : BitVec 8) (level : BitVec 8) (chainLen : BitVec 16) (s : State), s.adpListens path ∧ version = 1#8 ∧ s.irq.moving.contains 0 = false ∧ ((s.anchorsValid ≠ [] ∨ mailboxOf path = none)) ∧ (level.toNat = 0 ∨ 3 < level.toNat ∨ chainLen.toNat = 0 ∨ 8192 < chainLen.toNat)) ∧
      (∃ (path : AdpPath) (version : BitVec 8) (level : BitVec 8) (chainLen : BitVec 16) (s : State), s.adpListens path ∧ version = 1#8 ∧ s.irq.moving.contains 0 = false ∧ ((s.anchorsValid ≠ [] ∨ mailboxOf path = none)) ∧ 1 ≤ level.toNat ∧ level.toNat ≤ 3 ∧ 1 ≤ chainLen.toNat ∧ chainLen.toNat ≤ 8192 ∧ (s.sessionsFull (mailboxOf path) = true ∨ 4 ≤ s.halfOpen.length)) ∧
      (∃ (path : AdpPath) (version : BitVec 8) (level : BitVec 8) (chainLen : BitVec 16) (s : State), s.adpListens path ∧ version = 1#8 ∧ s.irq.moving.contains 0 = false ∧ ((s.anchorsValid ≠ [] ∨ mailboxOf path = none)) ∧ 1 ≤ level.toNat ∧ level.toNat ≤ 3 ∧ 1 ≤ chainLen.toNat ∧ chainLen.toNat ≤ 8192 ∧ s.sessionsFull (mailboxOf path) = false ∧ s.halfOpen.length < 4) ∧
      (∃ (path : AdpPath) (version : BitVec 8) (level : BitVec 8) (chainLen : BitVec 16) (s : State), s.adpListens path ∧ version = 1#8 ∧ s.irq.moving.contains 0 = false ∧ ((s.anchorsValid ≠ [] ∨ mailboxOf path = none)) ∧ 1 ≤ level.toNat ∧ level.toNat ≤ 3 ∧ 1 ≤ chainLen.toNat ∧ chainLen.toNat ≤ 8192 ∧ s.sessionsFull (mailboxOf path) = false ∧ s.halfOpen.length < 4) ∧
      (∃ (path : AdpPath) (session : BitVec 32) (s : State), s.adpListens path ∧ s.handshake path session.toNat = none) ∧
      (∃ (path : AdpPath) (session : BitVec 32) (s : State) (x : Session), s.adpListens path ∧ s.handshake path session.toNat = some x ∧ s.irq.moving.contains 0 = true) ∧
      (∃ (path : AdpPath) (session : BitVec 32) (offset : BitVec 16) (len : Fin 1025) (x : Session) (s : State), s.adpListens path ∧ s.handshake path session.toNat = some x ∧ s.irq.moving.contains 0 = false ∧ offset.toNat ≤ x.chainGot ∧ offset.toNat + len.val ≤ x.chainLen) :=
  ⟨⟨.segmentA, 2, demo, by refine ⟨?_, ?_⟩ <;> decide +kernel, by decide +kernel⟩,
      ⟨.segmentA, 1, { demo with irq := { moving := [0] } }, by refine ⟨?_, ?_⟩ <;> decide +kernel, by decide +kernel⟩,
      ⟨.mailbox 0, 1, { demo with host := { funcs := [(0, { mboxBusy := true })] } }, by refine ⟨?_, ?_⟩ <;> decide +kernel, by decide +kernel⟩,
      ⟨.segmentA, 1, 4, 1, demo, by refine ⟨?_, ?_⟩ <;> decide +kernel, by decide +kernel⟩,
      ⟨.segmentA, 1, 3, 8193, demo, by refine ⟨?_, ?_⟩ <;> decide +kernel, by decide +kernel⟩,
      ⟨.segmentA, 1, 0, 8192, demo, by refine ⟨?_, ?_⟩ <;> decide +kernel, by decide +kernel⟩,
      ⟨.segmentA, 1, 3, 8192, withSession { number := 1, halfOpen := false }, by refine ⟨?_, ?_⟩ <;> decide +kernel, by decide +kernel⟩,
      ⟨.segmentA, 1, 3, 8192, demo, by refine ⟨?_, ?_⟩ <;> decide +kernel, by decide +kernel⟩,
      ⟨.segmentA, 1, 1, 1, demo, by refine ⟨?_, ?_⟩ <;> decide +kernel, by decide +kernel⟩,
      ⟨.segmentA, 1, demo, by refine ⟨?_, ?_⟩ <;> decide +kernel, by decide +kernel⟩,
      ⟨.segmentA, 1, { withSession { number := 1 } with irq := { moving := [0] } }, { number := 1 }, by refine ⟨?_, ?_⟩ <;> decide +kernel, by decide +kernel⟩,
      ⟨.segmentA, 1, 7168, 1024, { number := 1, chainLen := 8192, chainGot := 7168 }, withSession { number := 1, chainLen := 8192, chainGot := 7168 }, by refine ⟨?_, ?_⟩ <;> decide +kernel, by decide +kernel⟩⟩

/-- Witnesses: every hypothesis of AdpHandshakes is met by a state and operands. -/
theorem test_AdpHandshakes_hypotheses_2 :
    (∃ (path : AdpPath) (session : BitVec 32) (offset : BitVec 16) (len : Fin 1025) (x : Session) (s : State), s.adpListens path ∧ s.handshake path session.toNat = some x ∧ s.irq.moving.contains 0 = false ∧ (x.chainGot < offset.toNat ∨ x.chainLen < offset.toNat + len.val)) ∧
      (∃ (path : AdpPath) (session : BitVec 32) (signatureOk : Bool) (x : Session) (s : State), s.adpListens path ∧ s.handshake path session.toNat = some x ∧ s.irq.moving.contains 0 = false ∧ (signatureOk = false ∨ x.chainGot ≠ x.chainLen)) ∧
      (∃ (path : AdpPath) (session : BitVec 32) (signatureOk : Bool) (chainOk : Bool) (selfSigned : Bool) (anchor : Option (Fin 64)) (x : Session) (s : State) (c : Nat), s.adpListens path ∧ s.handshake path session.toNat = some x ∧ s.irq.moving.contains 0 = false ∧ signatureOk = true ∧ x.chainGot = x.chainLen ∧ s.sessionGrant x chainOk anchor selfSigned = .error c) ∧
      (∃ (path : AdpPath) (session : BitVec 32) (signatureOk : Bool) (chainOk : Bool) (selfSigned : Bool) (anchor : Option (Fin 64)) (x : Session) (s : State) (a : Option Nat) (level : Nat) (dom : Nat), s.adpListens path ∧ s.handshake path session.toNat = some x ∧ s.irq.moving.contains 0 = false ∧ signatureOk = true ∧ x.chainGot = x.chainLen ∧ s.sessionGrant x chainOk anchor selfSigned = .ok (a, level, dom) ∧ s.sessionsFull (mailboxOf path) = true) ∧
      (∃ (path : AdpPath) (session : BitVec 32) (signatureOk : Bool) (chainOk : Bool) (selfSigned : Bool) (anchor : Option (Fin 64)) (x : Session) (s : State) (a : Option Nat) (level : Nat) (dom : Nat), s.adpListens path ∧ s.handshake path session.toNat = some x ∧ s.irq.moving.contains 0 = false ∧ signatureOk = true ∧ x.chainGot = x.chainLen ∧ s.sessionGrant x chainOk anchor selfSigned = .ok (a, level, dom) ∧ s.sessionsFull (mailboxOf path) = false) ∧
      (∃ (n : BitVec 32) (x : Session) (s : State), s.dieOn = true ∧ x ∈ s.adp.sessions ∧ x.number = n.toNat ∧ x.halfOpen = true ∧ x.helloBeat + s.setting 0x1101 1 ≤ s.ep.beat) ∧
      (∃ (n : BitVec 32) (x : Session) (s : State), s.dieOn = true ∧ x ∈ s.adp.sessions ∧ x.number = n.toNat ∧ x.halfOpen = false ∧ x.lastBeat + s.setting 0x1101 2 ≤ s.ep.beat) :=
  ⟨⟨.segmentA, 1, 1, 0, { number := 1, chainLen := 8192 }, withSession { number := 1, chainLen := 8192 }, by refine ⟨?_, ?_⟩ <;> decide +kernel, by decide +kernel⟩,
      ⟨.segmentA, 1, false, { number := 1 }, withSession { number := 1 }, by refine ⟨?_, ?_⟩ <;> decide +kernel, by decide +kernel⟩,
      ⟨.segmentA, 1, true, true, false, none, { number := 1 }, withSession { number := 1 }, 4, by refine ⟨(by refine ⟨?_, ?_⟩ <;> decide +kernel), ?_, ?_, ?_, ?_, rfl⟩ <;> decide +kernel⟩,
      ⟨.segmentA, 2, true, true, true, none, { number := 2 }, { demo with adp := { upA := true, sessions := [{ number := 1, halfOpen := false }, { number := 2 }] } }, none, 3, 0, by refine ⟨(by refine ⟨?_, ?_⟩ <;> decide +kernel), ?_, ?_, ?_, ?_, rfl, ?_⟩ <;> decide +kernel⟩,
      ⟨.segmentA, 1, true, true, true, none, { number := 1 }, withSession { number := 1 }, none, 3, 0, by refine ⟨(by refine ⟨?_, ?_⟩ <;> decide +kernel), ?_, ?_, ?_, ?_, rfl, ?_⟩ <;> decide +kernel⟩,
      ⟨1, { number := 1 }, { withSession { number := 1 } with ep := { beat := 7812500 } }, by decide +kernel⟩,
      ⟨1, { number := 1, halfOpen := false }, { withSession { number := 1, halfOpen := false } with ep := { beat := 234375000 } }, by decide +kernel⟩⟩

/-- Witnesses: every hypothesis of AdpMessages is met by a state and operands. -/
theorem test_AdpMessages_hypotheses_1 :
    (∃ (h : AdpHead) (s : State), s.adpListens h.path ∧ h.version ≠ 1#8) ∧
      (∃ (h : AdpHead) (x : Session) (s : State), s.adpListens h.path ∧ h.version = 1#8 ∧ (s.openSessions.find? (fun y => decide (y.number = h.session ∧ y.mailbox = mailboxOf h.path)) = some x) ∧ h.tagOk = false ∧ x.tagFails < 15) ∧
      (∃ (h : AdpHead) (x : Session) (s : State), s.adpListens h.path ∧ h.version = 1#8 ∧ (s.openSessions.find? (fun y => decide (y.number = h.session ∧ y.mailbox = mailboxOf h.path)) = some x) ∧ h.tagOk = false ∧ 15 ≤ x.tagFails) ∧
      (∃ (h : AdpHead) (x : Session) (s : State), s.adpListens h.path ∧ h.version = 1#8 ∧ (s.openSessions.find? (fun y => decide (y.number = h.session ∧ y.mailbox = mailboxOf h.path)) = some x) ∧ h.tagOk = true ∧ h.seq < 2 ^ 32 ∧ x.isNew h.seq = false ∧ x.kept.find? (fun r => decide (r.seq = h.seq)) = none) ∧
      (∃ (h : AdpHead) (x : Session) (s : State) (r : Response), s.adpListens h.path ∧ h.version = 1#8 ∧ (s.openSessions.find? (fun y => decide (y.number = h.session ∧ y.mailbox = mailboxOf h.path)) = some x) ∧ h.tagOk = true ∧ h.seq < 2 ^ 32 ∧ x.isNew h.seq = false ∧ x.kept.find? (fun r => decide (r.seq = h.seq)) = some r) ∧
      (∃ (h : AdpHead) (x : Session) (s : State), s.adpNew h x) ∧
      (∃ (h : AdpHead) (x : Session) (s : State), s.adpNew h x ∧ s.irq.moving.contains 0 = true) ∧
      (∃ (h : AdpHead) (x : Session) (s : State), s.adpNew h x ∧ s.irq.moving.contains 0 = false ∧ 1 ≤ x.level ∧ h.bodyOk = false) ∧
      (∃ (h : AdpHead) (x : Session) (s : State), s.adpNew h x ∧ s.irq.moving.contains 0 = false ∧ 1 ≤ x.level ∧ h.bodyOk = true) ∧
      (∃ (h : AdpHead) (x : Session) (s : State), s.adpNew h x ∧ s.irq.moving.contains 0 = false ∧ 1 ≤ x.level ∧ h.bodyOk = true ∧ s.starting = true) ∧
      (∃ (h : AdpHead) (x : Session) (s : State), s.adpNew h x ∧ s.irq.moving.contains 0 = false ∧ 1 ≤ x.level ∧ h.bodyOk = true ∧ s.starting = false) ∧
      (∃ (h : AdpHead) (x : Session) (s : State), s.adpNew h x ∧ s.irq.moving.contains 0 = false ∧ 1 ≤ x.level ∧ x.level < 2) :=
  ⟨⟨{ version := 2 }, demo, by refine ⟨?_, ?_⟩ <;> decide +kernel, by decide +kernel⟩,
      ⟨{ session := 1, tagOk := false }, { number := 1, halfOpen := false, tagFails := 14 }, withSession { number := 1, halfOpen := false, tagFails := 14 }, by refine ⟨?_, ?_⟩ <;> decide +kernel, by decide +kernel⟩,
      ⟨{ session := 1, tagOk := false }, { number := 1, halfOpen := false, tagFails := 15 }, withSession { number := 1, halfOpen := false, tagFails := 15 }, by refine ⟨?_, ?_⟩ <;> decide +kernel, by decide +kernel⟩,
      ⟨{ session := 1 }, { number := 1, halfOpen := false }, withSession { number := 1, halfOpen := false }, by refine ⟨?_, ?_⟩ <;> decide +kernel, by decide +kernel⟩,
      ⟨{ session := 1 }, { number := 1, halfOpen := false, kept := [{}] }, withSession { number := 1, halfOpen := false, kept := [{}] }, {}, by refine ⟨?_, ?_⟩ <;> decide +kernel, by decide +kernel⟩,
      ⟨{ session := 1, seq := 4294967295 }, { number := 1, halfOpen := false, level := 3 }, withSession { number := 1, halfOpen := false, level := 3 }, by refine ⟨⟨?_, ?_⟩, ?_, ?_, ?_, ?_, ?_⟩ <;> decide +kernel⟩,
      ⟨{ session := 1, seq := 1 }, { number := 1, halfOpen := false, level := 3 }, { withSession { number := 1, halfOpen := false, level := 3 } with irq := { moving := [0] } }, by refine ⟨⟨?_, ?_⟩, ?_, ?_, ?_, ?_, ?_⟩ <;> decide +kernel, by decide +kernel⟩,
      ⟨{ session := 1, seq := 1, bodyOk := false }, { number := 1, halfOpen := false, level := 1 }, withSession { number := 1, halfOpen := false, level := 1 }, by refine ⟨⟨?_, ?_⟩, ?_, ?_, ?_, ?_, ?_⟩ <;> decide +kernel, by decide +kernel⟩,
      ⟨{ session := 1, seq := 1 }, { number := 1, halfOpen := false, level := 1 }, withSession { number := 1, halfOpen := false, level := 1 }, by refine ⟨⟨?_, ?_⟩, ?_, ?_, ?_, ?_, ?_⟩ <;> decide +kernel, by decide +kernel⟩,
      ⟨{ session := 1, seq := 1 }, { number := 1, halfOpen := false, level := 1 }, { withSession { number := 1, halfOpen := false, level := 1 } with start := { phase := .firmware } }, by refine ⟨⟨?_, ?_⟩, ?_, ?_, ?_, ?_, ?_⟩ <;> decide +kernel, by decide +kernel⟩,
      ⟨{ session := 1, seq := 1 }, { number := 1, halfOpen := false, level := 1 }, withSession { number := 1, halfOpen := false, level := 1 }, by refine ⟨⟨?_, ?_⟩, ?_, ?_, ?_, ?_, ?_⟩ <;> decide +kernel, by decide +kernel⟩,
      ⟨{ session := 1, seq := 1 }, { number := 1, halfOpen := false, level := 1 }, withSession { number := 1, halfOpen := false, level := 1 }, by refine ⟨⟨?_, ?_⟩, ?_, ?_, ?_, ?_, ?_⟩ <;> decide +kernel, by decide +kernel⟩⟩

/-- Witnesses: every hypothesis of AdpMessages is met by a state and operands. -/
theorem test_AdpMessages_hypotheses_2 :
    (∃ (h : AdpHead) (x : Session) (s : State) (token : BitVec 32) (cycle : Fin 256), s.adpNew h x ∧ s.irq.moving.contains 0 = false ∧ 1 ≤ x.level ∧ 2 ≤ x.level ∧ h.bodyOk = true ∧ x.unclaimed = false ∧ statusOf (exec (.commitRequest token cycle) (s.adpTaken h x)) = 0) ∧
      (∃ (h : AdpHead) (x : Session) (s : State) (token : BitVec 32) (cycle : Fin 256) (c : Nat), s.adpNew h x ∧ s.irq.moving.contains 0 = false ∧ 1 ≤ x.level ∧ 2 ≤ x.level ∧ h.bodyOk = true ∧ c = (if x.unclaimed = true then 4 else statusOf (exec (.commitRequest token cycle) (s.adpTaken h x))) ∧ c ≠ 0) ∧
      (∃ (h : AdpHead) (x : Session) (s : State) (items : List AdpItem), s.adpNew h x ∧ s.irq.moving.contains 0 = false ∧ 1 ≤ x.level ∧ ((∀ i ∈ items, i.wf = true)) ∧ h.bodyOk = true ∧ 8 * items.length ≤ bodyLimit h.path ∧ ((s.adpTaken h x).readItems (x.took h.seq s.ep.beat) items).2 ≤ bodyLimit h.path) ∧
      (∃ (h : AdpHead) (x : Session) (s : State) (items : List AdpItem), s.adpNew h x ∧ s.irq.moving.contains 0 = false ∧ 1 ≤ x.level ∧ ((∀ i ∈ items, i.wf = true)) ∧ h.bodyOk = true ∧ 8 * items.length ≤ bodyLimit h.path ∧ bodyLimit h.path < ((s.adpTaken h x).readItems (x.took h.seq s.ep.beat) items).2) ∧
      (∃ (h : AdpHead) (x : Session) (s : State) (items : List AdpItem) (cycle : Fin 256), s.adpNew h x ∧ s.irq.moving.contains 0 = false ∧ 1 ≤ x.level ∧ ((∀ i ∈ items, i.wf = true)) ∧ h.bodyOk = true ∧ (items.map (fun i => 8 + padded i.len)).sum ≤ bodyLimit h.path ∧ ((∀ i ∈ items, (s.adpTaken h x).sessionItem (x.took h.seq s.ep.beat) i cycle = 0))) ∧
      (∃ (h : AdpHead) (x : Session) (s : State) (items : List AdpItem) (cycle : Fin 256) (i : AdpItem), i ∈ items ∧ s.adpNew h x ∧ s.irq.moving.contains 0 = false ∧ 1 ≤ x.level ∧ ((∀ i ∈ items, i.wf = true)) ∧ h.bodyOk = true ∧ (items.map (fun i => 8 + padded i.len)).sum ≤ bodyLimit h.path ∧ (s.adpTaken h x).sessionItem (x.took h.seq s.ep.beat) i cycle ≠ 0) ∧
      (∃ (h : AdpHead) (x : Session) (items : List AdpItem) (s : State), s.adpNew h x ∧ ((∃ i ∈ items, i.wf = false))) ∧
      (∃ (h : AdpHead) (x : Session) (items : List AdpItem) (s : State), s.adpNew h x ∧ ((∀ i ∈ items, i.wf = true)) ∧ s.irq.moving.contains 0 = true) ∧
      (∃ (h : AdpHead) (x : Session) (items : List AdpItem) (s : State), s.adpNew h x ∧ ((∀ i ∈ items, i.wf = true)) ∧ s.irq.moving.contains 0 = false ∧ h.bodyOk = false) :=
  ⟨⟨{ session := 1, seq := 1 }, { number := 1, halfOpen := false, level := 2 }, withSession { number := 1, halfOpen := false, level := 2 }, 1, 0, by refine ⟨⟨?_, ?_⟩, ?_, ?_, ?_, ?_, ?_⟩ <;> decide +kernel, by decide +kernel⟩,
      ⟨{ session := 1, seq := 1 }, { number := 1, halfOpen := false, level := 2, unclaimed := true }, withSession { number := 1, halfOpen := false, level := 2, unclaimed := true }, 1, 0, 4, by refine ⟨⟨?_, ?_⟩, ?_, ?_, ?_, ?_, ?_⟩ <;> decide +kernel, by decide +kernel⟩,
      ⟨{ session := 1, seq := 1 }, { number := 1, halfOpen := false, level := 1 }, withSession { number := 1, halfOpen := false, level := 1 }, [{ index := 0x1000, sub := 4 }], by refine ⟨⟨?_, ?_⟩, ?_, ?_, ?_, ?_, ?_⟩ <;> decide +kernel, by decide +kernel⟩,
      ⟨{ session := 1, seq := 1 }, { number := 1, halfOpen := false, level := 1 }, withSession { number := 1, halfOpen := false, level := 1 }, [{ index := 0xA030, sub := 1 }, { index := 0xA030, sub := 2 }], by refine ⟨⟨?_, ?_⟩, ?_, ?_, ?_, ?_, ?_⟩ <;> decide +kernel, by decide +kernel⟩,
      ⟨{ session := 1, seq := 1 }, { number := 1, halfOpen := false, level := 3 }, withSession { number := 1, halfOpen := false, level := 3 }, [{ index := 0x2101, sub := 1, code := 1, len := 1, value := 105 }], 0, by refine ⟨⟨?_, ?_⟩, ?_, ?_, ?_, ?_, ?_⟩ <;> decide +kernel, by decide +kernel⟩,
      ⟨{ session := 1, seq := 1 }, { number := 1, halfOpen := false, level := 3 }, withSession { number := 1, halfOpen := false, level := 3 }, [{ index := 0x2101, sub := 1, code := 1, len := 1, value := 106 }], 0, { index := 0x2101, sub := 1, code := 1, len := 1, value := 106 }, by refine ⟨?_, (by refine ⟨⟨?_, ?_⟩, ?_, ?_, ?_, ?_, ?_⟩ <;> decide +kernel), ?_, ?_, ?_, ?_, ?_, ?_⟩ <;> decide +kernel⟩,
      ⟨{ session := 1, seq := 1 }, { number := 1, halfOpen := false, level := 1 }, [{ len := 1, value := 256 }], withSession { number := 1, halfOpen := false, level := 1 }, by refine ⟨⟨?_, ?_⟩, ?_, ?_, ?_, ?_, ?_⟩ <;> decide +kernel, by decide +kernel⟩,
      ⟨{ session := 1, seq := 1 }, { number := 1, halfOpen := false, level := 1 }, [], { withSession { number := 1, halfOpen := false, level := 1 } with irq := { moving := [0] } }, by refine ⟨⟨?_, ?_⟩, ?_, ?_, ?_, ?_, ?_⟩ <;> decide +kernel, by decide +kernel⟩,
      ⟨{ session := 1, seq := 1, bodyOk := false }, { number := 1, halfOpen := false, level := 1 }, [], withSession { number := 1, halfOpen := false, level := 1 }, by refine ⟨⟨?_, ?_⟩, ?_, ?_, ?_, ?_, ?_⟩ <;> decide +kernel, by decide +kernel⟩⟩

/-- Witnesses: every hypothesis of SegmentsAnchorsAndWrites is met by a state and operands. -/
theorem test_SegmentsAnchorsAndWrites_hypotheses_1 :
    (∃ (s : State), s.dieOn = true) ∧
      (∃ (s : State), s.dieOn = true ∧ s.adp.upA = true) ∧
      (∃ (s : State), s.dieOn = true ∧ s.adp.upB = true) ∧
      (∃ (slot : Fin 64) (anchor : BitVec 800) (s : State), s.adpOpen = true ∧ s.anchorOk slot anchor.toNat = true) ∧
      (∃ (slot : Fin 64) (anchor : BitVec 800) (s : State), s.adpOpen = true ∧ s.anchorOk slot anchor.toNat = false) ∧
      (∃ (i : BitVec 16) (j : BitVec 8) (s : State), s.adpUp = true ∧ Dict.find i.toNat j.toNat = none) ∧
      (∃ (i : BitVec 16) (j : BitVec 8) (s : State) (r : EntryRow), s.adpUp = true ∧ Dict.find i.toNat j.toNat = some r ∧ s.namesObject r i.toNat = false) ∧
      (∃ (i : BitVec 16) (j : BitVec 8) (s : State) (r : EntryRow), s.adpUp = true ∧ Dict.find i.toNat j.toNat = some r ∧ s.namesObject r i.toNat = true ∧ r.kind = .report) ∧
      (∃ (i : BitVec 16) (j : BitVec 8) (v : Nat) (cycle : Fin 256) (s : State) (r : EntryRow), s.adpUp = true ∧ Dict.find i.toNat j.toNat = some r ∧ s.namesObject r i.toNat = true ∧ r.kind ≠ .report ∧ i.toNat ≠ 0x10F0 ∧ s.valueStatus r i.toNat j.toNat v cycle = 0 ∧ r.silent i.toNat j.toNat v = false) ∧
      (∃ (i : BitVec 16) (j : BitVec 8) (v : Nat) (cycle : Fin 256) (s : State) (r : EntryRow), s.adpUp = true ∧ Dict.find i.toNat j.toNat = some r ∧ s.namesObject r i.toNat = true ∧ r.kind ≠ .report ∧ i.toNat ≠ 0x10F0 ∧ s.valueStatus r i.toNat j.toNat v cycle = 0 ∧ r.silent i.toNat j.toNat v = false) ∧
      (∃ (i : BitVec 16) (j : BitVec 8) (s : State) (r : EntryRow), s.adpUp = true ∧ Dict.find i.toNat j.toNat = some r ∧ s.namesObject r i.toNat = true ∧ r.kind ≠ .report ∧ i.toNat = 0x10F0) ∧
      (∃ (i : BitVec 16) (j : BitVec 8) (v : Nat) (cycle : Fin 256) (s : State) (r : EntryRow), s.adpUp = true ∧ Dict.find i.toNat j.toNat = some r ∧ s.namesObject r i.toNat = true ∧ r.kind ≠ .report ∧ i.toNat ≠ 0x10F0 ∧ s.valueStatus r i.toNat j.toNat v cycle = 0 ∧ r.silent i.toNat j.toNat v = true) :=
  ⟨⟨demo, by decide +kernel⟩,
      ⟨demo, by decide +kernel⟩,
      ⟨{ demo with adp := { upB := true } }, by decide +kernel⟩,
      ⟨0, 3073, demo, by decide +kernel⟩,
      ⟨0, 0, demo, by decide +kernel⟩,
      ⟨0, 0, demo, by decide +kernel⟩,
      ⟨0x3401, 1, demo, ⟨0x3400, 160, 0x1, 1, 1, .bool, 1, 3, .staged, 0, 0, 1⟩, by decide +kernel⟩,
      ⟨0x1000, 4, demo, ⟨0x1000, 1, 0x4, 1, 1, .u8, 8, 1, .report, 9, 0, 255⟩, by decide +kernel⟩,
      ⟨0x2101, 1, 85, 0, demo, ⟨0x2101, 1, 0x1, 1, 1, .u8, 8, 3, .setting, 100, 85, 105⟩, by decide +kernel⟩,
      ⟨0x2101, 1, 105, 0, demo, ⟨0x2101, 1, 0x1, 1, 1, .u8, 8, 3, .setting, 100, 85, 105⟩, by decide +kernel⟩,
      ⟨0x10F0, 1, demo, ⟨0x10F0, 1, 0x1, 1, 1, .u8, 8, 2, .setting, 0, 0, 1⟩, by decide +kernel⟩,
      ⟨0x2230, 1, 0, 0, demo, ⟨0x2230, 1, 0x1, 1, 1, .bool, 1, 3, .command, 0, 0, 1⟩, by decide +kernel⟩⟩

/-- Witnesses: every hypothesis of SegmentsAnchorsAndWrites is met by a state and operands. -/
theorem test_SegmentsAnchorsAndWrites_hypotheses_2 :
    (∃ (i : BitVec 16) (j : BitVec 8) (v : Nat) (cycle : Fin 256) (s : State) (r : EntryRow), s.adpUp = true ∧ Dict.find i.toNat j.toNat = some r ∧ s.namesObject r i.toNat = true ∧ r.kind ≠ .report ∧ i.toNat ≠ 0x10F0 ∧ s.valueStatus r i.toNat j.toNat v cycle ≠ 0) ∧
      (∃ (w : RegWrite) (s : State) (v : Fin 64) (reg : HostReg), s.dieOn = true ∧ w = .host v reg ∧ s.running = true) ∧
      (∃ (w : RegWrite) (s : State) (v : Fin 64) (reg : HostReg), s.dieOn = true ∧ w = .host v reg ∧ s.running = false) ∧
      (∃ (w : RegWrite) (s : State) (k : Fin 4) (word : Fin 16) (value : BitVec 32), s.dieOn = true ∧ w = .irqEnable k word value) ∧
      (∃ (w : RegWrite) (s : State) (n : Fin 1024) (v : BitVec 64), s.dieOn = true ∧ w = .config n v) ∧
      (∃ (w : RegWrite) (s : State) (n : Fin 1024) (v : BitVec 64), s.dieOn = true ∧ w = .status n v) ∧
      (∃ (w : RegWrite) (s : State) (v : BitVec 64), s.dieOn = true ∧ w = .force v) ∧
      (∃ (w : RegWrite) (s : State), s.dieOn = true ∧ w = .ignored) ∧
      (∃ (r : EntryRow), r.kind = .staged) :=
  ⟨⟨0x2101, 1, 84, 0, demo, ⟨0x2101, 1, 0x1, 1, 1, .u8, 8, 3, .setting, 100, 85, 105⟩, by decide +kernel⟩,
      ⟨.host 0 (.cmdDone 0), demo, 0, .cmdDone 0, by decide +kernel⟩,
      ⟨.host 0 (.cmdDone 0), starting .firmware, 0, .cmdDone 0, by decide +kernel⟩,
      ⟨.irqEnable 3 15 0, demo, 3, 15, 0, by decide +kernel⟩,
      ⟨.config 1023 0, demo, 1023, 0, by decide +kernel⟩,
      ⟨.status 1023 0, demo, 1023, 0, by decide +kernel⟩,
      ⟨.force 1, demo, 1, by decide +kernel⟩,
      ⟨.ignored, demo, by decide +kernel⟩,
      ⟨⟨0x3400, 160, 0x1, 1, 1, .bool, 1, 3, .staged, 0, 0, 1⟩, by decide +kernel⟩⟩

/-- Witnesses: every hypothesis of PartnersOfALink is met by a state and operands. -/
theorem test_PartnersOfALink_hypotheses :
    (∃ (port : Fin 160) (s : State), s.running = true ∧ (s.portRole port = 1 ∨ s.portRole port = 2) ∧ (s.port port).stage = 5) ∧
      (∃ (port : Fin 160) (s : State), s.running = true ∧ (s.portRole port = 1 ∨ s.portRole port = 2) ∧ (s.port port).stage = 5) ∧
      (∃ (port : Fin 160) (stage : Fin 5) (unused : BitVec 16) (eq : Option (Fin 16 × PcieEq)) (gone : List Nat) (s : State) (u : State), s.running = true ∧ (s.portRole port = 1 ∨ s.portRole port = 2) ∧ 1 ≤ (s.port port).stage ∧ u = (if stage.val = 4 then s.equalizeLane port eq else s) ∧ gone = ((u.lanesOf port).filter (fun l => unused.toNat.testBit (l - (u.portLanes u.ep.live port).1) && decide (((u.enterRecovery port).lane l).state = 4))) ∧ stage.val = 1 ∧ s.linkActive port = true) ∧
      (∃ (port : Fin 160) (stage : Fin 5) (unused : BitVec 16) (eq : Option (Fin 16 × PcieEq)) (gone : List Nat) (s : State) (u : State), s.running = true ∧ (s.portRole port = 1 ∨ s.portRole port = 2) ∧ 1 ≤ (s.port port).stage ∧ u = (if stage.val = 4 then s.equalizeLane port eq else s) ∧ gone = ((u.lanesOf port).filter (fun l => unused.toNat.testBit (l - (u.portLanes u.ep.live port).1) && decide (((u.enterRecovery port).lane l).state = 4))) ∧ stage.val = 1 ∧ s.linkActive port = false) ∧
      (∃ (port : Fin 160) (stage : Fin 5) (unused : BitVec 16) (eq : Option (Fin 16 × PcieEq)) (gone : List Nat) (s : State) (u : State), s.running = true ∧ (s.portRole port = 1 ∨ s.portRole port = 2) ∧ 1 ≤ (s.port port).stage ∧ u = (if stage.val = 4 then s.equalizeLane port eq else s) ∧ gone = ((u.lanesOf port).filter (fun l => unused.toNat.testBit (l - (u.portLanes u.ep.live port).1) && decide (((u.enterRecovery port).lane l).state = 4))) ∧ 2 ≤ stage.val ∧ (u.port port).stage = 5 ∧ gone = [] ∧ stage.val ≠ 3) ∧
      (∃ (port : Fin 160) (stage : Fin 5) (unused : BitVec 16) (eq : Option (Fin 16 × PcieEq)) (gone : List Nat) (s : State) (u : State), s.running = true ∧ (s.portRole port = 1 ∨ s.portRole port = 2) ∧ 1 ≤ (s.port port).stage ∧ u = (if stage.val = 4 then s.equalizeLane port eq else s) ∧ gone = ((u.lanesOf port).filter (fun l => unused.toNat.testBit (l - (u.portLanes u.ep.live port).1) && decide (((u.enterRecovery port).lane l).state = 4))) ∧ stage.val = 3 ∧ (u.port port).stage = 5 ∧ gone = []) ∧
      (∃ (port : Fin 160) (stage : Fin 5) (unused : BitVec 16) (eq : Option (Fin 16 × PcieEq)) (gone : List Nat) (s : State) (u : State), s.running = true ∧ (s.portRole port = 1 ∨ s.portRole port = 2) ∧ 1 ≤ (s.port port).stage ∧ u = (if stage.val = 4 then s.equalizeLane port eq else s) ∧ gone = ((u.lanesOf port).filter (fun l => unused.toNat.testBit (l - (u.portLanes u.ep.live port).1) && decide (((u.enterRecovery port).lane l).state = 4))) ∧ 2 ≤ stage.val ∧ (u.port port).stage = 5 ∧ gone ≠ []) ∧
      (∃ (port : Fin 160) (stage : Fin 5) (unused : BitVec 16) (eq : Option (Fin 16 × PcieEq)) (gone : List Nat) (s : State) (u : State), s.running = true ∧ (s.portRole port = 1 ∨ s.portRole port = 2) ∧ 1 ≤ (s.port port).stage ∧ u = (if stage.val = 4 then s.equalizeLane port eq else s) ∧ gone = ((u.lanesOf port).filter (fun l => unused.toNat.testBit (l - (u.portLanes u.ep.live port).1) && decide (((u.enterRecovery port).lane l).state = 4))) ∧ 2 ≤ stage.val ∧ (u.port port).stage ≠ 5) ∧
      (∃ (port : Fin 160) (s : State), s.running = true ∧ ((s.port port).power = .l1 ∨ (s.port port).power = .l11 ∨ (s.port port).power = .l12)) ∧
      (∃ (port : Fin 160) (s : State), s.running = true ∧ ((s.port port).power = .l1 ∨ (s.port port).power = .l11 ∨ (s.port port).power = .l12)) ∧
      (∃ (port : Fin 160) (s : State), s.running = true ∧ (s.port port).power = .l0) ∧
      (∃ (port : Fin 160) (s : State), s.running = true ∧ s.portRole port = 3 ∧ (s.trunk port).quietRx = true) :=
  ⟨⟨0, withPort hostT { stage := 5 }, by decide +kernel⟩,
      ⟨0, withPort downT { stage := 5 }, by decide +kernel⟩,
      ⟨0, 1, 0, none, _, withPort hostT { stage := 5 }, _, by refine ⟨?_, ?_, ?_, rfl, rfl, ?_, ?_⟩ <;> decide +kernel⟩,
      ⟨0, 1, 0, none, _, withPort hostT { stage := 1 }, _, by refine ⟨?_, ?_, ?_, rfl, rfl, ?_, ?_⟩ <;> decide +kernel⟩,
      ⟨0, 2, 0, none, _, withPort hostT { stage := 5 }, _, by refine ⟨?_, ?_, ?_, rfl, rfl, ?_, ?_, ?_, ?_⟩ <;> decide +kernel⟩,
      ⟨0, 3, 0, none, _, withPort downT { stage := 5 }, _, by refine ⟨?_, ?_, ?_, rfl, rfl, ?_, ?_, ?_⟩ <;> decide +kernel⟩,
      ⟨0, 4, 1, none, _, withLane hostT { stage := 5 } { state := 5 }, _, by refine ⟨?_, ?_, ?_, rfl, rfl, ?_, ?_, ?_⟩ <;> decide +kernel⟩,
      ⟨0, 4, 0, none, _, withPort hostT { stage := 4 }, _, by refine ⟨?_, ?_, ?_, rfl, rfl, ?_, ?_⟩ <;> decide +kernel⟩,
      ⟨0, withPort hostT { power := .l1 }, by decide +kernel⟩,
      ⟨0, withPort hostT { power := .l12 }, by decide +kernel⟩,
      ⟨0, demo, by decide +kernel⟩,
      ⟨0, { withLive trunkT with trunks := [(0, { quietRx := true })] }, by decide +kernel⟩⟩

/-- Witnesses: every hypothesis of SavesAndDeviceEvents is met by a state and operands. -/
theorem test_SavesAndDeviceEvents_hypotheses :
    (∃ (s : State), s.dieOn = true ∧ s.start.storeStatus = 1) ∧
      (∃ (d : Fin 256) (s : State), s.running = true ∧ s.devReady d = true) :=
  ⟨⟨{ demo with start := { storeStatus := 1 } }, by decide +kernel⟩,
      ⟨0, { demo with pool := { devices := [(0, { state := 3 })] } }, by decide +kernel⟩⟩

/-- Witnesses: every hypothesis of StepRunsTheFrontCommand is met by a state and operands. -/
theorem test_StepRunsTheFrontCommand_hypotheses :
    (∃ (s : State), s.pending = []) :=
  ⟨demo, by decide +kernel⟩

/-- Witnesses: every hypothesis of EveryCommandChangesOnlyItsParts is met by a state and operands. -/
theorem test_EveryCommandChangesOnlyItsParts_hypotheses :
    (∃ (c : Instr) (s : State) (t : State), exec c s = .next t) ∧
      (∃ (c : Instr) (d : Instr) (rest : List Instr) (s : State) (t : State), s.pending = c :: d :: rest ∧ step s = .next t) :=
  ⟨⟨.segmentUp true, demo, _, rfl⟩,
      ⟨.segmentUp true, .wakeAlarm, [.wakeAlarm], { demo with pending := [.segmentUp true, .wakeAlarm, .wakeAlarm] }, _, rfl, rfl⟩⟩

/-- Witnesses: every hypothesis of EveryCommandHasANextState is met by a state and operands. -/
theorem test_EveryCommandHasANextState_hypotheses :
    (∃ (c : Instr), operandsWf c = false) :=
  ⟨.frameHeadCell 0 { size := 0 }, by decide +kernel⟩

/-- Witnesses: every hypothesis of CommandEntriesWaitForService is met by a state and operands. -/
theorem test_CommandEntriesWaitForService_hypotheses :
    (∃ (c : Instr) (s : State), commandEntry c = true ∧ s.adpUp = true ∧ s.adpOpen = false) ∧
      (∃ (c : Instr) (s : State), commandEntry c = true ∧ s.adpUp = false) :=
  ⟨⟨.storeRequest, starting .firmware, by decide +kernel⟩,
      ⟨.storeRequest, State.reset, by decide +kernel⟩⟩

/-- Witnesses: every hypothesis of BeatCounterCounts is met by a state and operands. -/
theorem test_BeatCounterCounts_hypotheses :
    (∃ (s : State), s.dieOn = true) ∧
      (∃ (ms : BitVec 32) (s : State) (t : State), s.inPhase .release = true ∧ exec (.dataPathRelease ms) s = .next t) ∧
      (∃ (c : Instr) (s : State) (t : State), exec c s = .next t ∧ c ≠ .beatBoundary) ∧
      (∃ (s : State), s.dieOn = false) :=
  ⟨⟨demo, by decide +kernel⟩,
      ⟨0, starting .release, _, by decide +kernel, rfl⟩,
      ⟨.segmentUp true, demo, _, rfl, by decide +kernel⟩,
      ⟨State.reset, by decide +kernel⟩⟩

/-- Witnesses: every hypothesis of EpochBoundKept is met by a state and operands. -/
theorem test_EpochBoundKept_hypotheses :
    (∃ (s : State) (t : State), s.EpochsBounded ∧ step s = .next t) :=
  ⟨{ demo with ep := { superseded := [{}, {}], epoch := 2 }, pending := [.epochRelease 0] }, _, by unfold State.EpochsBounded; decide, rfl⟩

/-- Witnesses: every hypothesis of PowerStatesKept is met by a state and operands. -/
theorem test_PowerStatesKept_hypotheses :
    (∃ (s : State) (t : State), s.PowerLegal ∧ step s = .next t) :=
  ⟨{ demo with pending := [.beatBoundary] }, _, ⟨by decide, by decide, by decide⟩, rfl⟩

/-- Witnesses: every hypothesis of SafeStateIsLeftByAStart is met by a state and operands. -/
theorem test_SafeStateIsLeftByAStart_hypotheses :
    (∃ (c : Instr) (s : State) (t : State), s.PowerLegal ∧ s.col.safe = true ∧ exec c s = .next t) :=
  ⟨.warmStartRequest, safeDemo, _, ⟨by decide, by decide, by decide⟩, by decide +kernel, rfl⟩

/-- Witnesses: every hypothesis of SafeStateIsSilent is met by a state and operands. -/
theorem test_SafeStateIsSilent_hypotheses :
    (∃ (c : Instr) (s : State) (t : State), s.col.safe = true ∧ exec c s = .next t) :=
  ⟨.segmentUp true, safeDemo, _, by decide +kernel, rfl⟩

end Sys2Proof.Tests
end

/-! ### The frame of every command -/

namespace Sys2Proof.Machine

/-- Every command changes only the parts of the state that it is said to touch. -/
theorem exec_onlyChanges {c : Instr} {s t : State} (h : exec c s = .next t) : OnlyChanges (touches c) s t := by
  have r : OnlyChanges (touches c) s s := .refl _ s
  cases c with
  | beatBoundary => exact execBeatBoundary_only s r rfl t h
  | epochRelease => exact execEpochRelease_only _ s r rfl t h
  | commitRequest => exact execCommitRequest_only _ _ s r rfl t h
  | commitDue => exact execCommitDue_only s r rfl t h
  | deferredCommitApplied => exact execDeferredCommitApplied_only s r rfl t h
  | shadowDiscard => exact execShadowDiscard_only _ s r rfl t h
  | drainOverrun => exact execDrainOverrun_only s r rfl t h
  | sidebandLevelAccepted => exact execSidebandLevelAccepted_only _ _ _ s r rfl t h
  | perstContentionCheck => exact execPerstContentionCheck_only _ _ s r rfl t h
  | i2cPollSlot => exact execI2cPollSlot_only _ _ s r rfl t h
  | i2cPollDone => exact execI2cPollDone_only _ _ s r rfl t h
  | i2cWriteAcked => exact execI2cWriteAcked_only _ s r rfl t h
  | i2cTransactionFailed => exact execI2cTransactionFailed_only _ s r rfl t h
  | twinAlertInAsserted => exact execTwinAlertInAsserted_only _ s r rfl t h
  | modrstN => exact execModrstN_only _ _ s r rfl t h
  | refclkLoss => exact execRefclkLoss_only s r rfl t h
  | sensorRead => exact execSensorRead_only _ s r rfl t h
  | throttleEvaluation => exact execThrottleEvaluation_only s r rfl t h
  | feedPresent => exact execFeedPresent_only _ s r rfl t h
  | feedLost => exact execFeedLost_only _ s r rfl t h
  | reverseCurrentOff => exact execReverseCurrentOff_only _ s r rfl t h
  | fetConductsAgain => exact execFetConductsAgain_only _ s r rfl t h
  | busShutdown => exact execBusShutdown_only _ s r rfl t h
  | gateTurnOn => exact execGateTurnOn_only s r rfl t h
  | gateFullyOn => exact execGateFullyOn_only s r rfl t h
  | inrushTrip => exact execInrushTrip_only s r rfl t h
  | faultTimerStart => exact execFaultTimerStart_only s r rfl t h
  | faultTimerIdle => exact execFaultTimerIdle_only s r rfl t h
  | overcurrentTrip => exact execOvercurrentTrip_only s r rfl t h
  | hardShortTrip => exact execHardShortTrip_only s r rfl t h
  | pgOutRise => exact execPgOutRise_only s r rfl t h
  | gateOffAfterTrip => exact execGateOffAfterTrip_only s r rfl t h
  | automaticRetry => exact execAutomaticRetry_only s r rfl t h
  | retryCountClear => exact execRetryCountClear_only s r rfl t h
  | retainedStateCleared => exact execRetainedStateCleared_only s r rfl t h
  | twinRelease => exact execTwinRelease_only s r rfl t h
  | releasePatternAccepted => exact execReleasePatternAccepted_only s r rfl t h
  | latchRecordClear => exact execLatchRecordClear_only s r rfl t h
  | standbyRequest => exact execStandbyRequest_only s r rfl t h
  | wakeSourceSample => exact execWakeSourceSample_only _ s r rfl t h
  | wakeAlarm => exact execWakeAlarm_only s r rfl t h
  | standbyWake => exact execStandbyWake_only _ s r rfl t h
  | warmStartRequest => exact execWarmStartRequest_only s r rfl t h
  | coldStartRequest => exact execColdStartRequest_only s r rfl t h
  | watchdogExpiry => exact execWatchdogExpiry_only s r rfl t h
  | coldStart => exact execColdStart_only _ _ _ s r rfl t h
  | bistDone => exact execBistDone_only _ _ _ _ _ _ s r rfl t h
  | calibrationDone => exact execCalibrationDone_only _ s r rfl t h
  | firmwareLoad => exact execFirmwareLoad_only s r rfl t h
  | configurationLoad => exact execConfigurationLoad_only s r rfl t h
  | dataPathRelease => exact execDataPathRelease_only _ s r rfl t h
  | warmStart => exact execWarmStart_only _ _ _ s r rfl t h
  | readyTimeout => exact execReadyTimeout_only s r rfl t h
  | startConfirmed => exact execStartConfirmed_only s r rfl t h
  | retainedRecordWritten => exact execRetainedRecordWritten_only s r rfl t h
  | storeRequest => exact execStoreRequest_only s r rfl t h
  | imageBlockWrite => exact execImageBlockWrite_only _ _ s r rfl t h
  | imageVerify => exact execImageVerify_only _ s r rfl t h
  | groupPerst => exact execGroupPerst_only _ s r rfl t h
  | hotReset => exact execHotReset_only _ s r rfl t h
  | secondaryBusReset => exact execSecondaryBusReset_only _ _ s r rfl t h
  | functionLevelReset => exact execFunctionLevelReset_only _ s r rfl t h
  | trainingBlock => exact execTrainingBlock_only _ _ _ _ _ s r rfl t h
  | detectTimer => exact execDetectTimer_only _ s r rfl t h
  | stageBoundReached => exact execStageBoundReached_only _ s r rfl t h
  | portLinkUp => exact execPortLinkUp_only _ _ _ _ _ _ _ _ _ s r rfl t h
  | adaptationStep => exact execAdaptationStep_only _ _ _ _ s r rfl t h
  | errorWindowEnd => exact execErrorWindowEnd_only _ _ s r rfl t h
  | laneFailure => exact execLaneFailure_only _ _ _ s r rfl t h
  | retrainLimit => exact execRetrainLimit_only _ s r rfl t h
  | laneExclude => exact execLaneExclude_only _ _ s r rfl t h
  | laneDirectionChange => exact execLaneDirectionChange_only _ _ _ s r rfl t h
  | rxLockTimeout => exact execRxLockTimeout_only _ s r rfl t h
  | scanStart => exact execScanStart_only _ _ s r rfl t h
  | scanPointDone => exact execScanPointDone_only _ _ s r rfl t h
  | scanAbort => exact execScanAbort_only _ s r rfl t h
  | l1EntryInitiate => exact execL1EntryInitiate_only _ _ _ s r rfl t h
  | partnerL1Request => exact execPartnerL1Request_only _ _ s r rfl t h
  | pciPmL1Request => exact execPciPmL1Request_only _ s r rfl t h
  | pmeTurnOff => exact execPmeTurnOff_only _ s r rfl t h
  | l0pEvaluation => exact execL0pEvaluation_only _ _ s r rfl t h
  | l0pPartnerRequest => exact execL0pPartnerRequest_only _ _ s r rfl t h
  | ideKeyRefresh => exact execIdeKeyRefresh_only _ s r rfl t h
  | ideIntegrityFailure => exact execIdeIntegrityFailure_only _ s r rfl t h
  | frameStart => exact execFrameStart_only _ s r rfl t h
  | frameHeadCell => exact execFrameHeadCell_only _ _ s r rfl t h
  | frameComplete => exact execFrameComplete_only _ _ s r rfl t h
  | engineChargeRetry => exact execEngineChargeRetry_only _ s r rfl t h
  | cellTimeMatch => exact execCellTimeMatch_only _ _ _ s r rfl t h
  | stallTermination => exact execStallTermination_only _ s r rfl t h
  | pathFailed => exact execPathFailed_only _ s r rfl t h
  | bankRetire => exact execBankRetire_only _ _ s r rfl t h
  | bankRetired => exact execBankRetired_only _ s r rfl t h
  | attachmentRetire => exact execAttachmentRetire_only _ _ s r rfl t h
  | attachmentRetirement => exact execAttachmentRetirement_only _ s r rfl t h
  | slotInputChange => exact execSlotInputChange_only _ s r rfl t h
  | slotControlWrite => exact execSlotControlWrite_only _ _ _ _ _ s r rfl t h
  | indicatorBlink => exact execIndicatorBlink_only _ s r rfl t h
  | slotResetRelease => exact execSlotResetRelease_only _ s r rfl t h
  | dpcTrigger => exact execDpcTrigger_only _ _ _ s r rfl t h
  | dpcTriggerClear => exact execDpcTriggerClear_only _ _ s r rfl t h
  | configRequest => exact execConfigRequest_only _ _ _ _ s r rfl t h
  | trackerAllocation => exact execTrackerAllocation_only s r rfl t h
  | completionArrives => exact execCompletionArrives_only _ _ _ s r rfl t h
  | trackerTimeout => exact execTrackerTimeout_only _ s r rfl t h
  | quarantineEnd => exact execQuarantineEnd_only _ s r rfl t h
  | linkDown => exact execLinkDown_only _ s r rfl t h
  | farTagAssigned => exact execFarTagAssigned_only _ s r rfl t h
  | prefetchHoldExpiry => exact execPrefetchHoldExpiry_only _ s r rfl t h
  | doorbellRing => exact execDoorbellRing_only _ _ _ s r rfl t h
  | doorbellStatusClear => exact execDoorbellStatusClear_only _ _ _ s r rfl t h
  | pwfReceived => exact execPwfReceived_only _ _ _ _ _ _ _ s r rfl t h
  | flitReceived => exact execFlitReceived_only _ _ _ s r rfl t h
  | replayTimerExpiry => exact execReplayTimerExpiry_only _ _ s r rfl t h
  | rttProbe => exact execRttProbe_only _ _ s r rfl t h
  | quietEntry => exact execQuietEntry_only _ s r rfl t h
  | quietExit => exact execQuietExit_only _ s r rfl t h
  | enumerationDone => exact execEnumerationDone_only _ _ _ _ s r rfl t h
  | scrubStart => exact execScrubStart_only _ _ s r rfl t h
  | scrubDone => exact execScrubDone_only _ _ _ s r rfl t h
  | rescrubExtent => exact execRescrubExtent_only _ s r rfl t h
  | releaseExtent => exact execReleaseExtent_only _ s r rfl t h
  | addCapacityResponse => exact execAddCapacityResponse_only _ _ s r rfl t h
  | releaseCapacityResponse => exact execReleaseCapacityResponse_only _ s r rfl t h
  | dcAnswerTimeout => exact execDcAnswerTimeout_only _ s r rfl t h
  | cxlMemRequest => exact execCxlMemRequest_only _ _ _ _ _ _ _ s r rfl t h
  | poolPrefetchExpiry => exact execPoolPrefetchExpiry_only _ _ s r rfl t h
  | identifyMemoryDevice => exact execIdentifyMemoryDevice_only _ s r rfl t h
  | getPartitionInfo => exact execGetPartitionInfo_only _ s r rfl t h
  | getEventRecords => exact execGetEventRecords_only _ s r rfl t h
  | clearEventRecords => exact execClearEventRecords_only _ _ s r rfl t h
  | rds => exact execRds_only _ _ _ _ _ s r rfl t h
  | rdown => exact execRdown_only _ _ _ _ _ s r rfl t h
  | own => exact execOwn_only _ _ _ _ _ s r rfl t h
  | rdcur => exact execRdcur_only _ _ _ _ _ s r rfl t h
  | memspecrd => exact execMemspecrd_only _ _ _ _ s r rfl t h
  | evc => exact execEvc_only _ _ _ _ s r rfl t h
  | evd => exact execEvd_only _ _ _ _ _ s r rfl t h
  | wr => exact execWr_only _ _ _ _ _ s r rfl t h
  | wbkeep => exact execWbkeep_only _ _ _ _ _ _ s r rfl t h
  | hitKeep => exact execHitKeep_only _ _ _ _ _ _ s r rfl t h
  | hitDrop => exact execHitDrop_only _ _ _ _ _ s r rfl t h
  | miss => exact execMiss_only _ _ _ _ s r rfl t h
  | biconflict => exact execBiconflict_only _ _ _ _ s r rfl t h
  | memoryData => exact execMemoryData_only _ _ _ _ _ s r rfl t h
  | writeDone => exact execWriteDone_only _ _ _ s r rfl t h
  | recallDone => exact execRecallDone_only _ _ s r rfl t h
  | snoopTimeout => exact execSnoopTimeout_only _ _ _ _ s r rfl t h
  | sweepDone => exact execSweepDone_only _ _ s r rfl t h
  | ledgerScrubRead => exact execLedgerScrubRead_only _ s r rfl t h
  | ledgerBankRetire => exact execLedgerBankRetire_only _ s r rfl t h
  | ledgerBankRetired => exact execLedgerBankRetired_only _ s r rfl t h
  | pageQuery => exact execPageQuery_only _ s r rfl t h
  | createCq => exact execCreateCq_only _ _ _ _ _ s r rfl t h
  | destroyCq => exact execDestroyCq_only _ _ _ _ _ s r rfl t h
  | createQp => exact execCreateQp_only _ _ _ _ _ s r rfl t h
  | modifyQp => exact execModifyQp_only _ _ _ _ _ s r rfl t h
  | destroyQp => exact execDestroyQp_only _ _ _ _ _ s r rfl t h
  | registerRegion => exact execRegisterRegion_only _ _ _ _ _ s r rfl t h
  | revokeRegion => exact execRevokeRegion_only _ _ _ _ _ s r rfl t h
  | setCounter => exact execSetCounter_only _ _ _ _ _ s r rfl t h
  | attach => exact execAttach_only _ _ _ _ _ s r rfl t h
  | detach => exact execDetach_only _ _ _ _ _ s r rfl t h
  | commandStart => exact execCommandStart_only _ _ s r rfl t h
  | sendQueueDoorbell => exact execSendQueueDoorbell_only _ _ _ _ s r rfl t h
  | receiveQueueDoorbell => exact execReceiveQueueDoorbell_only _ _ _ _ s r rfl t h
  | triggerListDoorbell => exact execTriggerListDoorbell_only _ _ _ _ s r rfl t h
  | cqConsumerDoorbell => exact execCqConsumerDoorbell_only _ _ _ s r rfl t h
  | contextFetchDone => exact execContextFetchDone_only _ _ _ s r rfl t h
  | keyFetchDone => exact execKeyFetchDone_only _ _ _ s r rfl t h
  | wrWrite => exact execWrWrite_only _ _ _ s r rfl t h
  | wrRead => exact execWrRead_only _ s r rfl t h
  | wrSend => exact execWrSend_only _ _ _ s r rfl t h
  | wrFetchAdd => exact execWrFetchAdd_only _ s r rfl t h
  | wrCmpSwap => exact execWrCmpSwap_only _ s r rfl t h
  | wrNop => exact execWrNop_only _ s r rfl t h
  | writeSegment => exact execWriteSegment_only _ s r rfl t h
  | sendSegment => exact execSendSegment_only _ s r rfl t h
  | readReq => exact execReadReq_only _ _ _ s r rfl t h
  | fetchAddRequest => exact execFetchAddRequest_only _ _ _ s r rfl t h
  | cmpSwapRequest => exact execCmpSwapRequest_only _ _ _ s r rfl t h
  | readResp => exact execReadResp_only _ _ s r rfl t h
  | atomicResp => exact execAtomicResp_only _ _ s r rfl t h
  | ack => exact execAck_only _ _ s r rfl t h
  | sequenceNak => exact execSequenceNak_only _ _ s r rfl t h
  | rnrNak => exact execRnrNak_only _ s r rfl t h
  | nak => exact execNak_only _ s r rfl t h
  | retransmitTimeout => exact execRetransmitTimeout_only _ _ s r rfl t h
  | rnrWaitEnd => exact execRnrWaitEnd_only _ _ s r rfl t h
  | ackTimer => exact execAckTimer_only _ s r rfl t h
  | rateIncrease => exact execRateIncrease_only _ s r rfl t h
  | messageDelivery => exact execMessageDelivery_only _ s r rfl t h
  | regionRevoking => exact execRegionRevoking_only _ s r rfl t h
  | revocationComplete => exact execRevocationComplete_only _ s r rfl t h
  | clusterRetire => exact execClusterRetire_only _ _ s r rfl t h
  | clusterRetirement => exact execClusterRetirement_only _ s r rfl t h
  | qpQuery => exact execQpQuery_only _ s r rfl t h
  | domainContainment => exact execDomainContainment_only _ s r rfl t h
  | containRelease => exact execContainRelease_only _ s r rfl t h
  | resetControlDrain => exact execResetControlDrain_only _ _ s r rfl t h
  | resetControlSquash => exact execResetControlSquash_only _ _ s r rfl t h
  | instanceResetDrain => exact execInstanceResetDrain_only _ s r rfl t h
  | instanceResetSquash => exact execInstanceResetSquash_only _ s r rfl t h
  | instanceResetTakesEffect => exact execInstanceResetTakesEffect_only _ s r rfl t h
  | drainLimitReached => exact execDrainLimitReached_only _ s r rfl t h
  | instanceResetEnd => exact execInstanceResetEnd_only _ s r rfl t h
  | logSwapRequest => exact execLogSwapRequest_only _ _ s r rfl t h
  | logSwap => exact execLogSwap_only _ s r rfl t h
  | logSwapComplete => exact execLogSwapComplete_only _ _ s r rfl t h
  | mboxSubmit => exact execMboxSubmit_only _ _ s r rfl t h
  | respReadyClear => exact execRespReadyClear_only _ s r rfl t h
  | errorQueueSetup => exact execErrorQueueSetup_only _ _ _ s r rfl t h
  | moderationTimerExpiry => exact execModerationTimerExpiry_only _ _ s r rfl t h
  | vectorDeliverable => exact execVectorDeliverable_only _ _ s r rfl t h
  | powerStateWrite => exact execPowerStateWrite_only _ _ s r rfl t h
  | masterTimeout => exact execMasterTimeout_only _ s r rfl t h
  | doeRequest => exact execDoeRequest_only _ _ _ _ s r rfl t h
  | coreRetire => exact execCoreRetire_only _ s r rfl t h
  | coreCheckinTimeout => exact execCoreCheckinTimeout_only _ s r rfl t h
  | taskSetMoveDone => exact execTaskSetMoveDone_only _ s r rfl t h
  | mgmtSramError => exact execMgmtSramError_only _ s r rfl t h
  | claim => exact execClaim_only _ s r rfl t h
  | complete => exact execComplete_only _ _ s r rfl t h
  | softRaise => exact execSoftRaise_only _ s r rfl t h
  | firmwareTick => exact execFirmwareTick_only s r rfl t h
  | supervisorRead => exact execSupervisorRead_only _ _ _ _ _ s r rfl t h
  | sproutCheckin => exact execSproutCheckin_only s r rfl t h
  | sproutCheckinMissed => exact execSproutCheckinMissed_only s r rfl t h
  | portContainment => exact execPortContainment_only _ s r rfl t h
  | portRelease => exact execPortRelease_only _ _ s r rfl t h
  | stickyClear => exact execStickyClear_only _ s r rfl t h
  | force => exact execForce_only _ s r rfl t h
  | clearAll => exact execClearAll_only s r rfl t h
  | collectorInject => exact execCollectorInject_only s r rfl t h
  | collectorScan => exact execCollectorScan_only s r rfl t h
  | beatFrame => exact execBeatFrame_only _ s r rfl t h
  | recordFrame => exact execRecordFrame_only _ _ s r rfl t h
  | mirrorAckRelease => exact execMirrorAckRelease_only _ s r rfl t h
  | missedHeartbeat => exact execMissedHeartbeat_only s r rfl t h
  | twinAlertPulsing => exact execTwinAlertPulsing_only s r rfl t h
  | takeover => exact execTakeover_only s r rfl t h
  | attachRequest => exact execAttachRequest_only _ s r rfl t h
  | attachRequestMessage => exact execAttachRequestMessage_only _ _ s r rfl t h
  | attachAccept => exact execAttachAccept_only _ s r rfl t h
  | attachRefuse => exact execAttachRefuse_only _ _ s r rfl t h
  | syncDone => exact execSyncDone_only _ s r rfl t h
  | detachRequest => exact execDetachRequest_only _ s r rfl t h
  | detachMessage => exact execDetachMessage_only _ s r rfl t h
  | serveAlone => exact execServeAlone_only _ s r rfl t h
  | homeMove => exact execHomeMove_only _ s r rfl t h
  | homeMoveMessage => exact execHomeMoveMessage_only _ _ s r rfl t h
  | recallRequest => exact execRecallRequest_only _ _ _ s r rfl t h
  | restartRequest => exact execRestartRequest_only _ s r rfl t h
  | restartRequestRepeat => exact execRestartRequestRepeat_only s r rfl t h
  | twinQuery => exact execTwinQuery_only _ s r rfl t h
  | hello => exact execHello_only _ _ _ _ s r rfl t h
  | chain => exact execChain_only _ _ _ _ s r rfl t h
  | finish => exact execFinish_only _ _ _ _ _ _ s r rfl t h
  | close => exact execClose_only _ s r rfl t h
  | adpRead => exact execAdpRead_only _ _ s r rfl t h
  | adpWrite => exact execAdpWrite_only _ _ _ s r rfl t h
  | adpCommit => exact execAdpCommit_only _ _ _ s r rfl t h
  | subscribe => exact execSubscribe_only _ _ s r rfl t h
  | nop => exact execNop_only _ s r rfl t h
  | handshakeTimeout => exact execHandshakeTimeout_only _ s r rfl t h
  | idleTimeout => exact execIdleTimeout_only _ s r rfl t h
  | addressConflict => exact execAddressConflict_only _ s r rfl t h
  | segmentDown => exact execSegmentDown_only _ s r rfl t h
  | trustAnchorWrite => exact execTrustAnchorWrite_only _ _ s r rfl t h
  | registerWrite => exact execRegisterWrite_only _ _ s r rfl t h
  | segmentUp => exact execSegmentUp_only _ s r rfl t h
  | partnerCreditReturn => exact execPartnerCreditReturn_only _ _ _ s r rfl t h
  | trainingSetReceived => exact execTrainingSetReceived_only _ _ _ _ s r rfl t h
  | l1Exit => exact execL1Exit_only _ s r rfl t h
  | invertedMarker => exact execInvertedMarker_only _ s r rfl t h
  | storeSaveDone => exact execStoreSaveDone_only _ s r rfl t h
  | deviceEventRecord => exact execDeviceEventRecord_only _ _ s r rfl t h

end Sys2Proof.Machine

/-! ### Commit requests and the discard of the shadow (R28 to R30, R35) -/

namespace Sys2Proof.Machine

theorem State.setCommit_ep (c : CommitState) (s : State) : (s.setCommit c).ep = { s.ep with commit := c } :=
  (State.notify_only _ _ _ _ (.refl (but [.beat, .epochs, .inflight, .commit, .tables]) _) rfl).ep

theorem State.answer_out_head (n : Nat) (s : State) : (s.answer n).out.head? = some (.status n) := rfl

/-- The token 0 is refused before the commit that waits is looked at (R28, R29). -/
theorem State.commitRequest_refused {token cycle : Nat} {s : State}
    (h : s.ep.commit = .pending ∨ s.ep.commit = .deferred ∨ token = 0) :
    s.commitRequest token cycle = s.answer (if token = 0 then 2 else 1) := by
  unfold State.commitRequest
  by_cases h0 : token = 0
  · simp [h0]
  · simp only [h0, or_false, if_false] at h ⊢
    exact if_pos h

theorem State.commitRequest_accepted {token cycle : Nat} {s : State} (h0 : token ≠ 0) (hp : s.ep.commit ≠ .pending)
    (hd : s.ep.commit ≠ .deferred) :
    (s.commitRequest token cycle).ep =
        { s.ep with commit := .pending, token := token, due := s.ep.beat + (if cycle ≤ 224 then 1 else 2) } ∧
      (s.commitRequest token cycle).out.head? = some (.status 0) := by
  unfold State.commitRequest
  rw [if_neg h0, if_neg (by simp [hp, hd])]
  exact ⟨State.setCommit_ep _ _, State.answer_out_head _ _⟩

/-- While a commit waits the shadow is locked (R28, R35). -/
theorem execShadowDiscard_busy {s : State} (ho : s.adpOpen = true) (hw : s.ep.commit = .pending ∨ s.ep.commit = .deferred) :
    execShadowDiscard true s = .next (s.answer 1) := by
  rw [execShadowDiscard, if_neg (by decide), commandWrite_open ho, if_pos hw]

/-- A discard gives the shadow the live values back, and a rejected commit is idle again (R35). -/
theorem execShadowDiscard_performed {s : State} (ho : s.adpOpen = true) (hc : s.ep.commit = .idle ∨ s.ep.commit = .rejected) :
    ∃ t, execShadowDiscard true s = .next t ∧ t.ep = { s.ep with shadow := s.ep.live, commit := .idle } ∧
      t.out.head? = some (.status 0) := by
  have hw : ¬ (s.ep.commit = .pending ∨ s.ep.commit = .deferred) := by
    rcases hc with hc | hc <;> simp [hc]
  rw [execShadowDiscard, if_neg (by decide), commandWrite_open ho, if_neg hw]
  refine ⟨_, rfl, ?_, State.answer_out_head _ _⟩
  dsimp only
  split
  · next hi => rw [← hi]; rfl
  · exact State.setCommit_ep .idle _

/-- Settles O1, a clause for each way in which a request or a discard can end. -/
theorem commitRequestAndDiscard : Obligations.CommitRequestAndDiscard := by
  unfold Obligations.CommitRequestAndDiscard
  refine ⟨?accepted, ?refused, ?discarded, ?waits, ?zero⟩
  case accepted =>
    intro token cycle s ho h0 hp hd
    have h0' : token.toNat ≠ 0 := by simpa [← BitVec.toNat_inj] using h0
    obtain ⟨hep, hout⟩ := State.commitRequest_accepted (cycle := cycle.val) h0' hp hd
    refine ⟨_, commandWrite_open ho _, ?_⟩
    rw [hep]
    exact ⟨rfl, rfl, rfl, rfl, rfl, rfl, hout⟩
  case refused =>
    intro token cycle s ho h
    have e : token = 0#32 ↔ token.toNat = 0 := by simp [← BitVec.toNat_inj]
    simp only [e] at h ⊢
    rw [← State.commitRequest_refused (cycle := cycle.val) h]
    exact commandWrite_open ho _
  case discarded =>
    intro s ho hc
    obtain ⟨t, ht, hep, hout⟩ := execShadowDiscard_performed ho hc
    refine ⟨t, ht, ?_⟩
    rw [hep]
    exact ⟨rfl, rfl, rfl, rfl, hout⟩
  case waits => exact fun s => execShadowDiscard_busy
  case zero =>
    intro s hu
    exact congrArg Host.Outcome.next (if_pos hu)

end Sys2Proof.Machine

/-!
### At most three epochs are live (R22)

An operation that leaves the epochs alone keeps the bound by its frame. The operations that touch them end the epochs (a start,
standby, the loss of power), release some of them, or add one: a commit, which looks at the bound before it takes effect (R32).
-/

namespace Sys2Proof.Machine

theorem OnlyChanges.superseded {s t : State} (F : OnlyChanges (but [.epochs]) s t) : t.ep.superseded = s.ep.superseded :=
  (F .epochs (by decide)).2

namespace State.EpochsBounded

/-- An operation that leaves the epochs alone keeps the bound. -/
theorem of_frame {s t : State} (hs : s.EpochsBounded) (F : OnlyChanges (but [.epochs]) s t) : t.EpochsBounded := by
  unfold State.EpochsBounded
  rw [F.superseded]
  exact hs

theorem of_superseded_nil {s : State} (h : s.ep.superseded = []) : s.EpochsBounded := by
  simp [State.EpochsBounded, h]

theorem of_length_le {s t : State} (hs : s.EpochsBounded) (h : t.ep.superseded.length ≤ s.ep.superseded.length) : t.EpochsBounded :=
  le_trans h hs

theorem each {α : Type} {l : List α} {f : α → State → State} {s : State} (hs : s.EpochsBounded)
    (hf : ∀ x z, z.EpochsBounded → (f x z).EpochsBounded) : (s.each l f).EpochsBounded :=
  each_inv (fun x y => x.EpochsBounded → y.EpochsBounded) (fun _ h => h) (fun _ _ _ h k x => k (h x)) (fun x _ z => hf x z) hs

theorem ifDo {c : Bool} {f : State → State} {s : State} (hs : s.EpochsBounded) (hf : s.EpochsBounded → (f s).EpochsBounded) :
    (s.ifDo c f).EpochsBounded := by
  cases c
  · exact hs
  · exact hf hs

end State.EpochsBounded

theorem guarded_epochsBounded {c : Bool} {f : State → State} {s t : State} (hs : s.EpochsBounded)
    (hf : (f s).EpochsBounded) (h : guarded c f s = .next t) : t.EpochsBounded := by
  rw [guarded_next h]
  split
  · exact hf
  · exact hs

theorem State.answer_epochsBounded {s : State} (n : Nat) (hs : s.EpochsBounded) : (s.answer n).EpochsBounded := hs

theorem commandWrite_epochsBounded {f : State → State} {s t : State} (hs : s.EpochsBounded) (hf : (f s).EpochsBounded)
    (h : commandWrite f s = .next t) : t.EpochsBounded := by
  refine guarded_epochsBounded hs ?_ h
  split
  · exact hf
  · exact State.answer_epochsBounded 1 hs

theorem received_epochsBounded {p : AdpPath} {f : State → State} {s t : State} (hs : s.EpochsBounded)
    (hf : ∀ z : State, z.EpochsBounded → (f z).EpochsBounded) (h : received p f s = .next t) : t.EpochsBounded := by
  refine guarded_epochsBounded hs ?_ h
  exact hf _ (hs.of_frame (State.arrived_only p s (.refl _ s) rfl))

/-- A command that does not touch the epochs keeps the bound. -/
theorem exec_epochsBounded_of_untouched (c : Instr) (hc : (touches c).contains .epochs = false) {s t : State}
    (hs : s.EpochsBounded) (h : exec c s = .next t) : t.EpochsBounded := by
  have same := (exec_onlyChanges h .epochs (by simpa using hc)).2
  exact hs.of_length_le (congrArg List.length same).le

/-! #### Starts -/

theorem State.takeRecord_ep (old : Collector) (s : State) : (s.takeRecord old).ep = s.ep := by
  obtain ⟨c, h, -⟩ := takeRecord_eq old s
  rw [h]

theorem State.warmStart_superseded (cause : Nat) (s : State) : (s.warmStart cause).ep.superseded = [] :=
  congrArg EpochUnit.superseded (State.takeRecord_ep _ _)

theorem State.coldStart_superseded (cause : Nat) (s : State) : (s.coldStart cause).ep.superseded = [] :=
  congrArg EpochUnit.superseded (State.takeRecord_ep _ _)

theorem State.tripEnd_superseded (s : State) : s.tripEnd.ep.superseded = [] := rfl

theorem State.watchdogExpire_superseded (s : State) : s.watchdogExpire.ep.superseded = [] := by
  unfold State.watchdogExpire
  dsimp only
  split <;> simp [State.warmStart_superseded]

theorem State.warmStart_epochsBounded (cause : Nat) (s : State) : (s.warmStart cause).EpochsBounded :=
  .of_superseded_nil (State.warmStart_superseded cause s)

theorem State.coldStart_epochsBounded (cause : Nat) (s : State) : (s.coldStart cause).EpochsBounded :=
  .of_superseded_nil (State.coldStart_superseded cause s)

/-! #### Commits and the drain of epochs -/

/-- What comes before the tables are swapped sees the old epochs, and what comes after leaves the new ones alone. -/
theorem State.applyCommit_superseded_length (s : State) :
    s.applyCommit.ep.superseded.length = s.ep.superseded.length + 1 := by
  unfold State.applyCommit
  extract_lets t u ks s1 s2 s3 s4 s5 _ _ s6
  have h1 : s1.ep.superseded.length = s.ep.superseded.length + 1 := by
    have before : OnlyChanges (but [.epochs]) s ((s.commitUnbind u).commitPortsDown u) :=
      State.commitPortsDown_only _ _ (State.commitUnbind_only _ _ (.refl _ s) rfl) rfl
    rw [← before.superseded]
    exact List.length_append
  have h2 : OnlyChanges (but [.epochs]) s1 s2 := by
    refine State.bucketChecks_only _ _ (State.commitPortsUp_only _ _ ?_ rfl) rfl
    refine State.each_only _ _ _ ?_ (fun n z hz => State.joinPerst_only n z hz rfl)
    exact State.each_only _ _ _ (.refl _ s1) (fun n z hz => State.commitGroup_only _ n z hz rfl)
  have h3 : OnlyChanges (but [.epochs]) s2 s3 :=
    State.commitChannels_only _ _ (State.commitWindows_only _ _ (State.commitBind_only _ _
      (State.commitDevices_only _ _ (.refl _ s2) rfl) rfl) rfl) rfl
  have h4 : OnlyChanges (but [.epochs]) s3 s4 :=
    State.commitTenants_only _ _ (State.commitExtents_only _ _ (.refl _ s3) rfl) rfl
  have h5 : OnlyChanges (but [.epochs]) s4 s5 :=
    State.writeChecks_only _ _ (State.each_only _ _ _ (.refl _ s4) (fun k z hz => State.mirror_only _ _ _ _ hz rfl)) rfl
  have h6 : s6.ep.superseded = s5.ep.superseded := rfl
  have h7 : OnlyChanges (but [.epochs]) s6 (s6.refuseWaiting.setCommit .idle) :=
    State.setCommit_only _ _ (State.refuseWaiting_only _ (.refl _ s6) rfl) rfl
  rw [h7.superseded, h6, h5.superseded, h4.superseded, h3.superseded, h2.superseded, h1]

/-- A commit takes effect only where at most one epoch is superseded (R32). -/
theorem State.tryCommit_epochsBounded {s : State} (hs : s.EpochsBounded) : s.tryCommit.EpochsBounded := by
  unfold State.tryCommit
  split
  · exact hs.of_frame (State.deferCommit_only _ s (.refl _ s) rfl)
  split
  · exact hs.of_frame (State.deferCommit_only _ s (.refl _ s) rfl)
  dsimp only
  split
  · exact hs.of_frame (State.rejectCommit_only _ s (.refl _ s) rfl)
  · have := s.applyCommit_superseded_length
    unfold State.EpochsBounded
    omega

theorem State.commitStep_epochsBounded {s : State} (hs : s.EpochsBounded) : s.commitStep.EpochsBounded := by
  unfold State.commitStep
  split
  · exact State.tryCommit_epochsBounded hs
  · exact hs

theorem State.releaseEpochs_epochsBounded {s : State} (hs : s.EpochsBounded) : s.releaseEpochs.EpochsBounded :=
  hs.of_length_le (List.length_filter_le _ _)

theorem execEpochRelease_epochsBounded {tag : Fin 4} {s t : State} (hs : s.EpochsBounded)
    (h : execEpochRelease tag s = .next t) : t.EpochsBounded := by
  refine guarded_epochsBounded hs ?_ h
  exact hs.of_length_le (List.length_filter_le _ _)

theorem State.drainCheck_epochsBounded {s : State} (hs : s.EpochsBounded) : s.drainCheck.EpochsBounded := by
  unfold State.drainCheck
  refine .each ?_ (fun _ z hz => hz.of_frame (State.raise_only 16 z (.refl _ z) rfl))
  exact hs.of_length_le (List.length_map _).le

/-! #### The beat boundary -/

theorem State.epochSteps_epochsBounded {s : State} (hs : s.EpochsBounded) : s.epochSteps.EpochsBounded := by
  have h3 := State.commitStep_epochsBounded (State.releaseEpochs_epochsBounded hs)
  have h4 := State.drainCheck_epochsBounded (h3.of_frame (State.convertSlots_only _ (.refl _ _) rfl))
  exact h4.of_frame (State.retireCores_only _ (State.collect_only _ (.refl _ _) rfl) rfl)

theorem State.fenceStep_epochsBounded {s : State} (hs : s.EpochsBounded) : s.fenceStep.EpochsBounded := by
  unfold State.fenceStep
  dsimp only
  split
  · split
    · exact State.warmStart_epochsBounded 5 _
    split
    · exact hs.of_frame (State.takeover_only _ (State.board_update (.refl _ s) rfl) rfl)
    · exact hs
  · exact hs

theorem State.boundary_epochsBounded {s : State} (hs : s.EpochsBounded) : s.boundary.EpochsBounded := by
  unfold State.boundary
  dsimp only
  have h1 : State.EpochsBounded { s with ep := { s.ep with beat := s.ep.beat + 1 } } := hs
  have h2 := h1.of_frame (State.takeSettings_only _ (.refl _ _) rfl)
  split
  · exact h2.of_frame (State.idleBoundary_only _ (.refl _ _) rfl)
  · have h5 := State.epochSteps_epochsBounded (h2.of_frame (State.beforeSteps_only _ (.refl _ _) rfl))
    have h10 := h5.of_frame (State.serviceSteps_only _ (.refl _ _) rfl)
    exact (h10.ifDo State.fenceStep_epochsBounded).of_frame (State.countCapacity_only _ (.refl _ _) rfl)

/-! #### The load of a configuration and the release of the data path -/

theorem State.buildTables_epochsBounded (raw : Tbl Nat) (s : State) : (s.buildTables raw).EpochsBounded := by
  unfold State.buildTables
  extract_lets good settings tables sources s1 s2 cs
  have h1 : s1.EpochsBounded := by
    refine .each ?_ (fun e z hz => hz.of_frame (State.loadSource_only e.1 e.2 z (.refl _ z) rfl))
    exact .of_superseded_nil rfl
  have h2 : s2.EpochsBounded :=
    h1.each (fun v z hz => hz.of_frame (State.setFunc_only v _ _ (State.setHier_only v _ z (.refl _ z) rfl) rfl))
  split
  · have h3 : State.EpochsBounded { s2 with ep := { s2.ep with live := tables, shadow := tables } } := h2
    exact h3.of_frame (State.commitTenants_only _ _ (State.commitDevices_only _ _ (.refl _ _) rfl) rfl)
  · have h3 : State.EpochsBounded { s2 with ep := { s2.ep with shadow := tables, commit := .rejected } } := h2
    exact h3.of_frame (State.writeChecks_only _ _ (.refl _ _) rfl)

theorem execConfigurationLoad_epochsBounded {s t : State} (hs : s.EpochsBounded) (h : execConfigurationLoad s = .next t) :
    t.EpochsBounded := by
  refine guarded_epochsBounded hs ?_ h
  extract_lets cold bad src s1 s2 cfg
  have h1 : s1.EpochsBounded := (State.buildTables_epochsBounded _ s).of_frame (State.setStartUnit_only _ _ (.refl _ _) rfl)
  have h2 : s2.EpochsBounded := by
    unfold s2
    split
    · exact h1.of_frame (State.raise_only 126 s1 (.refl _ s1) rfl)
    · exact h1
  split
  · exact h2.of_frame (State.setStartUnit_only _ s2 (.refl _ s2) rfl)
  · exact h2

theorem execDataPathRelease_epochsBounded {ms : BitVec 32} {s t : State} (hs : s.EpochsBounded)
    (h : execDataPathRelease ms s = .next t) : t.EpochsBounded := by
  refine guarded_epochsBounded hs ?_ h
  extract_lets _ _ _ s1 s2 s3 s4
  have h1 : s1.EpochsBounded := .of_superseded_nil rfl
  have h2 : s2.EpochsBounded := h1.of_frame (State.setStart_only _ s1 (.refl _ s1) rfl)
  have h3 : s3.EpochsBounded := by
    unfold s3
    split
    · exact h2.of_frame (State.setPair_only _ s2 (.refl _ s2) rfl)
    · exact h2
  have h4 : s4.EpochsBounded := h3.each (fun n z hz => hz.of_frame (State.setGroup_only n _ z (.refl _ z) rfl))
  exact (h4.of_frame (State.commitBind_only _ s4 (.refl _ s4) rfl)).each
    (fun p z hz => hz.of_frame (State.startPort_only p z (.refl _ z) rfl))

theorem execWarmStart_epochsBounded {recordOk sramError repaired : Bool} {s t : State} (hs : s.EpochsBounded)
    (h : execWarmStart recordOk sramError repaired s = .next t) : t.EpochsBounded := by
  refine guarded_epochsBounded hs ?_ h
  extract_lets good s0 s0' s1
  have h1 : s1.EpochsBounded := .of_superseded_nil rfl
  split
  · exact h1.of_frame (State.setStart_only _ _ (State.setStartUnit_only _ s1 (.refl _ s1) rfl) rfl)
  · exact h1.of_frame (State.setStart_only _ _ (State.raise_only _ _ (State.setStartUnit_only _ s1 (.refl _ s1) rfl) rfl) rfl)

/-! #### Commands that may end in a start -/

theorem execStandbyRequest_epochsBounded {s t : State} (hs : s.EpochsBounded) (h : execStandbyRequest s = .next t) :
    t.EpochsBounded := by
  refine commandWrite_epochsBounded hs ?_ h
  dsimp only
  split
  · exact State.answer_epochsBounded 1 hs
  · exact .of_superseded_nil rfl

theorem execWarmStartRequest_epochsBounded {s t : State} (hs : s.EpochsBounded) (h : execWarmStartRequest s = .next t) :
    t.EpochsBounded := by
  refine guarded_epochsBounded hs ?_ h
  split
  · exact State.answer_epochsBounded 1 hs
  · exact State.answer_epochsBounded 0 (State.warmStart_epochsBounded 3 _)

theorem execColdStartRequest_epochsBounded {s t : State} (hs : s.EpochsBounded) (h : execColdStartRequest s = .next t) :
    t.EpochsBounded := by
  refine guarded_epochsBounded hs ?_ h
  split
  · exact State.answer_epochsBounded 1 hs
  · exact State.answer_epochsBounded 0 (State.coldStart_epochsBounded 2 _)

theorem execStandbyWake_epochsBounded {frame : Fin 3} {s t : State} (hs : s.EpochsBounded)
    (h : execStandbyWake frame s = .next t) : t.EpochsBounded := by
  refine guarded_epochsBounded hs ?_ h
  exact State.warmStart_epochsBounded 6 _

theorem execTwinAlertPulsing_epochsBounded {s t : State} (hs : s.EpochsBounded) (h : execTwinAlertPulsing s = .next t) :
    t.EpochsBounded :=
  guarded_epochsBounded hs (State.warmStart_epochsBounded 5 s) h

theorem execWatchdogExpiry_epochsBounded {s t : State} (hs : s.EpochsBounded) (h : execWatchdogExpiry s = .next t) :
    t.EpochsBounded :=
  guarded_epochsBounded hs (.of_superseded_nil s.watchdogExpire_superseded) h

theorem execMgmtSramError_epochsBounded {e : SramError} {s t : State} (hs : s.EpochsBounded)
    (h : execMgmtSramError e s = .next t) : t.EpochsBounded := by
  refine guarded_epochsBounded hs ?_ h
  cases e with
  | corrected => exact hs
  | shared =>
    dsimp only
    split
    · exact hs
    · exact .of_superseded_nil s.watchdogExpire_superseded
  | coreLocal k =>
    dsimp only
    split
    · exact hs.of_frame (State.coreFail_only _ s (.refl _ s) rfl)
    · exact hs

theorem execModrstN_epochsBounded {edge : ModrstEdge} {taken : Bool} {s t : State} (hs : s.EpochsBounded)
    (h : execModrstN edge taken s = .next t) : t.EpochsBounded := by
  refine guarded_epochsBounded hs ?_ h
  dsimp only
  split
  · exact State.coldStart_epochsBounded 1 _
  · exact hs

theorem execGateFullyOn_epochsBounded {s t : State} (hs : s.EpochsBounded) (h : execGateFullyOn s = .next t) :
    t.EpochsBounded := by
  refine guarded_epochsBounded hs ?_ h
  exact State.coldStart_epochsBounded 0 _

theorem execHardShortTrip_epochsBounded {s t : State} (hs : s.EpochsBounded) (h : execHardShortTrip s = .next t) :
    t.EpochsBounded := by
  refine guarded_epochsBounded hs ?_ h
  exact .of_superseded_nil (State.tripEnd_superseded _)

theorem execGateOffAfterTrip_epochsBounded {s t : State} (hs : s.EpochsBounded) (h : execGateOffAfterTrip s = .next t) :
    t.EpochsBounded :=
  guarded_epochsBounded hs (.of_superseded_nil (State.tripEnd_superseded _)) h

theorem execFeedLost_epochsBounded {k : Fin 2} {s t : State} (hs : s.EpochsBounded) (h : execFeedLost k s = .next t) :
    t.EpochsBounded := by
  refine guarded_epochsBounded hs ?_ h
  extract_lets s1 s2
  have h1 : s1.EpochsBounded := hs.of_frame (State.raise_only _ _ (State.setFeed_only _ _ s (.refl _ s) rfl) rfl)
  split
  · exact h1
  split
  · exact h1
  · exact .of_superseded_nil (State.tripEnd_superseded _)

theorem execSidebandLevelAccepted_epochsBounded {n : Fin 40} {signal : Sideband} {high : Bool} {s t : State}
    (hs : s.EpochsBounded) (h : execSidebandLevelAccepted n signal high s = .next t) : t.EpochsBounded := by
  refine guarded_epochsBounded hs ?_ h
  cases signal with
  | perst =>
    dsimp only
    split
    · split
      · exact hs
      split
      · exact hs.of_frame (State.hostRelease_only _ _ (State.setGroup_only _ _ s (.refl _ s) rfl) rfl)
      · exact hs.of_frame (State.hostReset_only _ _ (State.setGroup_only _ _ s (.refl _ s) rfl) rfl)
    · exact hs
  | prsnt =>
    dsimp only
    split
    · exact hs
    split
    · exact hs
    split
    · exact State.EpochsBounded.each hs (fun p z hz => hz.of_frame (State.portDown_only p 2 z (.refl _ z) rfl))
    · exact State.EpochsBounded.each hs (fun p z hz => hz.of_frame (State.startPort_only p z (.refl _ z) rfl))
  | wake =>
    dsimp only
    split
    · split
      · split
        · exact hs.of_frame (State.wakeFrom_only _ _ _ (State.setGroup_only _ _ s (.refl _ s) rfl) rfl)
        · exact hs
      · exact hs
    · exact hs
  | clkreq =>
    dsimp only
    split
    · exact hs
    · exact State.EpochsBounded.each hs (fun p z hz => hz.of_frame (State.useLink_only p z (.refl _ z) rfl))
  | garnetPrsnt =>
    dsimp only
    split
    · exact hs
    split
    · exact hs.of_frame (State.startPort_only 160 _ (State.board_update (.refl _ s) rfl) rfl)
    split
    · exact (State.warmStart_epochsBounded 5 _).of_frame (State.raise_only 389 _ (.refl _ _) rfl)
    · exact hs.of_frame (State.portDown_only 160 2 _ (State.board_update (.refl _ s) rfl) rfl)

theorem State.message_epochsBounded {hd : GarnetHead} {code : Nat} {body : List Nat} {f : State → State} {s : State}
    (hs : s.EpochsBounded) (hf : ∀ z : State, z.EpochsBounded → (f z).EpochsBounded) : (s.message hd code body f).EpochsBounded := by
  unfold State.message State.garnetAccept
  dsimp only
  split
  · exact hs
  split
  · exact hs.of_frame (State.askReplay_only _ _ s (.refl _ s) rfl)
  split
  · exact hf _ hs
  split
  · exact hs
  · exact hs.of_frame (State.askReplay_only _ _ s (.refl _ s) rfl)

theorem execRestartRequest_epochsBounded {hd : GarnetHead} {s t : State} (hs : s.EpochsBounded)
    (h : execRestartRequest hd s = .next t) : t.EpochsBounded := by
  refine guarded_epochsBounded hs (State.message_epochsBounded hs (fun z hz => ?_)) h
  split
  · exact hz
  · exact State.warmStart_epochsBounded 5 z

/-! #### Writes of the dictionary -/

theorem settled_epochsBounded {s : State} {r : Res} (hs : s.EpochsBounded) (hr : ∀ t, r = .next t → t.EpochsBounded) :
    (settled s r).EpochsBounded := by
  cases r with
  | next t => exact hr t rfl
  | fault => exact hs
  | refused => exact hs

/-- A write of a command entry is the command that the entry names; of these only the requests for a start or for standby end
the epochs. -/
theorem State.commandItem_epochsBounded {i j v : Nat} {cycle : Fin 256} {s t : State} (hs : s.EpochsBounded)
    (h : s.commandItem i j v cycle = .next t) : t.EpochsBounded := by
  unfold State.commandItem at h
  split at h
  · split at h
    · exact exec_epochsBounded_of_untouched (.stickyClear _) rfl hs h
    · exact exec_epochsBounded_of_untouched (.force _) rfl hs h
  split at h
  · exact exec_epochsBounded_of_untouched (.containRelease _) rfl hs h
  split at h
  · split at h
    · exact exec_epochsBounded_of_untouched (.portRelease _ _) rfl hs h
    · exact commandWrite_epochsBounded hs (hs.of_frame (State.writePwren_only _ _ s (.refl _ s) rfl)) h
  split at h
  · exact exec_epochsBounded_of_untouched (.laneExclude _ _) rfl hs h
  split at h
  · split at h
    · exact exec_epochsBounded_of_untouched (.scanStart _ _) rfl (hs.of_frame (State.fresh_only 8 s (.refl _ s) rfl)) h
    · exact exec_epochsBounded_of_untouched (.scanAbort _) rfl hs h
  split at h
  · exact exec_epochsBounded_of_untouched (.commitRequest _ _) rfl hs h
  · exact exec_epochsBounded_of_untouched (.shadowDiscard _) rfl hs h
  · exact exec_epochsBounded_of_untouched .latchRecordClear rfl hs h
  · exact exec_epochsBounded_of_untouched .twinRelease rfl hs h
  · exact execStandbyRequest_epochsBounded hs h
  · split at h
    · exact execWarmStartRequest_epochsBounded hs h
    · exact execColdStartRequest_epochsBounded hs h
  · exact exec_epochsBounded_of_untouched (.imageBlockWrite _ _) rfl hs h
  · exact exec_epochsBounded_of_untouched (.imageVerify _) rfl hs h
  · exact exec_epochsBounded_of_untouched .storeRequest rfl hs h
  · exact exec_epochsBounded_of_untouched (.groupPerst _) rfl hs h
  · exact exec_epochsBounded_of_untouched (.bankRetire _ none) rfl hs h
  · exact exec_epochsBounded_of_untouched (.attachmentRetire _ none) rfl hs h
  · exact exec_epochsBounded_of_untouched (.releaseExtent _) rfl hs h
  · exact exec_epochsBounded_of_untouched (.rescrubExtent _) rfl hs h
  · exact exec_epochsBounded_of_untouched (.ledgerBankRetire _) rfl hs h
  · exact exec_epochsBounded_of_untouched (.clusterRetire _ none) rfl hs h
  · split at h
    · exact exec_epochsBounded_of_untouched (.instanceResetDrain _) rfl hs h
    · exact exec_epochsBounded_of_untouched (.instanceResetSquash _) rfl hs h
  · exact exec_epochsBounded_of_untouched (.coreRetire _) rfl hs h
  · exact exec_epochsBounded_of_untouched .collectorInject rfl hs h
  · exact exec_epochsBounded_of_untouched .clearAll rfl hs h
  · exact exec_epochsBounded_of_untouched (.attachRequest _) rfl hs h
  · exact exec_epochsBounded_of_untouched (.detachRequest _) rfl hs h
  · exact exec_epochsBounded_of_untouched (.serveAlone _) rfl hs h
  · exact exec_epochsBounded_of_untouched (.homeMove _) rfl hs h
  · exact exec_epochsBounded_of_untouched (.laneExclude _ _) rfl hs h
  · rw [← Host.Outcome.next.inj h]
    exact State.answer_epochsBounded 3 hs

theorem State.writeEntry_epochsBounded {r : EntryRow} {i j v : Nat} {cycle : Fin 256} {s : State} (hs : s.EpochsBounded) :
    (s.writeEntry r i j v cycle).EpochsBounded := by
  unfold State.writeEntry
  split
  · exact hs
  · exact hs.of_frame (State.writeSetting_only _ _ _ s (.refl _ s) rfl)
  · exact hs.of_frame (State.writeStaged_only _ _ _ s (.refl _ s) rfl)
  · exact hs.of_frame (State.writeSelector_only _ _ _ s (.refl _ s) rfl)
  · exact settled_epochsBounded hs (fun _ => State.commandItem_epochsBounded hs)

theorem State.registerWrite_epochsBounded {w : RegWrite} {cycle : Fin 256} {s : State} (hs : s.EpochsBounded) :
    (s.registerWrite w cycle).EpochsBounded := by
  cases w with
  | entry i j v =>
    unfold State.registerWrite
    dsimp only
    split
    · exact State.answer_epochsBounded 3 hs
    split
    · exact State.answer_epochsBounded 3 hs
    split
    · exact State.answer_epochsBounded 6 hs
    split
    · exact State.answer_epochsBounded 4 hs
    refine State.answer_epochsBounded _ ?_
    split
    · exact State.writeEntry_epochsBounded hs
    · exact hs
  | host v reg => exact hs.ifDo (·.of_frame (State.writeHost_only _ _ s (.refl _ s) rfl))
  | irqEnable k word value => exact hs.of_frame (State.writeEnable_only _ _ _ s (.refl _ s) rfl)
  | config n v => exact hs.of_frame (State.writeConfig_only _ _ s (.refl _ s) rfl)
  | status n v => exact hs.ifDo (·.of_frame (State.clearSource_only _ s (.refl _ s) rfl))
  | force v => exact hs
  | ignored => exact hs

theorem State.writeItem_epochsBounded {x : Session} {cycle : Fin 256} {i : AdpItem} {s : State} (hs : s.EpochsBounded) :
    (s.writeItem x cycle i).EpochsBounded := by
  unfold State.writeItem
  split
  · exact hs
  split
  · exact hs
  split
  · exact hs
  · exact State.writeEntry_epochsBounded hs

theorem State.adpMessage_epochsBounded {hd : AdpHead} {f : Session → State → State} {s : State} (hs : s.EpochsBounded)
    (hf : ∀ x (z : State), z.EpochsBounded → (f x z).EpochsBounded) : (s.adpMessage hd f).EpochsBounded := by
  unfold State.adpMessage
  dsimp only
  split
  · exact hs
  split
  · exact hs
  split
  · split <;> exact hs
  split
  · exact hs
  split
  · split
    · exact hs.of_frame (State.sendAdp_only _ _ _ _ _ _ _ _ _ (State.bump_only _ _ s (.refl _ s) rfl) rfl)
    · exact hs
  · exact hf _ _ hs

theorem execAdpWrite_epochsBounded {hd : AdpHead} {items : List AdpItem} {cycle : Fin 256} {s t : State} (hs : s.EpochsBounded)
    (h : execAdpWrite hd items cycle s = .next t) : t.EpochsBounded := by
  unfold execAdpWrite at h
  split at h
  · rwa [← Host.Outcome.next.inj h]
  refine received_epochsBounded hs (fun y hy => State.adpMessage_epochsBounded hy (fun x z hz => ?_)) h
  have responds (len : Nat) (body : List Nat) : (z.respond hd x 0x11 len body).EpochsBounded :=
    hz.of_frame (State.respond_only _ _ _ _ _ z (.refl _ z) rfl)
  dsimp only
  split
  · exact responds _ _
  split
  · exact responds _ _
  split
  · refine ((responds _ _).each (fun i y hy => ?_)).of_frame (State.endThrough_only _ _ (.refl _ _) rfl)
    exact State.writeItem_epochsBounded hy
  · exact responds _ _

/-! #### Every command -/

/-- Every command keeps the bound: the ones that touch the epochs end them or release some, or commit under the bound. -/
theorem exec_epochsBounded {c : Instr} {s t : State} (hs : s.EpochsBounded) (h : exec c s = .next t) : t.EpochsBounded := by
  cases c
  case beatBoundary => exact guarded_epochsBounded hs (State.boundary_epochsBounded hs) h
  case epochRelease => exact execEpochRelease_epochsBounded hs h
  case commitDue => exact guarded_epochsBounded hs (State.tryCommit_epochsBounded hs) h
  case deferredCommitApplied => exact guarded_epochsBounded hs (State.tryCommit_epochsBounded hs) h
  case drainOverrun => exact guarded_epochsBounded hs (State.drainCheck_epochsBounded hs) h
  case sidebandLevelAccepted => exact execSidebandLevelAccepted_epochsBounded hs h
  case modrstN => exact execModrstN_epochsBounded hs h
  case feedLost => exact execFeedLost_epochsBounded hs h
  case gateFullyOn => exact execGateFullyOn_epochsBounded hs h
  case hardShortTrip => exact execHardShortTrip_epochsBounded hs h
  case gateOffAfterTrip => exact execGateOffAfterTrip_epochsBounded hs h
  case standbyRequest => exact execStandbyRequest_epochsBounded hs h
  case standbyWake => exact execStandbyWake_epochsBounded hs h
  case warmStartRequest => exact execWarmStartRequest_epochsBounded hs h
  case coldStartRequest => exact execColdStartRequest_epochsBounded hs h
  case watchdogExpiry => exact execWatchdogExpiry_epochsBounded hs h
  case configurationLoad => exact execConfigurationLoad_epochsBounded hs h
  case dataPathRelease => exact execDataPathRelease_epochsBounded hs h
  case warmStart => exact execWarmStart_epochsBounded hs h
  case mgmtSramError => exact execMgmtSramError_epochsBounded hs h
  case twinAlertPulsing => exact execTwinAlertPulsing_epochsBounded hs h
  case restartRequest => exact execRestartRequest_epochsBounded hs h
  case adpWrite => exact execAdpWrite_epochsBounded hs h
  case registerWrite => exact guarded_epochsBounded hs (State.registerWrite_epochsBounded hs) h
  all_goals exact exec_epochsBounded_of_untouched _ rfl hs h

theorem step_epochsBounded {s t : State} (hs : s.EpochsBounded) (h : step s = .next t) : t.EpochsBounded := by
  unfold step at h
  split at h
  · rwa [← Host.Outcome.next.inj h]
  · next c rest _ =>
    have popped : State.EpochsBounded { s with pending := rest } := hs
    exact exec_epochsBounded popped h

/-- Settles O56: every step keeps the bound, and the live epochs are the current one and those that the bound is about. -/
theorem epochBoundKept : Obligations.EpochBoundKept := by
  unfold Obligations.EpochBoundKept
  intro s t hs h
  have ht : t.EpochsBounded := step_epochsBounded hs h
  have hcurrent : t.ep.epoch ∈ t.liveEpochs := List.mem_cons_self
  have hsuperseded : ∀ e ∈ t.ep.superseded, e.count ∈ t.liveEpochs :=
    fun e he => List.mem_cons_of_mem _ (List.mem_map_of_mem he)
  have hlength : t.liveEpochs.length ≤ 3 := by
    simp only [State.liveEpochs, List.length_cons, List.length_map]
    exact Nat.succ_le_succ ht
  exact ⟨ht, hcurrent, hsuperseded, hlength⟩

end Sys2Proof.Machine

/-!
### What a command can do at all

A command leaves alone the parts that it does not touch, a write of a command entry goes through one gate, and the commands of
the service do nothing while the module is not running.
-/

namespace Sys2Proof.Machine

/-- A part that a command does not touch is the same after it. -/
theorem exec_same {c : Instr} {p : Part} {s t : State} (hp : (touches c).contains p = false) (h : exec c s = .next t) :
    p.same s t :=
  exec_onlyChanges h p (by simpa using hp)

/-- No command has the queue among its parts. -/
theorem touches_not_queue (c : Instr) : (touches c).contains .queue = false := by
  cases c <;> rfl

theorem exec_pending {c : Instr} {s t : State} (h : exec c s = .next t) : t.pending = s.pending :=
  exec_same (touches_not_queue c) h

theorem step_of_pending {c : Instr} {rest : List Instr} {s : State} (h : s.pending = c :: rest) :
    step s = exec c { s with pending := rest } := by
  rw [step, h]

/-- A step keeps what every command keeps, where the queue does not matter for it. -/
theorem step_keeps {P : State → Prop} (hpop : ∀ (s : State) (rest : List Instr), P s → P { s with pending := rest })
    (hexec : ∀ (c : Instr) (s t : State), P s → exec c s = .next t → P t) {s t : State} (hs : P s) (h : step s = .next t) : P t := by
  unfold step at h
  split at h
  · rwa [← Host.Outcome.next.inj h]
  · exact hexec _ _ _ (hpop _ _ hs) h

/-- Every write of a command entry waits at the same gate (R129, R130, R560, R600, R663). -/
theorem exec_of_commandEntry {c : Instr} (hc : commandEntry c = true) : ∃ f, ∀ s, exec c s = commandWrite f s := by
  cases c
  case shadowDiscard one => cases one; exacts [absurd hc Bool.false_ne_true, ⟨_, fun _ => rfl⟩]
  case attachRequest one => cases one; exacts [absurd hc Bool.false_ne_true, ⟨_, fun _ => rfl⟩]
  case detachRequest one => cases one; exacts [absurd hc Bool.false_ne_true, ⟨_, fun _ => rfl⟩]
  case serveAlone one => cases one; exacts [absurd hc Bool.false_ne_true, ⟨_, fun _ => rfl⟩]
  case bankRetire strike => cases strike; exacts [⟨_, fun _ => rfl⟩, absurd hc Bool.false_ne_true]
  case attachmentRetire strike => cases strike; exacts [⟨_, fun _ => rfl⟩, absurd hc Bool.false_ne_true]
  case clusterRetire context => cases context; exacts [⟨_, fun _ => rfl⟩, absurd hc Bool.false_ne_true]
  all_goals first | exact ⟨_, fun _ => rfl⟩ | exact absurd hc Bool.false_ne_true

theorem commandWrite_closed {s : State} (h : s.adpUp = false) (f : State → State) : commandWrite f s = .next s := by
  rw [commandWrite, h, guarded_false]

/-- Commands that can act while the module is not running: what the supervisor, the starts, Sprout, the management cores, the
collector and ADP do. -/
def actsOutOfService : Instr → Bool
  | .beatBoundary | .sidebandLevelAccepted .. | .twinAlertInAsserted _ | .modrstN .. | .refclkLoss | .sensorRead _
  | .throttleEvaluation | .feedPresent _ | .feedLost _ | .reverseCurrentOff _ | .fetConductsAgain _ | .busShutdown _ | .gateTurnOn
  | .gateFullyOn | .inrushTrip | .faultTimerStart | .faultTimerIdle | .overcurrentTrip | .hardShortTrip | .pgOutRise
  | .gateOffAfterTrip | .automaticRetry | .retryCountClear | .retainedStateCleared | .releasePatternAccepted
  | .wakeSourceSample _ | .wakeAlarm | .standbyWake _ | .warmStartRequest | .coldStartRequest | .watchdogExpiry | .coldStart ..
  | .bistDone .. | .calibrationDone _ | .firmwareLoad | .configurationLoad | .dataPathRelease _ | .warmStart .. | .readyTimeout
  | .retainedRecordWritten | .imageBlockWrite .. | .imageVerify _ | .coreCheckinTimeout _ | .taskSetMoveDone _ | .mgmtSramError _
  | .claim _ | .complete .. | .softRaise _ | .firmwareTick | .supervisorRead .. | .sproutCheckin | .sproutCheckinMissed
  | .stickyClear _ | .collectorScan | .hello .. | .chain .. | .finish .. | .close _ | .adpRead .. | .adpWrite .. | .adpCommit ..
  | .subscribe .. | .nop _ | .handshakeTimeout _ | .idleTimeout _ | .addressConflict _ | .segmentDown _ | .registerWrite ..
  | .segmentUp _ | .storeSaveDone _ | .shadowDiscard false | .attachRequest false | .detachRequest false | .serveAlone false => true
  | _ => false

theorem guarded_of_not {c : Bool} (h : c = false) (f : State → State) (s : State) : guarded c f s = .next s := by
  rw [h, guarded_false]

theorem checked_of_not {c : Bool} (w : Bool) (h : c = false) (f : State → State) (s : State) : checked w c f s = .next s := by
  rw [checked, h, Bool.and_false, guarded_false]

theorem State.submit_idle {v k : Nat} {words : List Nat} {s : State} (hr : s.running = false) : s.submit v k words = s :=
  if_pos (by simp [hr])

theorem garnetUp_of_not_running {s : State} (hr : s.running = false) : s.garnetUp = false := by
  rw [State.garnetUp, hr]; rfl

theorem serves_of_not_running {s : State} (hr : s.running = false) (r v : Nat) : s.serves r v = false := by
  rw [State.serves, hr]; rfl

theorem reachesHome_of_not_running {s : State} (hr : s.running = false) (r v : Nat) : s.reachesHome r v = false := by
  rw [State.reachesHome, hr]; rfl

theorem endpointUp_of_not_running {s : State} (hr : s.running = false) (e : Nat) : s.endpointUp e = false := by
  rw [State.endpointUp, hr]; rfl

theorem l0pOpen_of_not_running {s : State} (hr : s.running = false) (p : Nat) : s.l0pOpen p = false := by
  rw [State.l0pOpen, hr]; rfl

/-- A command of the service does nothing while the module is not running (log entries 3 and 28). -/
theorem exec_of_not_running {c : Instr} {s : State} (he : commandEntry c = false) (ha : actsOutOfService c = false)
    (hr : s.running = false) : exec c s = .next s := by
  cases c
  all_goals first
    | exact absurd ha.symm Bool.false_ne_true
    | exact absurd he.symm Bool.false_ne_true
    | dsimp only [exec]
  case beatFrame | mirrorAckRelease | attachRequestMessage | attachAccept | attachRefuse | syncDone | detachMessage | homeMoveMessage
      | recallRequest | restartRequest =>
    exact guarded_of_not (garnetUp_of_not_running hr) _ _
  case recordFrame => exact checked_of_not _ (garnetUp_of_not_running hr) _ _
  case restartRequestRepeat => exact guarded_of_not (by rw [garnetUp_of_not_running hr]; rfl) _ _
  case identifyMemoryDevice | getPartitionInfo | getEventRecords | clearEventRecords =>
    exact guarded_of_not (endpointUp_of_not_running hr _) _ _
  case rds | rdown | own | rdcur | evc | evd | wr | wbkeep =>
    exact congrArg Host.Outcome.next (if_neg (by simp [reachesHome_of_not_running hr]))
  case memspecrd | hitKeep | hitDrop | miss | biconflict =>
    exact guarded_of_not (by rw [serves_of_not_running hr]; rfl) _ _
  case l0pPartnerRequest => exact guarded_of_not (by rw [l0pOpen_of_not_running hr]; rfl) _ _
  case l0pEvaluation =>
    unfold execL0pEvaluation
    exact guarded_of_not (by rw [l0pOpen_of_not_running hr]; rfl) _ _
  case createCq | destroyCq | createQp | modifyQp | destroyQp | registerRegion | revokeRegion | setCounter | attach | detach =>
    exact congrArg _ (State.submit_idle hr)
  case shadowDiscard one | attachRequest one | detachRequest one | serveAlone one =>
    cases one
    · exact absurd ha.symm Bool.false_ne_true
    · exact absurd he.symm Bool.false_ne_true
  case bankRetire strike | attachmentRetire strike =>
    cases strike
    · exact absurd he.symm Bool.false_ne_true
    · dsimp only [execBankRetire, execAttachmentRetire]
      exact guarded_of_not hr _ _
  case clusterRetire context =>
    cases context
    · exact absurd he.symm Bool.false_ne_true
    · exact congrArg Host.Outcome.next (if_neg (by simp [hr]))
  case portLinkUp =>
    dsimp only [execPortLinkUp]
    split
    · exact guarded_of_not (by rw [hr]; rfl) _ _
    split
    all_goals exact guarded_of_not (by rw [hr]; rfl) _ _
  case trainingBlock | l1EntryInitiate | pciPmL1Request | pmeTurnOff | trackerTimeout | quarantineEnd | masterTimeout =>
    dsimp only [execTrainingBlock, execL1EntryInitiate, execPciPmL1Request, execPmeTurnOff, execTrackerTimeout,
      execQuarantineEnd, execMasterTimeout]
    split
    all_goals first | rfl | exact guarded_of_not (by rw [hr]; rfl) _ _
  case laneFailure | partnerL1Request | ideKeyRefresh | stallTermination | slotResetRelease | farTagAssigned |
    prefetchHoldExpiry | scrubStart | scrubDone | addCapacityResponse | poolPrefetchExpiry | retransmitTimeout |
    rnrWaitEnd | rateIncrease =>
    dsimp only [execLaneFailure, execPartnerL1Request, execIdeKeyRefresh, execStallTermination, execSlotResetRelease,
      execFarTagAssigned, execPrefetchHoldExpiry, execScrubStart, execScrubDone, execAddCapacityResponse,
      execPoolPrefetchExpiry, execRetransmitTimeout, execRnrWaitEnd, execRateIncrease]
    exact guarded_of_not (by rw [hr]; rfl) _ _
  all_goals first
    | exact guarded_of_not hr _ _
    | exact guarded_of_not (by rw [hr]; rfl) _ _
    | exact checked_of_not _ hr _ _
    | exact checked_of_not _ (by rw [hr]; rfl) _ _

/-- Every command has a next state: each meaning ends in the outcome of a guard. -/
theorem exec_total (c : Instr) (s : State) : ∃ t, exec c s = .next t := by
  cases c
  case shadowDiscard one | attachRequest one | detachRequest one | serveAlone one => cases one <;> exact ⟨_, rfl⟩
  case bankRetire x | attachmentRetire x | clusterRetire x => cases x <;> exact ⟨_, rfl⟩
  case trainingBlock | portLinkUp | l1EntryInitiate | pciPmL1Request | pmeTurnOff | trackerTimeout | quarantineEnd | masterTimeout
      | adpRead | adpWrite =>
    dsimp only [exec, execTrainingBlock, execPortLinkUp, execL1EntryInitiate, execPciPmL1Request, execPmeTurnOff, execTrackerTimeout,
      execQuarantineEnd, execMasterTimeout, execAdpRead, execAdpWrite]
    repeat' split
    all_goals exact ⟨_, rfl⟩
  all_goals exact ⟨_, rfl⟩

theorem checked_of_ill_formed {w : Bool} (h : w = false) (c : Bool) (f : State → State) (s : State) : checked w c f s = .next s := by
  rw [h, checked_false]

/-- A command whose data is out of the range of its format has not arrived (log entry 7). -/
theorem exec_of_ill_formed {c : Instr} {s : State} (h : operandsWf c = false) : exec c s = .next s := by
  cases c
  case adpRead => exact if_pos h
  case adpWrite => exact if_pos h
  all_goals first
    | exact absurd h.symm Bool.false_ne_true
    | (dsimp only [exec]; exact checked_of_ill_formed h _ _ _)

/-! ### What a step is -/

/-- Settles O51: the step takes the command at the front of the queue, if there is one, and no row of the table has bits. -/
theorem stepRunsTheFrontCommand : Obligations.StepRunsTheFrontCommand := by
  unfold Obligations.StepRunsTheFrontCommand
  refine ⟨fun c rest s => rfl, ?idle, fun s nbits w => ⟨rfl, rfl⟩⟩
  case idle =>
    intro s h
    rw [step, h]

/-- Settles O52: the frame of every command, and the front of the queue is taken without anything being added to it. -/
theorem everyCommandChangesOnlyItsParts : Obligations.EveryCommandChangesOnlyItsParts := by
  unfold Obligations.EveryCommandChangesOnlyItsParts
  refine ⟨fun c s t => exec_onlyChanges, ?queue⟩
  case queue =>
    intro c d rest s t hp h
    rw [step_of_pending hp] at h
    have ht : t.pending = d :: rest := exec_pending h
    exact ⟨ht, step_of_pending ht⟩

/-- Settles O53: every meaning ends in a next state, and a guard turns ill-formed data away. -/
theorem everyCommandHasANextState : Obligations.EveryCommandHasANextState :=
  ⟨exec_total, fun _ _ => exec_of_ill_formed⟩

/-- Settles O54: every command entry is written through the gate of commandWrite. -/
theorem commandEntriesWaitForService : Obligations.CommandEntriesWaitForService := by
  unfold Obligations.CommandEntriesWaitForService
  intro c s hc
  obtain ⟨f, hf⟩ := exec_of_commandEntry hc
  rw [hf s]
  exact ⟨fun hup hopen => commandWrite_busy hup hopen f, fun hup => commandWrite_closed hup f⟩

end Sys2Proof.Machine

/-!
### The power states fit together

Only a few operations change safe state or the supervisor's state, gate and cool-down: the entry to safe state (with the gate
on), a start (with the gate on), the end of a trip (with the gate off), a ramp and the release of the data path.
-/

namespace Sys2Proof.Machine

/-- Two states agree in all that PowerLegal speaks of. -/
def SamePower (s t : State) : Prop :=
  t.col.safe = s.col.safe ∧ t.sup.state = s.sup.state ∧ t.sup.gate = s.sup.gate ∧ t.sup.coolDown = s.sup.coolDown

namespace SamePower

theorem refl (s : State) : SamePower s s := ⟨rfl, rfl, rfl, rfl⟩

theorem trans {s t u : State} (h : SamePower s t) (k : SamePower t u) : SamePower s u := by
  obtain ⟨h1, h2, h3, h4⟩ := h
  obtain ⟨k1, k2, k3, k4⟩ := k
  exact ⟨k1.trans h1, k2.trans h2, k3.trans h3, k4.trans h4⟩

theorem of_sup {s t : State} (hsafe : t.col.safe = s.col.safe) (hsup : t.sup = s.sup) : SamePower s t :=
  ⟨hsafe, by rw [hsup], by rw [hsup], by rw [hsup]⟩

theorem of_frame {s t : State} (F : OnlyChanges (but [.sup, .safeState]) s t) : SamePower s t :=
  of_sup (F .safeState (by decide)).1 (F .sup (by decide))

theorem each {α : Type} {l : List α} {f : α → State → State} {s : State} (hf : ∀ x z, SamePower z (f x z)) :
    SamePower s (s.each l f) :=
  each_inv SamePower refl (fun _ _ _ => trans) (fun x _ z => hf x z)

end SamePower

namespace State.PowerLegal

theorem of_same {s t : State} (hs : s.PowerLegal) (h : SamePower s t) : t.PowerLegal := by
  obtain ⟨h1, h2, h3, h4⟩ := h
  simpa only [State.PowerLegal, State.dieOn, h1, h2, h3, h4] using hs

theorem of_frame {s t : State} (hs : s.PowerLegal) (F : OnlyChanges (but [.sup, .safeState]) s t) : t.PowerLegal :=
  hs.of_same (.of_frame F)

theorem gate_of_dieOn {s : State} (hs : s.PowerLegal) (h : s.dieOn = true) : s.sup.gate = .on :=
  hs.2.1 (.inl h)

theorem gate_of_running {s : State} (hs : s.PowerLegal) (h : s.running = true) : s.sup.gate = .on :=
  hs.gate_of_dieOn (dieOn_of_running h)

theorem gate_of_standby {s : State} (hs : s.PowerLegal) (h : s.sup.state = .standby) : s.sup.gate = .on :=
  hs.2.1 (.inr h)

theorem coolDown_of_gate {s : State} (hs : s.PowerLegal) (h : s.sup.gate ≠ .off) : s.sup.coolDown = false := by
  by_contra hc
  exact h (hs.2.2 (by simpa using hc))

theorem dieOn_of_safe {s : State} (hs : s.PowerLegal) (h : s.col.safe = true) : s.dieOn = true := by
  simp only [State.dieOn, hs.1.1 h]

theorem not_safe_of_gate {s : State} (hs : s.PowerLegal) (h : s.sup.gate ≠ .on) : s.col.safe = false := by
  by_contra hc
  exact h (hs.gate_of_dieOn (hs.dieOn_of_safe (by simpa using hc)))

/-- A module outside safe state, with the gate fully on and no cool-down. -/
theorem of_on {s : State} (hsafe : s.col.safe = false) (hstate : s.sup.state ≠ .safe) (hgate : s.sup.gate = .on)
    (hcool : s.sup.coolDown = false) : s.PowerLegal := by
  refine ⟨by simp [hsafe, hstate], fun _ => hgate, by simp [hcool]⟩

/-- A module without power on its die. -/
theorem of_dieOff {s : State} (hsafe : s.col.safe = false) (hdie : s.dieOn = false) (hstate : s.sup.state ≠ .standby)
    (hcool : s.sup.coolDown = true → s.sup.gate = .off) : s.PowerLegal := by
  refine ⟨⟨by simp [hsafe], fun h => ?_⟩, ?_, hcool⟩
  · simp [State.dieOn, h] at hdie
  · simp [hdie, hstate]

theorem ifDo {c : Bool} {f : State → State} {s : State} (hs : s.PowerLegal) (hf : c = true → (f s).PowerLegal) :
    (s.ifDo c f).PowerLegal := by
  cases c
  · exact hs
  · exact hf rfl

end State.PowerLegal

theorem guarded_powerLegal {c : Bool} {f : State → State} {s t : State} (hs : s.PowerLegal)
    (hf : c = true → (f s).PowerLegal) (h : guarded c f s = .next t) : t.PowerLegal := by
  rw [guarded_next h]
  split
  · exact hf ‹_›
  · exact hs

theorem guarded_samePower {c : Bool} {f : State → State} {s t : State} (hf : SamePower s (f s))
    (h : guarded c f s = .next t) : SamePower s t := by
  rw [guarded_next h]
  split
  · exact hf
  · exact .refl s

theorem commandWrite_samePower {f : State → State} {s t : State} (hf : SamePower s (f s))
    (h : commandWrite f s = .next t) : SamePower s t := by
  refine guarded_samePower ?_ h
  split
  · exact hf
  · exact ⟨rfl, rfl, rfl, rfl⟩

theorem commandWrite_powerLegal {f : State → State} {s t : State} (hs : s.PowerLegal)
    (hf : s.running = true → (f s).PowerLegal) (h : commandWrite f s = .next t) : t.PowerLegal := by
  refine guarded_powerLegal hs (fun _ => ?_) h
  split
  · exact hf (running_of_adpOpen ‹_›)
  · exact hs

theorem exec_powerLegal_of_untouched (c : Instr) (hsup : (touches c).contains .sup = false)
    (hsafe : (touches c).contains .safeState = false) {s t : State} (hs : s.PowerLegal) (h : exec c s = .next t) :
    t.PowerLegal :=
  hs.of_same (.of_sup (exec_same hsafe h).1 (exec_same hsup h))

/-! #### Entries to safe state, starts, and the loss of power -/

theorem State.enterSafe_powerLegal {s : State} (cause src : Nat) (hs : s.PowerLegal) (hgate : s.sup.gate = .on) :
    (s.enterSafe cause src).PowerLegal := by
  obtain ⟨hsup, hsafe⟩ := enterSafe_sup cause src s
  by_cases h : s.col.safe = true
  · rw [if_pos h] at hsup
    exact hs.of_same (.of_sup (hsafe.trans h.symm) hsup)
  · rw [if_neg h] at hsup
    refine ⟨by simp [hsafe, hsup], fun _ => by rw [hsup]; exact hgate, fun hc => ?_⟩
    rw [hsup] at hc ⊢
    exact hs.2.2 hc

theorem State.supervisorSafe_powerLegal {s : State} (hs : s.PowerLegal) : s.supervisorSafe.PowerLegal := by
  refine hs.ifDo (fun h => s.enterSafe_powerLegal 3 0 hs (hs.2.1 ?_))
  simpa using h

theorem State.coldStart_powerLegal {s : State} (cause : Nat) (hgate : s.sup.gate = .on) (hcool : s.sup.coolDown = false) :
    (s.coldStart cause).PowerLegal := by
  unfold State.coldStart
  extract_lets r
  obtain ⟨c, h, hc⟩ := takeRecord_eq s.col _
  rw [h]
  exact .of_on hc nofun hgate hcool

theorem State.warmStart_powerLegal {s : State} (cause : Nat) (hgate : s.sup.gate = .on) (hcool : s.sup.coolDown = false) :
    (s.warmStart cause).PowerLegal := by
  unfold State.warmStart
  extract_lets r
  obtain ⟨c, h, hc⟩ := takeRecord_eq s.col _
  rw [h]
  exact .of_on hc nofun hgate hcool

/-- A warm start of a module whose die has power, or which is in standby. -/
theorem State.PowerLegal.warmStart {s : State} (hs : s.PowerLegal) (cause : Nat) (hgate : s.sup.gate = .on) :
    (s.warmStart cause).PowerLegal :=
  State.warmStart_powerLegal cause hgate (hs.coolDown_of_gate (by simp [hgate]))

theorem State.PowerLegal.coldStart {s : State} (hs : s.PowerLegal) (cause : Nat) (hgate : s.sup.gate = .on) :
    (s.coldStart cause).PowerLegal :=
  State.coldStart_powerLegal cause hgate (hs.coolDown_of_gate (by simp [hgate]))

theorem State.tripEnd_powerLegal (s : State) : s.tripEnd.PowerLegal := by
  have hstate : s.tripEnd.sup.state = if s.sup.latched then .latchedOff else if s.sup.tripped then .coolDown else .shutdown := rfl
  refine .of_dieOff rfl ?_ ?_ (fun _ => rfl)
  · unfold State.dieOn
    rw [hstate]
    cases s.sup.latched <;> cases s.sup.tripped <;> rfl
  · rw [hstate]
    cases s.sup.latched <;> cases s.sup.tripped <;> decide

theorem State.trip_powerLegal {s : State} (cause src : Nat) (hs : s.PowerLegal) : (s.trip cause src).PowerLegal := by
  unfold State.trip
  extract_lets latch s1 s2
  refine State.supervisorSafe_powerLegal (hs.of_same ?_)
  have h1 : SamePower s s1 := ⟨rfl, rfl, rfl, rfl⟩
  unfold s2
  split
  · exact h1.trans ⟨rfl, rfl, rfl, rfl⟩
  · exact h1

theorem State.ramp_powerLegal {s : State} (hsafe : s.col.safe = false) (hcool : s.sup.coolDown = false) : s.ramp.PowerLegal :=
  .of_dieOff hsafe rfl nofun (fun h => absurd h (by simp [State.ramp, State.setSup, hcool]))

theorem State.watchdogExpire_powerLegal {s : State} (hs : s.PowerLegal) (hdie : s.dieOn = true) :
    s.watchdogExpire.PowerLegal := by
  have hgate := hs.gate_of_dieOn hdie
  unfold State.watchdogExpire
  extract_lets first s1 s2 s3
  have h2 : s2.PowerLegal := State.warmStart_powerLegal 4 hgate (hs.coolDown_of_gate (by simp [hgate]))
  have h3 : s3.PowerLegal := by
    unfold s3
    split
    · exact h2.of_same (.refl s2)
    · exact h2
  split
  · exact h3.of_frame (State.raise_only _ _ (State.raise_only _ _ (.refl _ s3) rfl) rfl)
  · exact h3.of_frame (State.raise_only _ _ (.refl _ s3) rfl)

/-! #### The supervisor's own commands -/

theorem State.setFeed_samePower (k : Nat) (f : Feed → Feed) (s : State) : SamePower s (s.setFeed k f) := by
  unfold State.setFeed
  split <;> exact ⟨rfl, rfl, rfl, rfl⟩

theorem execFeedPresent_samePower {k : Fin 2} {s t : State} (h : execFeedPresent k s = .next t) : SamePower s t := by
  refine guarded_samePower ?_ h
  extract_lets u s1
  have h1 : SamePower s s1 := by
    unfold s1
    split
    · exact ⟨rfl, rfl, rfl, rfl⟩
    · exact .refl s
  exact (h1.trans (State.setFeed_samePower _ _ s1)).trans ⟨rfl, rfl, rfl, rfl⟩

theorem execFeedLost_powerLegal {k : Fin 2} {s t : State} (hs : s.PowerLegal) (h : execFeedLost k s = .next t) :
    t.PowerLegal := by
  refine guarded_powerLegal hs (fun _ => ?_) h
  extract_lets s1 s2
  have h1 : s1.PowerLegal := (hs.of_same (State.setFeed_samePower _ _ s)).of_frame (State.raise_only _ _ (.refl _ _) rfl)
  split
  · exact h1
  split
  · exact h1.of_same ⟨rfl, rfl, rfl, rfl⟩
  · exact State.tripEnd_powerLegal _

theorem execBusShutdown_powerLegal {overVolt : Bool} {s t : State} (hs : s.PowerLegal) (h : execBusShutdown overVolt s = .next t) :
    t.PowerLegal := by
  refine guarded_powerLegal hs (fun _ => ?_) h
  refine State.supervisorSafe_powerLegal ?_
  by_cases hu : s.sup.state = .unpowered
  · have hd : s.dieOn = false := by simp [State.dieOn, hu]
    have hsafe : s.col.safe = false := by
      by_contra hc
      simp [hs.1.1 (by simpa using hc)] at hu
    refine .of_dieOff hsafe ?_ ?_ hs.2.2
    · simp [State.dieOn, State.setSup, Supervisor.record, hu]
    · simp [State.setSup, Supervisor.record, hu]
  · exact hs.of_same ⟨rfl, if_neg hu, rfl, rfl⟩

theorem execGateTurnOn_powerLegal {s t : State} (hs : s.PowerLegal) (h : execGateTurnOn s = .next t) : t.PowerLegal := by
  refine guarded_powerLegal hs (fun hg => ?_) h
  obtain ⟨hoff, -⟩ : s.sup.gate = .off ∧ s.sup.fed = true := by simpa using hg
  dsimp only
  split
  · exact hs.of_same ⟨rfl, rfl, rfl, rfl⟩
  · next hbar =>
    have hcool : s.sup.coolDown = false := by simp only [Bool.or_eq_true, not_or] at hbar; simpa using hbar.2
    exact State.ramp_powerLegal (hs.not_safe_of_gate (by simp [hoff])) hcool

theorem execGateFullyOn_powerLegal {s t : State} (hs : s.PowerLegal) (h : execGateFullyOn s = .next t) : t.PowerLegal := by
  refine guarded_powerLegal hs (fun hg => ?_) h
  obtain ⟨hramp, -⟩ : s.sup.gate = .ramping ∧ s.sup.gateOffOwed = false := by simpa using hg
  exact State.coldStart_powerLegal 0 rfl (hs.coolDown_of_gate (by simp [hramp]))

theorem execAutomaticRetry_powerLegal {s t : State} (hs : s.PowerLegal) (h : execAutomaticRetry s = .next t) :
    t.PowerLegal := by
  refine guarded_powerLegal hs (fun hcool => ?_) h
  have hgate := hs.2.2 hcool
  have hsafe := hs.not_safe_of_gate (by simp [hgate])
  dsimp only
  split
  · exact State.ramp_powerLegal hsafe rfl
  · exact ⟨hs.1, hs.2.1, nofun⟩

theorem execRetainedStateCleared_powerLegal {s t : State} (hs : s.PowerLegal) (h : execRetainedStateCleared s = .next t) :
    t.PowerLegal := by
  refine guarded_powerLegal hs (fun hg => ?_) h
  obtain ⟨-, hoff⟩ : _ ∧ s.sup.gate = .off := by simpa using hg
  exact .of_dieOff (hs.not_safe_of_gate (by simp [hoff])) rfl nofun nofun

theorem execReleasePatternAccepted_powerLegal {s t : State} (hs : s.PowerLegal) (h : execReleasePatternAccepted s = .next t) :
    t.PowerLegal := by
  refine guarded_powerLegal hs (fun hg => ?_) h
  obtain ⟨⟨-, hoff⟩, -⟩ : (_ ∧ s.sup.gate = .off) ∧ _ := by simpa using hg
  have hsafe := hs.not_safe_of_gate (by simp [hoff])
  dsimp only
  split
  · exact State.ramp_powerLegal hsafe rfl
  · exact .of_dieOff hsafe rfl nofun nofun

theorem execStandbyRequest_powerLegal {s t : State} (hs : s.PowerLegal) (h : execStandbyRequest s = .next t) :
    t.PowerLegal := by
  refine commandWrite_powerLegal hs (fun hr => ?_) h
  have hgate := hs.gate_of_running hr
  dsimp only
  split
  · exact hs
  · exact .of_on rfl nofun hgate (hs.coolDown_of_gate (by simp [hgate]))

theorem execTwinRelease_samePower {s t : State} (h : execTwinRelease s = .next t) : SamePower s t := by
  refine commandWrite_samePower ?_ h
  split <;> exact ⟨rfl, rfl, rfl, rfl⟩

theorem execLatchRecordClear_samePower {s t : State} (h : execLatchRecordClear s = .next t) : SamePower s t :=
  commandWrite_samePower ⟨rfl, rfl, rfl, rfl⟩ h

theorem execSupervisorRead_samePower {ok : Bool} {aMv bMv ma mw : BitVec 32} {s t : State}
    (h : execSupervisorRead ok aMv bMv ma mw s = .next t) : SamePower s t := by
  refine guarded_samePower ?_ h
  dsimp only
  split
  · exact ⟨rfl, rfl, rfl, rfl⟩
  split
  · exact .of_frame (State.raise_only 380 _ (State.sprout_update (.refl _ s) rfl) rfl)
  · exact ⟨rfl, rfl, rfl, rfl⟩

/-! #### The switch counts the traffic of its units in the supervisor -/

theorem execFrameStart_samePower {path : FramePath} {s t : State} (h : execFrameStart path s = .next t) : SamePower s t := by
  refine guarded_samePower ?_ h
  exact ⟨rfl, rfl, rfl, rfl⟩

theorem State.frameLeaves_samePower (f : Frame) (s : State) : SamePower s (s.frameLeaves f) := by
  unfold State.frameLeaves
  extract_lets u core s1 s2 s3 s4
  have h1 : SamePower s s1 := ⟨rfl, rfl, rfl, rfl⟩
  refine h1.trans (.of_frame ?_)
  have h2 : OnlyChanges (but [.sup, .safeState]) s1 s2 := by
    unfold s2
    split
    · exact State.stampBucket_only _ _ s1 (.refl _ s1) rfl
    · exact .refl _ s1
  have h3 : OnlyChanges (but [.sup, .safeState]) s1 s3 := by
    unfold s3
    split
    · exact h2
    split
    · exact State.toFunction_only f s2 h2 rfl
    · exact State.emit_only _ s2 h2 rfl
  have h4 : OnlyChanges (but [.sup, .safeState]) s1 s4 := by
    unfold s4
    split
    · exact h3
    · exact State.setPort_only _ _ s3 h3 rfl
  exact State.dropFrame_only _ s4 h4 rfl

theorem State.moveCell_samePower (c : Cand) (s : State) : SamePower s (s.moveCell c) := by
  unfold State.moveCell
  split
  · exact .refl s
  · next f _ =>
    extract_lets s1 bytes s2 s3
    have h1 : OnlyChanges (but [.sup, .safeState]) s s1 := by
      unfold s1
      split
      · exact State.grantHead_only _ _ s (.refl _ s) rfl
      · exact .refl _ s
    have h2 : OnlyChanges (but [.sup, .safeState]) s s2 := by
      unfold s2
      split
      · exact State.setPort_only _ _ s1 h1 rfl
      · exact h1
    have h3 : SamePower s s3 := .of_frame (State.setFrame_only _ _ _ (State.cellWords_only _ s2 h2 rfl) rfl)
    split
    · split
      · exact h3.trans (State.frameLeaves_samePower _ s3)
      · exact h3
    · exact h3

theorem execCellTimeMatch_samePower {i : Fin 128} {formed : List Nat} {ecc : CellErrors} {s t : State}
    (h : execCellTimeMatch i formed ecc s = .next t) : SamePower s t := by
  refine guarded_samePower ?_ h
  extract_lets s0 s0' s1 s2 s3 m s4
  have h0 : OnlyChanges (but [.sup, .safeState]) s s0' :=
    State.each_only _ _ _ (State.each_only _ _ _ (State.drainStaging_only _ s (.refl _ s) rfl)
      (fun _ z hz => State.formCell_only _ z hz rfl)) (fun _ z hz => State.stallStep_only _ _ z hz rfl)
  have h1 : OnlyChanges (but [.sup, .safeState]) s s1 :=
    State.each_only _ _ _ h0 (fun _ z hz => State.stallCheck_only _ _ (State.onoffEval_only _ z hz rfl) rfl)
  have h2 : OnlyChanges (but [.sup, .safeState]) s s2 :=
    State.each_only _ _ _ h1 (fun _ z hz => State.eccCorrected_only _ z hz rfl)
  have h3 : OnlyChanges (but [.sup, .safeState]) s s3 :=
    State.each_only _ _ _ h2 (fun _ z hz => State.retireBank_only _ _ (State.struck_only _ _ z hz rfl) rfl)
  have h4 : SamePower s3 s4 := by
    unfold s4
    split
    · refine .trans (.each (fun c z => ?_)) (.each State.moveCell_samePower)
      exact .trans (.of_frame (State.advance_only _ z (.refl _ z) rfl)) (State.moveCell_samePower c _)
    · exact .refl s3
  have h5 : OnlyChanges (but [.sup, .safeState]) s4 _ :=
    State.each_only s4.trunksUp (State.owedReplay (128 * s.ep.beat + i.val)) s4 (.refl _ s4)
      (fun _ z hz => State.owedReplay_only _ _ z hz rfl)
  exact ((SamePower.of_frame h3).trans h4).trans (.of_frame h5)

/-! #### Writes of the dictionary, and messages -/

/-- The commands that a write of a command entry performs, but for those of eye scans and of the power enable of a slot. -/
def dictCommand : Instr → Bool
  | .stickyClear _ | .warmStartRequest | .coldStartRequest | .imageBlockWrite _ _ | .imageVerify _ => true
  | c => commandEntry c

/-- What a write of a command entry can be: one of the commands of the dictionary, the start of an eye scan with a free full
scale, the power enable of a slot, or the answer that there is no such entry. -/
theorem State.commandItem_elim {P : Res → Prop} {s : State} (i j v : Nat) (cycle : Fin 256)
    (hexec : ∀ c, dictCommand c = true → P (exec c s))
    (hscan : ∀ k scale, P (exec (.scanStart k scale) (s.fresh 8).2))
    (hpwren : ∀ p, P (commandWrite (State.writePwren p v) s))
    (hnone : P (.next (s.answer 3))) : P (s.commandItem i j v cycle) := by
  unfold State.commandItem
  split
  · split
    · exact hexec (.stickyClear _) rfl
    · exact hexec (.force _) rfl
  split
  · exact hexec (.containRelease _) rfl
  split
  · split
    · exact hexec (.portRelease _ _) rfl
    · exact hpwren _
  split
  · exact hexec (.laneExclude _ _) rfl
  split
  · split
    · exact hscan _ _
    · exact hexec (.scanAbort _) rfl
  split
  · exact hexec (.commitRequest _ _) rfl
  · exact hexec (.shadowDiscard true) rfl
  · exact hexec .latchRecordClear rfl
  · exact hexec .twinRelease rfl
  · exact hexec .standbyRequest rfl
  · split
    · exact hexec .warmStartRequest rfl
    · exact hexec .coldStartRequest rfl
  · exact hexec (.imageBlockWrite _ _) rfl
  · exact hexec (.imageVerify _) rfl
  · exact hexec .storeRequest rfl
  · exact hexec (.groupPerst _) rfl
  · exact hexec (.bankRetire _ none) rfl
  · exact hexec (.attachmentRetire _ none) rfl
  · exact hexec (.releaseExtent _) rfl
  · exact hexec (.rescrubExtent _) rfl
  · exact hexec (.ledgerBankRetire _) rfl
  · exact hexec (.clusterRetire _ none) rfl
  · split
    · exact hexec (.instanceResetDrain _) rfl
    · exact hexec (.instanceResetSquash _) rfl
  · exact hexec (.coreRetire _) rfl
  · exact hexec .collectorInject rfl
  · exact hexec .clearAll rfl
  · exact hexec (.attachRequest true) rfl
  · exact hexec (.detachRequest true) rfl
  · exact hexec (.serveAlone true) rfl
  · exact hexec (.homeMove _) rfl
  · exact hexec (.laneExclude _ _) rfl
  · exact hnone

/-- Of the commands of the dictionary only a request for a start or for standby touches safe state. -/
theorem dictCommand_safeState {c : Instr} (hc : dictCommand c = true) (h1 : c ≠ .warmStartRequest) (h2 : c ≠ .coldStartRequest)
    (h3 : c ≠ .standbyRequest) : (touches c).contains .safeState = false := by
  cases c
  case warmStartRequest => exact absurd rfl h1
  case coldStartRequest => exact absurd rfl h2
  case standbyRequest => exact absurd rfl h3
  all_goals first | rfl | exact absurd hc Bool.false_ne_true

/-- A message of a session is discarded or answered at once, or it is acted on in a state where its session has accepted it. -/
theorem State.adpMessage_elim {P : State → Prop} {hd : AdpHead} {f : Session → State → State} {s : State}
    (hframe : ∀ t, OnlyChanges [.groups, .lanes, .ports, .scans, .funcs, .vectors, .instances, .sources, .mirror, .sessions, .views,
      .outputs] s t → P t)
    (hf : ∀ x z, OnlyChanges [.sessions] s z → P (f x z)) : P (s.adpMessage hd f) := by
  unfold State.adpMessage
  dsimp only
  split
  · exact hframe _ (.refl _ s)
  split
  · exact hframe _ (.refl _ s)
  split
  · split
    · exact hframe _ (State.endSession_only _ _ (State.raise_only _ _ (State.bump_only _ _ s (.refl _ s) rfl) rfl) rfl)
    · exact hframe _ (State.setSession_only _ _ _ (State.raise_only _ _ (State.bump_only _ _ s (.refl _ s) rfl) rfl) rfl)
  split
  · exact hframe _ (State.endSession_only _ s (.refl _ s) rfl)
  split
  · split
    · exact hframe _ (State.sendAdp_only _ _ _ _ _ _ _ _ _ (State.bump_only _ _ s (.refl _ s) rfl) rfl)
    · exact hframe _ (State.bump_only _ _ s (.refl _ s) rfl)
  · exact hf _ _ (State.setSession_only _ _ s (.refl _ s) rfl)

/-- A message that arrives on a path either does nothing, since ADP is not answered there, or is acted on. -/
theorem received_elim {P : State → Prop} {p : AdpPath} {f : State → State} {s t : State} (hs : P s)
    (hf : s.adpUp = true → s.pathOpen p = true → P (f (s.arrived p))) (h : received p f s = .next t) : P t := by
  rw [guarded_next h]
  split
  · next hg =>
    rw [Bool.and_eq_true] at hg
    exact hf hg.1 hg.2
  · exact hs

/-! #### Commands that may end in safe state or in a start -/

theorem State.coreFail_powerLegal {s : State} (k : Nat) (hs : s.PowerLegal) (hdie : s.dieOn = true) :
    (s.coreFail k).PowerLegal := by
  unfold State.coreFail
  have hmark : (s.markCore k).PowerLegal := hs.of_same (.refl s)
  split
  · exact State.enterSafe_powerLegal _ _ hmark (hs.gate_of_dieOn hdie)
  · exact hmark

theorem State.parityCheck_powerLegal {s : State} (hs : s.PowerLegal) (hdie : s.dieOn = true) : s.parityCheck.PowerLegal := by
  unfold State.parityCheck
  split
  · exact State.enterSafe_powerLegal _ _ hs (hs.gate_of_dieOn hdie)
  · exact hs

theorem State.collect_powerLegal {s : State} (hs : s.PowerLegal) (hdie : s.dieOn = true) : s.collect.PowerLegal := by
  unfold State.collect
  extract_lets fired col s1 codes
  have h1 : s1.PowerLegal := hs.of_same ⟨rfl, rfl, rfl, rfl⟩
  split
  · exact h1
  split
  · exact State.enterSafe_powerLegal _ _ h1 (hs.gate_of_dieOn hdie)
  · exact h1.of_frame (State.each_only _ _ _ (.refl _ s1) (fun _ z hz => State.react_only _ _ z hz rfl))

theorem State.bistSafe_powerLegal {s : State} (hs : s.PowerLegal) (hdie : s.dieOn = true) : s.bistSafe.PowerLegal := by
  have h := State.enterSafe_powerLegal 3 0xFFFF hs (hs.gate_of_dieOn hdie)
  exact h.of_same ⟨rfl, rfl, rfl, rfl⟩

theorem dieOn_of_inPhase {s : State} {p : StartPhase} (h : s.inPhase p = true) : s.dieOn = true := by
  simp only [State.inPhase, Bool.and_eq_true] at h
  exact h.1.1

theorem not_safe_of_inPhase {s : State} {p : StartPhase} (h : s.inPhase p = true) : s.col.safe = false := by
  simp only [State.inPhase, Bool.and_eq_true, Bool.not_eq_true'] at h
  exact h.1.2

theorem dieOn_of_adpUp {s : State} (h : s.adpUp = true) : s.dieOn = true := by
  simp only [State.adpUp, Bool.and_eq_true] at h
  exact h.1.1.1

/-- The die keeps its power where the supervisor keeps its state. -/
theorem SamePower.dieOn {s t : State} (h : SamePower s t) : t.dieOn = s.dieOn := by
  simp only [State.dieOn, h.2.1]

theorem execBistDone_powerLegal {attachments : List (Fin 40)} {banks : List (Fin 64)} {ledger : List (Fin 16)}
    {clusters : List (Fin 8)} {cores : List (Fin 4)} {other : Bool} {s t : State} (hs : s.PowerLegal)
    (h : execBistDone attachments banks ledger clusters cores other s = .next t) : t.PowerLegal := by
  refine guarded_powerLegal hs (fun hp => ?_) h
  extract_lets core home beryl irq s0 units s1 irq' s2
  have h0 : SamePower s s0 := by
    unfold s0
    split <;> exact ⟨rfl, rfl, rfl, rfl⟩
  have h1 : SamePower s s1 := h0.trans (.each (fun u z => .of_frame (State.bistRetire_only u z (.refl _ z) rfl)))
  have h2 : SamePower s s2 := h1.trans ⟨rfl, rfl, rfl, rfl⟩
  have hs2 := hs.of_same h2
  have hdie : s2.dieOn = true := h2.dieOn.trans (dieOn_of_inPhase hp)
  split
  · exact State.bistSafe_powerLegal hs2 hdie
  split
  · exact State.enterSafe_powerLegal _ _ hs2 (hs2.gate_of_dieOn hdie)
  · exact hs2.of_frame (State.setStart_only _ _ (State.setStartUnit_only _ s2 (.refl _ s2) rfl) rfl)

theorem execColdStart_samePower {slotId : BitVec 4} {capOk refValid : Bool} {s t : State}
    (h : execColdStart slotId capOk refValid s = .next t) : SamePower s t := by
  refine guarded_samePower ?_ h
  extract_lets s1 board sup start s2
  have h1 : SamePower s s1 := .each (fun _ _ => .each (fun _ z => .of_frame (State.raise_only _ z (.refl _ z) rfl)))
  have h2 : SamePower s s2 := h1.trans ⟨rfl, rfl, rfl, rfl⟩
  split
  · exact h2
  · exact h2.trans (.of_frame (State.raise_only 119 s2 (.refl _ s2) rfl))

theorem execDataPathRelease_powerLegal {ms : BitVec 32} {s t : State} (hs : s.PowerLegal)
    (h : execDataPathRelease ms s = .next t) : t.PowerLegal := by
  refine guarded_powerLegal hs (fun hp => ?_) h
  extract_lets ep sup start s1 s2 s3 s4
  have hgate : s.sup.gate = .on := hs.gate_of_dieOn (dieOn_of_inPhase hp)
  have hsafe : s.col.safe = false := not_safe_of_inPhase hp
  have h1 : s1.PowerLegal := .of_on hsafe nofun hgate (hs.coolDown_of_gate (by simp [hgate]))
  have h2 : OnlyChanges (but [.sup, .safeState]) s1 s2 := State.setStart_only _ s1 (.refl _ s1) rfl
  have h3 : OnlyChanges (but [.sup, .safeState]) s1 s3 := by
    unfold s3
    split
    · exact State.setPair_only _ s2 h2 rfl
    · exact h2
  have h4 : OnlyChanges (but [.sup, .safeState]) s1 s4 :=
    State.each_only _ _ _ h3 (fun n z hz => State.setGroup_only n _ z hz rfl)
  exact h1.of_frame (State.each_only _ _ _ (State.commitBind_only _ s4 h4 rfl) (fun p z hz => State.startPort_only p z hz rfl))

theorem execModrstN_powerLegal {edge : ModrstEdge} {taken : Bool} {s t : State} (hs : s.PowerLegal)
    (h : execModrstN edge taken s = .next t) : t.PowerLegal := by
  refine guarded_powerLegal hs (fun _ => ?_) h
  dsimp only
  split
  · next hpulse =>
    simp only [Bool.and_eq_true, decide_eq_true_eq] at hpulse
    have hgate : s.sup.gate = .on := hpulse.1.2
    exact State.coldStart_powerLegal 1 hgate (hs.coolDown_of_gate (by simp [hgate]))
  · exact hs.of_same ⟨rfl, rfl, rfl, rfl⟩

theorem execStandbyWake_powerLegal {frame : Fin 3} {s t : State} (hs : s.PowerLegal)
    (h : execStandbyWake frame s = .next t) : t.PowerLegal := by
  refine guarded_powerLegal hs (fun hg => ?_) h
  simp only [Bool.and_eq_true, decide_eq_true_eq] at hg
  have hgate := hs.gate_of_standby hg.1
  exact State.warmStart_powerLegal 6 hgate (hs.coolDown_of_gate (by simp [hgate]))

theorem execWarmStartRequest_powerLegal {s t : State} (hs : s.PowerLegal) (h : execWarmStartRequest s = .next t) :
    t.PowerLegal := by
  refine guarded_powerLegal hs (fun hup => ?_) h
  have hgate := hs.gate_of_dieOn (dieOn_of_adpUp hup)
  have hcool := hs.coolDown_of_gate (by simp [hgate])
  dsimp only
  split
  · exact hs.of_same ⟨rfl, rfl, rfl, rfl⟩
  · refine .of_same (State.warmStart_powerLegal 3 ?_ ?_) ⟨rfl, rfl, rfl, rfl⟩
    · split <;> exact hgate
    · split <;> exact hcool

theorem execColdStartRequest_powerLegal {s t : State} (hs : s.PowerLegal) (h : execColdStartRequest s = .next t) :
    t.PowerLegal := by
  refine guarded_powerLegal hs (fun hup => ?_) h
  have hgate := hs.gate_of_dieOn (dieOn_of_adpUp hup)
  have hcool := hs.coolDown_of_gate (by simp [hgate])
  dsimp only
  split
  · exact hs.of_same ⟨rfl, rfl, rfl, rfl⟩
  · refine .of_same (State.coldStart_powerLegal 2 ?_ ?_) ⟨rfl, rfl, rfl, rfl⟩
    · split <;> exact hgate
    · split <;> exact hcool

theorem execMgmtSramError_powerLegal {e : SramError} {s t : State} (hs : s.PowerLegal)
    (h : execMgmtSramError e s = .next t) : t.PowerLegal := by
  refine guarded_powerLegal hs (fun hdie => ?_) h
  cases e with
  | corrected => exact hs.of_frame (State.raise_only _ _ (State.bump_only _ _ s (.refl _ s) rfl) rfl)
  | shared =>
    dsimp only
    split
    · exact hs.of_frame (State.raise_only 378 s (.refl _ s) rfl)
    · exact (State.watchdogExpire_powerLegal hs hdie).of_frame (State.raise_only 378 _ (.refl _ _) rfl)
  | coreLocal k =>
    dsimp only
    split
    · exact State.coreFail_powerLegal _ hs hdie
    · exact hs

/-- Of a sideband's levels only the absence of the twin of a paired module ends in a start. -/
theorem execSidebandLevelAccepted_powerLegal {n : Fin 40} {signal : Sideband} {high : Bool} {s t : State}
    (hs : s.PowerLegal) (h : execSidebandLevelAccepted n signal high s = .next t) : t.PowerLegal := by
  refine guarded_powerLegal hs (fun hdie => ?_) h
  have group (f : GroupSide → GroupSide) : OnlyChanges (but [.sup, .safeState]) s (s.setGroup n f) :=
    State.setGroup_only n f s (.refl _ s) rfl
  cases signal with
  | perst =>
    dsimp only
    split
    · split
      · exact hs.of_frame (group _)
      split
      · exact hs.of_frame (State.hostRelease_only _ _ (group _) rfl)
      · exact hs.of_frame (State.hostReset_only _ _ (group _) rfl)
    · exact hs
  | prsnt =>
    dsimp only
    split
    · exact hs
    split
    · exact hs.of_frame (group _)
    split
    · exact hs.of_frame (State.each_only _ _ _ (group _) (fun p z hz => State.portDown_only p 2 z hz rfl))
    · exact hs.of_frame (State.each_only _ _ _ (group _) (fun p z hz => State.startPort_only p z hz rfl))
  | wake =>
    dsimp only
    split
    · split
      · split
        · exact hs.of_frame (State.wakeFrom_only _ _ _ (group _) rfl)
        · exact hs.of_frame (group _)
      · exact hs.of_frame (group _)
    · exact hs
  | clkreq =>
    dsimp only
    split
    · exact hs.of_frame (group _)
    · exact hs.of_frame (State.each_only _ _ _ (group _) (fun p z hz => State.useLink_only p z hz rfl))
  | garnetPrsnt =>
    have board (b : Board) : OnlyChanges (but [.sup, .safeState]) s { s with board := b } := State.board_update (.refl _ s) rfl
    have hgate := hs.gate_of_dieOn hdie
    dsimp only
    split
    · exact hs.of_frame (board _)
    split
    · exact hs.of_frame (State.startPort_only 160 _ (board _) rfl)
    split
    · refine State.PowerLegal.of_frame ?_ (State.raise_only 389 _ (.refl _ _) rfl)
      exact State.PowerLegal.warmStart (hs.of_frame (board _)) 5 hgate
    · exact hs.of_frame (State.portDown_only 160 2 _ (board _) rfl)

theorem State.message_powerLegal {hd : GarnetHead} {code : Nat} {body : List Nat} {f : State → State} {s : State}
    (hs : s.PowerLegal) (hf : ∀ z, OnlyChanges [.trunks, .irqPending] s z → (f z).PowerLegal) :
    (s.message hd code body f).PowerLegal := by
  unfold State.message State.garnetAccept
  dsimp only
  split
  · exact hs
  split
  · exact hs.of_frame (State.askReplay_only _ _ s (.refl _ s) rfl)
  split
  · exact hf _ (State.interrupt_only _ _ (State.setTrunk_only _ _ s (.refl _ s) rfl) rfl)
  split
  · exact hs
  · exact hs.of_frame (State.askReplay_only _ _ s (.refl _ s) rfl)

theorem running_of_garnetUp {s : State} (h : s.garnetUp = true) : s.running = true := by
  simp only [State.garnetUp, Bool.and_eq_true] at h
  exact h.1.1

theorem execRestartRequest_powerLegal {hd : GarnetHead} {s t : State} (hs : s.PowerLegal)
    (h : execRestartRequest hd s = .next t) : t.PowerLegal := by
  refine guarded_powerLegal hs (fun hup => State.message_powerLegal hs (fun z hz => ?_)) h
  have same : SamePower s z := .of_frame (hz.mono rfl)
  have hgate := hs.gate_of_running (running_of_garnetUp hup)
  split
  · exact hs.of_same same
  · exact (hs.of_same same).warmStart 5 (same.2.2.1.trans hgate)

/-! #### The beat boundary -/

theorem State.idleBoundary_powerLegal {s : State} (hs : s.PowerLegal) (hdie : s.dieOn = true) : s.idleBoundary.PowerLegal := by
  have h1 : SamePower s s.retireCores := .of_frame (State.retireCores_only s (.refl _ s) rfl)
  have h2 := State.collect_powerLegal (hs.of_same h1) (h1.dieOn.trans hdie)
  exact h2.of_frame (State.countCapacity_only _ (State.expireSessions_only _ (.refl _ _) rfl) rfl)

theorem State.epochSteps_powerLegal {s : State} (hs : s.PowerLegal) (hdie : s.dieOn = true) : s.epochSteps.PowerLegal := by
  have h4 : SamePower s (((s.releaseEpochs).commitStep).convertSlots).drainCheck :=
    .of_frame (State.drainCheck_only _ (State.convertSlots_only _ (State.commitStep_only _
      (State.releaseEpochs_only s (.refl _ s) rfl) rfl) rfl) rfl)
  have h5 := State.collect_powerLegal (hs.of_same h4) (h4.dieOn.trans hdie)
  exact h5.of_frame (State.retireCores_only _ (.refl _ _) rfl)

theorem State.patternStep_samePower (s : State) : SamePower s s.patternStep := by
  unfold State.patternStep
  split
  · dsimp only
    split <;> exact ⟨rfl, rfl, rfl, rfl⟩
  · exact .refl s

theorem State.gateUnits_samePower (s : State) : SamePower s s.gateUnits := by
  unfold State.gateUnits
  extract_lets isOn quiet side bank cluster ledger units
  exact ⟨rfl, rfl, rfl, rfl⟩

theorem State.serviceSteps_samePower (s : State) : SamePower s s.serviceSteps := by
  unfold State.serviceSteps
  split
  · exact .refl s
  extract_lets s1 s2
  have h1 : OnlyChanges (but [.sup, .safeState]) s s1 :=
    State.expireSessions_only _ (State.vectorStep_only _ _ (State.vectorStep_only _ _
      (State.reloadWeights_only s (.refl _ s) rfl) rfl) rfl) rfl
  have h2 : OnlyChanges (but [.sup, .safeState]) s s2 :=
    State.doorbellStep_only _ (State.mirrorStep_only _ h1 rfl) rfl
  have h3 : OnlyChanges (but [.sup, .safeState]) s s2.checkPaths.linkFlits.startPorts.sendBlocks.scanCheck :=
    State.scanCheck_only _ (State.sendBlocks_only _ (State.startPorts_only _ (State.linkFlits_only _
      (State.checkPaths_only _ h2 rfl) rfl) rfl) rfl) rfl
  have hgates : SamePower s s2.checkPaths.linkFlits.startPorts.sendBlocks.scanCheck.gateUnits :=
    (SamePower.of_frame h3).trans (State.gateUnits_samePower _)
  have hlinks := hgates.trans (.of_frame (State.linksReady_only _ (.refl _ _) rfl))
  exact hlinks.trans (State.patternStep_samePower _)

theorem State.fenceStep_powerLegal {s : State} (hs : s.PowerLegal) (hr : s.running = true) : s.fenceStep.PowerLegal := by
  unfold State.fenceStep
  dsimp only
  have board (b : Board) : OnlyChanges (but [.sup, .safeState]) s { s with board := b } := State.board_update (.refl _ s) rfl
  split
  · split
    · exact State.PowerLegal.warmStart (hs.of_frame (board _)) 5 (hs.gate_of_running hr)
    split
    · exact hs.of_frame (State.takeover_only _ (board _) rfl)
    · exact hs.of_frame (board _)
  · exact hs

theorem State.boundary_powerLegal {s : State} (hs : s.PowerLegal) (hdie : s.dieOn = true) : s.boundary.PowerLegal := by
  unfold State.boundary
  extract_lets ep s1 s2 s3
  have h2 : SamePower s s2 := ⟨rfl, rfl, rfl, rfl⟩
  have hs2 := hs.of_same h2
  split
  · exact State.idleBoundary_powerLegal hs2 (h2.dieOn.trans hdie)
  · have before : SamePower s2 s2.beforeSteps := .of_frame (State.beforeSteps_only s2 (.refl _ s2) rfl)
    have h3 : s3.PowerLegal :=
      (State.epochSteps_powerLegal (hs2.of_same before) (before.dieOn.trans (h2.dieOn.trans hdie))).of_same
        (State.serviceSteps_samePower _)
    exact (h3.ifDo (State.fenceStep_powerLegal h3)).of_frame (State.countCapacity_only _ (.refl _ _) rfl)

/-! #### Reads and writes of the dictionary -/

theorem settled_samePower {s t : State} : SamePower t (settled s (.next t)) := ⟨rfl, rfl, rfl, rfl⟩

/-- A command of the dictionary keeps the power states together, also in a write of its entry. -/
theorem dictCommand_powerLegal {c : Instr} (hc : dictCommand c = true) {s t : State} (hs : s.PowerLegal)
    (h : exec c s = .next t) : t.PowerLegal := by
  cases c
  case warmStartRequest => exact execWarmStartRequest_powerLegal hs h
  case coldStartRequest => exact execColdStartRequest_powerLegal hs h
  case standbyRequest => exact execStandbyRequest_powerLegal hs h
  case twinRelease => exact hs.of_same (execTwinRelease_samePower h)
  case latchRecordClear => exact hs.of_same (execLatchRecordClear_samePower h)
  all_goals
    first
    | exact exec_powerLegal_of_untouched _ rfl rfl hs h
    | exact absurd hc Bool.false_ne_true

theorem State.commandItem_powerLegal {i j v : Nat} {cycle : Fin 256} {s t : State} (hs : s.PowerLegal)
    (h : s.commandItem i j v cycle = .next t) : t.PowerLegal := by
  revert h
  refine State.commandItem_elim (P := fun r => r = .next t → t.PowerLegal) i j v cycle (fun c hc h => ?_) (fun k scale h => ?_)
    (fun p h => ?_) (fun h => ?_)
  · exact dictCommand_powerLegal hc hs h
  · exact exec_powerLegal_of_untouched _ rfl rfl (hs.of_frame (State.fresh_only 8 s (.refl _ s) rfl)) h
  · exact commandWrite_powerLegal hs (fun _ => hs.of_frame (State.writePwren_only _ _ s (.refl _ s) rfl)) h
  · rw [← Host.Outcome.next.inj h]
    exact hs.of_same ⟨rfl, rfl, rfl, rfl⟩

theorem State.writeEntry_powerLegal {r : EntryRow} {i j v : Nat} {cycle : Fin 256} {s : State} (hs : s.PowerLegal) :
    (s.writeEntry r i j v cycle).PowerLegal := by
  unfold State.writeEntry
  split
  · exact hs
  · exact hs.of_frame (State.writeSetting_only _ _ _ s (.refl _ s) rfl)
  · exact hs.of_frame (State.writeStaged_only _ _ _ s (.refl _ s) rfl)
  · exact hs.of_frame (State.writeSelector_only _ _ _ s (.refl _ s) rfl)
  · cases h : s.commandItem i j v cycle with
    | next t => exact (State.commandItem_powerLegal hs h).of_same settled_samePower
    | fault => exact hs
    | refused => exact hs

theorem State.writeItem_powerLegal {x : Session} {cycle : Fin 256} {i : AdpItem} {s : State} (hs : s.PowerLegal) :
    (s.writeItem x cycle i).PowerLegal := by
  unfold State.writeItem
  split
  · exact hs
  split
  · exact hs
  split
  · exact hs.of_frame (State.setSession_only _ _ s (.refl _ s) rfl)
  · exact State.writeEntry_powerLegal hs

theorem State.registerWrite_powerLegal {w : RegWrite} {cycle : Fin 256} {s : State} (hs : s.PowerLegal) :
    (s.registerWrite w cycle).PowerLegal := by
  have answered (n : Nat) {z : State} (hz : z.PowerLegal) : (z.answer n).PowerLegal := hz.of_same ⟨rfl, rfl, rfl, rfl⟩
  cases w with
  | entry i j v =>
    unfold State.registerWrite
    dsimp only
    split
    · exact answered 3 hs
    split
    · exact answered 3 hs
    split
    · exact answered 6 hs
    split
    · exact answered 4 hs
    refine answered _ ?_
    split
    · exact State.writeEntry_powerLegal hs
    · exact hs
  | host v reg => exact hs.ifDo (fun _ => hs.of_frame (State.writeHost_only _ _ s (.refl _ s) rfl))
  | irqEnable k word value => exact hs.of_frame (State.writeEnable_only _ _ _ s (.refl _ s) rfl)
  | config n v => exact hs.of_frame (State.writeConfig_only _ _ s (.refl _ s) rfl)
  | status n v => exact hs.ifDo (fun _ => hs.of_frame (State.clearSource_only _ s (.refl _ s) rfl))
  | force v => exact hs.of_frame (State.raise_only _ s (.refl _ s) rfl)
  | ignored => exact hs

theorem execAdpWrite_powerLegal {hd : AdpHead} {items : List AdpItem} {cycle : Fin 256} {s t : State} (hs : s.PowerLegal)
    (h : execAdpWrite hd items cycle s = .next t) : t.PowerLegal := by
  unfold execAdpWrite at h
  split at h
  · rwa [← Host.Outcome.next.inj h]
  refine received_elim hs (fun _ _ => ?_) h
  have ha := hs.of_frame (State.arrived_only hd.path s (.refl _ s) rfl)
  refine State.adpMessage_elim (fun t F => ha.of_frame (F.mono rfl)) (fun x z F => ?_)
  have hz := ha.of_frame (F.mono rfl)
  have responds (len : Nat) (body : List Nat) : (z.respond hd x 0x11 len body).PowerLegal :=
    hz.of_frame (State.respond_only _ _ _ _ _ z (.refl _ z) rfl)
  dsimp only
  split
  · exact responds _ _
  split
  · exact responds _ _
  split
  · refine State.PowerLegal.of_frame ?_ (State.endThrough_only _ _ (.refl _ _) rfl)
    exact each_inv (fun x y => x.PowerLegal → y.PowerLegal) (fun _ h => h) (fun _ _ _ h k x => k (h x))
      (fun i _ z hz => State.writeItem_powerLegal hz) (responds _ _)
  · exact responds _ _

theorem execAdpRead_powerLegal {hd : AdpHead} {items : List AdpItem} {s t : State} (hs : s.PowerLegal)
    (h : execAdpRead hd items s = .next t) : t.PowerLegal := by
  unfold execAdpRead at h
  split at h
  · rwa [← Host.Outcome.next.inj h]
  refine received_elim hs (fun hup _ => ?_) h
  have ha : SamePower s (s.arrived hd.path) := .of_frame (State.arrived_only hd.path s (.refl _ s) rfl)
  refine State.adpMessage_elim (fun t F => (hs.of_same ha).of_frame (F.mono rfl)) (fun x z F => ?_)
  have hz : SamePower s z := ha.trans (.of_frame (F.mono rfl))
  have responds (len : Nat) (body : List Nat) : SamePower s (z.respond hd x 0x10 len body) :=
    hz.trans (.of_frame (State.respond_only _ _ _ _ _ z (.refl _ z) rfl))
  dsimp only
  split
  · exact hs.of_same (responds _ _)
  split
  · exact hs.of_same (responds _ _)
  split
  · exact hs.of_same (responds _ _)
  · refine (hs.of_same (responds _ _)).ifDo (fun _ => ?_)
    exact State.parityCheck_powerLegal (hs.of_same (responds _ _)) ((responds _ _).dieOn.trans (dieOn_of_adpUp hup))

/-! #### Every command -/

theorem exec_powerLegal {c : Instr} {s t : State} (hs : s.PowerLegal) (h : exec c s = .next t) : t.PowerLegal := by
  cases c
  case beatBoundary => exact guarded_powerLegal hs (State.boundary_powerLegal hs) h
  case sidebandLevelAccepted => exact execSidebandLevelAccepted_powerLegal hs h
  case modrstN => exact execModrstN_powerLegal hs h
  case feedPresent => exact hs.of_same (execFeedPresent_samePower h)
  case feedLost => exact execFeedLost_powerLegal hs h
  case reverseCurrentOff => exact hs.of_same (guarded_samePower (State.setFeed_samePower _ _ s) h)
  case fetConductsAgain => exact hs.of_same (guarded_samePower (State.setFeed_samePower _ _ s) h)
  case busShutdown => exact execBusShutdown_powerLegal hs h
  case gateTurnOn => exact execGateTurnOn_powerLegal hs h
  case gateFullyOn => exact execGateFullyOn_powerLegal hs h
  case inrushTrip => exact guarded_powerLegal hs (fun _ => State.trip_powerLegal 3 117 hs) h
  case faultTimerStart => exact hs.of_same (guarded_samePower ⟨rfl, rfl, rfl, rfl⟩ h)
  case faultTimerIdle => exact hs.of_same (guarded_samePower ⟨rfl, rfl, rfl, rfl⟩ h)
  case overcurrentTrip => exact guarded_powerLegal hs (fun _ => State.trip_powerLegal 1 115 hs) h
  case hardShortTrip => exact guarded_powerLegal (f := fun s => (s.trip 2 116).tripEnd) hs (fun _ => State.tripEnd_powerLegal _) h
  case pgOutRise => exact hs.of_same (guarded_samePower ⟨rfl, rfl, rfl, rfl⟩ h)
  case gateOffAfterTrip => exact guarded_powerLegal hs (fun _ => State.tripEnd_powerLegal s) h
  case automaticRetry => exact execAutomaticRetry_powerLegal hs h
  case retryCountClear => exact hs.of_same (guarded_samePower ⟨rfl, rfl, rfl, rfl⟩ h)
  case retainedStateCleared => exact execRetainedStateCleared_powerLegal hs h
  case twinRelease => exact hs.of_same (execTwinRelease_samePower h)
  case releasePatternAccepted => exact execReleasePatternAccepted_powerLegal hs h
  case latchRecordClear => exact hs.of_same (execLatchRecordClear_samePower h)
  case standbyRequest => exact execStandbyRequest_powerLegal hs h
  case standbyWake => exact execStandbyWake_powerLegal hs h
  case warmStartRequest => exact execWarmStartRequest_powerLegal hs h
  case coldStartRequest => exact execColdStartRequest_powerLegal hs h
  case watchdogExpiry =>
    refine guarded_powerLegal hs (fun hg => State.watchdogExpire_powerLegal hs ?_) h
    simp only [Bool.and_eq_true] at hg
    exact hg.1.1
  case coldStart => exact hs.of_same (execColdStart_samePower h)
  case bistDone => exact execBistDone_powerLegal hs h
  case dataPathRelease => exact execDataPathRelease_powerLegal hs h
  case frameStart => exact hs.of_same (execFrameStart_samePower h)
  case cellTimeMatch => exact hs.of_same (execCellTimeMatch_samePower h)
  case coreCheckinTimeout =>
    refine guarded_powerLegal hs (fun hg => State.coreFail_powerLegal _ hs ?_) h
    rw [Bool.and_eq_true] at hg
    exact hg.1
  case mgmtSramError => exact execMgmtSramError_powerLegal hs h
  case supervisorRead => exact hs.of_same (execSupervisorRead_samePower h)
  case collectorScan =>
    refine guarded_powerLegal hs (fun hg => State.parityCheck_powerLegal hs ?_) h
    rw [Bool.and_eq_true] at hg
    exact hg.1
  case twinAlertPulsing =>
    refine guarded_powerLegal hs (fun hg => hs.warmStart 5 (hs.gate_of_running ?_)) h
    simp only [Bool.and_eq_true] at hg
    exact hg.1.1
  case restartRequest => exact execRestartRequest_powerLegal hs h
  case adpRead => exact execAdpRead_powerLegal hs h
  case adpWrite => exact execAdpWrite_powerLegal hs h
  case registerWrite => exact guarded_powerLegal hs (fun _ => State.registerWrite_powerLegal hs) h
  all_goals exact exec_powerLegal_of_untouched _ rfl rfl hs h

/-- Settles O57: safe state is entered only with the gate on, a start begins only with the gate on, and the end of a trip leaves
the gate off. -/
theorem powerStatesKept : Obligations.PowerStatesKept := by
  unfold Obligations.PowerStatesKept
  intro s t hs h
  exact step_keeps (P := State.PowerLegal) (fun _ _ h => h) (fun _ _ _ => exec_powerLegal) hs h

end Sys2Proof.Machine

/-!
### Safe state is kept, and silent

In safe state the module does not run, so its commands are those of the supervisor, the starts, Sprout, the cores, the collector
and ADP. What these send out is an answer or a message of ADP, or a value that is read: no vector is deliverable there. Only a
start or the loss of power ends it; the writes of one ADP message go on after a cold start that one of them asks for, but ADP is
not answered any more.
-/

namespace Sys2Proof.Machine

/-- What t has sent out beyond s does not leave the module. -/
def Silent (s t : State) : Prop := ∃ l, SentSince s t l ∧ ∀ o ∈ l, o.leaves = false

/-- From safe state the module stays in it, and what it sends out does not leave. -/
def StaysSilent (s t : State) : Prop := s.col.safe = true → t.col.safe = true ∧ Silent s t

/-- The module is in safe state, or a cold start has just begun. -/
def State.SafeOrCold (s : State) : Prop := s.col.safe = true ∨ s.start.phase = .cold

namespace Silent

theorem of_out {s t : State} (h : t.out = s.out) : Silent s t :=
  ⟨[], h, fun _ ho => absurd ho List.not_mem_nil⟩

theorem refl (s : State) : Silent s s := of_out rfl

theorem trans {s t u : State} (h : Silent s t) (k : Silent t u) : Silent s u := by
  obtain ⟨l, hl, hquiet⟩ := h
  obtain ⟨m, hm, kquiet⟩ := k
  refine ⟨m ++ l, ?_, fun o ho => ?_⟩
  · rw [SentSince, List.append_assoc, ← hl]
    exact hm
  · exact (List.mem_append.1 ho).elim (kquiet o) (hquiet o)

theorem emit {o : Out} (ho : o.leaves = false) (s : State) : Silent s (s.emit o) :=
  ⟨[o], rfl, by simpa using ho⟩

theorem answer (n : Nat) (s : State) : Silent s (s.answer n) := emit rfl s

/-- The ADP response carries the status of a write, which is taken from what the command sent out. -/
theorem settled {s t : State} (h : Silent s t) : Silent s (settled s (.next t)) := by
  obtain ⟨l, hl, hquiet⟩ := h
  have hn : t.out.length - s.out.length = l.length := by rw [hl, List.length_append]; omega
  refine ⟨l.eraseP (fun o => o.status?.isSome), ?_, fun o ho => hquiet o (List.mem_of_mem_eraseP ho)⟩
  simp only [SentSince, Machine.settled]
  rw [hn, hl, List.take_left, List.drop_left]

end Silent

namespace StaysSilent

theorem of_frame {s t : State} (F : OnlyChanges (but [.safeState, .outputs]) s t) : StaysSilent s t :=
  fun h => ⟨(F .safeState (by decide)).1.trans h, .of_out (F .outputs (by decide))⟩

theorem refl (s : State) : StaysSilent s s := fun h => ⟨h, .refl s⟩

theorem trans {s t u : State} (h : StaysSilent s t) (k : StaysSilent t u) : StaysSilent s u := by
  intro hs
  obtain ⟨ht, hst⟩ := h hs
  obtain ⟨hu, htu⟩ := k ht
  exact ⟨hu, hst.trans htu⟩

theorem emit {o : Out} (ho : o.leaves = false) (s : State) : StaysSilent s (s.emit o) := fun h => ⟨h, .emit ho s⟩

theorem answer (n : Nat) (s : State) : StaysSilent s (s.answer n) := emit rfl s

theorem each {α : Type} {l : List α} {f : α → State → State} {s : State} (hf : ∀ x z, StaysSilent z (f x z)) :
    StaysSilent s (s.each l f) :=
  each_inv StaysSilent refl (fun _ _ _ => trans) (fun x _ z => hf x z)

end StaysSilent

theorem not_running_of_safe {s : State} (h : s.col.safe = true) : s.running = false := by
  simp [State.running, h]

theorem not_open_of_safe {s : State} (h : s.col.safe = true) : s.adpOpen = false := by
  simp [State.adpOpen, not_running_of_safe h]

theorem not_inPhase_of_safe {s : State} (h : s.col.safe = true) (p : StartPhase) : s.inPhase p = false := by
  simp [State.inPhase, h]

theorem not_adpUp_of_cold {s : State} (h : s.start.phase = .cold) : s.adpUp = false := by
  simp [State.adpUp, h]

theorem guarded_staysSilent {c : Bool} {f : State → State} {s t : State} (hf : StaysSilent s (f s))
    (h : guarded c f s = .next t) : StaysSilent s t := by
  rw [guarded_next h]
  split
  · exact hf
  · exact .refl s

/-! #### Notifications and messages of ADP -/

/-- In safe state no vector is deliverable (R545, R599), so that a send leaves it pending. -/
theorem State.vecSend_staysSilent (store : Bool) (k : Nat) (s : State) : StaysSilent s (s.vecSend store k) := by
  intro h
  have pending : s.deliverable store k = false := by simp [State.deliverable, h]
  rw [State.vecSend, if_neg (by simp [pending])]
  exact StaysSilent.of_frame (State.setVec_only store k _ s (.refl _ s) rfl) h

theorem State.vecEvent_staysSilent (store : Bool) (k : Nat) (s : State) : StaysSilent s (s.vecEvent store k) := by
  unfold State.vecEvent
  extract_lets s1 v
  have h1 : StaysSilent s s1 := .of_frame (State.setVec_only store k _ s (.refl _ s) rfl)
  split
  · exact h1.trans (State.vecSend_staysSilent store k s1)
  split
  · exact h1.trans (State.vecSend_staysSilent store k s1)
  split
  · exact h1.trans (.of_frame (State.setVec_only store k _ s1 (.refl _ s1) rfl))
  · exact h1

theorem State.mailboxPut_staysSilent (vh : Nat) (note : Bool) (len : Nat) (body : List Nat) (s : State) :
    StaysSilent s (s.mailboxPut vh note len body) := by
  unfold State.mailboxPut
  dsimp only
  split
  · exact .trans (.of_frame (State.setFunc_only vh _ s (.refl _ s) rfl)) (State.vecEvent_staysSilent false _ _)
  split
  · exact .of_frame (State.setFunc_only vh _ s (.refl _ s) rfl)
  · exact .refl s

theorem State.sendAdp_staysSilent (p : AdpPath) (session kind op seq ref len : Nat) (body : List Nat) (s : State) :
    StaysSilent s (s.sendAdp p session kind op seq ref len body) := by
  cases p with
  | segmentA => exact .emit rfl s
  | segmentB => exact .emit rfl s
  | mailbox v => exact State.mailboxPut_staysSilent _ _ _ _ s

theorem State.notifyOne_staysSilent (x : Session) (code : Nat) (body : List Nat) (s : State) :
    StaysSilent s (s.notifyOne x code body) := by
  unfold State.notifyOne
  split
  · exact .of_frame (State.endSession_only _ s (.refl _ s) rfl)
  extract_lets s1 lost
  have h1 : StaysSilent s s1 := .of_frame (State.setSession_only _ _ s (.refl _ s) rfl)
  have hlost : StaysSilent s lost := .of_frame (State.raise_only _ _ (State.bump_only _ _ s (.refl _ s) rfl) rfl)
  split
  · split
    · exact h1.trans (State.mailboxPut_staysSilent _ _ _ _ s1)
    · exact hlost
  · split
    · exact h1.trans (.emit rfl s1)
    · exact hlost

theorem State.notify_staysSilent (code dom : Nat) (body : List Nat) (s : State) : StaysSilent s (s.notify code dom body) :=
  .each (fun x z => State.notifyOne_staysSilent x code body z)

theorem State.respond_staysSilent (hd : AdpHead) (x : Session) (op len : Nat) (body : List Nat) (s : State) :
    StaysSilent s (s.respond hd x op len body) := by
  unfold State.respond
  dsimp only
  split
  · exact .of_frame (State.endSession_only _ s (.refl _ s) rfl)
  · exact .trans (.of_frame (State.setSession_only _ _ s (.refl _ s) rfl)) (State.sendAdp_staysSilent _ _ _ _ _ _ _ _ _)

theorem State.arrived_staysSilent (p : AdpPath) (s : State) : StaysSilent s (s.arrived p) :=
  .of_frame (State.arrived_only p s (.refl _ s) rfl)

/-- A message of a session is discarded or answered at once, in silence, or it is acted on in a state where its session has
accepted it. -/
theorem State.adpMessage_silent_elim {P : State → Prop} {hd : AdpHead} {f : Session → State → State} {s : State}
    (hdone : ∀ t, StaysSilent s t → P t) (hf : ∀ x t, StaysSilent s t → P (f x t)) : P (s.adpMessage hd f) := by
  have bumped (j : Nat) : StaysSilent s (s.bump 0x1110 j) := .of_frame (State.bump_only _ _ s (.refl _ s) rfl)
  unfold State.adpMessage
  dsimp only
  split
  · exact hdone _ (.refl s)
  split
  · exact hdone _ (.refl s)
  split
  · have h1 := (bumped 3).trans (.of_frame (State.raise_only 418 _ (.refl _ _) rfl))
    split
    · exact hdone _ (h1.trans (.of_frame (State.endSession_only _ _ (.refl _ _) rfl)))
    · exact hdone _ (h1.trans (.of_frame (State.setSession_only _ _ _ (.refl _ _) rfl)))
  split
  · exact hdone _ (.of_frame (State.endSession_only _ s (.refl _ s) rfl))
  split
  · split
    · exact hdone _ ((bumped 4).trans (State.sendAdp_staysSilent _ _ _ _ _ _ _ _ _))
    · exact hdone _ (bumped 4)
  · exact hf _ _ (.of_frame (State.setSession_only _ _ s (.refl _ s) rfl))

theorem State.adpMessage_staysSilent {hd : AdpHead} {f : Session → State → State} (hf : ∀ x z, StaysSilent z (f x z))
    (s : State) : StaysSilent s (s.adpMessage hd f) :=
  State.adpMessage_silent_elim (fun _ h => h) (fun x z h => h.trans (hf x z))

theorem received_staysSilent {p : AdpPath} {f : State → State} (hf : ∀ z, StaysSilent z (f z)) {s t : State}
    (h : received p f s = .next t) : StaysSilent s t :=
  guarded_staysSilent ((State.arrived_staysSilent p s).trans (hf _)) h

theorem State.request_staysSilent {hd : AdpHead} {op level : Nat} {status : Session → State → Nat} {f : Session → State → State}
    (hf : ∀ x z, StaysSilent z (f x z)) (s : State) : StaysSilent s (s.request hd op level status f) := by
  refine State.adpMessage_staysSilent (fun x z => ?_) s
  extract_lets c s1
  have h1 : StaysSilent z s1 := State.respond_staysSilent hd x op 1 [c] z
  split
  · exact h1.trans (hf x s1)
  · exact h1

theorem State.refuse_staysSilent (p : AdpPath) (n code : Nat) (s : State) : StaysSilent s (s.refuse p n code) :=
  .trans (.of_frame (State.endSession_only _ s (.refl _ s) rfl)) (State.sendAdp_staysSilent _ _ _ _ _ _ _ _ _)

theorem State.refuseCheck_staysSilent (p : AdpPath) (n code : Nat) (s : State) : StaysSilent s (s.refuseCheck p n code) :=
  .trans (.of_frame (State.raise_only _ _ (State.bump_only _ _ s (.refl _ s) rfl) rfl)) (State.refuse_staysSilent p n code _)

theorem State.refuseLimit_staysSilent (p : AdpPath) (n : Nat) (s : State) : StaysSilent s (s.refuseLimit p n) :=
  .trans (.of_frame (State.raise_only _ s (.refl _ s) rfl)) (State.refuse_staysSilent p n 1 _)

theorem State.helloReply_staysSilent (p : AdpPath) (n : Nat) (s : State) : StaysSilent s (s.helloReply p n) := by
  unfold State.helloReply
  extract_lets len r k
  have hk : StaysSilent s k.2 := .of_frame (State.fresh_only 10 _ (State.fresh_only 9 s (.refl _ s) rfl) rfl)
  exact (hk.trans (State.sendAdp_staysSilent _ _ _ _ _ _ _ _ _)).trans (.each (fun i z => State.sendAdp_staysSilent _ _ _ _ _ _ _ _ z))

theorem execHello_staysSilent {path : AdpPath} {version level : BitVec 8} {chainLen : BitVec 16} {s t : State}
    (h : execHello path version level chainLen s = .next t) : StaysSilent s t := by
  refine received_staysSilent (fun z => ?_) h
  split
  · exact .refl z
  split
  · exact State.refuse_staysSilent path 0 1 z
  split
  · exact State.refuseCheck_staysSilent path 0 4 z
  split
  · exact State.refuseCheck_staysSilent path 0 2 z
  split
  · exact State.refuseLimit_staysSilent path 0 z
  · exact .trans (.of_frame (State.sessions_update (.refl _ z) rfl)) (State.helloReply_staysSilent path _ _)

theorem execChain_staysSilent {path : AdpPath} {session : BitVec 32} {offset : BitVec 16} {len : Fin 1025} {s t : State}
    (h : execChain path session offset len s = .next t) : StaysSilent s t := by
  refine received_staysSilent (fun z => ?_) h
  split
  · exact .refl z
  split
  · exact State.refuse_staysSilent path _ 1 z
  split
  · exact State.refuseCheck_staysSilent path _ 2 z
  · exact .of_frame (State.setSession_only _ _ z (.refl _ z) rfl)

theorem execFinish_staysSilent {path : AdpPath} {session : BitVec 32} {signatureOk chainOk : Bool} {anchor : Option (Fin 64)}
    {selfSigned : Bool} {s t : State} (h : execFinish path session signatureOk chainOk anchor selfSigned s = .next t) :
    StaysSilent s t := by
  refine received_staysSilent (fun z => ?_) h
  split
  · exact .refl z
  split
  · exact State.refuse_staysSilent path _ 1 z
  split
  · exact State.refuseCheck_staysSilent path _ 4 z
  split
  · exact State.refuseCheck_staysSilent path _ _ z
  split
  · exact State.refuseLimit_staysSilent path _ z
  · exact .trans (.of_frame (State.fresh_only 11 _ (State.setSession_only _ _ z (.refl _ z) rfl) rfl))
      (State.sendAdp_staysSilent _ _ _ _ _ _ _ _ _)

/-! #### The supervisor, the cores and the collector -/

theorem State.enterSafe_of_safe {s : State} (cause src : Nat) (h : s.col.safe = true) : s.enterSafe cause src = s := if_pos h

theorem State.supervisorSafe_of_safe {s : State} (h : s.col.safe = true) : s.supervisorSafe = s := by
  unfold State.supervisorSafe
  rw [ifDo, State.enterSafe_of_safe 3 0 h, ite_self]

theorem State.parityCheck_of_safe {s : State} (h : s.col.safe = true) : s.parityCheck = s := by
  rw [State.parityCheck, State.enterSafe_of_safe 2 0xFFFF h, ite_self]

theorem State.ifDo_parityCheck_staysSilent (c : Bool) (s : State) : StaysSilent s (s.ifDo c State.parityCheck) := by
  intro h
  rw [ifDo, State.parityCheck_of_safe h, ite_self]
  exact ⟨h, .refl s⟩

theorem State.coreFail_of_safe {s : State} (k : Nat) (h : s.col.safe = true) : s.coreFail k = s.markCore k := by
  have hm : (s.markCore k).col.safe = true := h
  rw [State.coreFail, State.enterSafe_of_safe 4 0xFFFF hm, ite_self]

theorem State.collect_staysSilent (s : State) : StaysSilent s s.collect := by
  intro h
  unfold State.collect
  extract_lets fired col s1 codes
  have h1 : s1.col.safe = true := h
  rw [if_pos h1]
  exact ⟨h1, .of_out rfl⟩

theorem State.trip_staysSilent (cause src : Nat) (s : State) : StaysSilent s (s.trip cause src) := by
  intro h
  unfold State.trip
  extract_lets latch s1 s2
  have h2 : s2.col.safe = true ∧ s2.out = s.out := by
    unfold s2
    split <;> exact ⟨h, rfl⟩
  rw [State.supervisorSafe_of_safe h2.1]
  exact ⟨h2.1, .of_out h2.2⟩

theorem execBusShutdown_staysSilent {overVolt : Bool} {s t : State} (h : execBusShutdown overVolt s = .next t) :
    StaysSilent s t := by
  refine guarded_staysSilent (fun hsafe => ?_) h
  extract_lets s1
  have h1 : s1.col.safe = true := hsafe
  rw [State.supervisorSafe_of_safe h1]
  exact ⟨h1, .of_out rfl⟩

theorem execMgmtSramError_staysSilent {e : SramError} {s t : State} (h : execMgmtSramError e s = .next t) :
    StaysSilent s t := by
  refine guarded_staysSilent ?_ h
  cases e with
  | corrected => exact .of_frame (State.raise_only _ _ (State.bump_only _ _ s (.refl _ s) rfl) rfl)
  | shared =>
    intro hsafe
    dsimp only
    rw [if_pos hsafe]
    exact StaysSilent.of_frame (State.raise_only 378 s (.refl _ s) rfl) hsafe
  | coreLocal k =>
    intro hsafe
    dsimp only
    rw [State.coreFail_of_safe _ hsafe]
    split
    · exact ⟨hsafe, .of_out rfl⟩
    · exact ⟨hsafe, .refl s⟩

theorem execSidebandLevelAccepted_staysSilent {n : Fin 40} {signal : Sideband} {high : Bool} {s t : State}
    (h : execSidebandLevelAccepted n signal high s = .next t) : StaysSilent s t := by
  refine guarded_staysSilent (fun hsafe => ?_) h
  have idle := not_running_of_safe hsafe
  have group (f : GroupSide → GroupSide) : OnlyChanges (but [.safeState, .outputs]) s (s.setGroup n f) :=
    State.setGroup_only n f s (.refl _ s) rfl
  cases signal with
  | perst =>
    simp only [idle, Bool.not_false, if_true]
    split
    · exact StaysSilent.of_frame (group _) hsafe
    · exact StaysSilent.refl s hsafe
  | prsnt =>
    simp only [idle, Bool.not_false, if_true]
    split
    · exact StaysSilent.refl s hsafe
    · exact StaysSilent.of_frame (group _) hsafe
  | wake =>
    simp only [idle, Bool.false_and, Bool.false_eq_true, if_false]
    split
    · split <;> exact StaysSilent.of_frame (group _) hsafe
    · exact StaysSilent.refl s hsafe
  | clkreq =>
    simp only [idle, Bool.not_false, Bool.true_or, if_true]
    exact StaysSilent.of_frame (group _) hsafe
  | garnetPrsnt =>
    simp only [idle, Bool.not_false, if_true]
    exact StaysSilent.of_frame (State.board_update (.refl _ s) rfl) hsafe

theorem execTwinAlertInAsserted_staysSilent {low : Bool} {s t : State} (h : execTwinAlertInAsserted low s = .next t) :
    StaysSilent s t := by
  refine guarded_staysSilent (fun hsafe => ?_) h
  simp only [not_running_of_safe hsafe, Bool.not_false, Bool.or_true, if_true]
  exact StaysSilent.of_frame (State.board_update (.refl _ s) rfl) hsafe

/-- A boundary in safe state: the counter, the cores, the collector and the timers of ADP. -/
theorem State.boundary_staysSilent (s : State) : StaysSilent s s.boundary := by
  intro hsafe
  unfold State.boundary
  extract_lets ep s1 s2 s3
  have h2 : StaysSilent s s2 := fun h => ⟨h, .of_out rfl⟩
  have idle : s2.running = false := not_running_of_safe (h2 hsafe).1
  rw [idle]
  have cores : StaysSilent s2 s2.retireCores := .of_frame (State.retireCores_only s2 (.refl _ s2) rfl)
  have rest : StaysSilent s2.retireCores.collect s2.idleBoundary :=
    .of_frame (State.countCapacity_only _ (State.expireSessions_only _ (.refl _ _) rfl) rfl)
  exact ((h2.trans cores).trans ((State.collect_staysSilent _).trans rest)) hsafe

theorem execClaim_staysSilent {k : Fin 4} {s t : State} (h : execClaim k s = .next t) : StaysSilent s t := by
  refine guarded_staysSilent ?_ h
  dsimp only
  split
  · exact .emit rfl s
  · exact fun hsafe => ⟨hsafe, Silent.trans (.of_out rfl) (.emit rfl _)⟩

theorem execComplete_staysSilent {k : Fin 4} {value : BitVec 32} {s t : State} (h : execComplete k value s = .next t) :
    StaysSilent s t := by
  refine guarded_staysSilent ?_ h
  extract_lets n irq s1
  have h1 : StaysSilent s s1 := fun hsafe => ⟨hsafe, .of_out rfl⟩
  split
  · exact h1.trans (State.notify_staysSilent _ _ _ s1)
  · exact h1

/-! #### Writes of the dictionary -/

theorem takeRecord_start_out (old : Collector) (x : State) :
    (State.takeRecord old x).start = x.start ∧ (State.takeRecord old x).out = x.out := by
  obtain ⟨c, h, -⟩ := takeRecord_eq old x
  rw [h]
  exact ⟨rfl, rfl⟩

theorem State.coldStart_phase (cause : Nat) (s : State) : (s.coldStart cause).start.phase = .cold :=
  congrArg StartUnit.phase (takeRecord_start_out _ _).1

theorem State.coldStart_out (cause : Nat) (s : State) : (s.coldStart cause).out = s.out :=
  (takeRecord_start_out _ _).2

theorem State.warmStart_out (cause : Nat) (s : State) : (s.warmStart cause).out = s.out :=
  (takeRecord_start_out _ _).2

/-- Where ADP is not answered, no command of the dictionary has an effect. -/
theorem exec_of_dictCommand_closed {c : Instr} (hc : dictCommand c = true) {s : State} (h : s.adpUp = false) :
    exec c s = .next s := by
  by_cases he : commandEntry c = true
  · obtain ⟨f, hf⟩ := exec_of_commandEntry he
    rw [hf, commandWrite_closed h]
  · cases c
    case stickyClear => dsimp only [exec, execStickyClear]; exact guarded_of_not h _ _
    case warmStartRequest => dsimp only [exec, execWarmStartRequest]; exact guarded_of_not h _ _
    case coldStartRequest => dsimp only [exec, execColdStartRequest]; exact guarded_of_not h _ _
    case imageBlockWrite => dsimp only [exec, execImageBlockWrite]; exact guarded_of_not h _ _
    case imageVerify => dsimp only [exec, execImageVerify]; exact guarded_of_not h _ _
    all_goals exact absurd hc he

theorem commandWrite_of_safe {s : State} (h : s.col.safe = true) (f : State → State) :
    commandWrite f s = .next (if s.adpUp then s.answer 1 else s) := by
  unfold commandWrite
  cases s.adpUp
  · rfl
  · rw [guarded_true, not_open_of_safe h]
    rfl

/-- In safe state a command of the dictionary keeps it and is silent, but for a request for a cold start, which is silent too. -/
theorem exec_of_dictCommand_safe {c : Instr} (hc : dictCommand c = true) {s t : State} (hsafe : s.col.safe = true)
    (h : exec c s = .next t) : t.SafeOrCold ∧ Silent s t := by
  by_cases he : commandEntry c = true
  · obtain ⟨f, hf⟩ := exec_of_commandEntry he
    rw [hf, commandWrite_of_safe hsafe] at h
    rw [← Host.Outcome.next.inj h]
    split
    · exact ⟨.inl hsafe, .answer 1 s⟩
    · exact ⟨.inl hsafe, .refl s⟩
  · have stays (k : StaysSilent s t) : t.SafeOrCold ∧ Silent s t := ⟨.inl (k hsafe).1, (k hsafe).2⟩
    have closed : s.updatesOpen = false := by simp [State.updatesOpen, hsafe]
    cases c
    case stickyClear n =>
      change execStickyClear n s = _ at h
      refine stays (guarded_staysSilent ?_ h)
      split
      · exact .trans (.of_frame (State.clearSource_only _ s (.refl _ s) rfl)) (.answer 0 _)
      · exact .answer 1 s
    case warmStartRequest =>
      change execWarmStartRequest s = _ at h
      refine stays (guarded_staysSilent (fun _ => ?_) h)
      have refused : s.startAllowed = false := by simp [State.startAllowed, hsafe]
      simp only [refused, Bool.not_false, if_true]
      exact StaysSilent.answer 1 s hsafe
    case coldStartRequest =>
      change execColdStartRequest s = _ at h
      rw [guarded_next h]
      split
      · dsimp only
        split
        · exact ⟨.inl hsafe, .answer 1 s⟩
        · refine ⟨.inr (State.coldStart_phase 2 _), Silent.trans (.of_out ?_) (.answer 0 _)⟩
          rw [State.coldStart_out]
          split <;> rfl
      · exact ⟨.inl hsafe, .refl s⟩
    case imageBlockWrite slot block =>
      change execImageBlockWrite slot block s = _ at h
      refine stays (guarded_staysSilent (fun _ => ?_) h)
      simp only [closed, Bool.not_false, Bool.true_or, if_true]
      exact StaysSilent.answer 1 s hsafe
    case imageVerify slot =>
      change execImageVerify slot s = _ at h
      refine stays (guarded_staysSilent (fun _ => ?_) h)
      simp only [closed, Bool.not_false, Bool.true_or, if_true]
      exact StaysSilent.answer 1 s hsafe
    all_goals exact absurd hc he

/-- From safe state, or from the beginning of a cold start, the module comes to one of the two, and is silent. -/
def Hushed (s t : State) : Prop := s.SafeOrCold → t.SafeOrCold ∧ Silent s t

namespace Hushed

theorem refl (s : State) : Hushed s s := fun h => ⟨h, .refl s⟩

theorem trans {s t u : State} (h : Hushed s t) (k : Hushed t u) : Hushed s u := by
  intro hs
  obtain ⟨ht, hst⟩ := h hs
  obtain ⟨hu, htu⟩ := k ht
  exact ⟨hu, hst.trans htu⟩

theorem of_fields {s t : State} (hsafe : t.col.safe = s.col.safe) (hphase : t.start.phase = s.start.phase) (hout : t.out = s.out) :
    Hushed s t := by
  refine fun h => ⟨?_, .of_out hout⟩
  rw [State.SafeOrCold, hsafe, hphase]
  exact h

theorem of_frame {s t : State} (F : OnlyChanges (but [.safeState, .start, .outputs]) s t) : Hushed s t :=
  of_fields (F .safeState (by decide)).1 (congrArg StartUnit.phase (F .start (by decide))) (F .outputs (by decide))

theorem answer (n : Nat) (s : State) : Hushed s (s.answer n) := fun h => ⟨h, .answer n s⟩

theorem settled {s t : State} (h : Hushed s t) : Hushed s (settled s (.next t)) :=
  fun hs => ⟨(h hs).1, (h hs).2.settled⟩

end Hushed

theorem exec_hushed_of_dictCommand {c : Instr} (hc : dictCommand c = true) {s t : State} (h : exec c s = .next t) :
    Hushed s t := by
  rintro (hsafe | hcold)
  · exact exec_of_dictCommand_safe hc hsafe h
  · rw [exec_of_dictCommand_closed hc (not_adpUp_of_cold hcold)] at h
    rw [← Host.Outcome.next.inj h]
    exact ⟨.inr hcold, .refl s⟩

theorem commandWrite_hushed {f : State → State} {s t : State} (h : commandWrite f s = .next t) : Hushed s t := by
  rintro (hsafe | hcold)
  · rw [commandWrite_of_safe hsafe] at h
    rw [← Host.Outcome.next.inj h]
    split
    · exact ⟨.inl hsafe, .answer 1 s⟩
    · exact ⟨.inl hsafe, .refl s⟩
  · rw [commandWrite_closed (not_adpUp_of_cold hcold)] at h
    rw [← Host.Outcome.next.inj h]
    exact ⟨.inr hcold, .refl s⟩

theorem State.commandItem_hushed {i j v : Nat} {cycle : Fin 256} {s t : State} (h : s.commandItem i j v cycle = .next t) :
    Hushed s t := by
  revert h
  refine State.commandItem_elim (P := fun r => r = .next t → Hushed s t) i j v cycle (fun c hc h => ?_) (fun k scale h => ?_)
    (fun p h => ?_) (fun h => ?_)
  · exact exec_hushed_of_dictCommand hc h
  · exact .trans (.of_frame (State.fresh_only 8 s (.refl _ s) rfl)) (exec_hushed_of_dictCommand rfl h)
  · exact commandWrite_hushed h
  · rw [← Host.Outcome.next.inj h]
    exact .answer 3 s

theorem State.writeSetting_hushed (i j v : Nat) (s : State) : Hushed s (s.writeSetting i j v) := by
  unfold State.writeSetting
  extract_lets k mark
  have marked (z : State) : Hushed z (mark z) := .of_fields rfl rfl rfl
  split
  · exact .of_fields rfl rfl rfl
  split
  · exact .trans (.of_frame (State.setSource_only _ _ s (.refl _ s) rfl)) (marked _)
  split
  · exact .trans (.of_fields rfl rfl rfl) (marked _)
  · exact .trans (.of_fields rfl rfl rfl) (marked _)

theorem State.writeSelector_hushed (i j v : Nat) (s : State) : Hushed s (s.writeSelector i j v) := by
  unfold State.writeSelector
  split <;> exact .of_fields rfl rfl rfl

theorem State.writeEntry_hushed (r : EntryRow) (i j v : Nat) (cycle : Fin 256) (s : State) :
    Hushed s (s.writeEntry r i j v cycle) := by
  unfold State.writeEntry
  split
  · exact .refl s
  · exact State.writeSetting_hushed i j v s
  · exact .of_fields rfl rfl rfl
  · exact State.writeSelector_hushed i j v s
  · cases h : s.commandItem i j v cycle with
    | next t => exact (State.commandItem_hushed h).settled
    | fault => exact .refl s
    | refused => exact .refl s

theorem State.writeItem_hushed (x : Session) (cycle : Fin 256) (i : AdpItem) (s : State) : Hushed s (s.writeItem x cycle i) := by
  unfold State.writeItem
  split
  · exact .refl s
  split
  · exact .refl s
  split
  · exact .of_frame (State.setSession_only _ _ s (.refl _ s) rfl)
  · exact State.writeEntry_hushed _ _ _ _ _ s

/-- From safe state the module comes to safe state or to the beginning of a cold start, and is silent. -/
def FromSafe (s t : State) : Prop := s.col.safe = true → t.SafeOrCold ∧ Silent s t

theorem StaysSilent.fromSafe {s t : State} (h : StaysSilent s t) : FromSafe s t :=
  fun hs => ⟨.inl (h hs).1, (h hs).2⟩

theorem StaysSilent.trans_fromSafe {s t u : State} (h : StaysSilent s t) (k : FromSafe t u) : FromSafe s u := by
  intro hs
  obtain ⟨ht, hst⟩ := h hs
  obtain ⟨hu, htu⟩ := k ht
  exact ⟨hu, hst.trans htu⟩

theorem guarded_fromSafe {c : Bool} {f : State → State} {s t : State} (hf : FromSafe s (f s)) (h : guarded c f s = .next t) :
    FromSafe s t := by
  rw [guarded_next h]
  split
  · exact hf
  · exact (StaysSilent.refl s).fromSafe

theorem Hushed.fromSafe {s t : State} (h : Hushed s t) : FromSafe s t := fun hs => h (.inl hs)

/-- A message of a session, whose action may end safe state by a cold start. -/
theorem State.adpMessage_fromSafe {hd : AdpHead} {f : Session → State → State} (hf : ∀ x z, FromSafe z (f x z)) (s : State) :
    FromSafe s (s.adpMessage hd f) :=
  State.adpMessage_silent_elim (fun _ h => h.fromSafe) (fun x z h => h.trans_fromSafe (hf x z))

/-- The items of a WRITE take effect in order; a cold start among them closes ADP to the later ones. -/
theorem execAdpWrite_fromSafe {hd : AdpHead} {items : List AdpItem} {cycle : Fin 256} {s t : State}
    (h : execAdpWrite hd items cycle s = .next t) : FromSafe s t := by
  unfold execAdpWrite at h
  split at h
  · rw [← Host.Outcome.next.inj h]
    exact (StaysSilent.refl s).fromSafe
  refine received_elim (P := FromSafe s) (StaysSilent.refl s).fromSafe (fun _ _ => ?_) h
  refine (State.arrived_staysSilent _ s).trans_fromSafe (State.adpMessage_fromSafe (fun x z => ?_) _)
  have responds (len : Nat) (body : List Nat) : StaysSilent z (z.respond hd x 0x11 len body) :=
    State.respond_staysSilent hd x 0x11 len body z
  have written (slots : List Nat) (y : State) : Hushed y ((y.each items (State.writeItem x cycle)).endThrough slots) :=
    .trans (each_inv Hushed Hushed.refl (fun _ _ _ => Hushed.trans) (fun i _ y => State.writeItem_hushed x cycle i y))
      (.of_frame (State.endThrough_only _ _ (.refl _ _) rfl))
  dsimp only
  split
  · exact (responds _ _).fromSafe
  split
  · exact (responds _ _).fromSafe
  split
  · exact (responds _ _).trans_fromSafe (written _ _).fromSafe
  · exact (responds _ _).fromSafe

theorem State.registerWrite_fromSafe (w : RegWrite) (cycle : Fin 256) (s : State) : FromSafe s (s.registerWrite w cycle) := by
  cases w with
  | entry i j v =>
    refine Hushed.fromSafe ?_
    unfold State.registerWrite
    dsimp only
    split
    · exact .answer 3 s
    split
    · exact .answer 3 s
    split
    · exact .answer 6 s
    split
    · exact .answer 4 s
    refine .trans ?_ (.answer _ _)
    split
    · exact State.writeEntry_hushed _ _ _ _ _ s
    · exact .refl s
  | host v reg =>
    intro hsafe
    simp only [State.registerWrite, not_running_of_safe hsafe]
    exact ⟨.inl hsafe, .refl s⟩
  | irqEnable k word value => exact (StaysSilent.of_frame (State.writeEnable_only _ _ _ s (.refl _ s) rfl)).fromSafe
  | config n v => exact (StaysSilent.of_frame (State.writeConfig_only _ _ s (.refl _ s) rfl)).fromSafe
  | status n v =>
    refine StaysSilent.fromSafe (.of_frame ?_)
    exact State.ifDo_only _ _ s (.refl _ s) rfl (fun z hz => State.clearSource_only _ z hz rfl)
  | force v => exact (StaysSilent.of_frame (State.raise_only _ s (.refl _ s) rfl)).fromSafe
  | ignored => exact (StaysSilent.refl s).fromSafe

theorem execAdpRead_staysSilent {hd : AdpHead} {items : List AdpItem} {s t : State}
    (h : execAdpRead hd items s = .next t) : StaysSilent s t := by
  unfold execAdpRead at h
  split at h
  · rw [← Host.Outcome.next.inj h]
    exact .refl s
  refine received_staysSilent (fun z => State.adpMessage_staysSilent (fun x y => ?_) z) h
  have responds (len : Nat) (body : List Nat) : StaysSilent y (y.respond hd x 0x10 len body) :=
    State.respond_staysSilent hd x 0x10 len body y
  dsimp only
  split
  · exact responds _ _
  split
  · exact responds _ _
  split
  · exact responds _ _
  · exact (responds _ _).trans (State.ifDo_parityCheck_staysSilent _ _)

theorem execAdpCommit_staysSilent {hd : AdpHead} {token : BitVec 32} {cycle : Fin 256} {s t : State}
    (h : execAdpCommit hd token cycle s = .next t) : StaysSilent s t := by
  refine received_staysSilent (fun z => State.request_staysSilent (fun x y => ?_) z) h
  intro hsafe
  rw [execCommitRequest, commandWrite_of_safe hsafe]
  split
  · exact ⟨hsafe, (Silent.answer 1 y).settled⟩
  · exact ⟨hsafe, (Silent.refl y).settled⟩

theorem execFeedLost_silent {k : Fin 2} {s t : State} (hsafe : s.col.safe = true) (h : execFeedLost k s = .next t) :
    (t.col.safe = true ∨ t.sup.gate = .off) ∧ Silent s t := by
  have h1 : StaysSilent s ((s.setFeed k (fun f => { f with present := false })).raise (112 + k)) :=
    .of_frame (State.raise_only _ _ (State.setFeed_only _ _ s (.refl _ s) rfl) rfl)
  obtain ⟨safe1, silent1⟩ := h1 hsafe
  rw [guarded_next h]
  split
  · dsimp only
    split
    · exact ⟨.inl safe1, silent1⟩
    split
    · exact ⟨.inl safe1, silent1.trans (.of_out rfl)⟩
    · rw [State.supervisorSafe_of_safe (by exact safe1)]
      exact ⟨.inr rfl, silent1.trans (.of_out rfl)⟩
  · exact ⟨.inl hsafe, .refl s⟩

theorem execHardShortTrip_silent {s t : State} (hsafe : s.col.safe = true) (h : execHardShortTrip s = .next t) :
    (t.col.safe = true ∨ t.sup.gate = .off) ∧ Silent s t := by
  rw [guarded_next h]
  split
  · exact ⟨.inr rfl, (State.trip_staysSilent 2 116 s hsafe).2.trans (.of_out rfl)⟩
  · exact ⟨.inl hsafe, .refl s⟩

/-! #### Every command -/

theorem exec_bistDone_of_safe {s : State} (h : s.col.safe = true) {a : List (Fin 40)} {b : List (Fin 64)} {l : List (Fin 16)} {cl : List (Fin 8)} {co : List (Fin 4)} {other : Bool} :
    exec (.bistDone a b l cl co other) s = .next s := by
  dsimp only [exec, execBistDone]
  exact guarded_of_not (not_inPhase_of_safe h .bist) _ _

theorem exec_calibrationDone_of_safe {s : State} (h : s.col.safe = true) {failed : List (Fin 328)} :
    exec (.calibrationDone failed) s = .next s := by
  dsimp only [exec, execCalibrationDone]
  exact guarded_of_not (not_inPhase_of_safe h .calibration) _ _

theorem exec_firmwareLoad_of_safe {s : State} (h : s.col.safe = true) :
    exec .firmwareLoad s = .next s := by
  dsimp only [exec, execFirmwareLoad]
  exact guarded_of_not (not_inPhase_of_safe h .firmware) _ _

theorem exec_configurationLoad_of_safe {s : State} (h : s.col.safe = true) :
    exec .configurationLoad s = .next s := by
  dsimp only [exec, execConfigurationLoad]
  exact guarded_of_not (not_inPhase_of_safe h .configuration) _ _

theorem exec_dataPathRelease_of_safe {s : State} (h : s.col.safe = true) {ms : BitVec 32} :
    exec (.dataPathRelease ms) s = .next s := by
  dsimp only [exec, execDataPathRelease]
  exact guarded_of_not (not_inPhase_of_safe h .release) _ _

theorem exec_warmStart_of_safe {s : State} (h : s.col.safe = true) {recordOk sramError repaired : Bool} :
    exec (.warmStart recordOk sramError repaired) s = .next s := by
  dsimp only [exec, execWarmStart]
  exact guarded_of_not (by rw [not_inPhase_of_safe h, Bool.false_and]) _ _

theorem exec_safe_of_untouched (c : Instr) (hc : (touches c).contains .safeState = false) {s t : State}
    (hs : s.col.safe = true) (h : exec c s = .next t) : t.col.safe = true :=
  (exec_same (p := .safeState) hc h).1.trans hs

theorem exec_silent_of_untouched (c : Instr) (hc : (touches c).contains .outputs = false) {s t : State}
    (h : exec c s = .next t) : Silent s t :=
  .of_out (exec_same (p := .outputs) hc h)

/-- Every command from a legal safe state: it stays, or power is lost, or a cold start begins. -/
theorem exec_keeps_safe {c : Instr} {s t : State} (hs : s.PowerLegal) (hsafe : s.col.safe = true) (h : exec c s = .next t) :
    t.col.safe = true ∨ t.sup.gate = .off ∨ t.start.phase = .cold := by
  have stays (k : StaysSilent s t) : t.col.safe = true ∨ t.sup.gate = .off ∨ t.start.phase = .cold := .inl (k hsafe).1
  have unmoved (k : exec c s = .next s) : t.col.safe = true ∨ t.sup.gate = .off ∨ t.start.phase = .cold := by
    rw [k] at h
    rw [← Host.Outcome.next.inj h]
    exact .inl hsafe
  have entry (hc : dictCommand c = true) : t.col.safe = true ∨ t.sup.gate = .off ∨ t.start.phase = .cold :=
    (exec_of_dictCommand_safe hc hsafe h).1.imp_right .inr
  cases c
  case beatBoundary => exact stays (guarded_staysSilent (State.boundary_staysSilent s) h)
  case sidebandLevelAccepted => exact stays (execSidebandLevelAccepted_staysSilent h)
  case modrstN =>
    rw [guarded_next (show execModrstN _ _ s = _ from h)]
    split
    · dsimp only
      split
      · exact .inr (.inr (State.coldStart_phase 1 _))
      · exact .inl hsafe
    · exact .inl hsafe
  case feedLost => exact (execFeedLost_silent hsafe h).1.imp_right .inl
  case busShutdown => exact stays (execBusShutdown_staysSilent h)
  case gateFullyOn =>
    refine unmoved ?_
    dsimp only [exec, execGateFullyOn]
    exact guarded_of_not (by simp [hs.gate_of_dieOn (hs.dieOn_of_safe hsafe)]) _ _
  case inrushTrip => exact stays (guarded_staysSilent (State.trip_staysSilent 3 117 s) h)
  case overcurrentTrip => exact stays (guarded_staysSilent (State.trip_staysSilent 1 115 s) h)
  case hardShortTrip => exact (execHardShortTrip_silent hsafe h).1.imp_right .inl
  case gateOffAfterTrip =>
    rw [guarded_next (show execGateOffAfterTrip s = _ from h)]
    split
    · exact .inr (.inl rfl)
    · exact .inl hsafe
  case standbyRequest => exact entry rfl
  case standbyWake frame =>
    refine unmoved ?_
    dsimp only [exec, execStandbyWake]
    exact guarded_of_not (by simp [hs.1.1 hsafe]) _ _
  case warmStartRequest => exact entry rfl
  case coldStartRequest => exact entry rfl
  case watchdogExpiry =>
    refine unmoved ?_
    dsimp only [exec, execWatchdogExpiry]
    exact guarded_of_not (by simp [hsafe]) _ _
  case bistDone => exact unmoved (exec_bistDone_of_safe hsafe)
  case coreCheckinTimeout =>
    refine stays (guarded_staysSilent (fun _ => ?_) h)
    rw [State.coreFail_of_safe _ hsafe]
    exact ⟨hsafe, .of_out rfl⟩
  case mgmtSramError => exact stays (execMgmtSramError_staysSilent h)
  case collectorScan =>
    refine stays (guarded_staysSilent (fun _ => ?_) h)
    rw [State.parityCheck_of_safe hsafe]
    exact ⟨hsafe, .refl s⟩
  case twinAlertPulsing =>
    exact unmoved (exec_of_not_running rfl rfl (not_running_of_safe hsafe))
  case restartRequest => exact unmoved (exec_of_not_running rfl rfl (not_running_of_safe hsafe))
  case adpRead => exact stays (execAdpRead_staysSilent h)
  case adpWrite => exact (execAdpWrite_fromSafe h hsafe).1.imp_right .inr
  case registerWrite => exact (guarded_fromSafe (State.registerWrite_fromSafe _ _ s) h hsafe).1.imp_right .inr
  all_goals exact .inl (exec_safe_of_untouched _ rfl hsafe h)

/-- Every command from safe state sends out nothing that leaves the module. -/
theorem exec_silent {c : Instr} {s t : State} (hsafe : s.col.safe = true) (h : exec c s = .next t) : Silent s t := by
  have idle := not_running_of_safe hsafe
  have stays (k : StaysSilent s t) : Silent s t := (k hsafe).2
  have unmoved (k : exec c s = .next s) : Silent s t := by
    rw [k] at h
    exact .of_out (congrArg State.out (Host.Outcome.next.inj h).symm)
  have zero {f : State → State} (hf : f s = s.answer 0) (k : guarded s.adpUp f s = .next t) : Silent s t :=
    (guarded_staysSilent (hf ▸ .answer 0 s) k hsafe).2
  by_cases he : commandEntry c = true
  · exact (exec_of_dictCommand_safe (by cases c <;> first | exact he | rfl) hsafe h).2
  rw [Bool.not_eq_true] at he
  by_cases ha : actsOutOfService c = false
  · exact unmoved (exec_of_not_running he ha idle)
  cases c
  case beatBoundary => exact stays (guarded_staysSilent (State.boundary_staysSilent s) h)
  case sidebandLevelAccepted => exact stays (execSidebandLevelAccepted_staysSilent h)
  case twinAlertInAsserted => exact stays (execTwinAlertInAsserted_staysSilent h)
  case feedLost => exact (execFeedLost_silent hsafe h).2
  case busShutdown => exact stays (execBusShutdown_staysSilent h)
  case inrushTrip => exact stays (guarded_staysSilent (State.trip_staysSilent 3 117 s) h)
  case overcurrentTrip => exact stays (guarded_staysSilent (State.trip_staysSilent 1 115 s) h)
  case hardShortTrip => exact (execHardShortTrip_silent hsafe h).2
  case warmStartRequest => exact (exec_of_dictCommand_safe rfl hsafe h).2
  case coldStartRequest => exact (exec_of_dictCommand_safe rfl hsafe h).2
  case bistDone => exact unmoved (exec_bistDone_of_safe hsafe)
  case calibrationDone => exact unmoved (exec_calibrationDone_of_safe hsafe)
  case firmwareLoad => exact unmoved (exec_firmwareLoad_of_safe hsafe)
  case configurationLoad => exact unmoved (exec_configurationLoad_of_safe hsafe)
  case dataPathRelease => exact unmoved (exec_dataPathRelease_of_safe hsafe)
  case warmStart => exact unmoved (exec_warmStart_of_safe hsafe)
  case imageBlockWrite => exact (exec_of_dictCommand_safe rfl hsafe h).2
  case imageVerify => exact (exec_of_dictCommand_safe rfl hsafe h).2
  case coreCheckinTimeout =>
    refine stays (guarded_staysSilent (fun _ => ?_) h)
    rw [State.coreFail_of_safe _ hsafe]
    exact ⟨hsafe, .of_out rfl⟩
  case mgmtSramError => exact stays (execMgmtSramError_staysSilent h)
  case claim => exact stays (execClaim_staysSilent h)
  case complete => exact stays (execComplete_staysSilent h)
  case stickyClear => exact (exec_of_dictCommand_safe rfl hsafe h).2
  case collectorScan =>
    refine stays (guarded_staysSilent (fun _ => ?_) h)
    rw [State.parityCheck_of_safe hsafe]
    exact ⟨hsafe, .refl s⟩
  case hello => exact stays (execHello_staysSilent h)
  case chain => exact stays (execChain_staysSilent h)
  case finish => exact stays (execFinish_staysSilent h)
  case close =>
    refine stays (received_staysSilent (fun z => State.adpMessage_staysSilent (fun x y => ?_) z) h)
    exact .of_frame (State.endSession_only _ y (.refl _ y) rfl)
  case adpRead => exact stays (execAdpRead_staysSilent h)
  case adpWrite => exact (execAdpWrite_fromSafe h hsafe).2
  case adpCommit => exact stays (execAdpCommit_staysSilent h)
  case subscribe =>
    refine stays (received_staysSilent (fun z => State.request_staysSilent (fun x y => ?_) z) h)
    exact .of_frame (State.setSession_only _ _ y (.refl _ y) rfl)
  case nop => exact stays (received_staysSilent (fun z => State.request_staysSilent (fun x y => .refl y) z) h)
  case registerWrite => exact (guarded_fromSafe (State.registerWrite_fromSafe _ _ s) h hsafe).2
  case shadowDiscard one => cases one; exacts [zero rfl h, absurd he nofun]
  case attachRequest one => cases one; exacts [zero rfl h, absurd he nofun]
  case detachRequest one => cases one; exacts [zero rfl h, absurd he nofun]
  case serveAlone one => cases one; exacts [zero rfl h, absurd he nofun]
  all_goals first
    | exact exec_silent_of_untouched _ rfl h
    | exact absurd rfl ha

/-- Settles O58: the commands that touch safe state are those of power, starts and the collector; each keeps it, takes the power
away or begins a cold start. -/
theorem safeStateIsLeftByAStart : Obligations.SafeStateIsLeftByAStart := by
  unfold Obligations.SafeStateIsLeftByAStart
  exact fun c s t => exec_keeps_safe

/-- Settles O59: the service does nothing in safe state, and what acts there answers, or sends messages of ADP. -/
theorem safeStateIsSilent : Obligations.SafeStateIsSilent := by
  unfold Obligations.SafeStateIsSilent
  exact fun c s t => exec_silent

end Sys2Proof.Machine

/-!
### A due commit, and the drain of epochs (R31 to R33, R36, R37, R686)

What a commit does before and after the swap of the tables leaves the epoch unit alone but for the in-flight counts, so its
record of the commit can be read off from the swap.
-/

namespace Sys2Proof.Machine

/-- An operation that leaves the epochs, the commit and the tables alone changes the epoch unit's in-flight counts at most. -/
theorem OnlyChanges.ep_but_inflight {s t : State} (F : OnlyChanges (but [.beat, .epochs, .commit, .tables]) s t) :
    t.ep = { s.ep with inflight := t.ep.inflight } := by
  have h1 := F .beat (by decide)
  have h2 := F .epochs (by decide)
  have h3 := F .commit (by decide)
  have h4 := F .tables (by decide)
  simp only [Part.same] at h1 h2 h3 h4
  cases e : t.ep; cases e' : s.ep; simp_all

/-- The epoch unit after a commit that takes effect: the tables are swapped, and no commit waits (R31). -/
theorem State.applyCommit_ep (s : State) :
    s.applyCommit.ep = { s.swapTables.ep with commit := .idle, inflight := s.applyCommit.ep.inflight } := by
  have key : ∃ n, s.applyCommit.ep = { s.swapTables.ep with commit := .idle, inflight := n } := by
    unfold State.applyCommit
    extract_lets t u ks s1 s2 s3 s4 s5 _ _ s6
    have before : OnlyChanges (but [.beat, .epochs, .commit, .tables]) s ((s.commitUnbind u).commitPortsDown u) :=
      State.commitPortsDown_only _ _ (State.commitUnbind_only _ _ (.refl _ s) rfl) rfl
    have h1 : s1.ep = { s.swapTables.ep with inflight := s1.ep.inflight } := by
      show EpochUnit.mk .. = _
      rw [before.ep_but_inflight]
      rfl
    have h2 : OnlyChanges (but [.beat, .epochs, .commit, .tables]) s1 s2 := by
      refine State.bucketChecks_only _ _ (State.commitPortsUp_only _ _ ?_ rfl) rfl
      refine State.each_only _ _ _ ?_ (fun n z hz => State.joinPerst_only n z hz rfl)
      exact State.each_only _ _ _ (.refl _ s1) (fun n z hz => State.commitGroup_only _ n z hz rfl)
    have h3 : OnlyChanges (but [.beat, .epochs, .commit, .tables]) s1 s3 :=
      State.commitChannels_only _ _ (State.commitWindows_only _ _ (State.commitBind_only _ _
        (State.commitDevices_only _ _ h2 rfl) rfl) rfl) rfl
    have h4 : OnlyChanges (but [.beat, .epochs, .commit, .tables]) s1 s4 :=
      State.commitTenants_only _ _ (State.commitExtents_only _ _ h3 rfl) rfl
    have h5 : OnlyChanges (but [.beat, .epochs, .commit, .tables]) s1 s5 :=
      State.writeChecks_only _ _ (State.each_only _ _ _ h4 (fun k z hz => State.mirror_only _ _ _ _ hz rfl)) rfl
    have h6 : s6.ep = s5.ep := rfl
    have h7 : OnlyChanges (but [.beat, .epochs, .commit, .tables]) s6 s6.refuseWaiting :=
      State.refuseWaiting_only _ (.refl _ s6) rfl
    refine ⟨s6.refuseWaiting.ep.inflight, ?_⟩
    rw [State.setCommit_ep, h7.ep_but_inflight, h6, h5.ep_but_inflight, h1]
  obtain ⟨n, h⟩ := key
  rw [h]

theorem State.rejectCommit_ep (cs : List (Nat × Nat)) (s : State) : (s.rejectCommit cs).ep = { s.ep with commit := .rejected } := by
  unfold State.rejectCommit
  rw [State.setCommit_ep]
  split
  · rw [(State.writeChecks_only cs s (.refl (but [.beat, .epochs, .inflight, .commit, .tables]) s) rfl).ep]
  · rfl

/-- A pending commit that finds no room is deferred, and counted (R32). -/
theorem State.deferCommit_ep {s : State} (hc : s.ep.commit ≠ .deferred) :
    (s.deferCommit false).ep = { s.ep with commit := .deferred, deferrals := s.ep.deferrals + 1 } := by
  unfold State.deferCommit
  simp only [Bool.false_eq_true, if_false, hc, State.setCommit_ep]

/-- The attempt at a commit, where fewer than three epochs are live and its records fit. -/
theorem State.tryCommit_of_room {s : State} (hlen : s.ep.superseded.length < 2) (hw : s.commitWaits = false) :
    s.tryCommit = if 16384 < s.stagedCount ∨ (s.checkEntries s.ep.shadow).any (fun c => decide (c.2 ≠ 0)) then
      s.rejectCommit (s.checkEntries s.ep.shadow) else s.applyCommit := by
  rw [State.tryCommit, if_neg (by omega), if_neg (by simp [hw])]

theorem exec_commitDue {s : State} (hr : s.running = true) (hp : s.ep.commit = .pending) (hd : s.ep.due ≤ s.ep.beat) :
    exec .commitDue s = .next s.tryCommit :=
  guarded_of (c := s.running && s.commitDue) (by simp [hr, State.commitDue, hp, hd]) _ _

theorem exec_deferredCommitApplied {s : State} (hr : s.running = true) (hd : s.ep.commit = .deferred)
    (hlen : s.ep.superseded.length < 2) : exec .deferredCommitApplied s = .next s.tryCommit :=
  guarded_of (c := s.running && s.deferredReady) (by simp [hr, State.deferredReady, hd, hlen]) _ _

/-- A commit that may be tried is tried by the command of its state. -/
theorem exec_tryCommit {s : State} (hr : s.running = true)
    (hc : s.ep.commit = .pending ∧ s.ep.due ≤ s.ep.beat ∨ s.ep.commit = .deferred) (hlen : s.ep.superseded.length < 2) :
    (s.ep.commit = .pending → exec .commitDue s = .next s.tryCommit) ∧
    (s.ep.commit = .deferred → exec .deferredCommitApplied s = .next s.tryCommit) := by
  refine ⟨fun hp => ?_, fun hd => exec_deferredCommitApplied hr hd hlen⟩
  rcases hc with ⟨-, hdue⟩ | hd
  · exact exec_commitDue hr hp hdue
  · simp [hp] at hd

/-- Settles O2, a clause for each way in which the attempt at a commit can end. -/
theorem commitTakesEffect : Obligations.CommitTakesEffect := by
  unfold Obligations.CommitTakesEffect
  refine ⟨?applied, ?rejected, ?deferred⟩
  case applied =>
    intro s hr hc hlen hw hcount hchecks
    have hpass : ¬ (16384 < s.stagedCount ∨ (s.checkEntries s.ep.shadow).any (fun c => decide (c.2 ≠ 0)) = true) := by
      simpa using ⟨hcount, fun a b h => hchecks (a, b) h⟩
    obtain ⟨hpending, hdeferred⟩ := exec_tryCommit hr hc hlen
    rw [State.tryCommit_of_room hlen hw, if_neg hpass] at hpending hdeferred
    refine ⟨s.applyCommit, hpending, hdeferred, ?_⟩
    rw [State.applyCommit_ep]
    exact ⟨rfl, rfl, rfl, rfl, rfl, rfl, rfl, rfl, rfl, rfl⟩
  case rejected =>
    intro s hr hc hlen hw hfail
    have hfail' : 16384 < s.stagedCount ∨ (s.checkEntries s.ep.shadow).any (fun c => decide (c.2 ≠ 0)) = true := by
      refine hfail.imp_right (fun ⟨c, hc, hne⟩ => ?_)
      exact List.any_eq_true.2 ⟨c, hc, by simpa using hne⟩
    obtain ⟨hpending, hdeferred⟩ := exec_tryCommit hr hc hlen
    rw [State.tryCommit_of_room hlen hw, if_pos hfail'] at hpending hdeferred
    refine ⟨_, hpending, hdeferred, State.rejectCommit_ep _ s, fun hzero => ?_⟩
    rw [State.rejectCommit, if_neg]
    simpa using fun a b h => hzero (a, b) h
  case deferred =>
    intro s hr hp hd hlen
    refine ⟨s.deferCommit false, ?_, State.deferCommit_ep (by simp [hp])⟩
    rw [exec_commitDue hr hp hd, State.tryCommit, if_pos hlen]

/-! #### The drain -/

theorem each_raise_ep (n k : Nat) (s : State) : (s.each (List.range n) (fun _ s => s.raise k)).ep = s.ep :=
  (State.each_only _ _ s (.refl (but [.beat, .epochs, .inflight, .commit, .tables]) s) (fun _ z hz => State.raise_only k z hz rfl)).ep

/-- Events of one source, one after another. -/
theorem each_raise_source {α : Type} (l : List α) (k : Nat) (s : State) :
    ((s.each l (fun _ s => s.raise k)).source k).newEvents = (s.source k).newEvents + l.length ∧
    ∀ n, n ≠ k → (s.each l (fun _ s => s.raise k)).source n = s.source n := by
  induction l generalizing s with
  | nil => exact ⟨rfl, fun _ _ => rfl⟩
  | cons a l ih =>
    obtain ⟨hk, hother⟩ := ih (s.raise k)
    rw [State.each_cons]
    refine ⟨?_, fun n hn => ?_⟩
    · have hhead : ((s.raise k).source k).newEvents = (s.source k).newEvents + 1 := by simp
      rw [hk, hhead, List.length_cons]
      omega
    · rw [hother n hn, State.raise_source, if_neg hn]

/-- Settles O3: the epochs of a drained tag are released, and a late one is marked as it raises source 16. -/
theorem drainOfEpochs : Obligations.DrainOfEpochs := by
  unfold Obligations.DrainOfEpochs
  refine ⟨?released, ?overrun⟩
  case released =>
    intro tag s hr hz
    dsimp only [exec, execEpochRelease]
    exact guarded_of (by simp [hr, hz]) _ _
  case overrun =>
    intro s hr
    refine ⟨s.drainCheck, guarded_of hr _ _, ?_⟩
    unfold State.drainCheck
    extract_lets late n ep
    refine ⟨?_, (each_raise_source _ 16 _).1.trans ?_, (each_raise_source _ 16 _).2⟩
    · rw [each_raise_ep]
      have same : ∀ e : SupEpoch, (if late e then { e with overrun := true } else e) =
          if e.stopped + 64 ≤ s.ep.beat then { e with overrun := true } else e := by
        intro e
        obtain ⟨count, stopped, overrun, tables⟩ := e
        cases overrun <;> simp [late]
      simp only [same, ep]
    · rw [List.length_range]
      rfl

end Sys2Proof.Machine

/-!
### The power entry (chapter 03)

The commands of the supervisor act on the supervisor's own record; a trip and a shutdown also enter safe state, which changes the
power state and the release pattern of that record, and nothing else in it.
-/

namespace Sys2Proof.Machine

theorem State.supervisorSafe_sup (s : State) :
    ∃ st pf, s.supervisorSafe.sup = { s.sup with state := st, patternFrom := pf } := by
  unfold State.supervisorSafe
  rw [ifDo]
  split
  · rw [(enterSafe_sup 3 0 s).1]
    split
    · exact ⟨_, _, rfl⟩
    · exact ⟨_, _, rfl⟩
  · exact ⟨_, _, rfl⟩

theorem State.supervisorSafe_enters {s : State} (h : s.dieOn = true ∨ s.sup.state = .standby) :
    s.supervisorSafe.col.safe = true := by
  unfold State.supervisorSafe
  rw [ifDo, if_pos (by simpa using h)]
  exact (enterSafe_sup 3 0 s).2

/-- What a trip leaves in the supervisor (R84, R87): the gate is to turn off, and a retry count of 5 latches it. -/
theorem State.trip_sup (cause src : Nat) (s : State) :
    (s.trip cause src).sup.pgOut = false ∧ (s.trip cause src).sup.timer = false ∧ (s.trip cause src).sup.gateOffOwed = true ∧
    (s.trip cause src).sup.gate = s.sup.gate ∧ (s.trip cause src).sup.trips = s.sup.trips + 1 ∧
    (s.trip cause src).sup.lastTrip = cause ∧
    (s.trip cause src).sup.latched = (s.sup.latched || decide (s.sup.retryCount = 5)) ∧ (s.trip cause src).sup.tripped = true := by
  unfold State.trip
  extract_lets latch s1 s2
  obtain ⟨st, pf, h⟩ := s2.supervisorSafe_sup
  rw [h]
  by_cases hl : latch = true
  · have e : s2 = s1.setSup (fun u => ({ u with latched := true, recLatched := true, recRelease := 0 } : Supervisor).record 118) :=
      if_pos hl
    rw [e]
    have hcount : s.sup.retryCount = 5 := by simp only [latch, Bool.and_eq_true, decide_eq_true_eq] at hl; exact hl.1
    exact ⟨rfl, rfl, rfl, rfl, rfl, rfl, by simp [State.setSup, Supervisor.record, hcount], rfl⟩
  · have e : s2 = s1 := if_neg hl
    rw [e]
    have hlatched : s.sup.latched = (s.sup.latched || decide (s.sup.retryCount = 5)) := by
      simp only [latch, Bool.and_eq_true, decide_eq_true_eq, Bool.not_eq_true', not_and, Bool.not_eq_false] at hl
      by_cases hc : s.sup.retryCount = 5
      · simp [hl hc]
      · simp [hc]
    exact ⟨rfl, rfl, rfl, rfl, rfl, rfl, hlatched, rfl⟩

/-- A trip enters safe state while the die, or in standby Sprout, has power (R84). -/
theorem State.trip_enters {s : State} (cause src : Nat) (h : s.dieOn = true ∨ s.sup.state = .standby) :
    (s.trip cause src).col.safe = true := by
  unfold State.trip
  extract_lets latch s1 s2
  refine State.supervisorSafe_enters ?_
  have e : s2.sup.state = s.sup.state := by
    unfold s2
    split <;> rfl
  simpa only [State.dieOn, e] using h

theorem State.tripEnd_sup (s : State) :
    s.tripEnd.sup.gate = .off ∧ s.tripEnd.sup.pgOut = false ∧ s.tripEnd.sup.gateOffOwed = false ∧ s.tripEnd.sup.tripped = false ∧
    s.tripEnd.sup.latched = s.sup.latched ∧ s.tripEnd.sup.coolDown = (s.sup.tripped && !s.sup.latched) ∧
    s.tripEnd.sup.trips = s.sup.trips ∧ s.tripEnd.sup.lastTrip = s.sup.lastTrip ∧ s.tripEnd.sup.retryCount = s.sup.retryCount ∧
    s.tripEnd.sup.state = (if s.sup.latched then .latchedOff else if s.sup.tripped then .coolDown else .shutdown) ∧
    s.tripEnd.sup.fed = s.sup.fed ∧ s.tripEnd.sup.fedLong = s.sup.fedLong :=
  ⟨rfl, rfl, rfl, rfl, rfl, rfl, rfl, rfl, rfl, rfl, rfl, rfl⟩

theorem State.tripEnd_dieOn (s : State) : s.tripEnd.dieOn = false := by
  unfold State.dieOn
  rw [show s.tripEnd.sup.state = if s.sup.latched then .latchedOff else if s.sup.tripped then .coolDown else .shutdown from rfl]
  cases s.sup.latched <;> cases s.sup.tripped <;> rfl

/-! #### The feeds -/

theorem State.setFeed_feed (k : Fin 2) (f : Feed → Feed) (s : State) : (s.setFeed k f).feed k = f (s.feed k) := by
  fin_cases k <;> rfl

/-- After the loss of a feed the bus is fed where the other feed is present. -/
theorem fed_of_lost (k : Fin 2) (s : State) :
    ((s.setFeed k (fun f => { f with present := false })).raise (112 + k)).sup.fed = (s.feed (1 - (k : Nat))).present := by
  fin_cases k
  · exact Bool.false_or _
  · exact Bool.or_false _

/-- A command that is performed, and what holds after it. -/
theorem guarded_intro {c : Bool} {f : State → State} {s : State} {P : State → Prop} (h : c = true) (hp : P (f s)) :
    ∃ t, guarded c f s = .next t ∧ P t :=
  ⟨f s, guarded_of h f s, hp⟩

theorem execFeedLost_next {k : Fin 2} {s : State} (h : (s.feed k).present = true) {s1 : State}
    (e : s1 = (s.setFeed k (fun f => { f with present := false })).raise (112 + k)) :
    exec (.feedLost k) s = .next (if s1.sup.fed then s1
      else if s1.sup.gate = .off then s1.setSup (fun u => { u with fedLong := false })
      else (s1.setSup (fun u => { u with fedLong := false })).supervisorSafe.tripEnd) := by
  subst e
  dsimp only [exec, execFeedLost]
  exact guarded_of h _ s

/-- Settles O8: a feed that is left keeps the bus, and the loss of the last one ends as a trip does. -/
theorem feedsAndTheirFets : Obligations.FeedsAndTheirFets := by
  unfold Obligations.FeedsAndTheirFets
  refine ⟨?rises, ?oneLeft, ?gateOff, ?lastLost, ?reverse, ?again⟩
  case rises =>
    intro k s h
    dsimp only [exec, execFeedPresent]
    refine guarded_intro (by simp [h]) ?_
    fin_cases k <;> split <;> exact ⟨rfl, rfl, rfl, rfl, rfl, rfl, rfl, rfl, rfl, rfl⟩
  case oneLeft =>
    intro k s h hother
    rw [execFeedLost_next h rfl, fed_of_lost, if_pos hother]
  case gateOff =>
    intro k s h hother hgate
    rw [execFeedLost_next h rfl, fed_of_lost, if_neg (by simp [hother]), if_pos]
    fin_cases k <;> exact hgate
  case lastLost =>
    intro k s h hother hgate
    rw [execFeedLost_next h rfl, fed_of_lost, if_neg (by simp [hother]), if_neg]
    · have hfed := fed_of_lost k s
      rw [hother] at hfed
      generalize hs1 : (s.setFeed k (fun f => { f with present := false })).raise (112 + k) = s1 at hfed ⊢
      have hkept : s1.sup.trips = s.sup.trips ∧ s1.sup.retryCount = s.sup.retryCount ∧ s1.sup.latched = s.sup.latched ∧
          s1.sup.tripped = s.sup.tripped := by
        subst hs1
        fin_cases k <;> exact ⟨rfl, rfl, rfl, rfl⟩
      obtain ⟨st, pf, e⟩ := (s1.setSup (fun u => { u with fedLong := false })).supervisorSafe_sup
      refine ⟨_, rfl, ?_⟩
      generalize (s1.setSup (fun u => { u with fedLong := false })).supervisorSafe = s3 at e ⊢
      obtain ⟨hgate', hpg, howed, -, hlatched, hcool, htrips, -, hcount, -, hfed', hlong⟩ := s3.tripEnd_sup
      obtain ⟨ktrips, kcount, klatched, ktripped⟩ := hkept
      refine ⟨?_, ?_, hgate', hpg, howed, ?_, ?_, ?_, ?_, s3.tripEnd_dieOn⟩
      · rw [hfed', e]; exact hfed
      · rw [hlong, e]; rfl
      · rw [htrips, e]; exact ktrips
      · rw [hcount, e]; exact kcount
      · rw [hlatched, e]; exact klatched
      · rw [hcool, e, ← ktripped, ← klatched]; rfl
    · fin_cases k <;> exact hgate
  case reverse => exact fun k s h => guarded_of h _ s
  case again => exact fun k s h => guarded_of (c := !(s.feed k).conducting) (by simp [h]) _ s

/-! #### The gate -/

theorem dieOn_or_standby_of_powered {s : State} (h : s.dieOn = true ∨ s.sup.state = .standby) : s.sup.state ≠ .unpowered := by
  intro hu
  simp [State.dieOn, hu] at h

/-- A bus shutdown is recorded, and is no trip (R77). -/
theorem execBusShutdown_next (overVolt : Bool) {s : State} (hret : s.sup.retained = true) (hshut : s.sup.shutdown = false) :
    exec (.busShutdown overVolt) s = .next (State.supervisorSafe (s.setSup (fun u => ({ u with
      pgOut := false, shutdown := true, fedLong := false, gateOffOwed := u.gateOffOwed || decide (u.gate ≠ .off)
      state := if u.state = .unpowered then .shutdown else u.state, lastTrip := if overVolt then 5 else 4 } : Supervisor).record 114))) := by
  dsimp only [exec, execBusShutdown]
  exact guarded_of (by simp [hret, hshut]) _ s

/-- Settles O9: each command acts on the supervisor's record, and a trip or a shutdown enters safe state besides. -/
theorem gateRampTripsAndShutdown : Obligations.GateRampTripsAndShutdown := by
  unfold Obligations.GateRampTripsAndShutdown
  refine ⟨?ramps, ?barred, ?fullyOn, ?timerStart, ?timerIdle, ?pgOut, ?inrush, ?overcurrent, ?hardShort, ?gateOff, ?shutdown⟩
  case ramps =>
    intro s hoff hfed hlatched hcool
    dsimp only [exec, execGateTurnOn]
    refine (guarded_of (by simp [hoff, hfed]) _ s).trans ?_
    exact congrArg Host.Outcome.next (if_neg (by simp [hlatched, hcool]))
  case barred =>
    intro s hoff hfed hbar
    dsimp only [exec, execGateTurnOn]
    refine (guarded_of (by simp [hoff, hfed]) _ s).trans ?_
    exact congrArg Host.Outcome.next (if_pos (by simpa using hbar))
  case fullyOn =>
    intro s hramp howed
    dsimp only [exec, execGateFullyOn]
    exact guarded_of (by simp [hramp, howed]) _ s
  case timerStart =>
    intro s hon htimer howed
    dsimp only [exec, execFaultTimerStart]
    exact guarded_of (by simp [hon, htimer, howed]) _ s
  case timerIdle => exact fun s h => guarded_of h _ s
  case pgOut =>
    intro s hon htimer hpg howed
    dsimp only [exec, execPgOutRise]
    exact guarded_of (by simp [hon, htimer, hpg, howed]) _ s
  case inrush =>
    intro s hramp howed
    dsimp only [exec, execInrushTrip]
    refine guarded_intro (by simp [hramp, howed]) ?_
    obtain ⟨hpg, htimer, hoff, hgate, htrips, hlast, hlatched, -⟩ := s.trip_sup 3 117
    exact ⟨hpg, htimer, hoff, hgate.trans hramp, htrips, hlast, hlatched, fun hd => State.trip_enters 3 117 (.inl hd)⟩
  case overcurrent =>
    intro s hon htimer howed
    dsimp only [exec, execOvercurrentTrip]
    refine guarded_intro (by simp [hon, htimer, howed]) ?_
    obtain ⟨hpg, htimer, hoff, hgate, htrips, hlast, hlatched, -⟩ := s.trip_sup 1 115
    exact ⟨hpg, htimer, hoff, hgate.trans hon, htrips, hlast, hlatched, State.trip_enters 1 115⟩
  case hardShort =>
    intro s hon
    dsimp only [exec, execHardShortTrip]
    refine guarded_intro (by simpa using hon) ?_
    obtain ⟨-, -, -, -, htrips, hlast, hlatched, htripped⟩ := s.trip_sup 2 116
    obtain ⟨hgate, hpg, hoff, -, klatched, kcool, ktrips, klast, -⟩ := (s.trip 2 116).tripEnd_sup
    refine ⟨hgate, hpg, hoff, klast.trans hlast, ktrips.trans htrips, klatched.trans hlatched, ?_, State.tripEnd_dieOn _⟩
    rw [kcool, klatched, htripped, Bool.true_and]
  case gateOff =>
    intro s howed
    dsimp only [exec, execGateOffAfterTrip]
    refine guarded_intro howed ?_
    obtain ⟨hgate, -, hoff, htripped, hlatched, hcool, -, -, -, hstate, -⟩ := s.tripEnd_sup
    exact ⟨hgate, hoff, htripped, hlatched, hcool, hstate, s.tripEnd_dieOn⟩
  case shutdown =>
    intro overVolt s hret hshut
    refine ⟨_, execBusShutdown_next overVolt hret hshut, ?_⟩
    generalize hs1 : s.setSup _ = s1
    obtain ⟨st, pf, e⟩ := s1.supervisorSafe_sup
    have enters (h : s.dieOn = true ∨ s.sup.state = .standby) : s1.supervisorSafe.col.safe = true := by
      refine State.supervisorSafe_enters ?_
      have hstate : s1.sup.state = s.sup.state := by
        rw [← hs1]
        exact if_neg (dieOn_or_standby_of_powered h)
      simpa only [State.dieOn, hstate] using h
    rw [e]
    refine ⟨?_, ?_, ?_, ?_, ?_, ?_, ?_, ?_, ?_, ?_, ?_, enters⟩ <;> rw [← hs1]
    case refine_11 => simp [State.setSup, Supervisor.record]
    all_goals rfl

/-! #### Retries and the latch -/

/-- Settles O10: each command acts on the supervisor's record. -/
theorem retryLatchAndRelease : Obligations.RetryLatchAndRelease := by
  unfold Obligations.RetryLatchAndRelease
  refine ⟨?retry, ?waits, ?countClear, ?cleared, ?pattern, ?refused, ?released, ?releasedWaits, ?recordClear⟩
  case retry =>
    intro s hcool hlong
    dsimp only [exec, execAutomaticRetry]
    exact (guarded_of hcool _ s).trans (congrArg Host.Outcome.next (if_pos hlong))
  case waits =>
    intro s hcool hlong
    dsimp only [exec, execAutomaticRetry]
    exact (guarded_of hcool _ s).trans (congrArg Host.Outcome.next (if_neg (by simp [hlong])))
  case countClear => exact fun s h => guarded_of h _ s
  case cleared =>
    intro s hfed hret hoff
    dsimp only [exec, execRetainedStateCleared]
    exact guarded_intro (by simp [hfed, hret, hoff]) ⟨rfl, rfl, rfl, rfl, rfl, rfl, rfl, hoff⟩
  case pattern =>
    intro s ho hbeats hprsnt
    dsimp only [exec, execTwinRelease]
    exact (commandWrite_open ho _).trans (congrArg Host.Outcome.next (if_neg (by simp [hbeats, hprsnt])))
  case refused =>
    intro s ho h
    dsimp only [exec, execTwinRelease]
    exact (commandWrite_open ho _).trans (congrArg Host.Outcome.next (if_pos (by simpa using h)))
  case released =>
    intro s hlatched hoff hfed hlong
    dsimp only [exec, execReleasePatternAccepted]
    exact (guarded_of (by simp [hlatched, hoff, hfed]) _ s).trans (congrArg Host.Outcome.next (if_pos hlong))
  case releasedWaits =>
    intro s hlatched hoff hfed hlong
    dsimp only [exec, execReleasePatternAccepted]
    exact (guarded_of (by simp [hlatched, hoff, hfed]) _ s).trans (congrArg Host.Outcome.next (if_neg (by simp [hlong])))
  case recordClear =>
    intro s ho
    dsimp only [exec, execLatchRecordClear]
    exact commandWrite_open ho _

end Sys2Proof.Machine

/-!
### Starts (chapter 04) and standby (chapter 16)

A cold or a warm start is the die cleared, with a start unit and a collector of its own; what it leaves of the module can be read
off from that.
-/

namespace Sys2Proof.Machine

/-- What a change of every row of a table makes of a row, by what it makes of the old row there. -/
theorem look_map_of {α β : Type} (t : Tbl α) (f : Nat × α → α) (p q : α → β) (d : α) (hd : p d = q d) (hf : ∀ e, p (f e) = q e.2)
    (k : Nat) : p (Tbl.look (t.map (fun e => (e.1, f e))) k d) = q (t.look k d) := by
  induction t with
  | nil => exact hd
  | cons e r ih =>
    obtain ⟨j, x⟩ := e
    simp only [List.map_cons, Tbl.look]
    split
    · exact hf _
    · exact ih

theorem State.coldStart_eq (cause : Nat) (s : State) : ∃ c : Collector, c.safe = false ∧ s.coldStart cause =
    { s.clearDie with
      start := { s.clearDie.start with
        state := .sprout, kind := 0, cause := cause, phase := .cold, counted := false, starts := s.clearDie.start.starts + 1
        recValid := false, recWriting := false, recMark := false }
      col := c } := by
  obtain ⟨c, h, hc⟩ := takeRecord_eq s.col ({ s.clearDie with start := { s.clearDie.start with
    state := .sprout, kind := 0, cause := cause, phase := .cold, counted := false, starts := s.clearDie.start.starts + 1
    recValid := false, recWriting := false, recMark := false } })
  exact ⟨c, hc, h⟩

/-- What a warm start makes of the start unit. -/
def StartUnit.warm (cause : Nat) (u : StartUnit) : StartUnit := { u with
  state := .sprout, kind := 1, cause := cause, phase := .warm, counted := false, starts := u.starts + 1
  recValid := u.recValid && !u.recMark, recWriting := (u.recWriting || u.recMark) && decide (cause ≠ 4), recMark := false }

theorem State.warmStart_eq (cause : Nat) (s : State) : ∃ c : Collector, c.safe = false ∧ s.warmStart cause =
    { s.warmClear with
      ep := { live := s.ep.live, shadow := s.ep.live }
      settings := s.settings, settingsNext := s.settingsNext, settingsStart := s.settingsStart
      start := s.warmClear.start.warm cause
      col := c } := by
  obtain ⟨c, h, hc⟩ := takeRecord_eq s.col ({ s.warmClear with
      ep := { live := s.ep.live, shadow := s.ep.live }
      settings := s.settings, settingsNext := s.settingsNext, settingsStart := s.settingsStart
      start := s.warmClear.start.warm cause })
  exact ⟨c, hc, h⟩

/-- What the cleared die keeps of a group: the levels at its pins. -/
def GroupSide.pins (g : GroupSide) : GroupSide :=
  { perst := g.perst, clkreqPartner := g.clkreqPartner, wake := g.wake, prsnt := g.prsnt }

theorem State.clearDie_groups (s : State) : s.clearDie.groups = s.groups.map (fun e => (e.1, e.2.pins)) := rfl

/-- The cleared die drives no pin. -/
theorem State.clearDie_group (s : State) (n : Nat) :
    (s.clearDie.group n).driven = none ∧ (s.clearDie.group n).perst = (s.group n).perst := by
  refine ⟨?_, ?_⟩
  · exact look_map_of s.groups (fun e => e.2.pins) GroupSide.driven (fun _ => none) {} rfl (fun _ => rfl) n
  · exact look_map_of s.groups (fun e => e.2.pins) GroupSide.perst GroupSide.perst {} rfl (fun _ => rfl) n

/-- What a warm start and standby keep of the driven pins (R52, R115). -/
theorem State.warmClear_group (s : State) (n : Nat) :
    (s.warmClear.group n).driven = (s.group n).driven ∧ (s.warmClear.group n).holdUntil = (s.group n).holdUntil - s.ep.beat := by
  let warm (e : Nat × GroupSide) : GroupSide := GroupSide.warm s.ep.beat e.2 (s.clearDie.groups.look e.1 {})
  refine ⟨?_, ?_⟩
  · exact look_map_of s.groups warm GroupSide.driven GroupSide.driven {} rfl (fun _ => rfl) n
  · exact look_map_of s.groups warm GroupSide.holdUntil (fun g => g.holdUntil - s.ep.beat) {} (Nat.zero_sub _).symm (fun _ => rfl) n

/-- Settles O12: both starts clear the die, and a warm start puts back what it keeps. -/
theorem startsClearTheDie : Obligations.StartsClearTheDie := by
  unfold Obligations.StartsClearTheDie
  refine ⟨fun cause s => ?_, fun cause s => ?_⟩
  · obtain ⟨c, hsafe, h⟩ := State.coldStart_eq cause s
    rw [h]
    exact ⟨rfl, rfl, rfl, rfl, rfl, rfl, rfl, hsafe, rfl, rfl, rfl, rfl, rfl, rfl, rfl, rfl, rfl, rfl, s.clearDie_group, rfl, rfl⟩
  · obtain ⟨c, hsafe, h⟩ := State.warmStart_eq cause s
    rw [h]
    exact ⟨rfl, rfl, rfl, rfl, rfl, rfl, hsafe, rfl, rfl, rfl, rfl, rfl, rfl, rfl, rfl, rfl, rfl, rfl, s.warmClear_group, rfl, rfl,
      rfl, rfl, rfl, rfl, rfl⟩

/-! #### Standby -/

/-- What each turn of a loop writes for its own object stands after the loop. -/
theorem each_writes {α β : Type} [DecidableEq α] {f : α → State → State} (obs : State → α → β) (g : α → β)
    (hf : ∀ x z y, obs (f x z) y = if y = x then g x else obs z y) (l : List α) (s : State) :
    ∀ y ∈ l, obs (s.each l f) y = g y := by
  have keeps : ∀ (l : List α) (s : State) (y : α), obs s y = g y → obs (s.each l f) y = g y := by
    intro l
    induction l with
    | nil => exact fun s y h => h
    | cons a l ih =>
      intro s y h
      rw [State.each_cons]
      refine ih _ y ?_
      rw [hf]
      split
      · next e => rw [e]
      · exact h
  induction l generalizing s with
  | nil => exact fun y hy => absurd hy List.not_mem_nil
  | cons a l ih =>
    intro y hy
    rw [State.each_cons]
    rcases List.mem_cons.1 hy with rfl | hy
    · exact keeps l _ y (by rw [hf, if_pos rfl])
    · exact ih _ y hy

theorem State.pinLevel_sprout (k : Nat) (level : Bool) (s : State) : (s.pinLevel k level).sprout = s.sprout := by
  unfold State.pinLevel
  split
  · rfl
  split
  · rfl
  split
  · rfl
  split
  · rfl
  split <;> rfl

theorem State.acceptWake_samples (w : Nat) (s : State) : (s.acceptWake w).sprout.samples = s.sprout.samples := by
  unfold State.acceptWake
  split <;> rfl

/-- A request for standby that is accepted: the die powers down, and Sprout takes over (R96, R579). -/
theorem exec_standbyRequest_accepted {s : State} (ho : s.adpOpen = true)
    (htwin : s.twin.state = .holding ∨ s.twin.state = .single ∨ s.twin.state = .takenOver)
    (hports : ∀ p : Nat, p < 160 → s.enabled p = true → s.portRole p = 1 ∧ (s.group (p / 4)).perst = false) :
    ∃ t, exec .standbyRequest s = .next t ∧ t = { (s.answer 0).warmClear with
      sup := { (s.answer 0).warmClear.sup with state := .standby }
      sprout := { (s.answer 0).warmClear.sprout with
        filters := s.watched, samples := s.watched, accepted := 0, alarm := decide (s.setting 0x8020 2 ≠ 0) }
      start := { (s.answer 0).warmClear.start with
        recConfig := s.savedConfig, recValid := decide (Config.recordSize s.savedConfig ≤ 176 * 1024), recWriting := false
        recMark := false } } := by
  refine ⟨_, ?_, rfl⟩
  dsimp only [exec, execStandbyRequest]
  refine (commandWrite_open ho _).trans (congrArg Host.Outcome.next (if_neg ?_))
  simpa [htwin] using hports

/-- Settles O11: standby keeps what a warm start keeps, and its wake is a warm start. -/
theorem standbyAndItsWake : Obligations.StandbyAndItsWake := by
  unfold Obligations.StandbyAndItsWake
  refine ⟨?accepted, ?refused, ?sampled, ?alarm, ?wake⟩
  case accepted =>
    intro s ho htwin hports
    obtain ⟨t, ht, rfl⟩ := exec_standbyRequest_accepted ho htwin hports
    exact ⟨_, ht, rfl, rfl, rfl, rfl, rfl, rfl, rfl, rfl, rfl, fun n => ((s.answer 0).warmClear_group n).1, rfl⟩
  case refused =>
    intro s ho h1 h2 h3
    dsimp only [exec, execStandbyRequest]
    exact (commandWrite_open ho _).trans (congrArg Host.Outcome.next (if_pos (by simp [h1, h2, h3])))
  case sampled =>
    intro levels s h
    obtain ⟨t, ht⟩ := exec_total (.wakeSourceSample levels) s
    refine ⟨t, ht, ?_, exec_same (p := .sup) rfl ht, exec_same (p := .start) rfl ht⟩
    have e : t = _ := Host.Outcome.next.inj (ht.symm.trans (guarded_of
      (c := decide (s.sup.state = .standby) || (s.starting && decide (s.start.cause = 6))) (by simpa using h) _ s))
    rw [e]
    intro k hk hw
    refine each_writes (fun z k => z.sprout.samples.look k true) (fun k => levels.getLsbD k) (fun k z j => ?_) _ s k
      (List.mem_filter.2 ⟨List.mem_range.2 hk, hw⟩)
    dsimp only
    split
    · rw [State.ifDo]
      split
      · simp [State.acceptWake_samples, State.pinLevel_sprout]
      · simp [State.pinLevel_sprout]
    · simp
  case alarm =>
    intro s hstate halarm
    dsimp only [exec, execWakeAlarm]
    refine (guarded_of (by simp [hstate, halarm]) _ s).trans (congrArg Host.Outcome.next ?_)
    rw [State.ifDo, State.acceptWake, if_pos (show s.sup.state = .standby from hstate)]
    have hw (q : Sprout) : State.watches { s with sprout := q } 44 = s.watches 44 := rfl
    rw [hw]
    cases s.watches 44 <;> rfl
  case wake =>
    intro frame s hstate h
    dsimp only [exec, execStandbyWake]
    refine guarded_intro (by simpa [hstate] using h) ?_
    obtain ⟨c, -, e⟩ := State.warmStart_eq 6 ({ s with sprout := { s.sprout with
      wakeSources := s.sprout.accepted, wakeFrame := frame, wakes := s.sprout.wakes + 1, alarm := false } })
    rw [e]
    exact ⟨rfl, rfl, rfl, rfl, rfl, rfl, rfl⟩

end Sys2Proof.Machine

namespace Sys2Proof.Machine

/-! #### Requests for a start, and the watchdog -/

/-- What an expiry of the watchdog makes of the start unit (R106, R126). -/
theorem State.watchdogExpire_start (s : State) :
    s.watchdogExpire.start.phase = .warm ∧ s.watchdogExpire.start.cause = 4 ∧
    s.watchdogExpire.start.expiries = s.start.expiries + 1 ∧ s.watchdogExpire.start.recWriting = false ∧
    s.watchdogExpire.start.failed =
      (if s.start.state = .confirmed ∨ s.start.counted = true then s.start.failed else min (s.start.failed + 1) 3) := by
  unfold State.watchdogExpire
  extract_lets first s1 s2 s3
  have h2 : s2.start = s1.warmClear.start.warm 4 := by
    obtain ⟨c, -, e⟩ := State.warmStart_eq 4 s1
    rw [show s2 = s1.warmStart 4 from rfl, e]
  have hwriting : s2.start.recWriting = false := by
    rw [h2]
    exact Bool.and_false _
  have hfirst : first = true ↔ ¬ (s.start.state = .confirmed ∨ s.start.counted = true) := by simp [first]
  by_cases hf : first = true
  · have e : s3 = s2.setStartUnit (fun u => { u with failed := min (u.failed + 1) 3, lastFailedSlot := s.start.running % 2 }) := if_pos hf
    rw [if_pos hf, e, if_neg (hfirst.1 hf)]
    refine ⟨?_, ?_, ?_, hwriting, ?_⟩ <;> simp only [State.raise_start, State.setStartUnit, h2] <;> rfl
  · have e : s3 = s2 := if_neg hf
    rw [if_neg hf, e, if_pos (not_not.1 (fun h => hf (hfirst.2 h)))]
    refine ⟨?_, ?_, ?_, hwriting, ?_⟩ <;> simp only [State.raise_start, h2] <;> rfl

theorem State.failedStart_counts (s : State) : s.failedStart.start.counted = true ∧
    s.failedStart.start.failed = (if s.start.counted = true then s.start.failed else min (s.start.failed + 1) 3) := by
  unfold State.failedStart
  split
  · next h => exact ⟨h, rfl⟩
  · exact ⟨rfl, rfl⟩

theorem State.failedStart_ep (s : State) : s.failedStart.ep = s.ep :=
  (State.failedStart_only s (.refl (but [.beat, .epochs, .inflight, .commit, .tables]) s) rfl).ep

/-- Settles O13: the requests are answered by what the module does, and the watchdog and the time limit count a failed start. -/
theorem startRequestsAndWatchdog : Obligations.StartRequestsAndWatchdog := by
  unfold Obligations.StartRequestsAndWatchdog
  refine ⟨?warm, ?warmBusy, ?cold, ?coldBusy, ?watchdog, ?timeout, ?confirmed⟩
  case warm =>
    intro s hup hsafe hstarting
    dsimp only [exec, execWarmStartRequest]
    refine (guarded_of hup _ s).trans (congrArg Host.Outcome.next (if_neg ?_))
    simp [State.startAllowed, hsafe, hstarting, dieOn_of_adpUp hup]
  case warmBusy =>
    intro s hup h
    dsimp only [exec, execWarmStartRequest]
    refine (guarded_of hup _ s).trans (congrArg Host.Outcome.next (if_pos ?_))
    rcases h with h | h <;> simp [State.startAllowed, h]
  case cold =>
    intro s hup hstarting
    dsimp only [exec, execColdStartRequest]
    exact (guarded_of hup _ s).trans (congrArg Host.Outcome.next (if_neg (by simp [hstarting])))
  case coldBusy =>
    intro s hup hstarting
    dsimp only [exec, execColdStartRequest]
    exact (guarded_of hup _ s).trans (congrArg Host.Outcome.next (if_pos hstarting))
  case watchdog =>
    intro s hdie hdog hsafe
    dsimp only [exec, execWatchdogExpiry]
    exact guarded_intro (by simp [hdie, hdog, hsafe]) s.watchdogExpire_start
  case timeout =>
    intro s hdie hstarting
    dsimp only [exec, execReadyTimeout]
    exact guarded_intro (by simp [hdie, hstarting]) ⟨rfl, rfl, s.failedStart_counts.1, s.failedStart_ep, s.failedStart_counts.2⟩
  case confirmed =>
    intro s hr hstate hbeat
    dsimp only [exec, execStartConfirmed]
    refine guarded_intro (by simp [hr, hstate, hbeat]) ?_
    generalize hs1 : (s.setStartUnit (fun u => { u with failed := 0 })).setStart .confirmed = s1
    have hstart : s1.start = { s.start with failed := 0, state := .confirmed } := by
      rw [← hs1, setStart_start]
      rfl
    have hep : s1.ep = s.ep := by
      rw [← hs1, setStart_ep]
      rfl
    have hsettings : s1.settings = s.settings := by
      rw [← hs1]
      exact State.setStart_only _ _ (State.setStartUnit_only _ s (.refl (but [.settings]) s) rfl) rfl .settings (by decide)
    split <;> simp [hstart, hep, hsettings]

/-! #### The phases of a start -/

theorem State.usableCores_ne_nil {s : State} (h : s.irq.coreRetired = []) : s.usableCores ≠ [] := by
  simp [State.usableCores, h, Tbl.look, List.range_succ]

/-- Of the units that BIST retires only a core is one of the cores. -/
theorem State.bistRetire_irqUnit {u : BistUnit} (hu : ∀ k, u ≠ .core k) (s : State) : Part.irqUnit.same s (s.bistRetire u) := by
  unfold State.bistRetire
  cases u with
  | attachment n =>
    exact State.raise_only 130 _ (State.retireAttachment_only n s (.refl (but [.irqUnit]) s) rfl) rfl .irqUnit (by decide)
  | bank b => exact ⟨rfl, rfl, rfl, rfl, rfl, rfl, rfl⟩
  | ledger b => exact State.raise_only 130 _ (State.setLedgerBank_only b 2 s (.refl (but [.irqUnit]) s) rfl) rfl .irqUnit (by decide)
  | cluster c => exact ⟨rfl, rfl, rfl, rfl, rfl, rfl, rfl⟩
  | core k => exact absurd rfl (hu k)

theorem each_bistRetire_coreRetired {l : List BistUnit} (hl : ∀ u ∈ l, ∀ k, u ≠ .core k) (s : State) :
    (s.each l State.bistRetire).irq.coreRetired = s.irq.coreRetired :=
  each_inv (fun x y => y.irq.coreRetired = x.irq.coreRetired) (fun _ => rfl) (fun _ _ _ h k => k.trans h)
    (fun u hu z => (State.bistRetire_irqUnit (hl u hu) z).2.2.1)

/-- BIST without a failure that ends the start (R110, R607): calibration follows, or no core is left. -/
theorem exec_bistDone_next {a : List (Fin 40)} {b : List (Fin 64)} {l : List (Fin 16)} {c : List (Fin 8)} {k : List (Fin 4)}
    {s : State} (h : s.inPhase .bist = true) : ∃ t, exec (.bistDone a b l c k false) s = .next t ∧
      (t.start.phase = .calibration ∧ t.start.state = .calibration ∧ t.usableCores ≠ [] ∧ t.irq.moving = [] ∨ t.col.safe = true) ∧
      (k = [] → s.start.kind ≠ 2 → t.start.phase = .calibration) := by
  change ∃ t, execBistDone a b l c k false s = .next t ∧ _
  refine guarded_intro h ?_
  extract_lets core home beryl irq s0 units s1 irq' s2
  rw [if_neg Bool.false_ne_true]
  have calibrates : ((s2.setStartUnit (fun u => { u with phase := .calibration })).setStart .calibration).start.phase = .calibration ∧
      ((s2.setStartUnit (fun u => { u with phase := .calibration })).setStart .calibration).start.state = .calibration := by
    rw [setStart_start]
    exact ⟨rfl, rfl⟩
  by_cases hcores : s2.usableCores.isEmpty = true
  · rw [if_pos hcores]
    refine ⟨.inr (enterSafe_sup _ _ s2).2, fun hk hkind => absurd (List.isEmpty_iff.1 hcores) (State.usableCores_ne_nil ?_)⟩
    have hs0 : s0.irq.coreRetired = [] := by
      rw [show s0 = _ from if_neg hkind]
    have hunits : ∀ u ∈ units, ∀ j, u ≠ .core j := by
      intro u hu j hj
      subst hk hj
      simp [units] at hu
    exact (each_bistRetire_coreRetired hunits s0).trans hs0
  · rw [if_neg hcores]
    have hirq := State.setStart_only .calibration _ (State.setStartUnit_only (fun u => { u with phase := .calibration }) s2
      (.refl (but [.irqUnit]) s2) rfl) rfl .irqUnit (by decide)
    refine ⟨.inl ⟨calibrates.1, calibrates.2, ?_, ?_⟩, fun _ _ => calibrates.1⟩
    · unfold State.usableCores
      rw [hirq.2.2.1]
      simpa [State.usableCores] using hcores
    · exact hirq.2.2.2.2.2.1

theorem State.failedStart_golden (s : State) : s.failedStart.start.golden = s.start.golden := by
  unfold State.failedStart
  split <;> rfl

/-- Limited mode, with a golden image that is valid or not (R122, R124). -/
theorem State.enterLimited_start (s : State) : s.enterLimited.start.phase = .none ∧
    (s.start.golden.valid = true → s.enterLimited.start.state = .limited ∧ s.enterLimited.start.running = 2 ∧
      s.enterLimited.start.watchdog = true ∧ ∀ n : Nat, (s.enterLimited.group n).driven = none) ∧
    (s.start.golden.valid = false → s.enterLimited.start.running = 3 ∧ s.enterLimited.start.watchdog = false) := by
  unfold State.enterLimited
  cases hg : s.start.golden.valid with
  | false => exact ⟨rfl, nofun, fun _ => ⟨rfl, rfl⟩⟩
  | true =>
    rw [if_neg (by simp)]
    extract_lets s1
    have hs1 : s1.start = { s.start with running := 2, phase := .none, watchdog := true, state := .limited } := by
      rw [show s1 = State.setStart .limited _ from rfl, setStart_start]
      rfl
    refine ⟨by rw [hs1], fun _ => ⟨by rw [hs1], by rw [hs1], by rw [hs1], fun n => ?_⟩, nofun⟩
    exact look_map_of s1.groups (fun e => { e.2 with driven := none }) GroupSide.driven (fun _ => none) {} rfl (fun _ => rfl) n

theorem State.setStart_phase (c : StartState) (f : StartUnit → StartUnit) (s : State) :
    ((s.setStartUnit f).setStart c).start = { f s.start with state := c } := by
  rw [setStart_start]
  rfl

/-- Firmware is loaded from the slot chosen, or from the other where the chosen one is not valid (R123). -/
theorem exec_firmwareLoad_slot {s : State} (h : s.inPhase .firmware = true) (hfailed : s.start.failed ≠ 3)
    (hvalid : s.start.slotA.checked.valid = true ∨ s.start.slotB.checked.valid = true) :
    ∃ t, exec .firmwareLoad s = .next t ∧ t.start.phase = .configuration ∧ t.start.state = .configuration ∧
      t.start.watchdog = true ∧ (s.start.failed = 0 → ∀ k : Nat, k = s.loaded 0x2220 1 % 2 →
        t.start.running = if (if k = 0 then s.start.slotA.checked.valid else s.start.slotB.checked.valid) then k else 1 - k) := by
  change ∃ t, execFirmwareLoad s = .next t ∧ _
  refine guarded_intro h ?_
  extract_lets s1 ok first s2
  have hok (k : Nat) : ok k = if k = 0 then s.start.slotA.checked.valid else s.start.slotB.checked.valid := rfl
  have hsome : ¬ ((!ok first && !ok (1 - first)) = true) := by
    rw [hok, hok]
    rcases Nat.eq_zero_or_pos first with h0 | hpos
    · rw [h0]
      rcases hvalid with hA | hB
      · simp [hA]
      · simp [hB]
    · rw [if_neg (by omega), if_pos (by omega)]
      rcases hvalid with hA | hB
      · simp [hA]
      · simp [hB]
  rw [if_neg hfailed, if_neg hsome, State.setStart_phase]
  refine ⟨rfl, rfl, rfl, fun h0 k hk => ?_⟩
  have hfirst : first = k := (if_pos h0).trans hk.symm
  rw [← hfirst]
  rfl

/-- Settles O14, a phase at a time. -/
theorem startPhasesFollow : Obligations.StartPhasesFollow := by
  unfold Obligations.StartPhasesFollow
  refine ⟨?cold, fun _ _ _ _ _ _ => exec_bistDone_next, ?bistFails, ?calibration, fun _ => exec_firmwareLoad_slot, ?limited,
    ?configuration, ?release, ?warm⟩
  case cold =>
    intro slotId capOk refValid s h
    dsimp only [exec, execColdStart]
    refine guarded_intro h ?_
    cases capOk with
    | true =>
      refine ⟨rfl, rfl, rfl, rfl, rfl, rfl, fun _ hrec => ?_⟩
      simp [hrec]
    | false => exact ⟨rfl, rfl, rfl, rfl, rfl, rfl, nofun⟩
  case bistFails =>
    intro a b l c k s h
    dsimp only [exec, execBistDone]
    exact guarded_intro h (enterSafe_sup 3 0xFFFF _).2
  case calibration =>
    intro failed s h
    dsimp only [exec, execCalibrationDone]
    exact guarded_of h _ s
  case limited =>
    intro s h hbad
    change ∃ t, execFirmwareLoad s = .next t ∧ _
    refine guarded_intro h ?_
    extract_lets s1 ok first s2
    by_cases hf : s.start.failed = 3
    · rw [if_pos hf]
      exact s1.enterLimited_start
    · obtain ⟨hA, hB⟩ := hbad.resolve_left hf
      have none (k : Nat) : ok k = false := by
        show (if k = 0 then s.start.slotA.checked.valid else s.start.slotB.checked.valid) = false
        rw [hA, hB, ite_self]
      rw [if_neg hf, if_pos (by rw [none, none]; rfl)]
      have hgolden : s2.failedStart.start.golden = s.start.golden.checked := by
        rw [State.failedStart_golden]
        unfold s2
        split <;> rfl
      rw [← hgolden]
      exact s2.failedStart.enterLimited_start
  case configuration =>
    intro s h
    change ∃ t, execConfigurationLoad s = .next t ∧ _
    refine guarded_intro h ?_
    extract_lets cold bad src s1 s2 cfg
    have h2 : s2.start.phase = .release := by
      unfold s2
      split <;> rfl
    split
    · exact h2
    · exact h2
  case release =>
    intro ms s h
    change ∃ t, execDataPathRelease ms s = .next t ∧ _
    refine guarded_intro h ?_
    extract_lets ep sup start s1 s2 s3 s4
    have hsafe : s.col.safe = false := not_safe_of_inPhase h
    have h2 : s2.start = { s1.start with state := .ready } := setStart_start .ready s1
    have h3 : OnlyChanges (but [.start, .sup, .safeState, .beat, .epochs]) s2 s3 := by
      unfold s3
      split
      · exact State.setPair_only _ s2 (.refl _ s2) rfl
      · exact .refl _ s2
    have h4 : OnlyChanges (but [.start, .sup, .safeState, .beat, .epochs]) s2 s4 :=
      State.each_only _ _ _ h3 (fun n z hz => State.setGroup_only n _ z hz rfl)
    have h5 : OnlyChanges (but [.start, .sup, .safeState, .beat, .epochs]) s2 ((s4.commitBind []).each (List.range 161) State.startPort) :=
      State.each_only _ _ _ (State.commitBind_only _ s4 h4 rfl) (fun p z hz => State.startPort_only p z hz rfl)
    have hstart : _ = s2.start := h5 .start (by decide)
    have hsup : _ = s2.sup := h5 .sup (by decide)
    have k2 : OnlyChanges (but [.sup, .safeState, .beat, .epochs]) s1 s2 := State.setStart_only _ s1 (.refl _ s1) rfl
    have hbeat : _ = s1.ep.beat := (h5 .beat (by decide)).trans (k2 .beat (by decide))
    have hepoch : _ = s1.ep.epoch := (h5 .epochs (by decide)).1.trans (k2 .epochs (by decide)).1
    have hsup1 : s2.sup = s1.sup := k2 .sup (by decide)
    have hcol : _ = s1.col.safe := (h5 .safeState (by decide)).1.trans (k2 .safeState (by decide)).1
    refine ⟨?_, ?_, ?_, ?_, hbeat, hepoch, ?_⟩
    · rw [hstart, h2]
    · rw [hstart, h2]
    · rw [hstart, h2]
    · rw [hsup, hsup1]
    · rw [State.running, hsup, hsup1, hcol]
      simp [s1, hsafe]
  case warm =>
    intro recordOk sramError repaired s h hw
    change ∃ t, execWarmStart recordOk sramError repaired s = .next t ∧ _
    refine guarded_intro (by simp [h, hw]) ?_
    extract_lets good s0 s0' s1
    have kept (c : StartState) (z : State) (hz : z.settings = [] ∧ z.ep = {}) : (z.setStart c).settings = [] ∧ (z.setStart c).ep = {} :=
      ⟨(State.setStart_only c z (.refl (but [.settings]) z) rfl .settings (by decide)).trans hz.1, (setStart_ep c z).trans hz.2⟩
    by_cases hgood : s.start.recValid = true ∧ recordOk = true ∧ sramError = false
    · rw [if_pos (show good = true by simp [good, hgood]), if_pos hgood, setStart_start]
      exact ⟨rfl, kept .firmware _ ⟨rfl, rfl⟩⟩
    · have hbad : ¬ good = true := by simpa [good, and_assoc] using hgood
      rw [if_neg hbad, if_neg hgood, setStart_start]
      exact ⟨rfl, kept .bist _ ⟨rfl, rfl⟩⟩

/-! #### The retained record, the stored dictionary and the images -/

/-- Settles O15: a write to the images acts on the slot that is not running, and is refused as busy on the other. -/
theorem recordStoreAndImages : Obligations.RecordStoreAndImages := by
  unfold Obligations.RecordStoreAndImages
  refine ⟨?written, ?store, ?storeBusy, ?block, ?verify, ?busy⟩
  case written =>
    intro s hdie hw
    dsimp only [exec, execRetainedRecordWritten]
    exact guarded_of (by simp [hdie, hw]) _ s
  case store =>
    intro s ho h
    dsimp only [exec, execStoreRequest]
    exact (commandWrite_open ho _).trans (congrArg Host.Outcome.next (if_neg h))
  case storeBusy =>
    intro s ho h
    dsimp only [exec, execStoreRequest]
    exact (commandWrite_open ho _).trans (congrArg Host.Outcome.next (if_pos h))
  case block =>
    intro slot block s hup hopen hslot
    dsimp only [exec, execImageBlockWrite]
    refine guarded_intro hup ?_
    rw [if_neg (by simp [hopen, hslot])]
    fin_cases slot
    · exact ⟨rfl, rfl, fun _ => ⟨rfl, rfl⟩, nofun⟩
    · exact ⟨rfl, rfl, nofun, fun _ => ⟨rfl, rfl⟩⟩
  case verify =>
    intro slot s hup hopen hslot
    dsimp only [exec, execImageVerify]
    refine guarded_intro hup ?_
    rw [if_neg (by simp [hopen, hslot])]
    fin_cases slot
    · exact ⟨rfl, fun _ => ⟨rfl, rfl, rfl⟩, nofun⟩
    · exact ⟨rfl, nofun, fun _ => ⟨rfl, rfl, rfl⟩⟩
  case busy =>
    intro slot block s hup h
    have hbusy : (!s.updatesOpen || decide (s.start.running = slot.val)) = true := by simpa using h
    dsimp only [exec, execImageBlockWrite, execImageVerify]
    exact ⟨(guarded_of hup _ s).trans (congrArg Host.Outcome.next (if_pos hbusy)),
      (guarded_of hup _ s).trans (congrArg Host.Outcome.next (if_pos hbusy))⟩

end Sys2Proof.Machine

/-!
### Training of trunk and Garnet ports, and lanes in service (chapter 05)
-/

namespace Sys2Proof.Machine

/-! #### What a lane keeps of a training block -/

/-- The measurement of stage 4 leaves a lane's coefficients, polarity and count of good words alone (R153). -/
theorem Lane.measure_keeps (x : Lane) (levels : List (Fin 4)) :
    (x.measure levels).goodWords = x.goodWords ∧ (x.measure levels).polarity = x.polarity ∧ (x.measure levels).cm2 = x.cm2 ∧
    (x.measure levels).cm1 = x.cm1 ∧ (x.measure levels).c0 = x.c0 ∧ (x.measure levels).cp1 = x.cp1 := by
  unfold Lane.measure
  extract_lets bs fresh from_ rest r n y
  split <;> exact ⟨rfl, rfl, rfl, rfl, rfl, rfl⟩

/-- The receiver's own request leaves the transmitter's coefficients alone (R150). -/
theorem Lane.ask_keeps (x : Lane) (w : TrainWord) (r preset : Nat) :
    (x.ask w r preset).partner = x.partner ∧ (x.ask w r preset).detected = x.detected ∧ (x.ask w r preset).cm2 = x.cm2 ∧
    (x.ask w r preset).cm1 = x.cm1 ∧ (x.ask w r preset).c0 = x.c0 ∧ (x.ask w r preset).cp1 = x.cp1 := by
  unfold Lane.ask
  extract_lets seen
  split <;> exact ⟨rfl, rfl, rfl, rfl, rfl, rfl⟩

theorem Lane.tune_detected (x : Lane) (a b c d : Int) : (x.tune a b c d).detected = x.detected := by
  unfold Lane.tune
  split <;> rfl

theorem Lane.serve_detected (x : Lane) (w : TrainWord) : (x.serve w).detected = x.detected := by
  unfold Lane.serve
  split
  · split <;> rfl
  · split
    · split
      · exact Lane.tune_detected _ _ _ _ _
      · rfl
    all_goals first | exact Lane.tune_detected _ _ _ _ _ | rfl

/-- What a training block with a good check makes of its lane (R150, R153). -/
def State.noteBlock (lane : Nat) (block : TrainBlock) (measures : Bool) (s : State) : State :=
  (if measures then s.setLane lane (fun x => x.measure block.prbs) else s).setLane lane (fun x => { x with
    partner := block.word.toNat, detected := true
    proposal := if (trainWord block.word.toNat).stage = 3 then (trainWord block.word.toNat).targetRate else x.proposal })

/-- A training block with a good check, before it is acted on: the first one that a port receives in stage 1 begins its detection
(R152). -/
def State.takeBlock (lane p : Nat) (block : TrainBlock) (s : State) : State :=
  (s.noteBlock lane block (decide ((s.port p).stage = 4))).setPort p (fun q => { q with
    firstDetect := if (s.port p).stage = 1 then some (q.firstDetect.getD s.ep.beat) else q.firstDetect })

theorem State.setPort_lane (p : Nat) (f : Port → Port) (s : State) (l : Nat) : (s.setPort p f).lane l = s.lane l := rfl

theorem State.setLane_port (l : Nat) (f : Lane → Lane) (s : State) (p : Nat) : (s.setLane l f).port p = s.port p := rfl

theorem State.takeBlock_other (lane p : Nat) (block : TrainBlock) (s : State) (l : Nat) (h : l ≠ lane) :
    (s.takeBlock lane p block).lane l = s.lane l := by
  rw [State.takeBlock, State.setPort_lane, State.noteBlock]
  cases decide ((s.port p).stage = 4) <;> simp [h]

/-- The lane of a block that is taken: the block's fields are noted, and the rest is as the measurement leaves it. -/
theorem State.takeBlock_lane (lane p : Nat) (block : TrainBlock) (s : State) :
    ∃ x : Lane, (x = s.lane lane ∨ x = (s.lane lane).measure block.prbs) ∧ (s.takeBlock lane p block).lane lane =
      { x with partner := block.word.toNat, detected := true
               proposal := if (trainWord block.word.toNat).stage = 3 then (trainWord block.word.toNat).targetRate else x.proposal } := by
  rw [State.takeBlock, State.setPort_lane, State.noteBlock]
  cases decide ((s.port p).stage = 4) with
  | true => exact ⟨_, .inr rfl, by simp⟩
  | false => exact ⟨_, .inl rfl, by simp⟩

theorem State.noteBlock_port (lane : Nat) (block : TrainBlock) (b : Bool) (s : State) (p : Nat) :
    (s.noteBlock lane block b).port p = s.port p := by
  rw [State.noteBlock, State.setLane_port]
  split <;> rfl

theorem State.takeBlock_port (lane p : Nat) (block : TrainBlock) (s : State) :
    ((s.takeBlock lane p block).port p).stage = (s.port p).stage ∧ ((s.port p).stage = 1 →
      ((s.takeBlock lane p block).port p).firstDetect = some ((s.port p).firstDetect.getD s.ep.beat)) := by
  rw [State.takeBlock, State.setPort_port, if_pos rfl, State.noteBlock_port]
  exact ⟨rfl, fun h => by simp [h]⟩

theorem State.noteBlock_out (lane : Nat) (block : TrainBlock) (b : Bool) (s : State) : (s.noteBlock lane block b).out = s.out := by
  cases b <;> rfl

theorem State.takeBlock_out (lane p : Nat) (block : TrainBlock) (s : State) : (s.takeBlock lane p block).out = s.out :=
  State.noteBlock_out lane block _ s

/-- What a good block that does not exclude its lane makes of the lane, once it is noted (R150, R151, R184). -/
def Lane.afterBlock (old : Lane) (stage : Nat) (back done inverted : Bool) (w : TrainWord) (wish : LaneWish) (x : Lane) : Lane :=
  { (if back then x else { ({ x with partner := old.partner }).serve w with partner := x.partner }).ask w wish.ask.val wish.preset.val with
    polarity := if stage = 3 ∧ back = false then inverted else x.polarity
    ready := x.ready || decide (stage = 1) || (done && (decide (stage ≠ 4) || x.errOk))
    goodWords := if w.stage = stage ∧ w.ready = true then min 8 (x.goodWords + 1) else if x.goodWords = 8 then 8 else 0 }

theorem Lane.afterBlock_noted (old : Lane) (stage : Nat) (back done inverted : Bool) (w : TrainWord) (wish : LaneWish) (x : Lane) :
    (old.afterBlock stage back done inverted w wish x).partner = x.partner ∧
    (old.afterBlock stage back done inverted w wish x).detected = x.detected := by
  unfold Lane.afterBlock
  cases back with
  | true => exact ⟨(Lane.ask_keeps x w _ _).1, (Lane.ask_keeps x w _ _).2.1⟩
  | false => exact ⟨(Lane.ask_keeps _ w _ _).1, ((Lane.ask_keeps _ w _ _).2.1).trans (Lane.serve_detected _ w)⟩

/-- On a link that was up the coefficients stay (R162). -/
theorem Lane.afterBlock_back (old : Lane) (stage : Nat) (done inverted : Bool) (w : TrainWord) (wish : LaneWish) (x : Lane) :
    (old.afterBlock stage true done inverted w wish x).cm2 = x.cm2 ∧ (old.afterBlock stage true done inverted w wish x).cm1 = x.cm1 ∧
    (old.afterBlock stage true done inverted w wish x).c0 = x.c0 ∧ (old.afterBlock stage true done inverted w wish x).cp1 = x.cp1 :=
  (Lane.ask_keeps x w wish.ask.val wish.preset.val).2.2

/-- The three ends of a training block at a lane that takes part (R150 to R153). -/
theorem exec_trainingBlock {lane : Fin 328} {p : Nat} {block : TrainBlock} {done inverted : Bool} {wish : LaneWish} {s : State}
    (hr : s.running = true) (hp : s.portOfLane lane = some p) (hrole : s.portRole p = 3) (hmem : lane.val ∈ s.trainees p) :
    exec (.trainingBlock lane block done inverted wish) s = .next (
      if (trainWord block.word.toNat).crcOk = false then
        (if (s.port p).stage = 4 then s.setLane lane (fun x => x.measure block.prbs) else s).setLane lane (fun x => { x with goodWords := 0 })
      else if (trainWord block.word.toNat).excluded = true then (s.takeBlock lane p block).laneFail lane 5
      else ((s.takeBlock lane p block).setLane lane ((s.lane lane).afterBlock (s.port p).stage (s.linkActive p) done inverted
        (trainWord block.word.toNat) wish)).stageAdvance p) := by
  dsimp only [exec, execTrainingBlock]
  rw [hp]
  refine (guarded_of (by simp [hr, hrole, hmem]) _ s).trans (congrArg Host.Outcome.next ?_)
  unfold State.takeBlock State.noteBlock
  simp only [decide_eq_true_eq]
  cases (trainWord block.word.toNat).crcOk
  · rfl
  · cases (trainWord block.word.toNat).excluded <;> rfl

/-- Settles O17. -/
theorem trunkTraining : Obligations.TrunkTraining := by
  refine ⟨fun lane p word prbs done inverted ask preset s hr hp hrole hmem => ⟨fun hc => ?_, fun hc he => ?_, fun hc he => ?_⟩,
    fun port b s hr hrole h1 hb hle => ?_, fun port b s hr hrole hb hle => ⟨fun hnone hne => ?_, fun l ls hls => ?_⟩,
    fun port now rate width reversed x clock pc kd s hr hrole hst hne hall => ?_,
    fun port now rate width reversed x clock pc kd s hr hrole h3 h4 hret hfit => ?_,
    fun port now rate width reversed x clock pc kd s hr hrole h3 h4 hret hne => ?_⟩
  · exact (exec_trainingBlock hr hp hrole hmem).trans (congrArg Host.Outcome.next (if_pos hc))
  · obtain ⟨x, -, hx⟩ := s.takeBlock_lane lane p ⟨word, prbs⟩
    refine ⟨s.takeBlock lane p ⟨word, prbs⟩, (exec_trainingBlock hr hp hrole hmem).trans (congrArg Host.Outcome.next
      ((if_neg (by simp [hc])).trans (if_pos he))), ?_, ?_, (s.takeBlock_port lane p ⟨word, prbs⟩).1,
      (s.takeBlock_port lane p ⟨word, prbs⟩).2, fun l hl => s.takeBlock_other lane p ⟨word, prbs⟩ l hl⟩ <;> rw [hx]
  · obtain ⟨x, hold, hx⟩ := s.takeBlock_lane lane p ⟨word, prbs⟩
    obtain ⟨hgood, hpol, hm2, hm1, h0, hp1⟩ : x.goodWords = (s.lane lane).goodWords ∧ x.polarity = (s.lane lane).polarity ∧
        x.cm2 = (s.lane lane).cm2 ∧ x.cm1 = (s.lane lane).cm1 ∧ x.c0 = (s.lane lane).c0 ∧ x.cp1 = (s.lane lane).cp1 := by
      rcases hold with rfl | rfl
      · exact ⟨rfl, rfl, rfl, rfl, rfl, rfl⟩
      · exact Lane.measure_keeps _ _
    refine ⟨_, (exec_trainingBlock hr hp hrole hmem).trans (congrArg Host.Outcome.next ((if_neg (by simp [hc])).trans
      (if_neg (by simp [he])))), ?_, ?_, (s.takeBlock_port lane p ⟨word, prbs⟩).1, s.takeBlock_out lane p ⟨word, prbs⟩,
      (s.takeBlock_port lane p ⟨word, prbs⟩).2, fun h => ?_, fun hst hback => ?_, fun hback => ?_, ?_, fun l hl => ?_⟩
    · rw [State.setLane_lane, if_pos rfl, (Lane.afterBlock_noted _ _ _ _ _ _ _ _).1, hx]
    · rw [State.setLane_lane, if_pos rfl, (Lane.afterBlock_noted _ _ _ _ _ _ _ _).2, hx]
    · rw [State.setLane_lane, if_pos rfl, hx, ← hpol]
      exact if_neg (by rintro ⟨hst, hback⟩; rcases h with h | h <;> simp_all)
    · rw [State.setLane_lane, if_pos rfl, hx]
      exact if_pos ⟨hst, hback⟩
    · rw [State.setLane_lane, if_pos rfl, hback, hx, ← hm2, ← hm1, ← h0, ← hp1]
      exact Lane.afterBlock_back _ _ _ _ _ _ _
    · rw [State.setLane_lane, if_pos rfl, hx, ← hgood]
      rfl
    · rw [State.setLane_lane, if_neg hl, State.takeBlock_other _ _ _ _ _ hl]
  · refine ⟨_, rfl, ?_⟩
    dsimp only [exec, execDetectTimer]
    exact guarded_of (by simp [hr, hrole, h1, hb, hle]) _ s
  · dsimp only [exec, execStageBoundReached]
    refine (guarded_of (by simp [hr, hrole, hb, hle]) _ s).trans (congrArg Host.Outcome.next ?_)
    rw [hnone]
    exact (if_neg (by simp [State.each, hne])).trans (if_pos rfl)
  · refine ⟨_, rfl, ?_⟩
    dsimp only [exec, execStageBoundReached]
    refine (guarded_of (by simp [hr, hrole, hb, hle]) _ s).trans (congrArg Host.Outcome.next ?_)
    rw [hls]
    simp only [List.isEmpty_iff, List.isEmpty_cons, Bool.false_eq_true, if_false]
  · dsimp only [exec, execPortLinkUp]
    rw [if_pos hrole]
    refine guarded_of ?_ _ s
    rcases hst with h | ⟨h, hn⟩
    · simpa [hr, h, hne] using hall
    · simpa [hr, h, hne, Option.isSome_iff_ne_none.2 hn] using hall
  · dsimp only [exec, execPortLinkUp]
    rw [if_neg (by omega), if_neg (by simp [hret])]
    exact guarded_of (by simp [hr, hrole, h3, h4, hfit]) _ s
  · dsimp only [exec, execPortLinkUp]
    rw [if_neg hrole, if_pos hret]
    exact guarded_of (by simp [hr, h3, h4, hne]) _ s

/-! #### Lanes in service -/

theorem bits_lt (v hi lo : Nat) : bits v hi lo < 2 ^ (hi + 1 - lo) := Nat.mod_lt _ (Nat.two_pow_pos _)

theorem stepCode_le {v top : Nat} (h : v ≤ top) (up : Bool) : stepCode v top up ≤ top := by
  unfold stepCode
  split <;> omega

/-- The peaking of an equalizer word that is put together from its three codes (R172). -/
theorem bits_peaking {pk gn tp : Nat} (hpk : pk ≤ 15) (hgn : gn ≤ 255) (htp : tp ≤ 255) :
    bits (pk * 2 ^ 28 + gn * 2 ^ 20 + tp * 2 ^ 12) 31 28 = pk := by
  simp only [bits, Nat.shiftRight_eq_div_pow]
  omega

/-- The gain of an equalizer word that is put together from its three codes (R172). -/
theorem bits_gain {pk gn tp : Nat} (hgn : gn ≤ 255) (htp : tp ≤ 255) :
    bits (pk * 2 ^ 28 + gn * 2 ^ 20 + tp * 2 ^ 12) 27 20 = gn := by
  simp only [bits, Nat.shiftRight_eq_div_pow]
  omega

/-- The codes of an equalizer word are within the widths of their fields (R172). -/
theorem eqCodes_le (v : Nat) : bits v 31 28 ≤ 15 ∧ bits v 27 20 ≤ 255 ∧ bits v 19 12 ≤ 255 :=
  ⟨Nat.le_of_lt_succ (bits_lt v 31 28), Nat.le_of_lt_succ (bits_lt v 27 20), Nat.le_of_lt_succ (bits_lt v 19 12)⟩

/-- A step of the peaking moves it alone (R145). -/
theorem Lane.adapt_peaking (x : Lane) (up : Bool) :
    bits (x.adapt 0 up).rxEq 31 28 = stepCode (bits x.rxEq 31 28) 15 up ∧ (x.adapt 0 up).taps = x.taps :=
  have ⟨hpk, hgn, htp⟩ := eqCodes_le x.rxEq
  ⟨bits_peaking (stepCode_le hpk up) hgn htp, rfl⟩

/-- A step of the gain leaves the peaking alone (R145). -/
theorem Lane.adapt_gain (x : Lane) (up : Bool) :
    bits (x.adapt 1 up).rxEq 27 20 = stepCode (bits x.rxEq 27 20) 255 up ∧ bits (x.adapt 1 up).rxEq 31 28 = bits x.rxEq 31 28 :=
  have ⟨hpk, hgn, htp⟩ := eqCodes_le x.rxEq
  ⟨bits_gain (stepCode_le hgn up) htp, bits_peaking hpk (stepCode_le hgn up) htp⟩

theorem State.l0sCheck_lane (p : Nat) (s : State) (l : Nat) : (s.l0sCheck p).lane l = s.lane l := by
  have h := State.l0sCheck_only p s (.refl (but [.lanes]) s) rfl .lanes (by decide)
  exact congrArg (fun t : Tbl Lane => t.look l {}) h

/-- The state that a direction change leaves before the scans are checked: its link is checked for L0s. -/
def State.turned (lane : Nat) (s : State) : State :=
  match s.portOfLane lane with
  | some p => s.l0sCheck p
  | none => s

theorem State.turned_lane (lane : Nat) (s : State) (l : Nat) : (s.turned lane).lane l = s.lane l := by
  unfold State.turned
  split
  · exact State.l0sCheck_lane _ _ _
  · rfl

/-- One direction of a lane takes another state (R155, R156). -/
def Lane.turn (beat : Nat) (receiver : Bool) (d : LaneDir) (x : Lane) : Lane :=
  if receiver then Lane.setRx beat d { x with lastRx := if d = .on then 0 else x.lastRx }
  else { x with tx := d, lastTx := if d = .on then 0 else x.lastTx }

/-- A direction of a lane takes the state that its link layer asks for (R155, R156). -/
theorem exec_laneDirectionChange {lane : Fin 328} {receiver : Bool} {d : LaneDir} {s : State} (hr : s.running = true)
    (h5 : (s.lane lane).state = 5) (ha : s.asksFor lane receiver d = true) :
    ∃ u : State, exec (.laneDirectionChange lane receiver d) s = .next (State.scanCheck u) ∧
      u.lane lane = (s.lane lane).turn s.ep.beat receiver d := by
  refine ⟨(s.setLane lane.val (Lane.turn s.ep.beat receiver d)).turned lane.val, ?_,
    (State.turned_lane _ _ _).trans ((State.setLane_lane _ _ _ _).trans (if_pos rfl))⟩
  dsimp only [exec, execLaneDirectionChange]
  exact guarded_of (by simp [hr, h5, ha]) _ s

/-- A failure other than that of the error threshold is acted on with its cause (R159, R160, R165). -/
theorem exec_laneFailure_other {lane : Fin 328} {cause : Fin 6} {more : BitVec 32} {p : Nat} {s : State} (hr : s.running = true)
    (hp : s.portOfLane lane = some p) (hact : s.linkActive p = true)
    (hstate : (3 ≤ (s.lane lane).state ∧ (s.lane lane).state ≤ 5 ∧ ((s.lane lane).rx = .on ∨ 4 ≤ cause.val)) ∨
      ((s.lane lane).state = 8 ∧ (s.port p).stageSince = s.ep.beat)) (h0 : cause.val ≠ 0) (h3 : cause.val ≠ 3) :
    exec (.laneFailure lane cause more) s = .next (s.laneFail lane cause) := by
  dsimp only [exec, execLaneFailure]
  refine (guarded_of ?_ _ s).trans (congrArg (fun u => Host.Outcome.next (State.laneFail lane.val cause.val u)) (if_neg h3))
  match cause, h0, h3, hstate with
  | 1, _, _, hstate => rcases hstate with ⟨hlo, hhi, hon⟩ | ⟨h8, hnow⟩ <;> simp_all
  | 2, _, _, hstate => rcases hstate with ⟨hlo, hhi, hon⟩ | ⟨h8, hnow⟩ <;> simp_all
  | 4, _, _, hstate => rcases hstate with ⟨hlo, hhi, -⟩ | ⟨h8, hnow⟩ <;> simp_all
  | 5, _, _, hstate => rcases hstate with ⟨hlo, hhi, -⟩ | ⟨h8, hnow⟩ <;> simp_all

/-- A window whose count passes the threshold fails its lane with cause 3, and the errors are counted (R159, R160). -/
theorem exec_laneFailure_threshold {lane : Fin 328} {more : BitVec 32} {p : Nat} {s : State} (hr : s.running = true)
    (hp : s.portOfLane lane = some p) (hact : s.linkActive p = true)
    (hstate : (3 ≤ (s.lane lane).state ∧ (s.lane lane).state ≤ 5 ∧ (s.lane lane).rx = .on) ∨
      ((s.lane lane).state = 8 ∧ (s.port p).stageSince = s.ep.beat)) (hlim : s.setting (laneIndex lane) 0x80 ≠ 0)
    (hover : s.setting (laneIndex lane) 0x80 < (s.lane lane).window + more.toNat) :
    exec (.laneFailure lane 3 more) s = .next ((s.setLane lane (fun y => { y with
      errors := y.errors + more.toNat, window := y.window + more.toNat, peak := max y.peak (y.window + more.toNat) })).laneFail lane 3) := by
  dsimp only [exec, execLaneFailure]
  refine guarded_of ?_ _ s
  rcases hstate with ⟨hlo, hhi, hon⟩ | ⟨h8, hnow⟩
  · simp [hr, hp, hact, hlo, hhi, hon, hlim, hover]
  · simp [hr, hp, hact, h8, hnow, hlim, hover]

/-- Settles O18. -/
theorem lanesInService : Obligations.LanesInService := by
  refine ⟨fun lane part tap param up s hparam hr h5 hrx hhas hfree hold => ?_, fun lane more s hr h5 hw => ?_,
    fun lane cause more p s hr hp hact hstate h0 h3 => ?_, fun lane more p s hr hp hact hstate hlim hover => ?_,
    fun port b s hr hb hle => ?_, fun lane s ho => ⟨?_, fun h6 => ?_, fun h6 => ?_⟩, fun lane d s hr h5 ha => ?_,
    fun lane d s hr h5 ha => ?_, fun lane b s hr hb hle => ?_⟩
  · subst hparam
    dsimp only [exec, execAdaptationStep]
    refine guarded_intro ?_ ⟨?_, ?_, ?_, fun hk => ?_, fun hk => ?_, fun l hl => ?_, rfl, rfl⟩
    · cases hfind : (s.lane lane).adaptAt.find? (fun e => decide (e.1 = paramNo part tap)) with
      | none => simp [hr, h5, hrx, hhas, hfree]
      | some e =>
        have hage := hold e (List.mem_of_find?_eq_some hfind) (by simpa using List.find?_some hfind)
        simp [hr, h5, hrx, hhas, hfree, hage]
    · rw [State.setLane_lane, if_pos rfl]
    · rw [State.setLane_lane, if_pos rfl]
    · rw [State.setLane_lane, if_pos rfl]
    · rw [State.setLane_lane, if_pos rfl, hk]
      simpa only [stepCode] using Lane.adapt_peaking (s.lane lane) up
    · rw [State.setLane_lane, if_pos rfl, hk]
      simpa only [stepCode] using Lane.adapt_gain (s.lane lane) up
    · rw [State.setLane_lane, if_neg hl]
  · dsimp only [exec, execErrorWindowEnd]
    exact guarded_of (by simp [hr, h5, hw]) _ s
  · exact exec_laneFailure_other hr hp hact hstate h0 h3
  · exact exec_laneFailure_threshold hr hp hact hstate hlim hover
  · dsimp only [exec, execRetrainLimit]
    exact guarded_of (by simp [hr, hb, hle]) _ s
  · dsimp only [exec, execLaneExclude]
    exact (commandWrite_open ho _).trans (congrArg Host.Outcome.next (if_neg (by simp)))
  · dsimp only [exec, execLaneExclude]
    exact (commandWrite_open ho _).trans (congrArg Host.Outcome.next (if_pos (by simp [h6])))
  · dsimp only [exec, execLaneExclude]
    exact (commandWrite_open ho _).trans (congrArg Host.Outcome.next (if_neg (by simp [h6])))
  · obtain ⟨u, hu, hl⟩ := exec_laneDirectionChange hr h5 ha
    exact ⟨u, hu, by rw [hl]; rfl, by rw [hl]; rfl⟩
  · obtain ⟨u, hu, hl⟩ := exec_laneDirectionChange hr h5 ha
    exact ⟨u, hu, by rw [hl]; rfl, by rw [hl]; rfl⟩
  · dsimp only [exec, execRxLockTimeout]
    exact guarded_of (by simp [hr, hb, hle]) _ s

/-- Settles O19. -/
theorem eyeScans : Obligations.EyeScans := by
  refine ⟨fun slot fs s ho hbad => ?_, fun slot fs s ho hok => ?_, fun slot errors s hr h1 hle hkeep => ?_,
    fun slot errors s hr h1 hle hlost => ?_, fun slot s ho => ?_⟩
  · dsimp only [exec, execScanStart]
    exact (commandWrite_open ho _).trans (congrArg (fun u => Host.Outcome.next (State.answer 0 u)) (if_pos hbad))
  · dsimp only [exec, execScanStart]
    refine ⟨_, (commandWrite_open ho _).trans (congrArg (fun u => Host.Outcome.next (State.answer 0 u)) (if_neg (by simp [hok]))),
      ?_, ?_, ?_, ?_, ?_, fun k hk => ?_, rfl⟩
    all_goals rw [State.answer_scans, State.setScan_scan]
    case refine_6 => rw [if_neg hk]
    all_goals rw [if_pos rfl]
  · dsimp only [exec, execScanPointDone]
    exact (guarded_of (by simp [hr, h1, hle]) _ s).trans (congrArg Host.Outcome.next (if_neg (by simp [hkeep])))
  · dsimp only [exec, execScanPointDone]
    exact (guarded_of (by simp [hr, h1, hle]) _ s).trans (congrArg Host.Outcome.next (if_pos hlost))
  · dsimp only [exec, execScanAbort]
    exact commandWrite_open ho _

end Sys2Proof.Machine

/-!
### The link layer of the trunks (chapter 10)
-/

namespace Sys2Proof.Machine

/-- A byte that the code corrects is counted on its lane, and on the trunk's port (R338, R352). -/
def State.countFixed (p : Nat) (lanes : List Nat) (k : Nat) (u : State) : State :=
  match lanes[k]? with
  | some l => State.setLane l (fun x => { x with errors := x.errors + 1, window := x.window + 1 })
      (if p < 160 then u.countBy 1 (0x3400 + p) 0x4F else u)
  | none => if p < 160 then u.countBy 1 (0x3400 + p) 0x4F else u

section
variable {p now : Nat} {wire fixed : List Nat} {good : Control → List Nat → State → State} {s : State}

/-- A flit that cannot be decoded makes the receiver lose track (R338, R362). -/
theorem State.flit_undecoded (h : readWire (widthLanes (s.port p).width) wire = (fixed, none)) :
    s.flit p now wire good = ((((((s.each fixed (State.countFixed p (s.lanesInUse p))).linkCount p 0x48).raise 215).trunkBad p now
      true).rxNext p .lost).sendFlit p) := by
  unfold State.flit
  rw [h]
  rfl

/-- A flit whose control word fails its CRC makes the receiver lose track (R339, R362). -/
theorem State.flit_bad {bytes : List Nat} (h : readWire (widthLanes (s.port p).width) wire = (fixed, some bytes))
    (hc : (readControl (numberOf (bytes.take 16))).crcOk = false) :
    s.flit p now wire good = (((((s.each fixed (State.countFixed p (s.lanesInUse p))).linkCount p 0x49).trunkBad p now
      true).rxNext p .lost).sendFlit p) := by
  unfold State.flit
  rw [h]
  exact congrArg (State.sendFlit p) (if_neg (by simp [hc]))

/-- A good flit is processed, and answered with a flit (R339). -/
theorem State.flit_good {bytes : List Nat} (h : readWire (widthLanes (s.port p).width) wire = (fixed, some bytes))
    (hc : (readControl (numberOf (bytes.take 16))).crcOk = true) :
    s.flit p now wire good = ((good (readControl (numberOf (bytes.take 16))) (splitWords 30 (numberOf (bytes.drop 16)))
      (s.each fixed (State.countFixed p (s.lanesInUse p)))).sendFlit p) := by
  unfold State.flit
  rw [h]
  exact congrArg (State.sendFlit p) (if_pos hc)

end

theorem State.sendFlit_quiet (p : Nat) (s : State) : ((s.sendFlit p).trunk p).quietTx = (s.trunk p).quietTx := by
  unfold State.sendFlit
  extract_lets t k c flit
  rw [State.setTrunk_trunk, if_pos rfl]
  rfl

theorem State.sendFlit_lanes (p : Nat) (s : State) : (s.sendFlit p).lanes = s.lanes :=
  State.sendFlit_only p s (.refl (but [.lanes]) s) rfl .lanes (by decide)

theorem State.sendFlit_core (p : Nat) (s : State) : (s.sendFlit p).core = s.core := rfl

/-- The lanes of a list take what one function makes of them; the rest of the state stays. -/
theorem each_setLane_const (f : Lane → Lane) (ls : List Nat) (s : State) :
    (∀ l, l ∉ ls → (s.each ls (fun l z => z.setLane l f)).lane l = s.lane l) ∧
    (s.each ls (fun l z => z.setLane l f)).trunks = s.trunks ∧ (s.each ls (fun l z => z.setLane l f)).core = s.core ∧
    (s.each ls (fun l z => z.setLane l f)).out = s.out := by
  refine ⟨fun l hl => each_setLane_other (fun _ => f) ls s l hl, ?_⟩
  obtain ⟨t, ht⟩ := each_setLane_eq (fun _ => f) ls s
  rw [ht]
  exact ⟨rfl, rfl, rfl⟩

/-- The inverted marker ends the quiet state of a receiver, whose lanes are On again (R342). -/
theorem exec_invertedMarker {port : Fin 160} {s : State} (hr : s.running = true) (hrole : s.portRole port = 3)
    (hq : (s.trunk port).quietRx = true) :
    ∃ u : State, exec (.invertedMarker port) s = .next u ∧ u.trunk port = { s.trunk port with quietRx := false } ∧
      (∀ l ∈ s.lanesInUse port, (u.lane l).rx = .on ∧ (u.lane l).lastRx = 0) ∧ (∀ l, l ∉ s.lanesInUse port → u.lane l = s.lane l) ∧
      (∀ p, p ≠ port.val → u.trunk p = s.trunk p) ∧ u.core = s.core ∧ u.out = s.out := by
  dsimp only [exec, execInvertedMarker]
  refine guarded_intro (by simp [hr, hrole, hq]) ?_
  obtain ⟨hother, htrunk, hcore, hout⟩ := each_setLane_const (fun x => { x with rx := .on, lastRx := 0 }) (s.lanesInUse port)
    (s.setTrunk port.val (fun t => { t with quietRx := false }))
  have htrunk (p : Nat) := (congrArg (fun t : Tbl Trunk => t.look p {}) htrunk).trans (State.setTrunk_trunk _ _ _ _)
  exact ⟨(htrunk port).trans (if_pos rfl), fun l hl => each_setLane_mem (fun _ x => { x with rx := .on, lastRx := 0 })
    (fun x => x.rx = .on ∧ x.lastRx = 0) (fun _ _ => ⟨rfl, rfl⟩) _ _ l hl, hother,
    fun p hp => (htrunk p).trans (if_neg hp), hcore, hout⟩

/-- Settles O26. -/
theorem trunkLinkLayer : Obligations.TrunkLinkLayer := by
  refine ⟨fun port now wire fixed fix s hr hrole hdown h5 hq hfix => ?_, fun port now s hr ht hn hs => ?_,
    fun port now s hr hrole h5 hq => ?_, fun port s hr hrole h5 hq h0 hidle hlong => ?_, fun port s hr hq hexit => ?_,
    fun port s hr hrole hq => ?_⟩
  · obtain rfl : fix = State.countFixed port (s.lanesInUse port) := hfix
    have run : exec (.flitReceived port now wire) s = .next (s.flit port now (wire.toList.map BitVec.toNat)
        (if port.val = 160 then fun c _ => State.garnetWord now c else State.trunkWords port.val now)) := by
      dsimp only [exec, execFlitReceived]
      exact guarded_of (by simp [hr, hrole, hdown, h5, hq]) _ s
    refine ⟨fun h => run.trans (congrArg Host.Outcome.next (State.flit_undecoded h)), ?_⟩
    rintro bytes c h rfl
    refine ⟨fun hc => run.trans (congrArg Host.Outcome.next (State.flit_bad h hc)),
      fun hc hp => run.trans (congrArg Host.Outcome.next ?_), fun hc hp => run.trans (congrArg Host.Outcome.next ?_)⟩
    · rw [if_neg (by omega)]
      exact State.flit_good h hc
    · rw [if_pos hp]
      exact State.flit_good h hc
  · dsimp only [exec, execReplayTimerExpiry]
    exact guarded_of (by simp [hr, ht, hn, hs]) _ s
  · dsimp only [exec, execRttProbe]
    exact guarded_of (by simp [hr, hrole, h5, hq]) _ s
  · dsimp only [exec, execQuietEntry]
    refine guarded_intro (by simp [hr, hrole, h5, hq, h0, hidle, hlong]) ?_
    obtain ⟨hother, htrunk, hcore, -⟩ := each_setLane_const (fun x => { x with tx := .quickIdle }) (s.lanesInUse port)
      ((s.setTrunk port.val (fun t => { t with quietTx := true })).sendFlit port.val)
    refine ⟨?_, fun l hl => each_setLane_mem (fun _ x => { x with tx := .quickIdle }) (fun x => x.tx = .quickIdle)
      (fun _ _ => rfl) _ _ l hl, fun l hl => (hother l hl).trans ?_, hcore⟩
    · rw [State.trunk, htrunk]
      exact (State.sendFlit_quiet _ _).trans (by simp)
    · rw [State.lane, State.sendFlit_lanes]
      rfl
  · dsimp only [exec, execQuietExit]
    refine guarded_intro (by simpa [hr, hq] using hexit) ?_
    obtain ⟨hother, htrunk, hcore, hout⟩ := each_setLane_const (fun x => { x with tx := .on, lastTx := 0 }) (s.lanesInUse port)
      (s.setTrunk port.val (fun t => { t with quietTx := false, idleSince := s.ep.beat }))
    refine ⟨?_, fun l hl => each_setLane_mem (fun _ x => { x with tx := .on, lastTx := 0 }) (fun x => x.tx = .on)
      (fun _ _ => rfl) _ _ l hl, hother, hcore, congrArg _ hout⟩
    rw [State.trunk, State.emit, htrunk]
    exact congrArg Trunk.quietTx ((State.setTrunk_trunk _ _ _ _).trans (if_pos rfl))
  · obtain ⟨u, hu, htrunk, hrx, hother, -, hcore, hout⟩ := exec_invertedMarker hr hrole hq
    exact ⟨u, hu, by rw [htrunk], fun l hl => (hrx l hl).1, hother, hcore, hout⟩

end Sys2Proof.Machine

/-!
### Commands of the slots (chapter 15, R531 to R533)
-/

namespace Sys2Proof.Machine

/-- Word 0 of a command spells its code and whom it is for (R532). -/
theorem cmdWords_head {code : Nat} (hc : code < 2 ^ 8) (i : Fin 4096) (low : BitVec 44) (ws : List (BitVec 64)) :
    bits ((cmdWords code i low ws).getD 0 0) 63 56 = code ∧ bits ((cmdWords code i low ws).getD 0 0) 55 44 = i := by
  have hw : (cmdWords code i low ws).getD 0 0 = code * 2 ^ 56 + i.val * 2 ^ 44 + low.toNat := rfl
  have hi := i.isLt
  have hlow := low.isLt
  simp only [hw, bits, Nat.shiftRight_eq_div_pow]
  omega

/-- The slot of a command that is written to it holds its words (R531). -/
theorem State.submitted_words (v k : Nat) (words : List Nat) (s : State) : ((s.submitted v k words).slotOf v k).words = words := by
  have h : (s.submitted v k words).func v = ((s.interrupt (80 + v)).setCmd v k (CmdSlot.take words)).func v := rfl
  rw [State.slotOf, h, State.setCmd, State.setFunc_func, if_pos rfl, Tbl.look_put_self]
  rfl

theorem State.submitted_code {code : Nat} (hc : code < 2 ^ 8) (v k : Nat) (i : Fin 4096) (low : BitVec 44) (ws : List (BitVec 64))
    (s : State) : ((s.submitted v k (cmdWords code i low ws)).slotOf v k).code = code := by
  rw [CmdSlot.code, State.submitted_words]
  exact (cmdWords_head hc i low ws).1

/-- A command that starts is run at once in the slot that holds it (R531, R533, R560). -/
theorem State.submit_starts {s : State} {v k : Nat} {words : List Nat} (h : s.commandStarts v k words) :
    s.submit v k words = (s.submitted v k words).runCommand v k := by
  obtain ⟨hr, hfree, hcores, hclear, -⟩ := h
  have hmove : ((s.interrupt (80 + v)).setCmd v k (CmdSlot.take words)).irq.moving.contains 2 = false := hcores
  unfold State.submit
  rw [if_neg (by simp [hr]), if_neg (by simp [hfree])]
  dsimp only
  rw [if_neg (by simp only [hmove, Bool.false_eq_true, not_false_eq_true])]
  exact if_neg (ne_true_of_eq_false hclear)

/-- What a command that needs an Active one does, by its code (R435, R532). -/
def State.commandOf (code v k : Nat) (u : State) : State :=
  match code with
  | 0x01 => u.createCq v k
  | 0x02 => u.destroyCq v k
  | 0x03 => u.createQp v k
  | 0x04 => u.modifyQp v k
  | 0x05 => u.destroyQp v k
  | 0x06 => u.registerRegion v k
  | 0x07 => u.revokeRegion v k
  | 0x08 => u.setCounter v k
  | _ => u.endWith v k 3

section
variable {u : State} {v k : Nat}

/-- What runs of a command that nothing of R511 and R532 ends, where no reset is under way. -/
theorem State.runCommand_runs (hen : (u.instD (u.slotOf v k).inst).enable = true) (hvh : (u.instD (u.slotOf v k).inst).vh = v)
    (hclean : (u.slotOf v k).clean = true) (h3 : (u.inst (u.slotOf v k).inst).state ≠ 3) (h4 : (u.inst (u.slotOf v k).inst).state ≠ 4) :
    u.runCommand v k = (if (u.slotOf v k).code = 0x20 then u.attach v k
      else if (u.slotOf v k).code = 0x21 then u.detach v k
      else if 1 ≤ (u.slotOf v k).code ∧ (u.slotOf v k).code ≤ 8 ∧ (u.inst (u.slotOf v k).inst).state ≠ 2 then u.endWith v k 2
      else u.commandOf (u.slotOf v k).code v k) :=
  (if_neg (by simp [hen, hvh])).trans ((if_neg (by simp [h3, h4])).trans (if_neg (by simp [hclean])))

/-- DESTROY_CQ deletes a queue that no queue pair names (R435). -/
theorem State.destroyCq_deleted (hcq : u.cqInRange (u.slotOf v k).inst (bits ((u.slotOf v k).w 1) 13 0) = true)
    (hhas : u.beryl.cqs.has (bits ((u.slotOf v k).w 1) 13 0) = true)
    (hfree : ∀ e ∈ u.beryl.qps, e.2.sendCq ≠ bits ((u.slotOf v k).w 1) 13 0 ∧ e.2.recvCq ≠ bits ((u.slotOf v k).w 1) 13 0) :
    u.destroyCq v k = State.endWith v k 0 { u with beryl := { u.beryl with cqs := u.beryl.cqs.del (bits ((u.slotOf v k).w 1) 13 0) } } := by
  have hnone : u.beryl.qps.any (fun e => decide (e.2.sendCq = bits ((u.slotOf v k).w 1) 13 0 ∨
      e.2.recvCq = bits ((u.slotOf v k).w 1) 13 0)) = false :=
    List.any_eq_false.2 (fun e he => by simpa using hfree e he)
  exact (if_neg (by simp [hcq])).trans ((if_neg (by simp [hhas])).trans (if_neg (ne_true_of_eq_false hnone)))

/-- CREATE_CQ makes its queue (R435). -/
theorem State.createCq_made (hcq : u.cqInRange (u.slotOf v k).inst (bits ((u.slotOf v k).w 2) 13 0) = true)
    (hvec : u.vecInRange (u.slotOf v k).inst (bits ((u.slotOf v k).w 2) 44 32) = true)
    (hnew : u.beryl.cqs.has (bits ((u.slotOf v k).w 2) 13 0) = false) (hlo : 6 ≤ bits ((u.slotOf v k).w 2) 20 16)
    (hhi : bits ((u.slotOf v k).w 2) 20 16 ≤ 22) : u.createCq v k = (u.madeCq (u.slotOf v k)).endWith v k 0 :=
  (if_neg (by simp [hcq, hvec])).trans ((if_neg (by simp [hnew])).trans (if_neg (by omega)))

/-- MODIFY_QP acts on the state of a queue pair in its range (R436). -/
theorem State.modifyQp_acts (hqp : u.qpInRange (u.slotOf v k).inst (bits ((u.slotOf v k).w 1) 16 0) = true)
    (hex : u.qpExists (bits ((u.slotOf v k).w 1) 16 0) = true) :
    ((u.qp (bits ((u.slotOf v k).w 1) 16 0)).state = .reset → bits ((u.slotOf v k).w 1) 33 32 = 1 → u.modifyQp v k =
      (u.setQp (bits ((u.slotOf v k).w 1) 16 0) (fun y => { y with state := .init })).endWith v k 0) ∧
    ((u.qp (bits ((u.slotOf v k).w 1) 16 0)).state = .init → bits ((u.slotOf v k).w 1) 33 32 = 2 →
      bits ((u.slotOf v k).w 2) 48 32 % 8 = bits ((u.slotOf v k).w 1) 16 0 % 8 → u.modifyQp v k =
      (u.qpReady (bits ((u.slotOf v k).w 1) 16 0) (u.slotOf v k)).endWith v k 0) ∧
    ((u.qp (bits ((u.slotOf v k).w 1) 16 0)).state = .ready → bits ((u.slotOf v k).w 1) 33 32 = 3 → u.modifyQp v k =
      (u.flushQp (bits ((u.slotOf v k).w 1) 16 0) 1).endWith v k 0) := by
  unfold State.modifyQp
  rw [if_neg (by simp [hqp]), if_neg (by simp [hex])]
  refine ⟨fun hst ht => ?_, fun hst ht hpeer => ?_, fun hst ht => ?_⟩
  · rw [hst, ht]
    rfl
  · rw [hst, ht]
    exact if_neg (by simp [hpeer])
  · rw [hst, ht]
    rfl

end

/-- A command of code 1 to 8 that starts on an Active one does what its code says (R435, R532). -/
theorem State.submit_active {code : Nat} (hlo : 1 ≤ code) (hhi : code ≤ 8) {v k : Nat} {i : Fin 4096} {low : BitVec 44}
    {ws : List (BitVec 64)} {s u : State} (hu : u = s.submitted v k (cmdWords code i low ws))
    (h : s.commandStarts v k (cmdWords code i low ws)) (h2 : (u.inst (u.slotOf v k).inst).state = 2) :
    s.submit v k (cmdWords code i low ws) = u.commandOf code v k := by
  subst hu
  obtain ⟨-, -, -, -, hen, hvh, hclean⟩ := id h
  rw [State.submit_starts h, State.runCommand_runs hen hvh hclean (by omega) (by omega),
    State.submitted_code (by omega), if_neg (by omega), if_neg (by omega), if_neg (by omega)]

/-- Settles O32: a command that starts runs at once, and each of its checks passes. -/
theorem slotCommandsTakeEffect : Obligations.SlotCommandsTakeEffect := by
  intro v k i low ws s u x code hu hx h
  subst hx
  refine ⟨?createCq, ?destroyCq, ?createQp, ?modifyQp, ?destroyQp, ?registerRegion, ?revokeRegion, ?setCounter, ?attach, ?detach⟩
  case createCq =>
    rintro rfl h2 hcq hvec hnew hlo hhi
    exact congrArg Host.Outcome.next ((State.submit_active (by decide) (by decide) hu h h2).trans (State.createCq_made hcq hvec hnew hlo hhi))
  case destroyCq =>
    rintro rfl h2 hcq hhas hfree
    exact congrArg Host.Outcome.next ((State.submit_active (by decide) (by decide) hu h h2).trans (State.destroyCq_deleted hcq hhas hfree))
  case createQp =>
    rintro rfl h2 hqp hscq hrcq hnew hs hr h1 h1' h3 h3' h5 h5'
    refine congrArg Host.Outcome.next ((State.submit_active (by decide) (by decide) hu h h2).trans ?_)
    exact (if_neg (by simp [hqp, hscq, hrcq])).trans ((if_neg (by simp [hnew])).trans ((if_neg (by simp [hs, hr])).trans (if_neg (by omega))))
  case modifyQp =>
    rintro rfl h2 hqp hex
    have run := State.submit_active (by decide) (by decide) hu h h2
    obtain ⟨toInit, toReady, toError⟩ := State.modifyQp_acts hqp hex
    exact ⟨fun hst ht => congrArg Host.Outcome.next (run.trans (toInit hst ht)),
      fun hst ht hpeer => congrArg Host.Outcome.next (run.trans (toReady hst ht hpeer)),
      fun hst ht => congrArg Host.Outcome.next (run.trans (toError hst ht))⟩
  case destroyQp =>
    rintro rfl h2 hqp hex hst
    refine congrArg Host.Outcome.next ((State.submit_active (by decide) (by decide) hu h h2).trans ?_)
    exact (if_neg (by simp [hqp])).trans (if_neg (by simp [hex, hst]))
  case registerRegion =>
    rintro rfl h2 hreg hfree h0 hlen hend hr2 hr3
    refine congrArg Host.Outcome.next ((State.submit_active (by decide) (by decide) hu h h2).trans ?_)
    exact (if_neg (by simp [hreg])).trans ((if_neg (by simp [hfree])).trans ((if_neg (by omega)).trans (if_neg (by simp [hr2, hr3]))))
  case revokeRegion =>
    rintro rfl h2 h0 hreg hvalid hgen
    refine congrArg Host.Outcome.next ((State.submit_active (by decide) (by decide) hu h h2).trans ?_)
    exact (if_neg (by simp [hreg])).trans (if_neg (by simp [h0, hvalid, hgen]))
  case setCounter =>
    rintro rfl h2 hqp hex
    refine congrArg Host.Outcome.next ((State.submit_active (by decide) (by decide) hu h h2).trans ?_)
    exact (if_neg (by simp [hqp])).trans (if_neg (by simp [hex]))
  case attach =>
    rintro rfl h1 hserved hpasid h2 h3 h4 hlo hhi hwords
    subst hu
    obtain ⟨-, -, -, -, hen, hvh, hclean⟩ := id h
    refine congrArg Host.Outcome.next ((State.submit_starts h).trans ((State.runCommand_runs hen hvh hclean (by omega) (by omega)).trans
      ((if_pos (State.submitted_code (by decide) _ _ _ _ _ _)).trans ?_)))
    refine (if_neg (not_or.2 ⟨by simp [h1], ne_true_of_eq_false hserved⟩)).trans (if_neg ?_)
    simp [hpasid, hwords, h2, h3, h4, hlo, hhi]
  case detach =>
    rintro rfl h2
    subst hu
    obtain ⟨-, -, -, -, hen, hvh, hclean⟩ := id h
    have hcode := State.submitted_code (code := 0x21) (by decide) v k i low ws s
    refine congrArg Host.Outcome.next ((State.submit_starts h).trans ((State.runCommand_runs hen hvh hclean (by omega) (by omega)).trans
      ((if_neg (by rw [hcode]; decide)).trans ((if_pos hcode).trans (if_neg (by simp [h2]))))))

end Sys2Proof.Machine

/-!
### What a link partner does (chapters 05 to 07, 10), saves of the configuration, and events of member devices
-/

namespace Sys2Proof.Machine

/-! #### The link partner -/

/-- A loop over lanes may read the beat, which it does not change. -/
theorem each_setLane_beat (f : Nat → Lane → Lane) (ls : List Nat) (s : State) :
    s.each ls (fun l z => z.setLane l (f z.ep.beat)) = s.each ls (fun l z => z.setLane l (f s.ep.beat)) := by
  unfold State.each
  induction ls generalizing s with
  | nil => rfl
  | cons a ls ih => exact ih (s.setLane a (f s.ep.beat))

/-- A lane in use takes the direction states of its link's power state (R193). -/
def Lane.powered (w : LinkPower) (beat : Nat) (x : Lane) : Lane :=
  if x.state = 5 then ({ x with tx := w.lane }).setRx beat w.lane else x

theorem Lane.powered_dirs (w : LinkPower) (beat : Nat) (x : Lane) :
    (x.powered w beat).state = 5 → (x.powered w beat).tx = w.lane ∧ (x.powered w beat).rx = w.lane := by
  unfold Lane.powered
  split
  · exact fun _ => ⟨rfl, rfl⟩
  · next h => exact fun h5 => absurd h5 h

theorem Lane.powered_state (w : LinkPower) (beat : Nat) (x : Lane) : (x.powered w beat).state = x.state := by
  unfold Lane.powered
  split <;> rfl

/-- The check of CLKREQ_N changes the groups alone. -/
theorem State.clkreqCheck_eq (p : Nat) (s : State) : ∃ t, s.clkreqCheck p = { s with groups := t } := by
  have loop (F : Nat → State → State) (hF : ∀ n z, ∃ t, F n z = { z with groups := t }) (ls : List Nat) :
      ∃ t, s.each ls F = { s with groups := t } := by
    unfold State.each
    induction ls generalizing s with
    | nil => exact ⟨s.groups, rfl⟩
    | cons a ls ih =>
      obtain ⟨t1, h1⟩ := hF a s
      obtain ⟨t2, h2⟩ := ih (F a s)
      exact ⟨t2, h2.trans (by rw [h1])⟩
  unfold State.clkreqCheck
  split
  · exact ⟨s.groups, rfl⟩
  · exact loop _ (fun n z => ⟨_, rfl⟩) _

/-- A port in a link power state (R193, R197). -/
def Port.powered (w : LinkPower) (q : Port) : Port :=
  { q with
    power := w
    txWidth := if w = .l0 then q.width else q.txWidth
    rxWidth := if w = .l0 then q.width else q.rxWidth
    widening := q.widening && decide (w ≠ .l0)
    state := match w with
      | .l2 => 5
      | .l1 | .l11 | .l12 => 4
      | _ => 2 }

/-- A change of a link's power state changes its port and its lanes, and with them CLKREQ_N and the eye scans (R171, R193). -/
theorem State.setPower_eq (p : Nat) (w : LinkPower) (s : State) : ∃ lanes groups scans, s.setPower p w =
    { s with ports := (s.setPort p (Port.powered w)).ports, lanes := lanes, groups := groups, scans := scans } ∧
      ∀ l, lanes.look l {} = ((s.setPort p (Port.powered w)).each (s.lanesOf p) (fun l z => z.setLane l (Lane.powered w s.ep.beat))).lane l := by
  have hbeat := each_setLane_beat (Lane.powered w) (s.lanesOf p) (s.setPort p (Port.powered w))
  obtain ⟨lanes, hlanes⟩ := each_setLane_eq (fun _ => Lane.powered w s.ep.beat) (s.lanesOf p) (s.setPort p (Port.powered w))
  obtain ⟨groups, hgroups⟩ := State.clkreqCheck_eq p { s.setPort p (Port.powered w) with lanes := lanes }
  refine ⟨lanes, groups, ({ s.setPort p (Port.powered w) with lanes := lanes, groups := groups } : State).scanCheck.scans, ?_,
    fun l => by rw [hlanes]; rfl⟩
  have hz : s.setPower p w = (((s.setPort p (Port.powered w)).each (s.lanesOf p)
    (fun l z => z.setLane l (Lane.powered w z.ep.beat))).clkreqCheck p).scanCheck := rfl
  have hbeat : (s.setPort p (Port.powered w)).each (s.lanesOf p) (fun l z => z.setLane l (Lane.powered w z.ep.beat)) =
    { s.setPort p (Port.powered w) with lanes := lanes } := hbeat.trans hlanes
  rw [hz, hbeat, hgroups]
  rfl

/-- A change of a link's power state changes its port, and the direction states of its lanes in use (R193, R197). -/
theorem State.setPower_acts (p : Nat) (w : LinkPower) (s : State) :
    (∀ q, (s.setPower p w).port q = if q = p then (s.port q).powered w else s.port q) ∧
    (∀ l ∈ s.lanesOf p, (s.lane l).state = 5 → ((s.setPower p w).lane l).tx = w.lane ∧ ((s.setPower p w).lane l).rx = w.lane) ∧
    (s.setPower p w).core = s.core := by
  obtain ⟨lanes, groups, scans, h, hlanes⟩ := s.setPower_eq p w
  rw [h]
  refine ⟨fun q => s.setPort_port p (Port.powered w) q, fun l hl h5 => ?_, rfl⟩
  rw [State.lane, hlanes]
  have hkeep := each_setLane_keeps (fun _ => Lane.powered w s.ep.beat) Lane.state (fun _ => Lane.powered_state w _) (s.lanesOf p)
    (s.setPort p (Port.powered w)) l
  exact each_setLane_mem (fun _ => Lane.powered w s.ep.beat) (fun x => x.state = 5 → x.tx = w.lane ∧ x.rx = w.lane)
    (fun _ => Lane.powered_dirs w _) (s.lanesOf p) _ l hl (hkeep.trans h5)

/-- What a port does with training sets of a stage, after an equalization request was served (R147, R148, R159, R184). -/
def State.takeSets (p stage : Nat) (unused inverted : Nat) (up : Bool) (u : State) : State :=
  if stage = 1 then
    if up then u.portDown p 4 else u.toStage p 1
  else if (u.port p).stage = 5 then
    let gone := (u.lanesOf p).filter (fun l => unused.testBit (l - (u.portLanes u.ep.live p).1) &&
      decide (((u.enterRecovery p).lane l).state = 4))
    if gone.isEmpty then (if stage = 3 then (u.enterRecovery p).toStage p 3 else u.enterRecovery p)
    else (u.enterRecovery p).each gone (fun l s => if (s.lane l).usable then s.laneFail l 5 else s)
  else
    (if up && decide ((u.port p).stage = 3) then u else u.toStage p stage).each (u.lanesOf p) (fun l s => s.setLane l (fun x =>
      if stage = 3 ∧ x.state = 3 ∧ up = false then { x with polarity := inverted.testBit (l - (s.portLanes s.ep.live p).1) } else x))

theorem exec_trainingSetReceived {port : Fin 160} {stage : Fin 5} {unused inverted : BitVec 16} {eq : Option (Fin 16 × PcieEq)} {s : State}
    (hr : s.running = true) (hrole : s.portRole port = 1 ∨ s.portRole port = 2) (h1 : 1 ≤ (s.port port).stage) (hs : 1 ≤ stage.val) :
    exec (.trainingSetReceived port stage unused ⟨inverted, eq⟩) s = .next
      ((if stage.val = 4 then s.equalizeLane port eq else s).takeSets port stage unused.toNat inverted.toNat (s.linkActive port)) := by
  dsimp only [exec, execTrainingSetReceived]
  exact guarded_of (by simp [hr, hrole, h1, hs]) _ s

/-- Training sets of a stage take a port that is not in stage 5 there, and correct the polarity of its pairs in stage 3 of a
first training (R147, R162, R184). -/
theorem State.takeSets_trains {p stage unused inverted : Nat} {up : Bool} {u v : State} (hs : 2 ≤ stage) (h5 : (u.port p).stage ≠ 5)
    (hv : v = if up = true ∧ (u.port p).stage = 3 then u else u.toStage p stage) :
    u.takeSets p stage unused inverted up = v.each (u.lanesOf p) (fun l y => y.setLane l (fun x =>
        if stage = 3 ∧ x.state = 3 ∧ up = false then
          { x with polarity := inverted.testBit (l - (y.portLanes y.ep.live p).1) } else x)) := by
  subst hv
  unfold State.takeSets
  rw [if_neg (by omega), if_neg h5]
  simp only [Bool.and_eq_true, decide_eq_true_eq]

/-- Training sets of stages 2 to 4 take a link that is up through Recovery; lanes that they mark unused fail (R148, R159). -/
theorem State.takeSets_recovers {p stage unused inverted : Nat} {up : Bool} {u : State} {gone : List Nat} (hs : 2 ≤ stage)
    (h5 : (u.port p).stage = 5) (hgone : gone = ((u.lanesOf p).filter (fun l => unused.testBit (l - (u.portLanes u.ep.live p).1) &&
      decide (((u.enterRecovery p).lane l).state = 4)))) :
    u.takeSets p stage unused inverted up = if gone.isEmpty then (if stage = 3 then (u.enterRecovery p).toStage p 3 else u.enterRecovery p)
      else (u.enterRecovery p).each gone (fun l s => if (s.lane l).usable = true then s.laneFail l 5 else s) := by
  subst hgone
  exact (if_neg (by omega)).trans (if_pos h5)

/-- Settles O49. -/
theorem partnersOfALink : Obligations.PartnersOfALink := by
  refine ⟨fun port cls headers data s hr hrole h5 => ?_, fun port stage unused inverted eq gone s u hr hrole h1 hu hgone => ?_,
    fun port s hr => ⟨fun hl1 => ?_, fun hl0 => ?_⟩, fun port s hr hrole hq => ?_⟩
  · dsimp only [exec, execPartnerCreditReturn]
    refine ⟨_, guarded_of (by simp [hr, hrole, h5]) _ s, ?_, ?_, fun c hc => ?_, fun c hc => ?_, fun q hq => ?_, rfl, rfl⟩
    all_goals rw [State.setPort_port]
    · rw [if_pos rfl, Tbl.look_put_self]
    · rw [if_pos rfl, Tbl.look_put_self]
    · rw [if_pos rfl, Tbl.look_put_other _ hc]
    · rw [if_pos rfl, Tbl.look_put_other _ hc]
    · rw [if_neg hq]
  · have run (hs : 1 ≤ stage.val) := exec_trainingSetReceived (unused := unused) (inverted := inverted) (eq := eq) hr hrole h1 hs
    rw [← hu] at run
    have first (hs : stage.val = 1) : u = s := hu.trans (if_neg (by omega))
    refine ⟨fun hs hup => ?_, fun hs hup => ?_, fun hs h5 hg h3 => ?_, fun h3 h5 hg => ?_, fun hs h5 hg => ?_, fun hs h5 => ?_⟩
    · rw [run (by omega), first hs, hs, hup]
      rfl
    · rw [run (by omega), first hs, hs, hup]
      rfl
    · rw [run (by omega), State.takeSets_recovers hs h5 hgone, hg, List.isEmpty_nil, if_pos rfl, if_neg h3]
    · rw [run (by omega), State.takeSets_recovers (by omega) h5 hgone, hg, List.isEmpty_nil, if_pos rfl, if_pos h3]
    · rw [run (by omega), State.takeSets_recovers hs h5 hgone, if_neg (by simpa using hg)]
    · exact ⟨_, rfl, (run (by omega)).trans (congrArg Host.Outcome.next (State.takeSets_trains hs h5 rfl))⟩
  · dsimp only [exec, execL1Exit]
    obtain ⟨hport, hlanes, hcore⟩ := (s.setPort port.val (fun q => { q with idleSince := s.ep.beat })).setPower_acts port.val .l0
    refine ⟨_, guarded_of (by rcases hl1 with h | h | h <;> simp [hr, h]) _ s, ?_, ?_, ?_, fun q hq => ?_, hlanes, hcore⟩
    all_goals rw [hport]
    · rw [if_pos rfl]
      rfl
    · rw [if_pos rfl, State.setPort_port, if_pos rfl]
      rfl
    · rw [if_pos rfl, State.setPort_port, if_pos rfl]
      rfl
    · rw [if_neg hq, State.setPort_port, if_neg hq]
  · dsimp only [exec, execL1Exit]
    exact guarded_of_not (by simp [hl0]) _ s
  · exact exec_invertedMarker hr hrole hq

/-! #### Saves and events of member devices -/

/-- An event that is posted for one endpoint leaves those of the others. -/
theorem State.postEvent_other {e x : Nat} (h : e ≠ x) (kind dpa body : Nat) (s : State) :
    (s.postEvent x kind dpa body).pool.events.look e [] = s.pool.events.look e [] :=
  Tbl.look_put_other _ h _ _

/-- An event of a member device reaches the endpoints that hold the address in one extent (R381). -/
def State.relayEvent (d : Nat) (event : DeviceEvent) (x : Nat × Ext) (s : State) : State :=
  match x.2.members.findIdx? (fun m => decide (m = d)) with
  | none => s
  | some i =>
    if x.2.use = 1 then s.postEvent x.2.owner 0 (x.2.encode i event.dpa.toNat) event.body.toNat
    else s.each ((endpoints s.ep.live).filter (fun e => decide (e.2.kind = 2 ∧ e.2.region = x.2.owner)))
      (fun e s => s.postEvent e.1 0 (x.2.encode i event.dpa.toNat) event.body.toNat)

theorem exec_deviceEventRecord {d : Fin 256} {event : DeviceEvent} {s : State} (hr : s.running = true) (hd : s.devReady d = true) :
    exec (.deviceEventRecord d event) s = .next (s.each ((extentsUsed s.ep.live).filter (fun x =>
      decide (x.2.devBase * unitBytes ≤ event.dpa.toNat ∧ event.dpa.toNat < (x.2.devBase + x.2.devSize) * unitBytes))) (State.relayEvent d event)) := by
  dsimp only [exec, execDeviceEventRecord]
  exact guarded_of (by simp [hr, hd]) _ s

/-- An event of a member device is none of an endpoint that does not hold the address in this extent (R381). -/
theorem State.relayEvent_other {d : Nat} {event : DeviceEvent} {x : Nat × Ext} {e : Nat} {s : State}
    (h : d ∈ x.2.members → (x.2.use = 1 → x.2.owner ≠ e) ∧
      (x.2.use ≠ 1 → ∀ y ∈ endpoints s.ep.live, y.1 = e → y.2.kind ≠ 2 ∨ y.2.region ≠ x.2.owner)) :
    (s.relayEvent d event x).pool.events.look e [] = s.pool.events.look e [] := by
  unfold State.relayEvent
  split
  · rfl
  · next i hi =>
    obtain ⟨hlt, hd, -⟩ := List.findIdx?_eq_some_iff_getElem.1 hi
    obtain ⟨howner, hregion⟩ := h (of_decide_eq_true hd ▸ List.getElem_mem hlt)
    split
    · next huse => exact State.postEvent_other (howner huse).symm _ _ _ s
    · next huse =>
      refine each_inv (fun a b => b.pool.events.look e [] = a.pool.events.look e []) (fun _ => rfl)
        (fun a b c hab hbc => hbc.trans hab) (fun y hy z => State.postEvent_other (fun hey => ?_) _ _ _ z)
      obtain ⟨hmem, hkind, hreg⟩ : y ∈ endpoints s.ep.live ∧ y.2.kind = 2 ∧ y.2.region = x.2.owner := by simpa using hy
      rcases hregion huse y hmem hey.symm with h2 | h2
      · exact h2 hkind
      · exact h2 hreg

theorem State.relayEvent_ep (d : Nat) (event : DeviceEvent) (x : Nat × Ext) (s : State) : (s.relayEvent d event x).ep = s.ep := by
  unfold State.relayEvent
  split
  · rfl
  · split
    · rfl
    · exact each_inv (fun a b => b.ep = a.ep) (fun _ => rfl) (fun a b c hab hbc => hbc.trans hab) (fun _ _ _ => rfl)

/-- The copy that a save of the stored configuration writes: one above the newest copy that passes its check (R120, R121). -/
def StartUnit.newCopy (u : StartUnit) (ok : Bool) (entries : Tbl Nat) : StoredCopy :=
  { generation := (max (if u.copyA.crcOk then u.copyA.generation else 0) (if u.copyB.crcOk then u.copyB.generation else 0) + 1) % 2 ^ 32
    crcOk := ok, entries := entries }

/-- A save takes the place of copy A: a bad one, or the older of two good ones (R120). -/
def StartUnit.savesA (u : StartUnit) : Bool :=
  !u.copyA.crcOk || (u.copyB.crcOk && decide (u.copyA.generation < u.copyB.generation))

theorem exec_storeSaveDone {ok : Bool} {s : State} (hd : s.dieOn = true) (h1 : s.start.storeStatus = 1) :
    exec (.storeSaveDone ok) s = .next (s.setStartUnit (fun u => { u with
      storeStatus := if ok then 2 else 3
      copyA := if s.start.savesA then s.start.newCopy ok s.savedConfig else u.copyA
      copyB := if s.start.savesA then u.copyB else s.start.newCopy ok s.savedConfig })) := by
  dsimp only [exec, execStoreSaveDone]
  exact guarded_of (by simp [hd, h1]) _ s

/-- Settles O50. -/
theorem savesAndDeviceEvents : Obligations.SavesAndDeviceEvents := by
  refine ⟨fun ok s hd h1 => ?_, fun d dpa body s hr hd => ⟨_, exec_deviceEventRecord hr hd, ?_, fun e he => ?_, fun n x i hx huse hi hlo hhi => ?_⟩⟩
  · refine ⟨_, s.start.newCopy ok s.savedConfig, exec_storeSaveDone hd h1, rfl, rfl, rfl, fun hA hB => ?_, fun h => ?_, fun hA h => ?_, rfl, rfl⟩
    · simp [StartUnit.newCopy, hA, hB]
    · have hinto : s.start.savesA = true := by
        rcases h with hA | ⟨hB, hlt⟩
        · simp [StartUnit.savesA, hA]
        · simp [StartUnit.savesA, hB, hlt]
      exact ⟨if_pos hinto, if_pos hinto⟩
    · have hinto : ¬ s.start.savesA = true := by
        rcases h with hB | hle
        · simp [StartUnit.savesA, hA, hB]
        · simp [StartUnit.savesA, hA, hle]
      exact ⟨if_neg hinto, if_neg hinto⟩
  · exact execDeviceEventRecord_only d ⟨dpa, body⟩ s (.refl _ s) rfl _ (exec_deviceEventRecord hr hd)
  · have keeps : ∀ x ∈ (extentsUsed s.ep.live).filter (fun x => decide (x.2.devBase * unitBytes ≤ dpa.toNat ∧
        dpa.toNat < (x.2.devBase + x.2.devSize) * unitBytes)), ∀ z : State, z.ep = s.ep →
        (z.relayEvent d ⟨dpa, body⟩ x).pool.events.look e [] = z.pool.events.look e [] := by
      intro x hx z hz
      obtain ⟨hmem, hlo, hhi⟩ : x ∈ extentsUsed s.ep.live ∧ x.2.devBase * unitBytes ≤ dpa.toNat ∧
        dpa.toNat < (x.2.devBase + x.2.devSize) * unitBytes := by simpa using hx
      exact State.relayEvent_other (fun hd => hz ▸ he x hmem hd hlo hhi)
    exact (each_inv (fun a b => a.ep = s.ep → b.ep = s.ep ∧ b.pool.events.look e [] = a.pool.events.look e []) (fun _ h => ⟨h, rfl⟩)
      (fun a b c hab hbc ha => ⟨(hbc (hab ha).1).1, (hbc (hab ha).1).2.trans (hab ha).2⟩)
      (fun x hx z hz => ⟨(State.relayEvent_ep _ _ _ z).trans hz, keeps x hx z hz⟩) rfl).2
  · have hone : (extentsUsed s.ep.live).filter (fun x => decide (x.2.devBase * unitBytes ≤ dpa.toNat ∧
        dpa.toNat < (x.2.devBase + x.2.devSize) * unitBytes)) = [(n, x)] := by
      rw [hx, List.filter_cons_of_pos (by simp [hlo, hhi]), List.filter_nil]
    rw [hone, State.each_cons, State.each_nil, State.relayEvent, hi]
    exact if_pos huse

end Sys2Proof.Machine

/-!
### Attaching, detaching and moving homes (chapter 18)
-/

namespace Sys2Proof.Machine

/-! #### Control messages of the Garnet link -/

/-- The next frame in order, where it is good, is accepted and acted on (R358, R616). -/
theorem State.garnetAccept_next {h : GarnetHead} {kind code : Nat} {body : List Nat} {s : State} (hn : s.garnetNext h kind code body)
    (f : State → State) : s.garnetAccept h kind code body f = f s.garnetTaken := by
  obtain ⟨-, hspells, hok, hseq⟩ := hn
  exact (if_neg (by simp [hspells])).trans ((if_neg (by simp [hok])).trans (if_pos hseq))

/-- A control message that is the next frame in order raises interrupt source 6 and is acted on (R618). -/
theorem guarded_message {h : GarnetHead} {code : Nat} {body : List Nat} {s : State} (hn : s.garnetNext h 3 code body) (f : State → State) :
    guarded s.garnetUp (State.message h code body f) s = .next (f (s.garnetTaken.interrupt 6)) :=
  (guarded_of hn.1 _ s).trans (congrArg Host.Outcome.next (State.garnetAccept_next hn _))

/-! #### What a change of the pair state leaves -/

/-- What no list of the mirror is, of the pairing, stays where the pairing stays. -/
theorem OnlyChanges.twin {s t : State} (h : OnlyChanges (but [.pairing]) s t) {β : Type} (f : Twin → β) (hf : ∀ x : Twin,
    f { x with opened := 0, closes := [], queue := [], unacked := [], nextRecord := 0, acked := 0, held := [] } = f x) :
    f t.twin = f s.twin :=
  (hf _).symm.trans ((congrArg f (h .pairing (by decide))).trans (hf _))

/-- A change of the pair state is told, and changes nothing else of the pairing (R633, R661). -/
theorem State.setPair_twin (c : PairState) (s : State) :
    (s.setPair c).twin.state = c ∧ (s.setPair c).twin.attachResult = s.twin.attachResult ∧ (s.setPair c).ep = s.ep ∧
    (s.setPair c).home = s.home := by
  let z : State := { s with twin := { s.twin with state := c } }
  have told (ps : List Part) (h : within [.groups, .lanes, .ports, .scans, .funcs, .vectors, .instances, .sources, .mirror, .sessions,
      .views, .outputs] ps = true) : OnlyChanges ps z (s.setPair c) := State.notify_only 3 0 [c.code] z (.refl ps z) h
  exact ⟨(told _ rfl).twin Twin.state (fun _ => rfl), (told _ rfl).twin Twin.attachResult (fun _ => rfl), (told _ rfl).ep, (told _ rfl).home⟩

/-- Showing and hiding the shared endpoints leaves the pairing, the tables and the ledger alone (R615). -/
theorem State.refreshShared_keeps (s : State) :
    s.refreshShared.twin.state = s.twin.state ∧ s.refreshShared.twin.homes = s.twin.homes ∧ s.refreshShared.ep = s.ep ∧
    s.refreshShared.home = s.home := by
  have shows (ps : List Part) (h : within [.groups, .lanes, .ports, .scans, .hiers, .bridges, .mirror, .outputs] ps = true) :
      OnlyChanges ps s s.refreshShared := State.refreshShared_only s (.refl ps s) h
  exact ⟨(shows _ rfl).twin Twin.state (fun _ => rfl), (shows _ rfl).twin Twin.homes (fun _ => rfl), (shows _ rfl).ep, (shows _ rfl).home⟩

/-- Recalling pages leaves the pairing, the tables, the fabric and the buffer alone (R421). -/
theorem each_recallPage_keeps (es : List Entry) (s : State) :
    (s.each es (fun e s => s.recallPage e.region e.page)).twin.moving = s.twin.moving ∧
    (s.each es (fun e s => s.recallPage e.region e.page)).twin.moveSent = s.twin.moveSent ∧
    (s.each es (fun e s => s.recallPage e.region e.page)).ep = s.ep ∧ (s.each es (fun e s => s.recallPage e.region e.page)).fab = s.fab ∧
    (s.each es (fun e s => s.recallPage e.region e.page)).core = s.core := by
  have recalls (ps : List Part) (h : within [.groups, .lanes, .ports, .scans, .ledger, .homeSlots, .sources, .mirror, .views, .outputs] ps
      = true) : OnlyChanges ps s (s.each es (fun e s => s.recallPage e.region e.page)) :=
    State.each_only es _ s (.refl ps s) (fun e z hz => State.recallPage_only e.region e.page z hz h)
  exact ⟨(recalls _ rfl).twin Twin.moving (fun _ => rfl), (recalls _ rfl).twin Twin.moveSent (fun _ => rfl), (recalls _ rfl).ep, (recalls _ rfl).fab, (recalls _ rfl).core⟩

/-! #### The twin's sync done -/

/-- A module that attaches is Paired once both sync-done messages have been acknowledged (R635). -/
theorem State.tryPaired_paired {s : State} (h : s.twin.state = .attaching) (ha : s.twin.syncAcked = true) (hg : s.twin.syncGot = true) :
    s.tryPaired.twin.state = .paired ∧ s.tryPaired.twin.attachResult = 1 ∧ s.tryPaired.home = s.home := by
  rw [State.tryPaired, if_pos ⟨h, ha, hg⟩]
  obtain ⟨hstate, hresult, -, hhome⟩ := State.setPair_twin .paired { s with twin := { s.twin with attachResult := 1 } }
  exact ⟨hstate, hresult, hhome⟩

/-- Settles O45: a request is answered by the pair states, and each message of the twin is acted on. -/
theorem twinPairing : Obligations.TwinPairing := by
  refine ⟨?requests, ?attachMessage, ?accept, ?refuse, ?syncDone, ?detachMessage, ?homeMove, ?homeMoveMessage, ?zeros, ?query⟩
  case requests =>
    refine fun s ho => ⟨fun h1 h5 ha hb hc => ?_, fun h => ?_, fun h => ?_, fun h => ?_, fun h => ?_, fun h => ?_⟩
    · dsimp only [exec, execAttachRequest]
      exact (if_neg (by decide)).trans ((commandWrite_open ho _).trans (congrArg Host.Outcome.next (if_pos ⟨h1, h5, ha, hb, hc⟩)))
    · dsimp only [exec, execAttachRequest]
      refine (if_neg (by decide)).trans ((commandWrite_open ho _).trans (congrArg Host.Outcome.next (if_neg ?_)))
      rintro ⟨h1, h5, ha, hb, hc⟩
      rcases h with h | h | h | h | h
      · exact h h1
      · exact h h5
      · simp [h] at ha
      · simp [h] at hb
      · exact hc h
    · dsimp only [exec, execDetachRequest]
      exact (if_neg (by decide)).trans ((commandWrite_open ho _).trans (congrArg Host.Outcome.next (if_pos h)))
    · dsimp only [exec, execDetachRequest]
      exact (if_neg (by decide)).trans ((commandWrite_open ho _).trans (congrArg Host.Outcome.next (if_neg h)))
    · obtain ⟨hstate, -, hep, hhome⟩ := s.setPair_twin .single
      obtain ⟨hstate', -, hep', hhome'⟩ := (s.setPair .single).refreshShared_keeps
      dsimp only [exec, execServeAlone]
      exact ⟨_, (if_neg (by decide)).trans ((commandWrite_open ho _).trans (congrArg Host.Outcome.next (if_pos h))), hstate'.trans hstate, hep'.trans hep,
        hhome'.trans hhome⟩
    · dsimp only [exec, execServeAlone]
      exact (if_neg (by decide)).trans ((commandWrite_open ho _).trans (congrArg Host.Outcome.next (if_neg h)))
  case attachMessage =>
    refine fun h differs s hn => ⟨fun hoff => ?_, fun hon ha hr => ?_, fun hon ha hr => ?_⟩
    · change guarded _ _ s = _
      exact (guarded_message hn _).trans (congrArg Host.Outcome.next (if_pos hoff))
    · change guarded _ _ s = _
      exact (guarded_message hn _).trans (congrArg Host.Outcome.next ((if_neg (not_or.2 ⟨hon, ne_false_of_eq_true ha⟩)).trans (if_pos hr)))
    · change guarded _ _ s = _
      exact (guarded_message hn _).trans (congrArg Host.Outcome.next ((if_neg (not_or.2 ⟨hon, ne_false_of_eq_true ha⟩)).trans (if_neg hr)))
  case accept =>
    refine fun h s hn => ⟨fun hasked ha => ?_, fun hnot => ?_⟩
    · change guarded _ _ s = _
      exact (guarded_message hn _).trans (congrArg Host.Outcome.next (if_pos (Bool.and_eq_true_iff.2 ⟨hasked, ha⟩)))
    · change guarded _ _ s = _
      exact (guarded_message hn _).trans (congrArg Host.Outcome.next (if_neg (ne_true_of_eq_false (Bool.and_eq_false_iff.2 hnot))))
  case refuse => exact fun h reason s hn => guarded_message hn _
  case syncDone =>
    refine fun h s hn => ⟨fun hst hack => ?_, fun hst hack => ?_, fun hst => ?_⟩
    · change ∃ u, guarded _ _ s = .next u ∧ _
      exact ⟨_, (guarded_message hn _).trans (congrArg Host.Outcome.next (if_pos hst)), State.tryPaired_paired hst hack rfl⟩
    · change ∃ u, guarded _ _ s = .next u ∧ _
      refine ⟨_, (guarded_message hn _).trans (congrArg Host.Outcome.next (if_pos hst)), ?_⟩
      rw [State.tryPaired, if_neg (fun hall => absurd (hack.symm.trans hall.2.1) Bool.false_ne_true)]
      exact ⟨hst, rfl, rfl⟩
    · change guarded _ _ s = _
      exact (guarded_message hn _).trans (congrArg Host.Outcome.next (if_neg hst))
  case detachMessage =>
    refine fun h s hn => ⟨fun hst => ?_, fun hst => ?_⟩
    · change guarded _ _ s = _
      exact (guarded_message hn _).trans (congrArg Host.Outcome.next (if_pos hst))
    · change guarded _ _ s = _
      exact (guarded_message hn _).trans (congrArg Host.Outcome.next (if_neg hst))
  case homeMove =>
    refine fun region s ho => ⟨fun hbig => ?_, fun hr hst hv hhome hmove => ?_, fun hr hnot => ?_⟩
    · dsimp only [exec, execHomeMove]
      exact (commandWrite_open ho _).trans (congrArg Host.Outcome.next (if_pos hbig))
    · dsimp only [exec, execHomeMove]
      exact ⟨_, (commandWrite_open ho _).trans (congrArg Host.Outcome.next ((if_neg (by omega)).trans (if_pos ⟨hst, hv, hhome, hmove⟩))),
        each_recallPage_keeps _ _⟩
    · dsimp only [exec, execHomeMove]
      refine (commandWrite_open ho _).trans (congrArg Host.Outcome.next ((if_neg (by omega)).trans (if_neg ?_)))
      rintro ⟨hst, hv, hhome, hmove⟩
      rcases hnot with h | h | h | h
      · exact h hst
      · exact absurd (h.symm.trans hv) Bool.false_ne_true
      · exact h hhome
      · exact h hmove
  case homeMoveMessage =>
    refine fun h region s hn => ⟨fun hst => ?_, fun hst => ?_⟩
    · change ∃ u, guarded _ _ s = .next u ∧ _
      refine ⟨_, (guarded_message hn _).trans (congrArg Host.Outcome.next (if_pos hst)), ?_⟩
      obtain ⟨-, hhomes, -, hhome⟩ := State.refreshShared_keeps
        { s.garnetTaken.interrupt 6 with twin := { s.twin with homes := s.twin.homes.put region.val 0 } }
      exact ⟨(congrArg (fun t : Tbl Nat => t.look region.val 2) hhomes).trans (Tbl.look_put_self _ _ _ _), hhome,
        fun r hr => (congrArg (fun t : Tbl Nat => t.look r 2) hhomes).trans (Tbl.look_put_other _ hr _ _)⟩
    · change guarded _ _ s = _
      exact (guarded_message hn _).trans (congrArg Host.Outcome.next (if_neg hst))
  case zeros => exact fun s hup => ⟨guarded_of hup _ s, guarded_of hup _ s, guarded_of hup _ s⟩
  case query =>
    intro q s ho
    dsimp only [exec, execTwinQuery]
    exact commandWrite_open ho _

end Sys2Proof.Machine

/-!
### Handshakes of ADP (chapter 19, R647 to R654)
-/

namespace Sys2Proof.Machine

/-- A message on a path that listens is handled (R642, R643). -/
theorem received_of {p : AdpPath} {s : State} (h : s.adpListens p) (f : State → State) : received p f s = .next (f (s.arrived p)) :=
  guarded_of (by simp [h.1, h.2]) _ s

/-! #### What an arrival leaves -/

section
variable (p : AdpPath) (s : State)

theorem State.arrived_adp : (s.arrived p).adp = s.adp := by cases p <;> rfl

theorem State.arrived_ep : (s.arrived p).ep = s.ep := by cases p <;> rfl

theorem State.arrived_free : (s.arrived p).free = s.free := by cases p <;> rfl

theorem State.arrived_moving : (s.arrived p).irq.moving = s.irq.moving := by cases p <;> rfl

theorem State.arrived_anchorsValid : (s.arrived p).anchorsValid = s.anchorsValid := by cases p <;> rfl

theorem State.arrived_sessionsFull (m : Option Nat) : (s.arrived p).sessionsFull m = s.sessionsFull m := by cases p <;> rfl

theorem State.arrived_halfOpen : (s.arrived p).halfOpen = s.halfOpen := by cases p <;> rfl

theorem State.arrived_handshake (q : AdpPath) (n : Nat) : (s.arrived p).handshake q n = s.handshake q n := by cases p <;> rfl

theorem State.arrived_sessionGrant (x : Session) (ok : Bool) (a : Option (Fin 64)) (self : Bool) :
    (s.arrived p).sessionGrant x ok a self = s.sessionGrant x ok a self := by cases p <;> rfl

end

/-! #### HELLO -/

/-- The half-open session that HELLO opens takes the next number (R647, R652). -/
def State.opened (p : AdpPath) (level chainLen : Nat) (s : State) : State :=
  { s with adp := { s.adp with
      sessions := s.adp.sessions ++ [{ number := s.adp.nextSession, mailbox := mailboxOf p, helloBeat := s.ep.beat,
                                       requested := level, chainLen := chainLen }]
      nextSession := s.adp.nextSession % (2 ^ 32 - 1) + 1 } }

/-- The checks of HELLO in their order (R647, R650 to R652, R663). -/
theorem exec_hello {path : AdpPath} {version level : BitVec 8} {chainLen : BitVec 16} {s : State} (hl : s.adpListens path) :
    exec (.hello path version level chainLen) s = .next (
      if version ≠ 1#8 then s.arrived path
      else if s.irq.moving.contains 0 = true then (s.arrived path).refuse path 0 1
      else if s.anchorsValid.isEmpty ∧ (mailboxOf path).isSome then (s.arrived path).refuseCheck path 0 4
      else if level.toNat = 0 ∨ 3 < level.toNat ∨ chainLen.toNat = 0 ∨ 8192 < chainLen.toNat then (s.arrived path).refuseCheck path 0 2
      else if s.sessionsFull (mailboxOf path) = true ∨ 4 ≤ s.halfOpen.length then (s.arrived path).refuseLimit path 0
      else ((s.arrived path).opened path level.toNat chainLen.toNat).helloReply path s.adp.nextSession) := by
  dsimp only [exec, execHello]
  refine (received_of hl _).trans ?_
  rw [State.arrived_moving, State.arrived_anchorsValid, State.arrived_sessionsFull, State.arrived_halfOpen, State.arrived_adp,
    State.arrived_ep]
  rw [State.opened, State.arrived_adp, State.arrived_ep]

/-- A session that a handshake message does not name, or that meets the move of its task set, ends the message (R560, R652). -/
theorem exec_chain {path : AdpPath} {session : BitVec 32} {offset : BitVec 16} {len : Fin 1025} {s : State} (hl : s.adpListens path) :
    (s.handshake path session.toNat = none → exec (.chain path session offset len) s = .next (s.arrived path)) ∧
    (∀ x, s.handshake path session.toNat = some x → exec (.chain path session offset len) s = .next (
      if s.irq.moving.contains 0 = true then (s.arrived path).refuse path x.number 1
      else if x.chainGot < offset.toNat ∨ x.chainLen < offset.toNat + len.val then (s.arrived path).refuseCheck path x.number 2
      else (s.arrived path).setSession x.number (fun y => { y with chainGot := max y.chainGot (offset.toNat + len.val) }))) := by
  dsimp only [exec, execChain]
  refine ⟨fun h => (received_of hl _).trans ?_, fun x h => (received_of hl _).trans ?_⟩ <;>
    rw [State.arrived_handshake, h]
  dsimp only
  rw [State.arrived_moving]

/-- The checks of FINISH in their order (R649 to R652). -/
theorem exec_finish {path : AdpPath} {session : BitVec 32} {signatureOk chainOk selfSigned : Bool} {anchor : Option (Fin 64)} {s : State}
    (hl : s.adpListens path) :
    (s.handshake path session.toNat = none → exec (.finish path session signatureOk chainOk anchor selfSigned) s = .next (s.arrived path)) ∧
    (∀ x, s.handshake path session.toNat = some x → exec (.finish path session signatureOk chainOk anchor selfSigned) s = .next (
      if s.irq.moving.contains 0 = true then (s.arrived path).refuse path x.number 1
      else if (!signatureOk || decide (x.chainGot ≠ x.chainLen)) = true then (s.arrived path).refuseCheck path x.number 4
      else match s.sessionGrant x chainOk anchor selfSigned with
        | .error c => (s.arrived path).refuseCheck path x.number c
        | .ok (a, level, dom) =>
          if s.sessionsFull (mailboxOf path) = true then (s.arrived path).refuseLimit path x.number
          else State.sendAdp path x.number 3 5 0 0 99 [level, dom, Config.freeValue 11 s.free]
            { (s.arrived path).setSession x.number (fun y => { y with
                halfOpen := false, anchor := a, level := level, domain := dom, lastBeat := s.ep.beat, unclaimed := a.isNone }) with
              free := s.free + 1 })) := by
  dsimp only [exec, execFinish]
  refine ⟨fun h => (received_of hl _).trans ?_, fun x h => (received_of hl _).trans ?_⟩ <;>
    rw [State.arrived_handshake, h]
  dsimp only
  rw [State.arrived_moving, State.arrived_sessionsFull, State.arrived_sessionGrant, State.arrived_ep]
  cases path <;> rfl

/-- Settles O46: each check of a handshake is made in its order, on what the arrival left as it was. -/
theorem adpHandshakes : Obligations.AdpHandshakes := by
  refine ⟨?hello, ?noHandshake, ?chain, ?finish, ?timeouts, ?ended⟩
  case hello =>
    intro path version level chainLen s hl
    have run := exec_hello (version := version) (level := level) (chainLen := chainLen) hl
    have claimed (h : s.anchorsValid ≠ [] ∨ mailboxOf path = none) : ¬ (s.anchorsValid.isEmpty = true ∧ (mailboxOf path).isSome = true) := by
      rintro ⟨ha, hb⟩
      rcases h with h | h
      · exact h (List.isEmpty_iff.1 ha)
      · simp [h] at hb
    refine ⟨fun hv => ?_, fun hv hm => ?_, fun hv hm ha hb => ?_, fun hv hm ha hbad => ?_, fun hv hm ha h1 h3 hc hc' => ⟨fun hfull => ?_, fun hroom hfew => ?_⟩⟩
    · rw [run, if_pos hv]
    · rw [run, if_neg (not_not_intro hv), if_pos hm]
    · rw [run, if_neg (not_not_intro hv), if_neg (ne_true_of_eq_false hm),
        if_pos ⟨by simp [ha], Option.isSome_iff_ne_none.2 hb⟩]
    · rw [run, if_neg (not_not_intro hv), if_neg (ne_true_of_eq_false hm), if_neg (claimed ha), if_pos hbad]
    · rw [run, if_neg (not_not_intro hv), if_neg (ne_true_of_eq_false hm), if_neg (claimed ha), if_neg (by omega), if_pos hfull]
    · rw [run, if_neg (not_not_intro hv), if_neg (ne_true_of_eq_false hm), if_neg (claimed ha), if_neg (by omega),
        if_neg (not_or.2 ⟨ne_true_of_eq_false hroom, by omega⟩)]
      cases path <;> rfl
  case noHandshake =>
    intro path session offset len signatureOk chainOk selfSigned anchor s hl
    refine ⟨fun h => ⟨(exec_chain hl).1 h, (exec_finish hl).1 h⟩, fun x h hm => ⟨?_, ?_⟩⟩
    · rw [(exec_chain hl).2 x h, if_pos hm]
    · rw [(exec_finish hl).2 x h, if_pos hm]
  case chain =>
    intro path session offset len x s hl h hm
    refine ⟨fun hgap hend => ?_, fun hbad => ?_⟩
    · rw [(exec_chain hl).2 x h, if_neg (ne_true_of_eq_false hm), if_neg (by omega)]
    · rw [(exec_chain hl).2 x h, if_neg (ne_true_of_eq_false hm), if_pos hbad]
  case finish =>
    intro path session signatureOk chainOk selfSigned anchor x s hl h hm
    refine ⟨fun hbad => ?_, fun hsig hlen => ⟨fun c hg => ?_, fun a level dom hg => ⟨fun hfull => ?_, fun hroom => ?_⟩⟩⟩
    · rw [(exec_finish hl).2 x h, if_neg (ne_true_of_eq_false hm), if_pos (by simpa using hbad)]
    · rw [(exec_finish hl).2 x h, if_neg (ne_true_of_eq_false hm), if_neg (by simp [hsig, hlen]), hg]
    · rw [(exec_finish hl).2 x h, if_neg (ne_true_of_eq_false hm), if_neg (by simp [hsig, hlen]), hg]
      exact congrArg Host.Outcome.next (if_pos hfull)
    · rw [(exec_finish hl).2 x h, if_neg (ne_true_of_eq_false hm), if_neg (by simp [hsig, hlen]), hg]
      exact congrArg Host.Outcome.next (if_neg (ne_true_of_eq_false hroom))
  case timeouts =>
    refine fun n x s hd hx hn => ⟨fun hhalf hlate => ?_, fun hopen hlate => ?_⟩
    · dsimp only [exec, execHandshakeTimeout]
      refine guarded_of ?_ _ s
      rw [hd, Bool.true_and]
      exact List.any_eq_true.2 ⟨x, hx, by simp [hn, hhalf, hlate]⟩
    · dsimp only [exec, execIdleTimeout]
      refine guarded_of ?_ _ s
      rw [hd, Bool.true_and]
      exact List.any_eq_true.2 ⟨x, hx, by simp [hn, hopen, hlate]⟩
  case ended =>
    intro n s x
    exact List.mem_filter.trans (by simp)

end Sys2Proof.Machine

/-!
### Messages of an ADP session (chapter 19, R645, R646, R654 to R661)
-/

namespace Sys2Proof.Machine

/-! #### What becomes of a message -/

section
variable {h : AdpHead} {x : Session} {s : State}

theorem State.arrived_openSessions (p : AdpPath) (s : State) : (s.arrived p).openSessions = s.openSessions := by cases p <;> rfl

/-- A message of another version is discarded (R645). -/
theorem received_otherVersion (hl : s.adpListens h.path) (hv : h.version ≠ 1#8) (f : Session → State → State) :
    received h.path (State.adpMessage h f) s = .next (s.arrived h.path) :=
  (received_of hl _).trans (congrArg Host.Outcome.next (if_pos hv))

/-- A message of an open session is judged by its tag, its number and what was accepted before (R646, R654, R659, R660). -/
theorem received_ofSession (hl : s.adpListens h.path) (hv : h.version = 1#8)
    (hx : s.openSessions.find? (fun y => decide (y.number = h.session ∧ y.mailbox = mailboxOf h.path)) = some x)
    (f : Session → State → State) : received h.path (State.adpMessage h f) s = .next (
      if (!h.tagOk) = true then
        if 15 ≤ x.tagFails then (((s.arrived h.path).bump 0x1110 3).raise 418).endSession x.number
        else (((s.arrived h.path).bump 0x1110 3).raise 418).setSession x.number (fun y => { y with tagFails := y.tagFails + 1 })
      else if 2 ^ 32 ≤ h.seq then (s.arrived h.path).endSession x.number
      else if (!x.isNew h.seq) = true then
        match x.kept.find? (fun r => decide (r.seq = h.seq)) with
        | some r => ((s.arrived h.path).bump 0x1110 4).sendAdp h.path x.number 1 r.op r.own r.ref r.len r.body
        | none => (s.arrived h.path).bump 0x1110 4
      else f (x.took h.seq s.ep.beat) (s.adpTaken h x)) := by
  refine (received_of hl _).trans (congrArg Host.Outcome.next ?_)
  unfold State.adpMessage
  rw [if_neg (not_not_intro hv), State.arrived_openSessions, hx]
  dsimp only
  rw [State.arrived_ep]
  rfl

/-- A new message of a session is acted on (R659). -/
theorem received_new (hn : s.adpNew h x) (f : Session → State → State) :
    received h.path (State.adpMessage h f) s = .next (f (x.took h.seq s.ep.beat) (s.adpTaken h x)) := by
  obtain ⟨hl, hv, hx, htag, hseq, hnew⟩ := hn
  rw [received_ofSession hl hv hx, if_neg (by simp [htag]), if_neg (by omega), if_neg (by simp [hnew])]

theorem State.adpTaken_moving (h : AdpHead) (x : Session) (s : State) : (s.adpTaken h x).irq.moving = s.irq.moving :=
  State.arrived_moving h.path s

theorem State.adpTaken_starting (h : AdpHead) (x : Session) (s : State) : (s.adpTaken h x).starting = s.starting := by
  unfold State.adpTaken
  cases h.path <;> rfl

/-- A new request without items is checked, answered, and then takes effect (R560, R685). -/
theorem received_request (hn : s.adpNew h x) (op level : Nat) (status : Session → State → Nat) (f : Session → State → State) (c : Nat)
    (hc : c = if s.irq.moving.contains 0 = true then 1 else if x.level < level then 4 else if (!h.bodyOk) = true then 7
      else status (x.took h.seq s.ep.beat) (s.adpTaken h x)) :
    received h.path (State.request h op level status f) s = .next (
      if c = 0 then f (x.took h.seq s.ep.beat) ((s.adpTaken h x).respond h (x.took h.seq s.ep.beat) op 1 [c])
      else (s.adpTaken h x).respond h (x.took h.seq s.ep.beat) op 1 [c]) := by
  subst hc
  refine (received_new hn _).trans (congrArg Host.Outcome.next ?_)
  rw [State.adpTaken_moving]
  rfl

/-- The items of a new READ are answered, each with its own status, where the message and its response fit (R656, R657). -/
theorem exec_adpRead {items : List AdpItem} (hw : ∀ i ∈ items, i.wf = true) (hn : s.adpNew h x) (r : List Nat × Nat)
    (hr : r = (s.adpTaken h x).readItems (x.took h.seq s.ep.beat) items) :
    exec (.adpRead h items) s = .next (
      if s.irq.moving.contains 0 = true then (s.adpTaken h x).respond h (x.took h.seq s.ep.beat) 0x10 1 [1]
      else if (!h.bodyOk || decide (bodyLimit h.path < 8 * items.length)) = true then
        (s.adpTaken h x).respond h (x.took h.seq s.ep.beat) 0x10 1 [7]
      else if bodyLimit h.path < r.2 then (s.adpTaken h x).respond h (x.took h.seq s.ep.beat) 0x10 1 [8]
      else ((s.adpTaken h x).respond h (x.took h.seq s.ep.beat) 0x10 r.2 (0 :: r.1)).ifDo (items.any readsConfig0) State.parityCheck) := by
  subst hr
  dsimp only [exec, execAdpRead]
  refine (if_neg (ne_false_of_eq_true (List.all_eq_true.2 hw))).trans ((received_new hn _).trans ?_)
  rw [State.adpTaken_moving]

/-- The first status of the items of a WRITE that is not zero, or zero (R658). -/
def writeStatus (cs : List Nat) : Nat := (cs.find? (fun c => decide (c ≠ 0))).getD 0

theorem writeStatus_zero {cs : List Nat} (h : ∀ c ∈ cs, c = 0) : writeStatus cs = 0 := by
  rw [writeStatus, List.find?_eq_none.2 (fun c hc => by simp [h c hc]), Option.getD_none]

theorem writeStatus_ne_zero {cs : List Nat} {c : Nat} (hc : c ∈ cs) (h : c ≠ 0) : writeStatus cs ≠ 0 := by
  cases hfind : cs.find? (fun c => decide (c ≠ 0)) with
  | none => exact absurd (List.find?_eq_none.1 hfind c hc) (by simp [h])
  | some d =>
    rw [writeStatus, hfind, Option.getD_some]
    simpa using List.find?_some hfind

/-- A new WRITE is checked whole: all of its items take effect behind the response, or none does (R658, R685). -/
theorem exec_adpWrite {items : List AdpItem} {cycle : Fin 256} (hw : ∀ i ∈ items, i.wf = true) (hn : s.adpNew h x) (c : Nat) (u : State)
    (hc : c = writeStatus (items.map (fun i => (s.adpTaken h x).sessionItem (x.took h.seq s.ep.beat) i cycle)))
    (hu : u = (s.adpTaken h x).respond h (x.took h.seq s.ep.beat) 0x11 (1 + 8 * items.length)
      (c :: items.map (fun i => itemHeader i ((s.adpTaken h x).sessionItem (x.took h.seq s.ep.beat) i cycle) i.code 0))) :
    exec (.adpWrite h items cycle) s = .next (
      if s.irq.moving.contains 0 = true then (s.adpTaken h x).respond h (x.took h.seq s.ep.beat) 0x11 1 [1]
      else if (!h.bodyOk || decide (bodyLimit h.path < (items.map (fun i => 8 + padded i.len)).sum)) = true then
        (s.adpTaken h x).respond h (x.took h.seq s.ep.beat) 0x11 1 [7]
      else if c = 0 then (u.each items (State.writeItem (x.took h.seq s.ep.beat) cycle)).endThrough
        ((items.filter (fun i => decide (i.index = 0x1120))).map (·.sub))
      else u) := by
  subst hu hc
  dsimp only [exec, execAdpWrite]
  refine (if_neg (ne_false_of_eq_true (List.all_eq_true.2 hw))).trans ((received_new hn _).trans ?_)
  rw [State.adpTaken_moving, List.map_map, List.map_map]
  rfl

end

/-- Settles O47: a message is judged by its version, session, tag and number; a new request by the checks of its kind, and its
response precedes its effect. -/
theorem adpMessages : Obligations.AdpMessages := by
  refine ⟨?version, ?discarded, ?new, ?items⟩
  case version =>
    refine fun h s hl hv => ⟨received_otherVersion hl hv _, received_otherVersion hl hv _, received_otherVersion hl hv _⟩
  case discarded =>
    intro h x s hl hv hx
    have run : exec (.nop h) s = _ := received_ofSession hl hv hx _
    refine ⟨fun htag hfew => ?_, fun htag hmany => ?_, fun htag hseq hold => ⟨fun hnone => ?_, fun r hr => ?_⟩⟩
    · rw [run, if_pos (by simp [htag]), if_neg (by omega)]
    · rw [run, if_pos (by simp [htag]), if_pos hmany]
    · rw [run, if_neg (by simp [htag]), if_neg (by omega), if_pos (by simp [hold]), hnone]
    · rw [run, if_neg (by simp [htag]), if_neg (by omega), if_pos (by simp [hold]), hr]
  case new =>
    intro h x s hn
    refine ⟨received_new hn _, fun hm => ?_, fun hm hlevel => ⟨fun hb => ?_, fun hb => ⟨?_, fun mask hs => ?_, fun mask hs => ?_⟩,
      fun token cycle hlow => ?_, fun token cycle h2 hb hcl hc => ?_, fun token cycle c h2 hb hc h0 => ?_, fun items hw hb hfit => ?_,
      fun items cycle hw hb hfit => ?_⟩⟩
    · exact (received_request hn 0x14 1 _ _ 1 (if_pos hm).symm).trans rfl
    all_goals have hm := ne_true_of_eq_false hm
    · exact (received_request hn 0x14 1 _ _ 7 (by rw [if_neg hm, if_neg (by omega), if_pos (by simp [hb])])).trans rfl
    · exact (received_request hn 0x14 1 _ _ 0 (by rw [if_neg hm, if_neg (by omega), if_neg (by simp [hb])])).trans rfl
    · refine (received_request hn 0x13 1 _ _ 1 ?_).trans rfl
      rw [if_neg hm, if_neg (by omega), if_neg (by simp [hb]), State.adpTaken_starting, if_pos hs]
    · refine (received_request hn 0x13 1 _ _ 0 ?_).trans rfl
      rw [if_neg hm, if_neg (by omega), if_neg (by simp [hb]), State.adpTaken_starting, if_neg (ne_true_of_eq_false hs)]
    · exact (received_request hn 0x12 2 _ _ 4 (by rw [if_neg hm, if_pos hlow])).trans rfl
    · refine (received_request hn 0x12 2 _ _ 0 ?_).trans rfl
      rw [if_neg hm, if_neg (by omega), if_neg (by simp [hb])]
      exact ((if_neg (ne_true_of_eq_false hcl)).trans hc).symm
    · refine (received_request hn 0x12 2 _ _ c ?_).trans (congrArg Host.Outcome.next (if_neg h0))
      rw [if_neg hm, if_neg (by omega), if_neg (by simp [hb])]
      exact hc
    · have fits : ¬ (!h.bodyOk || decide (bodyLimit h.path < 8 * items.length)) = true := by simpa [hb] using hfit
      refine ⟨fun hlen => ?_, fun hlen => ?_⟩
      · exact (exec_adpRead hw hn _ rfl).trans (congrArg Host.Outcome.next ((if_neg hm).trans ((if_neg fits).trans (if_neg (by omega)))))
      · exact (exec_adpRead hw hn _ rfl).trans (congrArg Host.Outcome.next ((if_neg hm).trans ((if_neg fits).trans (if_pos hlen))))
    · have fits : ¬ (!h.bodyOk || decide (bodyLimit h.path < (items.map (fun i => 8 + padded i.len)).sum)) = true := by
        simpa [hb] using hfit
      refine ⟨fun hall => ?_, fun i hi hne => ?_⟩
      · have hzero : writeStatus (items.map (fun i => (s.adpTaken h x).sessionItem (x.took h.seq s.ep.beat) i cycle)) = 0 :=
          writeStatus_zero (by simpa using hall)
        have hheads : items.map (fun i => itemHeader i 0 i.code 0) =
            items.map (fun i => itemHeader i ((s.adpTaken h x).sessionItem (x.took h.seq s.ep.beat) i cycle) i.code 0) :=
          List.map_congr_left (fun i hi => by rw [hall i hi])
        rw [hheads]
        exact (exec_adpWrite hw hn 0 _ hzero.symm rfl).trans (congrArg Host.Outcome.next ((if_neg hm).trans ((if_neg fits).trans (if_pos rfl))))
      · have hne := writeStatus_ne_zero (List.mem_map_of_mem (f := fun i => (s.adpTaken h x).sessionItem (x.took h.seq s.ep.beat) i cycle) hi) hne
        exact ⟨_, hne, (exec_adpWrite hw hn _ _ rfl rfl).trans (congrArg Host.Outcome.next ((if_neg hm).trans ((if_neg fits).trans
          (if_neg hne))))⟩
  case items =>
    intro h x items cycle s hn
    refine ⟨fun hbad => ?_, fun hw hm => ?_, fun hw hm hb => ?_⟩
    · have hall : items.all AdpItem.wf = false := by simpa using hbad
      exact ⟨if_pos hall, if_pos hall⟩
    · exact ⟨(exec_adpRead hw hn _ rfl).trans (congrArg Host.Outcome.next (if_pos hm)),
        (exec_adpWrite hw hn _ _ rfl rfl).trans (congrArg Host.Outcome.next (if_pos hm))⟩
    · have hm := ne_true_of_eq_false hm
      exact ⟨(exec_adpRead hw hn _ rfl).trans (congrArg Host.Outcome.next ((if_neg hm).trans (if_pos (by simp [hb])))),
        (exec_adpWrite hw hn _ _ rfl rfl).trans (congrArg Host.Outcome.next ((if_neg hm).trans (if_pos (by simp [hb]))))⟩

end Sys2Proof.Machine

/-!
### Groups, their expanders, edge pins and sensors (chapter 02)
-/

namespace Sys2Proof.Machine

/-- Settles O60: the reset state lists nothing, so each object reads as its default. -/
theorem resetState : Obligations.ResetState :=
  ⟨⟨rfl, rfl, rfl, rfl, rfl, rfl, rfl⟩, fun _ => ⟨rfl, rfl, rfl⟩, fun _ => ⟨rfl, rfl⟩, ⟨rfl, rfl, rfl, rfl⟩, fun _ => rfl, fun _ => rfl,
    ⟨rfl, fun _ => rfl⟩, ⟨rfl, rfl, rfl⟩, Nat.zero_le 2,
    ⟨by decide, by decide, by decide⟩⟩

theorem State.raise_group (k : Nat) (s : State) (n : Nat) : (s.raise k).group n = s.group n := rfl

theorem State.setGroup_source (n : Nat) (f : GroupSide → GroupSide) (s : State) (k : Nat) : (s.setGroup n f).source k = s.source k := rfl

/-! #### The check of PERST_N -/

/-- The check of PERST_N changes no group and no source as it sets its ports (R51). -/
theorem State.contentionPorts_keeps (n : Nat) (s : State) :
    (∀ k, (s.contentionPorts n).group k = s.group k) ∧ ∀ k, (s.contentionPorts n).source k = s.source k := by
  have keeps (p : Part) (hp : p ∉ [Part.ports]) : p.same s (s.contentionPorts n) := s.contentionPorts_only n (.refl _ s) rfl p hp
  exact ⟨fun k => congrArg (fun t : Tbl GroupSide => t.look k {}) (keeps .groups (by decide)),
    fun k => congrArg (fun t : Tbl Source => t.look k {}) (keeps .sources (by decide))⟩

/-- Settles O5. -/
theorem perstIsCheckedBeforeItIsDriven : Obligations.PerstIsCheckedBeforeItIsDriven := by
  have run (n : Fin 40) (high : Bool) (d : Nat) (s : State) (hr : s.running = true) (hd : (s.group n).checkDue = some d)
      (hle : d ≤ s.ep.beat) : exec (.perstContentionCheck n high) s =
        .next ((if high then (s.setGroup n (fun g => { g with checkDue := none, contention := true })).raise (64 + n)
          else s.setGroup n (fun g => { g with
            checkDue := none, contention := false, driven := some false, holdUntil := s.ep.beat + 781250, configSteps := 2 })).contentionPorts n) := by
    dsimp only [exec, execPerstContentionCheck]
    exact guarded_of (by simp [hr, hd, hle]) _ s
  refine ⟨fun n d s hr hd hle => run n true d s hr hd hle, fun n d s hr hd hle => run n false d s hr hd hle,
    fun n high d s hr hd hle => ⟨_, run n high d s hr hd hle, ?_⟩, fun n high d s hd hlt => ?_⟩
  · rw [(State.contentionPorts_keeps _ _).1, (State.contentionPorts_keeps _ _).2]
    cases high with
    | true => simp [State.raise_group, State.setGroup_source]
    | false => simp
  · dsimp only [exec, execPerstContentionCheck]
    exact guarded_of_not (by simp [hd, hlt]) _ s

/-! #### Loops over the slots of a group -/

/-- The slots of a group are different ports (R264). -/
theorem State.slotsOfGroup_nodup (s : State) (n : Nat) : ((s.slotsOfGroup n).map (·.1)).Nodup := by
  unfold State.slotsOfGroup
  split
  · rw [List.map_filterMap]
    refine List.Nodup.filterMap (fun a b c ha hb => ?_) List.nodup_range
    simp only [Option.map_eq_some_iff, Option.mem_def] at ha hb
    obtain ⟨_, ⟨_, _, rfl⟩, rfl⟩ := ha
    obtain ⟨_, ⟨_, _, rfl⟩, h⟩ := hb
    omega
  · exact List.nodup_nil

/-- A loop whose turns change different slots gives each what its turn makes of it. -/
theorem each_ownSlot {α : Type} {key : α → Nat} {f : α → Slot → Slot} {F : α → State → State}
    (hF : ∀ e z k, (F e z).slot k = if k = key e then f e (z.slot k) else z.slot k) {l : List α} (hl : (l.map key).Nodup) (s : State) :
    (∀ e ∈ l, (s.each l F).slot (key e) = f e (s.slot (key e))) ∧ ∀ k, k ∉ l.map key → (s.each l F).slot k = s.slot k := by
  induction l generalizing s with
  | nil => exact ⟨fun e he => absurd he List.not_mem_nil, fun _ _ => rfl⟩
  | cons a l ih =>
    obtain ⟨ha, hl⟩ := List.nodup_cons.1 hl
    obtain ⟨hin, hout⟩ := ih hl (F a s)
    refine ⟨fun e he => ?_, fun k hk => ?_⟩
    · rw [State.each_cons]
      rcases List.mem_cons.1 he with rfl | he
      · rw [hout _ ha, hF, if_pos rfl]
      · rw [hin e he, hF, if_neg (fun h : key e = key a => ha (h ▸ List.mem_map_of_mem he))]
    · obtain ⟨hka, hkl⟩ : k ≠ key a ∧ k ∉ l.map key := by simpa using hk
      rw [State.each_cons, hout k hkl, hF, if_neg hka]

/-! #### I2C transactions -/

/-- A loop that changes slots alone keeps every group, what was sent, and every source. -/
theorem each_setSlot_keeps {α : Type} (key : α → Nat) (f : α → Slot → Slot) (l : List α) (s : State) :
    (s.each l (fun e z => z.setSlot (key e) (f e))).groups = s.groups ∧ (s.each l (fun e z => z.setSlot (key e) (f e))).out = s.out ∧
    (s.each l (fun e z => z.setSlot (key e) (f e))).col.sources = s.col.sources ∧
    (s.each l (fun e z => z.setSlot (key e) (f e))).irq = s.irq ∧ (s.each l (fun e z => z.setSlot (key e) (f e))).ep = s.ep :=
  each_inv (fun a b => b.groups = a.groups ∧ b.out = a.out ∧ b.col.sources = a.col.sources ∧ b.irq = a.irq ∧ b.ep = a.ep)
    (fun _ => ⟨rfl, rfl, rfl, rfl, rfl⟩)
    (fun _ _ _ ⟨h1, h2, h3, h4, h5⟩ ⟨k1, k2, k3, k4, k5⟩ => ⟨k1.trans h1, k2.trans h2, k3.trans h3, k4.trans h4, k5.trans h5⟩)
    (fun _ _ _ => ⟨rfl, rfl, rfl, rfl, rfl⟩)

/-- A group whose transaction failed (R57). -/
def GroupSide.failed (g : GroupSide) : GroupSide :=
  { g with
    slot := .idle, failedSlots := g.failedSlots + 1, consecFailed := min (g.consecFailed + 1) 8, lost := g.lost || decide (g.consecFailed = 7)
    writePending := g.writePending || decide (g.slot = .write), repoll := decide (g.slot = .poll) }

/-- A failed transaction recovers the segment, and the eighth in a row is reported (R57). -/
theorem State.i2cFailed_acts (n : Nat) (s : State) :
    (s.i2cFailed n).group n = (s.group n).failed ∧ (s.i2cFailed n).out = .i2cRecover n :: s.out ∧
    ((s.i2cFailed n).source (64 + n)).newEvents = (s.source (64 + n)).newEvents + if (s.group n).consecFailed = 7 then 1 else 0 := by
  let z := (s.emit (.i2cRecover n)).setGroup n GroupSide.failed
  let release (_ : Nat × SlotPins) (q : Slot) : Slot := { q with cmdOwed := q.cmdOwed || q.cmdSent, cmdSent := false }
  obtain ⟨hgroups, hout, hsources, -⟩ := each_setSlot_keeps Prod.fst release (s.slotsOfGroup n) z
  have hz : s.i2cFailed n = if (s.group n).consecFailed = 7 then
      (z.each (s.slotsOfGroup n) (fun e z => z.setSlot e.1 (release e))).raise (64 + n)
    else z.each (s.slotsOfGroup n) (fun e z => z.setSlot e.1 (release e)) := rfl
  have hgroup : ∀ y : State, y.groups = z.groups → y.group n = (s.group n).failed := fun y hy =>
    (congrArg (fun t : Tbl GroupSide => t.look n {}) hy).trans ((State.setGroup_group _ _ _ _).trans (if_pos rfl))
  have hsource : ∀ y : State, y.col.sources = z.col.sources → y.source (64 + n) = s.source (64 + n) := fun y hy =>
    congrArg (fun t : Tbl Source => t.look (64 + n) {}) hy
  rw [hz]
  split
  · refine ⟨hgroup _ hgroups, hout, ?_⟩
    rw [State.raise_source, if_pos rfl, hsource _ hsources]
  · exact ⟨hgroup _ hgroups, hout, by rw [hsource _ hsources, Nat.add_zero]⟩

/-- A slot of the segment carries the write that waits, not a poll (R57, R58, R265). -/
def State.slotWrites (s : State) (n : Nat) : Bool :=
  ((s.group n).writePending || decide (0 < (s.group n).configSteps)) && !(s.group n).lastWasWrite && !(s.group n).repoll &&
    !(s.slotsOfGroup n).isEmpty

/-- The transaction that a slot of the segment begins (R55 to R58, R265). -/
def State.beginSlot (n : Nat) (s : State) : State × Out :=
  if s.slotWrites n = false then
    (s.setGroup n (fun g => { g with slotBeat := some s.ep.beat, slot := .poll, lastWasWrite := false, repoll := false }),
      .i2cRead n 0x20 (s.group n).lastWasWrite)
  else if (s.group n).configSteps = 1 then
    (s.setGroup n (fun g => { g with slotBeat := some s.ep.beat, slot := .config, lastWasWrite := true }),
      .i2cWrite n 0x20 6 (slotDirections (s.slotsOfGroup n)))
  else
    ((s.setGroup n (fun g => { g with
        slotBeat := some s.ep.beat, slot := .write, lastWasWrite := true, writing := g.outputs, writePending := false })).each
        (s.slotsOfGroup n) (fun e s => s.setSlot e.1 (fun q => { q with cmdSent := q.cmdOwed || q.cmdSent, cmdOwed := false })),
      .i2cWrite n 0x20 2 (s.group n).outputs)

theorem exec_i2cPollSlot {n : Fin 40} {sdaLow : Bool} {s : State} (hr : s.running = true) (hidle : (s.group n).slot = .idle)
    (hbeat : s.ep.beat % 1024 = 0) (hnew : (s.group n).slotBeat ≠ some s.ep.beat) : exec (.i2cPollSlot n sdaLow) s =
      .next (if sdaLow then (s.beginSlot n).1.i2cFailed n else (s.beginSlot n).1.emit (s.beginSlot n).2) := by
  dsimp only [exec, execI2cPollSlot]
  refine (guarded_of (by simp [hr, hidle, hbeat, hnew]) _ s).trans (congrArg Host.Outcome.next ?_)
  simp only [setGroup_setGroup, Bool.not_eq_eq_eq_not, Bool.not_true]
  rfl

/-- A transaction that begins marks its slot, and counts no failure. -/
theorem State.beginSlot_group (n : Nat) (s : State) : ((s.beginSlot n).1.group n).slotBeat = some s.ep.beat ∧
    ((s.beginSlot n).1.group n).failedSlots = (s.group n).failedSlots ∧ ((s.beginSlot n).1.group n).consecFailed = (s.group n).consecFailed := by
  have sets (f : GroupSide → GroupSide) (y : State) (h : y.groups = (s.setGroup n f).groups) : y.group n = f (s.group n) :=
    (congrArg (fun t : Tbl GroupSide => t.look n {}) h).trans ((State.setGroup_group _ _ _ _).trans (if_pos rfl))
  unfold State.beginSlot
  split
  · rw [sets _ _ rfl]
    exact ⟨rfl, rfl, rfl⟩
  · split
    · rw [sets _ _ rfl]
      exact ⟨rfl, rfl, rfl⟩
    · rw [sets _ _ (each_setSlot_keeps Prod.fst (fun _ q => { q with cmdSent := q.cmdOwed || q.cmdSent, cmdOwed := false }) _ _).1]
      exact ⟨rfl, rfl, rfl⟩

/-- A poll that completes: the group takes both input registers, and its slots their levels (R57, R265, R266). -/
def State.polled (n inputs : Nat) (s : State) : State :=
  (s.setGroup n (fun g => { g with
      slot := .idle, inputs := inputs, consecFailed := 0, lost := false, polledAt := s.ep.beat
      configSteps := if g.lost && !(s.slotsOfGroup n).isEmpty then 2 else g.configSteps })).each (s.slotsOfGroup n)
    (fun e z => z.setSlot e.1 (fun q => q.poll (slotLevels e.2 inputs)))

theorem State.polled_acts (n inputs : Nat) (s : State) :
    (s.polled n inputs).group n = { s.group n with
      slot := .idle, inputs := inputs, consecFailed := 0, lost := false, polledAt := s.ep.beat
      configSteps := if (s.group n).lost = true ∧ s.slotsOfGroup n ≠ [] then 2 else (s.group n).configSteps } ∧
    ∀ e ∈ s.slotsOfGroup n, (s.polled n inputs).slot e.1 = (s.slot e.1).poll (slotLevels e.2 inputs) := by
  constructor
  · have hgroups := (each_setSlot_keeps Prod.fst (fun e q => q.poll (slotLevels e.2 inputs)) (s.slotsOfGroup n) (s.setGroup n (fun g => { g with
      slot := .idle, inputs := inputs, consecFailed := 0, lost := false, polledAt := s.ep.beat
      configSteps := if g.lost && !(s.slotsOfGroup n).isEmpty then 2 else g.configSteps }))).1
    refine (congrArg (fun t : Tbl GroupSide => t.look n {}) hgroups).trans ((State.setGroup_group _ _ _ _).trans ((if_pos rfl).trans ?_))
    simp only [Bool.and_eq_true, Bool.not_eq_true', List.isEmpty_eq_false_iff]
  · exact (each_ownSlot (fun e z k => State.setSlot_slot z e.1 _ k) (s.slotsOfGroup_nodup n) _).1

theorem exec_i2cPollDone {n : Fin 40} {inputs : BitVec 16} {s : State} (hr : s.running = true) (hpoll : (s.group n).slot = .poll) :
    exec (.i2cPollDone n inputs) s = .next (
      if (s.slotsOfGroup n).any (fun e => decide (((s.polled n inputs.toNat).slot e.1).inputs ≠ (s.slot e.1).inputs)) = true then
        (s.polled n inputs.toNat).interrupt (160 + n)
      else s.polled n inputs.toNat) := by
  dsimp only [exec, execI2cPollDone]
  exact guarded_of (by simp [hr, hpoll]) _ s

/-- The slot's bridge reports the command that the write carried (R267). -/
def State.slotReported (p : Nat) (s : State) : State :=
  match s.bridgeOfPort p with
  | some (v, b) => if (s.slot p).cmdSent then (s.setBridge v b (fun x => { x with cmdCompleted := true })).hotplug v b 4 else s
  | none => s

theorem State.slotReported_keeps (p : Nat) (s : State) : (s.slotReported p).ep = s.ep ∧ (s.slotReported p).fab.slots = s.fab.slots := by
  have told (v b : Nat) : OnlyChanges (but [.beat, .epochs, .inflight, .commit, .tables, .slots]) s
      ((s.setBridge v b (fun x => { x with cmdCompleted := true })).hotplug v b 4) :=
    State.hotplug_only _ _ _ _ (State.setBridge_only _ _ _ s (.refl _ s) rfl) rfl
  unfold State.slotReported
  split
  · split
    · exact ⟨((told _ _).mono rfl).ep, told _ _ .slots (by decide)⟩
    · exact ⟨rfl, rfl⟩
  · exact ⟨rfl, rfl⟩

/-- A report is never taken back, and a command that was sent is reported (R267). -/
theorem State.slotReported_bridge (p : Nat) (s : State) (v b : Nat) :
    ((s.bridge v b).cmdCompleted = true → ((s.slotReported p).bridge v b).cmdCompleted = true) ∧
    (s.bridgeOfPort p = some (v, b) → (s.slot p).cmdSent = true → ((s.slotReported p).bridge v b).cmdCompleted = true) := by
  have told (w c : Nat) (y : State) : ((y.hotplug w c 4).bridge v b) = y.bridge v b :=
    congrArg (fun t : Tbl Bridge => t.look (v * 256 + b) {}) (State.hotplug_only w c 4 y (.refl (but [.bridges]) y) rfl .bridges (by decide))
  unfold State.slotReported
  refine ⟨fun h => ?_, fun hb hs => ?_⟩
  · split
    · next w c _ =>
      split
      · rw [told]
        by_cases hk : v * 256 + b = w * 256 + c
        · rw [State.bridge, hk]
          exact congrArg Bridge.cmdCompleted (State.setBridge_same _ _ _ _)
        · rw [State.setBridge_other _ _ _ _ _ _ hk, h]
      · exact h
    · exact h
  · rw [hb]
    dsimp only
    rw [if_pos hs, told, State.setBridge_same]

/-- An acknowledged write completes the command of a slot that it carried, and the release of its reset (R265, R270). -/
def State.slotAcked (writing : Nat) (e : Nat × SlotPins) (s : State) : State :=
  let s1 := (s.slotReported e.1).setSlot e.1 (fun q => { q with cmdSent := false })
  if (s.slot e.1).releaseOwed && writing.testBit e.2.perst then (s1.setSlot e.1 (fun q => { q with releaseOwed := false })).startPort e.1
  else s1

/-- The start of a port changes no slot, no bridge and no table. -/
theorem State.startPort_keeps (p : Nat) (s : State) : (s.startPort p).ep = s.ep ∧ (s.startPort p).fab = s.fab :=
  ⟨(s.startPort_only p (.refl _ s) rfl).ep, (s.startPort_only p (.refl _ s) rfl).fab⟩

theorem State.slotAcked_keeps (writing : Nat) (e : Nat × SlotPins) (s : State) : (s.slotAcked writing e).ep = s.ep ∧
    (s.slotAcked writing e).fab.bridges = (s.slotReported e.1).fab.bridges := by
  unfold State.slotAcked
  dsimp only
  split
  · rw [(State.startPort_keeps _ _).1, (State.startPort_keeps _ _).2]
    exact ⟨(s.slotReported_keeps e.1).1, rfl⟩
  · exact ⟨(s.slotReported_keeps e.1).1, rfl⟩

/-- A slot that an acknowledged write has served: it owes no release that the write carried. -/
def Slot.acked (writing : Nat) (e : Nat × SlotPins) (q : Slot) : Slot :=
  { q with cmdSent := false, releaseOwed := q.releaseOwed && !writing.testBit e.2.perst }

theorem State.slotAcked_slot (writing : Nat) (e : Nat × SlotPins) (s : State) (k : Nat) :
    (s.slotAcked writing e).slot k = if k = e.1 then (s.slot k).acked writing e else s.slot k := by
  have hrep (k : Nat) : (s.slotReported e.1).slot k = s.slot k :=
    congrArg (fun t : Tbl Slot => t.look k {}) (s.slotReported_keeps e.1).2
  unfold State.slotAcked
  dsimp only
  split
  · next h =>
    obtain ⟨howed, hbit⟩ := Bool.and_eq_true_iff.1 h
    rw [State.slot, (State.startPort_keeps _ _).2]
    refine (State.setSlot_slot _ _ _ _).trans ?_
    rw [State.setSlot_slot, hrep]
    split
    · next hk => simp [Slot.acked, hbit]
    · rfl
  · next h =>
    rw [State.setSlot_slot, hrep]
    split
    · next hk =>
      subst hk
      have hbit : ((s.slot e.1).releaseOwed && !writing.testBit e.2.perst) = (s.slot e.1).releaseOwed := by
        cases howed : (s.slot e.1).releaseOwed with
        | false => rfl
        | true => simpa [howed] using h
      rw [Slot.acked, hbit]
    · rfl

/-- PWREN of a slot is driven without a change of what its slot has sent or owes. -/
theorem State.pwrenDriven_slot (e : Nat × SlotPins) (g : GroupSide) (s : State) (k : Nat) :
    ((s.pwrenDriven e g).slot k).cmdSent = (s.slot k).cmdSent ∧ (s.pwrenDriven e g).ep = s.ep := by
  refine ⟨?_, rfl⟩
  rw [State.pwrenDriven, State.setSlot_slot]
  split <;> rfl

/-- A write that is acknowledged: the outputs are driven, and the group's slots are served (R265, R270). -/
theorem exec_i2cWriteAcked {n : Fin 40} {s : State} (hr : s.running = true) (hwrite : (s.group n).slot = .write) :
    exec (.i2cWriteAcked n) s = .next (((s.setGroup n (fun g => { g with
        slot := .idle, consecFailed := 0, configSteps := g.configSteps - 1, acked := g.writing })).each (s.slotsOfGroup n)
      (fun e z => z.pwrenDriven e { s.group n with
        slot := .idle, consecFailed := 0, configSteps := (s.group n).configSteps - 1, acked := (s.group n).writing })).each (s.slotsOfGroup n)
      (State.slotAcked (s.group n).writing)) := by
  dsimp only [exec, execI2cWriteAcked]
  refine (guarded_of (by simp [hr, hwrite]) _ s).trans (congrArg Host.Outcome.next ((if_neg (by simp [hwrite])).trans ?_))
  rw [setGroup_congr (g := fun g => { g with slot := .idle, consecFailed := 0, configSteps := g.configSteps - 1, acked := g.writing })
    (by simp [hwrite]), State.setGroup_group, if_pos rfl]
  rfl

/-- Once the slots of a write have been served, each command that it carried is reported (R267). -/
theorem each_slotAcked_bridge {writing : Nat} {l : List (Nat × SlotPins)} {z : State} {e : Nat × SlotPins} {v b : Nat} (he : e ∈ l)
    (hl : (l.map (·.1)).Nodup) (hb : z.bridgeOfPort e.1 = some (v, b)) (hs : (z.slot e.1).cmdSent = true) :
    ((z.each l (State.slotAcked writing)).bridge v b).cmdCompleted = true := by
  have turn : ∀ (e' : Nat × SlotPins) (y : State), y.ep = z.ep → (y.slot e.1).cmdSent = true ∨ (y.bridge v b).cmdCompleted = true →
      ((y.slotAcked writing e').slot e.1).cmdSent = true ∨ ((y.slotAcked writing e').bridge v b).cmdCompleted = true := by
    intro e' y hy hq
    have hbridge : (y.slotAcked writing e').bridge v b = (y.slotReported e'.1).bridge v b :=
      congrArg (fun t : Tbl Bridge => t.look (v * 256 + b) {}) (y.slotAcked_keeps writing e').2
    rw [State.slotAcked_slot, hbridge]
    rcases hq with hq | hq
    · by_cases hk : e.1 = e'.1
      · refine .inr ((State.slotReported_bridge e'.1 y v b).2 ?_ (hk ▸ hq))
        rw [State.bridgeOfPort, hy, ← hk]
        exact hb
      · exact .inl (by rw [if_neg hk]; exact hq)
    · exact .inr ((State.slotReported_bridge e'.1 y v b).1 hq)
  have all := each_inv (l := l) (f := State.slotAcked writing) (s := z)
    (fun x y => x.ep = z.ep ∧ ((x.slot e.1).cmdSent = true ∨ (x.bridge v b).cmdCompleted = true) →
      y.ep = z.ep ∧ ((y.slot e.1).cmdSent = true ∨ (y.bridge v b).cmdCompleted = true)) (fun _ h => h) (fun _ _ _ h k hx => k (h hx))
    (fun e' _ y h => ⟨(y.slotAcked_keeps writing e').1.trans h.1, turn e' y h.1 h.2⟩) ⟨rfl, .inl hs⟩
  refine all.2.resolve_left ?_
  rw [(each_ownSlot (State.slotAcked_slot writing) hl z).1 e he]
  exact Bool.false_ne_true

/-- Settles O6. -/
theorem i2cTransactions : Obligations.I2cTransactions := by
  refine ⟨?poll, ?config, ?write, ?sdaLow, ?polled, ?configAcked, ?writeAcked, ?noSlots, ?failed⟩
  case poll =>
    intro n s hr hidle hbeat hnew hread
    have hpoll : s.slotWrites n = false := by
      unfold State.slotWrites
      rcases hread with h | h | h | ⟨h, h'⟩
      · simp [h]
      · simp [h]
      · simp [h]
      · simp [h, h']
    rw [exec_i2cPollSlot hr hidle hbeat hnew, if_neg Bool.false_ne_true, State.beginSlot, if_pos hpoll]
  case config =>
    intro n s hr hidle hbeat hnew hlast hre hslots h1
    have hwrite : ¬ s.slotWrites n = false := by simp [State.slotWrites, hlast, hre, hslots, h1]
    rw [exec_i2cPollSlot hr hidle hbeat hnew, if_neg Bool.false_ne_true, State.beginSlot, if_neg hwrite, if_pos h1]
  case write =>
    intro n s hr hidle hbeat hnew hlast hre hslots h1 hw
    have hwrite : ¬ s.slotWrites n = false := by
      rcases hw with h | h
      · simp [State.slotWrites, hlast, hre, hslots, h]
      · simp [State.slotWrites, hlast, hre, hslots, show 0 < (s.group n).configSteps by omega]
    rw [exec_i2cPollSlot hr hidle hbeat hnew, if_neg Bool.false_ne_true, State.beginSlot, if_neg hwrite, if_neg h1]
  case sdaLow =>
    intro n s hr hidle hbeat hnew
    obtain ⟨hslot, hfailed, hrow⟩ := s.beginSlot_group n
    refine ⟨_, (exec_i2cPollSlot hr hidle hbeat hnew).trans (congrArg Host.Outcome.next (if_pos rfl)), ?_⟩
    rw [(State.i2cFailed_acts n (s.beginSlot n).1).1, ← hslot, ← hfailed, ← hrow]
    exact ⟨rfl, rfl, rfl, rfl⟩
  case failed =>
    intro n s hr hbusy
    refine ⟨_, guarded_of (by simp [hr, hbusy]) _ s, ?_⟩
    obtain ⟨hgroup, hout, hsource⟩ := s.i2cFailed_acts n
    exact ⟨hout, hgroup, hsource⟩
  case polled =>
    intro n inputs s hr hpoll
    obtain ⟨hgroup, hslots⟩ := s.polled_acts n inputs.toNat
    rw [exec_i2cPollDone hr hpoll]
    split
    · exact ⟨_, rfl, hgroup, hslots, fun _ => by simp⟩
    · next hsame =>
      refine ⟨_, rfl, hgroup, hslots, fun ⟨e, he, hne⟩ => absurd ?_ hsame⟩
      exact List.any_eq_true.2 ⟨e, he, decide_eq_true hne⟩
  case configAcked =>
    intro n s hr hconfig
    dsimp only [exec, execI2cWriteAcked]
    refine (guarded_of (by simp [hr, hconfig]) _ s).trans (congrArg Host.Outcome.next ((if_pos hconfig).trans ?_))
    rw [setGroup_congr (g := fun g => { g with slot := .idle, consecFailed := 0, configSteps := g.configSteps - 1, directed := true })
      (by simp [hconfig]), State.setGroup_group, if_pos rfl]
    rfl
  case noSlots =>
    intro n s hr hwrite hnone
    rw [exec_i2cWriteAcked hr hwrite, hnone]
    rfl
  case writeAcked =>
    intro n s hr hwrite
    refine ⟨_, exec_i2cWriteAcked hr hwrite, fun e he => ?_⟩
    set z := (s.setGroup n (fun g => { g with
        slot := .idle, consecFailed := 0, configSteps := g.configSteps - 1, acked := g.writing })).each (s.slotsOfGroup n)
      (fun e z => z.pwrenDriven e { s.group n with
        slot := .idle, consecFailed := 0, configSteps := (s.group n).configSteps - 1, acked := (s.group n).writing }) with hz
    obtain ⟨hsent, hep⟩ : (z.slot e.1).cmdSent = (s.slot e.1).cmdSent ∧ z.ep = s.ep :=
      each_inv (fun x y => (y.slot e.1).cmdSent = (x.slot e.1).cmdSent ∧ y.ep = x.ep) (fun _ => ⟨rfl, rfl⟩)
        (fun _ _ _ h k => ⟨k.1.trans h.1, k.2.trans h.2⟩) (fun e' _ y => State.pwrenDriven_slot e' _ y e.1)
    rw [(each_ownSlot (State.slotAcked_slot (s.group n).writing) (s.slotsOfGroup_nodup n) z).1 e he]
    refine ⟨rfl, fun hbit => by simp [Slot.acked, hbit], fun hs v b hb => ?_⟩
    exact each_slotAcked_bridge he (s.slotsOfGroup_nodup n) (by rw [State.bridgeOfPort, hep]; exact hb) (hsent.trans hs)

end Sys2Proof.Machine

/-!
### Edge pins and sensors (chapter 02)
-/

namespace Sys2Proof.Machine

/-- A sensor's reading, in 0.1 °C (R71). -/
def readingAt (r : Readings) (i : Nat) : Int := (r.toList.getD i 0).toInt

/-- The board with the readings of the eight sensors taken (R71). -/
def State.sensed (r : Readings) (s : State) : State :=
  { s with board := { s.board with
      temps := (List.range 8).foldl (fun t i => t.put i (readingAt r i)) s.board.temps
      hot := (List.range 8).foldl (fun t i => t.put i (decide (1150 ≤ readingAt r i))) s.board.hot } }

theorem exec_sensorRead {r : Readings} {s : State} (hd : s.dieOn = true) (hb : s.ep.beat % 64 = 0) : exec (.sensorRead r) s =
    .next (if (List.range 8).any (fun i => decide (1150 ≤ readingAt r i) && s.board.hot.look i false) then (s.sensed r).raise 121 else s.sensed r) := by
  dsimp only [exec, execSensorRead]
  exact guarded_of (by simp [hd, hb]) _ s

/-- Settles O7. -/
theorem boardPinsAndSensors : Obligations.BoardPinsAndSensors := by
  refine ⟨?alertHigh, ?alertLow, ?paired, ?fencing, ?falls, ?rises, ?clock, ?sensors, ?throttle⟩
  case alertHigh =>
    intro s hd hlow
    dsimp only [exec, execTwinAlertInAsserted]
    exact guarded_of (by simp [hd, hlow]) _ s
  case alertLow =>
    intro s hd hhigh hidle
    dsimp only [exec, execTwinAlertInAsserted]
    refine (guarded_of (by simp [hd, hhigh]) _ s).trans (congrArg Host.Outcome.next ?_)
    rcases hidle with hr | ⟨hp, hf⟩
    · exact if_pos (by simp [hr])
    · split
      · rfl
      · split
        · next h => exact absurd h hp
        · next h => exact absurd h hf
        · rfl
  case paired =>
    intro s hr hhigh hst
    dsimp only [exec, execTwinAlertInAsserted]
    refine (guarded_of (by simp [dieOn_of_running hr, hhigh]) _ s).trans (congrArg Host.Outcome.next ((if_neg (by simp [hr])).trans ?_))
    rw [hst]
  case fencing =>
    intro s hr hhigh hst
    dsimp only [exec, execTwinAlertInAsserted]
    refine (guarded_of (by simp [dieOn_of_running hr, hhigh]) _ s).trans (congrArg Host.Outcome.next ((if_neg (by simp [hr])).trans ?_))
    rw [hst]
  case falls =>
    intro ms taken s hm
    dsimp only [exec, execModrstN]
    exact (guarded_of (by simp [hm]) _ s).trans (congrArg Host.Outcome.next (if_neg (by simp)))
  case rises =>
    intro ms taken s hm
    dsimp only [exec, execModrstN]
    refine (guarded_of (by simp [hm]) _ s).trans (congrArg Host.Outcome.next ?_)
    by_cases h : s.sup.gate = .on ∧ (10 ≤ ms ∨ 9 ≤ ms ∧ taken = true)
    · exact (if_pos (by simpa using h)).trans (if_pos h).symm
    · exact (if_neg (by simpa using h)).trans (if_neg h).symm
  case clock =>
    intro s hd he
    dsimp only [exec, execRefclkLoss]
    exact guarded_of (by simp [hd, he]) _ s
  case sensors =>
    intro r s hd hb
    have temps (i : Nat) (hi : i < 8) : (s.sensed r).board.temps.look i 0 = readingAt r i ∧
        (s.sensed r).board.hot.look i false = decide (1150 ≤ readingAt r i) :=
      ⟨(look_foldl_put _ 0 8 _ i).trans (if_pos hi), (look_foldl_put (fun i => decide (1150 ≤ readingAt r i)) false 8 s.board.hot i).trans (if_pos hi)⟩
    rw [exec_sensorRead hd hb]
    split
    · next h => exact ⟨_, rfl, temps, (by rw [State.raise_source, if_pos rfl]; exact congrArg ((s.source 121).newEvents + ·) (if_pos h).symm), rfl, rfl, rfl⟩
    · next h => exact ⟨_, rfl, temps, (Nat.add_zero _).symm.trans (congrArg ((s.source 121).newEvents + ·) (if_neg h).symm), rfl, rfl, rfl⟩
  case throttle =>
    intro s hd hb
    dsimp only [exec, execThrottleEvaluation]
    have run := guarded_of (s := s) (c := s.dieOn && decide (s.ep.beat % 8192 = 0)) (by simp [hd, hb])
    refine ⟨fun hhot hlevel => ?_, fun hhot hlevel => ?_, fun hcool => ?_, fun hlow hhigh => ?_⟩
    · exact (run _).trans (congrArg Host.Outcome.next ((if_pos hhot).trans (if_pos hlevel)))
    · exact (run _).trans (congrArg Host.Outcome.next ((if_pos hhot).trans (if_neg (by omega))))
    · exact (run _).trans (congrArg Host.Outcome.next ((if_neg (by omega)).trans (if_pos hcool)))
    · exact (run _).trans (congrArg Host.Outcome.next ((if_neg (by omega)).trans (if_neg (by omega))))

end Sys2Proof.Machine

/-!
### Link power and IDE, banks and attachments, slots and containment (chapters 06 to 08)
-/

namespace Sys2Proof.Machine

/-! #### Entries of equal tables -/

theorem bridge_congr {s t : State} (h : t.fab.bridges = s.fab.bridges) (v b : Nat) : t.bridge v b = s.bridge v b := by
  rw [State.bridge, h]; rfl

theorem slot_congr {s t : State} (h : t.fab.slots = s.fab.slots) (p : Nat) : t.slot p = s.slot p := by
  rw [State.slot, h]; rfl

theorem port_congr {s t : State} (h : t.ports = s.ports) (p : Nat) : t.port p = s.port p := by
  rw [State.port, h]; rfl

theorem source_congr {s t : State} (h : t.col.sources = s.col.sources) (n : Nat) : t.source n = s.source n := by
  rw [State.source, h]; rfl

/-! #### Link power states and link IDE -/

/-- A port whose IDE stream is insecure (R199). -/
def Port.insecure (q : Port) : Port := { q with ide := 3 }

/-- What a failed link IDE check reports before the link goes down (R199): insecure, the fault source, the error in AER. -/
def State.ideReported (p : Nat) (s : State) : State :=
  let s1 := (s.setPort p Port.insecure).raise (296 + p / 4)
  match s.portRole p, s.vhOfPort p, s.bridgeOfPort p with
  | 1, some v, _ => (s1.setFunc v (fun f => { f with ideKeys := false })).aer v none aerIde
  | 2, _, some (v, b) => s1.aer v (some b) aerIde
  | _, _, _ => s1

theorem State.ideFailure_eq (p : Nat) (s : State) : s.ideFailure p = State.portDown p 5 (s.ideReported p) := rfl

theorem State.ideReported_keeps (p : Nat) (s : State) :
    OnlyChanges [.hiers, .bridges, .funcs] ((s.setPort p Port.insecure).raise (296 + p / 4)) (s.ideReported p) := by
  unfold State.ideReported
  dsimp only
  split
  · exact State.aer_only _ _ _ _ (State.setFunc_only _ _ _ (.refl _ _) rfl) rfl
  · exact State.aer_only _ _ _ _ (.refl _ _) rfl
  · exact .refl _ _

theorem State.ideReported_port (p : Nat) (s : State) : (s.ideReported p).port p = (s.port p).insecure :=
  (port_congr (s.ideReported_keeps p .ports (by decide)) p).trans ((State.setPort_port s p Port.insecure p).trans (if_pos rfl))

theorem State.ideReported_source (p : Nat) (s : State) :
    ((s.ideReported p).source (296 + p / 4)).newEvents = (s.source (296 + p / 4)).newEvents + 1 :=
  congrArg Source.newEvents ((source_congr (s.ideReported_keeps p .sources (by decide)) _).trans
    ((State.raise_source ..).trans (if_pos rfl)))

/-- Settles O20: the guards of the eight commands hold under the statement's premises; a failed IDE check takes the port down
after its report, which touches neither the ports nor the sources again. -/
theorem linkPowerAndIde : Obligations.LinkPowerAndIde := by
  refine ⟨?entry, ?partner, ?pciPm, ?turnOff, ?l0p, ?l0pPartner, ?refresh, ?failure⟩
  case entry =>
    intro port sub v acked s hr hv h5 hpower hbit hsub hidle hbusy hdeep
    dsimp only [exec, execL1EntryInitiate]
    rw [hv]
    refine guarded_of ?_ _ s
    have hall : (s.portsUnder v).all (fun b => (s.port b).deep) = true := List.all_eq_true.2 hdeep
    simp [hr, h5, hpower, hbit, hsub, hidle, hbusy, hall]
  case partner =>
    intro port sub s hr hrole h5 hdeep
    dsimp only [exec, execPartnerL1Request]
    refine (guarded_of (by simp [hr, hrole, h5, hdeep]) _ s).trans (congrArg Host.Outcome.next ?_)
    simp only [Bool.and_eq_true, Bool.or_eq_true, decide_eq_true_eq, and_assoc]
  case pciPm =>
    intro port v s hr hv h5 hdeep
    dsimp only [exec, execPciPmL1Request]
    rw [hv]
    exact guarded_of (by simp [hr, h5, hdeep]) _ s
  case turnOff =>
    intro v p s hr hp h5 hl2
    dsimp only [exec, execPmeTurnOff]
    rw [hp]
    exact guarded_of (by simp [hr, h5, hl2]) _ s
  case l0p =>
    intro port used s hopen h1 hbeat
    dsimp only [exec, execL0pEvaluation]
    have run := guarded_of (s := s) (c := s.l0pOpen port && decide (s.portIn s.ep.live port 8 = 1) && decide (s.ep.beat % 64 = 0))
      (by simp [hopen, h1, hbeat])
    refine ⟨fun hmuch hw => ?_, fun hmuch hw => ?_, fun hlow hq hw hnot => ?_, fun hlow hq hw => ?_⟩
    · exact (run _).trans (congrArg Host.Outcome.next ((if_pos hmuch).trans (if_pos hw)))
    · exact (run _).trans (congrArg Host.Outcome.next ((if_pos hmuch).trans (if_neg (by omega))))
    · exact (run _).trans (congrArg Host.Outcome.next ((if_neg (by omega)).trans (if_pos ⟨hlow, hw, hnot⟩)))
    · refine (run _).trans (congrArg Host.Outcome.next ((if_neg (by omega)).trans (if_neg ?_)))
      rintro ⟨hless, hwide, hnot⟩
      rcases hw with h | h | h
      · omega
      · omega
      · exact absurd (hnot.symm.trans h) Bool.false_ne_true
  case l0pPartner =>
    intro port width s hopen h1 hw
    dsimp only [exec, execL0pPartnerRequest]
    exact guarded_of (by simp [hopen, h1, hw]) _ s
  case refresh =>
    intro port s hr hrole hdue
    dsimp only [exec, execIdeKeyRefresh]
    exact guarded_of (by simpa [hr, hrole] using hdue) _ s
  case failure =>
    intro port s hr hide hup
    exact ⟨s.ideReported port, guarded_of (by simp [hr, hide, hup]) _ s,
      by rw [State.ideReported_port]; rfl, by rw [State.ideReported_port]; rfl, s.ideReported_source port⟩

/-! #### Banks and attachments -/

theorem bankHoldsNoCell_iff {bank : Nat} {s : State} :
    s.core.frames.any (fun f => f.banks.contains bank && decide (f.charge ≠ .waiting)) = false ↔
      ∀ f ∈ s.core.frames, f.charge ≠ .waiting → bank ∉ f.banks := by
  simp only [List.any_eq_false, Bool.and_eq_true, decide_eq_true_eq, List.contains_iff_mem]
  exact ⟨fun h f hf hc hb => h f hf ⟨hb, hc⟩, fun h f hf hb => h f hf hb.2 hb.1⟩

/-- Settles O22: each command by its guard; a bank is retired only where no charged frame names it. -/
theorem banksAndAttachmentsRetire : Obligations.BanksAndAttachmentsRetire := by
  refine ⟨?write, ?strike, ?retired, ?holds, ?attachWrite, ?attachStrike, ?attachment⟩
  case write =>
    intro bank s ho
    dsimp only [exec, execBankRetire]
    exact commandWrite_open ho _
  case strike =>
    intro bank id control s hr
    dsimp only [exec, execBankRetire]
    exact guarded_of hr _ s
  case retired =>
    intro bank s hr h1 hnone
    have hempty := bankHoldsNoCell_iff.2 hnone
    dsimp only [exec, execBankRetired]
    refine ⟨_, guarded_of (by rw [hr, hempty, h1]; rfl) _ s, ?_, fun k hk => ?_, ?_, rfl⟩
    · exact Tbl.look_put_self ..
    · exact (Tbl.look_put ..).trans (if_neg hk)
    · exact congrArg Source.newEvents ((State.raise_source ..).trans (if_pos rfl))
  case holds =>
    intro bank f s hf hc hb
    dsimp only [exec, execBankRetired]
    refine guarded_of_not ?_ _ s
    have hany : s.core.frames.any (fun f => f.banks.contains bank.val && decide (f.charge ≠ .waiting)) = true :=
      List.any_eq_true.2 ⟨f, hf, by simp [hc, hb]⟩
    rw [hany, Bool.not_true, Bool.and_false]
  case attachWrite =>
    intro n s ho hnot
    dsimp only [exec, execAttachmentRetire]
    exact (commandWrite_open ho _).trans (congrArg (fun t => Host.Outcome.next (State.answer 0 t)) (if_neg (ne_true_of_eq_false hnot)))
  case attachStrike =>
    intro n id control s hr hnot
    dsimp only [exec, execAttachmentRetire]
    exact (guarded_of hr _ s).trans (congrArg Host.Outcome.next (if_neg (ne_true_of_eq_false hnot)))
  case attachment =>
    intro n s hr hp
    exact guarded_of (by rw [hr, hp]; rfl) _ s

/-! #### Slots and Downstream Port Containment -/

theorem refreshOutputs_driven (n k : Nat) (s : State) : ((s.refreshOutputs n).group k).driven = (s.group k).driven := by
  unfold State.refreshOutputs
  dsimp only
  split
  · rfl
  · rw [State.setGroup_group]
    split <;> rfl

/-- What a write of Slot Control does to the slot's outputs, before the expander's write is owed (R268, R270). -/
def State.slotOutputsSet (v b p : Nat) (off : Bool) (attn pwr : Fin 4) (s : State) : State :=
  let led (c : Fin 4) (old : Nat) : Nat := if c = 1 then 1 else if c = 2 then 2 else if c = 3 then 0 else old
  let has := (slotPins (s.layoutIn s.ep.live (p / 4)) (p % 4)).any (fun x => x.attnLed.isSome)
  let s1 := s.setBridge v b (fun x => { x with powerOff := off, attnInd := attn, powerInd := pwr })
  let s2 := if has then s1.setSlot p (fun q => { q with
      attnLed := led attn q.attnLed, pwrLed := led pwr q.pwrLed
      blinkAt := if q.attnLed = 2 ∨ q.pwrLed = 2 then q.blinkAt else s.ep.beat }) else s1
  if off then (if (s.slot p).pwren then s2.setPwren p false else s2)
    else if (s.slot p).inputs.testBit 3 then s2
    else s2.setPwren p true

theorem State.slotControl_eq (v b p : Nat) (off : Bool) (attn pwr : Fin 4) (s : State) :
    s.slotControl v b p off attn pwr =
      (((s.slotOutputsSet v b p off attn pwr).setSlot p (fun q => { q with cmdOwed := true })).refreshOutputs (p / 4)).setGroup (p / 4)
        (fun g => { g with writePending := true }) := rfl

theorem State.slotOutputsSet_bridges (v b p : Nat) (off : Bool) (attn pwr : Fin 4) (s : State) :
    (s.slotOutputsSet v b p off attn pwr).fab.bridges =
      (s.setBridge v b (fun x => { x with powerOff := off, attnInd := attn, powerInd := pwr })).fab.bridges := by
  refine (?_ : OnlyChanges [.slots, .groups, .lanes, .ports, .scans, .irqPending, .sources, .free]
    (s.setBridge v b (fun x => { x with powerOff := off, attnInd := attn, powerInd := pwr }))
    (s.slotOutputsSet v b p off attn pwr)) .bridges (by decide)
  unfold State.slotOutputsSet
  dsimp only
  have leds (c : Prop) [Decidable c] (f : Slot → Slot) (u : State) :
      OnlyChanges [.slots, .groups, .lanes, .ports, .scans, .irqPending, .sources, .free] u (if c then u.setSlot p f else u) := by
    split
    · exact State.setSlot_only _ _ _ (.refl _ _) rfl
    · exact .refl _ _
  split
  · split
    · exact State.setPwren_only _ _ _ (leds _ _ _) rfl
    · exact leds _ _ _
  · split
    · exact leds _ _ _
    · exact State.setPwren_only _ _ _ (leds _ _ _) rfl

theorem State.slotControl_bridge (v b p : Nat) (off : Bool) (attn pwr : Fin 4) (s : State) :
    (s.slotControl v b p off attn pwr).bridge v b = { s.bridge v b with powerOff := off, attnInd := attn, powerInd := pwr } := by
  rw [State.slotControl_eq]
  have kept := State.refreshOutputs_only (p / 4) ((s.slotOutputsSet v b p off attn pwr).setSlot p (fun q => { q with cmdOwed := true }))
    (.refl [.groups] _) rfl .bridges (by decide)
  have hb := kept.trans (s.slotOutputsSet_bridges v b p off attn pwr)
  exact (bridge_congr hb v b).trans (State.setBridge_same ..)

theorem State.slotControl_owed (v b p : Nat) (off : Bool) (attn pwr : Fin 4) (s : State) :
    ((s.slotControl v b p off attn pwr).group (p / 4)).writePending = true ∧ ((s.slotControl v b p off attn pwr).slot p).cmdOwed = true := by
  rw [State.slotControl_eq]
  refine ⟨congrArg GroupSide.writePending ((State.setGroup_group ..).trans (if_pos rfl)), ?_⟩
  have kept := State.refreshOutputs_only (p / 4) ((s.slotOutputsSet v b p off attn pwr).setSlot p (fun q => { q with cmdOwed := true }))
    (.refl [.groups] _) rfl .slots (by decide)
  exact congrArg Slot.cmdOwed ((slot_congr kept p).trans ((State.setSlot_slot ..).trans (if_pos rfl)))

/-- A group's PERST_N goes high (R270). -/
def State.groupHigh (k : Nat) (s : State) : State :=
  ({ s with start := { s.start with groupPerst := s.start.groupPerst.del k } }).setGroup k (fun g => { g with driven := some true })

theorem State.groupHigh_driven (k : Nat) (s : State) : ((s.groupHigh k).group k).driven = some true :=
  congrArg GroupSide.driven ((State.setGroup_group ..).trans (if_pos rfl))

theorem State.groupHigh_other {k j : Nat} (h : j ≠ k) (s : State) : (s.groupHigh k).group j = s.group j :=
  (State.setGroup_group ..).trans (if_neg h)

/-- The release of a slot whose own conditions hold, behind its group's (R270). -/
def State.slotHigh (p : Nat) (s : State) : State :=
  if s.slotReleasable p && (s.slot p).perst then
    (s.setSlot p (fun q => { q with perst := false, releaseOwed := true })).refreshOutputs (p / 4)
  else s

theorem State.slotHigh_driven (p k : Nat) (s : State) : ((s.slotHigh p).group k).driven = (s.group k).driven := by
  unfold State.slotHigh
  split
  · exact refreshOutputs_driven ..
  · rfl

/-- Settles O23: commands by their guards; a write of Slot Control by what it sets first and what its later parts keep. -/
theorem slotsAndDpc : Obligations.SlotsAndDpc := by
  refine ⟨?input, ?control, ?controlOther, ?blink, ?release, ?trigger, ?clear⟩
  case input =>
    intro p s hr hp hpoll
    exact guarded_of (by simp [hr, hp, hpoll]) _ s
  case control =>
    intro v b off attn pwr enables s hr hin hk
    dsimp only [exec, execSlotControlWrite]
    have run := guarded_of (s := s) (c := s.running && s.bridgeInUse v b) (by rw [hr, hin]; rfl)
    have hbridge := State.slotControl_bridge v b (bindPort (s.bindingIn s.ep.live v b)) off attn pwr
      (s.setBridge v b (fun x => { x with slotEnables := enables.toNat &&& 0x103F }))
    have howed := State.slotControl_owed v b (bindPort (s.bindingIn s.ep.live v b)) off attn pwr
      (s.setBridge v b (fun x => { x with slotEnables := enables.toNat &&& 0x103F }))
    exact ⟨_, (run _).trans (congrArg Host.Outcome.next (if_pos hk)), congrArg Bridge.powerOff hbridge, congrArg Bridge.attnInd hbridge, congrArg Bridge.powerInd hbridge,
      (congrArg Bridge.slotEnables hbridge).trans (congrArg Bridge.slotEnables (State.setBridge_same ..)), howed⟩
  case controlOther =>
    intro v b off attn pwr enables s hr hin hk
    dsimp only [exec, execSlotControlWrite]
    exact (guarded_of (by rw [hr, hin]; rfl) _ s).trans (congrArg Host.Outcome.next (if_neg hk))
  case blink =>
    intro p s hr hled hat
    dsimp only [exec, execIndicatorBlink]
    exact guarded_of (by simp [hr, hled, hat]) _ s
  case release =>
    intro p s hr hrole hrel
    have run := guarded_of (s := s) (c := s.running && decide (s.portRole p.val = 2) && s.groupReleasable (p.val / 4))
      (by rw [hr, hrole, hrel]; rfl) (fun s => State.slotHigh p
      (if (s.portLanes s.ep.live p.val).2 = 16 then (s.groupHigh (p / 4)).groupHigh (p / 4 + 1) else s.groupHigh (p / 4)))
    refine ⟨_, run, ?_, fun h16 => ?_⟩
    · rw [State.slotHigh_driven]
      split
      · rw [State.groupHigh_other (by omega)]
        exact State.groupHigh_driven ..
      · exact State.groupHigh_driven ..
    · rw [State.slotHigh_driven, if_pos h16]
      exact State.groupHigh_driven ..
  case trigger =>
    intro v b reason s hr hen hnot hk
    exact guarded_of (by simp [hr, hen, hnot, hk]) _ s
  case clear =>
    intro v b s hr ht
    dsimp only [exec, execDpcTriggerClear]
    have run := guarded_of (s := s) (c := s.running && (s.bridge v b).dpcTriggered) (by rw [hr, ht]; rfl)
    refine ⟨fun hk => ?_, fun hk hc => ?_, fun hk hc => ?_, fun h1 h2 => ?_⟩
    · exact (run _).trans (congrArg Host.Outcome.next (if_pos hk))
    · exact (run _).trans (congrArg Host.Outcome.next ((if_neg (by omega)).trans (if_pos ⟨hk, hc⟩)))
    · exact (run _).trans (congrArg Host.Outcome.next ((if_neg (by omega)).trans (if_neg fun h => Bool.noConfusion (hc.symm.trans h.2))))
    · exact (run _).trans (congrArg Host.Outcome.next ((if_neg h1).trans (if_neg fun h => h2 h.1)))

end Sys2Proof.Machine

/-!
### Configuration requests, the tracker, windows and channels (chapters 08 and 09)
-/

namespace Sys2Proof.Machine

/-! #### Configuration requests -/

theorem State.cfgRequest_nowhere {v p : Nat} {field : CfgField} {x : Tlp} {s : State} (hp : s.portOfVh v = some p)
    (h : s.cfgPlace v x = none) : s.cfgRequest v field x = s.emitOn p (.tlp p (answerOf x 1)) := by
  simp only [State.cfgRequest, hp, h, Option.getD_some]

theorem State.cfgRequest_below_taken {v p id : Nat} {field : CfgField} {x : Tlp} {s : State} (hp : s.portOfVh v = some p)
    (h : s.cfgPlace v x = some .below) (ht : (s.headCell p { size := 1, tlp := x }).1 = .taken id) :
    s.cfgRequest v field x = (s.headCell p { size := 1, tlp := x }).2.frameDone id {} := by
  simp only [State.cfgRequest, hp, h, Option.getD_some, ht]

theorem State.cfgRequest_below_not_taken {v p : Nat} {field : CfgField} {x : Tlp} {s : State} (hp : s.portOfVh v = some p)
    (h : s.cfgPlace v x = some .below) (hn : ∀ id, (s.headCell p { size := 1, tlp := x }).1 ≠ .taken id) :
    s.cfgRequest v field x = (s.headCell p { size := 1, tlp := x }).2 := by
  -- by `hn` the match takes its last arm
  simp only [State.cfgRequest, hp, h, Option.getD_some]

/-- A place that the module holds answers the request itself (R252). -/
theorem State.cfgRequest_here {v p : Nat} {field : CfgField} {x : Tlp} {s : State} (hp : s.portOfVh v = some p)
    {place : CfgPlace} (h : s.cfgPlace v x = some place) (hne : place ≠ .below) : s.cfgRequest v field x =
      if x.write then (s.cfgWrite v p place field x).cfgDone p (s.cfgId v place x) 0 x
      else s.cfgAnswer p (s.cfgId v place x) (s.cfgRead v place field) x := by
  cases place with
  | below => exact absurd rfl hne
  | upstream => simp only [State.cfgRequest, hp, h, Option.getD_some]
  | bridge b => simp only [State.cfgRequest, hp, h, Option.getD_some]
  | function => simp only [State.cfgRequest, hp, h, Option.getD_some]
  | endpoint e => simp only [State.cfgRequest, hp, h, Option.getD_some]

/-- Settles O24: the place by the branches of `State.cfgPlace`, a request by the place that it names. -/
theorem configurationRequests : Obligations.ConfigurationRequests := by
  refine ⟨?type0, ?secondary, ?below, ?nowhere, ?request, ?direction, ?registers⟩
  case type0 =>
    intro v x s h0
    exact if_pos h0
  case secondary =>
    intro v x s h0 hbus
    exact (if_neg (ne_true_of_eq_false h0)).trans (if_pos hbus)
  case below =>
    intro v x b e s h0 hlow hhigh hb hk
    refine (if_neg (ne_true_of_eq_false h0)).trans ((if_neg (by omega)).trans ((if_pos ⟨hlow, hhigh⟩).trans ?_))
    rw [hb]
    exact if_neg hk
  case nowhere =>
    intro v x s h0 hbus hnone
    refine (if_neg (ne_true_of_eq_false h0)).trans ((if_neg (Ne.symm hbus)).trans ?_)
    rw [hnone]
    exact ite_self _
  case request =>
    intro v x field p s hwf hop hr hp hreset
    have run : exec (.configRequest v x field x.write) s = .next (s.cfgRequest v field x) :=
      checked_of hwf (by simp [hr, hop, hp, hreset]) _ s
    refine ⟨fun hnone => ?_, fun place hpl hne hw => ?_, fun place n hpl hne hw hn => ?_, fun place hpl hne hw hn => ?_,
      fun hpl id htaken => ?_, fun hpl hnot => ?_⟩
    · rw [run, State.cfgRequest_nowhere hp hnone, State.emitOn]
    · rw [run, State.cfgRequest_here hp hpl hne, if_pos hw]
      rfl
    · rw [run, State.cfgRequest_here hp hpl hne, if_neg (ne_true_of_eq_false hw), hn]
      rfl
    · rw [run, State.cfgRequest_here hp hpl hne, if_neg (ne_true_of_eq_false hw), hn]
      rfl
    · rw [run, State.cfgRequest_below_taken hp hpl htaken]
    · rw [run, State.cfgRequest_below_not_taken hp hpl hnot]
  case direction =>
    intro v x field write s
    rfl
  case registers =>
    intro v p b field x s
    have owner (u : State) := State.ownerControl_only p field u (.refl [.ports] u) rfl
    have hiers (u : State) : (u.ownerControl p field).fab.hiers = u.fab.hiers := owner u .hiers (by decide)
    have bridges (u : State) : (u.ownerControl p field).fab.bridges = u.fab.bridges := owner u .bridges (by decide)
    refine ⟨?_, ?_, rfl, rfl⟩
    · unfold State.cfgWrite
      dsimp only
      rw [State.hier, hiers]
      refine (State.setHier_hier ..).trans ((if_pos rfl).trans ?_)
      split
      · rw [State.setHier_hier, if_pos rfl]
      · rfl
    · unfold State.cfgWrite
      dsimp only
      rw [bridges]
      split <;> rfl

/-! #### The tracker, windows and channels -/

/-- The report of an entry whose completion timed out, in the exit's AER too (R284). -/
def State.timeoutReported (t : Track) (s : State) : State :=
  match s.exitBridge t with
  | some (v, b) => (s.reportEntry t).aer v b aerAbort
  | none => s.reportEntry t

theorem State.timeoutReported_track (t : Track) (s : State) : (s.timeoutReported t).fab.track = s.fab.track := by
  have reported : OnlyChanges [.groups, .lanes, .ports, .scans, .paths, .hiers, .bridges, .outputs] s (s.reportEntry t) :=
    State.reportEntry_only t s (.refl _ _) rfl
  unfold State.timeoutReported
  split
  · exact (State.aer_only _ _ _ _ reported rfl .tracker (by decide)).1
  · exact (reported .tracker (by decide)).1

/-- Settles O25: each command by its guard and by the entry, the hold or the waiting request that its premises name. -/
theorem trackerWindowsAndChannels : Obligations.TrackerWindowsAndChannels := by
  refine ⟨?grant, ?master, ?completion, ?timeout, ?quarantine, ?down, ?farTag, ?hold, ?doorbells, ?pwf⟩
  case grant =>
    intro b w s hr hturn hb hhead
    dsimp only [exec, execTrackerAllocation]
    refine (guarded_of (by rw [hr, hturn]; rfl) _ s).trans (congrArg Host.Outcome.next ?_)
    rw [hturn]
    cases b with
    | master => exact absurd rfl hb
    | vh v => simp only [hhead]
    | trunk => simp only [hhead]
  case master =>
    intro m s hr hturn hhead
    dsimp only [exec, execTrackerAllocation]
    refine (guarded_of (by rw [hr, hturn]; rfl) _ s).trans (congrArg Host.Outcome.next ?_)
    simp only [hturn, hhead]
  case completion =>
    intro ingress x poison s hr hwf hop
    dsimp only [exec, execCompletionArrives]
    have run := checked_of (s := s) hwf (c := s.running && decide (x.op = .completion)) (by simp [hr, hop])
    refine ⟨fun t ht he hq => ?_, fun t q ht he hq => ?_, fun t ht he => ?_, fun hno htrunk => ?_, fun hno htrunk => ?_⟩
    · refine (run _).trans (congrArg Host.Outcome.next ?_)
      simp only [ht, he, hq]
      rfl
    · refine (run _).trans (congrArg Host.Outcome.next ?_)
      simp only [ht, he, hq]
      rfl
    · refine (run _).trans (congrArg Host.Outcome.next ?_)
      simp only [ht, he]
      rfl
    · refine (run _).trans (congrArg Host.Outcome.next ?_)
      simp only [hno, htrunk]
      rfl
    · refine (run _).trans (congrArg Host.Outcome.next ?_)
      simp only [hno, htrunk]
      rfl
  case timeout =>
    intro i t s hr ht hb hd he
    dsimp only [exec, execTrackerTimeout]
    rw [ht]
    exact ⟨s.timeoutReported t, guarded_of (by simp [hr, hb, hd, he]) _ s, s.timeoutReported_track t⟩
  case quarantine =>
    intro i t s hr ht he hfree
    dsimp only [exec, execQuarantineEnd]
    rw [ht]
    dsimp only
    exact guarded_of (by simp [hr, he, hfree]) _ s
  case down =>
    intro p s hr
    dsimp only [exec, execLinkDown]
    refine ⟨fun ho => ?_, fun ho hup => ?_⟩
    · refine (guarded_of (by simp [hr, ho]) _ s).trans (congrArg Host.Outcome.next ?_)
      rw [if_pos ho]
    · refine (guarded_of (by simp [hr, hup]) _ s).trans (congrArg Host.Outcome.next ?_)
      rw [if_neg (ne_true_of_eq_false ho)]
  case farTag =>
    intro port k w f s hr hk hw hopen hf
    dsimp only [exec, execFarTagAssigned]
    refine (guarded_of (by rw [hw, hk]; simpa [hr] using hopen) _ s).trans (congrArg Host.Outcome.next ?_)
    simp only [hw, hf, hk]
  case hold =>
    intro window h s hr hh
    dsimp only [exec, execPrefetchHoldExpiry]
    refine (guarded_of (by rw [hh]; simp [hr]) _ s).trans (congrArg Host.Outcome.next ?_)
    rw [hh]
  case doorbells =>
    intro v c word s hr hvalid
    dsimp only [exec, execDoorbellRing, execDoorbellStatusClear]
    refine ⟨fun hv => ?_, fun hv => ?_, fun hv => ?_⟩
    · exact guarded_of (by simp [hr, hvalid, hv]) _ s
    · exact guarded_of (by simp [hr, hvalid, hv]) _ s
    · exact guarded_of_not (by simp [hv]) _ s
  case pwf =>
    intro src far label req page cause stamp s hr
    dsimp only [exec, execPwfReceived]
    refine ⟨fun h => ?_, fun h7 hsrc => ?_⟩
    · exact (guarded_of hr _ s).trans (congrArg Host.Outcome.next (if_neg (by omega)))
    · exact (guarded_of hr _ s).trans (congrArg Host.Outcome.next (if_pos ⟨h7, hsrc⟩))

end Sys2Proof.Machine

/-!
### The pools (chapter 11)
-/

namespace Sys2Proof.Machine

/-! #### Devices and extents -/

theorem filter_ne_isEmpty_iff {xs : List Nat} {m : Nat} :
    (xs.filter (fun k => decide (k ≠ m))).isEmpty = true ↔ ∀ k ∈ xs, k = m := by
  simp [List.filter_eq_nil_iff]

/-- Settles O27: each command by its guard and the branch that the state code selects. -/
theorem poolDevicesAndExtents : Obligations.PoolDevicesAndExtents := by
  refine ⟨?enumeration, ?scrubStart, ?scrubbed, ?scrubFailed, ?commands, ?addOffered, ?addImpaired, ?release, ?timeout⟩
  case enumeration =>
    intro d ok cap serial s hr h2
    dsimp only [exec, execEnumerationDone]
    have run := guarded_of (s := s) (c := s.running && decide ((s.device d.val).state = 2)) (by simp [hr, h2])
    refine ⟨fun hok => ?_, fun hok hrec hser => ?_, fun hok hsame => ?_⟩
    · exact (run _).trans (congrArg Host.Outcome.next (if_pos (by rw [hok]; rfl)))
    · exact (run _).trans (congrArg Host.Outcome.next ((if_neg (by rw [hok]; exact Bool.false_ne_true)).trans (if_pos ⟨hrec, hser⟩)))
    · refine (run _).trans (congrArg Host.Outcome.next ((if_neg (by rw [hok]; exact Bool.false_ne_true)).trans (if_neg ?_)))
      rintro ⟨hrec, hser⟩
      exact hsame.elim (fun h => Bool.false_ne_true (h.symm.trans hrec)) hser
  case scrubStart =>
    intro x m s hr h1 hleft hnot hheld hopen hquiet
    dsimp only [exec, execScrubStart]
    exact guarded_of (by simpa [hr, h1, hleft, hnot, hheld, hopen] using hquiet) _ s
  case scrubbed =>
    intro x m s hr h1 hin htime
    dsimp only [exec, execScrubDone]
    have run := guarded_of (s := s) (c := s.running && decide ((s.extent x.val).state = 1) && (s.extent x.val).scrubbing.contains m.val &&
      (!true || s.scrubTime x.val m.val)) (by simp [hr, h1, hin, htime])
    refine ⟨fun hlast => ?_, fun k hk hne => ?_⟩
    · have hnil := List.isEmpty_iff.1 (filter_ne_isEmpty_iff.2 hlast)
      refine (run _).trans (congrArg Host.Outcome.next ((if_pos rfl).trans ((if_pos (filter_ne_isEmpty_iff.2 hlast)).trans ?_)))
      rw [hnil]
    · exact (run _).trans (congrArg Host.Outcome.next ((if_pos rfl).trans (if_neg fun h => hne (filter_ne_isEmpty_iff.1 h k hk))))
  case scrubFailed =>
    intro x m s hr h1 hin
    dsimp only [exec, execScrubDone]
    exact (guarded_of (by simp [hr, h1, hin]) _ s).trans (congrArg Host.Outcome.next (if_neg Bool.false_ne_true))
  case commands =>
    intro x s ho
    dsimp only [exec, execRescrubExtent, execReleaseExtent]
    refine ⟨fun h => ?_, fun h => ?_, fun h2 hd => ?_, fun h => ?_⟩
    · exact (commandWrite_open ho _).trans (congrArg Host.Outcome.next (if_pos h))
    · exact (commandWrite_open ho _).trans (congrArg Host.Outcome.next (if_neg h))
    · exact (commandWrite_open ho _).trans (congrArg Host.Outcome.next (if_pos ⟨h2, hd⟩))
    · refine (commandWrite_open ho _).trans (congrArg Host.Outcome.next (if_neg ?_))
      rintro ⟨h2, hd⟩
      exact h.elim (fun h => h h2) (fun h => Bool.false_ne_true (h.symm.trans hd))
  case addOffered =>
    intro x accept s hr hd h3
    dsimp only [exec, execAddCapacityResponse]
    exact (guarded_of (by simp [hr, hd, h3]) _ s).trans (congrArg Host.Outcome.next (if_neg (by omega)))
  case addImpaired =>
    intro x s hr hd h6 h3
    dsimp only [exec, execAddCapacityResponse]
    have run := guarded_of (s := s) (c := s.running && s.ofDynamic x.val && decide ((s.extent x.val).state = 3 ∨
      ((s.extent x.val).state = 6 ∧ (s.extent x.val).before = 3))) (by simp [hr, hd, h6, h3])
    exact ⟨(run _).trans (congrArg Host.Outcome.next (if_pos ⟨h6, rfl⟩)),
      (run _).trans (congrArg Host.Outcome.next (if_neg fun h => Bool.false_ne_true h.2))⟩
  case release =>
    intro x s hr hd h
    exact guarded_of (by simp [hr, hd, h]) _ s
  case timeout =>
    intro x b s hr hb hlate
    dsimp only [exec, execDcAnswerTimeout]
    exact guarded_of (by rw [hb]; simp [hr, hlate]) _ s

/-! #### Endpoints -/

/-- A read of held lines: the use is noted and counted, and the host is answered (R387). -/
def State.readHeld (v : Nat) (h : Lines) (a tagNo : Nat) (s : State) : State :=
  let s1 := { s with pool := { s.pool with lines := s.pool.lines.map (fun y =>
    if y = h ∧ y.used.contains a = false then { y with used := a :: y.used } else y) } }
  (s1.bump 0x5000 0xC).emitOn ((s.portOfVh v).getD 176) (.memAnswer ((s.portOfVh v).getD 176) tagNo false false)

theorem State.readHeld_out {v p : Nat} {s : State} (hp : s.portOfVh v = some p) (h : Lines) (a tagNo : Nat) :
    (s.readHeld v h a tagNo).out = .memAnswer p tagNo false false :: s.out := by
  rw [State.readHeld, hp, Option.getD_some, State.emitOn]
  exact State.useLink_only _ _ (.refl [.groups, .lanes, .ports, .scans] _) rfl .outputs (by decide)

theorem State.readHeld_track (v : Nat) (h : Lines) (a tagNo : Nat) (s : State) : (s.readHeld v h a tagNo).fab.track = s.fab.track :=
  (State.emitOn_only _ _ _ (.refl [.groups, .lanes, .ports, .scans, .outputs] _) rfl .tracker (by decide)).1

theorem not_ready_of_unready {xs : List Lines} {covers : Lines → Bool} (h : ∀ y ∈ xs, covers y = true → y.ready = false) :
    ∀ y ∈ xs, ¬ (y.ready && covers y) = true := by
  intro y hy hboth
  obtain ⟨hready, hcovers⟩ := Bool.and_eq_true_iff.1 hboth
  exact Bool.false_ne_true ((h y hy hcovers).symm.trans hready)

/-- Settles O28: a CXL.mem request by whether lines that cover it are held and ready; the mailbox by its guard. -/
theorem poolEndpoints : Obligations.PoolEndpoints := by
  refine ⟨?request, ?expiry, ?identity, ?clear⟩
  case request =>
    intro v e addr tag data mask poison p a hit m covers s hr hp hk ha hhit hm hcovers
    subst hcovers hm hhit ha
    dsimp only [exec, execCxlMemRequest]
    have run := guarded_of (s := s) (c := s.running && (s.portOfVh v.val).isSome && decide ((s.endpIn s.ep.live e.val).kind = 1))
      (by simp [hr, hp, hk])
    refine ⟨fun hnone => ?_, fun h hfind => ⟨?_, ?_⟩⟩
    · have hfind := List.find?_eq_none.2 fun h hh => not_ready_of_unready hnone h hh
      exact ⟨(run _).trans (congrArg Host.Outcome.next (by rw [hfind]; rfl)),
        (run _).trans (congrArg Host.Outcome.next (by rw [hfind]; rfl))⟩
    · exact (run _).trans (congrArg Host.Outcome.next (by rw [hfind]; rfl))
    · exact ⟨s.readHeld v h (addr.toNat / 64 * 64) tag.toNat, (run _).trans (congrArg Host.Outcome.next (by rw [hfind]; rfl)),
        State.readHeld_out hp h _ _, State.readHeld_track ..⟩
  case expiry =>
    intro x g h s hr hh
    dsimp only [exec, execPoolPrefetchExpiry]
    refine (guarded_of (by rw [hh]; simp [hr]) _ s).trans (congrArg Host.Outcome.next ?_)
    rw [hh]
  case identity =>
    intro e s hup
    exact ⟨guarded_of hup _ s, guarded_of hup _ s, guarded_of hup _ s⟩
  case clear =>
    intro e handles s hup
    dsimp only [exec, execClearEventRecords]
    refine ⟨_, guarded_of hup _ s, rfl, Tbl.look_put_self .., fun k hk => Tbl.look_put_other _ hk .., rfl, rfl⟩

end Sys2Proof.Machine

/-!
### The ledger's upkeep and the Beryl engine (chapters 12 and 13)
-/

namespace Sys2Proof.Machine

/-! #### The ledger's upkeep -/

/-- Settles O31: a scrub read by the error that it finds, where its bank is not retired. -/
theorem ledgerUpkeep : Obligations.LedgerUpkeep := by
  refine ⟨?clean, ?counted, ?uncorrectable, ?retire, ?retired, ?query⟩
  case clean =>
    intro error s hr h
    dsimp only [exec, execLedgerScrubRead]
    refine (guarded_of hr _ s).trans (congrArg Host.Outcome.next ?_)
    rcases h with h | rfl
    · exact if_pos h
    · exact ite_self _
  case counted =>
    intro s hr hbank
    dsimp only [exec, execLedgerScrubRead]
    exact ⟨(guarded_of hr _ s).trans (congrArg Host.Outcome.next (if_neg hbank)),
      (guarded_of hr _ s).trans (congrArg Host.Outcome.next (if_neg hbank))⟩
  case uncorrectable =>
    intro s hr hbank e he
    subst he
    dsimp only [exec, execLedgerScrubRead]
    exact ⟨_, rfl, (guarded_of hr _ s).trans (congrArg Host.Outcome.next (if_neg hbank))⟩
  case retire =>
    intro b s ho
    dsimp only [exec, execLedgerBankRetire]
    exact commandWrite_open ho _
  case retired =>
    intro b s hr h1 hnone
    dsimp only [exec, execLedgerBankRetired]
    exact guarded_of (by simpa [hr, h1] using hnone) _ s
  case query =>
    intro q s ho
    dsimp only [exec, execPageQuery]
    exact ⟨fun h => (commandWrite_open ho _).trans (congrArg Host.Outcome.next (if_pos h)),
      fun h => (commandWrite_open ho _).trans (congrArg Host.Outcome.next (if_neg h))⟩

/-! #### Doorbells -/

theorem pageDead_of_not_active {i : Nat} {s : State} (h : (s.inst i).state ≠ 2) : s.pageDead i = true := decide_eq_true h

theorem not_pageDead_of_active {i : Nat} {s : State} (h : (s.inst i).state = 2) : s.pageDead i = false :=
  decide_eq_false (not_not_intro h)

theorem ringDoorbell_dead {i q : Nat} {s : State} (h : (s.inst i).state ≠ 2) (f : Qp → Qp) (post flush : State → State) :
    s.ringDoorbell i q f post flush = (s.bump 0x60A0 5).raise 365 := if_pos (pageDead_of_not_active h)

theorem ringDoorbell_posts {i q : Nat} {s : State} (h : (s.inst i).state = 2) (hin : s.qpInRange i q = true)
    (hex : s.qpExists q = true) (hs : (s.qp q).state = .init ∨ (s.qp q).state = .ready) (f : Qp → Qp) (post flush : State → State) :
    s.ringDoorbell i q f post flush = (post (s.setQp q f)).needContext q := by
  simp only [State.ringDoorbell, not_pageDead_of_active h, hin, hex, Bool.not_true, Bool.false_eq_true, if_false]
  rcases hs with hs | hs <;> rw [hs]

theorem ringDoorbell_reset {i q : Nat} {s : State} (h : (s.inst i).state = 2) (hin : s.qpInRange i q = true)
    (hex : s.qpExists q = true) (hs : (s.qp q).state = .reset) (f : Qp → Qp) (post flush : State → State) :
    s.ringDoorbell i q f post flush = s := by
  simp only [State.ringDoorbell, not_pageDead_of_active h, hin, hex, Bool.not_true, Bool.false_eq_true, if_false, hs]

/-- Settles O34: the three doorbells of a queue pair are one, `State.ringDoorbell`, in a queue of their own. -/
theorem doorbells : Obligations.Doorbells := by
  refine ⟨?posted, ?reset, ?dead, ?consumer⟩
  case posted =>
    intro i q index ws s hr hws hi hin hex hs
    have hall := List.all_eq_true.2 hws
    dsimp only [exec, execSendQueueDoorbell, execReceiveQueueDoorbell, execTriggerListDoorbell]
    exact ⟨(checked_of hall hr _ s).trans (congrArg Host.Outcome.next (ringDoorbell_posts hi hin hex hs ..)),
      (checked_of hall hr _ s).trans (congrArg Host.Outcome.next (ringDoorbell_posts hi hin hex hs ..)),
      (checked_of hall hr _ s).trans (congrArg Host.Outcome.next (ringDoorbell_posts hi hin hex hs ..))⟩
  case reset =>
    intro i q index ws s hr hws hi hin hex hs
    have hall := List.all_eq_true.2 hws
    dsimp only [exec, execSendQueueDoorbell, execReceiveQueueDoorbell, execTriggerListDoorbell]
    exact ⟨(checked_of hall hr _ s).trans (congrArg Host.Outcome.next (ringDoorbell_reset hi hin hex hs ..)),
      (checked_of hall hr _ s).trans (congrArg Host.Outcome.next (ringDoorbell_reset hi hin hex hs ..)),
      (checked_of hall hr _ s).trans (congrArg Host.Outcome.next (ringDoorbell_reset hi hin hex hs ..))⟩
  case dead =>
    intro i q c index ci ws s hr hws hi
    have hall := List.all_eq_true.2 hws
    dsimp only [exec, execSendQueueDoorbell, execReceiveQueueDoorbell, execTriggerListDoorbell, execCqConsumerDoorbell]
    exact ⟨(checked_of hall hr _ s).trans (congrArg Host.Outcome.next (ringDoorbell_dead hi ..)),
      (checked_of hall hr _ s).trans (congrArg Host.Outcome.next (ringDoorbell_dead hi ..)),
      (checked_of hall hr _ s).trans (congrArg Host.Outcome.next (ringDoorbell_dead hi ..)),
      (guarded_of hr _ s).trans (congrArg Host.Outcome.next (if_pos (pageDead_of_not_active hi)))⟩
  case consumer =>
    intro i c ci s hr hi
    dsimp only [exec, execCqConsumerDoorbell]
    have live := ne_true_of_eq_false (not_pageDead_of_active hi)
    refine ⟨fun hout => ?_, fun hin hhas => ?_⟩
    · exact (guarded_of hr _ s).trans (congrArg Host.Outcome.next ((if_neg live).trans (if_pos (by rw [hout]; rfl))))
    · exact (guarded_of hr _ s).trans (congrArg Host.Outcome.next ((if_neg live).trans
        ((if_neg (by rw [hin]; exact Bool.false_ne_true)).trans (if_neg (by rw [hhas]; exact Bool.false_ne_true)))))

/-! #### Work requests at the head -/

/-- Settles O35: the commands are `State.runHead` of their opcodes, which splits on a request with segments left. -/
theorem workRequestsAtTheHead : Obligations.WorkRequestsAtTheHead := by
  refine ⟨?commands, ?head⟩
  case commands =>
    intro q data readOk s hr
    exact ⟨guarded_of hr _ s, guarded_of hr _ s, guarded_of hr _ s, guarded_of hr _ s, guarded_of hr _ s, guarded_of hr _ s⟩
  case head =>
    intro q op data readOk s
    refine ⟨fun owner trig w hnone hnext hop => ⟨fun hmay => ?_, fun hmay hres => ?_⟩, fun a ha hop => ?_, fun hnone hnext => ?_⟩
    · have hserved : (decide (w.op = op) || decide (w.op = 0 ∨ 6 < w.op)) = true := by simpa using hop
      simp only [State.runHead, hnone, hnext, hserved, hmay, Bool.and_self, if_true]
    · have hserved : (decide (w.op = op) || decide (w.op = 0 ∨ 6 < w.op)) = true := by simpa using hop
      simp only [State.runHead, hnone, hnext, hserved, hmay, hres, Bool.and_false, Bool.false_eq_true, Bool.not_false,
        Bool.and_self, if_false, if_true]
    · simp only [State.runHead, ha, hop, if_true]
    · simp only [State.runHead, hnone, hnext]

/-! #### Frames at the queue pair -/

/-- Settles O36: a request frame and a response frame each have one way through the queue pair; the command's opcode is its
guard. -/
theorem framesAtTheQueuePair : Obligations.FramesAtTheQueuePair := by
  refine ⟨?request, ?response, ?illFormed, ?other⟩
  case request =>
    intro f data orig ok s u t hr hwf hu ht
    have way (d : Nat) (b : Bool) : s.requestFrame f d b = t d b := by
      subst ht hu
      simp only [State.requestFrame, Bool.not_eq_true']
    have served {n : Nat} (h : f.op = n) : (s.running && isRequest n f) = true := by simp [hr, isRequest, h]
    refine ⟨fun h => ?_, fun h => ?_, fun h => ?_, fun h => ?_, fun h => ?_⟩
    · exact (checked_of hwf (served h) _ s).trans (congrArg Host.Outcome.next (way ..))
    · exact (checked_of hwf (served h) _ s).trans (congrArg Host.Outcome.next (way ..))
    · exact (checked_of hwf (served h) _ s).trans (congrArg Host.Outcome.next (way ..))
    · exact (checked_of hwf (served h) _ s).trans (congrArg Host.Outcome.next (way ..))
    · exact (checked_of hwf (served h) _ s).trans (congrArg Host.Outcome.next (way ..))
  case response =>
    intro f data s u t hr hwf hu ht
    have way (d : List Nat) : s.response f d = t d := by
      subst ht hu
      rfl
    refine ⟨fun h => ?_, fun h => ?_, fun h h0 => ?_, fun h h2 => ?_, fun h h1 => ?_, fun h h3 h5 => ?_⟩
    · exact (checked_of hwf (by rw [hr, h]; rfl) _ s).trans (congrArg Host.Outcome.next (way ..))
    · exact (checked_of hwf (by rw [hr, h]; rfl) _ s).trans (congrArg Host.Outcome.next (way ..))
    · exact (checked_of hwf (by rw [hr, h, h0]; rfl) _ s).trans (congrArg Host.Outcome.next (way ..))
    · exact (checked_of hwf (by rw [hr, h, h2]; rfl) _ s).trans (congrArg Host.Outcome.next (way ..))
    · exact (checked_of hwf (by rw [hr, h, h1]; rfl) _ s).trans (congrArg Host.Outcome.next (way ..))
    · exact (checked_of hwf (by simp [hr, h, h3, h5]) _ s).trans (congrArg Host.Outcome.next (way ..))
  case illFormed =>
    intro f data n orig ok s hwf
    exact ⟨checked_of_ill_formed hwf _ _ s, checked_of_ill_formed hwf _ _ s, checked_of_ill_formed hwf _ _ s,
      checked_of_ill_formed hwf _ _ s, checked_of_ill_formed hwf _ _ s, checked_of_ill_formed hwf _ _ s,
      checked_of_ill_formed hwf _ _ s, checked_of_ill_formed hwf _ _ s, checked_of_ill_formed hwf _ _ s,
      checked_of_ill_formed hwf _ _ s, checked_of_ill_formed hwf _ _ s⟩
  case other =>
    intro f data s hwf h1
    exact ⟨checked_of_not _ (by simp [isRequest, h1, requestOp]) _ s, checked_of_not _ (by simp [h1]) _ s⟩

/-! #### Fetches, timers and delivery -/

/-- Settles O37: each command by its guard, a retransmission by whether its limit is reached. -/
theorem fetchesTimersAndDelivery : Obligations.FetchesTimersAndDelivery := by
  refine ⟨?context, ?key, ?retransmit, ?rnr, ?ack, ?rate, ?delivery⟩
  case context =>
    intro q data s u hr hex hf hu
    subst hu
    dsimp only [exec, execContextFetchDone]
    have run := guarded_of (s := s) (c := s.running && s.qpExists q && (s.qp q).fetching) (by simp [hr, hex, hf])
    exact ⟨run _, run _⟩
  case key =>
    intro r data s u hr hf hu
    subst hu
    dsimp only [exec, execKeyFetchDone]
    have run := guarded_of (s := s) (c := s.running && (s.region r).fetching) (by simp [hr, hf])
    exact ⟨run _, run _⟩
  case retransmit =>
    intro q data s hr hst hout hat hrnr
    dsimp only [exec, execRetransmitTimeout]
    have run := guarded_of (s := s) (c := s.running && decide ((s.qp q).state = .ready ∧ (s.qp q).unacked ≠ (s.qp q).sentPsn ∧
      (s.qp q).timerAt + s.setting 0x6001 1 ≤ s.ep.beat) && (s.qp q).rnrUntil.isNone) (by simp [hr, hst, hout, hat, hrnr])
    refine ⟨fun hless => ?_, fun hlimit => ⟨fun a ha => ?_, fun hnone => ?_⟩⟩
    · exact (run _).trans (congrArg Host.Outcome.next (if_neg (by omega)))
    · exact (run _).trans (congrArg Host.Outcome.next ((if_pos (by omega)).trans (by rw [ha])))
    · exact (run _).trans (congrArg Host.Outcome.next ((if_pos (by omega)).trans (by rw [hnone])))
  case rnr =>
    intro q data b s hr hst hb hle
    dsimp only [exec, execRnrWaitEnd]
    exact guarded_of (by rw [hb]; simp [hr, hst, hle]) _ s
  case ack =>
    intro q b s hr hst hb hlt
    dsimp only [exec, execAckTimer]
    exact guarded_of (by rw [hb]; simp [hr, hst, hlt]) _ s
  case rate =>
    intro q s hr hst hd hcap hat hmod
    dsimp only [exec, execRateIncrease]
    exact guarded_of (by simp [hr, hst, hd, hcap, hat, hmod]) _ s
  case delivery =>
    intro q m r s u hr hm hu
    subst hu
    dsimp only [exec, execMessageDelivery]
    refine (guarded_of (by rw [hm]; simp [hr]) _ s).trans (congrArg Host.Outcome.next ?_)
    rw [hm]
    dsimp only
    cases m.recv <;> rfl

end Sys2Proof.Machine

/-!
### Revocation, containment, management functions, cores and Sprout (chapters 13 to 16)
-/

namespace Sys2Proof.Machine

/-! #### Revocation, clusters, queries and containment -/

/-- Settles O38: each command by its guard; a cluster's retirement by whether it is asked or struck. -/
theorem revocationClustersAndDomains : Obligations.RevocationClustersAndDomains := by
  refine ⟨?revoking, ?revoked, ?clusterAsked, ?clusterStruck, ?clusterRetires, ?query, ?contained, ?released⟩
  case revoking =>
    intro r s hr h
    dsimp only [exec, execRegionRevoking]
    exact guarded_of (by simp [hr, h]) _ s
  case revoked =>
    intro r s hr h hbusy
    dsimp only [exec, execRevocationComplete]
    exact guarded_of (by simp [hr, h, hbusy]) _ s
  case clusterAsked =>
    intro c s ho
    dsimp only [exec, execClusterRetire]
    exact ⟨fun h => (commandWrite_open ho _).trans (congrArg (fun t => Host.Outcome.next (State.answer 0 t)) (if_neg (ne_true_of_eq_false h))),
      fun h => (commandWrite_open ho _).trans (congrArg (fun t => Host.Outcome.next (State.answer 0 t)) (if_pos h))⟩
  case clusterStruck =>
    intro c q s hr hex hres hc
    dsimp only [exec, execClusterRetire]
    have run := guarded_of (s := s) (c := s.running && s.qpExists q && (s.qp q).resident && decide (s.clusterOf q = c))
      (by simp [hr, hex, hres, hc])
    exact ⟨run _, run _⟩
  case clusterRetires =>
    intro c s hr h
    dsimp only [exec, execClusterRetirement]
    exact guarded_of (by rw [hr, h]; rfl) _ s
  case query =>
    intro q s ho
    dsimp only [exec, execQpQuery]
    exact commandWrite_open ho _
  case contained =>
    intro d s hr h
    dsimp only [exec, execDomainContainment]
    exact guarded_of (by rw [hr, h]; rfl) _ s
  case released =>
    intro d s ho
    dsimp only [exec, execContainRelease]
    exact commandWrite_open ho _

/-! #### Management functions -/

/-- Settles O40: each command by its guard and the branch that its premises select. -/
theorem managementFunctions : Obligations.ManagementFunctions := by
  refine ⟨?mailbox, ?response, ?errorQueue, ?moderation, ?vector, ?power, ?timeout, ?discovery, ?spdm, ?secured⟩
  case mailbox =>
    intro v len s u hr hu
    subst hu
    dsimp only [exec, execMboxSubmit]
    refine ⟨fun hb hrdy h0 hmax => ?_, fun h => ?_⟩
    · refine (guarded_of hr _ s).trans (congrArg Host.Outcome.next (if_neg ?_))
      simp [hb, hrdy, h0, Nat.not_lt.2 hmax]
    · refine (guarded_of hr _ s).trans (congrArg Host.Outcome.next (if_pos ?_))
      simpa [or_assoc] using h
  case response =>
    intro v s hr hrdy
    dsimp only [exec, execRespReadyClear]
    have run := guarded_of (s := s) (c := s.running && (s.func v).respReady) (by rw [hr, hrdy]; rfl)
    exact ⟨fun h => (run _).trans (congrArg Host.Outcome.next (by rw [h])),
      fun m r h => (run _).trans (congrArg Host.Outcome.next (by rw [h]))⟩
  case errorQueue =>
    intro v base log2 s hr
    exact guarded_of hr _ s
  case moderation =>
    intro store k s hr h
    dsimp only [exec, execModerationTimerExpiry]
    exact guarded_of (by simp [hr, h]) _ s
  case vector =>
    intro store k s hr hp ha hd
    dsimp only [exec, execVectorDeliverable]
    exact guarded_of (by rw [hr, hp, ha, hd]; rfl) _ s
  case power =>
    intro v s hr
    dsimp only [exec, execPowerStateWrite]
    refine ⟨fun h => ?_, fun hen hne => ?_, fun h => ?_, fun h => ?_⟩
    · refine (guarded_of hr _ s).trans (congrArg Host.Outcome.next ((if_pos rfl).trans (if_neg ?_)))
      rcases h with h | h <;> simp [h]
    · exact (guarded_of hr _ s).trans (congrArg Host.Outcome.next ((if_pos rfl).trans (if_pos (by simpa [hen] using hne))))
    · exact (guarded_of hr _ s).trans (congrArg Host.Outcome.next ((if_neg Bool.false_ne_true).trans (if_neg (ne_true_of_eq_false h))))
    · exact (guarded_of hr _ s).trans (congrArg Host.Outcome.next ((if_neg Bool.false_ne_true).trans (if_pos h)))
  case timeout =>
    intro i t s u hr ht hb hd he hu
    subst hu
    dsimp only [exec, execMasterTimeout]
    rw [ht]
    exact guarded_of (by simp [hr, hb, hd, he]) _ s
  case discovery =>
    intro v p index spdm keys s hr hp
    dsimp only [exec, execDoeRequest]
    exact (guarded_of (by rw [hr, hp]; rfl) _ s).trans (congrArg Host.Outcome.next (if_pos rfl))
  case spdm =>
    intro v p index spdm keys s hr hp
    dsimp only [exec, execDoeRequest]
    refine (guarded_of (by rw [hr, hp]; rfl) _ s).trans (congrArg Host.Outcome.next ((if_neg (by decide)).trans ?_))
    have hnot : (keys && decide ((1 : Fin 3) = 2)) = false := Bool.and_false keys
    rw [hnot, hp]
    rfl
  case secured =>
    intro v p index spdm keys s u hr hp hu
    have hkeys : (keys && decide ((2 : Fin 3) = 2)) = keys := Bool.and_true keys
    have run : exec (.doeRequest v 2 ⟨index, spdm⟩ keys) s =
        .next (if keys && decide ((s.port p).ide = 1 ∨ (s.port p).ide = 3) && decide ((s.port p).stage = 5)
          then u.setPort p (fun q => { q with ide := 2, ideRefresh := s.ep.beat }) else u) := by
      dsimp only [exec, execDoeRequest]
      refine (guarded_of (by rw [hr, hp]; rfl) _ s).trans (congrArg Host.Outcome.next ((if_neg (by decide)).trans ?_))
      rw [hkeys, hp, hu]
      rfl
    refine ⟨fun hk hide h5 => ?_, fun h => ?_⟩
    · exact run.trans (congrArg Host.Outcome.next (if_pos (by simp [hk, hide, h5])))
    · refine run.trans (congrArg Host.Outcome.next (if_neg ?_))
      rcases h with h | ⟨h1, h3⟩ | h
      · simp [h]
      · simp [h1, h3]
      · simp [h]

/-! #### Management cores, interrupts and Sprout -/

theorem stayingCores_all_iff {s : State} {n : Nat} :
    s.stayingCores.all (fun c => decide (c = n)) = true ↔ ∀ c ∈ s.stayingCores, c = n := by
  simp [List.all_eq_true]

theorem stayingCores_not_all {s : State} {n : Nat} (h : ∃ c ∈ s.stayingCores, c ≠ n) :
    ¬ s.stayingCores.all (fun c => decide (c = n)) = true := by
  obtain ⟨c, hc, hne⟩ := h
  exact fun hall => hne (stayingCores_all_iff.1 hall c hc)

/-- Settles O41: each command by its guard; the retirement of a core by the cores that would stay. -/
theorem coresInterruptsAndSprout : Obligations.CoresInterruptsAndSprout := by
  refine ⟨?retire, ?fails, ?moved, ?sram, ?claim, ?complete, ?soft, ?tick, ?supervisor, ?sprout⟩
  case retire =>
    intro value s ho
    dsimp only [exec, execCoreRetire]
    refine ⟨fun h => ?_, fun h hlast => ?_, fun h hstay hin => ?_, fun h hstay hout => ?_⟩
    · exact (commandWrite_open ho _).trans (congrArg Host.Outcome.next (if_pos h))
    · exact (commandWrite_open ho _).trans (congrArg Host.Outcome.next ((if_neg (Nat.not_lt.2 h)).trans (if_pos (stayingCores_all_iff.2 hlast))))
    · exact (commandWrite_open ho _).trans (congrArg Host.Outcome.next ((if_neg (Nat.not_lt.2 h)).trans
        ((if_neg (stayingCores_not_all hstay)).trans (if_neg (by rw [hin]; exact Bool.false_ne_true)))))
    · exact (commandWrite_open ho _).trans (congrArg Host.Outcome.next ((if_neg (Nat.not_lt.2 h)).trans
        ((if_neg (stayingCores_not_all hstay)).trans (if_pos (by rw [hout]; rfl)))))
  case fails =>
    intro k s hd hk
    dsimp only [exec, execCoreCheckinTimeout, execMgmtSramError]
    exact ⟨guarded_of (by rw [hd, hk]; rfl) _ s, (guarded_of hd _ s).trans (congrArg Host.Outcome.next (if_pos hk))⟩
  case moved =>
    intro k s hd hk
    dsimp only [exec, execTaskSetMoveDone]
    exact guarded_of (by rw [hd, hk]; rfl) _ s
  case sram =>
    intro s hd
    dsimp only [exec, execMgmtSramError]
    exact ⟨guarded_of hd _ s, fun h => (guarded_of hd _ s).trans (congrArg Host.Outcome.next (if_neg (ne_true_of_eq_false h))),
      fun h => (guarded_of hd _ s).trans (congrArg Host.Outcome.next (if_pos h))⟩
  case claim =>
    intro k s hd hk
    dsimp only [exec, execClaim]
    have run := guarded_of (s := s) (c := s.dieOn && s.usableCores.contains k.val) (by rw [hd, hk]; rfl)
    refine ⟨fun h0 => ?_, fun h0 => ?_⟩
    · exact (run _).trans (congrArg Host.Outcome.next (if_pos h0))
    · exact ⟨_, (run _).trans (congrArg Host.Outcome.next (if_neg h0)), rfl, Tbl.look_put_self .., rfl,
        fun n hn => Tbl.look_put_other _ hn .., rfl⟩
  case complete =>
    intro k value s u hd hk hin hu
    subst hu
    dsimp only [exec, execComplete]
    exact guarded_of (by rw [hd, hk, hin]; simp) _ s
  case soft =>
    intro value s hd h
    dsimp only [exec, execSoftRaise]
    exact guarded_of (by simp [hd, h]) _ s
  case tick =>
    intro s hd h
    dsimp only [exec, execFirmwareTick]
    exact guarded_of (by simp [hd, h]) _ s
  case supervisor =>
    intro aMv bMv ma mw s hon
    dsimp only [exec, execSupervisorRead]
    have run := guarded_of (s := s) (c := decide (s.sup.gate = .on)) (decide_eq_true hon)
    refine ⟨(run _).trans (congrArg Host.Outcome.next (if_pos rfl)), fun h9 => ?_, fun h9 => ?_⟩
    · exact (run _).trans (congrArg Host.Outcome.next ((if_neg Bool.false_ne_true).trans (if_neg h9)))
    · refine (run _).trans (congrArg Host.Outcome.next ((if_neg Bool.false_ne_true).trans ((if_pos h9).trans ?_)))
      rw [h9]
      rfl
  case sprout =>
    intro s hd
    dsimp only [exec, execSproutCheckin, execSproutCheckinMissed]
    exact ⟨guarded_of hd _ s, fun h => guarded_of (by simp [hd, h]) _ s⟩

end Sys2Proof.Machine

/-!
### Frames and records of the Garnet link (chapter 18)
-/

namespace Sys2Proof.Machine

theorem State.garnetAccept_foreign {h : GarnetHead} {kind code : Nat} {body : List Nat} (hs : garnetSpells h kind code body = false)
    (f : State → State) (s : State) : s.garnetAccept h kind code body f = s :=
  if_pos (by rw [hs]; rfl)

theorem State.garnetAccept_bad {h : GarnetHead} {kind code : Nat} {body : List Nat} (hs : garnetSpells h kind code body = true)
    (hok : garnetOk h body = false) (f : State → State) (s : State) : s.garnetAccept h kind code body f = s.askReplay 160 h.now :=
  (if_neg (by rw [hs]; exact Bool.false_ne_true)).trans (if_pos (by rw [hok]; rfl))

/-- A good frame that is not the next one was accepted before, or is ahead of its turn (R616). -/
theorem State.garnetAccept_other {h : GarnetHead} {kind code : Nat} {body : List Nat} {s : State} (hs : garnetSpells h kind code body = true)
    (hok : garnetOk h body = true) (hseq : garnetSeq h ≠ (s.trunk 160).es) (f : State → State) : s.garnetAccept h kind code body f =
      if ((s.trunk 160).es + 4096 - garnetSeq h) % 4096 ≤ 2048 then s else s.askReplay 160 h.now :=
  (if_neg (by rw [hs]; exact Bool.false_ne_true)).trans ((if_neg (by rw [hok]; exact Bool.false_ne_true)).trans (if_neg hseq))

theorem exec_recordFrame_empty {s : State} (hup : s.garnetUp = true) (h : GarnetHead) : exec (.recordFrame h []) s =
    .next (s.garnetAccept h 2 0 [] (fun s => if s.mirroring then s.each [] State.applyRecord else s)) :=
  checked_of rfl hup _ s

/-- Settles O43: every frame goes through `State.garnetAccept`, and acts only where it is the next one. -/
theorem twinFramesAndRecords : Obligations.TwinFramesAndRecords := by
  refine ⟨?beat, ?records, ?bad, ?otherTurn, ?ack, ?recallAsked⟩
  case beat =>
    intro h stamp n s hn
    have run := (guarded_of hn.1 _ s).trans (congrArg Host.Outcome.next (State.garnetAccept_next hn (fun s =>
      State.bump 0x9003 2 { s with twin := { s.twin with heartbeat := true, lastDelta := s.twin.deltaRecs, deltaRecs := [] } })))
    exact ⟨_, run, rfl, rfl, rfl, rfl, rfl, rfl, rfl, rfl⟩
  case records =>
    intro h records s hn hwf hlen
    dsimp only [exec, execRecordFrame]
    have run := (checked_of (s := s) (w := records.all recordWf && decide ((records.map (fun r => r.payload.length + 1)).sum ≤ 27))
      (by rw [List.all_eq_true.2 hwf, decide_eq_true hlen]; rfl) hn.1 _).trans
      (congrArg Host.Outcome.next (State.garnetAccept_next hn (fun s => if s.mirroring then s.each records State.applyRecord else s)))
    exact ⟨fun h => run.trans (congrArg Host.Outcome.next (if_pos h)),
      fun h => run.trans (congrArg Host.Outcome.next (if_neg (ne_true_of_eq_false h)))⟩
  case bad =>
    intro h stamp n s hup
    refine ⟨fun hs hok => ?_, fun hs hok => ?_, fun hs hok => ?_, fun hs => ?_⟩
    · exact (guarded_of hup _ s).trans (congrArg Host.Outcome.next (State.garnetAccept_bad hs hok _ s))
    · exact (exec_recordFrame_empty hup h).trans (congrArg Host.Outcome.next (State.garnetAccept_bad hs hok _ s))
    · exact (guarded_of hup _ s).trans (congrArg Host.Outcome.next (State.garnetAccept_bad hs hok _ s))
    · exact (guarded_of hup _ s).trans (congrArg Host.Outcome.next (State.garnetAccept_foreign hs _ s))
  case otherTurn =>
    intro h s hup hok hseq
    refine ⟨fun hpast => ⟨fun hs => ?_, fun hs => ?_⟩, fun hahead => ⟨fun hs => ?_, fun hs => ?_⟩⟩
    · exact (exec_recordFrame_empty hup h).trans (congrArg Host.Outcome.next ((State.garnetAccept_other hs hok hseq _).trans (if_pos hpast)))
    · exact (guarded_of hup _ s).trans (congrArg Host.Outcome.next ((State.garnetAccept_other hs hok hseq _).trans (if_pos hpast)))
    · exact (exec_recordFrame_empty hup h).trans
        (congrArg Host.Outcome.next ((State.garnetAccept_other hs hok hseq _).trans (if_neg (Nat.not_le.2 hahead))))
    · exact (guarded_of hup _ s).trans
        (congrArg Host.Outcome.next ((State.garnetAccept_other hs hok hseq _).trans (if_neg (Nat.not_le.2 hahead))))
  case ack =>
    intro ack s hup
    exact guarded_of hup _ s
  case recallAsked =>
    intro h bank set_ s hn
    dsimp only [exec, execRecallRequest]
    exact ⟨fun hm => (guarded_message hn _).trans (congrArg Host.Outcome.next (if_pos hm)),
      fun hm => (guarded_message hn _).trans (congrArg Host.Outcome.next (if_neg (ne_true_of_eq_false hm)))⟩

end Sys2Proof.Machine
